-- ==== Sys2Proof/Word.lean ====
section
/-!
DEFINITION. Words: bytes and the plain helpers over numbers, lists and fixed rows of like things.
-/
namespace Sys2Proof

/-- One byte. -/
abbrev Byte := BitVec 8

/-- The `i`-th of a fixed row of like things; the type's default beyond the end. -/
def vget {α : Type} [Inhabited α] {n : Nat} (v : Vector α n) (i : Nat) : α :=
  if h : i < n then v[i] else default

/-- The row with its `i`-th member changed; unchanged beyond the end. -/
def vupd {α : Type} {n : Nat} (v : Vector α n) (i : Nat) (f : α → α) : Vector α n :=
  if h : i < n then v.set i (f v[i]) else v

/-- Bit `i` of a mask. -/
def bit (m i : Nat) : Bool := m / 2 ^ i % 2 = 1

/-- A mask with bit `i` set to `b`. -/
def setBit (m i : Nat) (b : Bool) : Nat :=
  (m - (m / 2 ^ i % 2) * 2 ^ i) + (if b then 2 ^ i else 0)

/-- Number of one bits among the first `n`. -/
def popcount (n m : Nat) : Nat := (List.range n).foldl (fun c i => if bit m i then c + 1 else c) 0

/-- Bits `hi`–`lo` of a number. -/
def field (w hi lo : Nat) : Nat := w / 2 ^ lo % 2 ^ (hi - lo + 1)

/-- 1 or 0. -/
def b2n (b : Bool) : Nat := if b then 1 else 0

/-- Division rounded to nearest, ties away from zero. -/
def rdiv (a b : Int) : Int :=
  if b = 0 then 0
  else if 0 ≤ a * b then (2 * a.natAbs + b.natAbs : Nat) / (2 * b.natAbs : Nat)
  else - (((2 * a.natAbs + b.natAbs : Nat) / (2 * b.natAbs : Nat) : Nat) : Int)

/-- Division rounded up. -/
def cdiv (a b : Nat) : Nat := (a + b - 1) / b

/-- A value limited to `lo`–`hi`. -/
def limit (lo hi v : Int) : Int := if v < lo then lo else if hi < v then hi else v

end Sys2Proof
end

