-- ==== Sys2Proof/Syntax.lean ====
section
/-!
DEFINITION. Syntax: the commands of the block, one constructor per row of the spec's table of operations and events.
Every command's first operand `dt` is the time in nanoseconds that has passed since the previous command.
`m` is a master of R41, `n` a channel, link or connection, `g` a timing group, `k` a cluster (or an event source).
-/
namespace Sys2Proof

/-- How a register write reaches the dictionary: an SDO download (R44, R46) or a 32-bit control access (R51). -/
inductive Access
  | sdo (idx sub len raw : Nat)
  | cxp (addr : Nat) (word : BitVec 32)
  deriving DecidableEq, Repr, Inhabited

/-- The commands. -/
inductive Instr
  /-- R23: A write of 1 to the requested state 0x2000:02 takes the device to Bivouac, passing through Standby when it is Scanning or Paused. -/
  | requestBivouac (dt : Nat) (m : Fin 17)
  /-- R23: A write of 2 to 0x2000:02 wakes the device from Bivouac, or takes it from Scanning or Paused to Standby. -/
  | requestStandby (dt : Nat) (m : Fin 17)
  /-- R24: A write of 3 to 0x2000:02 runs the combination check and, if it passes, enters Scanning or resumes from Paused. -/
  | requestScanning (dt : Nat) (m : Fin 17)
  /-- R23: A write of 4 to 0x2000:02 pauses a scanning device at the next line boundary; from Bivouac or Standby it is refused. -/
  | requestPaused (dt : Nat) (m : Fin 17)
  /-- R23: A requested change to Paused or Standby, or the resumption of output, takes effect at the next line boundary. -/
  | stateChangeAtLineBoundary (dt : Nat)
  /-- R23: The Bivouac idle timeout 0x2000:05 expires in Standby and the device enters Bivouac. -/
  | bivouacIdleTimeout (dt : Nat)
  /-- R23: A fatal-class event takes the device from Scanning or Paused to Standby within 1 ms; pending requests are discarded and a gap marker covers the line in progress. -/
  | fatalClassStop (dt : Nat)
  /-- R369: The Bivouac entry sequence ends: links are suspended, rails 6 and 7 are off, DRAM is in self-refresh, and EV0677 is raised. -/
  | bivouacEntryComplete (dt : Nat)
  /-- R370: When every wake branch has ended, Standby is reached and EV0678 is raised. -/
  | wakeComplete (dt : Nat)
  /-- R362: The first rise of VDD_AON starts the always-on domain and the crystal. -/
  | coldStart (dt : Nat)
  /-- R362: nRESET held low for at least 1 µs makes a warm start. -/
  | nreset (dt : Nat) (low written : Nat)
  /-- R362: Watchdog expiry makes a warm start, and EV0994 is raised in the following Trailhead. -/
  | watchdogRestart (dt : Nat) (written : Nat)
  /-- R363: The power-on filter releases 2.0 ms after a valid VDD_AON; PEN of the first connection is asserted and the rail sequence begins. -/
  | powerOnFilterRelease (dt : Nat) (bootSel : Bool) (present : BitVec 16)
  /-- R360: RAIL_PG confirms one rail step, and the next step is enabled. -/
  | railStepPowerGood (dt : Nat)
  /-- R361: A rail step's power-good does not arrive within its bound, or falls for 100 µs; the rails are switched off and the sequence retried or halted. -/
  | railFault (dt : Nat) (step : Fin 7) (fell : Bool)
  /-- R363: At 12.0 ms the core die is released and the control processor boots from ROM. -/
  | coreRelease (dt : Nat)
  /-- R363: At 14.0 ms the EtherCAT ports open and encoder counting starts from zero. -/
  | ethercatPortsOpen (dt : Nat)
  /-- R363: At 20.0 ms the boot responder begins answering CoaXPress discovery. -/
  | bootResponderStart (dt : Nat) (locked : BitVec 16)
  /-- R364: At 40 ms the firmware bank is chosen by BOOT_SEL, the journal and header checks, or the boot halts. -/
  | bankSelect (dt : Nat) (goodA goodB journal : Bool)
  /-- R365: The sequencers, link micro-engines, Lantern engines and auxiliary microcode are reloaded and checked against their CRC-32. -/
  | subprocessorReload (dt : Nat) (first second : BitVec 5)
  /-- R363: Trailhead completes and the device is Ready in Bivouac; the boot summary is raised. -/
  | ready (dt : Nat)
  /-- R35: A write to an entry with no row of its own is range-checked, clamped or refused, and acts when its Takes effect column states. -/
  | registerWrite (dt : Nat) (m : Fin 17) (a : Access)
  /-- R47: An SDO complete-access read returns every covered subindex as it stood at one grant. -/
  | completeAccessRead (dt : Nat) (idx : Nat) (from0 : Bool)
  /-- R47: An SDO complete-access write checks every subindex and writes all of them together or none. -/
  | completeAccessWrite (dt : Nat) (idx : Nat) (from0 : Bool) (vals : List Int)
  /-- R54: A read of the low word of a 64-bit entry snapshots the whole value into the master's read shadow. -/
  | wideLowWordRead (dt : Nat) (l : Fin 16) (addr : Nat)
  /-- R54: A read of the high word returns the shadowed high half, or the live one. -/
  | wideHighWordRead (dt : Nat) (l : Fin 16) (addr : Nat)
  /-- R55: A write of the low word of a 64-bit entry places it in the master's write buffer. -/
  | wideLowWordWrite (dt : Nat) (l : Fin 16) (addr : Nat) (w : BitVec 32)
  /-- R55: A write of the high word joins the buffered half and commits the whole value, or is refused with code 9. -/
  | wideHighWordWrite (dt : Nat) (l : Fin 16) (addr : Nat) (w : BitVec 32)
  /-- R64: A read of a result object's status copies its values into the result shadow and clears the master's fresh bit. -/
  | resultStatusRead (dt : Nat) (m : Fin 17) (obj : Nat)
  /-- R53: A control access not answered within 10 ms is given the standard's wait acknowledgement, repeated until the final acknowledgement. -/
  | controlWaitAck (dt : Nat) (l : Fin 16)
  /-- R69: A write of "save" to 0x2100:01 takes all stored entries at one grant and starts writing them to the spare slot. -/
  | saveUserImage (dt : Nat) (m : Fin 17)
  /-- R69: The user-image save ends, and 0x2100:03 reports done or failed. -/
  | saveComplete (dt : Nat) (ok : Bool) (written : Nat)
  /-- R69: A write of "load" to 0x2100:02 marks both user slots to be erased at the next start. -/
  | discardUserImage (dt : Nat) (m : Fin 17)
  /-- R70: A write to 0x2110:04 empties the clamp report. -/
  | clearClampReport (dt : Nat) (m : Fin 17)
  /-- R57: A write of mode 1 opens a bulk window for reading its target domain. -/
  | openReadWindow (dt : Nat) (m : Fin 17) (w : Fin 4)
  /-- R59: A write of mode 2 opens a bulk window for writing, unless another write window holds the domain. -/
  | openWriteWindow (dt : Nat) (m : Fin 17) (w : Fin 4)
  /-- R59: A write of mode 0 closes a window and commits a write window's content for its owning chapter's check. -/
  | closeWindow (dt : Nat) (m : Fin 17) (w : Fin 4)
  /-- R58: A data read through an open read window returns bytes at the offset and advances it. -/
  | windowDataRead (dt : Nat) (m : Fin 17) (w : Fin 4) (a n : Nat)
  /-- R486: A data write through an open write window extends the written content and advances the offset. -/
  | windowDataWrite (dt : Nat) (m : Fin 17) (w : Fin 4) (a : Nat) (bs : List Byte)
  /-- R59: A window without data access for 10 s is closed without commit, and EV0837 is raised. -/
  | windowTimeout (dt : Nat) (w : Fin 4)
  /-- R43: The master requests an EtherCAT state; the request is refused with 0x8001 before Ready and follows the standard afterwards. -/
  | ethercatStateRequest (dt : Nat) (goTo : Fin 5)
  /-- R49: A frame with a valid FCS commits the RxPDO values into 0x2030. -/
  | rxpdoCommit (dt : Nat) (fcsOk : Bool) (pos speed : BitVec 32) (job : BitVec 16)
  /-- R49: At Sync0 the TxPDO is latched, committed values take effect, and DC offset and press offset are measured. -/
  | sync0Event (dt : Nat) (dcTime : BitVec 64)
  /-- R50: The SM2 watchdog expires in Op; the slave goes to Safe-Op, keeps 0x2030 and raises EV0838. -/
  | pdoWatchdogExpiry (dt : Nat)
  /-- R44: A mailbox request for an unsupported protocol is answered with the unsupported-protocol error. -/
  | mailboxUnsupported (dt : Nat) (protocol : Nat)
  /-- R413: An FoE write of KN6400.evsyn delivers an image's blocks to the update function. -/
  | foeWriteRequest (dt : Nat) (name bs : List Byte)
  /-- R413: An FoE read request is answered with error 0x8002 access denied. -/
  | foeReadRequest (dt : Nat) (name : List Byte)
  /-- R82: A write to 0x2050:03 makes a trigger at its grant time for every running group. -/
  | softwareTrigger (dt : Nat) (m : Fin 17)
  /-- R83: A group starts an exposure cycle at the first pixel-clock edge at or after the trigger time plus 20 ns, or at the end of a busy cycle. -/
  | exposureCycleStart (dt : Nat) (g : Fin 16)
  /-- R80: An exposure cycle ends; a latched trigger or a self-timed plane starts the next cycle on that edge. -/
  | exposureCycleEnd (dt : Nat) (g : Fin 16)
  /-- R91: A write of 1 to a channel's service request takes it out of service at its group's next exposure cycle start. -/
  | serviceRequestOut (dt : Nat) (m : Fin 17) (n : Fin 64)
  /-- R91: A write of 0 to a channel's service request starts biasing; the status becomes Returning. -/
  | serviceRequestReturn (dt : Nat) (m : Fin 17) (n : Fin 64)
  /-- R91: At the cycle start after a departure request, the channel's status becomes 1 and its front end powers down. -/
  | channelLeavesService (dt : Nat) (n : Fin 64)
  /-- R91: At the first group cycle at least 80 µs after the return grant, the channel re-enters in status Warming and EV(4n+3) is raised. -/
  | channelReentry (dt : Nat) (n : Fin 64)
  /-- R91: After 4 warming cycles the channel's status becomes In service. -/
  | warmingEnd (dt : Nat) (n : Fin 64)
  /-- R226: At sample 0 of a cycle the lane checks line-queue credit and opens a channel-line frame, or records an overrun. -/
  | channelLineStart (dt : Nat) (n : Fin 64) (bad : List Nat)
  /-- R106: At the end of a channel line's black pixels the signal check runs and the black-level loop updates. -/
  | blackPixelsEnd (dt : Nat) (n : Fin 64) (codes : List Int)
  /-- R107: At the next cycle start after a failed check, the channel's status becomes 2 and it is filled. -/
  | channelSignalLost (dt : Nat) (n : Fin 64)
  /-- R108: After the set number of consecutive passing lines the channel becomes Returning, as a return grant. -/
  | signalAutoRecovery (dt : Nat) (n : Fin 64)
  /-- R226: The line record is written and the channel-line frame closes. -/
  | channelLineEnd (dt : Nat) (n : Fin 64) (codes : List Int)
  /-- R109: At the end of each result period a channel's black-level result is published. -/
  | blackLevelResult (dt : Nat) (n : Fin 64)
  /-- R120: A thermistor's newest result passes the staleness limit; its segments are recomputed or held. -/
  | thermistorStale (dt : Nat) (k : Fin 16)
  /-- R127: A write to 0x4000:02 swaps the banks at grant, or holds the shadow for a swap at the next qualifying trigger. -/
  | swapRequest (dt : Nat) (m : Fin 17)
  /-- R131: A write to 0x4000:08 starts copying the active bank into the shadow. -/
  | copyActiveToShadow (dt : Nat) (m : Fin 17)
  /-- R131: The bank copy ends and releases the shadow. -/
  | copyComplete (dt : Nat)
  /-- R131: A write to 0x4000:09 empties the shadow bank. -/
  | clearShadow (dt : Nat) (m : Fin 17)
  /-- R130: A write to 0x4003 replaces a plane scale in the active bank's header from the next cycle of that plane. -/
  | setActivePlaneScale (dt : Nat) (m : Fin 17) (p : Fin 4) (v : Nat)
  /-- R132: A write of 1 to 0x4030:01 starts a dark capture into the shadow bank. -/
  | startDarkCapture (dt : Nat) (m : Fin 17)
  /-- R132: A write of 2 to 0x4030:01 starts a white capture into the shadow bank. -/
  | startWhiteCapture (dt : Nat) (m : Fin 17)
  /-- R132: A write of 3 to 0x4030:01 starts a dark capture followed by a white capture. -/
  | startDarkWhiteCapture (dt : Nat) (m : Fin 17)
  /-- R132: The capture generator self-times a line cycle at the capture line rate. -/
  | captureLineCycle (dt : Nat)
  /-- R133: The capture's base copy or identity fill ends and the dark or white phase begins. -/
  | captureBaseDone (dt : Nat)
  /-- R133: The settle count of line cycles ends and averaging begins. -/
  | captureSettleDone (dt : Nat)
  /-- R133: N line cycles are averaged and the table computation begins. -/
  | captureAveragingDone (dt : Nat)
  /-- R133: The Canteen's lamp grant arrives and the white phase strobes the capture recipe's planes. -/
  | captureLampGrant (dt : Nat)
  /-- R133: No lamp grant within 100 ms; the capture fails with result 6. -/
  | captureLampGrantTimeout (dt : Nat)
  /-- R133: The capture's tables are computed; the shadow becomes ready or invalid and EV0840 or EV0841 is raised. -/
  | captureComputeDone (dt : Nat)
  /-- R134: A write to 0x4030:02 aborts a running capture at the next line-cycle boundary. -/
  | abortCapture (dt : Nat) (m : Fin 17)
  /-- R144: A write of k to 0x4200:03 starts measuring basis set k. -/
  | startMeasurement (dt : Nat) (m : Fin 17) (k : Fin 8)
  /-- R144: The dark average or one table's settle and average of a basis measurement ends and the next phase begins. -/
  | measurementPhaseDone (dt : Nat)
  /-- R144: The basis measurement's result is computed and the set is replaced or kept, raising EV0850 or EV0851. -/
  | measurementComplete (dt : Nat)
  /-- R144: A write to 0x4200:04 ends the measurement at the next line-cycle boundary with status 8. -/
  | abortMeasurement (dt : Nat) (m : Fin 17)
  /-- R146: A write to 0x4200:06 imports a captured plane into a basis set as a table. -/
  | importCapturePlane (dt : Nat) (m : Fin 17) (v : Nat)
  /-- R146: The import's responses are computed and the set is written to NOR. -/
  | importComplete (dt : Nat)
  /-- R143: An accepted basis set's NOR write ends and its state becomes valid. -/
  | basisNorWriteDone (dt : Nat) (k : Fin 8)
  /-- R143: One basis set finishes loading from NOR into DRAM after Trailhead, or is lost with EV0853. -/
  | basisSetLoadDone (dt : Nat) (k : Fin 8) (good : Bool)
  /-- R154: A write to 0x4210:07 arms a recipe switch and requests the Canteen grant for the blend. -/
  | armSwitch (dt : Nat) (m : Fin 17)
  /-- R160: A write to 0x4210:08 cancels an armed switch whose trigger is not yet fixed. -/
  | disarmSwitch (dt : Nat) (m : Fin 17)
  /-- R155: A write to 0x4210:09 meets the switch condition of an armed software switch. -/
  | switchNow (dt : Nat) (m : Fin 17)
  /-- R153: Once the set is valid and the Canteen grants it, the blend engine starts building the recipe into the shadow. -/
  | blendStart (dt : Nat)
  /-- R151: The blend ends; the shadow becomes ready, or invalid with EV0848. -/
  | blendComplete (dt : Nat)
  /-- R156: At the switch trigger every group changes bank, planes and lamps to the new recipe, and EV0845 is raised. -/
  | recipeSwitch (dt : Nat)
  /-- R159: At the first entry to Standby the startup recipe is blended and switched in once its set is valid and the shadow is free. -/
  | startupBuild (dt : Nat)
  /-- R173: Ridgeline produces an output line once every candidate in it is decided, with flags and fill. -/
  | outputLineProduced (dt : Nat) (bad : List (Nat × Nat))
  /-- R181: A 1,024-line guy-line window closes, updates the seam targets and publishes a result. -/
  | guylineWindowEnd (dt : Nat)
  /-- R182: Every 64 output lines each seam's applied shift or stretch moves one step toward its target. -/
  | guylineSlewStep (dt : Nat)
  /-- R182: 1,024 lines after a channel's re-entry, its seams' freeze ends. -/
  | seamFreezeEnd (dt : Nat)
  /-- R182: A write to 0x4443:07 sets the guy-line targets to 0, and in Standby also the applied values. -/
  | resetEstimates (dt : Nat) (m : Fin 17)
  /-- R193: A filtered A or B edge is counted and timestamped, and may make a divider trigger. -/
  | encoderEdge (dt : Nat) (a b : Bool)
  /-- R193: 1 ms without an illegal transition ends the run. -/
  | illegalRunEnd (dt : Nat)
  /-- R194: An index edge latches position and time, checks the revolution count, and applies a pending zero. -/
  | encoderZEdge (dt : Nat)
  /-- R194: A write to 0x4801:05 sets the zero offset at the next Z edge. -/
  | zeroAtNextZ (dt : Nat) (m : Fin 17)
  /-- R195: An encoder pair open or shorted for 2 µs stops counting or Z latching and raises EV0577. -/
  | encoderLineOpen (dt : Nat) (pair : Fin 3)
  /-- R195: 100 µs of valid input restores the pair; inline, a gap marker of unknown count and EV0587 follow. -/
  | encoderLineRestored (dt : Nat) (pair : Fin 3)
  /-- R196: Encoder speed differs from the press speed beyond tolerance for 100 ms; EV0585 is raised. -/
  | pressSpeedMismatch (dt : Nat)
  /-- R196: The encoder speed over 1 ms exceeds the maximum press speed; EV0586 is raised. -/
  | pressOverspeed (dt : Nat)
  /-- R191: No count edge within t_stop; the position is final and the transport is treated as stopped. -/
  | transportStopTimeout (dt : Nat)
  /-- R198: A STEP edge reaching the next trigger point makes a paced line trigger. -/
  | pacedGeneratorTrigger (dt : Nat)
  /-- R202: Every 10 µs the jerk-limited move profile is recomputed and STEP edges are scheduled. -/
  | profileUpdate (dt : Nat)
  /-- R203: Every 100 µs the pacing master evaluates fill and drain and sets the table speed, a stop or a restart. -/
  | pacingPeriod (dt : Nat)
  /-- R205: The table comes to rest after a stop and begins backing. -/
  | decelerationDone (dt : Nat)
  /-- R205: The table reaches the peg minus the run-up and is held, or a pending restart begins. -/
  | backingDone (dt : Nat)
  /-- R207: MFLT becomes active; STEP stops at once, MEN is released, the device is Paused and EV0582 is raised. -/
  | motorFault (dt : Nat)
  /-- R201: MEN is released the hold time after the table comes to rest. -/
  | motorEnableHoldExpiry (dt : Nat)
  /-- R212: The Casby receiver aligns to K28.5 and locks, correcting a P/N swap. -/
  | casbyPortLock (dt : Nat) (inverted : Bool)
  /-- R212: No valid signal for 2 ms, or a dwell expiry, makes the port try the other pair assignment. -/
  | casbyPairSwapTry (dt : Nat)
  /-- R215: No time frame for 10 ms after lock; the device enters electing and sends election frames. -/
  | casbyElectionStart (dt : Nat)
  /-- R215: An electing device sends its election frame every 1 ms. -/
  | casbyElectionSend (dt : Nat)
  /-- R215: A received election frame is compared and forwarded or dropped; a returning own frame wins the election. -/
  | casbyElectionFrame (dt : Nat) (symbols : Bool) (bs : List Byte)
  /-- R214: The master sends a time frame every 100 µs. -/
  | casbyTimeSend (dt : Nat)
  /-- R216: A follower measures its Compass offset from a time frame and steps or slews. -/
  | casbyTimeFrame (dt : Nat) (symbols : Bool) (bs : List Byte)
  /-- R217: A trigger frame gives followers a trigger at its execution time, or reveals missed trigger numbers. -/
  | casbyTriggerFrame (dt : Nat) (symbols : Bool) (bs : List Byte)
  /-- R218: A job switch frame meets an armed Casby switch condition or is dropped as unmatched. -/
  | casbyJobSwitchFrame (dt : Nat) (symbols : Bool) (bs : List Byte)
  /-- R218: An activation frame's ID is passed once to the firmware update function. -/
  | casbyActivationFrame (dt : Nat) (symbols : Bool) (bs : List Byte)
  /-- R214: Every device sends a heartbeat frame every 1 ms. -/
  | casbyHeartbeatSend (dt : Nat)
  /-- R203: A received heartbeat records a peer's state, fill and drain for pacing. -/
  | casbyHeartbeatFrame (dt : Nat) (symbols : Bool) (bs : List Byte)
  /-- R219: A follower without time frames for 300 µs enters ring open and raises EV0601. -/
  | casbyRingOpen (dt : Nat)
  /-- R219: A known peer's heartbeat is missing for 3 ms; EV0607 is raised. -/
  | casbyPeerLost (dt : Nat) (p : Fin 8)
  /-- R218: A write to 0x4880:12 on the master sends a job switch frame naming the trigger two numbers ahead. -/
  | sendJobSwitch (dt : Nat) (m : Fin 17) (job : Nat)
  /-- R240: A write to 0x5606:01 resets the line-queue and egress peak values. -/
  | clearPeaks (dt : Nat) (m : Fin 17)
  /-- R240: A write to 0x5607:03 clears the overrun and level bit masks. -/
  | clearChannelBits (dt : Nat) (m : Fin 17)
  /-- R233: Freed egress blocks admit a waiting control response, marker or paced line. -/
  | egressSpaceFreed (dt : Nat) (k : Fin 8)
  /-- R235: A link finishes a packet, frees its blocks and takes the next eligible packet by class. -/
  | packetTransmitEnd (dt : Nat) (n : Fin 16) (parityBad : Bool)
  /-- R237: Bit 2 of a flush request discards the cluster's queued class-2 packets at the next packet boundary. -/
  | flushImageLines (dt : Nat) (m : Fin 17) (k : Fin 8)
  /-- R237: Bit 3 of a flush request discards the cluster's queued class-3 packets at the next packet boundary. -/
  | flushStatistics (dt : Nat) (m : Fin 17) (k : Fin 8)
  /-- R237: The last marked packet is freed; the flush is complete and EV0296+k is raised. -/
  | flushComplete (dt : Nat) (k : Fin 8)
  /-- R260: A write to a ring's doorbell latches its kick bit and wakes a parked ring. -/
  | doorbell (dt : Nat) (m : Fin 17) (k : Fin 8) (r : Fin 3)
  /-- R257: A chain finishes its lines, is written back, the head advances and the ring fetches again. -/
  | chainComplete (dt : Nat) (k : Fin 8) (r : Fin 4)
  /-- R259: A write to 0x5440+k:0D–0F stops a ring at the next descriptor boundary and parks it. -/
  | stopRing (dt : Nat) (m : Fin 17) (k : Fin 8) (r : Fin 3)
  /-- R266: A write to 0x5440+k:1A–1C sets a parked or off ring's head to 0. -/
  | resetHead (dt : Nat) (m : Fin 17) (k : Fin 8) (r : Fin 3)
  /-- R263: Bit 0 of 0x5460:06 starts a compatibility transfer at the next compatibility line. -/
  | startCompatTransfer (dt : Nat) (m : Fin 17)
  /-- R263: Bit 2 of 0x5460:06 clears repeat so the running transfer is the last. -/
  | stopCompatTransfer (dt : Nat) (m : Fin 17)
  /-- R264: After the last line engine 1 sends the CRC packet, and EV0328 is raised or the next repeat starts. -/
  | compatTransferComplete (dt : Nat)
  /-- R269: A CoaXPress discovery request is answered at 1.25 Gbit/s. -/
  | discoveryRequest (dt : Nat) (n : Fin 16)
  /-- R272: A ConnectionConfig write on the group's master connection sets speed and connection count, or is refused. -/
  | connectionConfig (dt : Nat) (n : Fin 16) (speed count : Nat)
  /-- R272: A link named by ConnectionConfig completes training within 3 ms. -/
  | linkTrained (dt : Nat) (n : Fin 16)
  /-- R269: A test-mode write is accepted in Standby only. -/
  | testModeWrite (dt : Nat) (n : Fin 16) (on : Bool)
  /-- R273: A control command on a suspended link's uplink resumes its downlink and is answered. -/
  | linkWakeByCommand (dt : Nat) (n : Fin 16)
  /-- R273: In Bivouac a woken link suspends again after 1 s without a command. -/
  | linkResuspend (dt : Nat) (n : Fin 16)
  /-- R284: A rising-edge CoaXPress trigger packet is a software trigger, or is dropped and counted. -/
  | triggerPacket (dt : Nat) (n : Fin 16) (rising : Bool) (delay : Nat)
  /-- R285: A link is declared lost; its packet is resent, R31 is evaluated and EV(0384+4n) is raised. -/
  | linkLoss (dt : Nat) (n : Fin 16)
  /-- R288: A lost link relocks and is trained; it joins at the next line and EV(0385+4n) is raised. -/
  | linkReturn (dt : Nat) (n : Fin 16)
  /-- R291: An uplink packet with a bad CRC is dropped, counted and raises EV(0387+4n). -/
  | uplinkPacketError (dt : Nat) (n : Fin 16)
  /-- R303: At a string's check point its current and voltage are averaged and it is classed. -/
  | stringCheck (dt : Nat) (i : Fin 32) (current volts : Nat)
  /-- R303: The 3.6 A limit acts in 3 consecutive switching periods; the string is classed overcurrent at once. -/
  | lampOvercurrent (dt : Nat) (i : Fin 32)
  /-- R306: A write to 0x4C10+j:0B clears a group off by fault or temperature. -/
  | clearGroup (dt : Nat) (m : Fin 17) (j : Fin 8)
  /-- R307: V_b falls to the bulk floor during a strobe; every lit strobe ends and EV0504 is raised. -/
  | bulkFloorReached (dt : Nat)
  /-- R307: 10 ms above the floor plus 1.0 V ends the bulk excursion. -/
  | bulkFloorClear (dt : Nat) (vb : Nat)
  /-- R308: Every 1 ms the lamp input power and each group's share are reported. -/
  | lampPowerReport (dt : Nat) (vb : Nat) (out : List Nat)
  /-- R314: At each frame start the pixels are composed, corrected, scaled, shifted and latched. -/
  | lanternFrame (dt : Nat) (differs : Bool)
  /-- R316: A write to 0x4E00:0F starts a chain probe. -/
  | lanternProbeNow (dt : Nat) (m : Fin 17)
  /-- R317: Every 250 ms, while dark or broken, a chain probe is started. -/
  | lanternPeriodicProbe (dt : Nat)
  /-- R316: A probe's measured length sets the lantern state to running, mismatch or broken. -/
  | lanternProbeComplete (dt : Nat) (count : Nat)
  /-- R318: A lantern output's read-back differs from its drive; outputs go high impedance and EV0514 is raised. -/
  | lanternOutputShort (dt : Nat)
  /-- R318: Every 1 s a shorted lantern is retried with a probe. -/
  | lanternShortRetry (dt : Nat)
  /-- R321: A write to an engine's start object starts it from τ = 0 at the next frame. -/
  | lanternEngineStart (dt : Nat) (m : Fin 17) (e : Fin 4)
  /-- R319: A write to an engine's stop object ends it at the next frame. -/
  | lanternEngineStop (dt : Nat) (m : Fin 17) (e : Fin 4)
  /-- R319: An engine's run time expires and it goes idle. -/
  | lanternEngineRunEnd (dt : Nat) (e : Fin 4)
  /-- R320: A write of a locate target maps an output pixel to a strip pixel and restarts the engine, or is refused. -/
  | locateTargetWrite (dt : Nat) (m : Fin 17) (e : Fin 4) (px : Nat)
  /-- R333: A sequence pass starts per the sequence mode, or from a latched trigger. -/
  | auxPassStart (dt : Nat)
  /-- R333: A write to 0x5000:03 in software mode starts, latches or drops a pass. -/
  | auxSoftwareTrigger (dt : Nat) (m : Fin 17)
  /-- R333: Each multiple of the trigger period starts, latches or drops a pass. -/
  | auxPeriodicTrigger (dt : Nat)
  /-- R334: A write to 0x5000:05, or a lamp fault, queues slots for urgent visits. -/
  | auxUrgentRequest (dt : Nat) (m : Fin 17) (mask : BitVec 32)
  /-- R332: A slot's visit routes the crosspoint, sets PGA and reference, and turns on pulsed excitation. -/
  | auxVisitStart (dt : Nat)
  /-- R332: At the gap's end the open-wire verdict is taken and the slot's result is linearised and published. -/
  | auxVisitEnd (dt : Nat) (raw : Int) (extreme excFault openFail : Bool) (held power refa : Nat)
  /-- R338: After 1 s the next visit retries the excitation and ends the fault if it passes. -/
  | auxExcitationRetry (dt : Nat) (q : Fin 32)
  /-- R336: BLANK stays active beyond its stuck limit; EV0561 is raised and the pin is ignored. -/
  | blankStuck (dt : Nat)
  /-- R343: In Bivouac each flagged slot is converted once per Bivouac period on the always-on path. -/
  | bivouacConversion (dt : Nat) (raw : Int) (extreme excFault openFail : Bool)
  /-- R344: No new result for the output's staleness limit applies its fail action. -/
  | aoStale (dt : Nat) (a : Fin 4)
  /-- R344: An output's read-back differs by 2 % for 1 ms; it goes high impedance and EV(0556+a) is raised. -/
  | aoShort (dt : Nat) (a : Fin 4)
  /-- R344: Every 1 s a shorted output is retried. -/
  | aoShortRetry (dt : Nat) (a : Fin 4) (holds : Bool)
  /-- R345: REFA outside 0.5–3.0 V for 1 ms raises EV0560 and flags REFA slots suspect. -/
  | refaOutOfRange (dt : Nat)
  /-- R345: 10 ms within range ends the REFA condition. -/
  | refaRestored (dt : Nat)
  /-- R354: A connection reads present for 20 ms and becomes Present. -/
  | connectionPresent (dt : Nat) (n : Fin 16)
  /-- R355: The device asserts PEN of the next present connection after the admission spacing. -/
  | connectionEnable (dt : Nat)
  /-- R354: 10 ms after PEN, the connection is admitted, or shed on overcurrent. -/
  | connectionAdmissionCheck (dt : Nat) (n : Fin 16) (current : Nat)
  /-- R354: 1 s after a shed, the connection is enabled again or admission is disabled. -/
  | connectionShedRetry (dt : Nat) (n : Fin 16)
  /-- R356: An admitted connection above I_lim for 10 ms raises EV(0656+n) with detail 1. -/
  | connectionOverload (dt : Nat) (n : Fin 16) (current : Nat)
  /-- R356: A connection above 1.25 × I_lim for 1 ms is shed and raises EV(0656+n) with detail 2. -/
  | connectionShed (dt : Nat) (n : Fin 16) (current : Nat)
  /-- R357: ISNS reads absent for 20 µs; PEN is released, the link is lost and a replacement may be enabled. -/
  | connectionPowerRemoved (dt : Nat) (n : Fin 16) (present : BitVec 16)
  /-- R352: ISNS stays at an invalid level for 1 ms; the connection enters sense fault. -/
  | connectionSenseFault (dt : Nat) (n : Fin 16)
  /-- R354: A write to 0x5880+n:04 disables admission, or re-enables a connection from state 5. -/
  | admissionEnableWrite (dt : Nat) (m : Fin 17) (n : Fin 16) (v : Nat)
  /-- R359: VAUX_REV rises; VAUX_EN is released within 10 µs and EV0672 is raised. -/
  | vauxReversed (dt : Nat)
  /-- R359: The auxiliary input leaves 19.2–30.0 V; it is released and EV0673 is raised. -/
  | vauxOutOfRange (dt : Nat) (mv : Nat)
  /-- R359: After 100 ms in range and with the device Ready, the auxiliary input is admitted. -/
  | vauxQualified (dt : Nat)
  /-- R377: Every 1 ms the Canteen updates the account and thermal state, plans grants and publishes caps and events. -/
  | canteenTick (dt : Nat) (vb : Nat) (currents : List Nat) (dies : List Int) (invalid : BitVec 16)
  /-- R377: A higher grant is allowed at every tick for the restore hold and rises. -/
  | grantRestoreHoldExpiry (dt : Nat)
  /-- R382: V_b below the floor for 10 ticks, or a thermal shutdown, withdraws the lamp grant and raises EV0648. -/
  | lampGrantWithdrawn (dt : Nat)
  /-- R384: Consumption above P_L + P_X for 10 ticks raises EV0647. -/
  | consumptionAboveBudget (dt : Nat)
  /-- R385: 100 ms after a thermal shutdown with a sensor still at 105 °C the Canteen requests Bivouac. -/
  | thermalBivouacRequest (dt : Nat)
  /-- R398: A write of a cluster mask to 0x2400:03 requests ordinary trims. -/
  | requestTrim (dt : Nat) (m : Fin 17) (mask : Nat)
  /-- R401: The Canteen starts a pending trim in a quiet window, or a forced one at the next tick. -/
  | selfTrimStart (dt : Nat)
  /-- R402: A cluster's trim ends; it passes or fails and its channels rejoin. -/
  | selfTrimEnd (dt : Nat) (bad : BitVec 8)
  /-- R403: A granted Bivouac request, fatal event or nRESET abandons a running trim within 100 µs. -/
  | selfTrimAbandoned (dt : Nat)
  /-- R402: The retry interval after a failed trim expires and the request is made again. -/
  | selfTrimRetry (dt : Nat) (k : Fin 8)
  /-- R404: The trim record of a passed trim is written to NOR, or EV0826 is raised. -/
  | trimRecordWritten (dt : Nat) (k : Fin 8) (ok : Bool)
  /-- R412: An image's block 0 is checked and starts, reclaims or is refused for an update session. -/
  | updateBlockZero (dt : Nat) (m : Fin 17) (w : Fin 4) (bs : List Byte)
  /-- R414: A later image block at the next offset is taken into the staging buffer. -/
  | updateBlock (dt : Nat) (m : Fin 17) (w : Fin 4) (a : Nat) (bs : List Byte)
  /-- R414: Buffered blocks are written to NOR and each 64 KiB is journaled; the last completes delivery. -/
  | updateBlocksJournaled (dt : Nat) (ok : Bool)
  /-- R415: No block from the holder for 30 s interrupts the session and raises EV0771. -/
  | updateSessionSilence (dt : Nat)
  /-- R416: A write to 0x2200:0B aborts the update session within 100 ms. -/
  | abortUpdate (dt : Nat) (m : Fin 17)
  /-- R417: The body digest is checked and the delta's records are applied into the inactive bank. -/
  | updateApplyComplete (dt : Nat) (ok : Bool)
  /-- R417: The inactive bank is verified; the image is staged or the session fails. -/
  | updateVerifyComplete (dt : Nat) (manifest ok : Bool)
  /-- R419: A write of 1 to 0x2202:03 schedules the staged image at the activation time. -/
  | scheduleActivationLocal (dt : Nat) (m : Fin 17)
  /-- R419: A write of 2 to 0x2202:03 schedules the image and sends a Casby activation frame. -/
  | scheduleActivationCasby (dt : Nat) (m : Fin 17)
  /-- R420: A write to 0x2202:04 cancels a scheduled or deferred activation. -/
  | cancelSchedule (dt : Nat) (m : Fin 17)
  /-- R420: The activation time is reached; the unit switches if idle or defers. -/
  | activationTimeReached (dt : Nat)
  /-- R420: A deferred unit reaches an idle moment and switches. -/
  | deferredActivationIdle (dt : Nat)
  /-- R420: The deferral limit passes; the schedule is cancelled and EV0778 is raised. -/
  | activationExpired (dt : Nat)
  /-- R421: The staged bank is recorded as trial and the device makes a warm start into it. -/
  | bankSwitch (dt : Nat)
  /-- R423: A migration failure makes a warm start into the previous bank with start kind 4. -/
  | migrationFallback (dt : Nat)
  /-- R424: A write of "acpt" to 0x2206:02 schedules a switch into the migration-failed bank with defaults accepted. -/
  | acceptDefaults (dt : Nat) (m : Fin 17)
  /-- R424: A write of "quar" to 0x2206:04 erases the quarantined user image. -/
  | discardQuarantine (dt : Nat) (m : Fin 17)
  /-- R426: In a boot halt with no valid bank, a Bootstrap FoE write of a full image is written to bank A and started. -/
  | bootstrapImageWrite (dt : Nat) (bs : List Byte) (manifest ok : Bool)
  /-- R437: Each arbiter cycle stamps presented events with sequence and time, logs them and routes them. -/
  | eventStamp (dt : Nat)
  /-- R445: A queued CoE emergency is sent when the mailbox has room, oldest first. -/
  | emergencySend (dt : Nat)
  /-- R440: Each log entry is copied into the DRAM archive within 10 ms. -/
  | archiveCopy (dt : Nat)
  /-- R435: A write of 0 to a source's latch clears it. -/
  | latchClear (dt : Nat) (m : Fin 17) (k : Fin 1024)
  /-- R450: A write to 0x5C00:05 clears the latches of the selected classes. -/
  | clearLatchesByClass (dt : Nat) (m : Fin 17) (mask : Nat)
  /-- R451: A write to 0x5C00:06 raises a host source with the given detail. -/
  | raiseHostEvent (dt : Nat) (m : Fin 17) (v : BitVec 32)
  /-- R449: A pulse-mode general-purpose output's 10 ms pulse ends. -/
  | gpPulseEnd (dt : Nat) (p : Fin 16)
  /-- R453: A timing group output's read-back differs; the group's outputs go high impedance and EV(0920+g) is raised. -/
  | tgOutputShort (dt : Nat) (g : Fin 16)
  /-- R453: Every 100 ms a shorted group is driven again and resumes after 1 ms of matching read-back. -/
  | tgOutputRetry (dt : Nat) (g : Fin 16) (matched : Bool)
  /-- R354: ISNS returns to a valid level for 100 ms and a connection leaves sense fault for state 0 or 1. -/
  | senseFaultCleared (dt : Nat) (n : Fin 16) (present : Bool)
  /-- R354: A connection that is present, shed or admission-disabled reads absent and returns to state 0. -/
  | connectionPresenceLost (dt : Nat) (n : Fin 16)
  /-- R359: The auxiliary input comes into 19.2–30.0 V with VAUX_REV low, or is removed below 3.0 V, and enters qualifying or absent. -/
  | auxiliaryInputQualifying (dt : Nat) (mv : Nat)
  /-- R371: Every connection loses voltage, the bus and VDD_AON collapse, and the device goes unpowered until the next cold start. -/
  | lossOfPower (dt : Nat) (written : Nat)
  /-- R261: A host writes a descriptor word directly at a ring-memory address over CoaXPress, written through at grant or refused for ring 0. -/
  | ringMemoryWrite (dt : Nat) (n : Fin 16) (addr : Nat) (w : BitVec 32)
  /-- R276: The host sets StreamPacketSizeMax in the bootstrap area, and 0x5820:01 takes the new segment size. -/
  | streamPacketSizeWrite (dt : Nat) (n : Fin 16) (size : Nat)
  /-- R149: An accepted recipe's NOR write ends within 20 ms, and the recipe's status becomes stored. -/
  | recipeNorWriteDone (dt : Nat) (r : Fin 32)
  /-- R336: After a stuck BLANK pin has been inactive for 10 ms it is honoured again. -/
  | blankInputReleased (dt : Nat)
  /-- R197: Bits 3 and 5 of 0x4801:08 clear once their condition has been absent for 100 ms. -/
  | encoderStatusClear (dt : Nat)
  /-- R218: An activation frame is sent again 1 ms and 2 ms after the first send. -/
  | activationFrameRepeat (dt : Nat)
  deriving DecidableEq, Repr, Inhabited

end Sys2Proof
end

