-- ==== Sys2Proof/Decode.lean ====
section
/-!
DEFINITION. Decode: the spec's table gives its rows no bits (the block takes commands, not words), so no word spells a command.
-/
namespace Sys2Proof

/-- The command that a word of the table's bits spells: none. -/
def decodeTableWord (_nbits _w : Nat) : Option Instr := none

end Sys2Proof
end

