-- ==== Sys2Proof/Machine/Bits.lean ====
section
/-!
DEFINITION. Bytes: little-endian fields (R33), bit strings, the CRC-32 of R124, the CRC-16 of R65 and SHA-256.
-/
namespace Sys2Proof.Machine

/-- The `n` low bytes of a number, least significant first. -/
def le : Nat → Nat → List Byte
  | 0, _ => []
  | n + 1, v => BitVec.ofNat 8 v :: le n (v / 256)

/-- The number that bytes spell, least significant first. -/
def unle : List Byte → Nat
  | [] => 0
  | b :: r => b.toNat + 256 * unle r

/-- `n` bytes from offset `o`; zero bytes beyond the end. -/
def slice (bs : List Byte) (o n : Nat) : List Byte :=
  let t := (bs.drop o).take n
  t ++ List.replicate (n - t.length) 0

/-- The little-endian field of `n` bytes at offset `o`. -/
def fieldAt (bs : List Byte) (o n : Nat) : Nat := unle (slice bs o n)

/-- The same field as a signed number. -/
def sfieldAt (bs : List Byte) (o n : Nat) : Int :=
  let v := fieldAt bs o n
  if v < 2 ^ (8 * n - 1) then v else (v : Int) - 2 ^ (8 * n)

/-- A signed number as `n` bytes of two's complement. -/
def sle (n : Nat) (v : Int) : List Byte := le n (v % 2 ^ (8 * n)).toNat

/-- The bytes with `new` laid over them from offset `o` (`o` at most the length). -/
def overlay (bs : List Byte) (o : Nat) (new : List Byte) : List Byte := bs.take o ++ new ++ bs.drop (o + new.length)

/-- Zero bytes up to a multiple of 4. -/
def pad4 (bs : List Byte) : List Byte := bs ++ List.replicate ((4 - bs.length % 4) % 4) 0

/-- All bytes of a range are 0. -/
def allZero (bs : List Byte) (o n : Nat) : Bool := (slice bs o n).all (· = 0)

/-! ## Check words -/

/-- `n` shifts of the reflected CRC-32 register. -/
def crc32Shift : Nat → Nat → Nat
  | 0, c => c
  | n + 1, c => crc32Shift n (if c % 2 = 1 then (c / 2) ^^^ 0xEDB88320 else c / 2)

/-- One byte into the CRC-32 register. -/
def crc32Byte (c : Nat) (b : Byte) : Nat := crc32Shift 8 (c ^^^ b.toNat)

/-- The CRC-32 register over bytes. -/
def crc32Run (c : Nat) (bs : List Byte) : Nat := bs.foldl crc32Byte c

/-- R124: CRC-32, polynomial 0x04C1_1DB7 reflected, initial value 0xFFFF_FFFF, final XOR 0xFFFF_FFFF. -/
def crc32 (bs : List Byte) : Nat := crc32Run 0xFFFFFFFF bs ^^^ 0xFFFFFFFF

/-- `n` shifts of the CRC-16 register. -/
def crc16Shift : Nat → Nat → Nat
  | 0, c => c
  | n + 1, c => crc16Shift n (if c / 2 ^ 15 % 2 = 1 then (c * 2 % 2 ^ 16) ^^^ 0x1021 else c * 2 % 2 ^ 16)

/-- R65: CRC-16, polynomial 0x1021, initial value 0xFFFF, most significant bit first. -/
def crc16 (bs : List Byte) : Nat := bs.foldl (fun c b => crc16Shift 8 (c ^^^ (b.toNat * 256))) 0xFFFF

/-! ## Bit strings -/

/-- R250: `b`-bit values as one number, the first in the lowest bits. -/
def bitString (b : Nat) : List Nat → Nat
  | [] => 0
  | v :: r => v % 2 ^ b + 2 ^ b * bitString b r

/-- R250: values packed to `b` bits, the last byte padded with zero bits. -/
def packBits (b : Nat) (vs : List Nat) : List Byte := le (cdiv (b * vs.length) 8) (bitString b vs)

/-! ## SHA-256 (R364, R408, R417) -/

/-- 32-bit rotation to the right. -/
def rotr (n x : Nat) : Nat := (x >>> n ||| x <<< (32 - n)) % 2 ^ 32

/-- The round constants of SHA-256. -/
def shaK : List Nat := [
  0x428a2f98, 0x71374491, 0xb5c0fbcf, 0xe9b5dba5, 0x3956c25b, 0x59f111f1, 0x923f82a4, 0xab1c5ed5,
  0xd807aa98, 0x12835b01, 0x243185be, 0x550c7dc3, 0x72be5d74, 0x80deb1fe, 0x9bdc06a7, 0xc19bf174,
  0xe49b69c1, 0xefbe4786, 0x0fc19dc6, 0x240ca1cc, 0x2de92c6f, 0x4a7484aa, 0x5cb0a9dc, 0x76f988da,
  0x983e5152, 0xa831c66d, 0xb00327c8, 0xbf597fc7, 0xc6e00bf3, 0xd5a79147, 0x06ca6351, 0x14292967,
  0x27b70a85, 0x2e1b2138, 0x4d2c6dfc, 0x53380d13, 0x650a7354, 0x766a0abb, 0x81c2c92e, 0x92722c85,
  0xa2bfe8a1, 0xa81a664b, 0xc24b8b70, 0xc76c51a3, 0xd192e819, 0xd6990624, 0xf40e3585, 0x106aa070,
  0x19a4c116, 0x1e376c08, 0x2748774c, 0x34b0bcb5, 0x391c0cb3, 0x4ed8aa4a, 0x5b9cca4f, 0x682e6ff3,
  0x748f82ee, 0x78a5636f, 0x84c87814, 0x8cc70208, 0x90befffa, 0xa4506ceb, 0xbef9a3f7, 0xc67178f2]

/-- The message schedule, newest word first, extended by `n` words. -/
def shaExtend : Nat → List Nat → List Nat
  | 0, w => w
  | n + 1, w =>
    let a := w.getD 14 0
    let b := w.getD 1 0
    let s0 := rotr 7 a ^^^ rotr 18 a ^^^ a >>> 3
    let s1 := rotr 17 b ^^^ rotr 19 b ^^^ b >>> 10
    shaExtend n ((w.getD 15 0 + s0 + w.getD 6 0 + s1) % 2 ^ 32 :: w)

/-- One round. -/
def shaRound (h : List Nat) (kw : Nat × Nat) : List Nat :=
  let g := fun i => h.getD i 0
  let e := g 4
  let a := g 0
  let t1 := g 7 + (rotr 6 e ^^^ rotr 11 e ^^^ rotr 25 e) + ((e &&& g 5) ^^^ ((0xFFFFFFFF - e) &&& g 6)) + kw.1 + kw.2
  let t2 := (rotr 2 a ^^^ rotr 13 a ^^^ rotr 22 a) + ((a &&& g 1) ^^^ (a &&& g 2) ^^^ (g 1 &&& g 2))
  [(t1 + t2) % 2 ^ 32, a, g 1, g 2, (g 3 + t1) % 2 ^ 32, e, g 5, g 6]

/-- The big-endian number of bytes. -/
def unbe (bs : List Byte) : Nat := bs.foldl (fun a b => 256 * a + b.toNat) 0

/-- One 64-byte block into the hash. -/
def shaBlock (h : List Nat) (b : List Byte) : List Nat :=
  let w0 := (List.range 16).map (fun i => unbe (slice b (4 * i) 4))
  let w := (shaExtend 48 w0.reverse).reverse
  let h' := (shaK.zip w).foldl shaRound h
  (h.zip h').map (fun p => (p.1 + p.2) % 2 ^ 32)

/-- `n` blocks in turn. -/
def shaBlocks : Nat → List Nat → List Byte → List Nat
  | 0, h, _ => h
  | n + 1, h, bs => shaBlocks n (shaBlock h (bs.take 64)) (bs.drop 64)

/-- The SHA-256 digest of bytes, 32 bytes. -/
def sha256 (bs : List Byte) : List Byte :=
  let z := (119 - bs.length % 64) % 64
  let m := bs ++ [0x80] ++ List.replicate z 0 ++ (le 8 (8 * bs.length)).reverse
  let h := shaBlocks (m.length / 64)
    [0x6a09e667, 0xbb67ae85, 0x3c6ef372, 0xa54ff53a, 0x510e527f, 0x9b05688c, 0x1f83d9ab, 0x5be0cd19] m
  h.flatMap (fun x => (le 4 x).reverse)

end Sys2Proof.Machine
end

