-- ==== Sys2Proof/Config.lean ====
section
/-!
DEFINITION. Config: what one part fixes and the spec leaves open.
The `opaque` constants have no body: nothing can prove a value of them, so every statement holds whatever they are.
The plain numbers are the capacities that R2 gives the part.
-/
namespace Sys2Proof.Config

/-- R38: the vendor ID, from OTP; the spec gives no number (log 10). -/
opaque vendorIdBits : BitVec 32
/-- R38: the 64-bit unique ID, from OTP; the spec gives no number (log 10). -/
opaque uniqueIdBits : BitVec 64
/-- R38, R408: the settings format version of the running firmware (log 10). -/
opaque settingsFormatBits : BitVec 16

/-- R212: what the unique ID makes of the dwell of 2 to 4 ms; the spec gives no function (log 10). -/
opaque dwellBits : BitVec 32

/-- R340: the IEC 60584 reference functions of thermocouple curves 5, 6 and 7, m°C to nV; the spec gives no formula (log 10). -/
opaque thermoVolts : Nat → Int → Int
/-- R340: their inverses, nV to m°C (log 10). -/
opaque thermoTemp : Nat → Int → Int

/-- R408, R428: the version of the firmware the part is delivered with, and the settings format version of its manifest's
oldest source; the spec gives no number (log 10). -/
opaque deliveredVersion : BitVec 32
/-- R408, R422: the oldest settings format that firmware migrates from (log 10). -/
opaque deliveredOldest : BitVec 16
/-- R422: what a firmware's conversion makes of a record of settings format `f` for its own format `g`: index, subindex, length
and value, or nothing where it cannot read the record (log 10). -/
opaque convert : Nat → Nat → Nat × Nat × Nat × Nat → Option (Nat × Nat × Nat × Nat)
/-- R409, R410: the SHA-256 digest, the length and the bytes of that firmware's bank content (log 10). -/
opaque deliveredDigest : Nat → BitVec 8
opaque deliveredLength : BitVec 24
opaque deliveredByte : Nat → BitVec 8
/-- R404: the factory reference temperature of each cluster, held in Basecamp (log 10). -/
opaque factoryTemp : Nat → BitVec 16

/-- R65: the start block of a user image of a settings format and a generation, and the end block over its records; the spec
gives no byte layout (log 10). -/
opaque startBlock : Nat → Nat → List (BitVec 8)
opaque endBlock : List (BitVec 8) → List (BitVec 8)

/-- The vendor ID as a number. -/
def vendorId : Nat := vendorIdBits.toNat
/-- The unique ID as a number. -/
def uniqueId : Nat := uniqueIdBits.toNat
/-- The firmware's settings format version as a number. -/
def settingsFormat : Nat := settingsFormatBits.toNat

end Sys2Proof.Config
end

