-- ==== Sys2Proof/Machine/Dictionary.lean ====
section
/-!
DEFINITION. The object dictionary (R32 to R37): one row per entry of the spec's object tables, with its type, access,
default, range and clamp rule and the state in which it may be written.
A family is one index, or a row of equally spaced indices that share their rows.
-/
namespace Sys2Proof.Machine

/-- R33: the data types of entries. -/
inductive Ty
  | u8 | u16 | u32 | u64 | i8 | i16 | i32 | i64 | real32 | str | oct | dom
  deriving DecidableEq, Repr

/-- R34: the access column. -/
inductive Acc
  | ro | rw | wo
  deriving DecidableEq, Repr

/-- The Takes effect column as far as it decides when a write is accepted: R25 (Standby) and R38 (Pre-Op). -/
inductive When
  | always | standby | preOp
  deriving DecidableEq, Repr

/-- R35: the range of an entry together with its clamp rule. -/
inductive Range
  /-- Every value of the type; a value outside the type is refused. -/
  | any
  /-- Clamped into `lo`–`hi`; the listed points outside it are permitted too. -/
  | clamp (lo hi : Int) (points : List Int)
  /-- Clamp "none": refused outside the listed intervals. -/
  | only (ivs : List (Int × Int))
  /-- Reserved bits (outside the mask) cleared. -/
  | bits (mask : Nat)
  /-- To the next lower power of two within `lo`–`hi`. -/
  | pow2 (lo hi : Int)
  /-- Down to a multiple of 8 within `lo`–`hi`. -/
  | mult8 (lo hi : Int)
  /-- Down to the next listed value. -/
  | steps (l : List Int)
  deriving DecidableEq, Repr

/-- One row of an object table, for `subN` consecutive subindices from `sub`.
`dflt u i` is the default of the `i`-th of them in the `u`-th index of its family. -/
structure Row where
  sub : Nat
  subN : Nat
  ty : Ty
  acc : Acc
  when : When
  range : Range
  dflt : Nat → Nat → Int

/-- A family of indices `base + n × stride`, `n < count`, with the rows they share. -/
structure Family where
  base : Nat
  count : Nat
  stride : Nat
  rows : List Row

/-- A default that is one number. -/
abbrev Dflt.const (v : Int) : Nat → Nat → Int := fun _ _ => v

/-- A read-only row. -/
def ro (sub n : Nat) (ty : Ty) (d : Nat → Nat → Int) : Row := ⟨sub, n, ty, .ro, .always, .any, d⟩
/-- A read-write row. -/
def rw (sub n : Nat) (ty : Ty) (w : When) (r : Range) (d : Nat → Nat → Int) : Row := ⟨sub, n, ty, .rw, w, r, d⟩
/-- A write-only row (a command, R34). -/
def wo (sub n : Nat) (ty : Ty) (w : When) (r : Range) (d : Nat → Nat → Int) : Row := ⟨sub, n, ty, .wo, w, r, d⟩

/-! Defaults of the event sources. -/

/-- R431: the range number of source `k`. -/
def evRange (k : Nat) : Nat :=
  if k < 256 then 0 else if k < 384 then 1 else if k < 448 then 2 else 3 + (k - 448) / 64

/-- R436: every source is enabled except the channel trigger overruns. -/
def evEnable (k : Nat) : Nat := if k < 256 ∧ k % 4 = 1 then 0 else 1

/-- The sources that R436 names singly or in ranges as info. -/
def evInfo (k : Nat) : Bool :=
  decide (264 ≤ k ∧ k ≤ 279 ∨ 296 ≤ k ∧ k ≤ 311 ∨ 320 ≤ k ∧ k ≤ 328 ∨ 384 ≤ k ∧ k < 448 ∧ k % 4 = 1 ∨ 676 ≤ k ∧ k ≤ 678 ∨
    775 ≤ k ∧ k ≤ 777 ∨ 960 ≤ k ∧ k ≤ 991) ||
  [515, 583, 584, 600, 602, 640, 642, 644, 651, 769, 773, 779, 780, 832, 840, 842, 845, 850, 913].contains k

/-- The sources that R436 names as error. -/
def evError (k : Nat) : Bool :=
  decide (k < 256 ∧ k % 4 = 2 ∨ 280 ≤ k ∧ k ≤ 287 ∨ 384 ≤ k ∧ k < 448 ∧ k % 2 = 0 ∨ 448 ≤ k ∧ k ≤ 487 ∨
    496 ≤ k ∧ k ≤ 503 ∨ 816 ≤ k ∧ k ≤ 823 ∨ 920 ≤ k ∧ k ≤ 935) ||
  [581, 582, 641, 643, 647, 648, 672, 720, 774, 781, 783, 785, 786, 826, 838, 839, 841, 844, 848, 851, 853].contains k

/-- R436: the default class of source `k`. -/
def evClass (k : Nat) : Nat :=
  if k = 675 ∨ k = 721 then 3 else if evInfo k then 0 else if evError k then 2 else 1

/-- R436: the default route mask. -/
def evRoute (k : Nat) : Nat := if evClass k ≤ 1 then 0x06 else 0x0F

/-- R436: the default repeat mode. -/
def evRepeat (k : Nat) : Nat :=
  if 304 ≤ k ∧ k ≤ 311 ∨ k = 328 ∨ k = 640 ∨ k = 832 ∨ k = 842 ∨ k = 845 ∨ 960 ≤ k ∧ k ≤ 991 then 1 else 0


/-- R38: the rows of 0x1000. -/
def fam1000 : Family where
  base := 0x1000
  count := 1
  stride := 0x1
  rows := [
    ro 0x00 1 .u32 (Dflt.const 0)  -- Device type
  ]

/-- R450: the rows of 0x1001. -/
def fam1001 : Family where
  base := 0x1001
  count := 1
  stride := 0x1
  rows := [
    ro 0x00 1 .u8 (Dflt.const 0)  -- Error register
  ]

/-- R38: the rows of 0x1008. -/
def fam1008 : Family where
  base := 0x1008
  count := 1
  stride := 0x1
  rows := [
    ro 0x00 1 .str (Dflt.const 0)  -- Device name
  ]

/-- R38: the rows of 0x1009. -/
def fam1009 : Family where
  base := 0x1009
  count := 1
  stride := 0x1
  rows := [
    ro 0x00 1 .str (Dflt.const 0)  -- Hardware version
  ]

/-- R38: the rows of 0x100A. -/
def fam100A : Family where
  base := 0x100A
  count := 1
  stride := 0x1
  rows := [
    ro 0x00 1 .str (Dflt.const 0)  -- Firmware version
  ]

/-- R38: the rows of 0x1018. -/
def fam1018 : Family where
  base := 0x1018
  count := 1
  stride := 0x1
  rows := [
    ro 0x01 1 .u32 (fun _ _ => Config.vendorId),  -- Vendor ID
    ro 0x02 1 .u32 (Dflt.const 25600),  -- Product code
    ro 0x03 1 .u32 (Dflt.const 131072),  -- Revision
    ro 0x04 1 .u32 (fun _ _ => Config.uniqueId % 4294967296),  -- Serial number
    ro 0x05 1 .u64 (fun _ _ => Config.uniqueId)  -- Unique ID
  ]

/-- R38: the rows of 0x1600. -/
def fam1600 : Family where
  base := 0x1600
  count := 1
  stride := 0x1
  rows := [
    ro 0x01 3 .u32 (fun _ i => [0x20300120, 0x20300220, 0x20300310].getD i 0)  -- RxPDO mapping
  ]

/-- R38: the rows of 0x1A00. -/
def fam1A00 : Family where
  base := 0x1A00
  count := 1
  stride := 0x1
  rows := [
    ro 0x01 6 .u32 (fun _ i => [0x20310120, 0x20310210, 0x20310310, 0x20310408, 0x00000008, 0x20310520].getD i 0)  -- TxPDO mapping
  ]

/-- R38: the rows of 0x1C00. -/
def fam1C00 : Family where
  base := 0x1C00
  count := 1
  stride := 0x1
  rows := [
    ro 0x01 4 .u8 (fun _ i => i + 1)  -- Sync manager types
  ]

/-- R38: the rows of 0x1C12. -/
def fam1C12 : Family where
  base := 0x1C12
  count := 1
  stride := 0x1
  rows := [
    rw 0x01 1 .u16 .preOp (.only [(5632, 5632)]) (Dflt.const 5632)  -- RxPDO assign
  ]

/-- R38: the rows of 0x1C13. -/
def fam1C13 : Family where
  base := 0x1C13
  count := 1
  stride := 0x1
  rows := [
    rw 0x01 1 .u16 .preOp (.only [(6656, 6656)]) (Dflt.const 6656)  -- TxPDO assign
  ]

/-- R38: the rows of 0x1C32. -/
def fam1C32 : Family where
  base := 0x1C32
  count := 1
  stride := 0x1
  rows := [
    rw 0x01 1 .u16 .preOp (.only [(0, 0), (2, 2)]) (Dflt.const 2)  -- Output sync mode
  ]

/-- R38: the rows of 0x1C33. -/
def fam1C33 : Family where
  base := 0x1C33
  count := 1
  stride := 0x1
  rows := [
    rw 0x01 1 .u16 .preOp (.only [(0, 0), (2, 2)]) (Dflt.const 2)  -- Input sync mode
  ]

/-- R37: 0x1000–0x1FFF, communication objects. -/
def dictComm : List Family := [fam1000, fam1001, fam1008, fam1009, fam100A, fam1018, fam1600, fam1A00, fam1C00, fam1C12, fam1C13, fam1C32, fam1C33]

/-- R26: the rows of 0x2000. -/
def fam2000 : Family where
  base := 0x2000
  count := 1
  stride := 0x1
  rows := [
    ro 0x01 1 .u8 (Dflt.const 0),  -- Device state
    rw 0x02 1 .u8 .always (.only [(1, 4)]) (Dflt.const 1),  -- Requested state
    ro 0x03 1 .u16 (Dflt.const 0),  -- Cluster states
    rw 0x04 1 .u8 .standby (.only [(1, 255)]) (Dflt.const 255),  -- Clusters enabled
    rw 0x05 1 .u32 .always (.clamp 1000 86400000 [0]) (Dflt.const 0),  -- Bivouac idle timeout
    ro 0x06 1 .u64 (Dflt.const 0),  -- Compass time
    ro 0x07 1 .u32 (Dflt.const 0),  -- State transitions
    ro 0x10 1 .u8 (Dflt.const 0),  -- Check result
    ro 0x11 1 .u32 (Dflt.const 0),  -- Check required
    ro 0x12 1 .u32 (Dflt.const 0),  -- Check available
    ro 0x13 1 .u16 (Dflt.const 0)  -- Check subject
  ]

/-- R42: the rows of 0x2010. -/
def fam2010 : Family where
  base := 0x2010
  count := 1
  stride := 0x1
  rows := [
    ro 0x01 1 .u32 (Dflt.const 0),  -- Masters present
    ro 0x02 1 .u32 (Dflt.const 0),  -- Accesses granted
    ro 0x03 1 .u32 (Dflt.const 0),  -- Accesses refused
    ro 0x04 1 .u32 (Dflt.const 0)  -- Accesses clamped
  ]

/-- R42: the rows of 0x2014. -/
def fam2014 : Family where
  base := 0x2014
  count := 1
  stride := 0x1
  rows := [
    ro 0x01 17 .u32 (Dflt.const 0)  -- Last result of master 0–16
  ]

/-- R57: the rows of 0x2020 + n × 0x1, n < 4. -/
def fam2020 : Family where
  base := 0x2020
  count := 4
  stride := 0x1
  rows := [
    rw 0x01 1 .u32 .always .any (Dflt.const 0),  -- Target
    rw 0x02 1 .u32 .always .any (Dflt.const 0),  -- Offset
    ro 0x03 1 .u32 (Dflt.const 0),  -- Length
    rw 0x04 1 .u8 .always (.only [(0, 2)]) (Dflt.const 0),  -- Mode
    ro 0x05 1 .u8 (Dflt.const 0),  -- Status
    ro 0x06 1 .u8 (Dflt.const 255)  -- Owner
  ]

/-- R57: the rows of 0x2024 + n × 0x1, n < 4. -/
def fam2024 : Family where
  base := 0x2024
  count := 4
  stride := 0x1
  rows := [
    rw 0x01 1 .oct .always .any (Dflt.const 0)  -- Window data
  ]

/-- R48: the rows of 0x2030. -/
def fam2030 : Family where
  base := 0x2030
  count := 1
  stride := 0x1
  rows := [
    rw 0x01 1 .u32 .always .any (Dflt.const 0),  -- Press position
    rw 0x02 1 .i32 .always (.clamp (-20000000) 20000000 []) (Dflt.const 0),  -- Press speed
    rw 0x03 1 .u16 .always .any (Dflt.const 0)  -- Job number
  ]

/-- R48: the rows of 0x2031. -/
def fam2031 : Family where
  base := 0x2031
  count := 1
  stride := 0x1
  rows := [
    ro 0x01 1 .u32 (Dflt.const 0),  -- Line count
    ro 0x02 1 .u16 (Dflt.const 0),  -- Status word
    ro 0x03 1 .u16 (Dflt.const 0),  -- Active job
    ro 0x04 1 .u8 (Dflt.const 0),  -- Energy state
    ro 0x05 1 .u32 (Dflt.const 0)  -- Event summary
  ]

/-- R76: the rows of 0x2040 + n × 0x1, n < 16. -/
def fam2040 : Family where
  base := 0x2040
  count := 16
  stride := 0x1
  rows := [
    rw 0x01 1 .u8 .standby (.only [(0, 2)]) (Dflt.const 0),  -- Output enable
    rw 0x02 1 .u32 .always (.clamp 20000000 400000000 [0]) (Dflt.const 0),  -- Pixel clock requested
    ro 0x03 1 .u32 (Dflt.const 0),  -- Pixel clock actual
    rw 0x04 1 .u8 .always (.clamp 0 63 []) (Dflt.const 0),  -- Output delay
    rw 0x05 1 .u8 .always (.clamp 1 255 []) (Dflt.const 4),  -- Start pulse width
    rw 0x06 1 .u8 .standby (.bits 15) (Dflt.const 0),  -- Polarities
    rw 0x07 1 .u8 .standby (.only [(0, 2)]) (Dflt.const 0),  -- PH1 mode
    rw 0x08 1 .u16 .always .any (Dflt.const 0),  -- PH1 edge A
    rw 0x09 1 .u16 .always .any (Dflt.const 0),  -- PH1 edge B
    rw 0x0A 1 .u8 .standby (.only [(0, 2)]) (Dflt.const 0),  -- PH2 mode
    rw 0x0B 1 .u16 .always .any (Dflt.const 0),  -- PH2 edge A
    rw 0x0C 1 .u16 .always .any (Dflt.const 0),  -- PH2 edge B
    rw 0x0D 1 .u8 .standby (.only [(0, 1)]) (Dflt.const 0),  -- Readout lag
    rw 0x0E 1 .i32 .always (.clamp (-1000000) 1000000 []) (Dflt.const 0),  -- Integration centre offset
    ro 0x0F 1 .u16 (Dflt.const 568),  -- Cycle length L_g
    ro 0x10 1 .u32 (Dflt.const 0),  -- Maximum exposure rate
    ro 0x11 1 .u32 (Dflt.const 0),  -- Triggers latched
    ro 0x12 1 .u32 (Dflt.const 0),  -- Triggers dropped
    ro 0x13 1 .u32 (Dflt.const 0)  -- Exposure cycles
  ]

/-- R86: the rows of 0x2050. -/
def fam2050 : Family where
  base := 0x2050
  count := 1
  stride := 0x1
  rows := [
    rw 0x01 1 .u8 .standby (.only [(0, 4)]) (Dflt.const 1),  -- Trigger source
    rw 0x02 1 .u8 .standby (.only [(0, 1)]) (Dflt.const 0),  -- Trigger unit
    wo 0x03 1 .u8 .always (.only [(1, 1)]) (Dflt.const 0),  -- Software trigger
    ro 0x04 1 .u32 (Dflt.const 0),  -- Triggers received
    ro 0x05 1 .u32 (Dflt.const 0),  -- Line cycles started
    ro 0x06 1 .u64 (Dflt.const 0)  -- Last trigger time
  ]

/-- R86: the rows of 0x2051. -/
def fam2051 : Family where
  base := 0x2051
  count := 1
  stride := 0x1
  rows := [
    ro 0x00 1 .dom (Dflt.const 0)  -- Exposure record log
  ]

/-- R368: the rows of 0x2060. -/
def fam2060 : Family where
  base := 0x2060
  count := 1
  stride := 0x1
  rows := [
    ro 0x01 1 .u8 (Dflt.const 0),  -- Start kind
    ro 0x02 1 .u8 (Dflt.const 0),  -- Bank in use
    ro 0x03 1 .u8 (Dflt.const 0),  -- Bank choice reason
    ro 0x04 1 .u8 (Dflt.const 1),  -- Rail attempts
    ro 0x05 1 .u32 (Dflt.const 0),  -- Time to Ready
    ro 0x06 1 .u8 (Dflt.const 0),  -- First connection
    ro 0x07 1 .u16 (Dflt.const 0),  -- Events coalesced
    ro 0x08 1 .u16 (Dflt.const 0)  -- Reload results
  ]

/-- R68: the rows of 0x2100. -/
def fam2100 : Family where
  base := 0x2100
  count := 1
  stride := 0x1
  rows := [
    wo 0x01 1 .u32 .always (.only [(1702257011, 1702257011)]) (Dflt.const 0),  -- Save user image
    wo 0x02 1 .u32 .always (.only [(1684107116, 1684107116)]) (Dflt.const 0),  -- Discard user image
    ro 0x03 1 .u8 (Dflt.const 0),  -- Save status
    ro 0x04 1 .u8 (Dflt.const 0),  -- Image in use
    ro 0x05 1 .u32 (Dflt.const 0),  -- Generation in use
    ro 0x06 1 .u16 (Dflt.const 0),  -- Records applied
    ro 0x07 1 .u16 (fun _ _ => Config.settingsFormat)  -- Settings format version
  ]

/-- R68: the rows of 0x2110. -/
def fam2110 : Family where
  base := 0x2110
  count := 1
  stride := 0x1
  rows := [
    ro 0x01 1 .u32 (Dflt.const 0),  -- Clamps since start
    ro 0x02 1 .u16 (Dflt.const 0),  -- Entries held
    ro 0x03 1 .u32 (Dflt.const 0),  -- Entries lost
    wo 0x04 1 .u32 .always (.only [(1918985580, 1918985580)]) (Dflt.const 0)  -- Clear clamp report
  ]

/-- R68: the rows of 0x2111. -/
def fam2111 : Family where
  base := 0x2111
  count := 1
  stride := 0x1
  rows := [
    ro 0x00 1 .dom (Dflt.const 0)  -- Clamp report
  ]

/-- R37: 0x2000–0x21FF, device state, arbiter, windows, process data, layers. -/
def dictState : List Family := [fam2000, fam2010, fam2014, fam2020, fam2024, fam2030, fam2031, fam2040, fam2050, fam2051, fam2060, fam2100, fam2110, fam2111]

/-- R427: the rows of 0x2200. -/
def fam2200 : Family where
  base := 0x2200
  count := 1
  stride := 0x1
  rows := [
    ro 0x01 1 .u8 (Dflt.const 0),  -- Session state
    ro 0x02 1 .u8 (Dflt.const 255),  -- Holder
    ro 0x03 1 .u8 (Dflt.const 0),  -- Last header result
    ro 0x04 1 .u8 (Dflt.const 255),  -- Last header master
    ro 0x05 1 .u8 (Dflt.const 0),  -- Image kind
    ro 0x06 1 .u32 (Dflt.const 0),  -- Image version
    ro 0x07 1 .u32 (Dflt.const 0),  -- Next offset
    ro 0x08 1 .u32 (Dflt.const 0),  -- Container length
    ro 0x09 1 .u16 (Dflt.const 0),  -- Sectors done
    ro 0x0A 1 .u16 (Dflt.const 0),  -- Sectors total
    wo 0x0B 1 .u8 .always (.only [(1, 1)]) (Dflt.const 0),  -- Abort
    ro 0x0C 1 .u8 (Dflt.const 0)  -- Last failure
  ]

/-- R427: the rows of 0x2201. -/
def fam2201 : Family where
  base := 0x2201
  count := 1
  stride := 0x1
  rows := [
    wo 0x00 1 .dom .always .any (Dflt.const 0)  -- Staging domain
  ]

/-- R428: the rows of 0x2202. -/
def fam2202 : Family where
  base := 0x2202
  count := 1
  stride := 0x1
  rows := [
    rw 0x01 1 .u32 .always .any (Dflt.const 0),  -- Activation ID
    rw 0x02 1 .u64 .always .any (Dflt.const 0),  -- Activation time
    wo 0x03 1 .u8 .always (.only [(1, 2)]) (Dflt.const 0),  -- Schedule
    wo 0x04 1 .u8 .always (.only [(1, 1)]) (Dflt.const 0),  -- Cancel schedule
    rw 0x05 1 .u8 .always (.bits 7) (Dflt.const 1),  -- Idle conditions
    rw 0x06 1 .u32 .always (.clamp 0 604800 []) (Dflt.const 0),  -- Deferral limit
    rw 0x07 1 .u8 .always (.only [(0, 1)]) (Dflt.const 0),  -- Migration policy
    ro 0x08 1 .u64 (Dflt.const 0),  -- Deferred since
    ro 0x09 1 .u32 (Dflt.const 0)  -- Activations unmatched
  ]

/-- R428: the rows of 0x2203. -/
def fam2203 : Family where
  base := 0x2203
  count := 1
  stride := 0x1
  rows := [
    ro 0x01 2 .u8 (Dflt.const 0)  -- Bank b state
  ]

/-- R428: the rows of 0x2204. -/
def fam2204 : Family where
  base := 0x2204
  count := 1
  stride := 0x1
  rows := [
    ro 0x01 2 .u32 (Dflt.const 0)  -- Bank b version
  ]

/-- R428: the rows of 0x2205. -/
def fam2205 : Family where
  base := 0x2205
  count := 1
  stride := 0x1
  rows := [
    ro 0x01 2 .u16 (Dflt.const 0)  -- Bank b settings format
  ]

/-- R428: the rows of 0x2206. -/
def fam2206 : Family where
  base := 0x2206
  count := 1
  stride := 0x1
  rows := [
    ro 0x01 1 .u8 (Dflt.const 0),  -- Last migration result
    wo 0x02 1 .u32 .always (.only [(1953522529, 1953522529)]) (Dflt.const 0),  -- Accept defaults
    ro 0x03 1 .u8 (Dflt.const 0),  -- Quarantine present
    wo 0x04 1 .u32 .always (.only [(1918989681, 1918989681)]) (Dflt.const 0),  -- Discard quarantine
    ro 0x05 1 .u16 (Dflt.const 0)  -- Previous settings format
  ]

/-- R428: the rows of 0x2207. -/
def fam2207 : Family where
  base := 0x2207
  count := 1
  stride := 0x1
  rows := [
    ro 0x00 1 .dom (Dflt.const 0)  -- Quarantine content
  ]

/-- R405: the rows of 0x2400. -/
def fam2400 : Family where
  base := 0x2400
  count := 1
  stride := 0x1
  rows := [
    rw 0x01 1 .u8 .always (.only [(0, 1)]) (Dflt.const 1),  -- Automatic self-trim
    rw 0x02 1 .u16 .always (.clamp 32 320 []) (Dflt.const 96),  -- Set temperature movement ΔT_set
    wo 0x03 1 .u8 .always (.only [(1, 255)]) (Dflt.const 0),  -- Request trim
    ro 0x04 1 .u8 (Dflt.const 0),  -- Clusters passed
    ro 0x05 1 .u8 (Dflt.const 0),  -- Clusters failed
    ro 0x06 1 .u32 (Dflt.const 0),  -- Trims passed
    ro 0x07 1 .u32 (Dflt.const 0),  -- Trims forced
    ro 0x08 1 .u32 (Dflt.const 0),  -- Trims abandoned
    rw 0x09 1 .u16 .always (.clamp 10 3600 []) (Dflt.const 60)  -- Retry interval
  ]

/-- R405: the rows of 0x2401. -/
def fam2401 : Family where
  base := 0x2401
  count := 1
  stride := 0x1
  rows := [
    ro 0x01 8 .u8 (Dflt.const 0)  -- Trim state of CLk
  ]

/-- R405: the rows of 0x2402. -/
def fam2402 : Family where
  base := 0x2402
  count := 1
  stride := 0x1
  rows := [
    ro 0x01 8 .i16 (Dflt.const 0)  -- Reference temperature of CLk
  ]

/-- R405: the rows of 0x2403. -/
def fam2403 : Family where
  base := 0x2403
  count := 1
  stride := 0x1
  rows := [
    ro 0x01 8 .i16 (Dflt.const 0)  -- Drift of CLk
  ]

/-- R405: the rows of 0x2404. -/
def fam2404 : Family where
  base := 0x2404
  count := 1
  stride := 0x1
  rows := [
    ro 0x01 8 .u64 (Dflt.const 0)  -- Last trim end of CLk
  ]

/-- R405: the rows of 0x2405. -/
def fam2405 : Family where
  base := 0x2405
  count := 1
  stride := 0x1
  rows := [
    ro 0x01 8 .u8 (Dflt.const 0)  -- Consecutive failures of CLk
  ]

/-- R37: 0x2200–0x27FF, firmware update and self-trim. -/
def dictUpdate : List Family := [fam2200, fam2201, fam2202, fam2203, fam2204, fam2205, fam2206, fam2207, fam2400, fam2401, fam2402, fam2403, fam2404, fam2405]

/-- R435: the rows of 0x2800 + n × 0x1, n < 1024. -/
def fam2800 : Family where
  base := 0x2800
  count := 1024
  stride := 0x1
  rows := [
    rw 0x01 1 .u8 .always (.only [(0, 0)]) (Dflt.const 0),  -- Latch
    rw 0x02 1 .u8 .always (.only [(0, 1)]) (fun u _ => evEnable u),  -- Enable
    rw 0x03 1 .u8 .always (.only [(0, 3)]) (fun u _ => evClass u),  -- Class
    rw 0x04 1 .u8 .always (.bits 31) (fun u _ => evRoute u),  -- Route mask
    rw 0x05 1 .u8 .always (.only [(0, 27)]) (fun u _ => evRange u),  -- Summary bit
    rw 0x06 1 .u8 .always (.only [(0, 15)]) (Dflt.const 0),  -- GP output
    rw 0x07 1 .u8 .always (.only [(0, 1)]) (fun u _ => evRepeat u),  -- Repeat mode
    ro 0x08 1 .u32 (Dflt.const 0),  -- Occurrences
    ro 0x09 1 .u32 (Dflt.const 0),  -- Last sequence
    ro 0x0A 1 .u64 (Dflt.const 0),  -- Last time
    ro 0x0B 1 .u32 (Dflt.const 0),  -- Last detail A
    ro 0x0C 1 .u32 (Dflt.const 0)  -- Last detail B
  ]

/-- R37: 0x2800–0x2BFF, event sources. -/
def dictEvents : List Family := [fam2800]

/-- R79: the rows of 0x3000 + n × 0x40, n < 64. -/
def fam3000 : Family where
  base := 0x3000
  count := 64
  stride := 0x40
  rows := [
    rw 0x01 1 .u8 .standby (.only [(0, 15)]) (fun u _ => u / 4),  -- Timing group
    rw 0x02 1 .u8 .always (.clamp 0 63 []) (Dflt.const 32),  -- Sampling phase
    rw 0x03 1 .u16 .standby (.clamp 64 16384 []) (Dflt.const 512),  -- Active pixels
    rw 0x04 1 .u8 .standby (.clamp 0 128 []) (Dflt.const 32),  -- Black pixels
    rw 0x05 1 .u8 .standby (.only [(0, 1)]) (Dflt.const 0),  -- Black position
    rw 0x06 1 .u8 .standby (.only [(0, 1)]) (Dflt.const 0),  -- Readout direction
    rw 0x07 1 .u8 .always (.only [(0, 1)]) (Dflt.const 0),  -- Service request
    ro 0x08 1 .u8 (Dflt.const 0),  -- Service status
    ro 0x09 1 .u32 (Dflt.const 0),  -- Triggers dropped
    ro 0x0A 1 .u32 (Dflt.const 0)  -- Service changes
  ]

/-- R98: the rows of 0x3001 + n × 0x40, n < 64. -/
def fam3001 : Family where
  base := 0x3001
  count := 64
  stride := 0x40
  rows := [
    rw 0x01 1 .u8 .standby (.only [(0, 1)]) (Dflt.const 0),  -- Input mode
    rw 0x02 1 .u8 .standby (.only [(0, 2)]) (Dflt.const 1),  -- Single-ended reference
    rw 0x03 1 .u8 .standby (.only [(0, 1)]) (Dflt.const 0),  -- Polarity
    rw 0x04 1 .u8 .standby (.only [(0, 1)]) (Dflt.const 0),  -- Sampling mode
    rw 0x05 1 .u8 .always (.clamp 0 63 []) (Dflt.const 0),  -- CDS reset phase
    rw 0x06 1 .u8 .standby (.only [(0, 1)]) (Dflt.const 0),  -- Clamp mode
    rw 0x07 1 .u8 .always (.only [(0, 3)]) (Dflt.const 0),  -- Coarse gain
    rw 0x08 1 .u16 .always (.clamp 0 1023 []) (Dflt.const 512),  -- Offset DAC
    rw 0x09 1 .u8 .standby (.only [(0, 1)]) (Dflt.const 1),  -- Alignment
    rw 0x0A 1 .u8 .standby (.only [(0, 1)]) (Dflt.const 1)  -- Bias current
  ]

/-- R105: the rows of 0x3002 + n × 0x40, n < 64. -/
def fam3002 : Family where
  base := 0x3002
  count := 64
  stride := 0x40
  rows := [
    rw 0x01 1 .u8 .always (.only [(0, 2)]) (Dflt.const 1),  -- Loop mode
    rw 0x02 1 .u16 .always (.clamp 0 8191 []) (Dflt.const 256),  -- Black target
    rw 0x03 1 .u8 .always (.clamp 0 8 []) (Dflt.const 3),  -- Loop gain shift s
    ro 0x04 1 .i16 (Dflt.const 0),  -- Fine offset F
    rw 0x05 1 .u8 .always (.only [(0, 1)]) (Dflt.const 1),  -- Signal check
    rw 0x06 1 .u16 .always (.clamp 64 8191 []) (Dflt.const 2048),  -- Signal window W
    rw 0x07 1 .u8 .always (.only [(0, 1)]) (Dflt.const 0),  -- Signal-loss recovery
    rw 0x08 1 .u8 .always (.clamp 1 255 []) (Dflt.const 16),  -- Recovery lines
    rw 0x09 1 .u16 .always (.clamp 1 65535 []) (Dflt.const 1024)  -- Result period
  ]

/-- R109: the rows of 0x3003 + n × 0x40, n < 64. -/
def fam3003 : Family where
  base := 0x3003
  count := 64
  stride := 0x40
  rows := [
    ro 0x01 1 .u32 (Dflt.const 0),  -- Status
    ro 0x02 1 .i32 (Dflt.const 0),  -- Black mean
    ro 0x03 1 .u32 (Dflt.const 0),  -- Black noise
    ro 0x04 1 .u16 (Dflt.const 512),  -- Offset DAC
    ro 0x05 1 .i16 (Dflt.const 0),  -- Fine offset
    ro 0x06 1 .u32 (Dflt.const 0)  -- Over-range samples
  ]

/-- R110: the rows of 0x3004 + n × 0x40, n < 64. -/
def fam3004 : Family where
  base := 0x3004
  count := 64
  stride := 0x40
  rows := [
    ro 0x01 1 .u32 (Dflt.const 0),  -- Over-range lines
    ro 0x02 1 .u32 (Dflt.const 0),  -- Over-range samples
    ro 0x03 1 .u32 (Dflt.const 0),  -- Signal losses
    ro 0x04 1 .u32 (Dflt.const 0),  -- Automatic recoveries
    ro 0x05 1 .u32 (Dflt.const 0)  -- Lines without loop update
  ]

/-- R37: 0x3000–0x3FFF, channels. -/
def dictChannels : List Family := [fam3000, fam3001, fam3002, fam3003, fam3004]

/-- R131: the rows of 0x4000. -/
def fam4000 : Family where
  base := 0x4000
  count := 1
  stride := 0x1
  rows := [
    ro 0x01 1 .u8 (Dflt.const 0),  -- Active bank
    wo 0x02 1 .u8 .always (.only [(1, 1)]) (Dflt.const 0),  -- Swap request
    ro 0x03 1 .u8 (Dflt.const 0),  -- Swap status
    ro 0x04 2 .u8 (Dflt.const 0),  -- Bank b state
    ro 0x06 2 .u8 (Dflt.const 0),  -- Bank b holder
    wo 0x08 1 .u8 .always (.only [(1, 1)]) (Dflt.const 0),  -- Copy active to shadow
    wo 0x09 1 .u8 .always (.only [(1, 1)]) (Dflt.const 0),  -- Clear shadow
    ro 0x0A 1 .u32 (Dflt.const 0),  -- Swaps
    ro 0x0B 1 .u64 (Dflt.const 0),  -- Last swap time
    rw 0x0C 1 .u16 .always .any (Dflt.const 0),  -- Mark value
    ro 0x0D 1 .u8 (Dflt.const 0),  -- Load result
    ro 0x0E 1 .u64 (Dflt.const 0),  -- Channels matching
    ro 0x0F 1 .u32 (Dflt.const 0)  -- Load error entry
  ]

/-- R131: the rows of 0x4002. -/
def fam4002 : Family where
  base := 0x4002
  count := 1
  stride := 0x1
  rows := [
    ro 0x01 4 .u16 (Dflt.const 4096)  -- Active plane scale p
  ]

/-- R131: the rows of 0x4003. -/
def fam4003 : Family where
  base := 0x4003
  count := 1
  stride := 0x1
  rows := [
    wo 0x01 4 .u16 .always (.clamp 1 65535 []) (Dflt.const 0)  -- Set active plane scale p
  ]

/-- R131: the rows of 0x4010 + n × 0x1, n < 2. -/
def fam4010 : Family where
  base := 0x4010
  count := 2
  stride := 0x1
  rows := [
    rw 0x00 1 .dom .always .any (Dflt.const 0)  -- Bank b content
  ]

/-- R135: the rows of 0x4030. -/
def fam4030 : Family where
  base := 0x4030
  count := 1
  stride := 0x1
  rows := [
    wo 0x01 1 .u8 .always (.only [(1, 3)]) (Dflt.const 0),  -- Start capture
    wo 0x02 1 .u8 .always (.only [(1, 1)]) (Dflt.const 0),  -- Abort capture
    ro 0x03 1 .u8 (Dflt.const 0),  -- Capture status
    rw 0x04 1 .u16 .always (.pow2 16 4096) (Dflt.const 256),  -- Lines averaged N
    rw 0x05 1 .u16 .always (.clamp 0 4096 []) (Dflt.const 256),  -- Settle line cycles
    rw 0x06 1 .u32 .always (.clamp 100 1000000 [0]) (Dflt.const 0),  -- Capture line rate
    rw 0x07 1 .u8 .always (.only [(0, 31), (255, 255)]) (Dflt.const 255),  -- Capture recipe
    rw 0x08 1 .u8 .always (.only [(0, 1)]) (Dflt.const 0),  -- Base
    rw 0x09 1 .u16 .always (.clamp 4096 65000 []) (Dflt.const 60000),  -- White target
    rw 0x0A 1 .u8 .always (.only [(1, 4)]) (Dflt.const 3),  -- Replacement for found defects
    rw 0x0B 1 .u16 .always (.clamp 4 16384 []) (Dflt.const 64),  -- Dark threshold
    rw 0x0C 1 .u16 .always (.clamp 10 900 []) (Dflt.const 150),  -- White deviation threshold
    rw 0x0D 1 .u16 .always (.clamp 4096 60000 []) (Dflt.const 8192),  -- Minimum white level
    rw 0x0E 1 .u16 .always (.clamp 0 1024 []) (Dflt.const 16),  -- Maximum defects per channel and plane
    ro 0x0F 1 .u32 (Dflt.const 0),  -- Line cycles done
    ro 0x10 1 .u64 (Dflt.const 0),  -- Channels passed
    ro 0x11 1 .u32 (Dflt.const 0)  -- Defects flagged
  ]

/-- R135: the rows of 0x4031. -/
def fam4031 : Family where
  base := 0x4031
  count := 1
  stride := 0x1
  rows := [
    ro 0x00 1 .dom (Dflt.const 0)  -- Capture report
  ]

/-- R121: the rows of 0x4040. -/
def fam4040 : Family where
  base := 0x4040
  count := 1
  stride := 0x1
  rows := [
    rw 0x01 16 .u8 .always (.only [(0, 31), (255, 255)]) (Dflt.const 255)  -- THk slot
  ]

/-- R121: the rows of 0x4041. -/
def fam4041 : Family where
  base := 0x4041
  count := 1
  stride := 0x1
  rows := [
    rw 0x01 16 .u16 .always (.clamp 0 8191 []) (fun _ i => i * 512 + 256)  -- THk position
  ]

/-- R121: the rows of 0x4043. -/
def fam4043 : Family where
  base := 0x4043
  count := 1
  stride := 0x1
  rows := [
    rw 0x01 32 .u16 .always .any (Dflt.const 0)  -- Segment s thermistor mask
  ]

/-- R121: the rows of 0x4044. -/
def fam4044 : Family where
  base := 0x4044
  count := 1
  stride := 0x1
  rows := [
    ro 0x01 32 .i16 (Dflt.const 0)  -- Segment s temperature
  ]

/-- R121: the rows of 0x4045. -/
def fam4045 : Family where
  base := 0x4045
  count := 1
  stride := 0x1
  rows := [
    ro 0x01 32 .u8 (Dflt.const 2)  -- Segment s temperature state
  ]

/-- R121: the rows of 0x4046. -/
def fam4046 : Family where
  base := 0x4046
  count := 1
  stride := 0x1
  rows := [
    rw 0x01 1 .u16 .always (.clamp 100 60000 []) (Dflt.const 2000)  -- Staleness limit
  ]

/-- R138: the rows of 0x4050. -/
def fam4050 : Family where
  base := 0x4050
  count := 1
  stride := 0x1
  rows := [
    ro 0x01 1 .u32 (Dflt.const 0),  -- Entry parity errors
    ro 0x02 1 .u32 (Dflt.const 0),  -- Outputs clamped at 0
    ro 0x03 1 .u32 (Dflt.const 0),  -- Outputs clamped at 65,535
    ro 0x04 1 .u32 (Dflt.const 0),  -- Pixels replaced
    ro 0x05 1 .u32 (Dflt.const 0)  -- Channel lines uncorrected
  ]

/-- R37: 0x4000–0x41FF, shading and calibration. -/
def dictShading : List Family := [fam4000, fam4002, fam4003, fam4010, fam4030, fam4031, fam4040, fam4041, fam4043, fam4044, fam4045, fam4046, fam4050]

/-- R145: the rows of 0x4200. -/
def fam4200 : Family where
  base := 0x4200
  count := 1
  stride := 0x1
  rows := [
    ro 0x01 1 .u32 (Dflt.const 100663296),  -- Basis area free
    ro 0x02 1 .u8 (Dflt.const 0),  -- Basis load result
    wo 0x03 1 .u8 .always (.only [(0, 7)]) (Dflt.const 0),  -- Start measurement
    wo 0x04 1 .u8 .always (.only [(1, 1)]) (Dflt.const 0),  -- Abort measurement
    ro 0x05 1 .u8 (Dflt.const 0),  -- Measurement status
    wo 0x06 1 .u16 .always .any (Dflt.const 0),  -- Import capture plane
    ro 0x07 1 .u8 (Dflt.const 0)  -- Import result
  ]

/-- R145: the rows of 0x4201. -/
def fam4201 : Family where
  base := 0x4201
  count := 1
  stride := 0x1
  rows := [
    rw 0x01 1 .u8 .always (.clamp 1 6 []) (Dflt.const 3),  -- Table count T
    rw 0x02 6 .u8 .always (.only [(0, 7)]) (fun _ i => i),  -- Table i lamp group
    rw 0x08 6 .u16 .always (.clamp 1 4095 []) (Dflt.const 2730)  -- Table i current
  ]

/-- R145: the rows of 0x4202. -/
def fam4202 : Family where
  base := 0x4202
  count := 1
  stride := 0x1
  rows := [
    ro 0x01 8 .u8 (Dflt.const 0)  -- Set k state
  ]

/-- R145: the rows of 0x4203. -/
def fam4203 : Family where
  base := 0x4203
  count := 1
  stride := 0x1
  rows := [
    ro 0x01 8 .u32 (Dflt.const 0)  -- Set k length
  ]

/-- R145: the rows of 0x4208 + n × 0x1, n < 8. -/
def fam4208 : Family where
  base := 0x4208
  count := 8
  stride := 0x1
  rows := [
    rw 0x00 1 .dom .always .any (Dflt.const 0)  -- Basis set k content
  ]

/-- R160: the rows of 0x4210. -/
def fam4210 : Family where
  base := 0x4210
  count := 1
  stride := 0x1
  rows := [
    ro 0x01 1 .u8 (Dflt.const 255),  -- Active recipe
    ro 0x02 1 .u16 (Dflt.const 0),  -- Active job number
    rw 0x03 1 .u8 .always (.only [(0, 31)]) (Dflt.const 0),  -- Next recipe
    rw 0x04 1 .u16 .always .any (Dflt.const 0),  -- Next job number
    rw 0x05 1 .u8 .always (.only [(0, 3)]) (Dflt.const 0),  -- Switch source
    rw 0x06 1 .u32 .always .any (Dflt.const 0),  -- Switch position
    wo 0x07 1 .u8 .always (.only [(1, 1)]) (Dflt.const 0),  -- Arm
    wo 0x08 1 .u8 .always (.only [(1, 1)]) (Dflt.const 0),  -- Disarm
    wo 0x09 1 .u8 .always (.only [(1, 1)]) (Dflt.const 0),  -- Switch now
    ro 0x0A 1 .u8 (Dflt.const 0),  -- Switch status
    ro 0x0B 1 .u8 (Dflt.const 0),  -- Blend result
    ro 0x0C 1 .u32 (Dflt.const 0),  -- Switch line cycle
    ro 0x0D 1 .u32 (Dflt.const 0),  -- Deferral lines
    ro 0x0E 1 .u64 (Dflt.const 0),  -- Switch time
    rw 0x0F 1 .u8 .always (.only [(0, 1)]) (Dflt.const 0),  -- Blend dark source
    rw 0x10 1 .u8 .always (.only [(0, 31), (255, 255)]) (Dflt.const 0),  -- Startup recipe
    rw 0x11 1 .u16 .always .any (Dflt.const 0),  -- Startup job number
    ro 0x12 1 .u32 (Dflt.const 0),  -- Switches
    ro 0x13 1 .u32 (Dflt.const 0),  -- Job numbers unmatched
    ro 0x14 1 .u32 (Dflt.const 0)  -- Last blend time
  ]

/-- R160: the rows of 0x4220 + n × 0x1, n < 32. -/
def fam4220 : Family where
  base := 0x4220
  count := 32
  stride := 0x1
  rows := [
    rw 0x00 1 .dom .always .any (Dflt.const 0)  -- Recipe r content
  ]

/-- R160: the rows of 0x4240. -/
def fam4240 : Family where
  base := 0x4240
  count := 1
  stride := 0x1
  rows := [
    ro 0x01 32 .u8 (Dflt.const 0)  -- Recipe r status
  ]

/-- R160: the rows of 0x4241. -/
def fam4241 : Family where
  base := 0x4241
  count := 1
  stride := 0x1
  rows := [
    ro 0x01 32 .u8 (Dflt.const 0)  -- Recipe r check result
  ]

/-- R160: the rows of 0x4242. -/
def fam4242 : Family where
  base := 0x4242
  count := 1
  stride := 0x1
  rows := [
    ro 0x01 1 .u8 (Dflt.const 0),  -- Recipe load result
    ro 0x02 1 .u16 (Dflt.const 0)  -- Recipe load error offset
  ]

/-- R37: 0x4200–0x43FF, basis sets and recipes. -/
def dictRecipes : List Family := [fam4200, fam4201, fam4202, fam4203, fam4208, fam4210, fam4220, fam4240, fam4241, fam4242]

/-- R90: the rows of 0x4400 + n × 0x1, n < 32. -/
def fam4400 : Family where
  base := 0x4400
  count := 32
  stride := 0x1
  rows := [
    rw 0x01 1 .u8 .standby (.only [(0, 8)]) (fun u _ => if u ≤ 15 then 4 else 0),  -- Tap count
    rw 0x02 8 .u8 .standby (.only [(0, 63), (255, 255)]) (fun u i => if u ≤ 15 ∧ i < 4 then 4 * u + i else 255),  -- Tap 1–8 channel
    rw 0x0A 1 .u16 .standby (.clamp 0 256 []) (Dflt.const 0)  -- Overlap with next segment
  ]

/-- R185: the rows of 0x4420 + n × 0x1, n < 32. -/
def fam4420 : Family where
  base := 0x4420
  count := 32
  stride := 0x1
  rows := [
    rw 0x01 1 .u8 .standby (.only [(0, 3)]) (Dflt.const 0),  -- Stagger row
    rw 0x02 1 .u32 .standby (.clamp 1000000 200000000 []) (Dflt.const 21166667),  -- Native pitch π_s
    rw 0x03 1 .i32 .standby (.clamp (-65536) 65536 []) (Dflt.const 0),  -- Build shift ξ_s
    rw 0x04 1 .i32 .standby (.clamp (-167772) 167772 []) (Dflt.const 0),  -- Build stretch ε_s
    rw 0x05 1 .u8 .standby (.only [(0, 3)]) (Dflt.const 1),  -- Seam blend profile
    rw 0x06 1 .u16 .standby (.clamp 0 256 []) (Dflt.const 0),  -- Seam blend width
    rw 0x07 1 .u8 .always (.only [(0, 1)]) (Dflt.const 1),  -- Guy-line at seam
    rw 0x08 1 .u8 .always (.only [(0, 3)]) (Dflt.const 0)  -- Guy-line plane
  ]

/-- R186: the rows of 0x4440. -/
def fam4440 : Family where
  base := 0x4440
  count := 1
  stride := 0x1
  rows := [
    rw 0x01 4 .i32 .standby (.clamp (-100000000) 100000000 []) (Dflt.const 0),  -- Row r line-of-view position Z_r
    ro 0x05 4 .u16 (Dflt.const 0)  -- Row r depth D_r
  ]

/-- R186: the rows of 0x4441. -/
def fam4441 : Family where
  base := 0x4441
  count := 1
  stride := 0x1
  rows := [
    rw 0x01 1 .u8 .standby (.only [(0, 2)]) (Dflt.const 0),  -- Machine-direction filter
    rw 0x02 1 .u8 .standby (.clamp 0 16 []) (Dflt.const 0),  -- Machine-direction pre-average
    ro 0x03 1 .u8 (Dflt.const 1),  -- Pre-average in use m
    ro 0x04 1 .u32 (Dflt.const 0),  -- Exposures discarded
    ro 0x05 1 .u32 (Dflt.const 0),  -- Lines interpolated
    ro 0x06 1 .u32 (Dflt.const 0),  -- Lines filled
    rw 0x07 1 .u8 .always (.clamp 2 16 []) (Dflt.const 4),  -- Gap limit G
    ro 0x08 1 .u32 (Dflt.const 0)  -- Output lines
  ]

/-- R186: the rows of 0x4442. -/
def fam4442 : Family where
  base := 0x4442
  count := 1
  stride := 0x1
  rows := [
    rw 0x01 1 .i32 .standby (.clamp (-100000000) 100000000 []) (Dflt.const 0),  -- Output origin x_org
    rw 0x02 1 .u32 .standby (.clamp 1000000 2000000000 [0]) (Dflt.const 0),  -- Scan width
    ro 0x03 1 .u32 (Dflt.const 32768),  -- Output width W
    rw 0x04 1 .u8 .standby (.only [(0, 31), (255, 255)]) (Dflt.const 255)  -- Reference segment
  ]

/-- R186: the rows of 0x4443. -/
def fam4443 : Family where
  base := 0x4443
  count := 1
  stride := 0x1
  rows := [
    rw 0x01 1 .u8 .always (.only [(0, 2)]) (Dflt.const 1),  -- Guy-line
    rw 0x02 1 .u8 .always (.clamp 0 3 []) (Dflt.const 1),  -- Gain shift g
    rw 0x03 1 .u8 .always (.clamp 16 255 []) (Dflt.const 128),  -- Confidence threshold
    rw 0x04 1 .u8 .always (.clamp 1 16 []) (Dflt.const 4),  -- Search range L
    rw 0x05 1 .u16 .always (.clamp 256 16384 []) (Dflt.const 4096),  -- Shift limit
    rw 0x06 1 .u32 .always (.clamp 168 33554 []) (Dflt.const 8389),  -- Stretch limit
    wo 0x07 1 .u8 .always (.only [(1, 1)]) (Dflt.const 0)  -- Reset estimates
  ]

/-- R186: the rows of 0x4444. -/
def fam4444 : Family where
  base := 0x4444
  count := 1
  stride := 0x1
  rows := [
    rw 0x01 1 .u8 .always (.only [(0, 2)]) (Dflt.const 0),  -- Fill policy
    rw 0x02 4 .u16 .always .any (Dflt.const 32768)  -- Fill constant, plane p
  ]

/-- R186: the rows of 0x4445. -/
def fam4445 : Family where
  base := 0x4445
  count := 1
  stride := 0x1
  rows := [
    rw 0x01 32 .u16 .standby (.clamp 0 256 []) (fun _ i => (512 * i + 31) / 62)  -- Blend table point k
  ]

/-- R187: the rows of 0x4460 + n × 0x1, n < 31. -/
def fam4460 : Family where
  base := 0x4460
  count := 31
  stride := 0x1
  rows := [
    ro 0x01 1 .u32 (Dflt.const 0),  -- Status
    ro 0x02 1 .i32 (Dflt.const 0),  -- Target shift
    ro 0x03 1 .i32 (Dflt.const 0),  -- Target stretch
    ro 0x04 1 .i32 (Dflt.const 0),  -- Applied shift
    ro 0x05 1 .i32 (Dflt.const 0),  -- Applied stretch
    ro 0x06 1 .u32 (Dflt.const 0),  -- Correlation peak
    ro 0x07 1 .u32 (Dflt.const 0)  -- Lines used
  ]

/-- R37: 0x4400–0x47FF, Ridgeline geometry. -/
def dictRidgeline : List Family := [fam4400, fam4420, fam4440, fam4441, fam4442, fam4443, fam4444, fam4445, fam4460]

/-- R200: the rows of 0x4800. -/
def fam4800 : Family where
  base := 0x4800
  count := 1
  stride := 0x1
  rows := [
    rw 0x01 1 .u8 .standby (.only [(0, 1)]) (Dflt.const 0),  -- Transport mode
    rw 0x02 1 .u8 .standby (.only [(0, 1)]) (Dflt.const 0),  -- Position source
    rw 0x03 1 .u32 .standby (.clamp 1000 100000000 []) (Dflt.const 5291667),  -- Inline transport scale
    rw 0x04 1 .u32 .standby (.clamp 1000 100000000 []) (Dflt.const 1000000),  -- Paced transport scale
    rw 0x05 1 .u32 .standby (.clamp 1000 20000000 []) (Dflt.const 2500000),  -- Maximum press speed
    rw 0x06 1 .u32 .standby (.clamp 100 2000000 []) (Dflt.const 500000),  -- Maximum table speed
    rw 0x07 1 .u32 .standby (.clamp 1 400000 []) (Dflt.const 10000),  -- Maximum trigger rate, sources 3 and 4
    rw 0x08 1 .u16 .always (.clamp 100 60000 []) (Dflt.const 1000),  -- Stop timeout t_stop
    ro 0x09 1 .u32 (Dflt.const 0),  -- Reported position
    ro 0x0A 1 .i64 (Dflt.const 0),  -- Extended position
    ro 0x0B 1 .i32 (Dflt.const 0),  -- Transport speed
    ro 0x0C 1 .u32 (Dflt.const 0)  -- E_max
  ]

/-- R197: the rows of 0x4801. -/
def fam4801 : Family where
  base := 0x4801
  count := 1
  stride := 0x1
  rows := [
    rw 0x01 1 .u8 .standby (.only [(0, 1)]) (Dflt.const 0),  -- Count direction
    rw 0x02 1 .u8 .always (.clamp 0 40 []) (Dflt.const 20),  -- Input filter
    rw 0x03 1 .u8 .always (.only [(0, 1)]) (Dflt.const 1),  -- Z mode
    rw 0x04 1 .u32 .always (.clamp 16 2147483647 [0]) (Dflt.const 0),  -- Counts per revolution
    wo 0x05 1 .u8 .always (.only [(1, 1)]) (Dflt.const 0),  -- Zero at next Z
    ro 0x06 1 .u32 (Dflt.const 0),  -- Last Z position
    ro 0x07 1 .u64 (Dflt.const 0),  -- Last Z time
    ro 0x08 1 .u8 (Dflt.const 0),  -- Encoder status
    ro 0x09 1 .u32 (Dflt.const 0),  -- Illegal transitions
    ro 0x0A 1 .u32 (Dflt.const 0),  -- Revolution count errors
    rw 0x0B 1 .u32 .always (.clamp 16 1000000 []) (Dflt.const 4096),  -- Reverse limit
    rw 0x0C 1 .u8 .always (.clamp 1 50 []) (Dflt.const 5),  -- Speed tolerance
    ro 0x0D 1 .i32 (Dflt.const 0)  -- Press position offset
  ]

/-- R200: the rows of 0x4802. -/
def fam4802 : Family where
  base := 0x4802
  count := 1
  stride := 0x1
  rows := [
    rw 0x01 1 .u64 .standby (.clamp 4294967296 72057594037927935 []) (Dflt.const 17179869184),  -- Trigger pitch π_t
    rw 0x02 1 .u64 .standby .any (Dflt.const 0),  -- Trigger phase φ
    ro 0x03 1 .u32 (Dflt.const 0)  -- Triggers generated
  ]

/-- R209: the rows of 0x4803. -/
def fam4803 : Family where
  base := 0x4803
  count := 1
  stride := 0x1
  rows := [
    rw 0x01 1 .u16 .standby (.clamp 50 10000 []) (Dflt.const 100),  -- Step pulse width
    rw 0x02 1 .u16 .standby (.clamp 100 50000 []) (Dflt.const 1000),  -- Direction setup
    rw 0x03 1 .u8 .standby (.only [(0, 1)]) (Dflt.const 0),  -- Direction polarity
    rw 0x04 1 .u16 .always (.clamp 0 60000 []) (Dflt.const 0),  -- Motor enable hold
    rw 0x05 1 .u8 .standby (.only [(0, 1)]) (Dflt.const 0),  -- Motor fault polarity
    rw 0x06 1 .u32 .always (.clamp 1000 50000000 []) (Dflt.const 2000000),  -- Maximum acceleration a_max
    rw 0x07 1 .u32 .always (.clamp 10000 4000000000 []) (Dflt.const 50000000),  -- Maximum jerk j_max
    rw 0x08 1 .u16 .always (.clamp 8 4096 []) (Dflt.const 64),  -- Run-up margin
    rw 0x09 1 .u32 .always (.clamp 0 100000 []) (Dflt.const 1000),  -- Minimum pacing speed v_min
    rw 0x0A 1 .u8 .standby (.only [(0, 1)]) (Dflt.const 0),  -- Encoder supervision
    rw 0x0B 1 .u32 .always (.clamp 10 100000 []) (Dflt.const 500),  -- Following error limit
    ro 0x0C 1 .i32 (Dflt.const 0)  -- Commanded speed
  ]

/-- R209: the rows of 0x4804. -/
def fam4804 : Family where
  base := 0x4804
  count := 1
  stride := 0x1
  rows := [
    rw 0x01 1 .u16 .always (.clamp 100 900 []) (Dflt.const 500),  -- Target fill f_target
    rw 0x02 1 .u16 .always (.clamp 150 950 []) (Dflt.const 875),  -- Stop fill f_stop
    rw 0x03 1 .u16 .always (.clamp 50 850 []) (Dflt.const 375),  -- Resume fill f_resume
    rw 0x04 1 .u16 .always (.clamp 1 1024 []) (Dflt.const 128),  -- Pacing gain k
    ro 0x05 1 .u8 (Dflt.const 0),  -- Pacing state
    ro 0x06 1 .u16 (Dflt.const 0),  -- Egress fill f
    ro 0x07 1 .u32 (Dflt.const 0),  -- Drain rate
    ro 0x08 1 .u32 (Dflt.const 0),  -- Peg line j_peg
    ro 0x09 1 .i64 (Dflt.const 0),  -- Peg position
    ro 0x0A 1 .u8 (Dflt.const 0),  -- Stop cause
    ro 0x0B 1 .u32 (Dflt.const 0)  -- Peg stops
  ]

/-- R220: the rows of 0x4880. -/
def fam4880 : Family where
  base := 0x4880
  count := 1
  stride := 0x1
  rows := [
    rw 0x01 1 .u8 .standby (.only [(0, 1)]) (Dflt.const 0),  -- Casby enable
    rw 0x02 1 .u8 .always .any (Dflt.const 128),  -- Election priority
    rw 0x03 1 .u8 .standby (.only [(0, 2)]) (Dflt.const 2),  -- Time source
    rw 0x04 1 .i16 .always (.clamp (-500) 500 []) (Dflt.const 0),  -- Cable delay correction
    rw 0x05 1 .u32 .always (.clamp 2000 1000000 []) (Dflt.const 10000),  -- Trigger lead
    rw 0x06 1 .u8 .standby (.only [(1, 2)]) (Dflt.const 1),  -- Trigger origin
    rw 0x07 1 .u8 .always (.only [(0, 1)]) (Dflt.const 1),  -- Propagate job switches
    ro 0x08 1 .u8 (Dflt.const 0),  -- Casby state
    ro 0x09 1 .u8 (Dflt.const 0),  -- Ring size N
    ro 0x0A 1 .u8 (Dflt.const 0),  -- Ring position
    ro 0x0B 1 .u64 (Dflt.const 0),  -- Master unique ID
    ro 0x0C 1 .u8 (Dflt.const 0),  -- Port assignment
    ro 0x0D 1 .u32 (Dflt.const 0),  -- Ring delay T_ring
    ro 0x0E 1 .i32 (Dflt.const 0),  -- Time offset
    ro 0x0F 1 .u8 (Dflt.const 0),  -- Time locked
    ro 0x10 1 .u32 (Dflt.const 0),  -- Frame errors
    ro 0x11 1 .u32 (Dflt.const 0),  -- Triggers missed
    wo 0x12 1 .u16 .always .any (Dflt.const 0),  -- Send job switch
    ro 0x13 1 .u32 (Dflt.const 0)  -- Elections
  ]

/-- R37: 0x4800–0x4BFF, transport and Casby. -/
def dictTransport : List Family := [fam4800, fam4801, fam4802, fam4803, fam4804, fam4880]

/-- R309: the rows of 0x4C00. -/
def fam4C00 : Family where
  base := 0x4C00
  count := 1
  stride := 0x1
  rows := [
    rw 0x01 1 .u8 .standby (.only [(0, 1)]) (Dflt.const 0),  -- Illumination mode
    rw 0x02 1 .u32 .always (.clamp 12000 60000 []) (Dflt.const 40000),  -- Bulk floor
    rw 0x03 1 .u32 .always (.clamp 100 100000 []) (Dflt.const 2000),  -- Bulk capacitance C
    ro 0x04 1 .u32 (Dflt.const 0),  -- Bulk voltage V_b
    rw 0x05 1 .u16 .always (.clamp 500 1000 []) (Dflt.const 950),  -- Buck efficiency η
    ro 0x06 1 .u32 (Dflt.const 0),  -- Lamp input power
    rw 0x07 1 .u16 .standby (.clamp 10 200 []) (Dflt.const 50),  -- Ripple band
    ro 0x08 1 .u32 (Dflt.const 0)  -- Strobes shortened
  ]

/-- R310: the rows of 0x4C10 + n × 0x1, n < 8. -/
def fam4C10 : Family where
  base := 0x4C10
  count := 8
  stride := 0x1
  rows := [
    rw 0x01 1 .u8 .standby (.only [(0, 15)]) (Dflt.const 0),  -- Reference timing group
    rw 0x02 1 .u32 .standby (.clamp 0 1000000 []) (Dflt.const 300),  -- Strobe start
    rw 0x03 1 .u32 .standby (.clamp 1000 1000000 []) (Dflt.const 1800),  -- Strobe width
    rw 0x04 1 .u16 .always (.clamp 0 1000 []) (Dflt.const 950),  -- Light floor
    rw 0x05 1 .u16 .always .any (Dflt.const 0),  -- Thermistor mask
    rw 0x06 1 .i16 .always .any (Dflt.const 880),  -- Derate start T1
    rw 0x07 1 .i16 .always .any (Dflt.const 1200),  -- Derate end T2
    rw 0x08 1 .u16 .always (.clamp 100 1000 []) (Dflt.const 600),  -- Derate minimum S_min
    rw 0x09 1 .i16 .always .any (Dflt.const 1360),  -- Off temperature T3
    ro 0x0A 1 .u8 (Dflt.const 0),  -- Group state
    wo 0x0B 1 .u8 .always (.only [(1, 1)]) (Dflt.const 0),  -- Clear group
    ro 0x0C 1 .i16 (Dflt.const 0),  -- Lamp-board temperature T_j
    ro 0x0D 1 .u16 (Dflt.const 1000),  -- Thermal scale s_T
    ro 0x0E 1 .u32 (Dflt.const 0),  -- Group trips
    ro 0x0F 1 .u32 (Dflt.const 0)  -- Group input power
  ]

/-- R311: the rows of 0x4C40 + n × 0x1, n < 32. -/
def fam4C40 : Family where
  base := 0x4C40
  count := 32
  stride := 0x1
  rows := [
    rw 0x01 1 .u8 .standby (.only [(0, 7), (255, 255)]) (fun u _ => u / 4),  -- Group
    rw 0x02 1 .u16 .always (.clamp 3072 4096 []) (Dflt.const 4096),  -- Current scale
    rw 0x03 1 .u16 .standby (.clamp 10 200 []) (Dflt.const 50),  -- Shunt resistance
    rw 0x04 1 .u16 .standby (.clamp 160 1600 []) (Dflt.const 640),  -- Voltage divider ratio
    rw 0x05 1 .u32 .always .any (Dflt.const 6000),  -- V_min
    rw 0x06 1 .u32 .always .any (Dflt.const 60000),  -- V_max
    ro 0x07 1 .u8 (Dflt.const 0),  -- String class
    ro 0x08 1 .u16 (Dflt.const 0),  -- Current at check
    ro 0x09 1 .u32 (Dflt.const 0),  -- Voltage at check
    ro 0x0A 1 .u32 (Dflt.const 0)  -- String faults
  ]

/-- R37: 0x4C00–0x4DFF, illumination. -/
def dictLamps : List Family := [fam4C00, fam4C10, fam4C40]

/-- R325: the rows of 0x4E00. -/
def fam4E00 : Family where
  base := 0x4E00
  count := 1
  stride := 0x1
  rows := [
    rw 0x01 1 .u8 .always (.only [(0, 1)]) (Dflt.const 0),  -- Lantern enable
    rw 0x02 1 .u16 .always (.clamp 1 512 []) (Dflt.const 512),  -- Pixel count N
    rw 0x03 1 .u8 .always (.only [(0, 2)]) (Dflt.const 2),  -- Word width
    rw 0x04 1 .u8 .always (.only [(0, 5)]) (Dflt.const 0),  -- Colour order
    rw 0x05 1 .u8 .always (.clamp 1 250 []) (Dflt.const 1),  -- Clock divider
    rw 0x06 1 .u16 .always (.clamp 25 1000 []) (Dflt.const 100),  -- Frame rate
    rw 0x07 1 .u8 .always (.clamp 0 40 []) (Dflt.const 0),  -- Return sample delay
    rw 0x08 1 .u16 .always (.clamp 0 1000 []) (Dflt.const 1000),  -- Brightness
    rw 0x09 1 .u8 .always (.only [(0, 7), (255, 255)]) (Dflt.const 255),  -- Derate group
    rw 0x0A 3 .u16 .always (.clamp 0 1000 []) (Dflt.const 60),  -- Full-scale power R, G, B
    ro 0x0D 1 .u8 (Dflt.const 0),  -- Lantern state
    ro 0x0E 1 .u32 (Dflt.const 0),  -- Measured chain bits
    wo 0x0F 1 .u8 .always (.only [(1, 1)]) (Dflt.const 0),  -- Probe now
    ro 0x10 1 .u32 (Dflt.const 0),  -- Lantern power
    ro 0x11 1 .u16 (Dflt.const 1000),  -- Canteen scale cs
    ro 0x12 1 .u32 (Dflt.const 0),  -- Chain breaks
    ro 0x13 1 .u32 (Dflt.const 0),  -- Frame errors
    ro 0x14 1 .u32 (Dflt.const 0),  -- Output shorts
    rw 0x15 1 .i32 .always (.clamp (-100000000) 100000000 []) (Dflt.const 0),  -- Origin
    rw 0x16 1 .u32 .always (.clamp 100000 100000000 []) (Dflt.const 1355000),  -- Pitch
    rw 0x17 1 .u8 .always (.only [(0, 1)]) (Dflt.const 0)  -- Direction
  ]

/-- R325: the rows of 0x4E10. -/
def fam4E10 : Family where
  base := 0x4E10
  count := 1
  stride := 0x1
  rows := [
    rw 0x00 1 .dom .always .any (Dflt.const 0)  -- Base frame
  ]

/-- R325: the rows of 0x4E11. -/
def fam4E11 : Family where
  base := 0x4E11
  count := 1
  stride := 0x1
  rows := [
    rw 0x00 1 .dom .always .any (Dflt.const 0)  -- Bin table
  ]

/-- R325: the rows of 0x4E12. -/
def fam4E12 : Family where
  base := 0x4E12
  count := 1
  stride := 0x1
  rows := [
    rw 0x00 1 .dom .always .any (Dflt.const 0)  -- Bin matrices
  ]

/-- R326: the rows of 0x4E20 + n × 0x1, n < 4. -/
def fam4E20 : Family where
  base := 0x4E20
  count := 4
  stride := 0x1
  rows := [
    rw 0x01 1 .u8 .always (.only [(0, 4)]) (Dflt.const 0),  -- Type
    rw 0x02 1 .u16 .always (.clamp 0 511 []) (Dflt.const 0),  -- First pixel
    rw 0x03 1 .u16 .always .any (Dflt.const 511),  -- Last pixel
    rw 0x04 3 .u16 .always .any (Dflt.const 65535),  -- Colour R, G, B
    rw 0x07 1 .u16 .always (.clamp 20 60000 []) (Dflt.const 1000),  -- Period T
    rw 0x08 1 .u16 .always (.clamp 1 512 []) (Dflt.const 8),  -- Width w
    rw 0x09 1 .u16 .always (.clamp 1 10000 []) (Dflt.const 256),  -- Speed
    rw 0x0A 1 .u16 .always (.clamp 0 1000 []) (Dflt.const 100),  -- Level L_min
    rw 0x0B 1 .u16 .always (.clamp 0 1000 []) (Dflt.const 1000),  -- Level L_max
    rw 0x0C 1 .u16 .always (.clamp 0 1000 []) (Dflt.const 500),  -- Duty
    rw 0x0D 1 .u8 .always (.only [(0, 1)]) (Dflt.const 0),  -- Direction
    rw 0x0E 1 .u32 .always (.clamp 0 86400000 []) (Dflt.const 0),  -- Run time
    rw 0x0F 1 .u8 .always (.only [(0, 2)]) (Dflt.const 0),  -- Trigger mode
    rw 0x10 1 .u8 .always (.only [(0, 3)]) (Dflt.const 2),  -- Trigger class
    rw 0x11 1 .u16 .always (.only [(0, 1023)]) (Dflt.const 0),  -- Trigger event
    rw 0x12 1 .u32 .always (.only [(0, 1048575)]) (Dflt.const 0),  -- Locate target
    wo 0x13 1 .u8 .always (.only [(1, 1)]) (Dflt.const 0),  -- Start
    wo 0x14 1 .u8 .always (.only [(1, 1)]) (Dflt.const 0),  -- Stop
    ro 0x15 1 .u8 (Dflt.const 0),  -- Engine state
    ro 0x16 1 .u16 (Dflt.const 0),  -- Last trigger event
    rw 0x17 1 .u32 .always (.clamp 100 600000 []) (Dflt.const 2000)  -- Hold time
  ]

/-- R37: 0x4E00–0x4FFF, the Lantern strip. -/
def dictLantern : List Family := [fam4E00, fam4E10, fam4E11, fam4E12, fam4E20]

/-- R346: the rows of 0x5000. -/
def fam5000 : Family where
  base := 0x5000
  count := 1
  stride := 0x1
  rows := [
    rw 0x01 1 .u8 .always (.only [(0, 3)]) (Dflt.const 1),  -- Sequence mode
    ro 0x02 1 .u8 (Dflt.const 0),  -- Block state
    wo 0x03 1 .u8 .always (.only [(1, 1)]) (Dflt.const 0),  -- Software trigger
    rw 0x04 1 .u32 .always (.clamp 1 3600000 []) (Dflt.const 1000),  -- Trigger period
    wo 0x05 1 .u32 .always .any (Dflt.const 0),  -- Urgent request
    rw 0x06 1 .u32 .always (.clamp 100 60000 []) (Dflt.const 1000),  -- Bivouac period
    rw 0x07 1 .u32 .always (.clamp 10 60000 []) (Dflt.const 500),  -- Maximum pass time
    ro 0x08 1 .u32 (fun _ _ => 0xFFFFFFFF),  -- Excitation cap
    ro 0x09 1 .u32 (Dflt.const 0),  -- Last pass time
    ro 0x0A 1 .u32 (Dflt.const 0),  -- Passes completed
    ro 0x0B 1 .u32 (Dflt.const 0),  -- Triggers latched
    ro 0x0C 1 .u32 (Dflt.const 0),  -- Triggers dropped
    ro 0x0D 1 .u32 (Dflt.const 0),  -- Urgent visits
    ro 0x0E 1 .u32 (Dflt.const 0),  -- Excitation faults
    ro 0x0F 1 .u32 (Dflt.const 0)  -- Last urgent wait
  ]

/-- R346: the rows of 0x5001. -/
def fam5001 : Family where
  base := 0x5001
  count := 1
  stride := 0x1
  rows := [
    rw 0x01 32 .u8 .always (.only [(0, 31), (255, 255)]) (Dflt.const 255)  -- Sequence entry 1–32
  ]

/-- R347: the rows of 0x5010 + n × 0x1, n < 32. -/
def fam5010 : Family where
  base := 0x5010
  count := 32
  stride := 0x1
  rows := [
    rw 0x01 1 .u8 .always (.only [(0, 25), (255, 255)]) (Dflt.const 255),  -- Positive input
    rw 0x02 1 .u8 .always (.only [(0, 24)]) (Dflt.const 24),  -- Negative input
    rw 0x03 1 .u8 .always (.only [(0, 2)]) (Dflt.const 0),  -- Excitation type
    rw 0x04 1 .u8 .always (.only [(0, 8)]) (Dflt.const 0),  -- Excitation level
    rw 0x05 1 .u8 .always (.only [(0, 23)]) (Dflt.const 0),  -- Excitation pin
    rw 0x06 1 .u8 .always (.only [(0, 1)]) (Dflt.const 0),  -- Excitation timing
    rw 0x07 1 .u8 .always (.only [(0, 23), (255, 255)]) (Dflt.const 255),  -- Bias pin
    rw 0x08 1 .u8 .always (.only [(0, 7)]) (Dflt.const 0),  -- PGA gain
    rw 0x09 1 .u8 .always (.only [(0, 1)]) (Dflt.const 0),  -- Reference
    rw 0x0A 1 .u8 .always (.only [(0, 9)]) (Dflt.const 6),  -- Output rate
    rw 0x0B 1 .u16 .always (.only [(10, 10000)]) (Dflt.const 100),  -- Settle delay t_s
    rw 0x0C 1 .u8 .always (.only [(0, 9)]) (Dflt.const 0),  -- Curve
    rw 0x0D 1 .u8 .always (.only [(0, 1)]) (Dflt.const 1),  -- Open-wire test
    rw 0x0E 1 .u8 .always (.bits 7) (Dflt.const 1),  -- Blank mask
    rw 0x0F 1 .u8 .always (.only [(0, 31), (255, 255)]) (Dflt.const 255),  -- CJC slot
    rw 0x10 1 .u8 .always (.only [(0, 1)]) (Dflt.const 0),  -- Bivouac flag
    rw 0x11 1 .u32 .always (.clamp 0 100000 []) (Dflt.const 0),  -- Lead resistance
    ro 0x12 1 .u8 (Dflt.const 0)  -- Slot state
  ]

/-- R347: the rows of 0x5040 + n × 0x1, n < 32. -/
def fam5040 : Family where
  base := 0x5040
  count := 32
  stride := 0x1
  rows := [
    rw 0x01 4 .real32 .always .any (Dflt.const 0)  -- Coefficients c1–c4
  ]

/-- R348: the rows of 0x5080 + n × 0x1, n < 32. -/
def fam5080 : Family where
  base := 0x5080
  count := 32
  stride := 0x1
  rows := [
    ro 0x01 1 .u32 (Dflt.const 0),  -- Status
    ro 0x02 1 .i32 (Dflt.const 0),  -- Value
    ro 0x03 1 .i32 (Dflt.const 0),  -- Measured quantity q
    ro 0x04 1 .i32 (Dflt.const 0),  -- Raw result
    ro 0x05 1 .u32 (Dflt.const 0),  -- Result time
    ro 0x06 1 .u32 (Dflt.const 0)  -- Held samples
  ]

/-- R349: the rows of 0x5100 + n × 0x1, n < 4. -/
def fam5100 : Family where
  base := 0x5100
  count := 4
  stride := 0x1
  rows := [
    rw 0x01 1 .u8 .always (.only [(0, 1)]) (Dflt.const 0),  -- Output source
    rw 0x02 1 .u16 .always .any (Dflt.const 0),  -- Host value
    rw 0x03 1 .u8 .always (.only [(0, 31)]) (Dflt.const 0),  -- Output slot
    rw 0x04 1 .i32 .always .any (Dflt.const 0),  -- Value at 0 % v₀
    rw 0x05 1 .i32 .always .any (Dflt.const 100000),  -- Value at 100 % v₁
    rw 0x06 1 .u8 .always (.only [(0, 2)]) (Dflt.const 0),  -- Fail action
    ro 0x07 1 .u16 (Dflt.const 0),  -- Output fraction
    ro 0x08 1 .u8 (Dflt.const 0),  -- Output state
    ro 0x09 1 .u32 (Dflt.const 0),  -- Output shorts
    rw 0x0A 1 .u16 .always (.clamp 10 60000 []) (Dflt.const 1000)  -- Output staleness limit
  ]

/-- R349: the rows of 0x5110. -/
def fam5110 : Family where
  base := 0x5110
  count := 1
  stride := 0x1
  rows := [
    rw 0x01 1 .u8 .always (.only [(0, 1)]) (Dflt.const 0),  -- BLANK polarity
    rw 0x02 1 .u32 .always (.clamp 0 10000 []) (Dflt.const 200),  -- Strobe blank lead
    rw 0x03 1 .u32 .always (.clamp 0 100000 []) (Dflt.const 2000),  -- Strobe blank tail
    rw 0x04 1 .u32 .always (.clamp 0 10000 []) (Dflt.const 200),  -- Step blank lead
    rw 0x05 1 .u32 .always (.clamp 0 100000 []) (Dflt.const 5000),  -- Step blank tail
    rw 0x06 1 .u16 .always (.clamp 1 10000 []) (Dflt.const 100)  -- BLANK stuck limit
  ]

/-- R37: 0x5000–0x53FF, auxiliary measurement. -/
def dictAux : List Family := [fam5000, fam5001, fam5010, fam5040, fam5080, fam5100, fam5110]

/-- R244: the rows of 0x5400. -/
def fam5400 : Family where
  base := 0x5400
  count := 1
  stride := 0x1
  rows := [
    rw 0x01 1 .u8 .standby (.only [(0, 1)]) (Dflt.const 0),  -- DMA mode
    ro 0x02 1 .u32 (Dflt.const 0)  -- Maximum output line rate L_max
  ]

/-- R244: the rows of 0x5410 + n × 0x1, n < 32. -/
def fam5410 : Family where
  base := 0x5410
  count := 32
  stride := 0x1
  rows := [
    rw 0x01 1 .u8 .standby (.only [(0, 1)]) (fun u _ => if u = 0 then 1 else 0),  -- Stream enable
    rw 0x02 1 .u16 .standby (.only [(1, 65535)]) (Dflt.const 65535),  -- Link mask
    rw 0x03 1 .u32 .standby (.clamp 0 153600 []) (Dflt.const 0),  -- Rate reservation
    ro 0x04 1 .u32 (Dflt.const 0),  -- Rate in use
    ro 0x05 1 .u32 (Dflt.const 0),  -- Lines sent
    ro 0x06 1 .u32 (Dflt.const 0)  -- Lines dropped
  ]

/-- R266: the rows of 0x5430. -/
def fam5430 : Family where
  base := 0x5430
  count := 1
  stride := 0x1
  rows := [
    rw 0x00 1 .dom .always .any (Dflt.const 0)  -- Ring memory
  ]

/-- R266: the rows of 0x5440 + n × 0x1, n < 8. -/
def fam5440 : Family where
  base := 0x5440
  count := 8
  stride := 0x1
  rows := [
    ro 0x01 1 .u8 (Dflt.const 0),  -- Engine state
    wo 0x02 3 .u8 .always (.only [(1, 1)]) (Dflt.const 0),  -- Doorbell, rings 1–3
    rw 0x05 3 .u16 .standby (.pow2 16 1024) (Dflt.const 256),  -- Ring length, rings 1–3
    ro 0x08 4 .u16 (Dflt.const 0),  -- Head index, ring r
    ro 0x0C 1 .u8 (Dflt.const 0),  -- Ring states
    wo 0x0D 3 .u8 .always (.only [(1, 1)]) (Dflt.const 0),  -- Stop, rings 1–3
    ro 0x10 4 .u32 (Dflt.const 0),  -- Chains completed, ring r
    ro 0x14 4 .u32 (Dflt.const 0),  -- Chains refused, ring r
    ro 0x18 1 .u32 (Dflt.const 0),  -- Last refusal
    ro 0x19 1 .u32 (Dflt.const 0),  -- Engine load
    wo 0x1A 3 .u8 .always (.only [(1, 1)]) (Dflt.const 0)  -- Reset head, rings 1–3
  ]

/-- R265: the rows of 0x5460. -/
def fam5460 : Family where
  base := 0x5460
  count := 1
  stride := 0x1
  rows := [
    rw 0x01 1 .u32 .always (.mult8 0 1048568) (Dflt.const 0),  -- Source pixel
    rw 0x02 1 .u32 .always (.mult8 8 1048576) (Dflt.const 8192),  -- Count
    rw 0x03 1 .u16 .always (.clamp 1 65535 []) (Dflt.const 1024),  -- Lines per transfer
    rw 0x04 1 .u8 .always (.only [(1, 15)]) (Dflt.const 15),  -- Destination links
    rw 0x05 1 .u8 .always (.only [(0, 1)]) (Dflt.const 1),  -- Sample width
    rw 0x06 1 .u8 .always (.bits 7) (Dflt.const 0),  -- Control
    ro 0x07 1 .u8 (Dflt.const 0),  -- Transfer status
    ro 0x08 1 .u32 (Dflt.const 0),  -- Last CRC
    ro 0x09 1 .u32 (Dflt.const 0),  -- Transfer number
    ro 0x0A 1 .u32 (Dflt.const 0)  -- Lines dropped in transfer
  ]

/-- R37: 0x5400–0x55FF, DMA and streams. -/
def dictDma : List Family := [fam5400, fam5410, fam5430, fam5440, fam5460]

/-- R240: the rows of 0x5600. -/
def fam5600 : Family where
  base := 0x5600
  count := 1
  stride := 0x1
  rows := [
    ro 0x01 64 .u16 (Dflt.const 0)  -- Line queue count CHn
  ]

/-- R240: the rows of 0x5601. -/
def fam5601 : Family where
  base := 0x5601
  count := 1
  stride := 0x1
  rows := [
    rw 0x01 64 .u16 .always (.clamp 0 32768 []) (Dflt.const 0)  -- Line queue level CHn
  ]

/-- R240: the rows of 0x5602. -/
def fam5602 : Family where
  base := 0x5602
  count := 1
  stride := 0x1
  rows := [
    ro 0x01 64 .u32 (Dflt.const 0)  -- Overruns CHn
  ]

/-- R240: the rows of 0x5603. -/
def fam5603 : Family where
  base := 0x5603
  count := 1
  stride := 0x1
  rows := [
    ro 0x01 64 .u32 (Dflt.const 0)  -- Parity errors CHn
  ]

/-- R240: the rows of 0x5604. -/
def fam5604 : Family where
  base := 0x5604
  count := 1
  stride := 0x1
  rows := [
    ro 0x01 64 .u32 (Dflt.const 0)  -- Level crossings CHn
  ]

/-- R240: the rows of 0x5605. -/
def fam5605 : Family where
  base := 0x5605
  count := 1
  stride := 0x1
  rows := [
    ro 0x01 64 .u16 (Dflt.const 0)  -- Peak count CHn
  ]

/-- R240: the rows of 0x5606. -/
def fam5606 : Family where
  base := 0x5606
  count := 1
  stride := 0x1
  rows := [
    wo 0x01 1 .u8 .always (.only [(1, 1)]) (Dflt.const 0)  -- Clear peaks
  ]

/-- R240: the rows of 0x5607. -/
def fam5607 : Family where
  base := 0x5607
  count := 1
  stride := 0x1
  rows := [
    ro 0x01 1 .u64 (Dflt.const 0),  -- Channels overrun
    ro 0x02 1 .u64 (Dflt.const 0),  -- Channels at level
    wo 0x03 1 .u8 .always (.only [(1, 1)]) (Dflt.const 0)  -- Clear channel bits
  ]

/-- R241: the rows of 0x5610 + n × 0x1, n < 8. -/
def fam5610 : Family where
  base := 0x5610
  count := 8
  stride := 0x1
  rows := [
    ro 0x01 1 .u16 (Dflt.const 0),  -- Blocks allocated
    ro 0x02 1 .u16 (Dflt.const 0),  -- Egress fill
    ro 0x03 1 .u16 (Dflt.const 0),  -- Packets queued, class 0
    ro 0x04 1 .u16 (Dflt.const 0),  -- Packets queued, class 1
    ro 0x05 1 .u16 (Dflt.const 0),  -- Packets queued, class 2
    ro 0x06 1 .u16 (Dflt.const 0),  -- Packets queued, class 3
    rw 0x07 1 .u16 .always (.clamp 0 1000 []) (Dflt.const 0),  -- Egress level
    ro 0x08 1 .u32 (Dflt.const 0),  -- Egress level crossings
    ro 0x09 1 .u32 (Dflt.const 0),  -- Lines dropped, no space
    ro 0x0A 1 .u32 (Dflt.const 0),  -- Statistics packets dropped
    ro 0x0B 1 .u32 (Dflt.const 0),  -- Packets discarded
    wo 0x0C 1 .u8 .always (.only [(4, 4), (8, 8), (12, 12)]) (Dflt.const 0),  -- Flush request
    ro 0x0D 1 .u8 (Dflt.const 0),  -- Flush status
    ro 0x0E 1 .u32 (Dflt.const 0),  -- Flushes
    ro 0x0F 1 .u32 (Dflt.const 0),  -- Egress parity errors
    ro 0x10 1 .u16 (Dflt.const 0)  -- Peak fill
  ]

/-- R37: 0x5600–0x57FF, queues. -/
def dictQueues : List Family := [fam5600, fam5601, fam5602, fam5603, fam5604, fam5605, fam5606, fam5607, fam5610]

/-- R289: the rows of 0x5800 + n × 0x1, n < 16. -/
def fam5800 : Family where
  base := 0x5800
  count := 16
  stride := 0x1
  rows := [
    ro 0x01 1 .u8 (Dflt.const 0),  -- Link state
    ro 0x02 1 .u16 (Dflt.const 0),  -- Speed
    rw 0x03 1 .u16 .always (.steps [1250, 2500, 3125, 5000, 6250, 10000, 12500]) (Dflt.const 12500),  -- Maximum speed
    rw 0x04 1 .u8 .always (.only [(0, 1)]) (fun u _ => if u = 0 then 1 else 0),  -- Event packets
    rw 0x05 1 .u8 .always (.only [(0, 1)]) (Dflt.const 0),  -- Trigger packets
    ro 0x06 1 .u16 (Dflt.const 0),  -- Payload budget
    ro 0x07 1 .u64 (Dflt.const 0),  -- Payload bytes sent
    ro 0x08 1 .u32 (Dflt.const 0),  -- Packets sent
    ro 0x09 1 .u32 (Dflt.const 0),  -- Packets resent
    ro 0x0A 1 .u32 (Dflt.const 0),  -- Losses
    ro 0x0B 1 .u32 (Dflt.const 0),  -- Uplink packet errors
    ro 0x0C 1 .u8 (Dflt.const 0),  -- Group master link
    ro 0x0D 1 .u8 (fun u _ => u),  -- Connection position
    ro 0x0E 1 .u16 (Dflt.const 0),  -- Link occupancy
    ro 0x0F 1 .u64 (Dflt.const 0),  -- Last loss time
    ro 0x10 1 .u32 (Dflt.const 0)  -- Trigger packets dropped
  ]

/-- R289: the rows of 0x5820. -/
def fam5820 : Family where
  base := 0x5820
  count := 1
  stride := 0x1
  rows := [
    ro 0x01 1 .u32 (Dflt.const 16384),  -- Stream packet size in use
    rw 0x02 1 .u16 .always (.clamp 10 10000 []) (Dflt.const 20)  -- Loss filter
  ]

/-- R290: the rows of 0x5880 + n × 0x1, n < 16. -/
def fam5880 : Family where
  base := 0x5880
  count := 16
  stride := 0x1
  rows := [
    ro 0x01 1 .u8 (Dflt.const 0),  -- Power admitted
    ro 0x02 1 .u16 (Dflt.const 0),  -- Connection current
    ro 0x03 1 .u16 (Dflt.const 0),  -- Connection power
    rw 0x04 1 .u8 .always (.only [(0, 1)]) (Dflt.const 1)  -- Admission enable
  ]

/-- R372: the rows of 0x5890. -/
def fam5890 : Family where
  base := 0x5890
  count := 1
  stride := 0x1
  rows := [
    rw 0x01 1 .u16 .standby (.clamp 20000 26000 []) (Dflt.const 24000),  -- Nominal connection voltage V_nom
    ro 0x02 1 .u16 (Dflt.const 0),  -- Connections admitted
    ro 0x03 1 .u32 (Dflt.const 0),  -- Admitted power limit
    ro 0x04 1 .u32 (Dflt.const 0),  -- Total connection power
    rw 0x05 1 .u16 .always (.clamp 10 100 []) (Dflt.const 10),  -- Admission spacing
    rw 0x06 1 .u8 .always (.clamp 1 10 []) (Dflt.const 3)  -- Admission attempt limit
  ]

/-- R372: the rows of 0x5891. -/
def fam5891 : Family where
  base := 0x5891
  count := 1
  stride := 0x1
  rows := [
    rw 0x01 1 .u8 .always (.only [(0, 1)]) (Dflt.const 1),  -- Auxiliary input enable
    ro 0x02 1 .u32 (Dflt.const 0),  -- Auxiliary voltage
    ro 0x03 1 .u8 (Dflt.const 0),  -- Auxiliary state
    ro 0x06 1 .u32 (Dflt.const 0)  -- Auxiliary reversals
  ]

/-- R372: the rows of 0x5892. -/
def fam5892 : Family where
  base := 0x5892
  count := 1
  stride := 0x1
  rows := [
    ro 0x01 1 .u8 (Dflt.const 0)  -- Rail status
  ]

/-- R372: the rows of 0x58A0 + n × 0x1, n < 16. -/
def fam58A0 : Family where
  base := 0x58A0
  count := 16
  stride := 0x1
  rows := [
    ro 0x01 1 .u8 (Dflt.const 0),  -- Connection state
    ro 0x02 1 .u32 (Dflt.const 0),  -- Sheds
    ro 0x03 1 .u32 (Dflt.const 0)  -- Overloads
  ]

/-- R37: 0x5800–0x59FF, links and link power. -/
def dictLinks : List Family := [fam5800, fam5820, fam5880, fam5890, fam5891, fam5892, fam58A0]

/-- R389: the rows of 0x5A00. -/
def fam5A00 : Family where
  base := 0x5A00
  count := 1
  stride := 0x1
  rows := [
    ro 0x01 1 .u8 (Dflt.const 0),  -- Energy state
    ro 0x02 1 .u32 (Dflt.const 0),  -- Account A
    ro 0x03 1 .u32 (Dflt.const 0),  -- Account capacity A_max
    ro 0x04 1 .u32 (Dflt.const 0),  -- Input budget P_in
    ro 0x05 1 .u32 (Dflt.const 0),  -- Consumption P_out
    rw 0x06 1 .u32 .always .any (Dflt.const 48000),  -- Bank full voltage V_full
    rw 0x07 1 .u16 .always (.clamp 50 900 []) (Dflt.const 250),  -- Account reserve
    rw 0x08 1 .u16 .always (.clamp 0 300 []) (Dflt.const 50),  -- Budget margin
    rw 0x09 1 .u32 .always (.clamp 0 50000 []) (Dflt.const 4000),  -- Board base reservation
    rw 0x0A 1 .u16 .always (.clamp 500 1000 []) (Dflt.const 880),  -- Board rail efficiency η_b
    rw 0x0B 1 .u32 .standby (.clamp 0 100000 []) (Dflt.const 0),  -- Stepper reservation
    rw 0x0C 1 .u16 .always (.clamp 10 10000 []) (Dflt.const 100),  -- Restore hold
    ro 0x0D 1 .u32 (Dflt.const 0),  -- Line-rate limit L_lim
    ro 0x0E 1 .u16 (Dflt.const 1000),  -- Lamp duty scale D
    ro 0x0F 1 .u8 (Dflt.const 0),  -- Recipe unsustainable
    ro 0x10 1 .u32 (Dflt.const 0),  -- Auxiliary credit P_X
    ro 0x11 1 .u32 (Dflt.const 0),  -- Declarations
    ro 0x12 1 .u32 (Dflt.const 0),  -- Budget losses
    ro 0x13 1 .u8 (Dflt.const 0),  -- DRAM rate
    rw 0x14 1 .u8 .standby (.only [(0, 1)]) (Dflt.const 0),  -- DRAM rate policy
    ro 0x15 1 .u16 (Dflt.const 1000)  -- Thermal factor f_th
  ]

/-- R390: the rows of 0x5A01. -/
def fam5A01 : Family where
  base := 0x5A01
  count := 1
  stride := 0x1
  rows := [
    rw 0x01 1 .i16 .always .any (Dflt.const 1520),  -- Die warn temperature
    rw 0x02 1 .i16 .always .any (Dflt.const 1600),  -- Die limit temperature
    rw 0x03 1 .i16 .always (.clamp 480 1600 []) (Dflt.const 1040),  -- Sensor-board limit
    ro 0x04 1 .i16 (Dflt.const 0),  -- Hottest die temperature
    ro 0x05 1 .u8 (Dflt.const 0),  -- Hottest die sensor
    ro 0x06 1 .u8 (Dflt.const 0),  -- Thermal state
    ro 0x07 1 .u32 (Dflt.const 0)  -- Thermal shutdowns
  ]

/-- R390: the rows of 0x5A02. -/
def fam5A02 : Family where
  base := 0x5A02
  count := 1
  stride := 0x1
  rows := [
    ro 0x01 16 .i16 (Dflt.const 0)  -- Die sensor k temperature
  ]

/-- R391: the rows of 0x5A10. -/
def fam5A10 : Family where
  base := 0x5A10
  count := 1
  stride := 0x1
  rows := [
    ro 0x01 10 .u32 (Dflt.const 0)  -- Reservation of consumer c
  ]

/-- R391: the rows of 0x5A11. -/
def fam5A11 : Family where
  base := 0x5A11
  count := 1
  stride := 0x1
  rows := [
    ro 0x01 10 .u32 (Dflt.const 0)  -- Grant of consumer c
  ]

/-- R391: the rows of 0x5A20 + n × 0x1, n < 8. -/
def fam5A20 : Family where
  base := 0x5A20
  count := 8
  stride := 0x1
  rows := [
    rw 0x01 1 .u32 .always (.clamp 1000 80000 []) (Dflt.const 30000),  -- Nominal string voltage
    ro 0x02 1 .u16 (Dflt.const 1000)  -- Duty scale
  ]

/-- R392: the rows of 0x5A30. -/
def fam5A30 : Family where
  base := 0x5A30
  count := 1
  stride := 0x1
  rows := [
    rw 0x01 1 .u32 .always (.clamp 0 1000000 []) (Dflt.const 0),  -- Trim lines after a job switch
    rw 0x02 1 .u32 .always .any (Dflt.const 0),  -- Allowed gap start
    rw 0x03 1 .u32 .always (.clamp 0 2147483648 []) (Dflt.const 0),  -- Allowed gap length
    rw 0x04 1 .u32 .always .any (Dflt.const 0),  -- Allowed gap repeat
    rw 0x05 1 .u8 .always (.only [(0, 1)]) (Dflt.const 1),  -- Trim while stopped
    ro 0x06 1 .u32 (Dflt.const 0),  -- Trims placed
    ro 0x07 1 .u32 (Dflt.const 0),  -- Trims overran window
    ro 0x08 1 .u8 (Dflt.const 0)  -- Clusters awaiting trim
  ]

/-- R37: 0x5A00–0x5BFF, energy scheduler. -/
def dictEnergy : List Family := [fam5A00, fam5A01, fam5A02, fam5A10, fam5A11, fam5A20, fam5A30]

/-- R450: the rows of 0x5C00. -/
def fam5C00 : Family where
  base := 0x5C00
  count := 1
  stride := 0x1
  rows := [
    ro 0x01 1 .u32 (Dflt.const 1),  -- Next sequence
    ro 0x02 1 .u16 (Dflt.const 0),  -- Live entries held
    ro 0x03 1 .u32 (Dflt.const 0),  -- Archive entries held
    ro 0x04 1 .u32 (Dflt.const 0),  -- Entries lost
    wo 0x05 1 .u8 .always (.only [(1, 15)]) (Dflt.const 0),  -- Clear latches by class
    wo 0x06 1 .u32 .always .any (Dflt.const 0),  -- Raise host event
    ro 0x07 1 .u32 (Dflt.const 0),  -- Emergencies dropped
    ro 0x08 1 .u16 (Dflt.const 0)  -- Sources latched
  ]

/-- R450: the rows of 0x5C01. -/
def fam5C01 : Family where
  base := 0x5C01
  count := 1
  stride := 0x1
  rows := [
    ro 0x00 1 .dom (Dflt.const 0)  -- Live log
  ]

/-- R450: the rows of 0x5C02. -/
def fam5C02 : Family where
  base := 0x5C02
  count := 1
  stride := 0x1
  rows := [
    ro 0x00 1 .dom (Dflt.const 0)  -- Archive
  ]

/-- R450: the rows of 0x5C10 + n × 0x1, n < 16. -/
def fam5C10 : Family where
  base := 0x5C10
  count := 16
  stride := 0x1
  rows := [
    rw 0x01 1 .u8 .always (.only [(0, 2)]) (Dflt.const 0),  -- GPp mode
    rw 0x02 1 .u8 .always (.only [(0, 1)]) (Dflt.const 0),  -- GPp polarity
    ro 0x03 1 .u8 (Dflt.const 0)  -- GPp level
  ]

/-- R450: the rows of 0x5C20. -/
def fam5C20 : Family where
  base := 0x5C20
  count := 1
  stride := 0x1
  rows := [
    ro 0x01 16 .u8 (Dflt.const 0)  -- TGgg output state
  ]

/-- R450: the rows of 0x5C21. -/
def fam5C21 : Family where
  base := 0x5C21
  count := 1
  stride := 0x1
  rows := [
    ro 0x01 16 .u32 (Dflt.const 0)  -- TGgg output shorts
  ]

/-- R37: 0x5C00–0x5FFF, diagnostics. -/
def dictDiag : List Family := [fam5C00, fam5C01, fam5C02, fam5C10, fam5C20, fam5C21]

/-- R37: the families whose index range holds `idx`. -/
def familiesAt (idx : Nat) : List Family :=
  if idx < 0x2000 then dictComm
  else if idx < 0x2200 then dictState
  else if idx < 0x2800 then dictUpdate
  else if idx < 0x3000 then dictEvents
  else if idx < 0x4000 then dictChannels
  else if idx < 0x4200 then dictShading
  else if idx < 0x4400 then dictRecipes
  else if idx < 0x4800 then dictRidgeline
  else if idx < 0x4C00 then dictTransport
  else if idx < 0x4E00 then dictLamps
  else if idx < 0x5000 then dictLantern
  else if idx < 0x5400 then dictAux
  else if idx < 0x5600 then dictDma
  else if idx < 0x5800 then dictQueues
  else if idx < 0x5A00 then dictLinks
  else if idx < 0x5C00 then dictEnergy
  else if idx < 0x6000 then dictDiag
  else []

/-- Position of `idx` in a family, if it is one of its indices. -/
def Family.pos (f : Family) (idx : Nat) : Option Nat :=
  if f.base ≤ idx ∧ idx < f.base + f.count * f.stride ∧ (idx - f.base) % f.stride = 0 then some ((idx - f.base) / f.stride)
  else none

/-- The family that holds `idx`, with its position there. -/
def findFamily (idx : Nat) : List Family → Option (Family × Nat)
  | [] => none
  | f :: fs => match f.pos idx with
    | some u => some (f, u)
    | none => findFamily idx fs

/-- The row of subindex `sub`, with its position in the row. -/
def findSub (sub : Nat) : List Row → Option (Row × Nat)
  | [] => none
  | r :: rs => if r.sub ≤ sub ∧ sub < r.sub + r.subN then some (r, sub - r.sub) else findSub sub rs

/-- The highest subindex that an index's table lists (R485). -/
def highestSub (rows : List Row) : Nat := rows.foldl (fun m r => max m (r.sub + r.subN - 1)) 0

/-- An entry found in the tables: its row and the default value at its place. -/
structure Entry where
  row : Row
  dflt : Int

/-- R32, R485: the entry at `idx:sub`, `none` where the tables list none.
Subindex 0 of an index that lists entries from 1 on holds the highest subindex. -/
def lookup (idx sub : Nat) : Option Entry :=
  match findFamily idx (familiesAt idx) with
  | none => none
  | some (f, u) => match findSub sub f.rows with
    | some (r, i) => some ⟨r, r.dflt u i⟩
    | none => if sub = 0 then some ⟨ro 0 1 .u8 (Dflt.const (highestSub f.rows)), highestSub f.rows⟩ else none

/-- The default of `idx:sub`; 0 where no entry exists. -/
def dfltAt (idx sub : Nat) : Int := match lookup idx sub with
  | some e => e.dflt
  | none => 0

/-- R33: the size of a type in bits; 0 for strings and domains. -/
def Ty.bits : Ty → Nat
  | .u8 | .i8 => 8
  | .u16 | .i16 => 16
  | .u32 | .i32 | .real32 => 32
  | .u64 | .i64 => 64
  | .str | .oct | .dom => 0

/-- R33: the signed types. -/
def Ty.signed : Ty → Bool
  | .i8 | .i16 | .i32 | .i64 => true
  | _ => false

/-- A value brought into a type's range by wrapping, as counters that wrap are kept. -/
def Ty.wrap (t : Ty) (v : Int) : Int :=
  if t.bits = 0 then v
  else if t.signed then (v + 2 ^ (t.bits - 1)) % 2 ^ t.bits - 2 ^ (t.bits - 1)
  else v % 2 ^ t.bits

/-- Whether a value lies in a type's range. -/
def Ty.fits (t : Ty) (v : Int) : Bool := t.wrap v = v

/-- The type of `idx:sub`. -/
def tyAt (idx sub : Nat) : Ty := match lookup idx sub with
  | some e => e.row.ty
  | none => .u32

end Sys2Proof.Machine
end

