-- ==== Sys2Proof/Machine/State.lean ====
section
/-!
DEFINITION. State: everything the spec gives the block, as plain data, with the reset state.
Every entry of the object dictionary lives in `dict` (an unlisted entry reads as its default); the structures here hold
the state behind the entries.
-/
namespace Sys2Proof.Machine

/-! ## Events (chapter 19) -/

/-- R441: one log record. `wide` entries carry their values in `a` and `b`. -/
structure LogRec where
  seq : Nat
  time : Nat
  src : Nat
  cls : Nat
  wide : Bool
  boot : Bool
  rep : Bool
  detail : Nat
  a : Nat
  b : Nat
  deriving DecidableEq, Repr, Inhabited

/-- R442: the detail of a raise: one value of 16 bits, or the two wide values. -/
inductive Detail
  | narrow (d : Nat)
  | wide (a b : Nat)
  deriving DecidableEq, Repr, Inhabited

/-- R437: a raise presented to the arbiter and not yet stamped. -/
structure Present where
  src : Nat
  detail : Detail
  deriving DecidableEq, Repr, Inhabited

/-- The event arbiter, the log and the routes. -/
structure EventSt where
  /-- R437: pending presentations, ascending source. -/
  pres : List Present
  /-- R440: the live ring, newest first. -/
  log : List LogRec
  /-- R440: sequence numbers in the live ring that are not yet archived, oldest first. -/
  unarchived : List Nat
  /-- R440: the DRAM archive, newest first. -/
  archive : List LogRec
  /-- R440: entries lost since the last EV0992. -/
  lostSince : Nat
  /-- R445: queued emergencies, oldest first, each with the error register after its entry. -/
  emergencies : List (LogRec × Nat)
  /-- R445: the eight bytes of the emergency last sent. -/
  lastEmergency : List Byte
  /-- R449: when each output's 10 ms pulse ends. -/
  pulse : Vector (Option Nat) 16
  /-- R448: entries offered to the Lantern engines and not yet looked at by a frame. -/
  offers : List LogRec
  /-- R367: entries made in this Trailhead and the highest class among them. -/
  bootCount : Nat
  bootClass : Nat
  /-- A fatal-class entry has been made and its stop (R23) has not acted yet. -/
  fatal : Bool
  deriving DecidableEq, Repr, Inhabited

/-! ## The dictionary's doors (chapter 2) -/

/-- What the door that made an access answers: its outcome code (R39), the values read and the bytes read. -/
structure Reply where
  code : Nat
  vals : List Int
  data : List Byte
  deriving DecidableEq, Repr, Inhabited

/-- R41, R54 to R56, R64: what the arbiter keeps for one master. -/
structure Master where
  /-- The read shadow: the entry's key and its 64-bit value. -/
  shadow : Option (Nat × Nat)
  /-- The write buffer: the entry's key and the low half. -/
  wbuf : Option (Nat × Nat)
  /-- The result shadow: the result object and its values from subindex 2 on. -/
  res : Option (Nat × List Int)
  /-- The answer to this master's last access (the model's own record of what left by the door). -/
  reply : Reply
  /-- R53: when the access whose acknowledgement is owed was granted, and the wait acknowledgements sent for it. -/
  asked : Nat
  waits : Nat
  deriving DecidableEq, Repr, Inhabited

/-- R57, R486: a bulk window's own content and time of last data access. -/
structure Window where
  /-- Bytes written to a write window that works on a buffer. -/
  buf : List Byte
  last : Nat
  deriving DecidableEq, Repr, Inhabited

/-- R70: one clamp-report entry. `waiting`: its EV0832 entry is not stamped yet. -/
structure ClampRec where
  seq : Nat
  waiting : Bool
  applied : Int
  offered : Int
  source : Nat
  link : Nat
  index : Nat
  sub : Nat
  reason : Nat
  deriving DecidableEq, Repr, Inhabited

/-- R65: one record of a stored user image; `ok`: its record check matches. -/
structure UserRec where
  index : Nat
  sub : Nat
  len : Nat
  value : Nat
  ok : Bool
  deriving DecidableEq, Repr, Inhabited

/-- R64, R65: one of the two user-image slots in NOR. -/
structure UserSlot where
  /-- The start block is valid. -/
  started : Bool
  format : Nat
  gen : Nat
  recs : List UserRec
  /-- The end block is present and its CRC-32 matches. -/
  whole : Bool
  deriving DecidableEq, Repr, Inhabited

/-- R43: the EtherCAT state machine. -/
inductive EcState
  | init | preOp | safeOp | op | boot
  deriving DecidableEq, Repr, Inhabited

/-- R43 to R50: the EtherCAT slave. -/
structure EtherCat where
  st : EcState
  /-- AL status code. -/
  al : Nat
  /-- The error answer of the last mailbox transfer (R44, R413); 0 for none. -/
  mailboxError : Nat
  /-- R49: the acting press position and press speed. -/
  actPos : Nat
  actSpeed : Int
  /-- R49: committed values (position, speed, job number) that wait for Sync0. -/
  committed : Option (Nat × Int × Nat)
  /-- R38: sync modes latched at Pre-Op to Safe-Op. -/
  outSync : Nat
  inSync : Nat
  deriving DecidableEq, Repr, Inhabited

/-- The arbiter, the windows, the layers. -/
structure DoorSt where
  masters : Vector Master 17
  windows : Vector Window 4
  /-- R63: fresh bits of each result object, one bit per master. -/
  fresh : List (Nat × Int)
  clamps : List ClampRec
  /-- R70: EV0835 has been raised since the last clear. -/
  clampLostTold : Bool
  ec : EtherCat
  /-- R65, R69: the two user-image slots in NOR; both are to be erased at the next start; the snapshot being written. -/
  slots : Vector UserSlot 2
  discard : Bool
  saving : Option (List UserRec)
  deriving DecidableEq, Repr, Inhabited

/-! ## Device state (chapter 1) -/

/-- R21: the device states. -/
inductive DevState
  | trailhead | bivouac | standby | scanning | paused
  deriving DecidableEq, Repr, Inhabited

/-- R23: a transition that is running or waits for the line boundary. -/
inductive Move
  | none
  | entering
  | waking
  | boundary (goTo : DevState)
  deriving DecidableEq, Repr, Inhabited

/-- The device state machine. -/
structure DevSt where
  st : DevState
  move : Move
  /-- R24: the newest accepted request not yet reached. -/
  goal : DevState
  /-- R24: the master whose write of 3 waits for the combination check. -/
  held : Option Nat
  ready : Bool
  /-- R30: the clusters that run, fixed at entry to Scanning. -/
  running : Nat
  /-- R23: when Standby was entered or last left idle. -/
  standbySince : Nat
  deriving DecidableEq, Repr, Inhabited

/-! ## Power and start (chapter 15) -/

/-- R363: how far a start has come. -/
inductive Boot
  | unpowered | filter | rails | core | ports | responder | banked | loaded | done | haltRail | haltBank
  deriving DecidableEq, Repr, Inhabited

/-- R354: what is timed for one connection. -/
structure Conn where
  /-- When the present condition (presence, enabling, shed, fault cleared) began. -/
  since : Nat
  attempts : Nat
  deriving DecidableEq, Repr, Inhabited

/-- Power path, rails and start. -/
structure PowerSt where
  boot : Boot
  /-- When the start began (first rise of VDD_AON, or the warm trigger). -/
  begun : Nat
  warm : Bool
  kind : Nat
  /-- The rail step in progress, 1 to 7; 0 for none. -/
  step : Nat
  attempt : Nat
  /-- R361: when the rail sequence begins again. -/
  retryAt : Option Nat
  /-- R364: BOOT_SEL as sampled when the power-on filter released. -/
  bootSel : Bool
  bank : Nat
  reason : Nat
  /-- R365: groups loaded at the second attempt; banks whose reload has failed in this start. -/
  reload : Nat
  failed : Nat
  firstConn : Nat
  /-- When a PEN was last asserted. -/
  lastPen : Nat
  conns : Vector Conn 16
  /-- R359: since when the auxiliary input has been in range. -/
  vauxSince : Nat
  deriving DecidableEq, Repr, Inhabited

/-! ## Sensor timing (chapter 3) -/

/-- R83, R487: a trigger as it reaches a group. -/
structure Trig where
  time : Nat
  line : Nat
  origin : Nat
  plane : Nat
  deriving DecidableEq, Repr, Inhabited

/-- R80, R81: an exposure cycle. -/
structure Cycle where
  start : Nat
  line : Nat
  plane : Nat
  origin : Nat
  /-- R84: the record's timestamp and integration centre. -/
  stamp : Nat
  center : Int
  lateness : Nat
  late : Bool
  drop : Bool
  /-- R81: the cycle lights no strobe and makes no frame of its own integration. -/
  unlit : Bool
  /-- R129: the bank and recipe of its integration. -/
  bank : Nat
  recipe : Nat
  /-- R302, R379: its plane is underexposed; its strobe was placed while the recipe was declared unsustainable. -/
  under : Bool
  declared : Bool
  deriving DecidableEq, Repr, Inhabited

/-- R85: an exposure record. -/
structure ExpRec where
  time : Nat
  line : Nat
  group : Nat
  plane : Nat
  origin : Nat
  late : Bool
  drop : Bool
  warming : Bool
  lateness : Nat
  deriving DecidableEq, Repr, Inhabited

/-- One timing group. -/
structure Group where
  running : Option Cycle
  /-- R81: the integration of the previous cycle, read in the running one when the lag is 1. -/
  prev : Option Cycle
  /-- A trigger whose start edge has not come. -/
  due : Option Trig
  /-- R87: the latched trigger. -/
  latch : Option Trig
  /-- R80: self-timed planes still to run in this line cycle. -/
  selfTimed : Nat
  /-- R80, exposure unit: the plane of the next exposure cycle. -/
  nextPlane : Nat
  /-- R73: the synthesiser setting, in steps of 25 MHz × 2^-24. -/
  clock : Nat
  priming : Bool
  flush : Bool
  dropBefore : Bool
  /-- R86: the 256 newest exposure records, newest first. -/
  records : List ExpRec
  /-- R127, R156: the shading bank and the recipe in use by this group (255: none). -/
  bank : Nat
  recipe : Nat
  /-- R453: when the next retry of shorted outputs is due. -/
  retryAt : Nat
  /-- R76: the integration centre offset in force since the last plane-0 cycle. -/
  offset : Int
  deriving DecidableEq, Repr, Inhabited

/-- R91: one channel's service. -/
structure Service where
  /-- A departure waits for the next exposure cycle start. -/
  leaving : Bool
  /-- R107: status 2 waits for the next exposure cycle start. -/
  losing : Bool
  /-- When the waiting departure or loss was made. -/
  asked : Nat
  /-- Grant time of the return. -/
  returned : Nat
  /-- Warming cycles done. -/
  warmed : Nat
  deriving DecidableEq, Repr, Inhabited

/-- Timing groups, triggers, service. -/
structure TimingSt where
  groups : Vector Group 16
  service : Vector Service 64
  /-- R487: the number the next trigger opens. -/
  nextLine : Nat
  /-- R487: triggers already counted in the present run of the exposure unit. -/
  inRun : Nat
  deriving DecidableEq, Repr, Inhabited

/-! ## Front ends (chapter 4) -/

/-- What a lane has latched at a cycle start (R115, R129). -/
structure Lane where
  mult : List Nat
  bank : Nat
  plane : Nat
  /-- R128: corrected with the identity entry. -/
  identity : Bool
  /-- R120: temperature held or none while the temperature terms are on. -/
  held : Bool
  deriving DecidableEq, Repr, Inhabited

/-- R78: the readout of one exposure cycle by one channel. -/
structure Reading where
  /-- When the cycle began. -/
  start : Nat
  lane : Lane
  /-- The fine offset in force. -/
  f : Int
  /-- R107: its signal check failed. -/
  lost : Bool
  /-- R81, R129: line cycle and plane of the integration read; none where the readout is discarded. -/
  pix : Option (Nat × Nat)
  /-- R226: a frame is open, begun while warming or not, with the lines missed before it. -/
  framed : Bool
  warming : Bool
  missed : Nat
  /-- Its black pixels, and its channel line, have ended. -/
  blackDone : Bool
  lineDone : Bool
  deriving DecidableEq, Repr, Inhabited

/-- One front end and its black-level loop. D is entry 0x3001+n×0x40:08; F and D here are in 1/16 LSB and LSB. -/
structure FrontEnd where
  /-- R103: the fine offset after the last update. -/
  f : Int
  /-- R104: a written DAC value waits for the next exposure cycle start. -/
  written : Bool
  /-- R108: consecutive passing lines. -/
  passes : Nat
  /-- The readout of the group's last cycle, and of the one before: its frame closes after the next cycle has begun (R226). -/
  cur : Option Reading
  old : Option Reading
  /-- R103: loop_at_limit after the last update. -/
  atLimit : Bool
  /-- R109: the running result period: lines, sum of b in 1/16 LSB, sum of B·Σc² − (Σc)², over-range samples. -/
  lines : Nat
  sumB : Int
  sumSq : Nat
  beyond : Nat
  failed : Bool
  idle : Bool
  /-- R95: the raised reset-phase clamp has been reported for the present phases. -/
  phaseTold : Bool
  deriving DecidableEq, Repr, Inhabited

/-! ## Shading (chapter 5) -/

/-- One shading bank: its domain content (R124) and the entries with bad parity (R137). -/
structure Bank where
  bytes : List Byte
  bad : List Nat
  deriving DecidableEq, Repr, Inhabited

/-- R118: a thermistor as the lanes see it. -/
structure Thermistor where
  usable : Bool
  temp : Int
  time : Nat
  deriving DecidableEq, Repr, Inhabited

/-- R127, R156: a change of bank (and recipe) that groups make at their next plane-0 cycle of line `line` or later. -/
structure Change where
  line : Nat
  bank : Nat
  recipe : Nat
  deriving DecidableEq, Repr, Inhabited

/-- The phases of a capture or a measurement (R133, R144). -/
inductive Phase
  | base | darkSettle | darkAverage | darkComputing | waitLamp | whiteSettle | whiteAverage | computing
  deriving DecidableEq, Repr, Inhabited

/-- R135: the parameters a capture or a measurement takes at its start. -/
structure CapPar where
  lines : Nat
  settle : Nat
  base : Nat
  target : Nat
  repl : Nat
  darkThr : Nat
  whiteThr : Nat
  minWhite : Nat
  maxDef : Nat
  deriving DecidableEq, Repr, Inhabited

/-- R132, R133: a running capture. Lists run over the shadow's entries. -/
structure Capture where
  kind : Nat
  phase : Phase
  recipe : Nat
  planes : Nat
  par : CapPar
  rate : Nat
  done : Nat
  sumDark : List Int
  dark : List Int
  darkBad : List Nat
  sumWhite : List Int
  beyond : List Nat
  /-- Sums of T_seg at cycle starts, and how many, by segment. -/
  tempSum : List Int
  tempN : List Nat
  /-- Segments that were held or had no value while the dark, or the white, was accumulated. -/
  darkHeld : Nat
  tempHeld : Nat
  skipped : List Nat
  /-- When it was accepted; when its last line cycle, or the wait for the lamp grant, began. -/
  begun : Nat
  since : Nat
  /-- When averaging began: readouts of cycles before then are not summed. -/
  sumFrom : Nat
  aborting : Bool
  deriving DecidableEq, Repr, Inhabited

/-- Banks, temperatures, capture. -/
structure ShadeSt where
  banks : Vector Bank 2
  th : Vector Thermistor 16
  /-- R127: a swap that waits for the first trigger at or after this time. -/
  swapAt : Option Nat
  change : Option Change
  /-- R131: the shadow takes a copy. -/
  copying : Bool
  capture : Option Capture
  report : List Byte
  /-- R137: EV0844 raised since the last swap. -/
  parityTold : Bool
  deriving DecidableEq, Repr, Inhabited

/-! ## Basis sets and recipes (chapter 6) -/

/-- One basis set: content in DRAM and the copy in NOR. -/
structure Basis where
  bytes : List Byte
  nor : List Byte
  deriving DecidableEq, Repr, Inhabited

/-- R144: a running basis measurement. Lists run over the set's pixels. -/
structure Measure where
  set : Nat
  tables : Nat
  groups : List Nat
  currents : List Nat
  phase : Phase
  table : Nat
  par : CapPar
  rate : Nat
  done : Nat
  sum : List Int
  dark : List Int
  darkBad : List Nat
  resp : List (List Nat)
  /-- Pixels flagged in each table. -/
  bad : List (List Nat)
  beyond : List Nat
  /-- Sums of T_seg at cycle starts, and how many, by segment. -/
  tempSum : List Int
  tempN : List Nat
  skipped : List Nat
  begun : Nat
  since : Nat
  /-- When averaging began: readouts of cycles before then are not summed. -/
  sumFrom : Nat
  aborting : Bool
  deriving DecidableEq, Repr, Inhabited

/-- R154 to R158: an armed switch. -/
structure Armed where
  recipe : Nat
  job : Nat
  source : Nat
  pos : Nat
  /-- R159: the internal arming of the startup build. -/
  startup : Bool
  /-- 1 waiting for the grant, 2 blending, 3 shadow ready. -/
  phase : Nat
  /-- R158: the condition came before the shadow was ready. -/
  deferred : Bool
  granted : Nat
  readyAt : Nat
  /-- R155: the condition time. -/
  cond : Option Nat
  /-- R158: the line cycle number of the first trigger at or after the condition. -/
  condLine : Option Nat
  /-- R155: the trigger a Casby command names. -/
  casbyTrig : Option Nat
  /-- R155: the switch trigger that has come: its line cycle number, time and extended position. -/
  due : Option (Nat × Nat × Int)
  /-- R152: the minimum white level and defect maximum at the blend's grant; R160: its dark source. -/
  minWhite : Nat
  maxDef : Nat
  ownDark : Bool
  deriving DecidableEq, Repr, Inhabited

/-- R157: a switch of recipe as Ridgeline sees it. -/
structure Switched where
  line : Nat
  pos : Int
  recipe : Nat
  job : Nat
  oldRecipe : Nat
  oldJob : Nat
  source : Nat
  deferral : Nat
  time : Nat
  deriving DecidableEq, Repr, Inhabited

/-- Basis sets, recipes, the switch. -/
structure RecipeSt where
  basis : Vector Basis 8
  recipes : Vector (List Byte) 32
  norRecipes : Vector (List Byte) 32
  /-- R149: recipes whose NOR write runs. -/
  writing : Nat
  armed : Option Armed
  measure : Option Measure
  /-- R146: the set an import is computing, and its new content. -/
  importing : Option Nat
  imported : List Byte
  /-- R159: Standby has been entered in this start; the startup build is still to be made. -/
  stood : Bool
  startupDue : Bool
  /-- R155: the job number committed before in Op. -/
  lastJob : Option Nat
  /-- R157: switches whose first line has not been made, oldest first. -/
  switches : List Switched
  deriving DecidableEq, Repr, Inhabited

/-! ## Ridgeline (chapter 7) -/

/-- A channel line as a slice holds it, pixels in pixel-number order. -/
structure ChanLine where
  ch : Nat
  vals : List Nat
  poison : List Nat
  warming : Bool
  beyond : Bool
  held : Bool
  uncorrected : Bool
  deriving DecidableEq, Repr, Inhabited

/-- One exposure of one timing group: its cycle, its position once final (in 2^-24 count, without the row delay), the
channel lines converted in it, and the channels whose line was overrun or lost its signal. -/
structure Expo where
  group : Nat
  line : Nat
  plane : Nat
  recipe : Nat
  center : Int
  pos : Option Int
  lateness : Nat
  late : Bool
  drop : Bool
  /-- R302, R379: underexposed; taken while the recipe was declared unsustainable. -/
  under : Bool
  declared : Bool
  lines : List ChanLine
  gone : List Nat
  /-- Channels whose line is still to be read from its queue. -/
  waiting : List Nat
  /-- R170: the positions of usable exposures rise; this one did not. -/
  discarded : Bool
  deriving DecidableEq, Repr, Inhabited

/-- R180: the correlation sums of one half of an overlap at one lag. -/
structure Corr where
  ab : Int
  aa : Int
  bb : Int
  deriving DecidableEq, Repr, Inhabited

/-- R180, R181: the parameters a guy-line window takes at its start. -/
structure SeamPar where
  gain : Nat
  threshold : Nat
  lag : Nat
  shiftLimit : Nat
  stretchLimit : Nat
  plane : Nat
  deriving DecidableEq, Repr, Inhabited

/-- R178 to R182: one seam, between a used segment and the next. -/
structure Seam where
  shiftT : Int
  stretchT : Int
  shiftA : Int
  stretchA : Int
  /-- The last step moved the stretch. -/
  lastStretch : Bool
  /-- R182: the output line at which its freeze ends. -/
  freeze : Option Nat
  /-- R187: EV0855 raised and no window has passed since. -/
  lowTold : Bool
  par : SeamPar
  /-- The running window: lines so far, lines used, frozen during it, sums of the applied values, both halves' sums. -/
  lines : Nat
  used : Nat
  frozen : Bool
  sumShift : Int
  sumStretch : Int
  near : List Corr
  far : List Corr
  /-- Output pixels of the overlap in the running window. -/
  width : Nat
  deriving DecidableEq, Repr, Inhabited

/-- R169: an output line grid: line `first` lies at `anchor`, later ones `pitch` apart; the line cycle it begins with. -/
structure Grid where
  recipe : Nat
  /-- The recipe's content when the grid was made. -/
  bytes : List Byte
  job : Nat
  cycle : Nat
  anchor : Option Int
  first : Nat
  pitch : Nat
  /-- The first line of a job switch, with its marker still to be placed. -/
  switch_ : Option Switched
  deriving DecidableEq, Repr, Inhabited

/-- The geometry engine. -/
structure RidgeSt where
  expos : List Expo
  /-- The grid in force and those of switches to come, oldest first. -/
  grids : List Grid
  /-- The number of the next output line. -/
  next : Nat
  seams : Vector Seam 32
  /-- R166: row delays in force. -/
  delay : Vector Int 4
  /-- R173: the previous line had a gap. -/
  gapped : Bool
  /-- Output lines since entry to Scanning, for the steps of R182. -/
  count : Nat
  /-- That count at the last step of R182. -/
  slewed : Nat
  /-- R188: lines omitted through a forced self-trim and not announced yet: first line and count. -/
  omitted : Option (Nat × Nat)
  deriving DecidableEq, Repr, Inhabited

/-! ## Transport and Casby (chapter 8) -/

/-- R202: the table's profile as it stands: speed and target speed in fm/s, acceleration in nm/s², position in 2^-24 step,
the move's end point where it has one, the time it is computed up to, and the earliest time the table may move. -/
structure Profile where
  upTo : Nat
  after : Nat
  v : Int
  a : Int
  target : Int
  travel : Int
  stopAt : Option Int
  deriving DecidableEq, Repr, Inhabited

/-- Encoder, divider, table and pacing. -/
structure TransportSt where
  /-- R193: the filtered levels of ENC_A and ENC_B; the inputs count. -/
  encA : Bool
  encB : Bool
  counting : Bool
  /-- R196: the encoder's newest count edges, newest first: time and count. -/
  encEdges : List (Nat × Int)
  /-- R190: the extended counts of the encoder, the steps and the Casby master, whole counts; the Casby one with 24
  fractional bits. -/
  enc : Int
  steps : Int
  casby : Int
  /-- R190, R194: the zero offset, and a zeroing that waits for the next Z edge. -/
  zero : Int
  zeroNext : Bool
  /-- R191: count edges of the position in use, newest first: time and extended position in 2^-24 count. -/
  edges : List (Nat × Int)
  /-- R191: the transport counts as stopped. -/
  stopped : Bool
  /-- R198: the next trigger point in 2^-32 count. -/
  nextPoint : Option Int
  /-- R193: the time of the last illegal transition of a run. -/
  illegal : Option Nat
  /-- R194: the position latched at the last Z edge; none before it or after a zeroing. -/
  lastZ : Option Int
  /-- R196: consecutive counts against the press speed. -/
  against : Nat
  /-- R196, R197: since when the two conditions have held, or been absent. -/
  reversedAt : Nat
  mismatchAt : Nat
  overTold : Bool
  /-- R201: MEN, and when the table came to rest. -/
  men : Bool
  restAt : Option Nat
  /-- R202, R205: the profile, the restart speed v_r in fm/s, the run-up, the peg in 2^-24 step. -/
  prof : Profile
  vr : Int
  peg : Option Int
  /-- R205: a stop's peg is still to be found: its cause. -/
  pegOwed : Option Nat
  decided : Nat
  /-- R203: consecutive periods below v_min; R206: a restart that waits for the end of backing. -/
  slow : Nat
  restart : Bool
  /-- R207: when MFLT was last active; R208: encoder and step positions at the last restart, supervision suspended. -/
  faultAt : Option Nat
  supEnc : Int
  supStep : Int
  supOff : Bool
  supRev : Nat
  /-- R279: a paced restart has come and its first line has not been made. -/
  afterPeg : Bool
  /-- R207: a following error stands. -/
  following : Bool
  deriving DecidableEq, Repr, Inhabited

/-- R213: a frame of the ring. -/
structure Frame where
  type_ : Nat
  origin : Nat
  seq : Nat
  payload : List Byte
  deriving DecidableEq, Repr, Inhabited

/-- A ring peer, by its ring position. -/
structure Peer where
  known : Bool
  uid : Nat
  state : Nat
  job : Nat
  fill : Nat
  drain : Nat
  heard : Nat
  lostTold : Bool
  deriving DecidableEq, Repr, Inhabited

/-- R217: a trigger that acts at its execution time: the reported and the extended position it carries, its number. -/
structure Ahead where
  time : Nat
  rep : Nat
  pos : Int
  num : Nat
  deriving DecidableEq, Repr, Inhabited

/-- The Casby port and ring. -/
structure CasbySt where
  /-- R217: triggers whose execution time has not come, oldest first. -/
  ahead : List Ahead
  /-- R218: the trigger for which the master has sent a job switch frame. -/
  jobTold : Option Nat
  /-- R216: when the Compass offset was last measured. -/
  measuredAt : Nat
  /-- R212: the pairs are swapped; the port has locked; its last valid signal or dwell start. -/
  swapped : Bool
  locked : Bool
  tryAt : Nat
  lockedAt : Nat
  /-- R214: last own sends and last receptions. -/
  electAt : Nat
  timeAt : Nat
  beatAt : Nat
  heardTime : Option Nat
  /-- R215: a better frame was forwarded, so the own one is no longer sent. -/
  beaten : Bool
  /-- R219: the master's own time frames that failed to return. -/
  unreturned : Nat
  /-- Sequence counters by type. -/
  seqs : Vector Nat 6
  /-- R217: the number of the next trigger frame to send; of the last received. -/
  trigOut : Nat
  trigIn : Option Nat
  /-- R217: source-3 triggers stop while the ring is open. -/
  scale : Nat
  ringDelay : Nat
  masterPacing : Nat
  lead : Nat
  /-- R216: consecutive offsets within ±2 ns and beyond ±8 ns. -/
  near : Nat
  far : Nat
  /-- R218: consecutive triggers with another job byte. -/
  jobMiss : Nat
  peers : Vector Peer 8
  /-- R218: an activation frame to be sent again: its payload, repeats left, last send. -/
  again : Option (List Byte × Nat × Nat)
  /-- R218: activation IDs passed on already. -/
  passed : List Nat
  /-- Frames this device has put on the ring, newest first (the model's own record). -/
  sent : List Frame
  /-- R189: the device drives STEP in this Scanning; it was master at its entry. -/
  drives : Bool
  deriving DecidableEq, Repr, Inhabited

/-! ## Line queues and egress queues (chapter 9) -/

/-- R222, R223: one line queue. `words` are the stored words, front first: data in [15:0], poison tag in [16]. -/
structure LineQueue where
  w : Nat
  r : Nat
  words : List Nat
  /-- Outstanding credit of the lines being written. -/
  credit : Nat
  /-- R225: channel lines not started since the previous record. -/
  missed : Nat
  deriving DecidableEq, Repr, Inhabited

/-- R231, R232: a packet of an egress queue. `bytes` is its content behind the length word. -/
structure Packet where
  id : Nat
  cls : Nat
  dest : Nat
  blocks : Nat
  line : Nat
  piece : Nat
  plane : Nat
  resent : Bool
  /-- The link that has begun to send it. -/
  sending : Option Nat
  bytes : List Byte
  deriving DecidableEq, Repr, Inhabited

/-- One egress queue. -/
structure Egress where
  /-- Admitted packets, oldest first. -/
  pkts : List Packet
  /-- R233: packets of classes 0 and 1 that wait for space, oldest first. -/
  held : List Packet
  nextId : Nat
  /-- R237: classes being flushed (bit c = class c), 0 for none; the flush has acted at its packet boundary. -/
  flush : Nat
  flushed : Bool
  /-- R237: packets the flush has discarded so far, and the packets it marked that links are still sending. -/
  discarded : Nat
  deriving DecidableEq, Repr, Inhabited

/-- Both kinds of queue. -/
structure QueueSt where
  lines : Vector LineQueue 64
  egress : Vector Egress 8
  deriving DecidableEq, Repr, Inhabited

/-! ## DMA engines and streams (chapter 10) -/

/-- R255 to R258: a chain an engine has taken: its copy of the descriptors (eight words each) and its progress. -/
structure Chain where
  /-- Ring index of its head descriptor. -/
  at_ : Nat
  descs : List (List Nat)
  served : Nat
  first : Option Nat
  lost : Nat
  deriving DecidableEq, Repr, Inhabited

/-- One descriptor ring of one engine. -/
structure Ring where
  kick : Bool
  run : Option Chain
  deriving DecidableEq, Repr, Inhabited

/-- R246, R248: a run of missing lines that no marker has announced yet. -/
structure GapRun where
  first : Nat
  count : Nat
  cause : Nat
  pos : Int
  time : Nat
  deriving DecidableEq, Repr, Inhabited

/-- What the engines keep for one stream. -/
structure Stream where
  run : Option GapRun
  /-- R277: lines admitted since entry to Scanning. -/
  seq : Nat
  /-- R279: the next line follows a gap marker. -/
  afterGap : Bool
  deriving DecidableEq, Repr, Inhabited

/-- R263: a compatibility transfer. -/
structure Compat where
  left : Nat
  /-- The pixel range, the links and the sample width taken at its start. -/
  first : Nat
  count : Nat
  mask : Nat
  wide : Bool
  /-- The CRC register over the bytes so far. -/
  crc : Nat
  repeating : Bool
  /-- The last line has been written; the end packet is owed. -/
  ended : Bool
  deriving DecidableEq, Repr, Inhabited

/-- Engines, rings, streams. -/
structure DmaSt where
  /-- R253: ring memory: byte offsets and bytes, rising, zero bytes unlisted. -/
  ringMem : List Host.Cell
  /-- Ring r of engine k is number 4k + r. -/
  rings : Vector Ring 32
  streams : Vector Stream 32
  /-- R248: per link group, the rate credit in bits, and when it last grew; groups under R31. -/
  credit : Vector Nat 16
  creditAt : Nat
  limited : Nat
  compat : Option Compat
  /-- R233, paced mode: the packets of a line that waits for space in its clusters. -/
  waiting : List (List (Nat × Packet))
  deriving DecidableEq, Repr, Inhabited

/-! ## Links (chapter 11) -/

/-- R287: a line of which a packet has been sent: when it ended, and what the packet's header said of the line. -/
structure SentLine where
  stream : Nat
  line : Nat
  at_ : Nat
  pos : Int
  time : Nat
  job : Nat
  recipe : Nat
  deriving DecidableEq, Repr, Inhabited

/-- One CoaXPress link. -/
structure Link where
  /-- The uplink receiver is locked. -/
  locked : Bool
  /-- R272: an accepted ConnectionConfig names it, with this speed in Mbit/s to be trained. -/
  train : Option Nat
  /-- R272: named by the ConnectionConfig in force. -/
  named : Bool
  /-- R273: when its last command came. -/
  lastCommand : Nat
  /-- R235: the packet in transmission: cluster and packet id. -/
  tx : Option (Nat × Nat)
  /-- R287: lines whose packets ended recently. -/
  recent : List SentLine
  /-- 0x5800+n:0E: packets sent lately, newest first: end time, payload bytes, link time in bytes. -/
  used : List (Nat × Nat × Nat)
  /-- R283: log entries held for this link, oldest first. -/
  events : List LogRec
  testMode : Bool
  /-- R286, R288: lines (stream, line) already begun when it joined, which it leaves to the others. -/
  skip : List (Nat × Nat)
  deriving DecidableEq, Repr, Inhabited

/-- All links, and the stream data packet tags of R276. -/
structure LinkSt where
  links : Vector Link 16
  tags : Vector Nat 32
  deriving DecidableEq, Repr, Inhabited

/-! ## Lamps (chapter 12) -/

/-- One lamp group beyond its entries. -/
structure LampGroup where
  /-- R299: the strobe width after the session's clamp, if it was clamped. -/
  clampW : Option Nat
  /-- R303: when the group last went off by a fault. -/
  tripAt : Nat
  /-- R306: the earliest cycle start that may strobe it after a clear. -/
  clearedAt : Nat
  /-- R305: EV0505 has been raised for the present loss. -/
  lossTold : Bool
  deriving DecidableEq, Repr, Inhabited

/-- Strings, groups, the bulk bank. -/
structure LampSt where
  groups : Vector LampGroup 8
  /-- R381: strings checked since Ready. -/
  checked : Nat
  /-- R307: an excursion to the bulk floor stands. -/
  bulkLow : Bool
  deriving DecidableEq, Repr, Inhabited

/-! ## The Canteen (chapter 16) -/

/-- What the Canteen keeps from tick to tick. -/
structure CanteenSt where
  /-- R382: the lamp, Lantern and stepper grants. -/
  lamp : Bool
  lantern : Bool
  stepper : Bool
  /-- R382: a Standby request for lamps, and whether the tick before this one passed its conditions. -/
  lampAsked : Bool
  lampTick : Bool
  /-- R382: consecutive ticks with V_b below the floor. -/
  floorTicks : Nat
  /-- R384: consecutive ticks of consumption above the admitted power. -/
  overTicks : Nat
  /-- R377: per consumer, since when a higher grant has been planned, and the lowest planned since. -/
  riseFrom : Vector (Option Nat) 10
  riseTo : Vector Nat 10
  /-- R384: P_L and P_X at the last tick; the second tick of a reaction is due. -/
  lastLimit : Nat
  lastCredit : Nat
  second : Bool
  /-- R384: the ratio by which the lamp reservations are scaled, in 1/1,000,000. -/
  ratio : Nat
  /-- R356, R384: the connections whose overload persists. -/
  overload : Nat
  /-- R385: ticks for which f_th has been rising (positive) or falling since it last moved; die sensors already reported
  warm. -/
  thTicks : Int
  warmTold : Nat
  boardHot : Bool
  /-- R386: DRAM runs at half rate for heat. -/
  dramHeat : Bool
  /-- R378: the statistics are shed. -/
  shedStats : Bool
  /-- Compass and the clock at the last tick. -/
  tickAt : Nat
  tickNow : Nat
  limitTold : Bool
  /-- R385: when the thermal shutdown began. -/
  shutAt : Option Nat
  /-- R374, R380, R384: episodes already reported. -/
  capTold : Bool
  rateTold : Bool
  overTold : Bool
  reserveTold : Bool
  /-- R379: the declaration stands. -/
  declared : Bool
  /-- R383: the blend's Canteen grant has been given. -/
  blendOk : Bool
  deriving DecidableEq, Repr, Inhabited
/-! ## The Lantern strip (chapter 13) -/

/-- What a write of the host asks of an engine at the next frame. -/
inductive Ask
  | none | start | restart | stop
  deriving DecidableEq, Repr, Inhabited

/-- One pattern engine. -/
structure Engine where
  /-- R326: the type and the run time (ns) it took at its start. -/
  typ : Nat
  run : Nat
  /-- Its start time, in Compass time. -/
  t0 : Nat
  ask : Ask
  /-- R319, locate: when the hold began. -/
  hold : Option Nat
  deriving DecidableEq, Repr, Inhabited

/-- The strip: tables, engines, chain. -/
structure LanternSt where
  /-- R324: the base frame; the bin table and the matrices, kept in NOR (empty: the defaults). -/
  base : List Byte
  bins : List Byte
  matrices : List Byte
  engines : Vector Engine 4
  /-- R316: the state a running probe came from. -/
  origin : Nat
  /-- R327: pixels and bits a word of the chain in force; none before a probe has matched. -/
  chain : Option (Nat × Nat)
  /-- The words last latched, in chain bit order from pixel 0, and how many bits the frame had. -/
  shown : List Nat
  bits : Nat
  /-- R323: P_u of the last frame, in mW × 65,535. -/
  unscaled : Nat
  /-- R317: consecutive frame errors; the next frame is not compared. -/
  errors : Nat
  skip : Bool
  /-- When the last frame, the last probe and the last short were. -/
  frameAt : Nat
  probeAt : Nat
  shortAt : Nat
  deriving DecidableEq, Repr, Inhabited
/-! ## Auxiliary measurement (chapter 14) -/

/-- What the sequencer keeps for one slot. -/
structure AuxSlot where
  /-- R335: its filter is flushed at its next visit; results that are still unsettled. -/
  flush : Bool
  left : Nat
  /-- R337: the open-wire condition, and consecutive passing verdicts in it. -/
  isOpen : Bool
  passes : Nat
  /-- R338: an excitation fault stands; its excitation stays off until then; the next visit retries it. -/
  faulted : Bool
  retryAt : Nat
  retry : Bool
  /-- R330: its continuous excitation is on. -/
  excited : Bool
  /-- R341: when its newest result came. -/
  stamp : Nat
  deriving DecidableEq, Repr, Inhabited

/-- R332: the visit in progress, with the values of 0x5010+s:01–0B that it took at its start. -/
structure Visit where
  slot : Nat
  urgent : Bool
  start : Nat
  cfg : List Int
  /-- R338: this visit's excitation and bias are off; it retries them. -/
  dark : Bool
  retry : Bool
  deriving DecidableEq, Repr, Inhabited

/-- R333: the running pass: slots still to come, when it began, and the excitation of its visits so far: energy of pulsed
ones in fJ, power of continuous ones in nW. -/
structure Pass where
  todo : List Nat
  start : Nat
  energy : Nat
  steady : Nat
  deriving DecidableEq, Repr, Inhabited

/-- R344: what an output keeps beyond its entries. -/
structure AuxOut where
  /-- When the newest usable result of its slot came; when a shorted output is retried. -/
  last : Nat
  retryAt : Nat
  deriving DecidableEq, Repr, Inhabited

/-- The auxiliary block. -/
structure AuxSt where
  slots : Vector AuxSlot 32
  visit : Option Visit
  pass : Option Pass
  /-- R333: a latched trigger. -/
  latch : Bool
  /-- R339: the last complete pass: energy of pulsed visits in fJ, power of continuous ones in nW, pass time in µs. -/
  lastEnergy : Nat
  lastSteady : Nat
  lastUs : Nat
  /-- R339: no pass starts before this time; the pass before was capped. -/
  after : Nat
  capTold : Bool
  /-- R334: urgent slots with the time of their request, first in, first out. -/
  urgent : List (Nat × Nat)
  /-- R333: the last multiple of the trigger period served. -/
  multiple : Nat
  outs : Vector AuxOut 4
  /-- R345: REFA is out of range. R336: a stuck BLANK pin is ignored. -/
  refaBad : Bool
  blankOff : Bool
  /-- R343: when the next Bivouac period begins, and the slots of the present one still to be converted. -/
  period : Nat
  sleeping : List Nat
  deriving DecidableEq, Repr, Inhabited

/-! ## Self-trim (chapter 17) -/

/-- R398: a pending request: forced or ordinary, when it was made (its age), and when it took this kind. -/
structure TrimReq where
  forced : Bool
  since : Nat
  asked : Nat
  deriving DecidableEq, Repr, Inhabited

/-- R404: one trim record of a cluster. -/
structure TrimRec where
  gen : Nat
  ref : Int
  deriving DecidableEq, Repr, Inhabited

/-- R397 to R404: what is kept for one cluster. -/
structure TrimCluster where
  /-- R397: the newest 16 readings, newest first; the last tick gave none; its sensor's episode is told. -/
  reads : List Int
  told : Bool
  req : Option TrimReq
  /-- R402: the state behind a request: 0 factory values, 1 passed, 2 failed, 6 suspended; when the retry is due. -/
  result : Nat
  retryAt : Nat
  /-- R188: from when to when, in Compass time, its last forced trim ran; no end while it runs. -/
  omits : Option (Nat × Option Nat)
  /-- R401: when its last trim ended (the model's clock). -/
  endAt : Nat
  /-- R404: its records in NOR; the record still to be written; where the next write goes. -/
  recs : Vector (Option TrimRec) 2
  write : Option Int
  deriving DecidableEq, Repr, Inhabited

/-- R401: a running trim. -/
structure Trimming where
  cluster : Nat
  start : Nat
  forced : Bool
  since : Nat
  /-- R387: the positions its window allows, for the overrun; none for a stopped transport or a forced trim. -/
  window : Option (Int × Int)
  deriving DecidableEq, Repr, Inhabited

/-- Self-trim. -/
structure TrimSt where
  clusters : Vector TrimCluster 8
  running : Option Trimming
  /-- R403: the running trim is to be abandoned. -/
  abandon : Bool
  /-- R387: the last switch trigger's X_s in 2^-24 count, its recipe's line pitch and the limit taken at the switch. -/
  switchAt : Option (Int × Nat × Nat)
  deriving DecidableEq, Repr, Inhabited
/-! ## Firmware update (chapter 18) -/

/-- R411, R428: one firmware bank in NOR. -/
structure FwBank where
  /-- 0x2203: 0 invalid, 1 active, 2 previous, 3 being written, 4 staged, 5 trial, 6 migration failed. -/
  code : Nat
  version : Nat
  fmt : Nat
  /-- The oldest settings format it migrates from. -/
  oldest : Nat
  /-- Its content and the digest of it; none: the firmware the part was delivered with. -/
  content : Option (List Byte × List Byte)
  deriving DecidableEq, Repr, Inhabited

/-- R408 to R424: the session, its journal, the activation, and what a start has to do. -/
structure UpdateSt where
  banks : Vector FwBank 2
  /-- Block 0 of the session or of the staged image, the body blocks taken, and how much of the container is journaled. -/
  header : List Byte
  body : List Byte
  journaled : Nat
  /-- When the holder's last block was taken; blocks that wait for room in the buffer, oldest first: their master and bytes. -/
  last : Nat
  wait : List (Nat × List Byte)
  /-- R419: the activation time taken; R420: since when the unit has deferred, and that it leaves Scanning to switch. -/
  at_ : Nat
  since : Nat
  leaving : Bool
  /-- R424: the bank in state 6 that a switch is scheduled into. -/
  accept : Option Nat
  /-- R418: the session state that the journal shows at a start. -/
  journal : Nat
  /-- R421: the bank recorded as trial, with the policy of its switch; the running start is its trial. -/
  trial : Option (Nat × Nat)
  trying : Bool
  /-- R423: the trial start found a migration failure; the previous bank's next Ready reports it. -/
  failing : Bool
  fellBack : Bool
  /-- R422, R424: what 0x2206:01 reads at the trial start's Ready, and the stored settings format it found. -/
  result : Nat
  found : Nat
  /-- R424: the quarantined user image. -/
  quarantine : Option UserSlot
  deriving DecidableEq, Repr, Inhabited

/-! ## The block -/

/-- The whole state of the block. -/
structure State where
  /-- The commands that wait, first in, first out. -/
  pending : List Instr
  /-- Nanoseconds since VDD_AON first rose (the model's own clock). -/
  now : Nat
  /-- R19: what has been added to Compass by time distribution, modulo 2^64. -/
  compassOff : Nat
  /-- The dictionary: (index × 256 + subindex, value), rising, no entry at its default. -/
  dict : List (Nat × Int)
  /-- Chapter 1. -/
  dev : DevSt
  /-- Chapter 2. -/
  door : DoorSt
  /-- Chapter 19. -/
  ev : EventSt
  /-- Chapter 15. -/
  pow : PowerSt
  /-- Chapter 3. -/
  tim : TimingSt
  /-- Chapter 9. -/
  que : QueueSt
  /-- Chapter 10. -/
  dma : DmaSt
  /-- Chapter 11. -/
  lnk : LinkSt
  /-- Chapter 4. -/
  fe : Vector FrontEnd 64
  /-- Chapter 5. -/
  sh : ShadeSt
  /-- Chapter 6. -/
  rcp : RecipeSt
  /-- Chapter 12. -/
  lamp : LampSt
  /-- Chapter 16. -/
  can : CanteenSt
  /-- Chapter 13. -/
  lan : LanternSt
  /-- Chapter 14. -/
  aux : AuxSt
  /-- Chapter 18. -/
  upd : UpdateSt
  /-- Chapter 17. -/
  trm : TrimSt
  /-- Chapter 7. -/
  rdg : RidgeSt
  /-- Chapter 8, transport. -/
  trn : TransportSt
  /-- Chapter 8, Casby. -/
  csb : CasbySt
  deriving DecidableEq, Repr

/-- Right after VDD_AON has first risen (R362, R363): Trailhead, every entry at its default, nothing listed, no command waiting. -/
def State.reset : State where
  pending := []
  now := 0
  compassOff := 0
  dict := []
  dev := default
  door := default
  ev := default
  pow := { (default : PowerSt) with boot := .filter, attempt := 1 }
  tim := default
  que := default
  dma := default
  lnk := default
  fe := default
  sh := default
  rcp := default
  lamp := default
  can := default
  lan := default
  aux := default
  upd := { (default : UpdateSt) with banks := #v[{ (default : FwBank) with code := 1 }, default] }
  trm := default
  rdg := default
  trn := default
  csb := default

/-! ## How a step can stop -/

/-- The model's faults: there are none.
Every command of the spec's table has an effect (or leaves the state as it is), so nothing faults; the type stays closed
and empty, which is safe: no claim can lean on a fault. -/
inductive Fault
  deriving DecidableEq, Repr

/-- The model's refusals. -/
inductive Refusal
  /-- Raised by `exec` alone, for a row whose meaning is not written yet: safe, the machine stops. -/
  | notModelled (mnemonic : String)
  deriving DecidableEq, Repr

end Sys2Proof.Machine
end

