-- ==== Sys2Proof/Machine/Ops.lean ====
section
/-!
DEFINITION. The named operations over State that every family shares: the sparse stores, the dictionary's entries,
time and Compass, raising an event, and the plain questions about the device's state.
-/
namespace Sys2Proof.Machine

/-! ## Sparse stores -/

/-- The value listed at `k`. -/
def Store.find : List (Nat × Int) → Nat → Option Int
  | [], _ => none
  | (j, v) :: r, k => if j = k then some v else Store.find r k

/-- The store with `k` listed at `v`, keys kept rising. -/
def Store.put : List (Nat × Int) → Nat → Int → List (Nat × Int)
  | [], k, v => [(k, v)]
  | (j, u) :: r, k, v =>
    if j < k then (j, u) :: Store.put r k v
    else if j = k then (k, v) :: r
    else (k, v) :: (j, u) :: r

/-- The store with nothing listed at `k`, wherever it stood. -/
def Store.del : List (Nat × Int) → Nat → List (Nat × Int)
  | [], _ => []
  | (j, u) :: r, k => if j = k then Store.del r k else (j, u) :: Store.del r k

/-- The canonical write: a value equal to what an unlisted key reads as is not listed. -/
def Store.set (l : List (Nat × Int)) (k : Nat) (v dflt : Int) : List (Nat × Int) :=
  if v = dflt then Store.del l k else Store.put l k v

/-! ## Dictionary entries -/

/-- The key of entry `idx:sub`. -/
def key (idx sub : Nat) : Nat := idx * 256 + sub

/-- What an entry reads as while nothing is listed at its key. -/
def keyDflt (k : Nat) : Int := dfltAt (k / 256) (k % 256)

/-- The type of the entry at a key. -/
def keyTy (k : Nat) : Ty := tyAt (k / 256) (k % 256)

/-- The stored value of entry `idx:sub`; its default where none is listed. -/
def State.rd (s : State) (idx sub : Nat) : Int := (Store.find s.dict (key idx sub)).getD (keyDflt (key idx sub))

/-- The stored value as a natural number (entries of unsigned types). -/
def State.rdN (s : State) (idx sub : Nat) : Nat := (s.rd idx sub).toNat

/-- An entry takes a value, wrapped into its type. -/
def State.wr (s : State) (idx sub : Nat) (v : Int) : State :=
  { s with dict := Store.set s.dict (key idx sub) ((keyTy (key idx sub)).wrap v) (keyDflt (key idx sub)) }

/-- A counter entry advances by `n` (it wraps as its type does). -/
def State.bump (s : State) (idx sub : Nat) (n : Nat := 1) : State := s.wr idx sub (s.rd idx sub + n)

/-- One bit of a mask entry is set or cleared. -/
def State.wrBit (s : State) (idx sub i : Nat) (b : Bool) : State := s.wr idx sub (setBit (s.rdN idx sub) i b)

/-- Counters `from`, `from+1`, … written in turn. -/
def State.wrAll (s : State) (idx sub : Nat) : List Int → State
  | [] => s
  | v :: vs => (s.wr idx sub v).wrAll idx (sub + 1) vs

/-! ## Time (R19) -/

/-- Time passes. -/
def State.pass (s : State) (dt : Nat) : State := { s with now := s.now + dt }

/-- With no command waiting, one cycle of the 25 MHz reference passes while the block is powered. -/
def State.idle (s : State) : State := if s.pow.boot = .unpowered then s else s.pass 40

/-- Compass resolved to 1 ns, as timestamps use it. -/
def State.fine (s : State) : Nat := (s.now + s.compassOff) % 2 ^ 64

/-- Compass as the register counts it: it advances by 40 on every reference clock cycle. -/
def State.compass (s : State) : Nat := (s.now / 40 * 40 + s.compassOff) % 2 ^ 64

/-- `ms` milliseconds have passed since `t`. -/
def State.elapsed (s : State) (t ns : Nat) : Bool := decide (t + ns ≤ s.now)

/-! ## The device's state -/

/-- The code of 0x2000:01. -/
def DevState.code : DevState → Nat
  | .trailhead => 0
  | .bivouac => 1
  | .standby => 2
  | .scanning => 3
  | .paused => 4

/-- Power is on. -/
def State.powered (s : State) : Bool := s.pow.boot ≠ .unpowered

/-- Scanning or Paused. -/
def State.live (s : State) : Bool := s.dev.st = .scanning || s.dev.st = .paused

/-- The queues run: Standby, Scanning, Paused (R230). -/
def State.queuesRun (s : State) : Bool := s.dev.st = .standby || s.live

/-- Paced transport (0x4800:01). -/
def State.paced (s : State) : Bool := s.rd 0x4800 1 = 1

/-- Compatibility mode on CL0–CL1 (0x5400:01). -/
def State.compatMode (s : State) : Bool := s.rd 0x5400 1 = 1

/-- R41: link n's control channel is trained (a suspended link counts as trained, R273). -/
def State.linkUp (s : State) (n : Nat) : Bool :=
  s.rd (0x5800 + n) 1 = 3 || s.rd (0x5800 + n) 1 = 5

/-- R41: master `m` is present. -/
def State.masterPresent (s : State) (m : Nat) : Bool :=
  if m = 0 then s.door.ec.st ≠ .init && s.door.ec.st ≠ .boot else s.linkUp (m - 1)

/-! ## Raising an event (R433, R437) -/

/-- Detail A and B of 0x2800+k:0B and :0C. -/
def Detail.pair : Detail → Nat × Nat
  | .narrow d => (d, 0)
  | .wide a b => (a, b)

/-- The presentation takes its place in ascending source order; a pending one of the same source stays (R437). -/
def present (p : Present) : List Present → List Present
  | [] => [p]
  | q :: r => if p.src < q.src then p :: q :: r else if p.src = q.src then q :: r else q :: present p r

/-- R433, R437: a source is raised: its occurrence and last detail are recorded and it is presented to the arbiter. -/
def State.raise (s : State) (src : Nat) (d : Detail) : State :=
  let s := ((s.bump (0x2800 + src) 8).wr (0x2800 + src) 0xB d.pair.1).wr (0x2800 + src) 0xC d.pair.2
  { s with ev := { s.ev with pres := present ⟨src, d⟩ s.ev.pres } }

/-- A raise with one detail value of 16 bits. -/
def State.raise1 (s : State) (src d : Nat) : State := s.raise src (.narrow d)

/-- R432: a source's latch stands. -/
def State.latched (s : State) (src : Nat) : Bool := s.rd (0x2800 + src) 1 = 1

/-- A source that stays counted once while `was` already held. -/
def State.raiseIf (s : State) (c : Bool) (src d : Nat) : State := if c then s.raise1 src d else s

/-! ## The outcome of every command -/

/-- A command that gives a next state. -/
abbrev ok (s : State) : Host.Outcome State Fault Refusal := .next s

/-- The shape of every event command: time passes, and the event acts if the state holds what it is about. -/
def event (dt : Nat) (s : State) (due : State → Bool) (act : State → State) : Host.Outcome State Fault Refusal :=
  let s := s.pass dt
  ok (if due s then act s else s)

/-- A function applied for `i = 0` to `n − 1` in turn. -/
def State.each (s : State) (n : Nat) (f : Nat → State → State) : State := (List.range n).foldl (fun s i => f i s) s

/-- A function applied for each member of a list in turn. -/
def State.eachOf {α : Type} (s : State) (l : List α) (f : α → State → State) : State := l.foldl (fun s a => f a s) s

/-! ## Shorthand for the parts of State -/

/-- Change timing group `g`. -/
def State.updGroup (s : State) (g : Nat) (f : Group → Group) : State :=
  { s with tim := { s.tim with groups := vupd s.tim.groups g f } }

/-- Change the service of channel `n`. -/
def State.updService (s : State) (n : Nat) (f : Service → Service) : State :=
  { s with tim := { s.tim with service := vupd s.tim.service n f } }

/-- Change line queue `n`. -/
def State.updLineQ (s : State) (n : Nat) (f : LineQueue → LineQueue) : State :=
  { s with que := { s.que with lines := vupd s.que.lines n f } }

/-- Change egress queue `k`. -/
def State.updEgress (s : State) (k : Nat) (f : Egress → Egress) : State :=
  { s with que := { s.que with egress := vupd s.que.egress k f } }

/-- Change link `n`. -/
def State.updLink (s : State) (n : Nat) (f : Link → Link) : State :=
  { s with lnk := { s.lnk with links := vupd s.lnk.links n f } }

/-- Change ring `r` of engine `k`. -/
def State.updRing (s : State) (k r : Nat) (f : Ring → Ring) : State :=
  { s with dma := { s.dma with rings := vupd s.dma.rings (4 * k + r) f } }

/-- Change stream `n`. -/
def State.updStream (s : State) (n : Nat) (f : Stream → Stream) : State :=
  { s with dma := { s.dma with streams := vupd s.dma.streams n f } }

/-- Change master `m`. -/
def State.updMaster (s : State) (m : Nat) (f : Master → Master) : State :=
  { s with door := { s.door with masters := vupd s.door.masters m f } }

/-- Change connection `n`. -/
def State.updConn (s : State) (n : Nat) (f : Conn → Conn) : State :=
  { s with pow := { s.pow with conns := vupd s.pow.conns n f } }

/-- Timing group `g`. -/
def State.group (s : State) (g : Nat) : Group := vget s.tim.groups g
/-- The service of channel `n`. -/
def State.svc (s : State) (n : Nat) : Service := vget s.tim.service n
/-- Line queue `n`. -/
def State.lineQ (s : State) (n : Nat) : LineQueue := vget s.que.lines n
/-- Egress queue `k`. -/
def State.eq (s : State) (k : Nat) : Egress := vget s.que.egress k
/-- Link `n`. -/
def State.link (s : State) (n : Nat) : Link := vget s.lnk.links n
/-- Ring `r` of engine `k`. -/
def State.ring (s : State) (k r : Nat) : Ring := vget s.dma.rings (4 * k + r)
/-- Stream `n`. -/
def State.stream (s : State) (n : Nat) : Stream := vget s.dma.streams n
/-- Master `m`. -/
def State.master (s : State) (m : Nat) : Master := vget s.door.masters m
/-- Connection `n`. -/
def State.conn (s : State) (n : Nat) : Conn := vget s.pow.conns n

/-- Index of channel n's own block of objects (R37). -/
def chIdx (n : Nat) : Nat := 0x3000 + n * 0x40

end Sys2Proof.Machine
end

