-- ==== Sys2Proof/Machine/Egress.lean ====
section
/-!
DEFINITION. Egress queues (R230 to R238): blocks, admission, fill and its level, removal; which packet a link takes next.
-/
namespace Sys2Proof.Machine

/-- R232: the blocks a packet of `n` bytes behind its length word takes. -/
def blocksFor (n : Nat) : Nat := cdiv (n + 8) 256

/-- R238: allocated blocks. -/
def Egress.alloc (q : Egress) : Nat := (q.pkts.map (·.blocks)).sum

/-- R238: the fill in 0.1 %, rounded down. -/
def Egress.fill (q : Egress) : Nat := q.alloc * 1000 / 4096

/-- R230, R232: whether `b` more blocks are admitted for class `cls`; the 64 reserve blocks serve classes 0 and 1 only. -/
def Egress.admits (q : Egress) (cls b : Nat) : Bool := decide (q.alloc + b ≤ if cls ≤ 1 then 4096 else 4032)

/-- R238: the level event and the peak after the fill of queue `k` has moved up from `before`. -/
def State.fillMoved (s : State) (k before : Nat) : State :=
  let f := (s.eq k).fill
  let level := s.rdN (0x5610 + k) 7
  let s := if level ≠ 0 ∧ before < level ∧ level ≤ f then (s.bump (0x5610 + k) 8).raise1 (272 + k) 0 else s
  if s.rdN (0x5610 + k) 0x10 < f then s.wr (0x5610 + k) 0x10 f else s

/-- A packet takes its place at the end of queue `k`. -/
def State.push (s : State) (k : Nat) (p : Packet) : State :=
  let before := (s.eq k).fill
  (s.updEgress k (fun q => { q with pkts := q.pkts ++ [{ p with id := q.nextId }], nextId := q.nextId + 1 })).fillMoved k before

/-! ## Which packet a link takes (R235, R274 to R276) -/

/-- Wrapping line numbers: `a` is at or after `b`. -/
def lineAtOrAfter (a b : Nat) : Bool := decide ((a + 2 ^ 32 - b) % 2 ^ 32 < 2 ^ 31)

/-- The state of link `n`, 0x5800+n:01. -/
def State.linkState (s : State) (n : Nat) : Nat := s.rdN (0x5800 + n) 1

/-- R243: a stream's link mask. -/
def State.maskOf (s : State) (n : Nat) : Nat := s.rdN (0x5410 + n) 2

/-- The links that carry a stream. -/
def State.streamLinks (s : State) (st : Nat) : Nat :=
  if st = 31 then (match s.dma.compat with | some c => c.mask | none => s.rdN 0x5460 4) else s.maskOf st

/-- Numbers compared from the front. -/
def before : List Nat → List Nat → Bool
  | a :: r, b :: t => decide (a < b) || (decide (a = b) && before r t)
  | _, _ => false

/-- R275: no packet of an earlier line of the same stream still waits. -/
def State.lineTurn (s : State) (p : Packet) : Bool :=
  p.cls < 2 || !(List.range 8).any (fun k => (s.eq k).pkts.any (fun x =>
    2 ≤ x.cls && x.dest = p.dest && x.sending.isNone && x.line ≠ p.line && lineAtOrAfter p.line x.line))

/-- R235, R274: link `n` may take packet `p` of cluster `k`. -/
def State.eligible (s : State) (n k : Nat) (p : Packet) : Bool :=
  p.sending.isNone &&
  (if p.cls = 0 then p.dest = n else bit (s.streamLinks p.dest) n) &&
  ((s.eq k).pkts.find? (fun x => x.cls = p.cls && x.dest = p.dest && x.sending.isNone)).map (·.id) = some p.id &&
  s.lineTurn p && !(p.cls = 2 && (s.link n).skip.contains (p.dest, p.line))

/-- R274: the order in which a link prefers packets: class, line, home cluster, cluster, piece, plane. -/
def preference (n k : Nat) (p : Packet) : List Nat := [p.cls, p.line, b2n (k ≠ n / 2), k, p.piece, p.plane]

/-- R235, R274: what link `n` takes next. -/
def State.choice (s : State) (n : Nat) : Option (Nat × Packet) :=
  let l := (List.range 8).flatMap (fun k => ((s.eq k).pkts.filter (s.eligible n k)).map (fun p => (k, p)))
  l.foldl (fun b q => match b with
    | none => some q
    | some c => if before (preference n q.1 q.2) (preference n c.1 c.2) then some q else some c) none

/-- R276: stream data packets of a packet. -/
def State.segments (s : State) (p : Packet) : Nat := cdiv p.bytes.length (max 1 (s.rdN 0x5820 1))

/-- R235, R276: link `n` begins its next packet; its stream data packets take the stream's next tags. -/
def State.beginPacket (s : State) (n : Nat) : State :=
  if s.linkState n ≠ 3 ∨ !s.queuesRun ∨ (s.link n).tx.isSome then s
  else match s.choice n with
    | none => s
    | some (k, p) =>
      let s := s.updEgress k (fun q => { q with pkts := q.pkts.map (fun x => if x.id = p.id then { x with sending := some n } else x) })
      let s := s.updLink n (fun l => { l with tx := some (k, p.id) })
      if p.cls = 0 then s
      else { s with lnk := { s.lnk with tags := vupd s.lnk.tags p.dest (fun t => (t + s.segments p) % 256) } }

/-- Link `n` stands idle while a packet is eligible for it. -/
def State.canStart (s : State) (n : Nat) : Bool :=
  s.linkState n = 3 && s.queuesRun && (s.link n).tx.isNone && (s.choice n).isSome

/-- Idle links take packets until none is left that one of them may take; at most `r` rounds. -/
def State.startRounds : Nat → State → State
  | 0, s => s
  | r + 1, s => if (List.range 16).any s.canStart then State.startRounds r (s.each 16 (fun n s => s.beginPacket n)) else s

/-- R235: every idle link stands at a packet boundary and takes its next packet. -/
def State.startLinks (s : State) : State := State.startRounds 16 s

/-- R233: a packet of class 0 or 1 is admitted or waits behind those already waiting. -/
def State.pushOrHold (s : State) (k : Nat) (p : Packet) : State :=
  if (s.eq k).held.isEmpty && (s.eq k).admits p.cls p.blocks then (s.push k p).startLinks
  else s.updEgress k (fun q => { q with held := q.held ++ [p] })

/-- A class-0 packet for link `n` (R230): it goes through the egress queue of the link's home cluster. -/
def State.pushControl (s : State) (n : Nat) (bytes : List Byte) : State :=
  s.pushOrHold (n / 2) { (default : Packet) with cls := 0, dest := n, blocks := blocksFor bytes.length, bytes := bytes }

/-- The first `n` packets that wait are admitted while space suffices (R233). -/
def State.admitHeld (s : State) (k : Nat) : Nat → State
  | 0 => s
  | n + 1 => match (s.eq k).held with
    | [] => s
    | p :: r =>
      if (s.eq k).admits p.cls p.blocks then
        ((s.updEgress k (fun q => { q with held := r })).push k p).admitHeld k n
      else s

/-- R234, R235: a packet leaves queue `k` and its blocks are freed. -/
def State.free (s : State) (k id : Nat) : State :=
  s.updEgress k (fun q => { q with pkts := q.pkts.filter (fun p => p.id ≠ id) })

/-- The packet `id` of queue `k`. -/
def State.packet (s : State) (k id : Nat) : Option Packet := (s.eq k).pkts.find? (fun p => p.id = id)

end Sys2Proof.Machine
end

