-- ==== Sys2Proof/Machine/Events.lean ====
section
/-!
DEFINITION. The event arbiter (chapter 19): stamping, the log, the routes, the latches and what is computed from them.
-/
namespace Sys2Proof.Machine

/-! ## What is computed from the latches -/

/-- The sources whose latch stands. -/
def State.latchedSources (s : State) : List Nat :=
  (s.dict.filter (fun p => 0x280000 ≤ p.1 ∧ p.1 < 0x2C0000 ∧ p.1 % 256 = 1)).map (fun p => p.1 / 256 - 0x2800)

/-- A source's class. -/
def State.evClassOf (s : State) (k : Nat) : Nat := s.rdN (0x2800 + k) 3

/-- The latched sources that are enabled. -/
def State.liveSources (s : State) : List Nat := s.latchedSources.filter (fun k => s.rd (0x2800 + k) 2 = 1)

/-- R446: the error register 0x1001:00. -/
def State.errorRegister (s : State) : Nat :=
  let l := s.liveSources.filter (fun k => 2 ≤ s.evClassOf k)
  let any := fun (p : Nat → Bool) => b2n (l.any (fun k => p (evRange k)))
  any (fun _ => true) + 4 * any (· = 6) + 8 * any (· = 7) + 16 * any (fun r => r = 2 || r = 5 || r = 10) +
    128 * any (fun r => !(r = 6 || r = 7 || r = 2 || r = 5 || r = 10))

/-- R447: the process-data summary 0x2031:05. -/
def State.summary (s : State) : Nat :=
  let l := s.liveSources
  let byBit := l.foldl (fun m k => if bit (s.rdN (0x2800 + k) 4) 2 then setBit m (s.rdN (0x2800 + k) 5) true else m) 0
  l.foldl (fun m k => setBit m (28 + s.evClassOf k) true) byBit

/-- R449: the level of general-purpose output `p` before polarity. -/
def State.gpActive (s : State) (p : Nat) : Bool :=
  if !s.dev.ready then false
  else if s.rd (0x5C10 + p) 1 = 1 then
    s.liveSources.any (fun k => bit (s.rdN (0x2800 + k) 4) 4 && s.rdN (0x2800 + k) 6 = p)
  else if s.rd (0x5C10 + p) 1 = 2 then (vget s.ev.pulse p).isSome
  else false

/-! ## Records -/

/-- R441: a log record as its 24 bytes. -/
def LogRec.bytes (r : LogRec) : List Byte :=
  le 2 r.detail ++
  le 2 (r.src * 2 ^ 6 + r.cls * 2 ^ 4 + b2n r.wide * 8 + b2n r.boot * 4 + b2n r.rep * 2) ++
  le 8 r.time ++ le 4 r.seq ++ le 4 r.a ++ le 4 r.b

/-- R445: an emergency's eight bytes. -/
def emergencyBytes (r : LogRec) (err : Nat) : List Byte :=
  le 2 (0xFF00 + r.cls) ++ le 1 err ++ le 2 r.src ++ le 3 r.seq

/-- R438: the sequence number after `q`. -/
def nextSeq (q : Nat) : Nat := if q = 0xFFFFFFFF then 1 else q + 1

/-! ## Stamping -/

/-- R440: the entry takes its position in the live ring; an unarchived entry it overwrites is lost. -/
def State.logEntry (s : State) (r : LogRec) : State :=
  let old := s.ev.log.filter (fun e => e.seq % 4096 = r.seq % 4096)
  let lost := (old.filter (fun e => s.ev.unarchived.contains e.seq)).length
  let s := if lost = 0 then s else s.bump 0x5C00 4 lost
  { s with ev := { s.ev with
      log := r :: s.ev.log.filter (fun e => e.seq % 4096 ≠ r.seq % 4096)
      unarchived := s.ev.unarchived.filter (fun q => q % 4096 ≠ r.seq % 4096) ++ [r.seq]
      lostSince := s.ev.lostSince + lost } }

/-- R445: an emergency joins the queue of 32, or is dropped, counted and reported by EV0995. -/
def State.queueEmergency (s : State) (r : LogRec) : State :=
  if s.ev.emergencies.length < 32 then
    { s with ev := { s.ev with emergencies := s.ev.emergencies ++ [(r, s.errorRegister)] } }
  else (s.bump 0x5C00 7).raiseIf (!s.latched 995 && s.ev.pres.all (fun p => p.src ≠ 995)) 995 0

/-- R283: the links that take event packets. -/
def State.eventLinks (s : State) : List Nat :=
  (List.range 16).filter (fun n => s.rd (0x5800 + n) 4 = 1 && s.linkUp n)

/-- R444, R283: an entry joins each event link's waiting entries. -/
def State.queueEventPackets (s : State) (r : LogRec) : State :=
  s.eachOf s.eventLinks (fun n s => s.updLink n (fun l => { l with events := l.events ++ [r] }))

/-- R283: while the queues run, link `n`'s waiting entries leave in event packets of up to 16.
Entries no longer in the live ring are lost (R456). -/
def State.sendEvents (s : State) (n : Nat) : Nat → State
  | 0 => s
  | fuel + 1 =>
    match (s.link n).events with
    | [] => s
    | es =>
      let s := (s.pushControl n ((es.take 16).flatMap LogRec.bytes)).updLink n (fun l => { l with events := es.drop 16 })
      s.sendEvents n fuel

/-- R283: every link sends what waits, oldest first; nothing is sent in Trailhead and Bivouac. -/
def State.flushEvents (s : State) : State :=
  if !s.queuesRun then s
  else s.each 16 (fun n s =>
    let s := s.updLink n (fun l => { l with events := l.events.filter (fun e => s.ev.log.any (fun x => x.seq = e.seq)) })
    s.sendEvents n (s.link n).events.length)

/-- R449: an entry routed to a pulse output starts or extends its 10 ms pulse. -/
def State.startPulse (s : State) (p : Nat) : State :=
  if s.rd (0x5C10 + p) 1 = 2 then
    { s with ev := { s.ev with pulse := vupd s.ev.pulse p (fun _ => some (s.now + 10000000)) } }
  else s

/-- R444 to R449: an entry is handed to the routes that its source selects; nothing is routed in Trailhead (R367). -/
def State.route (s : State) (r : LogRec) : State :=
  if s.dev.st = .trailhead then s
  else
    let m := s.rdN (0x2800 + r.src) 4
    let s := if bit m 0 then s.queueEmergency r else s
    let s := if bit m 1 then s.queueEventPackets r else s
    let s := if bit m 3 && s.dev.st ≠ .bivouac then { s with ev := { s.ev with offers := s.ev.offers ++ [r] } } else s
    if bit m 4 then s.startPulse (s.rdN (0x2800 + r.src) 6) else s

/-- R70: the clamp-report entries that wait for the sequence of their EV0832 entry take it. -/
def State.tellClamps (s : State) (q : Nat) : State :=
  { s with door := { s.door with clamps := s.door.clamps.map (fun c => if c.waiting then { c with seq := q, waiting := false } else c) } }

/-- R433, R437, R438: one presented event is stamped. -/
def State.stampOne (s : State) (p : Present) : State :=
  let o := 0x2800 + p.src
  let again := s.rd o 1 = 1
  if s.rd o 2 ≠ 1 ∨ (again ∧ s.rd o 7 ≠ 1) then
    if p.src = 832 then s.tellClamps 0 else s
  else
    let q := s.rdN 0x5C00 1
    let r : LogRec := {
      seq := q, time := s.compass, src := p.src, cls := s.evClassOf p.src,
      wide := match p.detail with | .narrow _ => false | .wide _ _ => true
      boot := s.dev.st = .trailhead, rep := again
      detail := match p.detail with | .narrow d => d | .wide _ _ => 0
      a := match p.detail with | .narrow _ => 0 | .wide a _ => a
      b := match p.detail with | .narrow _ => 0 | .wide _ b => b }
    let s := (((s.wr o 1 1).wr o 9 q).wr o 0xA s.compass).wr 0x5C00 1 (nextSeq q)
    let s := s.logEntry r
    let s := if p.src = 832 then s.tellClamps q else s
    let s := if r.boot then
        { s with ev := { s.ev with bootCount := s.ev.bootCount + 1, bootClass := max s.ev.bootClass r.cls } }
      else s
    let s := if r.cls = 3 then { s with ev := { s.ev with fatal := true } } else s
    s.route r

/-- R437: one arbiter cycle: every presented event is stamped, in ascending source order. -/
def State.stamp (s : State) : State :=
  let l := s.ev.pres
  let s := { s with ev := { s.ev with pres := [] } }
  (s.eachOf l (fun p s => s.stampOne p)).flushEvents

/-- EVENT_STAMP (R437): the arbiter runs one cycle, in every powered state. -/
def execEventStamp (dt : Nat) (s : State) : Host.Outcome State Fault Refusal :=
  event dt s State.powered State.stamp

/-- EMERGENCY_SEND (R445): in Pre-Op and above the oldest queued emergency is sent. -/
def execEmergencySend (dt : Nat) (s : State) : Host.Outcome State Fault Refusal :=
  event dt s (fun s => s.masterPresent 0 && !s.ev.emergencies.isEmpty) (fun s =>
    match s.ev.emergencies with
    | [] => s
    | (r, e) :: rest => { s with ev := { s.ev with emergencies := rest, lastEmergency := emergencyBytes r e } })

/-- R440: the oldest unarchived entry is copied into the archive. -/
def State.archiveOne (s : State) : State :=
  match s.ev.unarchived with
  | [] => s
  | q :: rest =>
    let s := { s with ev := { s.ev with unarchived := rest } }
    match s.ev.log.find? (fun e => e.seq = q) with
    | none => s
    | some r => { s with ev := { s.ev with
        archive := r :: s.ev.archive.filter (fun e => e.seq % 524288 ≠ q % 524288) } }

/-- ARCHIVE_COPY (R440): outside Trailhead and Bivouac the oldest entry not yet archived is copied. -/
def execArchiveCopy (dt : Nat) (s : State) : Host.Outcome State Fault Refusal :=
  event dt s (fun s => s.queuesRun) State.archiveOne

/-- GP_PULSE_END (R449): a pulse of 10 ms ends. -/
def execGpPulseEnd (dt : Nat) (p : Fin 16) (s : State) : Host.Outcome State Fault Refusal :=
  event dt s (fun s => match vget s.ev.pulse p with | some t => decide (t ≤ s.now) | none => false) (fun s =>
    { s with ev := { s.ev with pulse := vupd s.ev.pulse p (fun _ => none) } })

/-! ## Host operations on events -/

/-- R450: the latches of the selected classes are cleared. -/
def State.clearClasses (s : State) (mask : Nat) : State :=
  s.eachOf s.latchedSources (fun k s => if bit mask (s.evClassOf k) then s.wr (0x2800 + k) 1 0 else s)

/-- R451: a host source is raised with its detail; any other source is refused with code 5. -/
def opRaiseHost (v : Int) (s : State) : State × Nat :=
  let w := v.toNat
  let src := field w 31 22
  if 960 ≤ src ∧ src ≤ 991 ∧ field w 21 16 = 0 then (s.raise1 src (w % 65536), 0) else (s, 5)

/-- R440: at entry to Standby the entries lost meanwhile are reported by EV0992. -/
def State.tellLost (s : State) : State :=
  if s.ev.lostSince = 0 then s
  else { (s.raise 992 (.wide s.ev.lostSince 0)) with ev := { (s.raise 992 (.wide s.ev.lostSince 0)).ev with lostSince := 0 } }

end Sys2Proof.Machine
end

