-- ==== Sys2Proof/Machine/Operands.lean ====
section
/-!
DEFINITION. Operand forms of an access: the control address map (R51 to R53), the outcome of an access and how it is
recorded (R39 to R42), ranges and clamps (R35, R67, R70), and the grant of a write, which every host command goes through.
-/
namespace Sys2Proof.Machine

/-! ## Addresses (R51, R52) -/

/-- What a control address reaches. -/
inductive Target
  | scalar (idx sub : Nat)
  | wide (idx sub : Nat) (high : Bool)
  | ring (offset : Nat)
  | window (w displacement : Nat)
  | deviceFile (offset : Nat)
  | nowhere
  deriving DecidableEq, Repr

/-- R51, R52: the control address map; an unaligned access or an address outside the areas reaches nothing. -/
def addressed (a : Nat) : Target :=
  if a % 4 ≠ 0 then .nowhere
  else if 0x00100000 ≤ a ∧ a < 0x00200000 then .deviceFile (a - 0x00100000)
  else if 0x30000000 ≤ a ∧ a < 0x30100000 then .ring (a - 0x30000000)
  else if 0x40000000 ≤ a ∧ a < 0x44000000 then
    let o := a - 0x40000000
    .scalar (o / 0x400) (o % 0x400 / 4)
  else if 0x44000000 ≤ a ∧ a < 0x4C000000 then
    let o := a - 0x44000000
    .wide (o / 0x800) (o % 0x800 / 8) (o % 8 = 4)
  else if 0x50000000 ≤ a ∧ a < 0x54000000 then
    let o := a - 0x50000000
    .window (o / 0x1000000) (o % 0x1000000)
  else .nowhere

/-- The scalar address of an entry (R52). -/
def scalarAddr (idx sub : Nat) : Nat := 0x40000000 + idx * 0x400 + sub * 4
/-- The address of the low word of a 64-bit entry (R52). -/
def wideAddr (idx sub : Nat) : Nat := 0x44000000 + idx * 0x800 + sub * 8

/-- R53: a 32-bit word read in the signedness of the entry's type. -/
def wordValue (t : Ty) (w : Nat) : Int := if t.signed then Ty.i32.wrap w else w

/-- R33: raw little-endian bits of a type as its value. -/
def rawValue (t : Ty) (raw : Nat) : Int := if t.signed then t.wrap raw else raw

/-! ## Outcomes (R39, R42) -/

/-- R42: a granted access is counted, and a clamped or refused one stands in its master's last result. -/
def State.record (s : State) (m idx sub code : Nat) : State :=
  let s := s.bump 0x2010 2
  let s := if 2 ≤ code then s.bump 0x2010 3 else s
  let s := if code = 1 then s.bump 0x2010 4 else s
  if code = 0 then s else s.wr 0x2014 (m + 1) (code * 2 ^ 24 + sub * 2 ^ 16 + idx)

/-- R273: a command on a link's uplink in Bivouac wakes the suspended link, or keeps it awake. -/
def State.wakeLink (s : State) (n : Nat) : State :=
  if s.dev.st ≠ .bivouac then s
  else
    let s := if s.rd (0x5800 + n) 1 = 5 then s.wr (0x5800 + n) 1 3 else s
    s.updLink n (fun l => { l with lastCommand := s.now })

/-- R53: master `m`'s access has been granted and its acknowledgement is owed. -/
def State.owe (s : State) (m : Nat) : State := s.updMaster m (fun q => { q with asked := s.now, waits := 0 })

/-- What leaves by the door: the reply; over CoaXPress it is a class-0 response (R230, R282), and while the queues run it
goes through the egress queue of the link's home cluster. -/
def State.respond (s : State) (m code : Nat) (vals : List Int) (data : List Byte) : State :=
  let s := if m = 0 then s else s.wakeLink (m - 1)
  let s := s.updMaster m (fun q => { q with reply := ⟨code, vals, data⟩ })
  if m = 0 ∨ !s.queuesRun then s
  else
    let s := s.pushControl (m - 1) (le 1 code ++ vals.flatMap (fun v => sle 4 v) ++ data)
    if (s.eq ((m - 1) / 2)).held.isEmpty then s else s.owe m

/-- An access ends with this outcome. -/
def State.answer (s : State) (m idx sub code : Nat) (vals : List Int := []) (data : List Byte := []) : State :=
  (s.record m idx sub code).respond m code vals data

/-- R40: before Ready only reads of 0x1018 and of 0x2000:01 succeed. -/
def State.bootReadable (idx sub : Nat) : Bool := idx = 0x1018 || (idx = 0x2000 && sub = 1)

/-! ## Ranges and clamps (R35) -/

/-- What the range and clamp columns make of an offered value. -/
inductive Verdict
  | keep (v : Int)
  | clamped (v : Int) (reason : Nat)
  | refused
  deriving DecidableEq, Repr

/-- The largest power of two at most `v`, from 2^n down. -/
def pow2Below (v : Nat) : Nat → Nat
  | 0 => 1
  | n + 1 => if 2 ^ (n + 1) ≤ v then 2 ^ (n + 1) else pow2Below v n

/-- The largest member of a rising list that is at most `v`. -/
def stepBelow (v : Int) : List Int → Int → Int
  | [], best => best
  | x :: r, best => if x ≤ v then stepBelow v r x else best

/-- R35, R70: a range and its clamp rule applied to a value, with the reason of R70. -/
def Range.apply (r : Range) (t : Ty) (v : Int) : Verdict :=
  match r with
  | .any => if t.fits v then .keep v else .refused
  | .clamp lo hi pts =>
    if (lo ≤ v ∧ v ≤ hi) ∨ pts.contains v then .keep v
    else if v < lo then .clamped lo (if pts.any (fun p => p < v) then 3 else 1)
    else .clamped hi 2
  | .only ivs => if ivs.any (fun i => i.1 ≤ v ∧ v ≤ i.2) then .keep v else .refused
  | .bits mask =>
    let w := (v % 2 ^ 32).toNat &&& mask
    if v = w then .keep v else .clamped w 5
  | .pow2 lo hi =>
    if v < lo then .clamped lo 1
    else if hi < v then .clamped hi 2
    else
      let p := pow2Below v.toNat 32
      if v = p then .keep v else .clamped p 3
  | .mult8 lo hi =>
    if v < lo then .clamped lo 1
    else if hi < v then .clamped hi 2
    else if v % 8 = 0 then .keep v else .clamped (v / 8 * 8) 3
  | .steps l =>
    let first := l.headD 0
    let last := l.getLastD 0
    if v < first then .clamped first 1
    else if last < v then .clamped last 2
    else if l.contains v then .keep v else .clamped (stepBelow v l first) 3

/-- R70: a dependent limit. -/
def depLimit (lo hi v : Int) : Verdict := if v < lo then .clamped lo 4 else if hi < v then .clamped hi 4 else .keep v

/-- A verdict followed by a second rule; the first reason stands. -/
def Verdict.andThen (a : Verdict) (f : Int → Verdict) : Verdict :=
  match a with
  | .refused => .refused
  | .keep v => f v
  | .clamped v r => match f v with
    | .refused => .refused
    | .keep u => .clamped u r
    | .clamped u _ => .clamped u r

/-- R67, R70: one clamp-report entry; the oldest of 257 is lost, and the first loss after a clear raises EV0835. -/
def State.reportClamp (s : State) (c : ClampRec) : State :=
  let s := s.bump 0x2110 1
  let all := s.door.clamps ++ [{ c with waiting := s.dev.ready }]
  let s :=
    if 256 < all.length then
      let s := (s.bump 0x2110 3).raiseIf (!s.door.clampLostTold) 835 0
      { s with door := { s.door with clamps := all.drop 1, clampLostTold := true } }
    else { s with door := { s.door with clamps := all } }
  s.raise1 832 0

/-- R70: the source and link fields of a clamp made by master `m`. -/
def clampOf (m idx sub reason : Nat) (offered applied : Int) : ClampRec :=
  { (default : ClampRec) with
    source := if m = 0 then 2 else 3, link := m - 1, index := idx, sub := sub, reason := reason,
    offered := offered, applied := applied }

/-- R67: a clamp made by the device itself (source 4). -/
def State.ownClamp (s : State) (idx sub reason : Nat) (offered applied : Int) : State :=
  s.reportClamp { (default : ClampRec) with
    source := 4, index := idx, sub := sub, reason := reason, offered := offered, applied := applied }

/-! ## Grant of a write -/

/-- What a granted write does: with its final value, the new state and the outcome code 0, or a refusal's code. -/
abbrev Op := Int → State → State × Nat

/-- No rule beyond the row's own range. -/
def noDep : State → Int → Verdict := fun _ v => .keep v

/-- R34, R35, R38, R25: the checks of a write that its row alone decides: 2 no such entry, 3 read-only, 7 wrong state. -/
def State.rowRefusal (s : State) (idx sub : Nat) : Nat :=
  match lookup idx sub with
  | none => 2
  | some e =>
    if e.row.acc = .ro ∨ (idx = 0x5410 ∧ sub = 3) then 3
    else match e.row.when with
      | .always => 0
      | .standby => if s.live then 7 else 0
      | .preOp => if s.door.ec.st = .preOp then 0 else 7

/-- The verdict on an offered value. -/
def verdict (idx sub : Nat) (v : Int) : Verdict :=
  match lookup idx sub with
  | none => .refused
  | some e => e.row.range.apply e.row.ty v

/-- A write by master `m`, once its length and address are right: checked in the order existence, access, device
state, range, then what the entry's chapter says; clamped values are reported (R67); the outcome is recorded (R39). -/
def State.grant (s : State) (m idx sub : Nat) (v : Int) (dep : State → Int → Verdict) (op : Op) : State :=
  if !s.masterPresent m then s
  else if !s.dev.ready then s.answer m idx sub 7
  else
    let c := s.rowRefusal idx sub
    if c ≠ 0 then s.answer m idx sub c
    else match (verdict idx sub v).andThen (dep s) with
      | .refused => s.answer m idx sub 5
      | .keep u =>
        let r := op u s
        r.1.answer m idx sub r.2
      | .clamped u why =>
        let r := op u s
        if r.2 = 0 then (r.1.reportClamp (clampOf m idx sub why v u)).answer m idx sub 1
        else r.1.answer m idx sub r.2

/-- A command write: its row, with no dependent clamp. -/
def State.command (s : State) (m idx sub : Nat) (v : Int) (op : Op) : State := s.grant m idx sub v noDep op

/-- The shape of every host command's meaning. -/
def hostCommand (dt : Nat) (m : Fin 17) (idx sub : Nat) (v : Int) (op : Op) (s : State) : Host.Outcome State Fault Refusal :=
  ok ((s.pass dt).command m idx sub v op)

/-- The plain write: the entry takes the value. -/
def opStore (idx sub : Nat) : Op := fun v s => (s.wr idx sub v, 0)

/-- An operation that always succeeds. -/
def opDo (f : State → State) : Op := fun _ s => (f s, 0)

/-! ## Results (R63) -/

/-- R63: the sequence of the result after one with this status word. -/
def nextResult (status : Nat) : Nat := if status % 2 ^ 24 = 0xFFFFFF then 1 else status % 2 ^ 24 + 1

/-- R63, R64: a result object takes a new result: flags, values from subindex 2 on, every master's fresh bit. -/
def State.publish (s : State) (idx flags : Nat) (vals : List Int) : State :=
  let s := (s.wr idx 1 (flags * 2 ^ 24 + nextResult (s.rdN idx 1))).wrAll idx 2 vals
  { s with door := { s.door with fresh := Store.put s.door.fresh idx 0x1FFFF } }

/-! ## Host commands of the event chapter -/

/-- LATCH_CLEAR (R435): a write of 0 to a source's latch. -/
def execLatchClear (dt : Nat) (m : Fin 17) (k : Fin 1024) (s : State) : Host.Outcome State Fault Refusal :=
  hostCommand dt m (0x2800 + k) 1 0 (opStore (0x2800 + k) 1) s

/-- R450: clear by class. -/
def opClearClasses : Op := fun v s => (s.clearClasses v.toNat, 0)

/-- CLEAR_LATCHES_BY_CLASS (R450). -/
def execClearLatchesByClass (dt : Nat) (m : Fin 17) (mask : Nat) (s : State) : Host.Outcome State Fault Refusal :=
  hostCommand dt m 0x5C00 5 mask opClearClasses s

/-- RAISE_HOST_EVENT (R451). -/
def execRaiseHostEvent (dt : Nat) (m : Fin 17) (v : BitVec 32) (s : State) : Host.Outcome State Fault Refusal :=
  hostCommand dt m 0x5C00 6 v.toNat opRaiseHost s

/-- R70: the clamp report is emptied. -/
def opClearClamps : Op := fun _ s => ({ s with door := { s.door with clamps := [], clampLostTold := false } }, 0)

/-- CLEAR_CLAMP_REPORT (R70): a write of "lear" to 0x2110:04. -/
def execClearClampReport (dt : Nat) (m : Fin 17) (s : State) : Host.Outcome State Fault Refusal :=
  hostCommand dt m 0x2110 4 0x7261656C opClearClamps s

end Sys2Proof.Machine
end

