-- ==== Sys2Proof/Machine/RecipeData.lean ====
section
/-!
DEFINITION. Fields of recipes, shading banks and basis sets, the segment map, and the rates computed from them
(R73, R77, R89, R112, R122, R124, R141, R147, R199).
-/
namespace Sys2Proof.Machine

/-! ## Order statistics -/

/-- A value inserted into a rising list. -/
def insertSorted (x : Int) : List Int → List Int
  | [] => [x]
  | y :: r => if x ≤ y then x :: y :: r else y :: insertSorted x r

/-- A list in rising order. -/
def sorted (l : List Int) : List Int := l.foldr insertSorted []

/-- R151: the lower median, the ⌈n/2⌉-th smallest; 0 of no values. -/
def lowerMedian (l : List Int) : Int := (sorted l).getD ((l.length + 1) / 2 - 1) 0

/-- R133: the median of the 31 values centred on position `i`, the window moved inward at the ends. -/
def localMedian (l : List Int) (i : Nat) : Int :=
  let lo := min (i - 15) (l.length - 31)
  lowerMedian ((l.drop lo).take 31)

/-! ## Recipes (R147) -/

/-- The plane count P. -/
def rP (r : List Byte) : Nat := fieldAt r 6 1
/-- The basis set. -/
def rBasis (r : List Byte) : Nat := fieldAt r 7 1
/-- Temperature terms on. -/
def rTemp (r : List Byte) : Bool := fieldAt r 8 1 % 2 = 1
/-- Packing: bits of one value. -/
def packingBits (c : Nat) : Nat := if c = 0 then 8 else if c = 1 then 10 else if c = 2 then 12 else 16
/-- The stream form. -/
def rForm (r : List Byte) : Nat := fieldAt r 10 1
/-- The cross-direction pitch in dpi. -/
def rCd (r : List Byte) : Nat := fieldAt r 12 2
/-- The machine-direction pitch in dpi. -/
def rMd (r : List Byte) : Nat := fieldAt r 14 2
/-- The white target in 1/4 LSB. -/
def rWhite (r : List Byte) : Nat := fieldAt r 16 2
/-- A field of plane record `p`. -/
def rPlane (r : List Byte) (p o n : Nat) : Nat := fieldAt r (24 + 48 * p + o) n
/-- The lamp group mask of plane `p`. -/
def rMask (r : List Byte) (p : Nat) : Nat := rPlane r p 1 1
/-- The weight of table `i` in plane `p`, 1.15. -/
def rWeight (r : List Byte) (p i : Nat) : Int := sfieldAt r (24 + 48 * p + 4 + 2 * i) 2
/-- The current code of lamp group `j` in plane `p`. -/
def rCurrent (r : List Byte) (p j : Nat) : Nat := rPlane r p (16 + 2 * j) 2
/-- The reference level of plane `p`. -/
def rRef (r : List Byte) (p : Nat) : Nat := rPlane r p 32 2

/-- The content of recipe `r`. -/
def State.recipe (s : State) (r : Nat) : List Byte := vget s.rcp.recipes r

/-- R160: the active recipe; 255 for none. -/
def State.activeRecipe (s : State) : Nat := s.rdN 0x4210 1

/-- The planes of recipe `r`; 1 where no recipe is active. -/
def State.planesOf (s : State) (r : Nat) : Nat := if r < 32 then max 1 (rP (s.recipe r)) else 1

/-- R149, R150: recipe `r` is stored. -/
def State.recipeStored (s : State) (r : Nat) : Bool := s.rd 0x4240 (r + 1) = 1

/-- The stored recipes. -/
def State.storedRecipes (s : State) : List Nat := (List.range 32).filter s.recipeStored

/-! ## Shading banks (R112, R124) -/

/-- Bank `b`. -/
def State.bank (s : State) (b : Nat) : Bank := vget s.sh.banks b
/-- Change bank `b`. -/
def State.updBank (s : State) (b : Nat) (f : Bank → Bank) : State :=
  { s with sh := { s.sh with banks := vupd s.sh.banks b f } }
/-- The active bank's number. -/
def State.activeBank (s : State) : Nat := s.rdN 0x4000 1
/-- The shadow bank's number. -/
def State.shadow (s : State) : Nat := 1 - s.activeBank
/-- A bank's state, 0x4000:04+b. -/
def State.bankState (s : State) (b : Nat) : Nat := s.rdN 0x4000 (4 + b)
/-- A bank's holder, 0x4000:06+b. -/
def State.bankHolder (s : State) (b : Nat) : Nat := s.rdN 0x4000 (6 + b)

/-- The bank's plane count. -/
def bP (b : List Byte) : Nat := fieldAt b 6 1
/-- The bank's entry count. -/
def bE (b : List Byte) : Nat := fieldAt b 8 4
/-- The plane scale of position `p`, 4.12. -/
def bScale (b : List Byte) (p : Nat) : Nat := fieldAt b (16 + 2 * p) 2
/-- T_ref of segment `g`. -/
def bTref (b : List Byte) (g : Nat) : Int := sfieldAt b (24 + 2 * g) 2
/-- A directory at offset `o`: base, A and presence of channel `c`. -/
def dirBase (b : List Byte) (o c : Nat) : Nat := fieldAt b (o + 8 * c) 4
/-- A_c in a directory. -/
def dirA (b : List Byte) (o c : Nat) : Nat := fieldAt b (o + 8 * c + 4) 2
/-- Present in a directory. -/
def dirHas (b : List Byte) (o c : Nat) : Bool := fieldAt b (o + 8 * c + 6) 2 % 2 = 1
/-- Coefficient of class `k` of channel `c`, lists at offset `o`. -/
def coeffAt (b : List Byte) (o c k : Nat) : Int := sfieldAt b (o + 32 * c + 2 * k) 2
/-- The 40-bit entry `e`. -/
def bEntry (b : List Byte) (e : Nat) : Nat := fieldAt b (4096 + 5 * e) 5

/-- R112: the fields of an entry. -/
def eDark (e : Nat) : Int := Ty.i16.wrap (e / 2 ^ 24)
/-- Gain, 2.14. -/
def eGain (e : Nat) : Nat := field e 23 8
/-- Temperature class. -/
def eClass (e : Nat) : Nat := field e 7 4
/-- Origin. -/
def eOrigin (e : Nat) : Nat := field e 3 3
/-- Replacement code. -/
def eRepl (e : Nat) : Nat := field e 2 0

/-- R112: an entry from its fields. -/
def mkEntry (dark : Int) (gain cls origin repl : Nat) : Nat :=
  (Ty.u16.wrap dark).toNat * 2 ^ 24 + gain * 2 ^ 8 + cls * 2 ^ 4 + origin * 2 ^ 3 + repl

/-- R128: the identity entry. -/
def identityEntry : Nat := mkEntry 0 0x4000 0 0 0

/-! ## The segment map (R89) -/

/-- The channels that segment `g` names, in tap order. -/
def State.taps (s : State) (g : Nat) : List Nat :=
  (List.range (min 8 (s.rdN (0x4400 + g) 1))).map (fun i => s.rdN (0x4400 + g) (2 + i))

/-- The used segments, ascending. -/
def State.usedSegments (s : State) : List Nat := (List.range 32).filter (fun g => s.rd (0x4400 + g) 1 ≠ 0)

/-- The channels named in the map. -/
def State.namedChannels (s : State) : List Nat := s.usedSegments.flatMap s.taps

/-- The segment that names channel `n`. -/
def State.segmentOf (s : State) (n : Nat) : Option Nat := s.usedSegments.find? (fun g => (s.taps g).contains n)

/-- Active pixels A of channel `n`. -/
def State.activePx (s : State) (n : Nat) : Nat := s.rdN (chIdx n) 3
/-- Black pixels B of channel `n`. -/
def State.blackPx (s : State) (n : Nat) : Nat := s.rdN (chIdx n) 4
/-- The timing group of channel `n`. -/
def State.groupOf (s : State) (n : Nat) : Nat := s.rdN (chIdx n) 1
/-- R91: the service status of channel `n`. -/
def State.status (s : State) (n : Nat) : Nat := s.rdN (chIdx n) 8
/-- R77: the channel line of channel `n`, in pixel clocks. -/
def State.lineLen (s : State) (n : Nat) : Nat := 24 + s.blackPx n + s.activePx n
/-- The channels assigned to group `g`. -/
def State.channelsOf (s : State) (g : Nat) : List Nat := (List.range 64).filter (fun n => s.groupOf n = g)

/-- R77: the cycle length L_g. -/
def State.cycleLen (s : State) (g : Nat) : Nat :=
  match ((s.namedChannels.filter (fun n => s.groupOf n = g)).map s.lineLen) with
  | [] => 88
  | l => l.foldl max 0

/-- R75: the outputs of group `g` run (in Standby, Scanning and Paused); a shorted group's do not (R453). -/
def State.groupRuns (s : State) (g : Nat) : Bool :=
  s.queuesRun && s.rd 0x5C20 (g + 1) = 0 &&
    (s.rd (0x2040 + g) 1 = 1 || (s.rd (0x2040 + g) 1 = 0 && !(s.channelsOf g).isEmpty))

/-! ## Rates (R73, R199, R245) -/

/-- P_max of R199: the largest plane count of the active and the stored recipes; 1 in exposure unit. -/
def State.pMax (s : State) : Nat :=
  if s.rd 0x2050 2 = 1 then 1
  else
    let l := s.storedRecipes ++ (if s.activeRecipe < 32 ∧ s.rd 0x4240 (s.activeRecipe + 1) ≠ 2 then [s.activeRecipe] else [])
    (l.map s.planesOf).foldl max 1

/-- The Casby state 0x4880:08. -/
def State.casbyState (s : State) : Nat := s.rdN 0x4880 8

/-- R189: this device takes its position counts from Casby frames. -/
def State.casbyPosition (s : State) : Bool :=
  if s.paced then s.rd 0x2050 1 = 3 && !s.csb.drives else s.rd 0x4800 2 = 1

/-- R189: this device drives STEP: paced, and not as a Casby follower. -/
def State.drivesStep (s : State) : Bool := s.paced && (s.rd 0x2050 1 ≠ 3 || s.csb.drives)

/-- R192: the transport scale in pm per count; with Casby positions the master's, once a time frame has told it. -/
def State.scale (s : State) : Nat :=
  if s.casbyPosition && s.csb.scale ≠ 0 then s.csb.scale else if s.paced then s.rdN 0x4800 4 else s.rdN 0x4800 3

/-- The configured maximum transport speed in µm/s. -/
def State.vMax (s : State) : Nat := if s.paced then s.rdN 0x4800 6 else s.rdN 0x4800 5

/-- R199: triggers per second at a transport speed in µm/s, times `k`, rounded down. -/
def State.ratesAt (s : State) (v k : Nat) : Nat := v * 1000000 * 2 ^ 32 * k / (s.scale * s.rdN 0x4802 1)

/-- R199: exposures per second with `p` planes a line cycle. -/
def State.rateFor (s : State) (p : Nat) : Nat :=
  match s.rdN 0x2050 1 with
  | 0 => 0
  | 1 => s.ratesAt (s.rdN 0x4800 5) p
  | 2 => s.ratesAt (s.rdN 0x4800 6) p
  | _ => s.rdN 0x4800 7 * p

/-- R199: E_max in exposures per second. -/
def State.eMax (s : State) : Nat := s.rateFor s.pMax

/-- R150, R132: the exposure rate that one recipe needs. -/
def State.eOf (s : State) (r : List Byte) : Nat := s.rateFor (if s.rd 0x2050 2 = 1 then 1 else max 1 (rP r))

/-- R73: the lowest synthesiser step at or above a frequency in Hz. -/
def stepAbove (f : Nat) : Nat := cdiv (f * 2 ^ 24) 25000000
/-- R73: the synthesiser step nearest a frequency, a tie to the higher step. -/
def stepNear (f : Nat) : Nat := (2 * f * 2 ^ 24 + 25000000) / 50000000
/-- 0x2040+g:03: a synthesiser setting in Hz, rounded to 1 Hz. -/
def stepHz (k : Nat) : Nat := (2 * k * 25000000 + 2 ^ 24) / 2 ^ 25

/-- R73: the rate that group `g` demands at the exposure rate `e`. -/
def State.demand (s : State) (g e : Nat) : Nat := s.cycleLen g * e

/-- R73: the requested pixel clock lies below the demanded one, which the synthesiser can give. -/
def State.clockLow (s : State) (g e : Nat) : Bool :=
  s.rdN (0x2040 + g) 2 ≠ 0 && s.rdN (0x2040 + g) 2 < s.demand g e && s.demand g e ≤ 400000000

/-- R73: the synthesiser setting of group `g` at the exposure rate `e`. -/
def State.clockSteps (s : State) (g e : Nat) : Nat :=
  let dem := s.demand g e
  let want := s.rdN (0x2040 + g) 2
  if 400000000 < dem then 2 ^ 28
  else if want = 0 ∨ s.clockLow g e then stepAbove (max dem 20000000)
  else if stepNear want * 25000000 < dem * 2 ^ 24 then stepAbove dem
  else stepNear want

/-- R73: the pixel clock of group `g` is set for the exposure rate `e`; a requested value below f_dem is clamped to it. -/
def State.setClock (s : State) (g e : Nat) : State :=
  let k := s.clockSteps g e
  let dem := s.demand g e
  let s := if s.clockLow g e then (s.ownClamp (0x2040 + g) 2 4 (s.rd (0x2040 + g) 2) dem).wr (0x2040 + g) 2 dem else s
  (s.updGroup g (fun q => { q with clock := k })).wr (0x2040 + g) 3 (stepHz k)

/-- R73: every group's pixel clock, and its L_g, set for the exposure rate `e`. -/
def State.setClocks (s : State) (e : Nat) : State :=
  s.each 16 (fun g s => (s.setClock g e).wr (0x2040 + g) 0xF (s.cycleLen g))

/-- R76: the maximum exposure rate of each group, shown at entry to Scanning. -/
def State.showRates (s : State) : State :=
  s.each 16 (fun g s => s.wr (0x2040 + g) 0x10 ((s.group g).clock * 25000000 / 2 ^ 24 / s.cycleLen g))

/-- Nanoseconds of `c` pixel clocks of group `g`, rounded to nearest. -/
def State.clocksNs (s : State) (g c : Nat) : Nat :=
  let k := max 1 (s.group g).clock
  (2 * c * 1000000000 * 2 ^ 24 + k * 25000000) / (2 * k * 25000000)

/-- R245: the output line rate of the largest of some machine-direction pitches at the maximum transport speed. -/
def State.lMaxOf (s : State) (pitches : List Nat) : Nat := s.vMax * pitches.foldl max 0 / 25400

/-- The active and the stored recipes. -/
def State.liveRecipes (s : State) : List Nat :=
  s.storedRecipes ++ (if s.activeRecipe < 32 ∧ !s.recipeStored s.activeRecipe then [s.activeRecipe] else [])

/-- R245: L_max over the active and the stored recipes. -/
def State.lMax (s : State) : Nat := s.lMaxOf (s.liveRecipes.map (fun r => rMd (s.recipe r)))

end Sys2Proof.Machine
end

