-- ==== Sys2Proof/Machine/Geometry.lean ====
section
/-!
DEFINITION. Where the segments lie and what a recipe's output grid is (R162 to R169, R192): widths, line spacings, row
delays and delay-line depths, computed from the dictionary. The combination check and the energy model use them.
-/
namespace Sys2Proof.Machine

/-- Which output line: the native one, or the compatibility line of CH00 to CH15. -/
inductive LineKind
  | native | compat
  deriving DecidableEq, Repr, Inhabited

/-- R164, R29: the used segments that a line is built from. -/
def State.lineSegs (s : State) (k : LineKind) : List Nat :=
  if s.compatMode then
    s.usedSegments.filter (fun g => match k with
      | .native => (s.taps g).all (fun c => 16 ≤ c)
      | .compat => (s.taps g).all (fun c => c < 16))
  else match k with
    | .native => s.usedSegments
    | .compat => []

/-- R162: native pixels N_s of segment `g`. -/
def State.nPx (s : State) (g : Nat) : Nat := ((s.taps g).map s.activePx).sum

/-- R185: native pitch of segment `g` in pm. -/
def State.pitch (s : State) (g : Nat) : Nat := s.rdN (0x4420 + g) 2

/-- R163: the effective overlap of segment `g` with the next used segment `g'`. -/
def State.overlap (s : State) (g g' : Nat) : Nat :=
  min (s.rdN (0x4400 + g) 0xA) (min (s.nPx g / 2) (s.nPx g' / 2))

/-- R162: segments laid out from position `x` in pm. -/
def State.layFrom (s : State) : List Nat → Int → List (Nat × Int)
  | [], _ => []
  | [g], x => [(g, x)]
  | g :: g' :: r, x => (g, x) :: s.layFrom (g' :: r) (x + ((s.nPx g : Int) - s.overlap g g') * s.pitch g)

/-- R162: the segments of a line with their positions in pm; the first lies at 0. -/
def State.layout (s : State) (k : LineKind) : List (Nat × Int) := s.layFrom (s.lineSegs k) 0

/-- R162: the end of the covered span in pm. -/
def State.spanEnd (s : State) (k : LineKind) : Int :=
  match (s.layout k).getLast? with
  | none => 0
  | some (g, x) => x + (s.nPx g : Int) * s.pitch g

/-- One inch in pm. -/
def inchPm : Nat := 25400000000

/-- R164: x_org in pm; the compatibility line begins at 0. -/
def State.origin (s : State) (k : LineKind) : Int := match k with
  | .native => s.rd 0x4442 1 * 1000
  | .compat => 0

/-- R164: the width W at a cross-direction pitch of `d` dpi; at least 1. -/
def State.widthAt (s : State) (k : LineKind) (d : Nat) : Nat :=
  let auto := (s.spanEnd k - s.origin k) * d / inchPm
  let w : Int := match k with
    | .native => if s.rd 0x4442 2 = 0 then auto else s.rd 0x4442 2 * 1000 * d / inchPm
    | .compat => auto
  (limit 1 1048576 w).toNat

/-- R192: a length in pm as 2^-24 counts, rounded half up. -/
def State.pmToCounts (s : State) (pm : Int) : Int := (2 * pm * 2 ^ 24 + s.scale) / (2 * (s.scale : Int))

/-- R169: the output line spacing of a machine-direction pitch of `d` dpi, in 2^-24 count, rounded half up. -/
def State.cLine (s : State) (d : Nat) : Nat :=
  let n := d * s.scale
  if n = 0 then 1 else (2 * inchPm * 2 ^ 24 + n) / (2 * n)

/-- R168: the nominal spacing of successive exposures of one plane, in 2^-24 count. -/
def State.nominal (s : State) (r : List Byte) : Nat :=
  let src := s.rd 0x2050 1
  if src = 1 ∨ src = 2 then
    (2 * s.rdN 0x4802 1 * (if s.rd 0x2050 2 = 1 then max 1 (rP r) else 1) + 2 ^ 8) / 2 ^ 9
  else s.cLine (rMd r)

/-- R166: the smallest nominal spacing over the live recipes. -/
def State.nominalMin (s : State) : Nat :=
  match s.liveRecipes.map (fun r => s.nominal (s.recipe r)) with
  | [] => 1
  | d :: l => l.foldl min d

/-- R165: the stagger row of segment `g`. -/
def State.rowOf (s : State) (g : Nat) : Nat := s.rdN (0x4420 + g) 1
/-- R165: rows that hold a used segment. -/
def State.rowsUsed (s : State) : List Nat := (List.range 4).filter (fun r => s.usedSegments.any (fun g => s.rowOf g = r))
/-- R165: Z_r in nm. -/
def State.rowZ (s : State) (r : Nat) : Int := s.rd 0x4440 (r + 1)
/-- R165: Z_max over the rows that hold a used segment. -/
def State.zMax (s : State) : Int := match s.rowsUsed.map s.rowZ with
  | [] => 0
  | z :: l => l.foldl max z
/-- R165: the undelayed row. -/
def State.undelayed (s : State) : Nat := (s.rowsUsed.find? (fun r => s.rowZ r = s.zMax)).getD 0

/-- R166: a row's delay in 2^-24 counts and its depth, before the limit of 512. -/
def State.rawDelay (s : State) (r : Nat) : Int := s.pmToCounts ((s.zMax - s.rowZ r) * 1000)

/-- R166: the depth a delay needs. -/
def State.depthOf (s : State) (delay : Int) : Nat :=
  if delay ≤ 0 then 0 else cdiv delay.toNat (max 1 s.nominalMin) + 4

/-- R166: the greatest distance in nm whose depth is 512. -/
def State.zReach (s : State) : Nat := 508 * s.nominalMin * s.scale / (2 ^ 24 * 1000)

/-- R166: the delay in force for row `r` after the clamp to 512 line cycles. -/
def State.rowDelay (s : State) (r : Nat) : Int :=
  let d := s.rawDelay r
  if 512 < s.depthOf d then min (s.pmToCounts (s.zReach * 1000)) (508 * s.nominalMin) else d

/-- R166: bytes per second of stagger traffic of recipe `r` at `l` line cycles per second: 4 bytes a delayed sample. -/
def State.staggerBytes (s : State) (planes l : Nat) : Nat :=
  let px := (s.usedSegments.filter (fun g => s.rowZ (s.rowOf g) < s.zMax)).map s.nPx
  4 * px.sum * planes * l

/-- R166: stagger bytes of one line cycle. -/
def State.staggerPerLine (s : State) (planes : Nat) : Nat := s.staggerBytes planes 1

/-- R245: the packed output rate of recipe `r`'s native line at `l` lines per second, in bit/s. -/
def State.rateOf (s : State) (r : List Byte) (l : Nat) : Nat :=
  s.widthAt .native (rCd r) * rP r * packingBits (fieldAt r 9 1) * l

/-- Mbit/s from bit/s, and kS/s from S/s: to the nearest, half up. -/
def nearest (n unit : Nat) : Nat := (2 * n + unit) / (2 * unit)

end Sys2Proof.Machine
end

