-- ==== Sys2Proof/Machine/Num.lean ====
section
/-!
DEFINITION. Numbers that the geometry engine and the Lantern compute from smooth functions: sine and cosine in fixed point
(2^-80), the windowed sine kernel and the machine-direction kernel (R171, R174).
-/
namespace Sys2Proof.Machine

/-- One, in 2^-80. -/
def one80 : Int := 2 ^ 80
/-- π in 2^-80. -/
def pi80 : Int := 3797952473636338580787993

/-- `n` more terms of the sine or cosine series: `t` is the last term, `d` its degree, `y2` the squared argument. -/
def trigTerms : Nat → Int → Nat → Int → Int
  | 0, _, _, _ => 0
  | n + 1, t, d, y2 =>
    let u := -(t * y2 / one80) / ((d + 1) * (d + 2) : Nat)
    u + trigTerms n u (d + 2) y2

/-- A number reduced to −1 ≤ x < 1 by whole turns of 2. -/
def halfTurns (x : Rat) : Rat := x - 2 * (((x + 1) / 2).floor : Rat)

/-- sin(πx) in 2^-80. -/
def sinPi (x : Rat) : Int :=
  let x := halfTurns x
  if x = 0 ∨ x = -1 then 0
  else
    let y := ((pi80 : Rat) * x).floor
    y + trigTerms 30 y 1 (y * y / one80)

/-- cos(πx) in 2^-80. -/
def cosPi (x : Rat) : Int :=
  let y := ((pi80 : Rat) * halfTurns x).floor
  one80 + trigTerms 30 one80 0 (y * y / one80)

/-- sinc(x) in 2^-80. -/
def sinc (x : Rat) : Int := if x = 0 then one80 else ((sinPi x * one80 : Int) / (pi80 * x : Rat)).floor

/-- The absolute value. -/
def ratAbs (x : Rat) : Rat := if x < 0 then -x else x

/-- R171: coefficients in 1.14 whose sum is made 16,384 by the largest, the first of equals. -/
def normalise (l : List Int) : List Int :=
  let d := 16384 - l.sum
  let top := l.foldl max (l.headD 0)
  match l.findIdx? (· = top) with
  | none => l
  | some i => l.mapIdx (fun j x => if j = i then x + d else x)

/-- R171: the Keys kernel with a = −0.5. -/
def keys (z : Rat) : Rat :=
  let z := ratAbs z
  if z ≤ 1 then 3 / 2 * z * z * z - 5 / 2 * z * z + 1
  else if z < 2 then -1 / 2 * z * z * z + 5 / 2 * z * z - 4 * z + 2
  else 0

/-- A rational rounded half up. -/
def half (x : Rat) : Int := (x + 1 / 2).floor

/-- R171: the coefficients of taps −1, 0, 1, 2 at a phase. -/
def mdCoef (mode phase : Nat) : List Int :=
  let f : Rat := (phase : Rat) / 256
  if mode = 0 then normalise ([-1, 0, 1, 2].map (fun (t : Int) => half (16384 * keys ((t : Rat) - f))))
  else if mode = 1 then [0, half (16384 * (1 - f)), 16384 - half (16384 * (1 - f)), 0]
  else if phase < 128 then [0, 16384, 0, 0] else [0, 0, 16384, 0]

/-- R174: the coefficients of taps −3 to +4 at a phase, for β. -/
def cdCoef (beta : Rat) (phase : Nat) : List Int :=
  normalise ([-3, -2, -1, 0, 1, 2, 3, 4].map (fun (t : Int) =>
    let d : Rat := (t : Rat) - (phase : Rat) / 256
    if ratAbs d < 4 then (sinc (d / beta) * sinc (d / 4) * 16384 + 2 ^ 159) / 2 ^ 160 else 0))

/-! ## Logarithms and single-precision numbers -/

/-- ln 2 in 2^-80. -/
def ln2 : Int := 837963523372001241319908

/-- `n` terms of Σ z^k / k over odd k from `k` on; `t` is z^k in 2^-80. -/
def atanhTerms : Nat → Int → Nat → Int → Int
  | 0, _, _, _ => 0
  | n + 1, t, k, z2 => t / (k : Int) + atanhTerms n (t * z2 / one80) (k + 2) z2

/-- The power of two at or below a positive number, as an exponent. -/
def exponentOf (x : Rat) : Int :=
  let e : Int := (Nat.log2 x.num.natAbs : Int) - Nat.log2 x.den
  if x < (2 : Rat) ^ e then e - 1 else e

/-- The natural logarithm of a positive number, in 2^-80. -/
def lnFix (x : Rat) : Int :=
  let e := exponentOf x
  let m := x / (2 : Rat) ^ e
  let z := ((m - 1) / (m + 1) * (one80 : Rat)).floor
  e * ln2 + 2 * atanhTerms 40 z 1 (z * z / one80)

/-- A REAL32 is finite. -/
def finite32 (w : Nat) : Bool := w / 2 ^ 23 % 256 ≠ 255

/-- The value of a finite REAL32. -/
def real32 (w : Nat) : Rat :=
  let e : Nat := w / 2 ^ 23 % 256
  let f : Nat := w % 2 ^ 23
  let v : Rat := if e = 0 then (f : Rat) / (2 : Rat) ^ (149 : Nat)
    else ((2 ^ 23 + f : Nat) : Rat) * (2 : Rat) ^ ((e : Int) - 150)
  if w / 2 ^ 31 % 2 = 1 then -v else v

/-- The largest number in `lo`–`hi` that satisfies `p`, where the numbers that do come first; `n` halvings. -/
def lastTrue (p : Int → Bool) : Nat → Int → Int → Int
  | 0, lo, _ => lo
  | n + 1, lo, hi =>
    if hi ≤ lo then lo
    else
      let mid := (lo + hi + 1) / 2
      if p mid then lastTrue p n mid hi else lastTrue p n lo (mid - 1)

end Sys2Proof.Machine
end

