-- ==== Sys2Proof/Machine/Position.lean ====
section
/-!
DEFINITION. The transport position (R189 to R191): which counts are in use, the reported position, and the position at a
time between two edges.
-/
namespace Sys2Proof.Machine

/-- R190: the extended position in 2^-24 count. -/
def State.extPos (s : State) : Int :=
  if s.casbyPosition then s.trn.casby
  else if s.paced then s.trn.steps * 2 ^ 24
  else s.trn.enc * 2 ^ 24

/-- R190: the reported position. -/
def State.reported (s : State) : Nat := ((s.extPos / 2 ^ 24 + s.trn.zero) % 2 ^ 32).toNat

/-- R191: the stop timeout in ns. -/
def State.tStop (s : State) : Nat := s.rdN 0x4800 8 * 1000

/-- R191: the position between two edges, rounded half up to 2^-24 count. -/
def between (t0 : Nat) (n0 : Int) (t1 : Nat) (n1 : Int) (t : Nat) : Int :=
  let d : Int := (t1 : Int) - t0
  if d ≤ 0 then n1 else n0 + (2 * (n1 - n0) * ((t : Int) - t0) + d) / (2 * d)

/-- R191: the position at `t` from edges, newest first; `newer` is the edge after the list's first.
`none` while it is not final. -/
def posIn (edges : List (Nat × Int)) (newer : Option (Nat × Int)) (stop now t : Nat) : Option Int :=
  match edges with
  | [] => some 0
  | (tk, nk) :: r =>
    if tk ≤ t then
      match newer with
      | some (t1, n1) => if t1 - tk ≤ stop then some (between tk nk t1 n1 t) else some nk
      | none => if tk + stop ≤ now then some nk else none
    else posIn r (some (tk, nk)) stop now t

/-- R191: the final position at Compass time `t`. -/
def State.posAt (s : State) (t : Nat) : Option Int := posIn s.trn.edges none s.tStop s.fine t

/-! ## Count edges -/

/-- Edges no older than 2 ms before `t`, and the newest older one. -/
def recentEdges (t : Nat) : List (Nat × Int) → List (Nat × Int)
  | [] => []
  | e :: r => if e.1 + 2000000 < t then [e] else e :: recentEdges t r

/-- R191: a count edge of the position in use; outside Scanning and Paused only recent ones are kept. -/
def State.addEdge (s : State) (t : Nat) (p : Int) : State :=
  let l := (t, p) :: s.trn.edges
  { s with trn := { s.trn with edges := if s.live then l else recentEdges t l, stopped := false } }

/-- The count at time `t`: that of the newest edge not after it. -/
def countAt (edges : List (Nat × Int)) (t : Nat) : Int :=
  match edges.find? (fun e => e.1 ≤ t) with
  | some e => e.2
  | none => 0

/-- R196: counts of the encoder in the last 1 ms. -/
def State.encoderCounts (s : State) : Int :=
  countAt s.trn.encEdges s.fine - countAt s.trn.encEdges (s.fine - 1000000)

/-- R196: the encoder speed over 1 ms, in µm/s. -/
def State.encoderSpeed (s : State) : Int := s.encoderCounts * s.rdN 0x4800 3 / 1000

/-- R200: the transport speed over 1 ms, in µm/s. -/
def State.transportSpeed (s : State) : Int :=
  (countAt s.trn.edges s.fine - countAt s.trn.edges (s.fine - 1000000)) * s.scale / (2 ^ 24 * 1000)

end Sys2Proof.Machine
end

