-- ==== Sys2Proof/Machine/CasbyFrame.lean ====
section
/-!
DEFINITION. Casby frames (R213, R214): their form, their checks, and what this device puts on the ring.
-/
namespace Sys2Proof.Machine

/-- R211: the port has locked and takes part in the ring. -/
def State.onRing (s : State) : Bool := 2 ≤ s.casbyState

/-- R214: payload bytes of a frame type. -/
def payloadLength : Nat → Nat
  | 0 => 11
  | 1 => 27
  | 2 => 13
  | 3 => 4
  | 4 => 12
  | _ => 17

/-- R213: the bytes between start of frame and end of frame. -/
def Frame.bytes (f : Frame) : List Byte :=
  let b := le 1 (f.type_ * 16 + f.origin) ++ le 1 f.seq ++ f.payload
  b ++ le 2 (crc16 b)

/-- R213: a received frame; nothing when it must be dropped. `symbols`: no invalid symbol. -/
def frameOf (symbols : Bool) (bs : List Byte) : Option Frame :=
  let h := fieldAt bs 0 1
  let n := bs.length - 2
  if symbols && decide (h / 16 < 6) && decide (bs.length = payloadLength (h / 16) + 4) && decide (fieldAt bs n 2 = crc16 (bs.take n))
  then some { type_ := h / 16, origin := h % 8, seq := fieldAt bs 1 1, payload := slice bs 2 (payloadLength (h / 16)) }
  else none

/-- A frame goes onto the ring; the newest 64 are kept. -/
def State.putFrame (s : State) (f : Frame) : State :=
  { s with csb := { s.csb with sent := (f :: s.csb.sent).take 64 } }

/-- R213: a frame of this device's own, with the next sequence of its type. -/
def State.sendFrame (s : State) (type_ : Nat) (payload : List Byte) : State :=
  if !s.onRing then s
  else
    let f : Frame := { type_ := type_, origin := s.rdN 0x4880 0xA, seq := vget s.csb.seqs type_, payload := payload }
    { s.putFrame f with csb := { (s.putFrame f).csb with seqs := vupd s.csb.seqs type_ (fun q => (q + 1) % 256) } }

/-- R189: the counts of this device itself, in 2^-24 count. -/
def State.localPos (s : State) : Int := if s.paced then s.trn.steps * 2 ^ 24 else s.trn.enc * 2 ^ 24

/-- R214: a position field: 32 integer and 16 fractional bits. -/
def posField (p : Int) : List Byte := sle 6 (p / 2 ^ 8)

/-- R214: the position nearest the last received one with this field. -/
def posNear (last : Int) (field : Nat) : Int :=
  let m := (2 : Int) ^ 48
  let d := ((field : Int) - last / 2 ^ 8 + m / 2) % m - m / 2
  (last / 2 ^ 8 + d) * 2 ^ 8

/-- R214: the Compass time nearest `own` with these low 32 bits. -/
def timeNear (own low : Nat) : Nat :=
  let m := (2 : Int) ^ 32
  ((own : Int) + ((((low : Int) - own) + m / 2) % m - m / 2)).toNat

/-- R217: a Casby position sample is a count edge of the position it gives. -/
def State.casbySample (s : State) (t : Nat) (p : Int) : State :=
  let s := { s with trn := { s.trn with casby := p } }
  if s.casbyPosition then s.addEdge t p else s

/-- R218: a job switch frame. -/
def State.sendJobFrame (s : State) (job num : Nat) : State := s.sendFrame 3 (le 2 job ++ le 2 num)

/-- R217: the trigger frame of a trigger of this device's own at time `t` and position `p`. -/
def State.sendTriggerFrame (s : State) (t : Nat) (p : Int) : State :=
  let exec := (t + s.rdN 0x4880 5) % 2 ^ 32
  let s := s.sendFrame 2 (le 4 exec ++ le 2 s.csb.trigOut ++ le 1 (s.rdN 0x4210 2) ++ posField p)
  let s := { s with csb := { s.csb with trigOut := (s.csb.trigOut + 1) % 65536 } }
  if s.casbyPosition then s.casbySample t p else s

end Sys2Proof.Machine
end

