-- ==== Sys2Proof/Machine/Energy.lean ====
section
/-!
DEFINITION. Lamp setpoints and powers (R295, R296, R301, R381) and the device's own power model (R375), computed from the
state. The combination check, the strobes and the Canteen use them.
-/
namespace Sys2Proof.Machine

/-! ## Lamp groups -/

/-- R296: the strings of group `j`. -/
def State.stringsOf (s : State) (j : Nat) : List Nat := (List.range 32).filter (fun i => s.rdN (0x4C40 + i) 1 = j)

/-- R296: a group with a string is used. -/
def State.groupUsed (s : State) (j : Nat) : Bool := !(s.stringsOf j).isEmpty

/-- The state of group `j`, 0x4C10+j:0A. -/
def State.lampState (s : State) (j : Nat) : Nat := s.rdN (0x4C10 + j) 0xA

/-- R304, R305: group `j` is off by fault or by temperature. -/
def State.groupOff (s : State) (j : Nat) : Bool := s.lampState j = 3 || s.lampState j = 4

/-- R295: the current setpoint of string `i` in group `j` for code `k`, ties up. -/
def State.setpoint (s : State) (j i k : Nat) : Nat :=
  (2 * k * s.rdN (0x4C40 + i) 2 * s.rdN (0x4C10 + j) 0xD + 4096000) / 8192000

/-- R381: the voltage of string `i` of group `j` in mV. -/
def State.stringVolts (s : State) (j i : Nat) : Nat :=
  if bit s.lamp.checked i then s.rdN (0x4C40 + i) 9 else s.rdN (0x5A20 + j) 1

/-- R299: the configured strobe width of group `j`, after the session's clamp, in ns. -/
def State.lampWidth (s : State) (j : Nat) : Nat :=
  ((vget s.lamp.groups j).clampW).getD (s.rdN (0x4C10 + j) 3)

/-- R300: continuous illumination for recipe `r`. -/
def State.continuous (s : State) (r : List Byte) : Bool := s.rd 0x4C00 1 = 1 && rP r = 1

/-- R381: Σ over planes and groups of s_T × Σ strings (setpoint × V) × time × `share`(group); lamp groups that are off
leave the sum. With strobes the time is w_j × L_max, in ns per second; lit continuously it is 10^9. -/
def State.lampSum (s : State) (r : List Byte) (l : Nat) (share : Nat → Nat) : Nat :=
  ((List.range (rP r)).flatMap (fun p => (List.range 8).map (fun j =>
    if bit (rMask r p) j && !s.groupOff j then
      let v := ((s.stringsOf j).map (fun i => s.setpoint j i (rCurrent r p j) * s.stringVolts j i)).sum
      let time := if s.continuous r then 1000000000 else s.lampWidth j * l
      s.rdN (0x4C10 + j) 0xD * v * time * share j
    else 0))).sum

/-- R381: a sum of `lampSum` as mW, to the nearest. -/
def State.lampMilli (s : State) (n : Nat) : Nat := nearest (n * 3) (4095 * s.rdN 0x4C00 5 * 1000000000000)

/-- R381: the full lamp power of recipe `r` in mW. -/
def State.lampFull (s : State) (r : List Byte) (l : Nat) : Nat := s.lampMilli (s.lampSum r l (fun _ => 1000))
/-- R381: the lamp floor of recipe `r` in mW. -/
def State.lampFloor (s : State) (r : List Byte) (l : Nat) : Nat := s.lampMilli (s.lampSum r l (fun j => s.rdN (0x4C10 + j) 4))

/-! ## The device's own power (R375) -/

/-- R375: the pixel-path model in 10^-9 mW: `stage` is 0 in Bivouac, 1 in Standby, 2 in Scanning and Paused; `clock g` is
group g's pixel clock in Hz; `dram` is the DRAM term in the same unit. -/
def State.pathModel (s : State) (stage : Nat) (clock : Nat → Nat) (dram : Nat) : Nat :=
  let sum := (s.namedChannels.map (fun n => clock (s.groupOf n))).sum
  let links := ((List.range 16).map (fun n => if s.rd (0x5800 + n) 1 = 3 then s.rdN (0x5800 + n) 2 * 12000000 else 0)).sum
  let hot := (s.rd 0x5A01 4 - 1040).toNat
  1400000000000 + (if 1 ≤ stage then 800000000000 + sum * 260 else 0) + (if 2 ≤ stage then sum * 100 + dram else 0) +
    links + hot * 7375000000

/-- R375: the pixel-path reservation in mW: the model over the rail efficiency, rounded up. -/
def State.pathMilli (s : State) (model : Nat) : Nat := cdiv (model * 1000) (s.rdN 0x5A00 0xA * 1000000000)

/-- R375, R386: the DRAM term for stagger traffic of `b` bytes per second. -/
def State.dramTerm (s : State) (b : Nat) : Nat := b * (if s.rd 0x5A00 0x13 = 1 then 35 else 50)

/-- R354: the admitted connections. -/
def State.admitted (s : State) : List Nat := (List.range 16).filter (fun n => s.rd (0x58A0 + n) 1 = 3)

/-- R354: the admitted power limit P_L, 0x5890:03. -/
def State.admittedLimit (s : State) : Nat := 12000 * s.admitted.length

/-- R352: the power of connection `n` in mW, 0x5880+n:03. -/
def State.connPower (s : State) (n : Nat) : Nat := s.rdN (0x5880 + n) 2 * s.rdN 0x5890 1 / 1000

/-- R373: the auxiliary credit P_X in mW. -/
def State.auxCredit (s : State) : Nat := if s.rd 0x5891 3 = 4 then 200000 else 0

/-- R376: the stepper reservation. -/
def State.stepperNeed (s : State) : Nat := if s.paced then s.rdN 0x5A00 0xB else 0

/-- R310: a used group is ready once it has strings; a group without strings is unused. -/
def State.refreshLamps (s : State) : State :=
  let s := s.each 32 (fun i s =>
    if s.rd (0x4C40 + i) 1 = 255 then s.wr (0x4C40 + i) 7 0
    else if s.rd (0x4C40 + i) 7 = 0 then s.wr (0x4C40 + i) 7 1 else s)
  s.each 8 (fun j s =>
    if !s.groupUsed j then s.wr (0x4C10 + j) 0xA 0
    else if s.lampState j = 0 then s.wr (0x4C10 + j) 0xA 1 else s)

end Sys2Proof.Machine
end

