-- ==== Sys2Proof/Machine/Shading.lean ====
section
/-!
DEFINITION. Shading (chapter 5): the lane's arithmetic, segment temperatures, the two banks, their load check, holding
and swapping.
-/
namespace Sys2Proof.Machine

/-! ## The lane's arithmetic (R113 to R117) -/

/-- R113: the lane's input in quarter LSB. -/
def laneX (right : Bool) (word : Int) : Int := if right then word * 4 else word

/-- R114: one corrected sample before the clamp, y. -/
def laneY (x dark gain m : Int) : Int := ((x - dark) * gain * m + 2 ^ 35) / 2 ^ 36

/-- R114: the output clamp. -/
def laneClamp (y : Int) : Nat := (limit 0 65535 y).toNat

/-- R115: one temperature and plane multiplier; `dT` is T_seg − T_ref in 1/16 °C, `none` where f is 1.0. -/
def laneMult (coeff : Int) (dT : Option Int) (scale : Nat) : Nat :=
  let f : Int := match dT with
    | none => 2 ^ 22
    | some d => limit (2 ^ 21) (3 * 2 ^ 21) (2 ^ 22 + (coeff * d + 2) / 4)
  min ((f * scale + 2 ^ 11) / 2 ^ 12).toNat (2 ^ 26 - 1)

/-- One pixel of a channel line as the lane's last stage sees it: its own output, its replacement code and poison. -/
structure LanePixel where
  out : Nat
  repl : Nat
  poison : Bool
  deriving DecidableEq, Repr, Inhabited

/-- R117: the pixel at `i` after replacement, from its line and the mark value. -/
def replaced (l : List LanePixel) (mark i : Nat) : Nat × Bool :=
  let p := l.getD i default
  if p.repl = 0 then (p.out, p.poison)
  else
    let left := if i = 0 then none else (l[i - 1]?).filter (fun q => q.repl = 0)
    let right := (l[i + 1]?).filter (fun q => q.repl = 0)
    let pick := match p.repl, left, right with
      | 1, some q, _ => (q.out, q.poison)
      | 1, none, some q => (q.out, q.poison)
      | 2, _, some q => (q.out, q.poison)
      | 2, some q, none => (q.out, q.poison)
      | 3, some a, some b => ((a.out + b.out + 1) / 2, a.poison || b.poison)
      | 3, some a, none => (a.out, a.poison)
      | 3, none, some b => (b.out, b.poison)
      | _, _, _ => (mark, false)
    (pick.1, pick.2 || p.poison)

/-- R122: the index of the entry of pixel `n`, plane `p` of channel `c`. -/
def entryIndex (b : List Byte) (c p n : Nat) : Nat := dirBase b 88 c + p * dirA b 88 c + n

/-- R128: channel `c` of a bank matches the live configuration. -/
def State.matches (s : State) (b : List Byte) (planes c : Nat) : Bool :=
  bP b = planes && dirHas b 88 c && dirA b 88 c = s.activePx c

/-- R128: a bank that holds a table. -/
def State.bankFull (s : State) (b : Nat) : Bool := s.bankState b = 2

/-- R128: the match mask 0x4000:0E of a bank for `planes` planes. -/
def State.matchMask (s : State) (b planes : Nat) : Nat :=
  let bs := (s.bank b).bytes
  (List.range 64).foldl (fun m c =>
    setBit m c (!s.namedChannels.contains c || (s.bankFull b && s.matches bs planes c))) 0

/-- R119: the temperature of segment `g` in the dictionary, `none` where no value exists. -/
def State.segTemp (s : State) (g : Nat) : Option Int :=
  if s.rd 0x4045 (g + 1) = 2 then none else some (s.rd 0x4044 (g + 1))

/-- R115, R128: what the lane of channel `c` latches at a cycle start, for the bank and plane of the pixels it will read. -/
def State.laneFor (s : State) (c b planes plane : Nat) : Lane :=
  let bs := (s.bank b).bytes
  if s.bankFull b && s.matches bs planes c then
    let temp := fieldAt bs 7 1 % 2 = 1
    let seg := (s.segmentOf c).getD 0
    let dT := if temp then (s.segTemp seg).map (fun t => t - bTref bs seg) else none
    { mult := (List.range 16).map (fun k => laneMult (coeffAt bs 600 c k) dT (bScale bs plane))
      bank := b, plane := plane, identity := false, held := temp && s.rd 0x4045 (seg + 1) ≠ 0 }
  else { mult := List.replicate 16 (laneMult 0 none 0x1000), bank := b, plane := plane, identity := true, held := false }

/-- R112, R128, R137: the entry that corrects pixel `n` of channel `c`, and whether its parity is bad. -/
def State.entryFor (s : State) (l : Lane) (c n : Nat) : Nat × Bool :=
  if l.identity then (identityEntry, false)
  else
    let b := s.bank l.bank
    let e := entryIndex b.bytes c l.plane n
    (bEntry b.bytes e, b.bad.contains e)

/-- R114, R137: one sample through the lane, before replacement; a reserved replacement code acts as mark. -/
def laneSample (l : Lane) (x : Int) (e : Nat × Bool) : LanePixel × Int :=
  let y := laneY x (eDark e.1) (eGain e.1) (l.mult.getD (eClass e.1) 0)
  ({ out := laneClamp y, repl := if 4 < eRepl e.1 then 4 else eRepl e.1, poison := e.2 }, y)

/-! ## Segment temperatures (R118 to R120) -/

/-- Position of thermistor `k` in 1/256 of a segment. -/
def State.thPos (s : State) (k : Nat) : Int := s.rd 0x4041 (k + 1)

/-- The thermistor of a list with the best key, the first of equals. -/
def bestBy (key : Nat → Int) : List Nat → Option Nat → Option Nat
  | [], b => b
  | k :: r, none => bestBy key r (some k)
  | k :: r, some b => bestBy key r (some (if key b < key k then k else b))

/-- R119: the temperature of segment `g` from its usable thermistors. -/
def State.segFrom (s : State) (g : Nat) : Option Int :=
  let mask := s.rdN 0x4043 (g + 1)
  let cands := (List.range 16).filter (fun k => bit mask k && (vget s.sh.th k).usable)
  let c : Int := g * 256 + 128
  let t := fun k => (vget s.sh.th k).temp
  let lo := bestBy s.thPos (cands.filter (fun k => s.thPos k ≤ c)) none
  let hi := bestBy (fun k => - s.thPos k) (cands.filter (fun k => c ≤ s.thPos k)) none
  match lo, hi with
  | none, none => none
  | some a, none => some (t a)
  | none, some b => some (t b)
  | some a, some b =>
    if s.thPos a < s.thPos b then some (t a + rdiv ((t b - t a) * (c - s.thPos a)) (s.thPos b - s.thPos a))
    else some (t a)

/-- R119, R120: the temperature and state of segment `g` are recomputed; each change into held raises EV0843. -/
def State.segUpdate (s : State) (g : Nat) : State :=
  match s.segFrom g with
  | some t => (s.wr 0x4044 (g + 1) t).wr 0x4045 (g + 1) 0
  | none => if s.rd 0x4045 (g + 1) = 0 then (s.wr 0x4045 (g + 1) 1).raise1 843 0 else s

/-- R119: the segments whose mask selects thermistor `k` are recomputed. -/
def State.segsOfTh (s : State) (k : Nat) : State :=
  s.each 32 (fun g s => if bit (s.rdN 0x4043 (g + 1)) k then s.segUpdate g else s)

/-- R118: 1/16 °C from a result in 1/1000 °C, ties away from zero. -/
def sixteenths (milli : Int) : Int := rdiv (milli * 16) 1000

/-- R118 to R120: slot `q` delivers a result: its thermistors become usable or stop being usable. -/
def State.thResult (s : State) (q : Nat) (usable : Bool) (milli : Int) : State :=
  s.each 16 (fun k s =>
    if s.rdN 0x4040 (k + 1) = q then
      let was := (vget s.sh.th k).usable
      let s := { s with sh := { s.sh with
        th := vupd s.sh.th k (fun t => if usable then ⟨true, sixteenths milli, s.now⟩ else { t with usable := false }) } }
      if usable ∨ was then s.segsOfTh k else s
    else s)

/-! ## Bank contents -/

/-- The bytes of entries. -/
def entryBytes (es : List Nat) : List Byte := es.flatMap (fun e => le 5 e)

/-- R124: a whole bank content from its first 4,092 header bytes and its entries, with both check words. -/
def bankContent (head : List Byte) (es : List Nat) : List Byte :=
  let h := slice head 0 4092
  let body := pad4 (entryBytes es)
  h ++ le 4 (crc32 h) ++ body ++ le 4 (crc32 body)

/-- The entries of a bank content. -/
def bankEntries (b : List Byte) : List Nat := (List.range (bE b)).map (bEntry b)

/-- R122: base indexes of channels with `a c` pixels and `planes` planes, as directory records; 64 records. -/
def directory (has : Nat → Bool) (a : Nat → Nat) (planes : Nat) : List Byte :=
  ((List.range 64).foldl (fun (acc : List Byte × Nat) c =>
    if has c then (acc.1 ++ le 4 acc.2 ++ le 2 (a c) ++ le 2 1, acc.2 + a c * planes)
    else (acc.1 ++ le 4 0 ++ le 2 0 ++ le 2 0, acc.2)) ([], 0)).1

/-- R124: a bank header up to its check word. -/
def bankHeader (planes flags e source recipe : Nat) (scales : List Nat) (tref : List Int) (dir coeffs : List Byte) : List Byte :=
  le 4 0x4B534844 ++ le 2 1 ++ le 1 planes ++ le 1 flags ++ le 4 e ++ le 1 source ++ le 1 recipe ++ le 2 0 ++
  (List.range 4).flatMap (fun p => le 2 (scales.getD p 0x1000)) ++ (List.range 32).flatMap (fun g => sle 2 (tref.getD g 0)) ++
  dir ++ slice coeffs 0 2048 ++ List.replicate 1444 0

/-- R125, code 6: the directory at offset `o` is inconsistent with `planes` planes and `total` entries. -/
def dirBad (b : List Byte) (o planes total : Nat) : Bool :=
  let r := (List.range 64).foldl (fun (acc : Bool × Nat) c =>
    let fl := fieldAt b (o + 8 * c + 6) 2
    if fl % 2 = 1 then
      (acc.1 || !(decide (64 ≤ dirA b o c ∧ dirA b o c ≤ 16384)) || dirBase b o c ≠ acc.2, acc.2 + dirA b o c * planes)
    else acc) (false, 0)
  r.1 || r.2 ≠ total

/-- R124: a reserved flag bit of the directory at offset `o` is set. -/
def dirReserved (b : List Byte) (o : Nat) : Bool := (List.range 64).any (fun c => decide (1 < fieldAt b (o + 8 * c + 6) 2))

/-- R125: the load check: its code, and the entry index for code 8. -/
def bankCheck (b : List Byte) : Nat × Nat :=
  let e := bE b
  let body := slice b 4096 (b.length - 4100)
  if b.length < 4096 then (4, 0)
  else if fieldAt b 0 4 ≠ 0x4B534844 ∨ fieldAt b 4 2 ≠ 1 ∨ 1 < fieldAt b 7 1 ∨ !allZero b 14 2 ∨ !allZero b 2648 1444 ∨ dirReserved b 88 then (2, 0)
  else if crc32 (b.take 4092) ≠ fieldAt b 4092 4 then (3, 0)
  else if b.length ≠ (4096 + 5 * e + 3) / 4 * 4 + 4 then (4, 0)
  else if bP b = 0 ∨ 4 < bP b ∨ 2097152 < e then (5, 0)
  else if dirBad b 88 (bP b) e then (6, 0)
  else if crc32 body ≠ fieldAt b (b.length - 4) 4 then (7, 0)
  else match (List.range e).find? (fun i => 4 < eRepl (bEntry b i)) with
    | some i => (8, i)
    | none => (1, 0)

/-- A bank takes a state and a holder. -/
def State.setBank (s : State) (b st holder : Nat) : State := (s.wr 0x4000 (4 + b) st).wr 0x4000 (6 + b) holder

/-- R125: a write window on bank `b` closes; whether its content is accepted. -/
def State.closeBank (s : State) (b : Nat) : State × Bool :=
  let c := bankCheck (s.bank b).bytes
  let s := s.wr 0x4000 0xD c.1
  let s := if c.1 = 8 then s.wr 0x4000 0xF c.2 else s
  if c.1 = 1 then ((s.setBank b 2 0).updBank b (fun q => { q with bad := [] }), true) else (s.setBank b 3 0, false)

/-! ## Swapping (R127, R128) -/

/-- R127: the swap itself, at time `t`, for groups whose next plane-0 cycle has line number `line` or later. -/
def State.doSwap (s : State) (t line recipe : Nat) : State :=
  let old := s.activeBank
  let new := s.shadow
  let s := (((s.wr 0x4000 1 new).wr 0x4000 3 2).bump 0x4000 0xA).wr 0x4000 0xB t
  let s := (s.wr 0x4000 (6 + new) 0).wr 0x4000 (6 + old) 0
  let s := { s with sh := { s.sh with swapAt := none, change := some ⟨line, new, recipe⟩, parityTold := false } }
  let s := s.wr 0x4000 0xE (s.matchMask new (s.planesOf recipe))
  s.raise1 842 0

/-- R127: a swap made outside exposures: every group changes at once. -/
def State.swapNow (s : State) (recipe : Nat) : State :=
  let s := s.doSwap s.fine 0 recipe
  let s := s.each 16 (fun g s => s.updGroup g (fun q => { q with bank := s.activeBank, recipe := recipe }))
  { s with sh := { s.sh with change := none } }

/-- R127: every named channel of the shadow matches the live configuration. -/
def State.shadowMatches (s : State) : Bool :=
  s.namedChannels.all (fun c => s.matches (s.bank s.shadow).bytes (s.planesOf s.activeRecipe) c)

/-- R127, R161: a swap request; it is refused while a switch is armed (the arming holds the shadow). -/
def opSwap : Op := fun _ s =>
  let b := s.shadow
  if s.bankHolder b ≠ 0 ∨ s.rcp.armed.isSome then (s.wr 0x4000 3 5, 8)
  else if s.bankState b ≠ 2 then (s.wr 0x4000 3 3, 5)
  else if s.live && !s.shadowMatches then (s.wr 0x4000 3 4, 5)
  else if s.live then
    let s := (s.wr 0x4000 3 1).wr 0x4000 (6 + b) 5
    ({ s with sh := { s.sh with swapAt := some (s.fine + 1000) } }, 0)
  else (s.swapNow s.activeRecipe, 0)

/-- SWAP_REQUEST (R127). -/
def execSwapRequest (dt : Nat) (m : Fin 17) (s : State) : Host.Outcome State Fault Refusal :=
  hostCommand dt m 0x4000 2 1 opSwap s

/-- R131: the copy of the active bank begins; an empty active bank leaves the shadow empty. -/
def opCopy : Op := fun _ s =>
  let b := s.shadow
  if s.bankHolder b ≠ 0 then (s, 8)
  else ({ s.setBank b 1 4 with sh := { (s.setBank b 1 4).sh with copying := true } }, 0)

/-- COPY_ACTIVE_TO_SHADOW (R131). -/
def execCopyActiveToShadow (dt : Nat) (m : Fin 17) (s : State) : Host.Outcome State Fault Refusal :=
  hostCommand dt m 0x4000 8 1 opCopy s

/-- R131, R137: a copied content with source 4; parity errors are carried over. -/
def copyContent (b : List Byte) : List Byte :=
  let h := overlay (b.take 4092) 12 (le 1 4 ++ le 1 0xFF)
  h ++ le 4 (crc32 h) ++ b.drop 4096

/-- COPY_COMPLETE (R131): the copy ends and releases the shadow. -/
def execCopyComplete (dt : Nat) (s : State) : Host.Outcome State Fault Refusal :=
  event dt s (fun s => s.sh.copying) (fun s =>
    let a := s.activeBank
    let b := s.shadow
    let s := { s with sh := { s.sh with copying := false } }
    if s.bankState a = 0 then (s.setBank b 0 0).updBank b (fun _ => default)
    else (s.setBank b (s.bankState a) 0).updBank b (fun _ => { s.bank a with bytes := copyContent (s.bank a).bytes }))

/-- R131: the shadow becomes empty. -/
def opClearShadow : Op := fun _ s =>
  let b := s.shadow
  if s.bankHolder b ≠ 0 then (s, 8) else ((s.setBank b 0 0).updBank b (fun _ => default), 0)

/-- CLEAR_SHADOW (R131). -/
def execClearShadow (dt : Nat) (m : Fin 17) (s : State) : Host.Outcome State Fault Refusal :=
  hostCommand dt m 0x4000 9 1 opClearShadow s

/-- R130: a plane scale of the active bank is replaced and the header check word recomputed. -/
def opPlaneScale (p : Nat) : Op := fun v s =>
  let b := s.activeBank
  if s.bankState b = 0 then (s, 7)
  else
    let h := overlay ((s.bank b).bytes.take 4092) (16 + 2 * p) (le 2 v.toNat)
    (s.updBank b (fun q => { q with bytes := h ++ le 4 (crc32 h) ++ q.bytes.drop 4096 }), 0)

/-- SET_ACTIVE_PLANE_SCALE (R130). -/
def execSetActivePlaneScale (dt : Nat) (m : Fin 17) (p : Fin 4) (v : Nat) (s : State) : Host.Outcome State Fault Refusal :=
  hostCommand dt m 0x4003 (p + 1) v (opPlaneScale p) s

/-- R128: the comparison at entry to Scanning. -/
def State.matchAtEntry (s : State) : State :=
  let mask := s.matchMask s.activeBank (s.planesOf s.activeRecipe)
  let s := s.wr 0x4000 0xE mask
  s.raiseIf (mask ≠ 2 ^ 64 - 1) 839 0

end Sys2Proof.Machine
end

