-- ==== Sys2Proof/Machine/Check.lean ====
section
/-!
DEFINITION. The combination check (R27 to R29), the recipe checks that use it (R149, R150) and the load checks of basis
sets and recipes (R142, R149).
-/
namespace Sys2Proof.Machine

/-! ## Basis sets (R141) -/

/-- The state of basis set `k`, 0x4202:k+1. -/
def State.basisState (s : State) (k : Nat) : Nat := s.rdN 0x4202 (k + 1)

/-- The content of basis set `k`: in DRAM once valid, still in NOR while it loads; `none` where empty or invalid. -/
def State.basisBytes (s : State) (k : Nat) : Option (List Byte) :=
  match s.basisState k with
  | 1 => some (vget s.rcp.basis k).nor
  | 2 | 3 => some (vget s.rcp.basis k).bytes
  | _ => none

/-- The table count T. -/
def bsT (b : List Byte) : Nat := fieldAt b 6 1
/-- The pixel count N_px. -/
def bsN (b : List Byte) : Nat := fieldAt b 8 4
/-- The lamp group of table `i`. -/
def bsGroup (b : List Byte) (i : Nat) : Nat := fieldAt b (12 + i) 1
/-- The current of table `i`. -/
def bsCurrent (b : List Byte) (i : Nat) : Nat := fieldAt b (20 + 2 * i) 2
/-- The response of pixel `x` in table `i`. -/
def bsResp (b : List Byte) (i x : Nat) : Nat := fieldAt b (4096 + 2 * (i * bsN b + x)) 2
/-- The dark of pixel `x`. -/
def bsDark (b : List Byte) (x : Nat) : Int := sfieldAt b (4096 + 2 * (bsT b * bsN b + x)) 2
/-- The attribute of pixel `x`. -/
def bsAttr (b : List Byte) (x : Nat) : Nat := fieldAt b (4096 + 2 * (bsT b + 1) * bsN b + x) 1
/-- R141: the domain's length for N_px and T. -/
def bsLength (n t : Nat) : Nat := cdiv (4096 + n * (2 * t + 3)) 4 * 4 + 4

/-- The channels present in a basis set. -/
def bsChannels (b : List Byte) : List Nat := (List.range 64).filter (dirHas b 96)

/-- R143: bytes of NOR that set `k` uses, the new content's while it is being written. -/
def State.basisRoom (s : State) (k : Nat) : Nat :=
  if s.basisState k = 3 then (vget s.rcp.basis k).bytes.length else (vget s.rcp.basis k).nor.length

/-- R143: bytes of NOR that the sets other than `but` use. -/
def State.basisUsed (s : State) (but : Nat) : Nat :=
  ((List.range 8).map (fun k => if k = but then 0 else s.basisRoom k)).sum

/-- R145: 0x4200:01 follows what the sets use. -/
def State.showBasisFree (s : State) : State := s.wr 0x4200 1 (100663296 - s.basisUsed 8)

/-- R142, code 5: tables and directory. -/
def bsFieldsBad (b : List Byte) : Bool :=
  let t := bsT b
  t = 0 || 6 < t ||
    (List.range 6).any (fun i =>
      if i < t then 7 < bsGroup b i || bsCurrent b i = 0 || 4095 < bsCurrent b i
      else bsGroup b i ≠ 255 || bsCurrent b i ≠ 0) ||
    1048576 < bsN b || dirBad b 96 1 (bsN b)

/-- R142: the load check of a basis set; `room` is the NOR area left beside the other sets. -/
def basisCheck (b : List Byte) (room : Nat) : Nat :=
  if b.length < 4096 then 4
  else if fieldAt b 0 4 ≠ 0x4B424153 ∨ fieldAt b 4 2 ≠ 1 ∨ !allZero b 18 2 ∨ !allZero b 2672 1420 ∨ dirReserved b 96 then 2
  else if crc32 (b.take 4092) ≠ fieldAt b 4092 4 then 3
  else if b.length ≠ bsLength (bsN b) (bsT b) then 4
  else if bsFieldsBad b then 5
  else if crc32 (slice b 4096 (b.length - 4100)) ≠ fieldAt b (b.length - 4) 4 then 6
  else if (List.range (bsN b)).any (fun x => 4 < bsAttr b x % 8) then 7
  else if room < b.length then 8
  else 1

/-! ## Recipes (R147, R149) -/

/-- The first field of a list of (offset, good) that fails. -/
def firstBad (l : List (Nat × Bool)) : Option Nat := (l.find? (fun p => !p.2)).map (·.1)

/-- R149, code 2: magic, version and reserved fields, with their offsets. -/
def recipeFixed (b : List Byte) : List (Nat × Bool) :=
  [(0, decide (fieldAt b 0 4 = 0x4B524350)), (4, decide (fieldAt b 4 2 = 1)), (8, decide (fieldAt b 8 1 < 2)), (18, allZero b 18 6)] ++
  (List.range 4).flatMap (fun p =>
    let o := 24 + 48 * p
    [(o + 2, allZero b (o + 2) 2), (o + 34, allZero b (o + 34) 14)]) ++
  [(248, allZero b 248 4)]

/-- R149, code 5: the ranges of R147, with their offsets. -/
def recipeRanges (b : List Byte) : List (Nat × Bool) :=
  let within := fun (v lo hi : Nat) => decide (lo ≤ v ∧ v ≤ hi)
  [(6, within (rP b) 1 4), (7, decide (rBasis b < 8)), (9, decide (fieldAt b 9 1 < 4)), (10, decide (rForm b < 3)), (11, within (fieldAt b 11 1) 1 4),
    (12, within (rCd b) 150 4800), (14, within (rMd b) 150 4800), (16, within (rWhite b) 4096 65000)] ++
  (List.range 4).flatMap (fun p =>
    let o := 24 + 48 * p
    if p < rP b then
      [(o, decide (rPlane b p 0 1 < 6)), (o + 4, (List.range 6).any (fun i => rWeight b p i ≠ 0))] ++
      (List.range 8).map (fun j => (o + 16 + 2 * j,
        decide (if bit (rMask b p) j then rCurrent b p j ≤ 4095 else rCurrent b p j = 0)))
    else
      [(o, allZero b o 1), (o + 1, allZero b (o + 1) 1)] ++
      (List.range 6).map (fun i => (o + 4 + 2 * i, allZero b (o + 4 + 2 * i) 2)) ++
      (List.range 9).map (fun j => (o + 16 + 2 * j, allZero b (o + 16 + 2 * j) 2)))

/-- R149, codes 6 and 7: the recipe against its basis set and the live map, with the offset of the failing field. -/
def State.recipeFits (s : State) (b : List Byte) : Nat × Nat :=
  match s.basisBytes (rBasis b) with
  | none => (6, 7)
  | some set =>
    let beyond := (List.range (rP b)).flatMap (fun p => (List.range 6).map (fun i =>
      (24 + 48 * p + 4 + 2 * i, decide (i < bsT set) || rWeight b p i = 0)))
    match firstBad beyond with
    | some o => (6, o)
    | none =>
      if s.namedChannels.any (fun c => !(dirHas set 96 c && dirA set 96 c = s.activePx c)) then (7, 7) else (1, 0)

/-! ## The combination check (R28) -/

/-- The outcome of a check: the item that fails (0 for none), what is required and available, and the subject. -/
structure CheckResult where
  code : Nat
  need : Nat
  have_ : Nat
  subject : Nat
  deriving DecidableEq, Repr, Inhabited

/-- R26: a check's result in 0x2000:10–13. -/
def State.report (s : State) (c : CheckResult) : State :=
  s.wrAll 0x2000 0x10 [min c.code 255, min c.need 0xFFFFFFFF, min c.have_ 0xFFFFFFFF, c.subject]

/-- The first of several items that fails. -/
def firstFailed : List (Option CheckResult) → CheckResult
  | [] => default
  | some c :: _ => c
  | none :: r => firstFailed r

/-- R243: enabled image streams. -/
def State.streamsOn (s : State) : List Nat := (List.range 31).filter (fun n => s.rd (0x5410 + n) 1 = 1)
/-- R27: the link group number of a mask. -/
def groupNumber (m : Nat) : Nat := ((List.range 16).find? (bit m)).getD 0
/-- R271: the payload budgets of a mask's trained links, in Mbit/s. -/
def State.budget (s : State) (m : Nat) : Nat :=
  ((List.range 16).map (fun n => if bit m n && s.linkUp n then s.rdN (0x5800 + n) 6 else 0)).sum
/-- The link masks of the enabled streams, each once, by link group number. -/
def State.groupMasks (s : State) : List Nat :=
  (List.range 16).filterMap (fun n => (s.streamsOn.map s.maskOf).find? (fun m => groupNumber m = n && m ≠ 0))
/-- R245: the rate in bit/s that a mask's streams need, with recipe `r` on stream 0 at `l` lines per second. -/
def State.groupNeed (s : State) (m : Nat) (r : List Byte) (l : Nat) : Nat :=
  ((s.streamsOn.filter (fun n => s.maskOf n = m)).map (fun n =>
    if n = 0 then s.rateOf r l else s.rdN (0x5410 + n) 3 * 1000000)).sum

/-- Item 1: the cluster set and the links of the running streams. -/
def State.item1 (s : State) : Option CheckResult :=
  let named := s.namedChannels
  let bad := named.filter (fun c => !bit (s.rdN 0x2000 4) (c / 8))
  match bad with
  | c :: _ => some ⟨1, named.length, named.length - bad.length, c⟩
  | [] => match s.groupMasks.find? (fun m => !(List.range 16).any (fun n => bit m n && s.linkUp n)) with
    | some m => some ⟨1, 1, 0, groupNumber m⟩
    | none => none

/-- Item 2: the compatibility boundary. -/
def State.item2 (s : State) : Option CheckResult :=
  if !s.compatMode then none
  else
    let low := fun (g : Nat) => (s.taps g).any (fun c => c < 16)
    let high := fun (g : Nat) => (s.taps g).any (fun c => 16 ≤ c)
    let u := s.usedSegments
    match u.find? (fun g => low g && high g), (u.zip (u.drop 1)).find? (fun p => low p.1 && high p.2 && s.overlap p.1 p.2 ≠ 0) with
    | some g, _ => some ⟨2, 0, 0, g⟩
    | none, some p => some ⟨2, 0, 0, p.1⟩
    | none, none =>
      match s.streamsOn.find? (fun n => s.maskOf n % 16 ≠ 0) with
      | some _ => some ⟨2, 0, 0, 0⟩
      | none => none

/-- Item 3: converter rate at `e` exposures per second; `limitOf` is each group's rate limit in S/s. -/
def State.item3 (s : State) (e : Nat) (limitOf : Nat → Nat) : Option CheckResult :=
  match s.namedChannels.find? (fun c => limitOf (s.groupOf c) < s.lineLen c * e) with
  | some c => some ⟨3, nearest (s.lineLen c * e) 1000, nearest (limitOf (s.groupOf c)) 1000, c⟩
  | none => none

/-- Item 4: link payload, in inline mode. -/
def State.item4 (s : State) (r : List Byte) (l : Nat) : Option CheckResult :=
  if s.paced then none
  else match s.groupMasks.find? (fun m => s.budget m * 1000000 < s.groupNeed m r l) with
    | some m => some ⟨4, nearest (s.groupNeed m r l) 1000000, s.budget m, groupNumber m⟩
    | none => none

/-- Item 5: entries of the recipe's shading bank. -/
def State.item5 (s : State) (num : Nat) (r : List Byte) : Option CheckResult :=
  let px := match s.basisBytes (rBasis r) with
    | some b => bsN b
    | none => (s.namedChannels.map s.activePx).sum
  if 2097152 < rP r * px then some ⟨5, rP r * px, 2097152, num⟩ else none

/-- The lamp groups that a recipe names. -/
def recipeGroups (r : List Byte) : List Nat := (List.range 8).filter (fun j => (List.range (rP r)).any (fun p => bit (rMask r p) j))

/-- Item 6: lamp groups off by a fault or by temperature (R304, R305). -/
def State.item6 (s : State) (r : List Byte) : Option CheckResult :=
  match (recipeGroups r).find? s.groupOff with
  | some j => some ⟨6, 0, 0, j⟩
  | none => none

/-- Item 7: a used segment without an assigned thermistor, for a recipe with temperature terms. -/
def State.item7 (s : State) (r : List Byte) : Option CheckResult :=
  if !rTemp r then none
  else match s.usedSegments.find? (fun g =>
      !(List.range 16).any (fun k => bit (s.rdN 0x4043 (g + 1)) k && s.rd 0x4040 (k + 1) ≠ 255)) with
    | some g => some ⟨7, 0, 0, g⟩
    | none => none

/-- The pixel-path reservation at the clocks that entry to Scanning would set for the rate `e` (R381). -/
def State.entryPath (s : State) (e l planes : Nat) : Nat :=
  s.pathMilli (s.pathModel 2 (fun g => stepHz (s.clockSteps g e)) (s.dramTerm (s.staggerBytes planes l)))

/-- Item 8: energy (R381). -/
def State.item8 (s : State) (num : Nat) (r : List Byte) (e l : Nat) : Option CheckResult :=
  let floor_ := s.lampFloor r l
  let need := s.rdN 0x5A00 9 + s.entryPath e l (rP r) + s.stepperNeed + floor_
  let px := s.auxCredit
  let avail := s.admittedLimit + px
  if avail < need then some ⟨8, need, avail, num⟩
  else if 150000 < floor_ - px then some ⟨8, floor_ - px, 150000, num⟩
  else none

/-- Items 3 to 8 for one recipe: at `e` exposures a second and `l` lines a second. -/
def State.recipeItems (s : State) (num : Nat) (r : List Byte) (e l : Nat) (limitOf : Nat → Nat) : CheckResult :=
  firstFailed [s.item3 e limitOf, s.item4 r l, s.item5 num r, s.item6 r, s.item7 r, s.item8 num r e l]

/-- R149, R150: one recipe checked on its own under codes 6 to 8: its code, the detail of code 8, and the offset of the
field that fails. -/
def State.recipeCheck (s : State) (num : Nat) (r : List Byte) (limitOf : Nat → Nat) : Nat × CheckResult × Nat :=
  let fit := s.recipeFits r
  if fit.1 ≠ 1 then (fit.1, ⟨9, fit.1, 0, num⟩, fit.2)
  else
    let c := s.recipeItems num r (s.eOf r) (s.lMaxOf (rMd r :: s.liveRecipes.map (fun q => rMd (s.recipe q)))) limitOf
    if c.code = 0 then (1, c, 0) else (8, c, 0)

/-- R73: 400 MS/s for every group. -/
def converterLimit : Nat → Nat := fun _ => 400000000

/-- R150: at each Standby-to-Scanning check every stored or withdrawn recipe is checked on its own. -/
def State.recheck (s : State) (num : Nat) : State :=
  if s.rd 0x4240 (num + 1) = 0 then s
  else
    let c := s.recipeCheck num (s.recipe num) converterLimit
    let was := s.rd 0x4240 (num + 1)
    let s := s.wr 0x4241 (num + 1) c.1
    if c.1 = 1 then s.wr 0x4240 (num + 1) 1
    else (s.wr 0x4240 (num + 1) 2).raiseIf (was = 1) 847 0

/-- R299: item 8 for a lamp group whose strobe would fall below 1,000 ns at the rate `e`. -/
def State.strobeFits (s : State) (e : Nat) : Option CheckResult :=
  if s.continuous (s.recipe s.activeRecipe) then none
  else match (List.range 8).find? (fun j => s.groupUsed j &&
      (let g := s.rdN (0x4C10 + j) 1
       let tcyc := s.cycleLen g * 1000000000 / max 1 (stepHz (s.clockSteps g e))
       decide (tcyc < s.rdN (0x4C10 + j) 2 + 1000 + 100))) with
    | some j =>
      let g := s.rdN (0x4C10 + j) 1
      let tcyc := s.cycleLen g * 1000000000 / max 1 (stepHz (s.clockSteps g e))
      some ⟨8, 1000, tcyc - 100 - s.rdN (0x4C10 + j) 2, j⟩
    | none => none

/-- R28, R150: the whole check of a Scanning request for the active recipe: the state with the recipes' statuses and the
result reported, and whether it passes. -/
def State.combinationCheck (s : State) : State × Bool :=
  let first := firstFailed [s.item1, s.item2]
  if first.code ≠ 0 then (s.report first, false)
  else
    let s := s.each 32 (fun r s => s.recheck r)
    let a := s.activeRecipe
    let b := s.recipe a
    if s.rd 0x4240 (a + 1) = 2 then (s.report (s.recipeCheck a b converterLimit).2.1, false)
    else
      let e := s.eMax
      let c := s.recipeItems a b e s.lMax converterLimit
      let c := if c.code ≠ 0 then c else (s.strobeFits e).getD default
      (s.report c, c.code = 0)

end Sys2Proof.Machine
end

