-- ==== Sys2Proof/Machine/Recipes.lean ====
section
/-!
DEFINITION. Basis sets, recipes, the blend and the job switch (chapter 6), but for the basis measurement, which stands
beside the capture.
-/
namespace Sys2Proof.Machine

/-! ## Holding the shadow -/

/-- R126: the shadow is held. -/
def State.shadowHeld (s : State) : Bool := s.bankHolder s.shadow ≠ 0

/-- R126: the shadow's holder. -/
def State.holdShadow (s : State) (h : Nat) : State := s.wr 0x4000 (6 + s.shadow) h

/-- The shadow becomes invalid and has no holder. -/
def State.spoilShadow (s : State) : State := s.setBank s.shadow 3 0

/-! ## Basis sets (R142, R143) -/

/-- Basis set `k` takes a state. -/
def State.setBasis (s : State) (k st : Nat) : State := s.wr 0x4202 (k + 1) st

/-- R142: a write-open, measurement or import of set `k` is refused. -/
def State.basisBusy (s : State) (k : Nat) : Bool :=
  let named := fun (r : Nat) => decide (r < 32) && decide (rBasis (s.recipe r) = k)
  s.basisState k = 1 || named s.activeRecipe ||
    (match s.rcp.armed with | some a => named a.recipe | none => false) ||
    (match s.rcp.measure with | some m => decide (m.set = k) | none => false) || s.rcp.importing = some k

/-- Change basis set `k`. -/
def State.updBasis (s : State) (k : Nat) (f : Basis → Basis) : State :=
  { s with rcp := { s.rcp with basis := vupd s.rcp.basis k f } }

/-- R143: an accepted content becomes set `k`, usable from DRAM while NOR is written. -/
def State.takeBasis (s : State) (k : Nat) (b : List Byte) : State :=
  (((s.updBasis k (fun q => { q with bytes := b })).setBasis k 3).wr 0x4203 (k + 1) b.length).showBasisFree

/-- R142: the window on basis set `k` closes; whether its content is accepted. -/
def State.closeBasis (s : State) (k : Nat) (b : List Byte) : State × Bool :=
  let c := basisCheck b (100663296 - s.basisUsed k)
  let s := s.wr 0x4200 2 c
  if c = 1 then (s.takeBasis k b, true) else (s, false)

/-- BASIS_NOR_WRITE_DONE (R143): set `k` is written to NOR. -/
def execBasisNorWriteDone (dt : Nat) (k : Fin 8) (s : State) : Host.Outcome State Fault Refusal :=
  event dt s (fun s => s.basisState k = 3) (fun s =>
    ((s.updBasis k (fun q => { q with nor := q.bytes })).setBasis k 2).showBasisFree)

/-! ## Arming (R154 to R161) -/

/-- The armed switch changes. -/
def State.setArmed (s : State) (a : Option Armed) : State := { s with rcp := { s.rcp with armed := a } }

/-- The switch status 0x4210:0A. -/
def State.switchStatus (s : State) (v : Nat) : State := s.wr 0x4210 0xA v

/-- R152, R156: the armed switch ends without a switch, with this status and, once the blend runs, this blend result. -/
def State.dropArmed (s : State) (status result : Nat) : State :=
  match s.rcp.armed with
  | none => s
  | some a =>
    let s := (s.setArmed none).switchStatus status
    if a.phase = 2 then ((s.wr 0x4210 0xB result).spoilShadow).raise1 848 0
    else s.holdShadow 0

/-- R161: the armed recipe is cancelled by a lamp fault: the blend stops and the shadow becomes invalid. -/
def State.cancelArmed (s : State) : State :=
  match s.rcp.armed with
  | none => s
  | some a =>
    let s := s.dropArmed 8 5
    (if 2 ≤ a.phase then s.spoilShadow else s).raise1 852 0

/-- R161, R139: a fatal-class event cancels the arming; a completed shadow stays ready. -/
def State.fatalArmed (s : State) : State :=
  match s.rcp.armed with
  | none => s
  | some _ => (s.dropArmed 8 5).raise1 852 0

/-- R161: the armed recipe's basis set is lost. -/
def State.loseArmedBasis (s : State) (k : Nat) : State :=
  match s.rcp.armed with
  | none => s
  | some a =>
    if rBasis (s.recipe a.recipe) ≠ k then s
    else if a.phase = 2 then s.dropArmed 7 4
    else if a.phase = 1 then ((s.dropArmed 7 4).wr 0x4210 0xB 4).raise1 848 0
    else s

/-- R143: the basis sets still loading, in the order of loading: the startup recipe's set first. -/
def State.loadOrder (s : State) : List Nat :=
  let first := if s.activeRecipe < 32 then rBasis (s.recipe s.activeRecipe) else 8
  let l := (List.range 8).filter (fun k => s.basisState k = 1)
  l.filter (· = first) ++ l.filter (· ≠ first)

/-- BASIS_SET_LOAD_DONE (R143): the next set is loaded, or lost when its NOR copy fails its check words. -/
def execBasisSetLoadDone (dt : Nat) (k : Fin 8) (good : Bool) (s : State) : Host.Outcome State Fault Refusal :=
  event dt s (fun s => s.rcp.stood && s.loadOrder.head? = some k.val) (fun s =>
    if good then
      (s.updBasis k (fun q => { q with bytes := q.nor })).setBasis k 2
    else
      let s := (((s.updBasis k (fun _ => ⟨[], []⟩)).setBasis k 0).wr 0x4203 (k + 1) 0).showBasisFree
      (s.raise1 853 0).loseArmedBasis k)

/-- A fresh arming at status 1. -/
def freshArmed (recipe job source pos : Nat) (startup : Bool) : Armed :=
  { (default : Armed) with recipe := recipe, job := job, source := source, pos := pos, startup := startup, phase := 1 }

/-- R154: the arming is accepted: the shadow is held and the Canteen grant requested. -/
def State.beginArm (s : State) (a : Armed) : State :=
  let s := ((s.setArmed (some a)).switchStatus 1).holdShadow 3
  { s with can := { s.can with blendOk := false } }

/-- R154: the arm command. -/
def opArm : Op := fun _ s =>
  let src := s.rdN 0x4210 5
  let r := s.rdN 0x4210 3
  if s.dev.st = .trailhead ∨ s.dev.st = .bivouac ∨ (src = 1 ∧ s.rd 0x2050 1 ≠ 1 ∧ s.rd 0x2050 1 ≠ 2) then (s, 7)
  else if s.rcp.armed.isSome ∨ s.shadowHeld ∨ s.sh.capture.isSome ∨ s.rcp.measure.isSome then (s, 8)
  else if s.rd 0x4240 (r + 1) ≠ 1 then
    (s.report ⟨9, if s.rd 0x4240 (r + 1) = 0 then 0 else s.rdN 0x4241 (r + 1), 0, r⟩, 10)
  else match s.item6 (s.recipe r) with
    | some c => (s.report c, 10)
    | none => (s.beginArm (freshArmed r (s.rdN 0x4210 4) src (s.rdN 0x4210 6) false), 0)

/-- ARM_SWITCH (R154). -/
def execArmSwitch (dt : Nat) (m : Fin 17) (s : State) : Host.Outcome State Fault Refusal :=
  hostCommand dt m 0x4210 7 1 opArm s

/-- R155: the switch trigger of an armed switch is fixed. -/
def Armed.fixed (a : Armed) : Bool :=
  a.due.isSome || (a.phase = 3 && a.cond.isSome && (a.deferred || a.source = 0 || a.source = 3))

/-- R160: the disarm command. -/
def opDisarm : Op := fun _ s =>
  match s.rcp.armed with
  | none => (s, 0)
  | some a =>
    if a.fixed then (s, 8)
    else
      let t := s.dropArmed 8 5
      (if a.phase = 3 then t.spoilShadow else t, 0)

/-- DISARM_SWITCH (R160). -/
def execDisarmSwitch (dt : Nat) (m : Fin 17) (s : State) : Host.Outcome State Fault Refusal :=
  hostCommand dt m 0x4210 8 1 opDisarm s

/-- R155, R158: the switch condition is met at time `t`; a later one is ignored. -/
def State.condition (s : State) (t : Nat) : State :=
  match s.rcp.armed with
  | none => s
  | some a =>
    if a.cond.isSome then s
    else if a.phase = 3 then s.setArmed (some { a with cond := some t })
    else ((s.setArmed (some { a with cond := some t, deferred := true })).switchStatus 5).raise1 846 0

/-- R155: switch now. -/
def opSwitchNow : Op := fun _ s =>
  match s.rcp.armed with
  | none => (s, 5)
  | some a => if a.source ≠ 0 ∨ a.startup then (s, 5) else (s.condition s.fine, 0)

/-- SWITCH_NOW (R155). -/
def execSwitchNow (dt : Nat) (m : Fin 17) (s : State) : Host.Outcome State Fault Refusal :=
  hostCommand dt m 0x4210 9 1 opSwitchNow s

/-- R155: a job number that equals neither the armed nor the active one. -/
def State.unmatchedJob (s : State) : State := (s.bump 0x4210 0x13).raise1 849 0

/-- R155, source 3: a committed job number takes effect in Op; only a change acts. -/
def State.jobCommitted (s : State) (job : Nat) : State :=
  let new := s.rcp.lastJob ≠ some job
  let s := { s with rcp := { s.rcp with lastJob := some job } }
  if !new ∨ job = s.rdN 0x4210 2 then s
  else match s.rcp.armed with
    | some a =>
      if !a.startup ∧ a.job = job then (if a.source = 3 then s.condition s.fine else s) else s.unmatchedJob
    | none => s.unmatchedJob

/-- R155, source 2: a Casby job switch command naming a trigger. -/
def State.jobByCasby (s : State) (job trig : Nat) : State :=
  if job = s.rdN 0x4210 2 then s
  else match s.rcp.armed with
    | some a =>
      if a.startup ∨ a.job ≠ job then s.unmatchedJob
      else if a.source ≠ 2 ∨ a.cond.isSome then s
      else
        let s := s.condition s.fine
        match s.rcp.armed with
        | some b => s.setArmed (some { b with casbyTrig := some trig })
        | none => s
    | none => s.unmatchedJob

/-! ## The switch (R155 to R158) -/

/-- R155, R158: a trigger at time `t` opens line cycle `line` at the reported position `rep` (extended `pos`);
`num` is its Casby number. It may meet the condition and it may be the switch trigger. -/
def State.switchTrigger (s : State) (t line rep : Nat) (pos : Int) (num : Option Nat) : State :=
  match s.rcp.armed with
  | none => s
  | some a =>
    if a.due.isSome then s
    else match a.cond with
      | none =>
        if a.source = 1 ∧ ¬ a.startup ∧ 0 ≤ Ty.i32.wrap ((rep : Int) - a.pos) then
          let s := s.condition t
          match s.rcp.armed with
          | some b => s.setArmed (some { b with condLine := some line, due := if b.phase = 3 then some (line, t, pos) else none })
          | none => s
        else s
      | some c =>
        let a := if a.condLine.isNone ∧ c ≤ t then { a with condLine := some line } else a
        let here :=
          a.phase = 3 &&
            (if a.source = 2 ∧ ¬ a.deferred then (num.isSome && a.casbyTrig = num)
             else decide (max c a.readyAt + 1000 ≤ t))
        s.setArmed (some (if here then { a with due := some (line, t, pos) } else a))

/-- R127: a pending swap meets a trigger at time `t` that opens line cycle `line`. -/
def State.swapTrigger (s : State) (t line : Nat) : State :=
  match s.sh.swapAt with
  | some at_ => if at_ ≤ t then s.doSwap t line s.activeRecipe else s
  | none => s

/-- R172: the pre-average count m that a recipe gives. -/
def State.preAverage (s : State) (r : List Byte) : Nat :=
  let ratio := s.cLine (rMd r) / max 1 (s.nominal r)
  if ratio < 2 then 1
  else if s.rdN 0x4441 2 = 0 then min 16 ratio else s.rdN 0x4441 2

/-- R164, R172: the output width and the pre-average in use, shown at entry to Scanning and at a switch. -/
def State.showGrid (s : State) : State :=
  let r := s.recipe s.activeRecipe
  (s.wr 0x4442 3 (s.widthAt .native (rCd r))).wr 0x4441 3 (s.preAverage r)

/-- R156, R159: the switch is made; `trig` is the switch trigger, none in Standby. -/
def State.makeSwitch (s : State) (a : Armed) (trig : Option (Nat × Nat × Int)) : State :=
  let old := s.activeRecipe
  let oldJob := s.rdN 0x4210 2
  let job := if a.startup then oldJob else a.job
  let s := ((s.setArmed none).wr 0x4210 1 a.recipe).wr 0x4210 2 job
  let s := { s with rcp := { s.rcp with startupDue := false } }
  let s := match trig with
    | none => (((s.swapNow a.recipe).wr 0x4210 0xC 0).wr 0x4210 0xD 0).wr 0x4210 0xE s.fine
    | some (line, t, pos) =>
      let late : Nat := if a.deferred ∧ ¬ a.startup then (line + 2 ^ 32 - a.condLine.getD line) % 2 ^ 32 else 0
      let s := (((s.doSwap t line a.recipe).wr 0x4210 0xC line).wr 0x4210 0xD late).wr 0x4210 0xE t
      if a.startup then s
      else
        let window := some (pos, s.cLine (rMd (s.recipe a.recipe)), s.rdN 0x5A30 1)
        { s with
          trm := { s.trm with switchAt := window }
          rcp := { s.rcp with switches := s.rcp.switches ++
            [(⟨line, pos, a.recipe, job, old, oldJob, a.source, late, t⟩ : Switched)] } }
  let s := (s.switchStatus 6).showGrid
  if a.startup then s else (s.bump 0x4210 0x12).raise1 845 0

/-- R155, R156: a switch that is due is made: at its trigger, or in Standby once condition and shadow are there. -/
def State.settleSwitch (s : State) : State :=
  match s.rcp.armed with
  | none => s
  | some a =>
    if a.due.isSome then s.makeSwitch a (if s.live then a.due else none)
    else if s.dev.st = .standby ∧ a.phase = 3 ∧ a.cond.isSome then s.makeSwitch a none
    else s

/-- RECIPE_SWITCH (R156): the switch takes place. -/
def execRecipeSwitch (dt : Nat) (s : State) : Host.Outcome State Fault Refusal :=
  event dt s (fun s => s.rcp.armed.isSome) State.settleSwitch

/-- R155, R161: at the transition to Standby a switch whose trigger is fixed is made. -/
def State.switchAtStandby (s : State) : State :=
  match s.rcp.armed with
  | some a => if a.fixed then s.makeSwitch a none else s
  | none => s

/-! ## The blend (R151 to R153) -/

/-- One channel's plane of a blend: entries, defects, and the responses. -/
structure BlendPlane where
  entries : List Nat
  defects : Nat
  deriving DecidableEq, Repr, Inhabited

/-- R151: rsp of pixel `x` in plane `p`. -/
def blendRsp (r b : List Byte) (p x : Nat) : Int :=
  (((List.range (bsT b)).map (fun i => rWeight r p i * (bsResp b i x : Int))).sum + 2 ^ 14) / 2 ^ 15

/-- R151: a defect by attribute or by response. -/
def blendDefect (b : List Byte) (min x : Nat) (rsp : Int) : Bool := bsAttr b x % 8 ≠ 0 || decide (rsp < min)

/-- R151: a gain with ties up, before saturation; beyond the range where the divisor is below 1. -/
def blendGain (m : Nat) (v : Int) : Nat := if v < 1 then 0x10000 else ((2 * m * 2 ^ 14 + v.toNat) / (2 * v.toNat))

/-- R151: one channel of one plane: `n` pixels from number `base`, plane level `m`. -/
def blendChannel (r b : List Byte) (p base n m min : Nat) (dark : Nat → Int) : BlendPlane :=
  let rsp := (List.range n).map (fun i => blendRsp r b p (base + i))
  let px := (List.range n).map (fun i =>
    let v := rsp.getD i 0
    let at_ := bsAttr b (base + i)
    let d := blendDefect b min (base + i) v
    let w := if d then localMedian rsp i else v
    let g := blendGain m w
    let d := d || (0xFFFF < g)
    let org := if at_ % 8 ≠ 0 then at_ / 8 % 2 else b2n d
    let rep := if at_ % 8 ≠ 0 then at_ % 8 else if d then fieldAt r 11 1 else 0
    (mkEntry (dark i) (Nat.min g 0xFFFF) (at_ / 16) org rep, d))
  ⟨px.map (·.1), (px.filter (·.2)).length⟩

/-- R151: M_p of plane `p`. -/
def blendLevel (r b : List Byte) (p min : Nat) : Nat :=
  if rRef r p ≠ 0 then rRef r p
  else
    let good := (bsChannels b).flatMap (fun c => (List.range (dirA b 96 c)).filterMap (fun i =>
      let x := dirBase b 96 c + i
      let v := blendRsp r b p x
      if blendDefect b min x v then none else some v))
    (lowerMedian good).toNat

/-- R151, R152: the blend of recipe `num` from a basis set: a bank content, or the result that fails.
`act` is the active bank's content where its darks are used. -/
def blend (r b : List Byte) (num min maxDef : Nat) (act : Option (List Byte)) : Except Nat (List Byte) :=
  let planes := rP r
  let levels := (List.range planes).map (fun p => blendLevel r b p min)
  if levels.any (fun m => m < min) then .error 2
  else
    let cs := bsChannels b
    let darkOf := fun (c i : Nat) =>
      match act with
      | some a =>
        if dirHas a 88 c ∧ dirA a 88 c = dirA b 96 c then eDark (bEntry a (dirBase a 88 c + i))
        else bsDark b (dirBase b 96 c + i)
      | none => bsDark b (dirBase b 96 c + i)
    let parts := cs.map (fun c => (List.range planes).map (fun p =>
      blendChannel r b p (dirBase b 96 c) (dirA b 96 c) (levels.getD p 0) min (darkOf c)))
    if parts.any (fun l => l.any (fun q => maxDef < q.defects)) then .error 3
    else
      let es := parts.flatMap (fun l => l.flatMap (·.entries))
      let scales := levels.map (fun m => (limit 1 0xFFFF ((2 * rWhite r * 2 ^ 12 + m) / (2 * Nat.max 1 m) : Nat)).toNat)
      let head := bankHeader planes (b2n (rTemp r)) es.length 3 num scales
        ((List.range 32).map (fun g => sfieldAt b (32 + 2 * g) 2))
        (directory (dirHas b 96) (dirA b 96) planes) (slice b 608 2048)
      .ok (bankContent head es)

/-- BLEND_START (R153): the set is valid and the Canteen has granted the blend. -/
def execBlendStart (dt : Nat) (s : State) : Host.Outcome State Fault Refusal :=
  event dt s (fun s => s.can.blendOk) (fun s =>
    match s.rcp.armed with
    | none => s
    | some a =>
      let st := s.basisState (rBasis (s.recipe a.recipe))
      if a.phase ≠ 1 ∨ (st ≠ 2 ∧ st ≠ 3) then s
      else
        let a := { a with
          phase := 2, granted := s.now, minWhite := s.rdN 0x4030 0xD, maxDef := s.rdN 0x4030 0xE,
          ownDark := s.rd 0x4210 0xF = 1 }
        let s := (s.setArmed (some a)).setBank s.shadow 1 3
        let s := { s with can := { s.can with blendOk := false } }
        if a.deferred then s else s.switchStatus 2)

/-- BLEND_COMPLETE (R151, R152): the shadow becomes ready and stays held by the arming, or the blend fails. -/
def execBlendComplete (dt : Nat) (s : State) : Host.Outcome State Fault Refusal :=
  event dt s (fun s => match s.rcp.armed with | some a => a.phase = 2 | none => false) (fun s =>
    match s.rcp.armed with
    | none => s
    | some a =>
      let r := s.recipe a.recipe
      let act := if a.ownDark ∨ s.bankState s.activeBank ≠ 2 then none else some (s.bank s.activeBank).bytes
      let s := s.wr 0x4210 0x14 ((s.now - a.granted) / 1000 : Nat)
      match s.basisBytes (rBasis r) with
      | none => s.dropArmed 7 4
      | some b => match blend r b a.recipe a.minWhite a.maxDef act with
        | .error c => s.dropArmed 7 c
        | .ok bytes =>
          let k := s.shadow
          let s := ((s.updBank k (fun _ => ⟨bytes, []⟩)).setBank k 2 5).wr 0x4210 0xB 1
          let s := s.setArmed (some { a with phase := 3, readyAt := s.fine })
          if a.deferred then s else s.switchStatus (if a.startup then 3 else 4))

/-! ## After Ready (R159) -/

/-- R159: the startup build may begin. -/
def State.startupReady (s : State) : Bool :=
  let r := s.activeRecipe
  s.rcp.startupDue && s.queuesRun && decide (r < 32) && s.recipeStored r && s.rcp.armed.isNone && !s.shadowHeld &&
    (let st := s.basisState (rBasis (s.recipe r)); decide (st = 2 ∨ st = 3))

/-- STARTUP_BUILD (R159): the startup recipe is armed internally, its condition met at once. -/
def execStartupBuild (dt : Nat) (s : State) : Host.Outcome State Fault Refusal :=
  event dt s State.startupReady (fun s =>
    let a := freshArmed s.activeRecipe (s.rdN 0x4210 2) 0 0 true
    { s.beginArm { a with cond := some s.fine } with
      rcp := { (s.beginArm { a with cond := some s.fine }).rcp with startupDue := false } })

/-! ## Recipe windows (R149) -/

/-- R149: item 3's limit for a store: 400 MS/s, or each group's actual pixel clock while scanning. -/
def State.storeLimit (s : State) : Nat → Nat := if s.live then fun g => s.rdN (0x2040 + g) 3 else converterLimit

/-- R149: the checks of a recipe's content: code, offset of the failing field, detail of code 8. -/
def State.recipeLoad (s : State) (r : Nat) (b : List Byte) : Nat × Nat × CheckResult :=
  if b.length ≠ 256 then (4, 0, default)
  else match firstBad (recipeFixed b) with
    | some o => (2, o, default)
    | none =>
      if crc32 (b.take 252) ≠ fieldAt b 252 4 then (3, 252, default)
      else match firstBad (recipeRanges b) with
        | some o => (5, o, default)
        | none =>
          let c := s.recipeCheck r b s.storeLimit
          (c.1, c.2.2, c.2.1)

/-- R149: the window on recipe `r` closes; whether its content is accepted. -/
def State.closeRecipe (s : State) (r : Nat) (b : List Byte) : State × Bool :=
  let c := s.recipeLoad r b
  let s := (s.wr 0x4242 1 c.1).wr 0x4242 2 c.2.1
  let s := if c.1 = 8 then s.report c.2.2 else s
  if c.1 = 1 then
    let s := (s.wr 0x4240 (r + 1) 1).wr 0x4241 (r + 1) 1
    ({ s with rcp := { s.rcp with
        recipes := vupd s.rcp.recipes r (fun _ => b), writing := setBit s.rcp.writing r true } }, true)
  else (s, false)

/-- R149: a write-open on recipe `r` is refused. -/
def State.recipeBusy (s : State) (r : Nat) : Bool :=
  s.activeRecipe = r || (match s.rcp.armed with | some a => decide (a.recipe = r) | none => false)

/-- RECIPE_NOR_WRITE_DONE (R149): the recipe is written to NOR and stored, unless a check has withdrawn it since. -/
def execRecipeNorWriteDone (dt : Nat) (r : Fin 32) (s : State) : Host.Outcome State Fault Refusal :=
  event dt s (fun s => bit s.rcp.writing r) (fun s =>
    let s := if s.rd 0x4240 (r + 1) = 2 then s else s.wr 0x4240 (r + 1) 1
    { s with rcp := { s.rcp with
        norRecipes := vupd s.rcp.norRecipes r (fun _ => vget s.rcp.recipes r), writing := setBit s.rcp.writing r false } })

end Sys2Proof.Machine
end

