-- ==== Sys2Proof/Machine/Strobes.lean ====
section
/-!
DEFINITION. Strobes (R297 to R302, R307): which groups light in an exposure cycle, the applied width, the light fraction
and underexposure.
-/
namespace Sys2Proof.Machine

/-- Change lamp group `j`. -/
def State.updLamp (s : State) (j : Nat) (f : LampGroup → LampGroup) : State :=
  { s with lamp := { s.lamp with groups := vupd s.lamp.groups j f } }

/-- The lamps are lit in this phase of a capture or a measurement. -/
def Phase.white (p : Phase) : Bool := p = .whiteSettle || p = .whiteAverage

/-- R298, R133, R144: the lamp groups that plane `p` of a cycle under recipe `r` strobes. -/
def State.litMask (s : State) (r p : Nat) : Nat :=
  match s.sh.capture, s.rcp.measure with
  | some c, _ => if c.phase.white then rMask (s.recipe c.recipe) p else 0
  | none, some m => if m.phase.white then 2 ^ m.groups.getD m.table 0 else 0
  | none, none => if s.live && r < 32 then rMask (s.recipe r) p else 0

/-- The current code of group `j` in such a cycle. -/
def State.litCurrent (s : State) (r p j : Nat) : Nat :=
  match s.sh.capture, s.rcp.measure with
  | some c, _ => rCurrent (s.recipe c.recipe) p j
  | none, some m => m.currents.getD m.table 0
  | none, none => rCurrent (s.recipe r) p j

/-- R297: strobes are placed at all: a grant, and no paced Pause or table at rest. -/
def State.lampsOn (s : State) : Bool :=
  s.dev.ready && s.can.lamp &&
    !(s.paced && s.dev.st = .paused) &&
    !(s.paced && s.dev.st = .scanning && [2, 3, 4, 6].contains (s.rdN 0x4804 5))

/-- R307: no strobe starts while V_b is below the floor plus 1.0 V. -/
def State.bankUp (s : State) : Bool := decide (s.rdN 0x4C00 2 + 1000 ≤ s.rdN 0x4C00 4)

/-- R307: the strobe power of group `j` at code `k`, in mW. -/
def State.strobePower (s : State) (j k : Nat) : Nat :=
  ((s.stringsOf j).map (fun i => s.setpoint j i k * s.stringVolts j i)).sum * 3000 / (4095 * s.rdN 0x4C00 5)

/-- R301: the width of group `j` before the bulk limit, in quarter ns. -/
def State.widthBefore (s : State) (j : Nat) : Nat :=
  min (4 * s.lampWidth j) (4 * s.lampWidth j * s.rdN (0x5A20 + j) 2 / 1000)

/-- Group `j` can be lit in a cycle that starts now: on, used, and cleared at least 1 µs ago (R306). -/
def State.groupLights (s : State) (j : Nat) : Bool :=
  s.lampsOn && s.bankUp && s.groupUsed j && !s.groupOff j && decide ((vget s.lamp.groups j).clearedAt ≤ s.now)

/-- R298: the groups that strobe in a cycle of timing group `g`, plane `p`, recipe `r`. -/
def State.strobing (s : State) (g r p : Nat) : List Nat :=
  (List.range 8).filter (fun j => bit (s.litMask r p) j && s.rdN (0x4C10 + j) 1 = g && s.groupLights j)

/-- R307: Σ P × width of a cycle's strobes, in mW × quarter ns. -/
def State.strobeLoad (s : State) (g r p : Nat) : Nat :=
  ((s.strobing g r p).map (fun j => s.strobePower j (s.litCurrent r p j) * s.widthBefore j)).sum

/-- R307: the load that the bank can give before V_b reaches the floor. -/
def State.bankRoom (s : State) : Nat := 4 * (s.rdN 0x4C00 4 - s.rdN 0x4C00 2) * s.rdN 0x4C00 3 * s.rdN 0x4C00 4

/-- R301: the applied width of group `j` in a cycle of its reference group, in quarter ns; 0 below 1,000 ns. -/
def State.appliedWidth (s : State) (j r p : Nat) : Nat :=
  let g := s.rdN (0x4C10 + j) 1
  let load := s.strobeLoad g r p
  let w := s.widthBefore j
  let w := if s.bankRoom < load then w * s.bankRoom / load / 5 * 5 else w
  if w < 4000 then 0 else w

/-- R302: group `j` lies below its light floor in plane `p` of recipe `r`. -/
def State.groupUnder (s : State) (j r p : Nat) : Bool :=
  let lf := s.rdN (0x4C10 + j) 4
  let sT := s.rdN (0x4C10 + j) 0xD
  if !s.groupLights j then decide (0 < lf)
  else if s.continuous (s.recipe r) then decide (sT * s.rdN (0x5A20 + j) 2 < lf * 1000)
  else decide (sT * s.appliedWidth j r p < lf * 4 * s.rdN (0x4C10 + j) 3)

/-- R302: plane `p` of a cycle under recipe `r` is underexposed. -/
def State.planeUnder (s : State) (r p : Nat) : Bool :=
  (List.range 8).any (fun j => bit (s.litMask r p) j && s.groupUsed j && s.groupUnder j r p)

/-- R305: the first strobe below a scale of 1,000 puts a group into derating. -/
def State.deratingAt (s : State) (j : Nat) : State :=
  if s.rdN (0x4C10 + j) 0xD < 1000 ∧ s.lampState j = 1 then (s.wr (0x4C10 + j) 0xA 2).raise1 (488 + j) 0
  else if s.rdN (0x4C10 + j) 0xD = 1000 ∧ s.lampState j = 2 then s.wr (0x4C10 + j) 0xA 1 else s

/-- R298, R307: the strobes of a cycle of timing group `g`, plane `p`, recipe `r` are placed: derating is noticed and
shortened strobes are counted. -/
def State.placeStrobes (s : State) (g r p : Nat) : State :=
  let js := s.strobing g r p
  let short := if s.bankRoom < s.strobeLoad g r p then js.length else 0
  let s := if short = 0 ∨ s.continuous (s.recipe r) then s else s.bump 0x4C00 8 short
  s.eachOf js (fun j s => s.deratingAt j)

end Sys2Proof.Machine
end

