-- ==== Sys2Proof/Machine/Timing.lean ====
section
/-!
DEFINITION. Sensor timing (chapter 3): triggers, line cycle numbers, exposure cycles and records, service, the outputs'
levels, and output shorts (R453).
-/
namespace Sys2Proof.Machine

/-! ## Channels in service (R91, R92) -/

/-- Channel `n` is named in the segment map and its front end works for the line (R77). -/
def State.named (s : State) (n : Nat) : Bool := s.namedChannels.contains n

/-- R22: cluster `k` is offline for self-trim. -/
def State.offline (s : State) (k : Nat) : Bool := s.rdN 0x2000 3 / 4 ^ k % 4 = 3

/-- R91: a change into status 1 or 2, or a re-entry: EV(4n+3), counted. -/
def State.serviceChange (s : State) (n st : Nat) : State :=
  ((s.wr (chIdx n) 8 st).bump (chIdx n) 0xA).raise1 (4 * n + 3) 0

/-- The segments with a seam that overlaps pixels of channel `n`: its own and the one before it, where they overlap. -/
def State.seamsOf (s : State) (n : Nat) : List Nat :=
  let u := s.usedSegments
  (u.zip (u.drop 1)).filterMap (fun p =>
    let o := s.overlap p.1 p.2
    let tail := (s.taps p.1).reverse
    let reach := fun (l : List Nat) =>
      (l.foldl (fun (acc : Nat × List Nat) c => if acc.1 < o then (acc.1 + s.activePx c, c :: acc.2) else acc) (0, [])).2
    if o ≠ 0 ∧ ((reach tail).contains n ∨ (reach (s.taps p.2)).contains n) then some p.1 else none)

/-- R182: the seams of channel `n`'s overlaps freeze for 1,024 lines. -/
def State.freezeSeams (s : State) (n : Nat) : State :=
  { s with rdg := { s.rdg with seams := (s.seamsOf n).foldl (fun v g =>
      vupd v g (fun q => { q with freeze := some (s.rdg.count + 1024), frozen := true })) s.rdg.seams } }

/-- R91: a channel whose group began a cycle after `t` (with the margin in ns). -/
def State.cycleSince (s : State) (n t : Nat) : Bool :=
  match (s.group (s.groupOf n)).running with
  | some c => decide (t ≤ c.start)
  | none => false

/-- R401: channel `n`'s cluster is not offline, and its running cycle began after the last trim's end. -/
def State.trimFree (s : State) (n : Nat) : Bool :=
  !s.offline (n / 8) && s.cycleSince n (vget s.trm.clusters (n / 8)).endAt

/-- R188: at Compass time `t` cluster `k` was in a forced trim. -/
def State.trimOmits (s : State) (k t : Nat) : Bool :=
  match (vget s.trm.clusters k).omits with
  | some (a, b) => decide (a ≤ t) && (match b with | some e => decide (t ≤ e) | none => true)
  | none => false

/-- R91: a waiting departure takes effect. -/
def State.leave (s : State) (n : Nat) : State :=
  (s.serviceChange n 1).updService n (fun v => { v with leaving := false, losing := false, warmed := 0 })

/-- R107: a waiting signal loss takes effect; it was raised and counted when the check failed. -/
def State.lose (s : State) (n : Nat) : State :=
  (s.wr (chIdx n) 8 2).updService n (fun v => { v with losing := false, warmed := 0 })

/-- R91: the re-entry into warming. -/
def State.reenter (s : State) (n : Nat) : State :=
  ((s.serviceChange n 4).updService n (fun v => { v with warmed := 1 })).freezeSeams n

/-- A departure is due. -/
def State.leaveDue (s : State) (n : Nat) : Bool := (s.svc n).leaving && s.cycleSince n (s.svc n).asked
/-- A signal loss is due. -/
def State.loseDue (s : State) (n : Nat) : Bool := (s.svc n).losing && s.cycleSince n (s.svc n).asked
/-- R91: a re-entry is due, 80 µs after the return. -/
def State.reenterDue (s : State) (n : Nat) : Bool := s.status n = 3 && s.cycleSince n ((s.svc n).returned + 80000)
/-- R91: the fourth warming cycle has ended. -/
def State.warmDue (s : State) (n : Nat) : Bool :=
  s.status n = 4 &&
    (decide (5 ≤ (s.svc n).warmed) || (decide ((s.svc n).warmed = 4) && (s.group (s.groupOf n)).running.isNone))

/-- R91: whatever service transition of channel `n` is due. -/
def State.settleService (s : State) (n : Nat) : State :=
  if s.leaveDue n then s.leave n
  else if s.loseDue n then s.lose n
  else if s.reenterDue n then s.reenter n
  else if s.warmDue n then s.wr (chIdx n) 8 0 else s

/-- R91: at entry to Bivouac, and when the layers apply, each channel's status becomes the value of its service request. -/
def State.requestedService (s : State) : State :=
  s.each 64 (fun n s => (s.wr (chIdx n) 8 (s.rd (chIdx n) 7)).updService n (fun v =>
    { v with leaving := false, losing := false, warmed := 0 }))

/-- CHANNEL_LEAVES_SERVICE (R91): at the cycle start after the request. -/
def execChannelLeavesService (dt : Nat) (n : Fin 64) (s : State) : Host.Outcome State Fault Refusal :=
  event dt s (fun s => s.leaveDue n) (fun s => s.leave n)

/-- CHANNEL_SIGNAL_LOST (R107): at the cycle start after the failed check the status becomes 2. -/
def execChannelSignalLost (dt : Nat) (n : Fin 64) (s : State) : Host.Outcome State Fault Refusal :=
  event dt s (fun s => s.loseDue n) (fun s => s.lose n)

/-- CHANNEL_REENTRY (R91): at the first cycle at least 80 µs after the return grant. -/
def execChannelReentry (dt : Nat) (n : Fin 64) (s : State) : Host.Outcome State Fault Refusal :=
  event dt s (fun s => s.reenterDue n) (fun s => s.reenter n)

/-- WARMING_END (R91): after four warming cycles the channel is in service. -/
def execWarmingEnd (dt : Nat) (n : Fin 64) (s : State) : Host.Outcome State Fault Refusal :=
  event dt s (fun s => s.warmDue n) (fun s => s.wr (chIdx n) 8 0)

/-- Exposure cycles run: Scanning, Paused, a capture or a measurement. -/
def State.cycling (s : State) : Bool := s.live || s.sh.capture.isSome || s.rcp.measure.isSome

/-- R91, R92, R108: a service request. -/
def opService (n : Nat) : Op := fun v s =>
  let was := s.rd (chIdx n) 7
  let st := s.status n
  let s := s.wr (chIdx n) 7 v
  if v = was then (s, 0)
  else if !s.queuesRun then
    (if v = 1 then (if st = 1 then s else s.leave n) else s.wr (chIdx n) 8 0, 0)
  else if v = 1 then
    if st = 3 then (s.leave n, 0)
    else if st = 1 then (s, 0)
    else if s.cycling then (s.updService n (fun q => { q with leaving := true, asked := s.now }), 0)
    else (s.leave n, 0)
  else
    if (s.svc n).leaving then (s.updService n (fun q => { q with leaving := false }), 0)
    else if st = 1 ∨ st = 2 then ((s.wr (chIdx n) 8 3).updService n (fun q => { q with returned := s.now, losing := false }), 0)
    else (s, 0)

/-- SERVICE_REQUEST_OUT (R91): a write of 1 to the service request. -/
def execServiceRequestOut (dt : Nat) (m : Fin 17) (n : Fin 64) (s : State) : Host.Outcome State Fault Refusal :=
  hostCommand dt m (chIdx n) 7 1 (opService n) s

/-- SERVICE_REQUEST_RETURN (R91): a write of 0. -/
def execServiceRequestReturn (dt : Nat) (m : Fin 17) (n : Fin 64) (s : State) : Host.Outcome State Fault Refusal :=
  hostCommand dt m (chIdx n) 7 0 (opService n) s

/-! ## Exposure cycles (R80 to R87) -/

/-- Nanoseconds of `k` sixty-fourths of a pixel period of group `g`, rounded to nearest. -/
def State.phaseNs (s : State) (g k : Nat) : Nat :=
  let c := max 1 (s.group g).clock
  (2 * k * 1000000000 * 2 ^ 24 + 64 * c * 25000000) / (2 * 64 * c * 25000000)

/-- R81: readout lag 1. -/
def State.lagged (s : State) (g : Nat) : Bool := s.rd (0x2040 + g) 0xD = 1

/-- The planes of a line cycle that group `g` runs now: the capture's, one in a measurement, or its recipe's. -/
def State.planesNow (s : State) (g : Nat) : Nat :=
  match s.sh.capture, s.rcp.measure with
  | some c, _ => c.planes
  | none, some _ => 1
  | none, none => s.planesOf (s.group g).recipe

/-- R80, R132: one trigger starts one exposure cycle. -/
def State.exposureUnit (s : State) : Bool := s.rd 0x2050 2 = 1 && s.sh.capture.isNone && s.rcp.measure.isNone

/-- R127, R156: at a plane-0 cycle of line cycle `line` a group takes the changed bank and recipe. -/
def State.adopt (s : State) (g line : Nat) : State :=
  match s.sh.change with
  | some c => if c.line ≤ line then s.updGroup g (fun q => { q with bank := c.bank, recipe := c.recipe }) else s
  | none => s

/-- R156: the recipe whose lamp groups and currents a cycle of line cycle `line` takes, from the switch trigger's on. -/
def State.litRecipe (s : State) (g line : Nat) : Nat :=
  match s.sh.change with
  | some c => if c.line ≤ line then c.recipe else (s.group g).recipe
  | none => (s.group g).recipe

/-- R104: at a cycle start a front end takes its new offsets; a written DAC value clears F. -/
def State.frontEndStart (s : State) (n : Nat) : State :=
  let f := (vget s.fe n)
  let nf := if f.written then 0 else f.f
  { s.wr (0x3002 + n * 0x40) 4 nf with fe := vupd s.fe n (fun q => { q with f := nf, written := false }) }

/-- R115, R129: the readout of channel `n` begins: the lane latches the bank, plane and multipliers of the integration `c` that
it reads; `pix` names that integration unless the readout is discarded. -/
def State.readStart (s : State) (n : Nat) (c : Cycle) (pix : Option (Nat × Nat)) : State :=
  let r : Reading := { (default : Reading) with
    start := s.now, lane := s.laneFor n c.bank (s.planesOf c.recipe) c.plane, f := (vget s.fe n).f, pix := pix }
  { s with fe := vupd s.fe n (fun q => { q with cur := some r, old := q.cur }) }

/-- R81: the integration whose pixels cycle `c` of group `g` reads, unless the readout is discarded. -/
def State.integrationOf (s : State) (g : Nat) (c : Cycle) : Option (Nat × Nat) :=
  match (if s.lagged g then (s.group g).prev else some c) with
  | some p => if p.unlit then none else some (p.line, p.plane)
  | none => none

/-- R85, R86: an exposure record joins the 256 newest of its group. -/
def State.logExposure (s : State) (g : Nat) (c : Cycle) : State :=
  let warm := (s.channelsOf g).any (fun n => s.status n = 4)
  let r : ExpRec := {
    time := c.stamp, line := c.line, group := g, plane := c.plane, origin := c.origin, late := c.late, drop := c.drop,
    warming := warm, lateness := c.lateness }
  (s.updGroup g (fun q => { q with records := (r :: q.records).take 256, dropBefore := false })).bump (0x2040 + g) 0x13

/-- An exposure of Ridgeline's, by group, line cycle and plane, changes. -/
def State.updExpo (s : State) (g line plane : Nat) (f : Expo → Expo) : State :=
  let l := s.rdg.expos.map (fun e => if e.group = g ∧ e.line = line ∧ e.plane = plane then f e else e)
  { s with rdg := { s.rdg with expos := l } }

/-- A new exposure for Ridgeline. -/
def State.addExpo (s : State) (g : Nat) (c : Cycle) : State :=
  let e : Expo := { (default : Expo) with
    group := g, line := c.line, plane := c.plane, recipe := c.recipe, center := c.center, lateness := c.lateness,
    late := c.late, drop := c.drop, under := c.under, declared := c.declared }
  { s with rdg := { s.rdg with expos := s.rdg.expos ++ [e] } }

/-- Totals and counts grow by one reading. -/
def addReading (sum : List Int) (n : List Nat) (g : Nat) (t : Int) : List Int × List Nat :=
  ((List.range 32).map (fun i => sum.getD i 0 + if i = g then t else 0),
    (List.range 32).map (fun i => n.getD i 0 + if i = g then 1 else 0))

/-- R133, R144: at a cycle start of group `g` a white capture or a measurement adds the temperatures of its segments. -/
def State.sumTemps (s : State) (g : Nat) : State :=
  let segs := s.usedSegments.filter (fun q => ((s.taps q).head?.map s.groupOf) = some g)
  s.eachOf segs (fun q s =>
    let t := s.rd 0x4044 (q + 1)
    match s.sh.capture, s.rcp.measure with
    | some c, _ =>
      let r := addReading c.tempSum c.tempN q t
      let bad := s.rd 0x4045 (q + 1) ≠ 0
      let c := match c.phase with
        | .whiteAverage => { c with tempSum := r.1, tempN := r.2, tempHeld := if bad then setBit c.tempHeld q true else c.tempHeld }
        | .darkAverage => { c with darkHeld := if bad then setBit c.darkHeld q true else c.darkHeld }
        | _ => c
      { s with sh := { s.sh with capture := some c } }
    | none, some m =>
      let r := addReading m.tempSum m.tempN q t
      { s with rcp := { s.rcp with measure := some { m with tempSum := r.1, tempN := r.2 } } }
    | none, none => s)

/-- R83 to R85: group `g` starts an exposure cycle now, for the line cycle and trigger of `t`.
Origin 5 is a priming or flush cycle, origin 4 a self-timed plane. -/
def State.startCycle (s : State) (g : Nat) (t : Trig) (late : Bool) : State :=
  let own := t.origin ≠ 5
  let s := if own ∧ t.plane = 0 then (s.settleSwitch).adopt g t.line else s
  let s := if t.plane = 0 ∧ own then s.updGroup g (fun q => { q with offset := s.rd (0x2040 + g) 0xE }) else s
  let q := s.group g
  let stamp := s.fine + s.phaseNs g (s.rdN (0x2040 + g) 4)
  let lateness := if t.origin = 4 ∨ t.origin = 5 then 0 else min 0xFFFFF (stamp - t.time - 20)
  let c : Cycle := {
    start := s.now, line := t.line, plane := t.plane, origin := t.origin, stamp := stamp, center := (stamp : Int) + q.offset,
    lateness := lateness, late := late, drop := q.dropBefore, unlit := !own, bank := q.bank, recipe := q.recipe,
    under := own && s.planeUnder (s.litRecipe g t.line) t.plane, declared := own && s.can.declared }
  let s := if own then s.placeStrobes g (s.litRecipe g t.line) t.plane else s
  let s := s.logExposure g c
  let read := if s.lagged g then q.prev.getD c else c
  let pix := s.integrationOf g c
  let s := s.eachOf (s.channelsOf g) (fun n s =>
    let s := (s.frontEndStart n).readStart n read pix
    if s.status n = 4 then s.updService n (fun v => { v with warmed := v.warmed + 1 }) else s)
  let s := if own ∧ s.live then s.addExpo g c else if own then s.sumTemps g else s
  let unit := s.exposureUnit
  let p := s.planesNow g
  s.updGroup g (fun q => { q with
    running := some c
    due := none
    selfTimed := if !own ∨ unit then 0 else if t.plane = 0 then p - 1 else q.selfTimed - 1
    nextPlane := if own && unit then (t.plane + 1) % p else if own then 0 else q.nextPlane })

/-- The plane at which a trigger starts: plane 0, or the group's next plane in exposure unit. -/
def State.planeFor (s : State) (g : Nat) : Nat := if s.exposureUnit then (s.group g).nextPlane % s.planesNow g else 0

/-- No exposure cycle may start: a fatal-class event stands (R88), or the group's outputs do not run. -/
def State.mayStart (s : State) (g : Nat) : Bool :=
  s.groupRuns g && !(s.live && s.ev.fatal) && !(s.paced && s.dev.st = .paused && s.sh.capture.isNone && s.trn.pegOwed.isNone)

/-- R80, R87: group `g`'s cycle ends; a self-timed plane or the latched trigger starts on the same edge. -/
def State.endCycle (s : State) (g : Nat) : State :=
  let q := s.group g
  let s := s.updGroup g (fun q => { q with running := none, prev := q.running })
  match q.running with
  | none => s
  | some c =>
    if !(s.mayStart g && s.cycling) then s
    else if 0 < q.selfTimed then s.startCycle g ⟨0, c.line, 4, c.plane + 1⟩ false
    else match q.latch with
      | some t => (s.updGroup g (fun q => { q with latch := none })).startCycle g { t with plane := s.planeFor g } true
      | none => s

/-! ## Triggers (R82, R87, R487) -/

/-- R87: group `g` drops a trigger. -/
def State.dropTrigger (s : State) (g : Nat) : State :=
  let s := (s.bump (0x2040 + g) 0x12).raise1 (896 + g) 0
  let s := s.eachOf (s.channelsOf g) (fun n s => (s.bump (chIdx n) 9).raise1 (4 * n + 1) 0)
  s.updGroup g (fun q => { q with dropBefore := true })

/-- R83, R87: a trigger reaches group `g`: it waits for its start edge, is latched, or is dropped. -/
def State.deliver (s : State) (g : Nat) (t : Trig) : State :=
  let q := s.group g
  if q.running.isNone && q.due.isNone && !q.priming then s.updGroup g (fun q => { q with due := some t })
  else if q.latch.isNone then (s.updGroup g (fun q => { q with latch := some t })).bump (0x2040 + g) 0x11
  else s.dropTrigger g

/-- R88: triggers act now: in Scanning, and in Paused inline. -/
def State.triggersAct (s : State) : Bool := s.dev.st = .scanning || (s.dev.st = .paused && !s.paced)

/-- R487: the number of the line cycle that a trigger opens or continues. -/
def State.numberTrigger (s : State) (switchHere : Bool) (planes : Nat) : State × Nat :=
  if s.exposureUnit && !switchHere && s.tim.inRun ≠ 0 then
    ({ s with tim := { s.tim with inRun := s.tim.inRun - 1 } }, (s.tim.nextLine + 2 ^ 32 - 1) % 2 ^ 32)
  else
    let n := s.tim.nextLine
    let s := s.bump 0x2050 5
    ({ s with tim := { s.tim with nextLine := (n + 1) % 2 ^ 32, inRun := planes - 1 } }, n)

/-- R82, R487: a trigger with its time, origin (R85), reported and extended position, and Casby number. -/
def State.trigger (s : State) (t origin rep : Nat) (pos : Int) (num : Option Nat) : State :=
  let s := (s.bump 0x2050 4).wr 0x2050 6 t
  if !s.triggersAct then s
  else
    let s := (if s.paced ∧ s.rd 0x4804 5 = 5 then s.wr 0x4804 5 1 else s).settleSwitch
    let probe := s.switchTrigger t s.tim.nextLine rep pos num
    let here := match probe.rcp.armed with | some a => a.due.isSome | none => false
    let planes := match here, s.rcp.armed with
      | true, some a => s.planesOf a.recipe
      | _, _ => s.planesOf s.activeRecipe
    let r := s.numberTrigger here planes
    let s := (r.1.swapTrigger t r.2).switchTrigger t r.2 rep pos num
    s.each 16 (fun g s => if s.groupRuns g then s.deliver g ⟨t, r.2, origin, 0⟩ else s)

/-- R82: a trigger's Casby number met an armed switch: the switch trigger has just been fixed. -/
def State.switchFixed (s : State) : Bool := match s.rcp.armed with | some a => a.due.isSome | none => false

/-- R218: the master tells its own switch ahead of its switch trigger's frame, once. -/
def State.tellSwitch (s : State) (was : Bool) (num : Nat) (probe : State) : State :=
  match probe.rcp.armed with
  | some a =>
    if probe.switchFixed && !was && decide (a.source ≠ 2) && !a.startup && decide (s.rd 0x4880 7 = 1) && decide (s.csb.jobTold ≠ some num)
    then { s.sendJobFrame a.job num with csb := { (s.sendJobFrame a.job num).csb with jobTold := some num } }
    else s
  | none => s

/-- R217: a trigger that this device's own source produces at time `t`; on a Casby master it also crosses the ring, and with
trigger source 3 it acts at its execution time. -/
def State.ownTrigger (s : State) (t origin : Nat) (pos : Int) : State :=
  let rep := ((pos / 2 ^ 24 + s.trn.zero) % 2 ^ 32).toNat
  if s.casbyState ≠ 5 ∨ !s.triggersAct then s.trigger t origin rep pos none
  else
    let num := s.csb.trigOut
    let was := s.switchFixed
    if s.rd 0x2050 1 = 3 then
      let exec := t + s.rdN 0x4880 5
      let s := s.tellSwitch was num (s.switchTrigger exec s.tim.nextLine rep pos (some num))
      let s := s.sendTriggerFrame t pos
      { s with csb := { s.csb with ahead := s.csb.ahead ++ [⟨exec, rep, pos, num⟩] } }
    else
      let s := s.trigger t origin rep pos (some num)
      (s.tellSwitch was num s).sendTriggerFrame t pos

/-- R217: triggers whose execution time has come act. -/
def State.settleAhead (s : State) : State :=
  let due := s.csb.ahead.filter (fun a => a.time ≤ s.fine)
  let s := { s with csb := { s.csb with ahead := s.csb.ahead.filter (fun a => s.fine < a.time) } }
  s.eachOf due (fun a s =>
    let was := s.switchFixed
    let s := s.trigger a.time 2 a.rep a.pos (some a.num)
    if s.casbyState = 5 then s.tellSwitch was a.num s else s)

/-- An event command before which the triggers due by then act. -/
def timed (dt : Nat) (s : State) (due : State → Bool) (act : State → State) : Host.Outcome State Fault Refusal :=
  let s := (s.pass dt).settleAhead
  ok (if due s then act s else s)

/-- EXPOSURE_CYCLE_START (R83, R81): a free group starts its priming cycle, a trigger's cycle at least 20 ns after the
trigger time, or its flush cycle. -/
def execExposureCycleStart (dt : Nat) (g : Fin 16) (s : State) : Host.Outcome State Fault Refusal :=
  timed dt s (fun s => (s.group g).running.isNone) (fun s =>
    let q := s.group g
    if q.priming && s.mayStart g then
      (s.startCycle g ⟨0, s.tim.nextLine, 5, 0⟩ false).updGroup g (fun q => { q with priming := false, prev := none })
    else match q.due with
      | some t =>
        if s.mayStart g && s.cycling && decide (t.time + 20 ≤ s.fine) then
          s.startCycle g { t with plane := s.planeFor g } false
        else s
      | none =>
        if q.flush && s.groupRuns g then
          (s.startCycle g ⟨0, (q.prev.map (·.line)).getD 0, 5, 0⟩ false).updGroup g (fun q => { q with flush := false })
        else s)

/-- EXPOSURE_CYCLE_END (R80): L_g pixel clocks after its start the running cycle ends. -/
def execExposureCycleEnd (dt : Nat) (g : Fin 16) (s : State) : Host.Outcome State Fault Refusal :=
  timed dt s (fun s => match (s.group g).running with
      | some c => s.elapsed c.start (s.clocksNs g (s.cycleLen g))
      | none => false)
    (fun s => s.endCycle g)

/-- R86: the software trigger. -/
def opSoftwareTrigger : Op := fun _ s =>
  if !s.live then (s, 7)
  else if s.rd 0x2050 1 ≠ 4 then (s, 5)
  else (s.ownTrigger s.fine 3 s.extPos, 0)

/-- SOFTWARE_TRIGGER (R82): a write of 1 to 0x2050:03. -/
def execSoftwareTrigger (dt : Nat) (m : Fin 17) (s : State) : Host.Outcome State Fault Refusal :=
  hostCommand dt m 0x2050 3 1 opSoftwareTrigger s

/-! ## Entry to and exit from exposure (R73, R81, R88) -/

/-- All groups free, nothing latched; `prime` asks for priming cycles in lagged groups. -/
def State.resetGroups (s : State) (prime : Bool) : State :=
  let s := s.each 16 (fun g s => s.updGroup g (fun q => { q with
    running := none, prev := none, due := none, latch := none, selfTimed := 0, nextPlane := 0,
    priming := prime && s.lagged g && s.groupRuns g, flush := false, dropBefore := false,
    bank := s.activeBank, recipe := s.activeRecipe }))
  { s with
    sh := { s.sh with change := none }
    fe := s.fe.map (fun q => { q with cur := none, old := none }) }

/-- R88, R81: at the exit to Standby latched triggers are discarded and lagged groups run a flush cycle. -/
def State.leaveGroups (s : State) : State :=
  s.each 16 (fun g s => s.updGroup g (fun q => { q with
    due := none, latch := none, selfTimed := 0, priming := false, flush := s.lagged g && s.groupRuns g }))

/-! ## Output levels (R71, R74) -/

/-- R74: a phase output's level at pixel clock `c` of a cycle and sub-phase `k` (1/64), before polarity. -/
def State.phaseLevel (s : State) (g sub c k : Nat) : Bool :=
  let a := s.rdN (0x2040 + g) (sub + 1)
  let b := s.rdN (0x2040 + g) (sub + 2)
  let x := if s.rd (0x2040 + g) sub = 1 then c else k
  let len := if s.rd (0x2040 + g) sub = 1 then s.cycleLen g else 64
  if s.rd (0x2040 + g) sub = 0 ∨ a = b ∨ !s.groupRuns g then false
  else if a < b then decide (a ≤ x ∧ x < b ∧ a < len)
  else decide (a ≤ x ∧ a < len) || decide (x < b)

/-- R71, R74: the start pulse's level at pixel clock `c` of the running cycle, before polarity. -/
def State.startLevel (s : State) (g c : Nat) : Bool :=
  s.groupRuns g && (s.group g).running.isSome && decide (c < min (s.rdN (0x2040 + g) 5) (s.cycleLen g - 1))

/-! ## Output shorts (R453) -/

/-- R453: channel `n`'s readouts break off; its open frames count as not started. -/
def State.dropReadings (s : State) (n : Nat) : State :=
  let q := vget s.fe n
  let open_ := ([q.old, q.cur].filterMap id).filter (fun r => r.framed && !r.lineDone)
  let s := s.eachOf (open_.filterMap (·.pix)) (fun (l, p) s => s.updExpo (s.groupOf n) l p (fun e =>
    { e with waiting := e.waiting.filter (· ≠ n), gone := e.gone ++ [n] }))
  { s with
    fe := vupd s.fe n (fun q => { q with cur := none, old := none })
    que := { s.que with lines := vupd s.que.lines n (fun q => { q with credit := 0 }) } }

/-- TG_OUTPUT_SHORT (R453): the group's outputs go high impedance and it runs no cycles. -/
def execTgOutputShort (dt : Nat) (g : Fin 16) (s : State) : Host.Outcome State Fault Refusal :=
  event dt s (fun s => s.groupRuns g) (fun s =>
    let s := ((s.wr 0x5C20 (g + 1) 1).bump 0x5C21 (g + 1)).raise1 (920 + g) 0
    let s := s.eachOf (s.channelsOf g) (fun n s => s.dropReadings n)
    s.updGroup g (fun q => { q with
      running := none, due := none, latch := none, selfTimed := 0, retryAt := s.now + 100000000 }))

/-- TG_OUTPUT_RETRY (R453): every 100 ms the group is driven again; matching read-back for 1 ms ends the short. -/
def execTgOutputRetry (dt : Nat) (g : Fin 16) (matched : Bool) (s : State) : Host.Outcome State Fault Refusal :=
  event dt s (fun s => s.rd 0x5C20 (g + 1) ≠ 0 && decide ((s.group g).retryAt ≤ s.now)) (fun s =>
    if s.rd 0x5C20 (g + 1) = 1 then
      (s.wr 0x5C20 (g + 1) 2).updGroup g (fun q => { q with retryAt := s.now + 1000000 })
    else if matched then s.wr 0x5C20 (g + 1) 0
    else ((s.wr 0x5C20 (g + 1) 1).updGroup g (fun q => { q with retryAt := s.now + 99000000 })).raiseIf (!s.latched (920 + g)) (920 + g) 0)

end Sys2Proof.Machine
end

