-- ==== Sys2Proof/Machine/Lamps.lean ====
section
/-!
DEFINITION. Lamp strings and groups (chapter 12): checks, faults, temperature, clearing, the bulk bank and the power report;
and urgent requests of the auxiliary block (R334), which a fault makes.
-/
namespace Sys2Proof.Machine

/-- Change the auxiliary block. -/
def State.updAux (s : State) (f : AuxSt → AuxSt) : State := { s with aux := f s.aux }

/-- R334: the named slots that are used join the urgent queue in ascending order, unless they are queued. -/
def State.urgent (s : State) (mask : Nat) : State :=
  s.each 32 (fun q s =>
    if bit mask q ∧ s.rd (0x5010 + q) 1 ≠ 255 ∧ !(s.aux.urgent.any (·.1 = q)) then
      s.updAux (fun a => { a with urgent := a.urgent ++ [(q, s.now)] })
    else s)

/-- R303: the slots of a group's thermistors. -/
def State.lampSlots (s : State) (j : Nat) : Nat :=
  (List.range 16).foldl (fun m k =>
    if bit (s.rdN (0x4C10 + j) 5) k ∧ s.rd 0x4040 (k + 1) ≠ 255 then setBit m (s.rdN 0x4040 (k + 1)) true else m) 0

/-! ## A group goes off (R303 to R305) -/

/-- R161: an armed recipe that names group `j` is cancelled. -/
def State.groupLost (s : State) (j : Nat) : State :=
  match s.rcp.armed with
  | some a => if (recipeGroups (s.recipe a.recipe)).contains j then s.cancelArmed else s
  | none => s

/-- The running cycle that lights group `j` strobed, if one does. -/
def State.litCycle (s : State) (j : Nat) : Option Cycle :=
  match (s.group (s.rdN (0x4C10 + j) 1)).running with
  | some c =>
    if !c.unlit && bit (s.litMask c.recipe c.plane) j && s.lampsOn && s.groupUsed j &&
      (!s.groupOff j || (s.lampState j = 3 && decide (c.start ≤ (vget s.lamp.groups j).tripAt))) &&
      decide ((vget s.lamp.groups j).clearedAt ≤ c.start) && s.bankUp && decide (0 < s.appliedWidth j c.recipe c.plane)
    then some c else none
  | none => none

/-- The groups that a running cycle lights now, with their timing group and cycle. -/
def State.strobesNow (s : State) : List (Nat × Nat × Cycle) :=
  (List.range 8).filterMap (fun j => match s.litCycle j with
    | some c =>
      let from_ := c.stamp + s.rdN (0x4C10 + j) 2
      if !s.groupOff j && decide (from_ ≤ s.fine ∧ s.fine ≤ from_ + s.appliedWidth j c.recipe c.plane / 4 ∧
        0 < s.appliedWidth j c.recipe c.plane) then some (j, s.rdN (0x4C10 + j) 1, c) else none
    | none => none)

/-- R302: a strobe of group `j` that ends now leaves its plane underexposed. -/
def State.cutStrobe (s : State) (j g : Nat) (c : Cycle) : State :=
  let lit := s.fine - (c.stamp + s.rdN (0x4C10 + j) 2)
  let under := decide (s.rdN (0x4C10 + j) 0xD * lit < s.rdN (0x4C10 + j) 4 * s.rdN (0x4C10 + j) 3)
  if !under then s
  else
    let s := s.updGroup g (fun q => { q with running := some { c with under := true } })
    { s with rdg := { s.rdg with expos := s.rdg.expos.map (fun e =>
      if e.group = g ∧ e.line = c.line ∧ e.plane = c.plane then { e with under := true } else e) } }

/-- R303: a group goes off: its strobe in progress ends. -/
def State.endStrobe (s : State) (j : Nat) : State :=
  s.eachOf (s.strobesNow.filter (·.1 = j)) (fun (j, g, c) s => s.cutStrobe j g c)

/-- R303: string `i` of group `j` is classed as faulty: the group goes off once, and its thermistors are asked for. -/
def State.stringFault (s : State) (i j cls : Nat) : State :=
  let s := ((s.wr (0x4C40 + i) 7 cls).bump (0x4C40 + i) 0xA).raise1 (448 + i) 0
  if s.groupOff j then s
  else
    let s := (((s.endStrobe j).wr (0x4C10 + j) 0xA 3).bump (0x4C10 + j) 0xE).raise1 (480 + j) 0
    let s := s.updLamp j (fun g => { g with tripAt := s.now })
    (s.urgent (s.lampSlots j)).groupLost j

/-- R300: group `j` is lit continuously. -/
def State.litSteady (s : State) (j : Nat) : Bool :=
  s.live && s.continuous (s.recipe s.activeRecipe) && bit (rMask (s.recipe s.activeRecipe) 0) j && s.groupLights j

/-- R295, R301: the setpoint of string `i` of group `j` in a cycle. -/
def State.setpointIn (s : State) (i j : Nat) (c : Cycle) : Nat := s.setpoint j i (s.litCurrent c.recipe c.plane j)

/-- R295, R301: its setpoint in continuous light. -/
def State.setpointSteady (s : State) (i j : Nat) : Nat :=
  s.setpoint j i (rCurrent (s.recipe s.activeRecipe) 0 j) * s.rdN (0x5A20 + j) 2 / 1000

/-- R303: the check point of group `j` in a cycle, in ns after its start pulse edge. -/
def State.checkPoint (s : State) (j : Nat) (c : Cycle) : Nat :=
  s.rdN (0x4C10 + j) 2 + max 600 (s.appliedWidth j c.recipe c.plane / 8)

/-- R303: string `i` can be checked now: its setpoint. -/
def State.checkable (s : State) (i : Nat) : Option Nat :=
  let j := s.rdN (0x4C40 + i) 1
  if 8 ≤ j then none
  else if s.litSteady j then some (s.setpointSteady i j)
  else match s.litCycle j with
    | some c => if c.stamp + s.checkPoint j c ≤ s.fine then some (s.setpointIn i j c) else none
    | none => none

/-- R303: the class of a string from its current (mA) and voltage (mV). -/
def State.classOf (s : State) (i code current volts : Nat) : Nat :=
  if 2 * current * 4095 < code * 3000 then (if s.rdN (0x4C40 + i) 6 < volts then 2 else 5)
  else if volts < s.rdN (0x4C40 + i) 5 then 3 else 1

/-- STRING_CHECK (R303): at its check point string `i` is measured and classed. -/
def execStringCheck (dt : Nat) (i : Fin 32) (current volts : Nat) (s : State) : Host.Outcome State Fault Refusal :=
  timed dt s (fun s => (s.checkable i).isSome) (fun s =>
    let code := (s.checkable i).getD 0
    let s : State := { (s.wr (0x4C40 + i) 8 (min current 4000)).wr (0x4C40 + i) 9 (min volts 80000) with
      lamp := { s.lamp with checked := setBit s.lamp.checked i true } }
    let cls : Nat := s.classOf i code current volts
    if cls = 1 then s.wr (0x4C40 + i) 7 1 else s.stringFault i (s.rdN (0x4C40 + i) 1) cls)

/-- LAMP_OVERCURRENT (R303): the 3.6 A limit has acted in 3 consecutive switching periods of a lit string. -/
def execLampOvercurrent (dt : Nat) (i : Fin 32) (s : State) : Host.Outcome State Fault Refusal :=
  timed dt s (fun s => decide (s.rdN (0x4C40 + i) 1 < 8) &&
      (s.litSteady (s.rdN (0x4C40 + i) 1) || (s.litCycle (s.rdN (0x4C40 + i) 1)).isSome))
    (fun s => s.stringFault i (s.rdN (0x4C40 + i) 1) 4)

/-! ## Temperature (R305) -/

/-- R305: the highest result among the usable thermistors of group `j`. -/
def State.lampTemp (s : State) (j : Nat) : Option Int :=
  ((List.range 16).filter (fun k => bit (s.rdN (0x4C10 + j) 5) k && (vget s.sh.th k).usable)).foldl (fun b k =>
    some (match b with | none => (vget s.sh.th k).temp | some t => max t (vget s.sh.th k).temp)) none

/-- R305: the thermal scale of a temperature between T1 and T3, in 0.1 %. -/
def thermalScale (t t1 t2 sMin : Int) : Int :=
  if t2 ≤ t then sMin else if t1 < t then 1000 - (1000 - sMin) * (t - t1) / (t2 - t1) else 1000

/-- R305: s_T of group `j`; at 1,000 derating ends. -/
def State.setScale (s : State) (j : Nat) (v : Int) : State :=
  let s := s.wr (0x4C10 + j) 0xD v
  if v = 1000 ∧ s.lampState j = 2 then s.wr (0x4C10 + j) 0xA 1 else s

/-- R305: T_j and s_T of group `j` are computed anew. -/
def State.lampThermal (s : State) (j : Nat) : State :=
  let o := 0x4C10 + j
  if s.rd o 5 = 0 then s.setScale j 1000
  else match s.lampTemp j with
    | none =>
      let s := (s.setScale j (s.rd o 8)).raiseIf (!(vget s.lamp.groups j).lossTold) 505 0
      s.updLamp j (fun g => { g with lossTold := true })
    | some t =>
      let s := (s.wr o 0xC t).updLamp j (fun g => { g with lossTold := false })
      if s.rd o 9 ≤ t then
        if s.groupOff j ∨ !s.groupUsed j then s
        else ((((s.endStrobe j).wr o 0xA 4).bump o 0xE).raise1 (496 + j) 0).groupLost j
      else s.setScale j (thermalScale t (s.rd o 6) (s.rd o 7) (s.rd o 8))

/-- R305: thermistor `k` has a new result, or has become unusable. -/
def State.lampsOfTh (s : State) (k : Nat) : State :=
  s.each 8 (fun j s => if bit (s.rdN (0x4C10 + j) 5) k then s.lampThermal j else s)

/-- THERMISTOR_STALE (R120, R305): the newest result of a usable thermistor is older than the staleness limit. -/
def execThermistorStale (dt : Nat) (k : Fin 16) (s : State) : Host.Outcome State Fault Refusal :=
  event dt s (fun s => (vget s.sh.th k).usable && decide ((vget s.sh.th k).time + s.rdN 0x4046 1 * 1000000 < s.now)) (fun s =>
    let s := { s with sh := { s.sh with th := vupd s.sh.th k (fun t => { t with usable := false }) } }
    (s.segsOfTh k).lampsOfTh k)

/-! ## Clearing a group (R306) -/

/-- R306: group `j` is cleared. -/
def opClearGroup (j : Nat) : Op := fun _ s =>
  let o := 0x4C10 + j
  let hot := decide (s.rd o 5 ≠ 0) && (match s.lampTemp j with | none => true | some t => decide (s.rd o 7 ≤ t))
  if hot then (s, 5)
  else if !s.groupOff j then (s, 0)
  else
    let s := s.eachOf (s.stringsOf j) (fun i s => s.wr (0x4C40 + i) 7 1)
    let s := s.lampThermal j
    ((s.wr o 0xA (if s.rd o 0xD < 1000 then 2 else 1)).updLamp j (fun g => { g with clearedAt := s.now + 1000 }), 0)

/-- CLEAR_GROUP (R306): a write of 1 to 0x4C10+j:0B. -/
def execClearGroup (dt : Nat) (m : Fin 17) (j : Fin 8) (s : State) : Host.Outcome State Fault Refusal :=
  hostCommand dt m (0x4C10 + j) 0xB 1 (opClearGroup j) s

/-! ## The bulk bank (R307) -/

/-- BULK_FLOOR_REACHED (R307): V_b falls to the floor during a strobe: every lit strobe ends. -/
def execBulkFloorReached (dt : Nat) (s : State) : Host.Outcome State Fault Refusal :=
  timed dt s (fun s => !s.strobesNow.isEmpty || (List.range 8).any s.litSteady) (fun s =>
    let l := s.strobesNow
    let s := (s.wr 0x4C00 4 (min (s.rd 0x4C00 4) (s.rd 0x4C00 2))).bump 0x4C00 8 l.length
    let s := s.eachOf l (fun (j, g, c) s => s.cutStrobe j g c)
    { s.raiseIf (!s.lamp.bulkLow) 504 0 with lamp := { s.lamp with bulkLow := true } })

/-- BULK_FLOOR_CLEAR (R307): 10 ms above the floor plus 1.0 V. -/
def execBulkFloorClear (dt : Nat) (vb : Nat) (s : State) : Host.Outcome State Fault Refusal :=
  timed dt s (fun s => s.lamp.bulkLow && decide (s.rdN 0x4C00 2 + 1000 < vb)) (fun s =>
    { s.wr 0x4C00 4 (min vb 80000) with lamp := { s.lamp with bulkLow := false } })

/-- LAMP_POWER_REPORT (R308): every 1 ms; `vb` is V_b in mV, `out` the average of Σ I × V of each group in mW. -/
def execLampPowerReport (dt : Nat) (vb : Nat) (out : List Nat) (s : State) : Host.Outcome State Fault Refusal :=
  timed dt s State.powered (fun s =>
    let shares := (List.range 8).map (fun j => if s.groupUsed j then out.getD j 0 * 1000 / s.rdN 0x4C00 5 else 0)
    let s := (s.wr 0x4C00 4 (min vb 80000)).wr 0x4C00 6 shares.sum
    s.each 8 (fun j s => s.wr (0x4C10 + j) 0xF (shares.getD j 0)))

/-- R299: at entry to Scanning the strobe widths of used groups are clamped to their cycles for the session. -/
def State.clampStrobes (s : State) : State :=
  if s.continuous (s.recipe s.activeRecipe) then s
  else s.each 8 (fun j s =>
    let g := s.rdN (0x4C10 + j) 1
    let tcyc := s.cycleLen g * 1000000000 / max 1 (s.rdN (0x2040 + g) 3)
    let start := s.rdN (0x4C10 + j) 2
    let w := s.rdN (0x4C10 + j) 3
    if s.groupUsed j ∧ tcyc < start + w + 100 then
      (s.ownClamp (0x4C10 + j) 3 4 w ((tcyc - 100 - start : Nat) : Int)).updLamp j (fun q => { q with clampW := some (tcyc - 100 - start) })
    else s)

/-- R299: at the exit from Scanning the session's clamps end. -/
def State.lampsExit (s : State) : State := s.each 8 (fun j s => s.updLamp j (fun g => { g with clampW := none }))

end Sys2Proof.Machine
end

