-- ==== Sys2Proof/Machine/Auxiliary.lean ====
section
/-!
DEFINITION. Auxiliary measurement (chapter 14): slots, the sequence, urgent visits, disturbances, linearisation, results,
sleeping measurements and the ratiometric outputs.
-/
namespace Sys2Proof.Machine

/-- Change slot `q`. -/
def State.updSlot (s : State) (q : Nat) (f : AuxSlot → AuxSlot) : State := s.updAux (fun a => { a with slots := vupd a.slots q f })
/-- Slot `q`. -/
def State.slot (s : State) (q : Nat) : AuxSlot := vget s.aux.slots q
/-- Slot `q` is used. -/
def State.slotUsed (s : State) (q : Nat) : Bool := s.rd (0x5010 + q) 1 ≠ 255

/-! ## Slots (R329 to R331) -/

/-- R331: the output period of a rate code, in µs. -/
def periodUs (code : Nat) : Nat := [100000, 50000, 20000, 10000, 5000, 2000, 1000, 500, 200, 100].getD code 1000

/-- The configuration 0x5010+s:01–0B. -/
def State.slotCfg (s : State) (q : Nat) : List Int := (List.range 11).map (fun i => s.rd (0x5010 + q) (i + 1))

/-- R340: what a curve requires of the excitation type. -/
def curveFits (curve type_ : Int) : Bool :=
  if curve = 1 ∨ curve = 2 then type_ = 1
  else if curve = 3 ∨ curve = 4 then type_ = 1 || type_ = 2
  else if 5 ≤ curve ∧ curve ≤ 7 then type_ = 0
  else if curve = 8 then type_ = 2 else true

/-- R329, R330, R340, R341, R343: slot `q` is consistent. -/
def State.slotOk (s : State) (q : Nat) : Bool :=
  let e := fun i => s.rd (0x5010 + q) i
  let type_ := e 3
  let onTime := e 0xB + periodUs (e 0xA).toNat
  let cjc := e 0xF
  (e 2 ≠ e 1) &&
  (e 7 ≠ e 5) &&
  (type_ ≠ 2 || decide (e 4 ≤ 2)) &&
  curveFits (e 0xC) type_ &&
  (type_ = 0 || e 6 = 1 || decide (50 ≤ onTime ∧ onTime ≤ 10000)) &&
  (cjc = 255 || (decide (1 ≤ s.rd (0x5010 + cjc.toNat) 0xC ∧ s.rd (0x5010 + cjc.toNat) 0xC ≤ 4))) &&
  (e 0x10 = 0 || (type_ = 1 && decide (e 4 ≤ 4) && e 6 = 0 && e 8 = 0 && e 9 = 0 && (decide (e 0xC ≤ 4) || e 0xC = 9)))

/-- R333: the sequence list: up to its first 0xFF. -/
def State.sequenceList (s : State) : List Nat := ((List.range 32).map (fun i => s.rdN 0x5001 (i + 1))).takeWhile (· ≠ 255)

/-- R333: the list names no slot twice. -/
def State.sequenceOk (s : State) : Bool := s.sequenceList.eraseDups.length = s.sequenceList.length

/-! ## Passes and triggers (R333) -/

/-- The sequence mode 0x5000:01. -/
def State.seqMode (s : State) : Nat := s.rdN 0x5000 1

/-- R328: the block state 0x5000:02. -/
def State.auxState (s : State) : Nat :=
  if s.dev.st = .trailhead then 0
  else if s.dev.st = .bivouac then 1
  else if s.seqMode = 0 then 4
  else if s.aux.visit.isSome ∨ s.aux.pass.isSome ∨ s.seqMode = 1 then 2 else 3

/-- R330: continuous excitation ends for every slot that is not among `l`. -/
def State.endExcitation (s : State) (l : List Nat) : State :=
  s.each 32 (fun q s => if l.contains q then s else s.updSlot q (fun x => { x with excited := false }))

/-- R333: a pass starts: its list is taken, unused slots are passed over. -/
def State.startPass (s : State) : State :=
  (s.endExcitation (s.sequenceList.filter s.slotUsed)).updAux (fun a => { a with pass := some ⟨s.sequenceList.filter s.slotUsed, s.now, 0, 0⟩, latch := false })

/-- R333, R339: no pass runs, no urgent visit is due, and the cap allows the next pass. -/
def State.passFree (s : State) : Bool :=
  s.aux.pass.isNone && s.aux.visit.isNone && s.aux.urgent.isEmpty && decide (s.aux.after ≤ s.now)

/-- R333: a trigger of mode 2 or 3: it starts a pass at once, is latched, or is dropped. -/
def State.auxTrigger (s : State) : State :=
  if s.passFree ∧ !s.aux.latch then s.startPass
  else if !s.aux.latch then (s.updAux (fun a => { a with latch := true })).bump 0x5000 0xB
  else (s.bump 0x5000 0xC).raise1 552 0

/-- AUX_PASS_START (R333): in free-run the next pass, in the triggered modes the latched trigger's. -/
def execAuxPassStart (dt : Nat) (s : State) : Host.Outcome State Fault Refusal :=
  event dt s (fun s => s.queuesRun && s.passFree && (s.seqMode = 1 || (decide (2 ≤ s.seqMode) && s.aux.latch))) State.startPass

/-- R333: the software trigger. -/
def opAuxTrigger : Op := fun _ s =>
  if s.seqMode ≠ 2 then (s, 5) else if !s.queuesRun then (s, 7) else (s.auxTrigger, 0)

/-- AUX_SOFTWARE_TRIGGER (R333): a write of 1 to 0x5000:03. -/
def execAuxSoftwareTrigger (dt : Nat) (m : Fin 17) (s : State) : Host.Outcome State Fault Refusal :=
  hostCommand dt m 0x5000 3 1 opAuxTrigger s

/-- AUX_PERIODIC_TRIGGER (R333): Compass has passed a further multiple of the trigger period in mode 3. -/
def execAuxPeriodicTrigger (dt : Nat) (s : State) : Host.Outcome State Fault Refusal :=
  event dt s (fun s => s.queuesRun && s.seqMode = 3 && decide (s.aux.multiple < s.fine / (s.rdN 0x5000 4 * 1000000))) (fun s =>
    (s.updAux (fun a => { a with multiple := s.fine / (s.rdN 0x5000 4 * 1000000) })).auxTrigger)

/-- R333: a changed mode or period counts multiples from now. -/
def State.auxFromNow (s : State) : State := s.updAux (fun a => { a with multiple := s.fine / (max 1 (s.rdN 0x5000 4) * 1000000) })

/-- R334: an urgent request by the host. -/
def opUrgent : Op := fun v s => (s.urgent v.toNat, 0)

/-- AUX_URGENT_REQUEST (R334): a mask written to 0x5000:05. -/
def execAuxUrgentRequest (dt : Nat) (m : Fin 17) (mask : BitVec 32) (s : State) : Host.Outcome State Fault Refusal :=
  hostCommand dt m 0x5000 5 mask.toNat opUrgent s

/-! ## Visits (R332) -/

/-- R332, R335, R338: the visit of slot `q` begins. -/
def State.beginVisit (s : State) (q : Nat) (urgent : Bool) : State :=
  let x := s.slot q
  let again := x.faulted && (x.retry || decide (x.retryAt ≤ s.now))
  let cfg := s.slotCfg q
  let s := s.updSlot q (fun x => { x with
    left := if x.flush then 4 else x.left, flush := false, retry := false, excited := cfg.getD 5 0 = 1 && cfg.getD 2 0 ≠ 0 && (!x.faulted || again) })
  s.updAux (fun a => { a with visit := some ⟨q, urgent, s.now, cfg, x.faulted && !again, again⟩ })

/-- R332: the conversion time of a visit, in ns. -/
def Visit.time (v : Visit) : Nat := ((v.cfg.getD 10 0).toNat + periodUs (v.cfg.getD 9 0).toNat + 20) * 1000

/-! ## Linearisation (R340, R341) -/

/-- R331: the input voltage of a raw result, in µV; `raw` is the filter's output in 2^-16 LSB, `refa` is REFA in µV. -/
def rawVolts (cfg : List Int) (raw : Int) (refa : Nat) : Rat :=
  let vref : Rat := if cfg.getD 8 0 = 1 then (refa : Rat) else 2500000
  (raw : Rat) * vref / ((2 : Rat) ^ (39 : Nat) * (2 : Rat) ^ (cfg.getD 7 0))

/-- R330: the source current in µA of a level code. -/
def sourceUa (code : Int) : Rat := 10 * (2 : Rat) ^ code
/-- R330: the source voltage in µV of a level code. -/
def sourceUv (code : Int) : Rat := if code = 0 then 500000 else if code = 1 then 1000000 else 2500000

/-- R340: the measured quantity q, with full precision. -/
def quantity (cfg : List Int) (uv : Rat) (lead : Int) : Rat :=
  if cfg.getD 2 0 = 1 then uv / sourceUa (cfg.getD 3 0) * 1000 - lead
  else if cfg.getD 2 0 = 2 then uv / sourceUv (cfg.getD 3 0) * (2 : Rat) ^ (24 : Nat) else uv

/-- A number rounded to nearest, ties away from zero. -/
def roundRat (x : Rat) : Int := if x < 0 then -((-x + 1 / 2).floor) else (x + 1 / 2).floor

/-- The outcome of a curve: a value; a value saturated to the curve's range; or no value. -/
inductive Curved
  | value (v : Int)
  | saturated (v : Int)
  | undefined
  deriving DecidableEq, Repr

/-- R340, IEC 60751: R(t)/R0 × 10^27 at `t` m°C. -/
def platinum (t : Int) : Int :=
  10 ^ 27 + 39083 * t * 10 ^ 17 - 5775 * t * t * 10 ^ 11 - (if t < 0 then 4183 * (t - 100000) * t * t * t else 0)

/-- R340: curves 1 and 2: the temperature nearest to a resistance ratio, −200 to +850 °C. -/
def platinumTemp (ratio : Rat) : Curved :=
  let x := ratio * (10 : Rat) ^ (27 : Nat)
  if x < (platinum (-200000) : Rat) then .saturated (-200000)
  else if (platinum 850000 : Rat) < x then .saturated 850000
  else
    let t := lastTrue (fun t => decide ((platinum t : Rat) ≤ x)) 21 (-200000) 850000
    if t < 850000 ∧ (platinum (t + 1) : Rat) - x < x - (platinum t : Rat) then .value (t + 1) else .value t

/-- A value kept inside INTEGER32. -/
def intoI32 (v : Int) : Curved := if v < -(2 ^ 31) then .saturated (-(2 ^ 31)) else if 2 ^ 31 - 1 < v then .saturated (2 ^ 31 - 1) else .value v

/-- A temperature in m°C from 1/T in 1/K. -/
def fromInverse (inv : Rat) : Curved := if inv ≤ 0 then .undefined else intoI32 (roundRat (1000 / inv - 273150))

/-- The logarithm as a number. -/
def lnRat (x : Rat) : Rat := (lnFix x : Rat) / (2 : Rat) ^ (80 : Nat)

/-- R340: the resistance in Ω of an NTC slot. -/
def ntcOhms (type_ : Int) (q c4 : Rat) : Option Rat :=
  if type_ = 1 then (if 0 < q then some (q / 1000) else none)
  else
    let r := q / (2 : Rat) ^ (24 : Nat)
    if 1 ≤ r then none
    else
      let ohms := c4 * r / (1 - r)
      if 0 < ohms then some ohms else none

/-- R340: curve 3. -/
def betaTemp (ohms : Rat) (c : Nat → Rat) : Curved :=
  if c 1 ≤ 0 ∨ c 2 = 0 ∨ c 3 + 27315 / 100 = 0 then .undefined
  else fromInverse (1 / (c 3 + 27315 / 100) + lnRat (ohms / c 1) / c 2)

/-- R340: curve 4. -/
def steinhartTemp (ohms : Rat) (c : Nat → Rat) : Curved :=
  let l := lnRat ohms
  fromInverse (c 1 + c 2 * l + c 3 * l * l * l)

/-- R340: the valid range of a thermocouple curve, m°C. -/
def coupleRange (curve : Int) : Int × Int :=
  if curve = 5 then (-210000, 1200000) else if curve = 6 then (-270000, 1372000) else (-270000, 400000)

/-- R340, R341: curves 5 to 7: the inverse reference function of E(V) + E(T_cj). -/
def coupleTemp (curve : Int) (uv : Rat) (cold : Int) : Curved :=
  let k := curve.toNat
  let r := coupleRange curve
  let e := roundRat (uv * 1000) + Config.thermoVolts k cold
  if e < Config.thermoVolts k r.1 then .saturated r.1
  else if Config.thermoVolts k r.2 < e then .saturated r.2
  else .value (limit r.1 r.2 (Config.thermoTemp k e))

/-- R340: the value of slot `q` from its quantity and voltage; `cold` is T_cj. -/
def State.curveValue (s : State) (q : Nat) (type_ : Int) (x uv : Rat) (cold : Int) : Curved :=
  let c := fun i => real32 (s.rdN (0x5040 + q) i)
  match s.rdN (0x5010 + q) 0xC with
  | 0 => intoI32 (roundRat x)
  | 1 => platinumTemp (x / 100000)
  | 2 => platinumTemp (x / 1000000)
  | 3 => match ntcOhms type_ x (c 4) with | some r => betaTemp r c | none => .undefined
  | 4 => match ntcOhms type_ x (c 4) with | some r => steinhartTemp r c | none => .undefined
  | 8 => if c 1 = 0 then .undefined else intoI32 (roundRat (1000 * c 2 * (1000 * (x / (2 : Rat) ^ (24 : Nat)) - c 3) / c 1))
  | 9 => intoI32 (roundRat (1000 * (c 1 * x + c 2)))
  | k => coupleTemp k uv cold

/-! ## Results (R342) -/

/-- R341: the cold junction of slot `q`: its temperature, and whether it is usable. -/
def State.coldJunction (s : State) (q : Nat) : Int × Bool :=
  let j := s.rdN (0x5010 + q) 0xF
  if j = 255 then (0, true)
  else
    let f := s.rdN (0x5080 + j) 1 / 2 ^ 24 % 128
    (s.rd (0x5080 + j) 2, decide (s.rdN (0x5080 + j) 1 ≠ 0) && !bit f 5 && !bit f 6 &&
      decide (s.now ≤ (s.slot j).stamp + s.rdN 0x4046 1 * 1000000))

/-- R344: the fraction of output `a` for a value of its slot. -/
def State.outFraction (s : State) (a : Nat) (v : Int) : Int :=
  let v0 := s.rd (0x5100 + a) 4
  let d := s.rd (0x5100 + a) 5 - v0
  if d = 0 then 0 else limit 0 65535 (rdiv ((v - v0) * 65535) d)

/-- R344: the fail action of output `a`. -/
def State.outFail (s : State) (a : Nat) : State :=
  let f := s.rd (0x5100 + a) 6
  let s := if f = 0 then s else s.wr (0x5100 + a) 7 (if f = 1 then 0 else 65535)
  if s.rd (0x5100 + a) 8 = 1 then s.wr (0x5100 + a) 8 2 else s

/-- R344: the outputs that follow slot `q` take its result. -/
def State.outsOf (s : State) (q : Nat) (usable : Bool) (v : Int) : State :=
  s.each 4 (fun a s =>
    if s.rd (0x5100 + a) 8 ≠ 0 ∧ s.rd (0x5100 + a) 1 = 1 ∧ s.rdN (0x5100 + a) 3 = q then
      if usable then
        let s := s.wr (0x5100 + a) 7 (s.outFraction a v)
        let s := if s.rd (0x5100 + a) 8 = 2 then s.wr (0x5100 + a) 8 1 else s
        s.updAux (fun x => { x with outs := vupd x.outs a (fun o => { o with last := s.now }) })
      else s.outFail a
    else s)

/-- What a conversion delivers: the filter's raw result, a code extreme among its samples, an excitation fault, a failed
open-wire verdict, the samples held by blanking, and REFA in µV. -/
structure Sampled where
  raw : Int
  extreme : Bool
  excFault : Bool
  openFail : Bool
  held : Nat
  refa : Nat

/-- R340 to R342: slot `q`'s result is linearised, flagged, published and handed to its consumers. -/
def State.result (s : State) (q : Nat) (cfg : List Int) (d : Sampled) (unsettled urgent sleeping forced : Bool) : State :=
  let o := 0x5080 + q
  let total := periodUs (cfg.getD 9 0).toNat * 10
  let all := decide (total ≤ d.held ∧ 0 < total)
  let raw := limit (-(2 ^ 23)) (2 ^ 23 - 1) (roundRat ((d.raw : Rat) / 65536))
  let uv := rawVolts cfg (limit (-(2 ^ 39)) ((2 ^ 23 - 1) * 65536) d.raw) d.refa
  let x := quantity cfg uv (s.rd (0x5010 + q) 0x11)
  let curve := s.rd (0x5010 + q) 0xC
  let couple := decide (5 ≤ curve ∧ curve ≤ 7)
  let cj := s.coldJunction q
  let s := s.raiseIf (couple && !cj.2) 555 0
  let was := s.rd o 2
  let c := s.curveValue q (cfg.getD 2 0) x uv cj.1
  let v := match c with | .value v => v | .saturated v => v | .undefined => was
  let beyond := (match c with | .value _ => false | _ => true) || d.extreme || decide (raw = -(2 ^ 23) ∨ raw = 2 ^ 23 - 1)
  let beyond := beyond && !all
  let s := s.raiseIf (beyond && !s.latched 554) 554 0
  let isOpen := (s.slot q).isOpen
  let suspect := forced || isOpen || beyond || decide (total < 4 * d.held) || (couple && !cj.2) || (s.aux.refaBad && decide (cfg.getD 8 0 = 1))
  let flags := 64 * b2n unsettled + 32 * b2n suspect + 16 * b2n isOpen + 8 * b2n beyond + 4 * b2n (decide (0 < d.held)) +
    2 * b2n urgent + b2n sleeping
  let vals := if all then [was, s.rd o 3, s.rd o 4, (s.fine % 2 ^ 32 : Nat), d.held]
    else [v, limit (-(2 ^ 31)) (2 ^ 31 - 1) (roundRat x), raw, (s.fine % 2 ^ 32 : Nat), d.held]
  let s := s.publish o flags vals
  let s := s.updSlot q (fun y => { y with stamp := s.now })
  let s := s.wr (0x5010 + q) 0x12 (if (s.slot q).faulted then 4 else if isOpen then 3 else if unsettled then 1 else 2)
  let usable := !suspect && !unsettled
  let s := s.thResult q (usable && decide (1 ≤ curve ∧ curve ≤ 7)) (s.rd o 2)
  let s := s.each 16 (fun k s => if s.rdN 0x4040 (k + 1) = q then s.lampsOfTh k else s)
  s.outsOf q usable (s.rd o 2)

/-- R337: the open-wire verdict at the end of the gap; two passing ones in a row end the condition. -/
def State.verdictOpen (s : State) (q : Nat) (fails : Bool) : State :=
  if s.rd (0x5010 + q) 0xD = 0 then s
  else if fails then
    let s := s.raiseIf (!(s.slot q).isOpen) (520 + q) 0
    s.updSlot q (fun x => { x with isOpen := true, passes := 0 })
  else if (s.slot q).isOpen then
    if 1 ≤ (s.slot q).passes then s.updSlot q (fun x => { x with isOpen := false, passes := 0, flush := true })
    else s.updSlot q (fun x => { x with passes := x.passes + 1 })
  else s

/-- R338: an excitation fault of a visit, or its end. -/
def State.verdictFault (s : State) (v : Visit) (fails : Bool) : State :=
  if v.dark then s
  else if fails then
    ((s.bump 0x5000 0xE).raise1 553 0).updSlot v.slot (fun x => { x with faulted := true, retryAt := s.now + 1000000000 })
  else if v.retry then s.updSlot v.slot (fun x => { x with faulted := false, flush := true })
  else s

/-- R339: the excitation of a visit counts toward its pass; `power` is source current × pin voltage in nW. -/
def State.countPower (s : State) (v : Visit) (power : Nat) : State :=
  match s.aux.pass with
  | some p =>
    if v.urgent ∨ v.cfg.getD 2 0 = 0 then s
    else if v.cfg.getD 5 0 = 1 then s.updAux (fun a => { a with pass := some { p with steady := p.steady + power } })
    else s.updAux (fun a => { a with pass := some { p with energy := p.energy + power * (v.time / 1000 - 20) } })
  | none => s

/-- R333, R339: a pass whose last visit has ended is complete; the next one may have to wait for the cap. -/
def State.passEnd (s : State) : State :=
  match s.aux.pass with
  | some p =>
    if !p.todo.isEmpty then s
    else
      let us := (s.now - p.start) / 1000
      let cap := s.rdN 0x5000 8 * 1000000
      let room := cap - p.steady
      let need := if p.energy = 0 then 0 else if room = 0 then s.rdN 0x5000 7 * 1000 else cdiv p.energy room
      let capped := decide (us < need ∨ cap < p.steady)
      let s := ((s.wr 0x5000 9 us).bump 0x5000 0xA).raiseIf (capped && !s.aux.capTold) 562 0
      s.updAux (fun a => { a with
        pass := none, capTold := capped, lastEnergy := p.energy, lastSteady := p.steady, lastUs := us, after := p.start + max us (min need (s.rdN 0x5000 7 * 1000)) * 1000 })
  | none => s

/-- AUX_VISIT_START (R332, R334): no visit is in progress: the oldest urgent slot, or the pass's next one. -/
def execAuxVisitStart (dt : Nat) (s : State) : Host.Outcome State Fault Refusal :=
  event dt s (fun s => s.queuesRun && s.aux.visit.isNone) (fun s =>
    match s.aux.urgent with
    | (q, t) :: r =>
      let s := (s.updAux (fun a => { a with urgent := r })).beginVisit q true
      (s.bump 0x5000 0xD).wr 0x5000 0xF ((s.now - t) / 1000 : Nat)
    | [] => match s.aux.pass with
      | some p => match p.todo with
        | q :: r =>
          if s.seqMode = 0 then (s.updAux (fun a => { a with pass := none })).endExcitation []
          else (s.updAux (fun a => { a with pass := some { p with todo := r } })).beginVisit q false
        | [] => s.passEnd
      | none => s)

/-- AUX_VISIT_END (R332): the gap of the visit in progress ends. -/
def execAuxVisitEnd (dt : Nat) (raw : Int) (extreme excFault openFail : Bool) (held power refa : Nat) (s : State) :
    Host.Outcome State Fault Refusal :=
  event dt s (fun s => match s.aux.visit with | some v => s.elapsed v.start v.time | none => false) (fun s =>
    match s.aux.visit with
    | none => s
    | some v =>
      let mask := s.rdN (0x5010 + v.slot) 0xE
      let held := if mask = 0 ∨ (mask = 1 ∧ s.aux.blankOff) then 0 else min held (periodUs (v.cfg.getD 9 0).toNat * 10)
      let s := (s.verdictOpen v.slot openFail).verdictFault v excFault
      let unsettled := decide (0 < (s.slot v.slot).left)
      let s := s.updSlot v.slot (fun x => { x with left := x.left - 1 })
      let s := s.result v.slot v.cfg ⟨raw, extreme, excFault, openFail, held, refa⟩ unsettled v.urgent false
        ((s.slot v.slot).faulted || v.dark)
      let s := (s.updAux (fun a => { a with visit := none })).countPower v power
      let s := if s.seqMode = 0 then (s.updAux (fun a => { a with pass := none })).endExcitation [] else s
      if v.urgent then s else s.passEnd)

/-- AUX_EXCITATION_RETRY (R338): 1 s after an excitation fault the slot's next visit retries. -/
def execAuxExcitationRetry (dt : Nat) (q : Fin 32) (s : State) : Host.Outcome State Fault Refusal :=
  event dt s (fun s => (s.slot q).faulted && decide ((s.slot q).retryAt ≤ s.now)) (fun s => s.updSlot q (fun x => { x with retry := true }))

/-! ## Disturbances (R336, R345) -/

/-- BLANK_STUCK (R336): the pin has been active beyond its limit and is ignored. -/
def execBlankStuck (dt : Nat) (s : State) : Host.Outcome State Fault Refusal :=
  event dt s (fun s => s.queuesRun && !s.aux.blankOff) (fun s => (s.updAux (fun a => { a with blankOff := true })).raise1 561 0)

/-- BLANK_INPUT_RELEASED (R336): inactive for 10 ms, it is honoured again. -/
def execBlankInputReleased (dt : Nat) (s : State) : Host.Outcome State Fault Refusal :=
  event dt s (fun s => s.aux.blankOff) (fun s => s.updAux (fun a => { a with blankOff := false }))

/-- REFA_OUT_OF_RANGE (R345): below 0.5 V or above 3.0 V for 1 ms. -/
def execRefaOutOfRange (dt : Nat) (s : State) : Host.Outcome State Fault Refusal :=
  event dt s (fun s => s.queuesRun && !s.aux.refaBad) (fun s => (s.updAux (fun a => { a with refaBad := true })).raise1 560 0)

/-- REFA_RESTORED (R345): 10 ms within range. -/
def execRefaRestored (dt : Nat) (s : State) : Host.Outcome State Fault Refusal :=
  event dt s (fun s => s.aux.refaBad) (fun s => s.updAux (fun a => { a with refaBad := false }))

/-! ## Sleeping measurements (R343) -/

/-- BIVOUAC_CONVERSION (R343): the next flagged slot of the present Bivouac period is converted on the always-on path. -/
def execBivouacConversion (dt : Nat) (raw : Int) (extreme excFault openFail : Bool) (s : State) : Host.Outcome State Fault Refusal :=
  event dt s (fun s => s.dev.st = .bivouac && (!s.aux.sleeping.isEmpty || decide (s.aux.period ≤ s.now))) (fun s =>
    let s := if s.aux.sleeping.isEmpty then
        s.updAux (fun a => { a with
          sleeping := (List.range 32).filter (fun q => s.slotUsed q && decide (s.rd (0x5010 + q) 0x10 = 1))
          period := s.now + s.rdN 0x5000 6 * 1000000 })
      else s
    match s.aux.sleeping with
    | [] => s
    | q :: r =>
      let s := (s.updAux (fun a => { a with sleeping := r })).verdictOpen q openFail
      let s := if excFault then (s.bump 0x5000 0xE).raise1 553 0 else s
      s.result q (s.slotCfg q) ⟨raw, extreme, excFault, openFail, 0, 0⟩ false false true excFault)

/-! ## Outputs (R344) -/

/-- R344: output `a`, if it is not off, with source 0 takes the host value. -/
def State.outHost (s : State) (a : Nat) : State :=
  if s.rd (0x5100 + a) 8 ≠ 0 ∧ s.rd (0x5100 + a) 1 = 0 then
    let s := s.wr (0x5100 + a) 7 (s.rd (0x5100 + a) 2)
    if s.rd (0x5100 + a) 8 = 2 then s.wr (0x5100 + a) 8 1 else s
  else s

/-- R344: a write to output `a`'s source or host value has been made. -/
def State.outWritten (s : State) (a : Nat) (toSlot : Bool) : State :=
  let s := s.outHost a
  if toSlot then s.updAux (fun x => { x with outs := vupd x.outs a (fun o => { o with last := s.now }) }) else s

/-- AO_STALE (R344): no new result of the slot for the staleness limit. -/
def execAoStale (dt : Nat) (a : Fin 4) (s : State) : Host.Outcome State Fault Refusal :=
  event dt s (fun s => s.queuesRun && s.rd (0x5100 + a) 1 = 1 && s.rd (0x5100 + a) 8 = 1 &&
      s.elapsed (vget s.aux.outs a).last (s.rdN (0x5100 + a) 0xA * 1000000))
    (fun s => s.outFail a)

/-- AO_SHORT (R344): the read-back differs by more than 2 % of REFA for 1 ms: high impedance. -/
def execAoShort (dt : Nat) (a : Fin 4) (s : State) : Host.Outcome State Fault Refusal :=
  event dt s (fun s => s.rd (0x5100 + a) 8 = 1 || s.rd (0x5100 + a) 8 = 2) (fun s =>
    let s := ((s.wr (0x5100 + a) 8 3).bump (0x5100 + a) 9).raise1 (556 + a) 0
    s.updAux (fun x => { x with outs := vupd x.outs a (fun o => { o with retryAt := s.now + 1000000000 }) }))

/-- AO_SHORT_RETRY (R344): every 1 s; a retry that holds the level for 1 ms resumes the output. -/
def execAoShortRetry (dt : Nat) (a : Fin 4) (holds : Bool) (s : State) : Host.Outcome State Fault Refusal :=
  event dt s (fun s => s.rd (0x5100 + a) 8 = 3 && decide ((vget s.aux.outs a).retryAt ≤ s.now)) (fun s =>
    if holds then (s.wr (0x5100 + a) 8 1).outHost a
    else
      let s := s.raiseIf (!s.latched (556 + a)) (556 + a) 0
      s.updAux (fun x => { x with outs := vupd x.outs a (fun o => { o with retryAt := s.now + 1000000000 }) }))

/-! ## Entry and exit (R328) -/

/-- R328, R335: at entry to Standby from Bivouac every filter is flushed and the outputs run. -/
def State.auxWake (s : State) : State :=
  let s := s.each 32 (fun q s => s.updSlot q (fun x => { x with flush := true }))
  let s := s.updAux (fun a => { a with visit := none, pass := none, latch := false, after := s.now, sleeping := [] })
  (s.each 4 (fun a s =>
    ((s.wr (0x5100 + a) 8 1).outHost a).updAux (fun x => { x with outs := vupd x.outs a (fun o => { o with last := s.now }) }))).auxFromNow

/-- R328: at a later entry to Standby every filter is flushed. -/
def State.auxStandby (s : State) : State := s.each 32 (fun q s => s.updSlot q (fun x => { x with flush := true }))

/-- R328, R351: at entry to Bivouac the visit is abandoned, the outputs are off, and sleeping conversions start one period later. -/
def State.auxSleep (s : State) : State :=
  let s := s.updAux (fun a => { a with
    visit := none, pass := none, latch := false, sleeping := [], period := s.now + s.rdN 0x5000 6 * 1000000, refaBad := false })
  (s.endExcitation []).each 4 (fun a s => s.wr (0x5100 + a) 8 0)

end Sys2Proof.Machine
end

