-- ==== Sys2Proof/Machine/FrontEnd.lean ====
section
/-!
DEFINITION. Front ends (chapter 4), the lane's path into the line queue (R113 to R117, R222 to R229) and the sums of a
capture or a measurement: the codes of a channel line come from outside as operands.
-/
namespace Sys2Proof.Machine

/-! ## Codes and words (R93, R100 to R102) -/

/-- R93: differential input mode. -/
def State.diff (s : State) (n : Nat) : Bool := s.rd (chIdx n + 1) 1 = 1
/-- R100: right alignment. -/
def State.right (s : State) (n : Nat) : Bool := s.rd (chIdx n + 1) 9 = 0
/-- R93: the lowest code. -/
def State.codeLow (s : State) (n : Nat) : Int := if s.diff n then -8192 else 0
/-- R93: the highest code. -/
def State.codeHigh (s : State) (n : Nat) : Int := if s.diff n then 8191 else 16383
/-- R102: a code at an extreme of its range. -/
def State.overRange (s : State) (n : Nat) (c : Int) : Bool := decide (c ≤ s.codeLow n ∨ s.codeHigh n ≤ c)

/-- R101: the word of a code with fine offset `f` in 1/16 LSB. -/
def State.word (s : State) (n : Nat) (f c : Int) : Int :=
  if s.right n then limit (s.codeLow n) (s.codeHigh n) (c - rdiv f 16)
  else limit (s.codeLow n * 4) (s.codeHigh n * 4 + 3) (c * 4 - rdiv f 4)

/-- R105: the target code. -/
def State.target (s : State) (n : Nat) : Int := s.codeLow n + s.rd (chIdx n + 2) 2

/-! ## The black-level loop (R103, R104) -/

/-- A number divided by 2^s, rounded to nearest with a tie up. -/
def halfUp (v : Int) (s : Nat) : Int := (2 * v + 2 ^ s) / (2 * 2 ^ s)

/-- R103: b in 1/16 LSB, from the codes and F in 1/16 LSB. -/
def blackMean (codes : List Int) (f : Int) : Int :=
  if codes.isEmpty then 0 else (2 * 16 * codes.sum + codes.length) / (2 * codes.length) - f

/-- R103: one step of the loop: D and F after it, and loop_at_limit. -/
def loopStep (d f b target : Int) (shift : Nat) : Int × Int × Bool :=
  let f := f + halfUp (b - 16 * target) shift
  let r := if 128 ≤ f ∧ 0 < d then (d - 1, f - 256) else (d, f)
  let r := if r.2 < -128 ∧ r.1 < 1023 then (r.1 + 1, r.2 + 256) else r
  let f := limit (-1024) 1023 r.2
  (r.1, f, decide ((r.1 = 0 ∧ 128 ≤ f) ∨ (r.1 = 1023 ∧ f < -128)))

/-- R106: the signal check fails. -/
def State.checkFails (s : State) (n : Nat) (codes : List Int) (b : Int) : Bool :=
  let beyond := (codes.filter (s.overRange n)).length
  decide (16 * s.rd (chIdx n + 2) 6 < (b - 16 * s.target n).natAbs ∨ codes.length ≤ 2 * beyond)

/-- Change front end `n`. -/
def State.updFe (s : State) (n : Nat) (f : FrontEnd → FrontEnd) : State := { s with fe := vupd s.fe n f }

/-- R106, R107: the outcome of a signal check. -/
def State.checked (s : State) (n : Nat) (fails : Bool) : State :=
  let st := s.status n
  if fails then
    let s := s.updFe n (fun q => { q with passes := 0, failed := true })
    if st = 0 ∨ st = 4 then
      let s := ((s.bump (chIdx n + 4) 3).bump (chIdx n) 0xA).raise1 (4 * n + 3) 0
      s.updService n (fun v => { v with losing := true, asked := s.now })
    else if st = 3 then s.serviceChange n 2
    else s
  else if st = 2 then s.updFe n (fun q => { q with passes := q.passes + 1 })
  else s

/-- R103, R104: the loop sees a channel line. -/
def State.loopLine (s : State) (n : Nat) (codes : List Int) (b : Int) (fails : Bool) : State :=
  let q := vget s.fe n
  let mode := s.rd (chIdx n + 2) 1
  let conv := s.status n = 0 ∨ s.status n = 4
  if mode = 0 then s.updFe n (fun q => { q with f := 0, idle := true, atLimit := false })
  else if mode = 2 then s.updFe n (fun q => { q with idle := true })
  else if ¬ conv then s
  else if codes.length < 4 ∨ fails ∨ codes.any (s.overRange n) then s.bump (chIdx n + 4) 5
  else
    let r := loopStep (s.rd (chIdx n + 1) 8) q.f b (s.target n) (s.rdN (chIdx n + 2) 3)
    let s := if q.written then s else s.wr (chIdx n + 1) 8 r.1
    s.updFe n (fun q => { q with f := r.2.1, atLimit := r.2.2 })

/-- R109: a channel line joins the running result period. -/
def State.loopSum (s : State) (n : Nat) (codes : List Int) (b : Int) : State :=
  let c := codes.sum
  let sq := (codes.map (fun x => x * x)).sum
  s.updFe n (fun q => { q with
    lines := q.lines + 1, sumB := q.sumB + b, sumSq := q.sumSq + ((codes.length : Int) * sq - c * c).toNat })

/-- R95: in mode 1 the phases lie too close, so that a raised reset phase is used; reported once for these phases. -/
def State.resetPhase (s : State) (n : Nat) : State :=
  let d := (s.rdN (chIdx n) 2 + 64 - s.rdN (chIdx n + 1) 5) % 64
  let close := s.rd (chIdx n + 1) 4 = 1 && (d < 16 || 48 < d)
  if close && !(vget s.fe n).phaseTold then
    let use := (s.rdN (chIdx n) 2 + 48) % 64
    (s.ownClamp (chIdx n + 1) 5 4 (s.rd (chIdx n + 1) 5) use).updFe n (fun q => { q with phaseTold := true })
  else if close then s else s.updFe n (fun q => { q with phaseTold := false })

/-- The readout, among channel `n`'s last two, that an event at clock `c` of a cycle belongs to, and whether it is the older:
the first for which `due` still holds, unless the later cycle has reached that clock. -/
def State.readoutAt (s : State) (n c : Nat) (due : Reading → Bool) : Option (Bool × Reading) :=
  let q := vget s.fe n
  match q.old.filter due, q.cur.filter due with
  | some o, some r => if s.elapsed r.start (s.clocksNs (s.groupOf n) c) then some (false, r) else some (true, o)
  | some o, none => some (true, o)
  | none, r => r.map (fun r => (false, r))

/-- Change one of channel `n`'s readouts. -/
def State.updReading (s : State) (n : Nat) (old : Bool) (f : Reading → Reading) : State :=
  s.updFe n (fun q => if old then { q with old := q.old.map f } else { q with cur := q.cur.map f })

/-- Channel `n` is read out: named, powered, its cluster not offline since before that cycle. -/
def State.reads (s : State) (n : Nat) (r : Reading) : Bool :=
  s.named n && s.status n ≠ 1 && !s.offline (n / 8) && decide ((vget s.trm.clusters (n / 8)).endAt ≤ r.start)

/-- R78: the pixel clock at which channel `n`'s black pixels end. -/
def State.blackClock (s : State) (n : Nat) : Nat := if s.rd (chIdx n) 5 = 1 then s.lineLen n else 24 + s.blackPx n

/-- The readout whose black pixels end. -/
def State.blackReadout (s : State) (n : Nat) : Option (Bool × Reading) :=
  s.readoutAt n (s.blackClock n) (fun r => !r.blackDone && s.reads n r)

/-- BLACK_PIXELS_END (R103, R106): the codes of the line's B black pixels; the check runs and the loop updates. -/
def execBlackPixelsEnd (dt : Nat) (n : Fin 64) (codes : List Int) (s : State) : Host.Outcome State Fault Refusal :=
  event dt s (fun s => (s.blackReadout n).isSome && codes.length = s.blackPx n) (fun s =>
    match s.blackReadout n with
    | none => s
    | some (old, r) =>
      let codes := codes.map (limit (s.codeLow n) (s.codeHigh n))
      let b := blackMean codes r.f
      let on := s.rd (chIdx n + 2) 5 = 1 ∧ 4 ≤ codes.length
      let fails := on && s.checkFails n codes b
      let s := s.updReading n old (fun r => { r with blackDone := true, lost := fails && (s.status n = 0 || s.status n = 4) })
      let s := (s.loopSum n codes b).loopLine n codes b fails
      let s := if on then s.checked n fails else s
      s.resetPhase n)

/-- SIGNAL_AUTO_RECOVERY (R108): after enough passing lines the channel returns. -/
def execSignalAutoRecovery (dt : Nat) (n : Fin 64) (s : State) : Host.Outcome State Fault Refusal :=
  event dt s (fun s => s.status n = 2 && s.rd (chIdx n + 2) 7 = 0 && !(s.svc n).leaving &&
      decide (s.rdN (chIdx n + 2) 8 ≤ (vget s.fe n).passes)) (fun s =>
    let s := (s.wr (chIdx n) 8 3).bump (chIdx n + 4) 4
    (s.updFe n (fun q => { q with passes := 0 })).updService n (fun v => { v with returned := s.now }))

/-- The integer square root, by bisection over `n` bits. -/
def isqrtBits : Nat → Nat → Nat → Nat
  | 0, _, r => r
  | n + 1, v, r => isqrtBits n v (if (r + 2 ^ n) * (r + 2 ^ n) ≤ v then r + 2 ^ n else r)

/-- The integer square root of a number below 2^128. -/
def isqrt (v : Nat) : Nat := isqrtBits 64 v 0

/-- R109: rms in 1/16 LSB, rounded to nearest, from Σ(B·Σc² − (Σc)²) over `l` lines of `b` pixels. -/
def noiseOf (sumSq l b : Nat) : Nat :=
  let d := l * b * b
  if d = 0 then 0 else (isqrt (4 * 256 * sumSq / d) + 1) / 2

/-- BLACK_LEVEL_RESULT (R109): a result period ends. -/
def execBlackLevelResult (dt : Nat) (n : Fin 64) (s : State) : Host.Outcome State Fault Refusal :=
  event dt s (fun s => s.status n ≠ 1 && decide (s.rdN (chIdx n + 2) 9 ≤ (vget s.fe n).lines)) (fun s =>
    let q := vget s.fe n
    let b := s.blackPx n
    let flags := 8 * b2n (b < 4) + 4 * b2n q.failed + 2 * b2n (q.idle || s.rd (chIdx n + 2) 1 ≠ 1) + b2n q.atLimit
    let mean := (2 * q.sumB + q.lines) / (2 * (q.lines : Int))
    let s := s.publish (chIdx n + 3) flags
      [mean, noiseOf q.sumSq q.lines b, s.rd (chIdx n + 1) 8, q.f, q.beyond]
    s.updFe n (fun q => { q with lines := 0, sumB := 0, sumSq := 0, beyond := 0, failed := false, idle := false }))

/-! ## Line queues (R222 to R229) -/

/-- R223: words stored. -/
def LineQueue.count (q : LineQueue) : Nat := (q.w + 65536 - q.r) % 65536
/-- R223: free words. -/
def LineQueue.free (q : LineQueue) : Nat := 32768 - q.count - q.credit

/-- CHANNEL_LINE_START (R226): credit for A + 4 words opens a frame, or the line overruns.
`bad` names the pixels whose shading entries are found with bad parity in this line (R137). -/
def execChannelLineStart (dt : Nat) (n : Fin 64) (bad : List Nat) (s : State) : Host.Outcome State Fault Refusal :=
  event dt s (fun s => (s.group (s.groupOf n)).running.isSome && s.named n && s.trimFree n) (fun s =>
    let s := s.settleService n
    match (vget s.fe n).cur.filter (fun r => !r.framed && !r.lineDone) with
    | none => s
    | some r => match r.pix with
      | none => s
      | some (line, plane) =>
        if !s.live ∨ (s.status n ≠ 0 ∧ s.status n ≠ 4) then s
        else
          let l := r.lane
          let es := bad.map (fun i => entryIndex (s.bank l.bank).bytes n l.plane i)
          let s := if l.identity then s else s.updBank l.bank (fun b => { b with bad := b.bad ++ es.filter (fun e => !b.bad.contains e) })
          let need := s.activePx n + 4
          if need ≤ (s.lineQ n).free then
            let s := s.updReading n false (fun r => { r with
              framed := true, warming := s.status n = 4, missed := (s.lineQ n).missed })
            (s.updLineQ n (fun q => { q with credit := q.credit + need, missed := 0 })).updExpo (s.groupOf n) line plane
              (fun e => { e with waiting := e.waiting ++ [n.val] })
          else
            let s := ((s.bump 0x5602 (n + 1)).wrBit 0x5607 1 n true).raise1 (256 + n / 8) 0
            let s := s.updReading n false (fun r => { r with lineDone := true })
            (s.updLineQ n (fun q => { q with missed := q.missed + 1 })).updExpo (s.groupOf n) line plane
              (fun e => { e with gone := e.gone ++ [n.val] }))

/-- R225: the line record. -/
def lineRecord (line plane : Nat) (lost beyond warming uncorrected held : Bool) (missed poisoned : Nat) : Nat :=
  line % 65536 * 2 ^ 48 + plane * 2 ^ 46 + b2n lost * 2 ^ 45 + b2n beyond * 2 ^ 44 + b2n warming * 2 ^ 43 +
    b2n uncorrected * 2 ^ 42 + b2n held * 2 ^ 41 + min 255 missed * 2 ^ 32 + min 65535 poisoned * 2 ^ 16

/-- R229: the count of queue `n` has moved up from `before`. -/
def State.countMoved (s : State) (n before : Nat) : State :=
  let c := (s.lineQ n).count
  let level := s.rdN 0x5601 (n + 1)
  let s := if level ≠ 0 ∧ before < level ∧ level ≤ c then
      ((s.bump 0x5604 (n + 1)).wrBit 0x5607 2 n true).raise1 (264 + n / 8) 0
    else s
  if s.rdN 0x5605 (n + 1) < c then s.wr 0x5605 (n + 1) c else s

/-- R226: the frame closes with its record and words. -/
def State.closeFrame (s : State) (n rec_ : Nat) (words : List Nat) : State :=
  let before := (s.lineQ n).count
  let all := (List.range 4).map (fun k => rec_ / 2 ^ (16 * k) % 65536) ++ words
  (s.updLineQ n (fun q => { q with
    w := (q.w + all.length) % 65536, words := q.words ++ all, credit := q.credit - all.length })).countMoved n before

/-! ## A channel line's active samples -/

/-- R78: a list in sample order as a list in pixel order, or back. -/
def State.byPixel {α : Type} (s : State) (n : Nat) (l : List α) : List α := if s.rd (chIdx n) 6 = 1 then l.reverse else l

/-- R102: over-range active samples are counted; the first such line raises EV(4n). -/
def State.countOver (s : State) (n beyond : Nat) : State :=
  if beyond = 0 then s
  else ((s.bump (chIdx n + 4) 2 beyond).bump (chIdx n + 4) 1).raiseIf (!s.latched (4 * n)) (4 * n) 0

/-- R137: bad entries read by channel `n`'s lane. -/
def State.countParity (s : State) (n errs : Nat) : State :=
  if errs = 0 then s
  else
    let s := (s.bump 0x4050 1 errs).raise1 (4 * n + 2) 0
    { s.raiseIf (!s.sh.parityTold) 844 0 with sh := { (s.raiseIf (!s.sh.parityTold) 844 0).sh with parityTold := true } }

/-- R114 to R117: the lane corrects a line of words (pixel order) and closes its frame. -/
def State.laneLine (s : State) (n : Nat) (r : Reading) (xs : List Int) (beyond : Nat) (line plane : Nat) : State :=
  let l := r.lane
  let raw := xs.mapIdx (fun i x => laneSample l x (s.entryFor l n i))
  let px := raw.map (·.1)
  let out := (List.range px.length).map (replaced px (s.rdN 0x4000 0xC))
  let poisoned := (out.filter (·.2)).length
  let s := s.countParity n ((px.filter (·.poison)).length)
  let s := ((s.bump 0x4050 2 (raw.filter (fun p => p.2 < 0)).length).bump 0x4050 3 (raw.filter (fun p => 65535 < p.2)).length).bump
    0x4050 4 (px.filter (fun p => p.repl ≠ 0)).length
  let s := if l.identity then s.bump 0x4050 5 else s
  let w := lineRecord line plane r.lost (0 < beyond && !r.lost) r.warming l.identity l.held r.missed poisoned
  s.closeFrame n w (s.byPixel n (out.map (fun p => p.1 + if p.2 then 65536 else 0)))

/-! ## Sums of a capture or a measurement (R133, R144) -/

/-- Values added into a list from offset `o`. -/
def addAt (l : List Int) (o : Nat) (xs : List Int) : List Int :=
  l.take o ++ (List.zipWith (· + ·) ((l.drop o).take xs.length) xs) ++ l.drop (o + xs.length)

/-- R133: a channel line of a capture is added; a channel not simply in service is skipped. -/
def State.captureLine (s : State) (c : Capture) (n : Nat) (lost : Bool) (plane : Nat) (xs : List Int) (beyond : List Nat) : State :=
  let b := (s.bank s.shadow).bytes
  let o := entryIndex b n plane 0
  let c :=
    if s.status n ≠ 0 ∨ lost then { c with skipped := if c.skipped.contains n then c.skipped else c.skipped ++ [n] }
    else if c.phase = .darkAverage then { c with sumDark := addAt c.sumDark o xs }
    else if c.phase = .whiteAverage then
      { c with
        sumWhite := addAt c.sumWhite o (xs.mapIdx (fun i x => x - c.dark.getD (o + i) 0))
        beyond := c.beyond ++ (beyond.map (· + o)).filter (fun e => !c.beyond.contains e) }
    else c
  { s with sh := { s.sh with capture := some c } }

/-- R144: the base of channel `n`'s pixels in a measured set: channels named in the map, in channel order. -/
def State.measureBase (s : State) (n : Nat) : Nat :=
  (((List.range n).filter s.named).map s.activePx).sum

/-- R144: a channel line of a measurement is added. -/
def State.measureLine (s : State) (m : Measure) (n : Nat) (lost : Bool) (xs : List Int) (beyond : List Nat) : State :=
  let o := s.measureBase n
  let m :=
    if s.status n ≠ 0 ∨ lost then { m with skipped := if m.skipped.contains n then m.skipped else m.skipped ++ [n] }
    else if m.phase = .darkAverage then { m with sum := addAt m.sum o xs }
    else if m.phase = .whiteAverage then
      { m with
        sum := addAt m.sum o (xs.mapIdx (fun i x => x - m.dark.getD (o + i) 0))
        beyond := m.beyond ++ (beyond.map (· + o)).filter (fun e => !m.beyond.contains e) }
    else m
  { s with rcp := { s.rcp with measure := some m } }

/-- The readout whose channel line ends: one with an open frame, or one that is read out. -/
def State.lineReadout (s : State) (n : Nat) : Option (Bool × Reading) :=
  s.readoutAt n (s.lineLen n) (fun r => !r.lineDone && (r.framed || s.reads n r))

/-- CHANNEL_LINE_END (R226): the codes of the line's A active samples, in sample order; the lane's output closes the
frame, or the samples join a capture's sums. -/
def execChannelLineEnd (dt : Nat) (n : Fin 64) (codes : List Int) (s : State) : Host.Outcome State Fault Refusal :=
  event dt s (fun s => (s.lineReadout n).isSome && codes.length = s.activePx n) (fun s =>
    match s.lineReadout n with
    | none => s
    | some (old, r) =>
      let s := s.updReading n old (fun r => { r with lineDone := true })
      let codes := s.byPixel n (codes.map (limit (s.codeLow n) (s.codeHigh n)))
      let xs := codes.map (fun c => laneX (s.right n) (s.word n r.f c))
      let hot := (List.range codes.length).filter (fun i => s.overRange n (codes.getD i 0))
      let count := fun (s : State) => (s.countOver n hot.length).updFe n (fun q => { q with beyond := q.beyond + hot.length })
      match r.pix with
      | none => s
      | some (line, plane) =>
        if r.framed then (count s).laneLine n r xs hot.length line plane
        else match s.sh.capture, s.rcp.measure with
          | some c, _ => if r.start < c.sumFrom then count s else (count s).captureLine c n r.lost plane xs hot
          | none, some m => if r.start < m.sumFrom then count s else (count s).measureLine m n r.lost xs hot
          | none, none => s)

/-! ## Clearing peaks and bits (R240) -/

/-- R240, R229, R238: the peaks fall back to the present counts and fills. -/
def opClearPeaks : Op := fun _ s =>
  let s := s.each 64 (fun n s => s.wr 0x5605 (n + 1) (s.lineQ n).count)
  (s.each 8 (fun k s => s.wr (0x5610 + k) 0x10 (s.eq k).fill), 0)

/-- CLEAR_PEAKS (R240): a write of 1 to 0x5606:01. -/
def execClearPeaks (dt : Nat) (m : Fin 17) (s : State) : Host.Outcome State Fault Refusal :=
  hostCommand dt m 0x5606 1 1 opClearPeaks s

/-- R240: both bit masks are cleared. -/
def opClearBits : Op := fun _ s => ((s.wr 0x5607 1 0).wr 0x5607 2 0, 0)

/-- CLEAR_CHANNEL_BITS (R240): a write of 1 to 0x5607:03. -/
def execClearChannelBits (dt : Nat) (m : Fin 17) (s : State) : Host.Outcome State Fault Refusal :=
  hostCommand dt m 0x5607 3 1 opClearBits s

end Sys2Proof.Machine
end

