-- ==== Sys2Proof/Machine/Ridge.lean ====
section
/-!
DEFINITION. Ridgeline (R162 to R177, R183, R184, R227, R228): reading the line queues, the geometry of a line, cross-direction
and machine-direction resampling, seam blending, fill and the output line.
-/
namespace Sys2Proof.Machine

/-! ## Reading the line queues (R227, R228) -/

/-- A list without its first `n` words, as the queue's read side leaves it. -/
def LineQueue.drop (q : LineQueue) (n : Nat) : LineQueue := { q with r := (q.r + n) % 65536, words := q.words.drop n }

/-- R137, R228: a word with bad parity is counted and raises EV(4n+2). -/
def State.queueParity (s : State) (n count : Nat) : State :=
  if count = 0 then s else (s.bump 0x5603 (n + 1) count).raise1 (4 * n + 2) 0

/-- A channel line as a frame's record and words give it; words come in sample order. -/
def State.chanLine (s : State) (n rec_ : Nat) (words : List Nat) (bad : List Nat) : ChanLine :=
  let px := s.byPixel n (words.mapIdx (fun i w => (w % 65536, decide (65536 ≤ w) || bad.contains i)))
  { ch := n, vals := px.map (·.1), poison := (List.range px.length).filter (fun i => (px.getD i default).2),
    warming := bit rec_ 43, beyond := bit rec_ 44, held := bit rec_ 41, uncorrected := bit rec_ 42 }

/-- The exposure that a record of channel `n` belongs to: by group, line cycle and plane, still waiting for it. -/
def State.expoOf (s : State) (n line plane : Nat) : Option Nat :=
  s.rdg.expos.findIdx? (fun e => e.group = s.groupOf n && e.line % 65536 = line && e.plane = plane && e.waiting.contains n)

/-- One exposure, by its place, changes. -/
def State.setExpo (s : State) (i : Nat) (f : Expo → Expo) : State :=
  let l := s.rdg.expos.mapIdx (fun j e => if j = i then f e else e)
  { s with rdg := { s.rdg with expos := l } }

/-- R227: the frame at the head of queue `n` is read; `bad` names the frame's words that show bad parity. -/
def State.readFrame (s : State) (n : Nat) (bad : List Nat) : State :=
  let q := s.lineQ n
  let a := s.activePx n
  let rec_ := bitString 16 ((q.words.take 4).map (· % 65536))
  let words := (q.words.drop 4).take a
  let s := s.updLineQ n (fun q => q.drop (a + 4))
  let dead := bad.any (· < 4)
  let mine := (bad.filter (fun i => 4 ≤ i && i < a + 4)).map (· - 4)
  let s := s.queueParity n (if dead then 1 else mine.length)
  match s.expoOf n (field rec_ 63 48) (field rec_ 47 46) with
  | none => s
  | some i => s.setExpo i (fun e =>
      let e := { e with waiting := e.waiting.filter (· ≠ n) }
      if dead ∨ bit rec_ 45 then { e with gone := e.gone ++ [n] }
      else { e with lines := e.lines ++ [s.chanLine n rec_ words mine] })

/-- Up to `k` closed frames of queue `n` are read; `bad` names words by their place in the queue. -/
def State.readQueue (n : Nat) : Nat → List Nat → State → State
  | 0, _, s => s
  | k + 1, bad, s =>
    let len := s.activePx n + 4
    if (s.lineQ n).words.length < len then s
    else State.readQueue n k ((bad.filter (len ≤ ·)).map (· - len)) (s.readFrame n (bad.filter (· < len)))

/-- R227: every closed frame is read; `bad` names channels and words with bad parity. -/
def State.readQueues (s : State) (bad : List (Nat × Nat)) : State :=
  s.each 64 (fun n s =>
    if (s.lineQ n).words.isEmpty then s
    else State.readQueue n ((s.lineQ n).words.length / 68 + 1) ((bad.filter (·.1 = n)).map (·.2)) s)

/-! ## Positions, discards and grids (R168 to R170) -/

/-- The grid that an exposure of line cycle `line` belongs to, by its place. -/
def State.gridOf (s : State) (line : Nat) : Nat :=
  ((List.range s.rdg.grids.length).filter (fun i => lineAtOrAfter line (s.rdg.grids.getD i default).cycle)).getLastD 0

/-- R168, R170: exposure `i` takes its final position; one that does not advance by Δ_n/256 over the last usable exposure of
its group, plane and recipe is discarded and counted. -/
def State.finalise (s : State) (i : Nat) : State :=
  match s.rdg.expos[i]? with
  | none => s
  | some e =>
    if e.pos.isSome then s
    else match s.posAt e.center.toNat with
      | none => s
      | some p =>
        let g := s.gridOf e.line
        let dn := s.nominal (s.rdg.grids.getD g default).bytes
        let before := ((s.rdg.expos.take i).filter (fun q =>
          q.group = e.group && q.plane = e.plane && !q.discarded && s.gridOf q.line = g)).filterMap (·.pos)
        let short := match before.getLast? with
          | none => false
          | some b => decide (256 * (p - b) < dn)
        (if short then s.bump 0x4441 4 else s).setExpo i (fun e => { e with pos := some p, discarded := short })

/-- R191: every exposure whose position is final takes it. -/
def State.finaliseAll (s : State) : State := s.each s.rdg.expos.length (fun i s => s.finalise i)

/-- The timing group of a segment: that of its first tap. -/
def State.segGroup (s : State) (g : Nat) : Nat := ((s.taps g).head?.map s.groupOf).getD 0

/-- R169: the groups that may anchor a grid, the lowest-numbered first: running groups of the undelayed row. -/
def State.anchorGroups (s : State) : List Nat :=
  (List.range 16).filter (fun q => s.groupRuns q && s.usedSegments.any (fun g => s.rowOf g = s.undelayed && s.segGroup g = q))

/-- R169: the anchor of grid `i`: the plane-0 exposure that begins its line cycle in the first of those groups; where that
group has dropped the cycle, in the next, and at last the switch trigger's own position. -/
def State.anchorOf (s : State) (g : Grid) : Option Int :=
  let at_ := fun (q : Nat) => (s.rdg.expos.find? (fun e => e.group = q && e.plane = 0 && e.line = g.cycle)).bind (·.pos)
  let past := fun (q : Nat) => s.rdg.expos.any (fun e => e.group = q && e.plane = 0 && e.line ≠ g.cycle && lineAtOrAfter e.line g.cycle && e.pos.isSome)
  match s.anchorGroups.find? (fun q => !past q || (at_ q).isSome) with
  | some q => at_ q
  | none => g.switch_.map (·.pos)

/-- Grids that can be anchored are. -/
def State.anchorGrids (s : State) : State :=
  let l := s.rdg.grids.map (fun g => if g.anchor.isSome then g else { g with anchor := s.anchorOf g })
  { s with rdg := { s.rdg with grids := l } }

/-- R157: switches that have been made become grids to come. -/
def State.absorbSwitches (s : State) : State :=
  let new : List Grid := s.rcp.switches.map (fun w =>
    let b := s.recipe w.recipe
    { recipe := w.recipe, bytes := b, job := w.job, cycle := w.line, anchor := none, first := 0, pitch := s.cLine (rMd b), switch_ := some w })
  { s with rdg := { s.rdg with grids := s.rdg.grids ++ new }, rcp := { s.rcp with switches := [] } }

/-- The position of line `j` on a grid. -/
def Grid.at_ (g : Grid) (j : Nat) : Int := g.anchor.getD 0 + ((j : Int) - g.first) * g.pitch

/-- R157: the grid in force gives way once the next line lies at or beyond the next grid's anchor. -/
def State.advanceGrid (s : State) : State :=
  match s.rdg.grids with
  | g :: h :: r =>
    match h.anchor with
    | some x =>
      if x ≤ g.at_ s.rdg.next then
        { s with rdg := { s.rdg with
            grids := { h with first := s.rdg.next } :: r
            expos := s.rdg.expos.filter (fun e => lineAtOrAfter e.line h.cycle) } }
      else s
    | none => s
  | _ => s

/-! ## Geometry of a line (R162 to R164, R174, R177, R179) -/

/-- One segment as a line's resampler sees it. Its correction is a + b·u. -/
structure SegPlan where
  seg : Nat
  n : Nat
  x : Int
  pitch : Nat
  a : Rat
  b : Rat
  group : Nat
  delay : Int
  /-- Native pixels of one block, and the kernel's β. -/
  m : Nat
  beta : Rat
  /-- The first output pixel reached, and for each reached pixel its index k and phase φ. -/
  i0 : Nat
  at_ : List (Int × Nat)

/-- R179: the build correction. -/
def State.buildOf (s : State) (g : Nat) : Rat × Rat :=
  ((s.rd (0x4420 + g) 3 : Rat) / 256, (s.rd (0x4420 + g) 4 : Rat) / 2 ^ 24)

/-- R176, R177: the overlap centre of two neighbours, the lower first. -/
def State.overlapCentre (s : State) (lo hi : SegPlan) : Rat := (hi.x : Rat) + (s.overlap lo.seg hi.seg : Rat) / 2 * hi.pitch

/-- R179: the correction of an outer segment from its inner neighbour's. -/
def State.outward (s : State) (inner q : SegPlan) : SegPlan :=
  let up := decide (inner.seg < q.seg)
  let xc := if up then s.overlapCentre inner q else s.overlapCentre q inner
  let seam := vget s.rdg.seams (min inner.seg q.seg)
  let uc := (xc - q.x) / q.pitch
  let base := (inner.a + inner.b * ((xc - inner.x) / inner.pitch)) * inner.pitch / q.pitch
  let sigma : Rat := (seam.stretchA : Rat) / 2 ^ 24 * (if up then 1 else -1)
  let bd := s.buildOf q.seg
  { q with a := bd.1 + base + (seam.shiftA : Rat) / 256 - (inner.b + sigma) * uc, b := bd.2 + inner.b + sigma }

/-- R179: corrections outward from an already corrected neighbour. -/
def State.outwardAll (s : State) : SegPlan → List SegPlan → List SegPlan
  | _, [] => []
  | inner, q :: r => let q' := s.outward inner q; q' :: s.outwardAll q' r

/-- R177: the place of the reference segment among a line's segments. -/
def State.refIndex (s : State) (segs : List Nat) : Nat :=
  match segs.findIdx? (· = s.rdN 0x4442 4) with
  | some i => i
  | none => (segs.length + 1) / 2 - 1

/-- R174: which output pixels a segment reaches, with index and phase. -/
def State.reach (s : State) (k : LineKind) (d w : Nat) (q : SegPlan) : SegPlan :=
  let us := (List.range w).map (fun (i : Nat) =>
    let x : Rat := (s.origin k : Rat) + (i : Rat) * inchPm / d
    let u0 := (x - q.x) / q.pitch
    u0 + q.a + q.b * u0)
  let inside := fun (u : Rat) => decide (-1 / 2 ≤ u) && decide (u ≤ (q.n : Rat) - 1 / 2)
  let i0 := (us.findIdx? inside).getD w
  let l := (us.drop i0).takeWhile inside
  { q with i0 := i0, at_ := l.map (fun u =>
      let v := (256 * ((u - ((q.m : Rat) - 1) / 2) / q.m) + 1 / 2).floor
      (v / 256, (v % 256).toNat)) }

/-- The plan of a line of a recipe. -/
def State.plans (s : State) (k : LineKind) (bytes : List Byte) : List SegPlan :=
  let d := rCd bytes
  let raw := (s.layout k).map (fun (g, x) =>
    let rho : Rat := (inchPm : Rat) / d / s.pitch g
    let m : Nat := if 2 ≤ rho then rho.floor.toNat else 1
    ({ seg := g, n := s.nPx g, x := x, pitch := s.pitch g, a := (s.buildOf g).1, b := (s.buildOf g).2, group := s.segGroup g,
       delay := vget s.rdg.delay (s.rowOf g), m := m, beta := max 1 (rho / m), i0 := 0, at_ := [] } : SegPlan))
  let i := s.refIndex (raw.map (·.seg))
  match raw[i]? with
  | none => []
  | some r =>
    let low := (s.outwardAll r (raw.take i).reverse).reverse
    let high := s.outwardAll r (raw.drop (i + 1))
    (low ++ r :: high).map (s.reach k d (s.widthAt k d))

/-! ## Cross direction (R174, R175) -/

/-- A value with its marks: poison, the channels that give each flag, whether it is interpolated, and the exposures used. -/
structure Cand where
  v : Nat
  poison : Bool
  warm : Nat
  beyond : Nat
  held : Nat
  unc : Nat
  interp : Bool
  used : List Nat
  deriving DecidableEq, Repr, Inhabited

/-- The marks of several values together, with a value of its own. -/
def joinMarks (v : Nat) (l : List Cand) : Cand :=
  { v := v, poison := l.any (·.poison), warm := l.foldl (fun m c => m ||| c.warm) 0, beyond := l.foldl (fun m c => m ||| c.beyond) 0,
    held := l.foldl (fun m c => m ||| c.held) 0, unc := l.foldl (fun m c => m ||| c.unc) 0, interp := l.any (·.interp),
    used := l.foldl (fun m c => union' m c.used) [] }
where
  /-- Members of both lists, each once. -/
  union' (a b : List Nat) : List Nat := a ++ b.filter (fun x => !a.contains x)

/-- R171: taps under their coefficients: the filtered value with the marks of taps whose coefficient is not 0. -/
def filtered (l : List (Int × Cand)) : Cand :=
  let l := l.filter (·.1 ≠ 0)
  let acc := (l.map (fun p => p.1 * (p.2.v : Int))).sum
  joinMarks (limit 0 65535 ((acc + 2 ^ 13) / 2 ^ 14)).toNat (l.map (·.2))

/-- R172, R174: the mean of a block. -/
def blockMean (l : List Cand) : Cand := joinMarks (((l.map (·.v)).sum + l.length / 2) / max 1 l.length) l

/-- The channel line of channel `ch` in exposure `e`, or in the exposure of its own group with the same line cycle and plane. -/
def State.lineIn (s : State) (e : Expo) (ch : Nat) : Option ChanLine :=
  let q := if s.groupOf ch = e.group then some e
    else s.rdg.expos.find? (fun f => f.group = s.groupOf ch && f.line = e.line && f.plane = e.plane)
  q.bind (fun f => f.lines.find? (·.ch = ch))

/-- R175: the native pixels of a segment in exposure `e` (place `idx`): `none` where not converted. -/
def State.natives (s : State) (idx : Nat) (e : Expo) (seg : Nat) : List (Option Cand) :=
  (s.taps seg).flatMap (fun ch =>
    match s.lineIn e ch with
    | none => List.replicate (s.activePx ch) none
    | some l => l.vals.mapIdx (fun i v =>
        let m := fun (b : Bool) => if b then 2 ^ ch else 0
        some { v := v, poison := l.poison.contains i, warm := m l.warming, beyond := m l.beyond, held := m l.held,
               unc := m l.uncorrected, interp := false, used := [idx] }))

/-- `k` blocks of `m` pixels; a block is converted when all its pixels are. -/
def blocks (m : Nat) : Nat → List (Option Cand) → List (Option Cand)
  | 0, _ => []
  | k + 1, l =>
    let b := l.take m
    (if b.all (·.isSome) then some (blockMean (b.filterMap id)) else none) :: blocks m k (l.drop m)

/-- R174: the candidate at index `k` with the coefficients of its phase; `none` where it is not covered. -/
def cdCand (px : Array (Option Cand)) (coef : List Int) (k : Int) : Option Cand :=
  let taps := coef.mapIdx (fun t h =>
    (h, px.getD (limit 0 ((px.size : Int) - 1) (k + (t : Int) - 3)).toNat none))
  let taps := taps.filter (·.1 ≠ 0)
  if taps.all (·.2.isSome) then some (filtered (taps.filterMap (fun p => p.2.map (fun c => (p.1, c))))) else none

/-- R174: the candidates of exposure `e` for every output pixel that the segment reaches. -/
def State.cdLine (s : State) (q : SegPlan) (coefs : Nat → List Int) (idx : Nat) (e : Expo) : List (Option Cand) :=
  let nat := s.natives idx e q.seg
  let px := (if q.m = 1 then nat else blocks q.m (cdiv nat.length q.m) nat).toArray
  q.at_.map (fun (k, f) => cdCand px (coefs f) k)

/-! ## Machine direction (R170 to R173) -/

/-- One usable exposure, or block of exposures, of a group and plane for one output pixel. -/
structure MdTap where
  place : Nat
  pos : Int
  cand : Cand

/-- R171: values alone or under the filter of a bracket: tap `k` and its neighbours, with end extension across gaps. -/
def bracketValue (mode : Nat) (us : Array MdTap) (k phase : Nat) (reachable : Int) : Cand :=
  let g := fun (i : Nat) => (us.getD i ⟨0, 0, default⟩)
  let near := fun (i j : Nat) => decide (j < us.size) && decide ((g j).pos - (g i).pos ≤ reachable)
  let before := if 0 < k && near (k - 1) k then k - 1 else k
  let after := if near k (k + 1) then k + 1 else k
  let after2 := if near after (after + 1) && after ≠ k then after + 1 else after
  filtered (List.zip (mdCoef mode phase) [(g before).cand, (g k).cand, (g after).cand, (g after2).cand])

/-- R170 to R173: one pixel of one segment and plane at position `p`: `none` undecided, `some none` uncovered.
`seq` lists the exposures (or blocks) in order: whether a trigger was dropped before it, and its usable candidate. -/
def mdPixel (mode : Nat) (gdn : Int) (closed reached : Bool) (p : Int) (seq : List (Bool × Option (Int × Cand))) : Option (Option Cand) :=
  let us := ((List.range seq.length).zip seq).filterMap (fun (i, (_, c)) => c.map (fun (x, v) => (⟨i, x, v⟩ : MdTap)))
  let below := us.filter (fun t => decide (t.pos ≤ p))
  let above := us.filter (fun t => decide (p < t.pos))
  let dropAt := fun (i : Nat) => ((seq.getD i (false, none)).1)
  match below.getLast?, above with
  | none, [] => if reached || closed then some none else none
  | none, f :: _ => some (some { f.cand with interp := f.cand.interp || dropAt f.place })
  | some k, [] =>
    if closed then some (if p - k.pos ≤ gdn then some k.cand else none)
    else if reached then some none else none
  | some k, n :: more =>
    let span := n.pos - k.pos
    if gdn < span then some none
    else if mode = 0 && more.isEmpty && !closed && !reached then none
    else
      let ph := ((512 * (p - k.pos) + span) / (2 * span)).toNat
      let at_ := below.length - 1
      let v := if ph = 256 then bracketValue mode us.toArray (at_ + 1) 0 gdn else bracketValue mode us.toArray at_ ph gdn
      let spanned := (List.range seq.length).any (fun i => decide (k.place < i ∧ i ≤ n.place) && (i ≠ n.place || dropAt i))
      some (some { v with interp := v.interp || spanned })

/-- R172: the exposures of a pixel as blocks of `m` line cycles counted from the anchor; the last block counts only once
it is complete. -/
def blockSeq (m cycle : Nat) (closed : Bool) (seq : List (Nat × Bool × Option (Int × Cand))) : List (Bool × Option (Int × Cand)) :=
  let num := fun (line : Nat) => (line + 2 ^ 32 - cycle) % 2 ^ 32 / m
  let last := (seq.getLast?.map (fun q => num q.1)).getD 0
  let nums := (seq.map (fun q => num q.1)).eraseDups.filter (fun b => closed || b ≠ last)
  nums.map (fun b =>
    let mine := seq.filter (fun q => num q.1 = b)
    let us := mine.filterMap (fun q => q.2.2)
    let n : Int := us.length
    (mine.any (fun q => q.2.1),
      if us.isEmpty then none else some ((2 * (us.map (·.1)).sum + n) / (2 * n), blockMean (us.map (·.2)))))

/-- What the resampler needs to know of a line. -/
structure LineCtx where
  grid : Grid
  /-- The cycle at which the next grid begins. -/
  next : Option Nat
  pos : Int
  /-- R188: at the exit, lines whose bracket exists are made with end extension. -/
  force : Bool

/-- The exposures of a group and plane of the line's recipe, with their places. -/
def State.sequence (s : State) (c : LineCtx) (group plane : Nat) : List (Nat × Expo) :=
  ((List.range s.rdg.expos.length).zip s.rdg.expos).filter (fun (_, e) =>
    e.group = group && e.plane = plane && !e.discarded && e.pos.isSome && lineAtOrAfter e.line c.grid.cycle &&
      (match c.next with | some n => !lineAtOrAfter e.line n | none => true))

/-- R173: a trigger was dropped before this exposure, as its own record or, in line unit, its plane-0 record says. -/
def State.dropBefore (s : State) (e : Expo) : Bool :=
  e.drop || (s.rd 0x2050 2 = 0 && s.rdg.expos.any (fun f => f.group = e.group && f.line = e.line && f.plane = 0 && f.drop))

/-- R173: exposures of a group have reached a position. -/
def State.hasReached (s : State) (group : Nat) (delay p : Int) : Bool :=
  s.rdg.expos.any (fun e => e.group = group && (match e.pos with | some x => decide (p ≤ x + delay) | none => false))

/-- R157, R171: a group has exposures of the next recipe, so none of the line's recipe follows. -/
def State.groupClosed (s : State) (c : LineCtx) (group : Nat) : Bool :=
  match c.next with
  | none => false
  | some n => s.rdg.expos.any (fun e => e.group = group && e.pos.isSome && lineAtOrAfter e.line n)

/-- R170 to R173: a segment's values of one plane at the line's position, for each pixel it reaches. -/
def State.mdLine (s : State) (c : LineCtx) (q : SegPlan) (coefs : Nat → List Int) (plane : Nat) : List (Option (Option Cand)) :=
  let seq := s.sequence c q.group plane
  let dn := s.nominal c.grid.bytes
  let m := s.preAverage c.grid.bytes
  let mode := s.rdN 0x4441 1
  let gdn : Int := s.rd 0x4441 7 * (dn * m : Nat)
  let closed := c.force || s.groupClosed c q.group
  let reached := c.force || s.hasReached q.group q.delay (c.pos + gdn)
  let cols := seq.map (fun (i, e) => (e.line, s.dropBefore e, e.pos.getD 0 + q.delay, (s.cdLine q coefs i e).toArray))
  (List.range q.at_.length).map (fun x =>
    let l := cols.map (fun (line, drop, p, cs) => (line, drop, (cs.getD x none).map (fun v => (p, v))))
    let l := if m = 1 then l.map (fun (_, drop, v) => (drop, v)) else blockSeq m c.grid.cycle closed l
    mdPixel mode gdn closed reached c.pos l)

/-- R188: at the exit a line is made only where every segment and plane has a bracket. -/
def State.bracketed (s : State) (c : LineCtx) (ps : List SegPlan) : Bool :=
  ps.all (fun q => (List.range (rP c.grid.bytes)).all (fun p =>
    let l := (s.sequence c q.group p).map (fun (_, e) => e.pos.getD 0 + q.delay)
    l.any (fun x => decide (x ≤ c.pos)) && l.any (fun x => decide (c.pos < x))))

/-! ## Seams and fill (R176, R183) -/

/-- R176: the weight of the upper segment at position `x`. -/
def State.seamWeight (s : State) (a b : SegPlan) (x : Rat) : Nat :=
  let o := s.overlap a.seg b.seg
  let w := s.rdN (0x4420 + a.seg) 6
  let width : Rat := ((if w = 0 then o else min w o : Nat) : Rat) * a.pitch
  let c := s.overlapCentre a b
  if width = 0 then (if x < c then 0 else 256)
  else
    let z := (x - (c - width / 2)) / width
    if z < 0 then 0
    else if 1 < z then 256
    else match s.rdN (0x4420 + a.seg) 5 with
      | 0 => if z < 1 / 2 then 0 else 256
      | 1 => (half (256 * z)).toNat
      | 2 => (half (128 * (1 - (cosPi z : Rat) / one80))).toNat
      | _ =>
        let k := min 30 (31 * z).floor.toNat
        let t := fun (i : Nat) => (s.rd 0x4445 (i + 1) : Rat)
        (half (t k + (t (k + 1) - t k) * (31 * z - k))).toNat

/-- R176: two candidates of an overlap pixel. -/
def blendPair (w : Nat) : Option Cand → Option Cand → Option Cand
  | none, none => none
  | some a, none => some a
  | none, some b => some b
  | some a, some b =>
    some (joinMarks ((a.v * (256 - w) + b.v * w + 128) / 256) ((if w < 256 then [a] else []) ++ (if 0 < w then [b] else [])))

/-- One value of an output line. -/
structure OutPix where
  c : Cand
  filled : Bool
  deriving DecidableEq, Repr, Inhabited

/-- For each place the nearest value at or before it, with its place. -/
def nearestBefore : Nat → Option (Nat × Nat) → List (Option Nat) → List (Option (Nat × Nat))
  | _, _, [] => []
  | i, last, v :: r =>
    let last := match v with | some x => some (i, x) | none => last
    last :: nearestBefore (i + 1) last r

/-- R183: neighbour extension: the nearest value, the lower-numbered of two. -/
def extended (vs : List (Option Nat)) : List Nat :=
  let n := vs.length
  let left := nearestBefore 0 none vs
  let right := (nearestBefore 0 none vs.reverse).reverse
  (List.range n).map (fun i =>
    match left.getD i none, right.getD i none with
    | some (a, x), some (b, y) => if i - a ≤ (n - 1 - b) - i then x else y
    | some (_, x), none => x
    | none, some (_, y) => y
    | none, none => 0)

/-- R183: a plane's pixels after fill. -/
def State.fill (s : State) (plane : Nat) (px : List (Option Cand)) : List OutPix :=
  let pol := s.rdN 0x4444 1
  let ext := if pol = 0 then extended (px.map (Option.map (·.v))) else []
  px.mapIdx (fun i c => match c with
    | some c => ⟨c, false⟩
    | none =>
      let v := if pol = 0 then ext.getD i 0 else if pol = 1 then s.rdN 0x4444 (2 + plane) else s.rdN 0x4000 0xC
      ⟨{ (default : Cand) with v := v }, true⟩)

/-! ## The output line (R173, R176 to R184, R278, R488) -/

/-- R184, R278, R279: an output line. -/
structure OutLine where
  num : Nat
  /-- In 2^-24 count. -/
  pos : Int
  /-- R277: in 1/256 line. -/
  linePos : Int
  time : Nat
  recipe : Nat
  bytes : List Byte
  job : Nat
  compat : Bool
  width : Nat
  planes : List (List OutPix)
  /-- R157: the switch whose first line this is. -/
  first : Option Switched
  maxLate : Nat
  drops : Nat
  under : Nat
  declared : Bool
  late : Bool
  deriving DecidableEq, Repr, Inhabited

/-- R180: the two candidates of each overlap pixel of a seam, by its lower segment. -/
structure SeamData where
  seam : Nat
  up : Bool
  ratio : Rat
  pairs : List (Option Cand × Option Cand)

/-- What the attempt to make a line gives. -/
inductive LineResult
  | undecided
  /-- R188: a candidate of a cluster in a forced trim stays undecided beyond G. -/
  | omitted
  | made (line : OutLine) (seams : List SeamData) (gap : Bool)

/-- R488: the time at which the position last rose to `p`: from edges, newest first; `newer` is the edge after the list's. -/
def roseAt (stop : Nat) (p : Int) : Option (Nat × Int) → List (Nat × Int) → Option Nat
  | _, [] => none
  | newer, (t, n) :: r =>
    match newer with
    | some (t1, n1) =>
      if n < p ∧ p ≤ n1 then
        some (if t1 - t ≤ stop then t + ((2 * (p - n) * ((t1 : Int) - t) + (n1 - n)) / (2 * (n1 - n))).toNat else t1)
      else roseAt stop p (some (t, n)) r
    | none => roseAt stop p (some (t, n)) r

/-- R488: the line time; the present where the motion so far never rose to it. -/
def State.lineTime (s : State) (p : Int) : Nat :=
  match s.trn.edges with
  | [] => s.fine
  | e :: r =>
    match roseAt s.tStop p none (e :: r ++ [(0, 0)]) with
    | some t => t
    | none => s.fine

/-- R277: a position in 1/256 line. -/
def linePos (p : Int) (pitch : Nat) : Int := (2 * 256 * p + pitch) / (2 * (max 1 pitch : Nat))

/-- The two candidates of the pixels both segments of a seam reach. -/
def overlapPairs (a b : SegPlan) (va vb : List (Option Cand)) : List (Option Cand × Option Cand) :=
  let lo := max a.i0 b.i0
  let hi := min (a.i0 + va.length) (b.i0 + vb.length)
  (List.range (hi - lo)).map (fun i => (va.getD (lo + i - a.i0) none, vb.getD (lo + i - b.i0) none))

/-- R170 to R184: the attempt to make line `j` of a kind. -/
def State.tryLine (s : State) (k : LineKind) (c : LineCtx) (j : Nat) : LineResult :=
  let bytes := c.grid.bytes
  let ps := s.plans k bytes
  let w := s.widthAt k (rCd bytes)
  if c.force && !s.bracketed c ps then .undecided
  else
    let coefOf := ps.map (fun q =>
      let phases := (q.at_.map (·.2)).eraseDups
      let l := phases.map (fun f => (f, cdCoef q.beta f))
      fun (f : Nat) => ((l.find? (·.1 = f)).map (·.2)).getD [])
    let planes := (List.range (rP bytes)).map (fun p => (ps.zip coefOf).map (fun (q, cf) => s.mdLine c q cf p))
    let bare := planes.any (fun l => l.any (fun r => r.any (·.isNone)))
    let t := s.lineTime c.pos
    let away := fun (q : SegPlan) => (s.taps q.seg).any (fun ch => s.trimOmits (ch / 8) t)
    let uncovered := fun (r : List (Option (Option Cand))) => r.any (fun v => v = some none)
    if bare then .undecided
    else if planes.any (fun l => (ps.zip l).any (fun (q, r) => away q && uncovered r)) then .omitted
    else
      let gap := planes.any (fun l => l.any uncovered)
      let flat := planes.map (fun l => l.map (fun r => r.map (fun v => v.getD none)))
      let out := (List.range (rP bytes)).map (fun p =>
        let rows := ps.zip ((flat.getD p []).map List.toArray)
        let px := (List.range w).map (fun (i : Nat) =>
          let here := rows.filter (fun (q, r) => decide (q.i0 ≤ i) && decide (i < q.i0 + r.size))
          let get := fun (q : SegPlan) (r : Array (Option Cand)) => r.getD (i - q.i0) none
          match here with
          | [] => none
          | [(q, r)] => get q r
          | (q, r) :: (q', r') :: _ =>
            blendPair (s.seamWeight q q' ((s.origin k : Rat) + (i : Rat) * inchPm / rCd bytes)) (get q r) (get q' r'))
        s.fill p px)
      let usedIn := fun (p : Nat) => ((out.getD p []).foldl (fun m x => joinMarks.union' m x.c.used) [])
      let used := (List.range (rP bytes)).foldl (fun m p => joinMarks.union' m (usedIn p)) []
      let es := used.filterMap (fun i => s.rdg.expos[i]?)
      let under := (List.range (rP bytes)).foldl (fun m p =>
        setBit m p ((usedIn p).any (fun i => (s.rdg.expos.getD i default).under))) 0
      let line : OutLine := {
        num := j, pos := c.pos, linePos := linePos c.pos c.grid.pitch, time := s.lineTime c.pos, recipe := c.grid.recipe,
        bytes := bytes, job := c.grid.job, compat := k = .compat, width := w, planes := out,
        first := if j = c.grid.first then c.grid.switch_ else none,
        maxLate := (es.map (·.lateness)).foldl max 0, drops := min 65535 (es.filter (·.drop)).length, under := under,
        declared := es.any (·.declared), late := es.any (·.late) }
      let ref := s.refIndex (ps.map (·.seg))
      let seams := ((List.range (ps.length - 1)).zip (ps.zip (ps.drop 1))).map (fun (i, (a, b)) =>
        let par := (vget s.rdg.seams a.seg).par
        let want := if (vget s.rdg.seams a.seg).lines = 0 then s.rdN (0x4420 + a.seg) 8 else par.plane
        let p := min want (rP bytes - 1)
        let up := decide (ref ≤ i)
        let outer := if up then b else a
        ({ seam := a.seg, up := up, ratio := (inchPm : Rat) / rCd bytes / outer.pitch,
           pairs := overlapPairs a b ((flat.getD p []).getD i []) ((flat.getD p []).getD (i + 1) []) } : SeamData))
      .made line seams gap

/-! ## Entry (R163, R166, R169, R185) -/

/-- R163, R166, R185: the clamps made at entry to Scanning; stored values stay. -/
def State.geometryClamps (s : State) : State :=
  let u := s.usedSegments
  let s := s.eachOf (u.zip (u.drop 1)) (fun (g, h) s =>
    let o := s.overlap g h
    let s := if s.rdN (0x4400 + g) 0xA ≠ o then s.ownClamp (0x4400 + g) 0xA 4 (s.rd (0x4400 + g) 0xA) o else s
    if o < s.rdN (0x4420 + g) 6 then s.ownClamp (0x4420 + g) 6 4 (s.rd (0x4420 + g) 6) o else s)
  s.each 4 (fun r s =>
    if s.rowsUsed.contains r && decide (512 < s.depthOf (s.rawDelay r)) then
      s.ownClamp 0x4440 (r + 1) 4 (s.rowZ r) (s.zMax - s.zReach)
    else s)

/-- R163, R166, R169, R223: Ridgeline and the line queues at entry to Scanning. -/
def State.ridgeEntry (s : State) : State :=
  let s := s.geometryClamps
  let s := s.each 4 (fun r s => s.wr 0x4440 (5 + r) (if s.rowsUsed.contains r then s.depthOf (s.rowDelay r) else 0))
  let b := s.recipe s.activeRecipe
  let g : Grid := {
    recipe := s.activeRecipe, bytes := b, job := s.rdN 0x4210 2, cycle := 0, anchor := none, first := 0,
    pitch := s.cLine (rMd b), switch_ := none }
  let delay := Vector.ofFn (fun (r : Fin 4) => s.rowDelay r)
  let seams := Vector.ofFn (fun (i : Fin 32) => { vget s.rdg.seams i with lines := 0, freeze := none, frozen := false })
  let s := { s with rdg := { (default : RidgeSt) with grids := [g], seams := seams, delay := delay } }
  let s := { s with que := { s.que with lines := default } }
  s.showGrid

end Sys2Proof.Machine
end

