-- ==== Sys2Proof/Machine/Guyline.lean ====
section
/-!
DEFINITION. The guy-line at the seams (R178, R180 to R182, R187): windows, targets, applied values and freezing.
-/
namespace Sys2Proof.Machine

/-- Change seam `i`. -/
def State.updSeam (s : State) (i : Nat) (f : Seam → Seam) : State :=
  { s with rdg := { s.rdg with seams := vupd s.rdg.seams i f } }

/-- Seam `i`. -/
def State.seam (s : State) (i : Nat) : Seam := vget s.rdg.seams i

/-- R182: seam `i` is frozen now. -/
def State.seamFrozen (s : State) (i : Nat) : Bool :=
  s.rd 0x4443 1 = 2 || (match (s.seam i).freeze with | some f => decide (s.rdg.count < f) | none => false)

/-! ## A line of a window (R180) -/

/-- R180: the sums of one line at lag `l`, from the first differences of the inner and the outer candidates. -/
def corrAt (inner outer : List Int) (l : Int) : Corr :=
  let n := inner.length
  let ks := (List.range n).filter (fun (k : Nat) => decide (0 ≤ (k : Int) + l) && decide ((k : Int) + l < n))
  let a := fun (k : Nat) => inner.getD k 0
  let b := fun (k : Nat) => outer.getD ((k : Int) + l).toNat 0
  ⟨(ks.map (fun k => a k * b k)).sum, (ks.map (fun k => a k * a k)).sum, (ks.map (fun k => b k * b k)).sum⟩

/-- The lags −L to +L. -/
def lags (n : Nat) : List Int := (List.range (2 * n + 1)).map (fun (i : Nat) => (i : Int) - n)

/-- First differences. -/
def diffs (l : List Nat) : List Int := List.zipWith (fun (a b : Nat) => (b : Int) - a) l (l.drop 1)

/-- Sums grow. -/
def addCorr (a b : List Corr) : List Corr :=
  List.zipWith (fun p q => ⟨p.ab + q.ab, p.aa + q.aa, p.bb + q.bb⟩) a b

/-- R180, 2: a line is used where every pixel is covered, unpoisoned and not warming. -/
def cleanPair : Option Cand × Option Cand → Option (Nat × Nat)
  | (some a, some b) => if a.poison || b.poison || a.warm ≠ 0 || b.warm ≠ 0 then none else some (a.v, b.v)
  | _ => none

/-- R180: the parameters of a window of seam `i` that starts now. -/
def State.seamPar (s : State) (i : Nat) : SeamPar :=
  ⟨s.rdN 0x4443 2, s.rdN 0x4443 3, s.rdN 0x4443 4, s.rdN 0x4443 5, s.rdN 0x4443 6, s.rdN (0x4420 + i) 8⟩

/-- R180, R182: one line joins seam `d.seam`'s window, or starts one. -/
def State.windowLine (s : State) (d : SeamData) (overlap : Nat) : State :=
  let q := s.seam d.seam
  let frozen := s.seamFrozen d.seam
  let may := s.rd 0x4443 1 = 1 && s.rd (0x4420 + d.seam) 7 = 1 && decide (32 ≤ overlap) && !frozen
  if q.lines = 0 && !may then s
  else
    let q := if q.lines = 0 then
        let par := s.seamPar d.seam
        let z := (lags par.lag).map (fun _ => (⟨0, 0, 0⟩ : Corr))
        { q with par := par, used := 0, frozen := false, sumShift := 0, sumStretch := 0, near := z, far := z, width := d.pairs.length }
      else q
    let vals := d.pairs.map cleanPair
    let use := !frozen && vals.all (·.isSome)
    let vs := vals.filterMap id
    let q := { q with
      lines := q.lines + 1, frozen := q.frozen || frozen, sumShift := q.sumShift + q.shiftA, sumStretch := q.sumStretch + q.stretchA }
    let q := if !use then q
      else
        let half := vs.length / 2
        let inner := fun (l : List (Nat × Nat)) => diffs (l.map (fun p => if d.up then p.1 else p.2))
        let outer := fun (l : List (Nat × Nat)) => diffs (l.map (fun p => if d.up then p.2 else p.1))
        let lo := vs.take half
        let hi := vs.drop half
        let near := if d.up then lo else hi
        let far := if d.up then hi else lo
        { q with
          used := q.used + 1
          near := addCorr q.near ((lags q.par.lag).map (corrAt (inner near) (outer near)))
          far := addCorr q.far ((lags q.par.lag).map (corrAt (inner far) (outer far))) }
    s.updSeam d.seam (fun _ => q)

/-! ## The end of a window (R180, R181) -/

/-- R180: a normalised correlation in 2^-30. -/
def Corr.ratio (c : Corr) : Int :=
  if c.aa * c.bb ≤ 0 then 0
  else
    let r : Int := isqrt (c.ab * c.ab * 2 ^ 60 / (c.aa * c.bb)).toNat
    if c.ab < 0 then -r else r

/-- R180: the peak in 1/256 and its lag in 1/256 output pixel, refined by a parabola. -/
def peakOf (l : List Corr) : Int × Int :=
  let rs := l.map Corr.ratio
  let top := rs.foldl max (rs.headD 0)
  let i := (rs.findIdx? (· = top)).getD 0
  let n : Int := (l.length / 2 : Nat)
  let off : Int :=
    if 0 < i ∧ i + 1 < rs.length then
      let a := rs.getD (i - 1) 0
      let b := rs.getD (i + 1) 0
      let den := 2 * (a - 2 * top + b)
      if den = 0 then 0 else half (256 * ((a - b : Int) : Rat) / den)
    else 0
  (limit 0 256 (top * 256 / 2 ^ 30), ((i : Int) - n) * 256 + off)

/-- R181: a target after an update, and whether the limit clamped it. -/
def seamTarget (old mean r : Int) (g lim : Nat) : Int × Bool :=
  let v := old + ((mean + r) - old) / 2 ^ g
  (limit (-lim) lim v, decide (v < -(lim : Int) ∨ (lim : Int) < v))

/-- R181, R187: seam `i`'s window ends with a result; `cut` by a switch or an exit; `ratio` is π_out in outer pixels. -/
def State.windowEnd (s : State) (i : Nat) (ratio : Rat) (cut : Bool) : State :=
  let q := s.seam i
  let n := peakOf q.near
  let f := peakOf q.far
  let peak := min n.1 f.1
  let few := decide (q.used < 512)
  let low := !few && decide (peak < q.par.threshold)
  let update := !cut && !few && !low
  let r := half (((n.2 + f.2 : Int) : Rat) / 2 * ratio)
  let st := if q.width = 0 then 0 else half (((f.2 - n.2 : Int) : Rat) * 2 ^ 17 / q.width)
  let meanOf := fun (v : Int) => rdiv v q.lines
  let a := seamTarget q.shiftT (meanOf q.sumShift) r q.par.gain q.par.shiftLimit
  let b := seamTarget q.stretchT (meanOf q.sumStretch) st q.par.gain q.par.stretchLimit
  let limited := update && (a.2 || b.2)
  let q' := { q with
    lines := 0, lowTold := if cut || few then q.lowTold else low
    shiftT := if update then a.1 else q.shiftT, stretchT := if update then b.1 else q.stretchT }
  let flags := 16 * b2n cut + 8 * b2n q.frozen + 4 * b2n (low && !cut) + 2 * b2n limited + b2n few
  let s := s.updSeam i (fun _ => q')
  let s := (s.raiseIf (!cut && low && !q.lowTold) 855 0).raiseIf limited 854 0
  s.publish (0x4460 + i) flags [q'.shiftT, q'.stretchT, q'.shiftA, q'.stretchA, peak, q.used]

/-- π_out in pixels of the outer segment of seam `i` under a recipe. -/
def State.seamRatio (s : State) (i : Nat) (bytes : List Byte) : Rat :=
  let kind : LineKind := if s.compatMode && (s.taps i).any (fun c => c < 16) then .compat else .native
  let u := s.lineSegs kind
  let outer := match u.findIdx? (· = i) with
    | some j => if s.refIndex u ≤ j then u.getD (j + 1) i else i
    | none => i
  (inchPm : Rat) / rCd bytes / s.pitch outer

/-- The recipe of the grid in force. -/
def State.gridBytes (s : State) : List Byte := (s.rdg.grids.headD default).bytes

/-- R181: windows of 1,024 lines end. -/
def State.settleWindows (s : State) : State :=
  s.each 31 (fun i s => if 1024 ≤ (s.seam i).lines then s.windowEnd i (s.seamRatio i s.gridBytes) false else s)

/-- R181: every running window ends early. -/
def State.cutWindows (s : State) : State :=
  s.each 31 (fun i s => if (s.seam i).lines ≠ 0 then s.windowEnd i (s.seamRatio i s.gridBytes) true else s)

/-- GUYLINE_WINDOW_END (R181). -/
def execGuylineWindowEnd (dt : Nat) (s : State) : Host.Outcome State Fault Refusal :=
  event dt s (fun _ => true) State.settleWindows

/-! ## Applied values (R182) -/

/-- A step of at most `k` toward a target. -/
def stepTo (v target : Int) (k : Nat) : Int := if v < target then min target (v + k) else max target (v - k)

/-- R182: one step of one seam whose outer segment has `n` native pixels. -/
def Seam.step (q : Seam) (n : Nat) : Seam :=
  if q.shiftA ≠ q.shiftT ∧ (q.stretchA = q.stretchT ∨ q.lastStretch) then
    { q with shiftA := stepTo q.shiftA q.shiftT 1, lastStretch := false }
  else if q.stretchA ≠ q.stretchT then
    { q with stretchA := stepTo q.stretchA q.stretchT (nearest 65536 (max 1 n)), lastStretch := true }
  else q

/-- The outer segment of seam `i`. -/
def State.outerOf (s : State) (i : Nat) : Nat :=
  let kind : LineKind := if s.compatMode && (s.taps i).any (fun c => c < 16) then .compat else .native
  let u := s.lineSegs kind
  match u.findIdx? (· = i) with
  | some j => if s.refIndex u ≤ j then u.getD (j + 1) i else i
  | none => i

/-- R182: every seam that is not frozen moves one step, when 64 lines have been made since the last step. -/
def State.settleSlew (s : State) : State :=
  if s.rdg.count < s.rdg.slewed + 64 then s
  else
    let s := { s with rdg := { s.rdg with slewed := s.rdg.slewed + 64 } }
    if s.rd 0x4443 1 = 0 then s
    else s.eachOf s.usedSegments (fun i s =>
      if s.seamFrozen i then s else s.updSeam i (fun q => q.step (s.nPx (s.outerOf i))))

/-- GUYLINE_SLEW_STEP (R182). -/
def execGuylineSlewStep (dt : Nat) (s : State) : Host.Outcome State Fault Refusal :=
  event dt s (fun _ => true) State.settleSlew

/-- SEAM_FREEZE_END (R182): freezes that 1,024 lines have passed are lifted. -/
def execSeamFreezeEnd (dt : Nat) (s : State) : Host.Outcome State Fault Refusal :=
  event dt s (fun _ => true) (fun s => s.each 32 (fun i s =>
    match (s.seam i).freeze with
    | some f => if f ≤ s.rdg.count then s.updSeam i (fun q => { q with freeze := none }) else s
    | none => s))

/-- R182: the reset command: targets to 0, in Standby the applied values too. -/
def opResetEstimates : Op := fun _ s =>
  (s.each 32 (fun i s => s.updSeam i (fun q =>
    let q := { q with shiftT := 0, stretchT := 0 }
    if s.dev.st = .standby then { q with shiftA := 0, stretchA := 0 } else q)), 0)

/-- RESET_ESTIMATES (R182): a write of 1 to 0x4443:07. -/
def execResetEstimates (dt : Nat) (m : Fin 17) (s : State) : Host.Outcome State Fault Refusal :=
  hostCommand dt m 0x4443 7 1 opResetEstimates s

/-! ## One line made (R173, R184, R186) -/

/-- R184: an output line carries a flag. -/
def OutLine.any (l : OutLine) (p : OutPix → Bool) : Bool := l.planes.any (fun q => q.any p)

/-- A line that has been made is counted, its windows fed, its gap reported. -/
def State.lineMade (s : State) (l : OutLine) (seams : List SeamData) (gap : Bool) : State :=
  let s := s.bump 0x4441 8
  let s := if l.any (fun x => x.c.interp && !x.filled) then s.bump 0x4441 5 else s
  let s := if l.any (·.filled) then s.bump 0x4441 6 else s
  let s := s.raiseIf (gap && !s.rdg.gapped) 856 0
  let s := { s with rdg := { s.rdg with gapped := gap } }
  s.eachOf seams (fun d s =>
    let u := s.lineSegs (if l.compat then .compat else .native)
    let nxt := match u.findIdx? (· = d.seam) with | some j => u.getD (j + 1) d.seam | none => d.seam
    s.windowLine d (s.overlap d.seam nxt))

/-- Everything due before a line can be made: positions, switches, anchors, the grid in force; windows, steps. -/
def State.ridgeReady (s : State) (bad : List (Nat × Nat)) : State :=
  let s := (((s.readQueues bad).absorbSwitches.finaliseAll.anchorGrids).settleWindows).settleSlew
  let was := s.rdg.grids.length
  let t := s.advanceGrid
  if t.rdg.grids.length < was then { s.cutWindows with rdg := { s.cutWindows.rdg with grids := t.rdg.grids, expos := t.rdg.expos } } else s

/-- The lines of the next line number, native and compatibility: none while undecided. An omitted line (R188) gives no line. -/
def State.ridgeLine (s : State) (force : Bool) : Option (State × List OutLine) :=
  match s.rdg.grids with
  | [] => none
  | g :: r =>
    if g.anchor.isNone then none
    else
      let j := s.rdg.next
      let c : LineCtx := ⟨g, r.head?.map (·.cycle), g.at_ j, force⟩
      let kinds : List LineKind := (if (s.lineSegs .native).isEmpty then [] else [.native]) ++ (if s.compatMode then [.compat] else [])
      let rs := kinds.map (fun k => s.tryLine k c j)
      if rs.isEmpty || rs.any (fun r => match r with | .undecided => true | _ => false) then none
      else
        let s := { s with rdg := { s.rdg with next := (j + 1) % 2 ^ 32, count := s.rdg.count + 1 } }
        if rs.any (fun r => match r with | .omitted => true | _ => false) then
          let o := match s.rdg.omitted with | some (a, n) => some (a, n + 1) | none => some (j, 1)
          some ({ s.raiseIf s.rdg.omitted.isNone 857 0 with rdg := { s.rdg with omitted := o } }, [])
        else
          some (rs.foldl (fun (acc : State × List OutLine) r =>
            match r with
            | .made l d gap => (acc.1.lineMade l d gap, acc.2 ++ [l])
            | _ => acc) (s, []))

end Sys2Proof.Machine
end

