-- ==== Sys2Proof/Machine/RingMem.lean ====
section
/-!
DEFINITION. Ring memory (R253, R254, R261): the block's one addressed memory, 1 MiB, as a list of offsets and bytes in one
canonical form: offsets rising, no zero byte listed. An unlisted byte reads as 0.
-/
namespace Sys2Proof.Machine

/-- The size of ring memory. -/
def ringSize : Nat := 0x100000

/-- A byte of ring memory; unlisted bytes read as 0. -/
def Memory.get : List Host.Cell → Nat → Byte
  | [], _ => 0
  | (a, b) :: r, k => if a = k then b else Memory.get r k

/-- A byte listed. -/
def Memory.put : List Host.Cell → Nat → Byte → List Host.Cell
  | [], k, v => [(k, v)]
  | (a, b) :: r, k, v =>
    if a < k then (a, b) :: Memory.put r k v
    else if a = k then (k, v) :: r
    else (k, v) :: (a, b) :: r

/-- A byte no longer listed. -/
def Memory.del : List Host.Cell → Nat → List Host.Cell
  | [], _ => []
  | (a, b) :: r, k => if a = k then Memory.del r k else (a, b) :: Memory.del r k

/-- A byte written: the form stays canonical. -/
def Memory.set (m : List Host.Cell) (k : Nat) (v : Byte) : List Host.Cell := if v = 0 then Memory.del m k else Memory.put m k v

/-- Bytes written from offset `k` on. -/
def Memory.setAll : List Host.Cell → Nat → List Byte → List Host.Cell
  | m, _, [] => m
  | m, k, b :: r => Memory.setAll (Memory.set m k b) (k + 1) r

/-- `n` bytes from offset `k`. -/
def Memory.bytes (m : List Host.Cell) (k n : Nat) : List Byte := (List.range n).map (fun i => Memory.get m (k + i))

/-- The canonical form: offsets rising, all above `lo`, below the size, no zero byte. -/
def Memory.formed : List Host.Cell → Option Nat → Bool
  | [], _ => true
  | (a, b) :: r, lo =>
    (match lo with | none => true | some l => decide (l < a)) && decide (a < ringSize) && decide (b ≠ 0) && Memory.formed r (some a)

/-- The canonical form of a whole memory. -/
def Memory.wf (m : List Host.Cell) : Bool := Memory.formed m none

/-- A 32-bit word of ring memory. -/
def State.ringWord (s : State) (o : Nat) : Nat := unle (Memory.bytes s.dma.ringMem o 4)

/-- Bytes written into ring memory; what lies beyond its end is not there. -/
def State.ringStore (s : State) (o : Nat) (bs : List Byte) : State :=
  { s with dma := { s.dma with ringMem := Memory.setAll s.dma.ringMem o (bs.take (ringSize - o)) } }

/-- A 32-bit word written into ring memory. -/
def State.ringPut (s : State) (o w : Nat) : State := s.ringStore o (le 4 w)

/-- R253: ring `r` of engine `k` begins here. -/
def ringBase (k r : Nat) : Nat := k * 0x20000 + r * 0x8000

/-- R253: an offset lies in a ring-0 area. -/
def inRing0 (o : Nat) : Bool := decide (o % 0x20000 < 0x8000)

/-- R253, R254: word `w` of descriptor `i`. -/
def descAddr (k r i w : Nat) : Nat := ringBase k r + i * 0x20 + 4 * w

/-- The eight words of descriptor `i`. -/
def State.descWords (s : State) (k r i : Nat) : List Nat := (List.range 8).map (fun w => s.ringWord (descAddr k r i w))

/-- R261, R253: a word written by CoaXPress at a ring-memory offset; ring 0 is read-only, code 3. -/
def opRing (o : Nat) : Op := fun v s => if inRing0 o then (s, 3) else (s.ringPut o v.toNat, 0)

/-- R51, R39: a control access that is not an entry's: its outcome, recorded without index. -/
def State.ringWrite (s : State) (n o w : Nat) : State :=
  if !s.masterPresent (n + 1) then s
  else if !s.dev.ready then s.answer (n + 1) 0x5430 0 7
  else
    let r := opRing o w s
    r.1.answer (n + 1) 0x5430 0 r.2

/-- RING_MEMORY_WRITE (R261): a host writes one 32-bit word at a ring-memory address over link `n`; code 2 where the address
lies outside ring memory or is unaligned (R51). -/
def execRingMemoryWrite (dt : Nat) (n : Fin 16) (addr : Nat) (w : BitVec 32) (s : State) : Host.Outcome State Fault Refusal :=
  let s := s.pass dt
  ok (match addressed addr with
    | .ring o => s.ringWrite n o w.toNat
    | _ => if s.masterPresent (n + 1) then s.answer (n + 1) 0 0 2 else s)

end Sys2Proof.Machine
end

