-- ==== Sys2Proof/Machine/Packets.lean ====
section
/-!
DEFINITION. What the engines write (R247 to R252, R277 to R281): portions and pieces, packing and forms, statistics, the line
packet and the marker.
-/
namespace Sys2Proof.Machine

/-! ## Descriptors (R254) -/

/-- A descriptor's fields. -/
structure Desc where
  own : Bool
  last : Bool
  irq : Bool
  stream : Nat
  cls : Nat
  form : Nat
  pack : Nat
  bin : Nat
  mask : Nat
  count : Nat
  start : Nat
  first : Nat
  step : Nat
  width : Nat
  deriving DecidableEq, Repr, Inhabited

/-- R254: a descriptor read from its eight words, word 0 first. -/
def descOf (w : List Nat) : Desc :=
  let g := fun (i : Nat) => w.getD i 0
  { own := bit (g 7) 31, last := bit (g 7) 30, irq := bit (g 7) 29, stream := field (g 7) 23 16, cls := field (g 7) 15 14,
    form := field (g 7) 13 12, pack := field (g 7) 11 10, bin := field (g 7) 9 8, mask := field (g 7) 7 4, count := g 6,
    start := g 5, first := field (g 4) 31 12, step := field (g 4) 11 4 + 1, width := field (g 3) 31 11 }

/-- R255, code 3: a field out of range. -/
def descBad (w : List Nat) : Bool :=
  let d := descOf w
  let g := fun (i : Nat) => w.getD i 0
  field (g 7) 28 24 ≠ 0 || field (g 7) 3 0 ≠ 0 || field (g 4) 3 0 ≠ 0 || field (g 3) 10 0 ≠ 0 || d.cls < 2 ||
    d.stream = 0 || 31 ≤ d.stream || d.mask = 0 || (d.cls = 2 && d.form = 3) || d.first % 8 ≠ 0 || d.width % 8 ≠ 0 ||
    d.width < 8 || 1048576 < d.first + d.width

/-! ## Portions and pieces (R247) -/

/-- R247: the clusters that carry a line. -/
def State.carriers (s : State) (compat : Bool) : List Nat :=
  (List.range 8).filter (fun k => bit s.dev.running k && (!s.compatMode || (if compat then k < 2 else 2 ≤ k)))

/-- R247: the bounds of the j-th of `n` portions of a line of width `w`. -/
def portion (w n j : Nat) : Nat × Nat :=
  let b := fun (i : Nat) => if n ≤ i then w else 8 * (i * w / (8 * n))
  (b j, b (j + 1))

/-- R247: the pixels of one piece of `n` pixels at `bits` bits for each `bin` pixels in a packet: a multiple of 8, in as few
pieces as keep each at or below 131,072 bytes. -/
def pieceLen (n bits bin : Nat) : Nat :=
  let most := max 8 (131072 * 8 * bin / max 1 bits / 8 * 8)
  let count := cdiv n most
  8 * cdiv (cdiv n 8) (max 1 count)

/-- Offsets and lengths of the pieces of `n` pixels. -/
def pieces (n len : Nat) : List (Nat × Nat) :=
  (List.range (cdiv n (max 1 len))).map (fun i => (i * len, min len (n - i * len)))

/-! ## Values (R249 to R252) -/

/-- A value as the engine handles it, with the marks of the pixels it comes from. -/
structure Val where
  v : Nat
  c : Cand
  filled : Bool
  deriving DecidableEq, Repr, Inhabited

/-- R249: groups of `b` pixels averaged. -/
def binned (b : Nat) : Nat → List OutPix → List Val
  | 0, _ => []
  | k + 1, l =>
    if l.isEmpty then []
    else
      let g := l.take b
      let m := joinMarks (((g.map (·.c.v)).sum + b / 2) / max 1 g.length) (g.map (·.c))
      ⟨if g.length = b then ((g.map (·.c.v)).sum + b / 2) / b else m.v, m, g.any (·.filled)⟩ :: binned b k (l.drop b)

/-- R250: one value packed to `b` bits. -/
def packValue (b v : Nat) : Nat := if b = 16 then v else min ((v + 2 ^ (15 - b)) / 2 ^ (16 - b)) (2 ^ b - 1)

/-- R251: the packets of a piece: for each, its plane mask and its values in order. `sel` gives position and values. -/
def arrange (form : Nat) (sel : List (Nat × List Val)) : List (Nat × List Val) :=
  let mask := sel.foldl (fun m p => setBit m p.1 true) 0
  match form with
  | 0 =>
    let n := (sel.map (·.2.length)).foldl max 0
    [(mask, (List.range n).flatMap (fun i => sel.filterMap (fun p => p.2[i]?)))]
  | 1 => sel.map (fun p => (2 ^ p.1, p.2))
  | _ => [(mask, sel.flatMap (·.2))]

/-- R252: one statistics record, 16 bytes. -/
def statRecord (plane : Nat) (l : List OutPix) : List Byte :=
  let vs := l.map (·.c.v)
  le 16 (plane * 2 ^ 126 + l.length * 2 ^ 104 + vs.sum * 2 ^ 64 + vs.foldl min 65535 * 2 ^ 48 + vs.foldl max 0 * 2 ^ 32 +
    min 65535 (l.filter (·.filled)).length * 2 ^ 16 + min 65535 (l.filter (·.c.poison)).length)

/-! ## The line packet (R277 to R279) -/

/-- What a packet's header holds beyond its line. -/
structure Head where
  kind : Nat
  stream : Nat
  cls : Nat
  cluster : Nat
  first : Nat
  count : Nat
  mask : Nat
  format : Nat
  piece : Nat
  packets : Nat
  region : Nat
  portions : Nat
  flags : Nat
  step : Nat
  dataLen : Nat
  seq : Nat
  deriving DecidableEq, Repr, Inhabited

/-- R277: the header. -/
def headBytes (h : Head) (line : Nat) (pos : Int) (time job recipe cd md : Nat) : List Byte :=
  le 1 h.kind ++ le 1 1 ++ le 1 h.stream ++ le 1 h.cls ++ le 4 line ++ sle 8 pos ++ le 8 time ++ le 2 job ++ le 1 recipe ++
  le 1 h.cluster ++ le 4 h.first ++ le 4 h.count ++ le 1 h.mask ++ le 1 h.format ++ le 1 h.piece ++ le 1 h.packets ++
  le 4 h.region ++ le 1 h.portions ++ le 1 h.flags ++ le 2 h.step ++ le 2 cd ++ le 2 md ++ le 4 h.dataLen ++ le 4 h.seq ++ le 4 0

/-- R278, R279: the trailer up to its check word, from the line-wide part and the packet's values; its close time is set when
the packet closes. -/
def trailBytes (l : OutLine) (wide : Nat) (vs : List Val) : List Byte :=
  let has := fun (p : Val → Bool) => b2n (vs.any p)
  let chans := vs.foldl (fun m x => m ||| x.c.warm ||| x.c.beyond ||| x.c.held ||| x.c.unc) 0
  let flags := wide + has (fun x => x.c.interp && !x.filled) * 2 ^ 28 + has (·.filled) * 2 ^ 27 + has (fun x => x.c.warm ≠ 0) * 2 ^ 26 +
    has (fun x => x.c.beyond ≠ 0) * 2 ^ 25 + has (fun x => x.c.held ≠ 0) * 2 ^ 24 + has (fun x => x.c.unc ≠ 0) * 2 ^ 23 +
    has (·.c.poison) * 2 ^ 22 + b2n l.late * 2 ^ 20
  le 4 flags ++ le 8 chans ++ le 4 (vs.filter (·.c.poison)).length ++ le 4 ((vs.findIdx? (·.c.poison)).getD 0xFFFFFFFF) ++
  le 4 (vs.filter (·.filled)).length ++ le 4 (vs.filter (fun x => x.c.interp && !x.filled)).length ++ le 4 l.maxLate ++
  le 2 l.drops ++ le 1 l.under ++ le 1 0 ++ le 8 0 ++ List.replicate 16 0

/-- R277: a class-2 or class-3 packet's bytes, its check word still 0. -/
def linePacket (l : OutLine) (h : Head) (wide : Nat) (data : List Byte) (vs : List Val) : List Byte :=
  headBytes h l.num l.linePos l.time l.job l.recipe (rCd l.bytes) (rMd l.bytes) ++ pad4 data ++ trailBytes l wide vs ++ le 4 0

/-- R277, R278: the check word computed over all that stands before it. -/
def sealPacket (bs : List Byte) : List Byte := bs.take (bs.length - 4) ++ le 4 (crc32 (bs.take (bs.length - 4)))

/-- R278, R234: a line or statistics packet is closed at `t`. -/
def closePacket (t : Nat) (bs : List Byte) : List Byte := sealPacket (overlay bs (bs.length - 28) (le 8 t))

/-- R287: a packet to be sent again carries the resent flag. -/
def markResent (p : Packet) : Packet :=
  if p.bytes.length < 100 then { p with resent := true }
  else { p with resent := true, bytes := sealPacket (overlay p.bytes 45 (le 1 (setBit (fieldAt p.bytes 45 1) 0 true))) }

/-! ## Markers (R281) -/

/-- A marker's own fields. -/
structure Marker where
  type_ : Nat
  cause : Nat
  line : Nat
  count : Nat
  pos : Int
  time : Nat
  extra : Nat
  /-- The header's line position, line time, job and recipe. -/
  linePos : Int
  lineTime : Nat
  job : Nat
  recipe : Nat
  deriving DecidableEq, Repr, Inhabited

/-- R281: a marker packet, 100 bytes. -/
def markerBytes (m : Marker) (h : Head) (cd md : Nat) : List Byte :=
  let b := headBytes h m.line m.linePos m.lineTime m.job m.recipe cd md ++ le 1 m.type_ ++ le 1 m.cause ++ le 2 0 ++ le 4 m.line ++
    le 4 m.count ++ sle 8 m.pos ++ le 8 m.time ++ le 4 m.extra
  b ++ le 4 (crc32 b)

end Sys2Proof.Machine
end

