-- ==== Sys2Proof/Machine/Streams.lean ====
section
/-!
DEFINITION. DMA engines and streams (chapter 10): rings and chains, admission of lines, gap runs and markers, compatibility
transfers, and the making and delivering of output lines.
-/
namespace Sys2Proof.Machine

/-! ## Rings (R253 to R260) -/

/-- The length of ring `r` of engine `k`; ring 0 has the default length. -/
def State.ringLen (s : State) (k r : Nat) : Nat := if r = 0 then 256 else s.rdN (0x5440 + k) (4 + r)
/-- The head index of ring `r` of engine `k`. -/
def State.ringHead (s : State) (k r : Nat) : Nat := s.rdN (0x5440 + k) (8 + r)
/-- A ring's state: 0 off, 1 running, 2 parked. -/
def State.ringState (s : State) (k r : Nat) : Nat := s.rdN (0x5440 + k) 0xC / 4 ^ r % 4
/-- A ring takes a state. -/
def State.setRing (s : State) (k r v : Nat) : State :=
  let w := s.rdN (0x5440 + k) 0xC
  s.wr (0x5440 + k) 0xC (w - (w / 4 ^ r % 4) * 4 ^ r + v * 4 ^ r)

/-- R255: the largest plane count among the stored recipes. -/
def State.planesMax (s : State) : Nat := (s.liveRecipes.map s.planesOf).foldl max 1

/-- R247: engine `k`'s portion of a line of width `w`; none for an engine that does not carry it. -/
def State.portionOf (s : State) (compat : Bool) (w k : Nat) : Option (Nat × Nat) :=
  let l := s.carriers compat
  (l.findIdx? (· = k)).map (portion w l.length)

/-- R255: a descriptor's payload bits for one line in engine `k`. -/
def State.descBits (s : State) (k : Nat) (d : Desc) : Nat :=
  match s.portionOf false (s.rdN 0x4442 3) k with
  | none => 0
  | some (b, e) =>
    let lo := max b d.first
    let hi := min e (d.first + d.width)
    let planes := popcount 4 (d.mask % 2 ^ s.planesMax)
    if d.cls = 3 then (if lo < hi then 128 * planes else 0) else (hi - lo) / 2 ^ d.bin * planes * packingBits d.pack

/-- R255: a descriptor's rate in bit/s. -/
def State.descRate (s : State) (k : Nat) (d : Desc) : Nat := s.rdN 0x5400 2 * s.descBits k d / d.step

/-- The running chains with their engine and ring. -/
def State.chains (s : State) : List (Nat × Nat × Chain) :=
  (List.range 8).flatMap (fun k => (List.range 4).filterMap (fun r => ((s.ring k r).run).map (fun c => (k, r, c))))

/-- A chain's descriptors. -/
def Chain.list (c : Chain) : List Desc := c.descs.map descOf

/-- R244: the rate in use of a stream in bit/s, over all engines' running chains. -/
def State.streamRate (s : State) (st : Nat) : Nat :=
  (s.chains.map (fun (k, _, c) => ((c.list.filter (·.stream = st)).map (s.descRate k)).sum)).sum

/-- R255: engine `k`'s load in bits per second: its running chains, ring 0's stream-0 chain included, at L_max. -/
def State.engineLoad (s : State) (k : Nat) : Nat :=
  (s.chains.map (fun (q, _, c) => if q = k then (c.list.map (s.descRate k)).sum else 0)).sum

/-- R244, R266: rates in use and loads as shown. -/
def State.showLoads (s : State) : State :=
  let s := s.each 32 (fun st s => s.wr (0x5410 + st) 4 (nearest (s.streamRate st) 1000000))
  s.each 8 (fun k s => s.wr (0x5440 + k) 0x19 (nearest (s.engineLoad k) 8000000))

/-- The chain at the head of a ring: descriptors owned by the engine up to END, at most a ring's length. -/
def State.chainAt (s : State) (k r : Nat) : Nat → Nat → List (List Nat)
  | 0, _ => []
  | n + 1, i =>
    let w := s.descWords k r (i % s.ringLen k r)
    if !(descOf w).own then []
    else if (descOf w).last then [w] else w :: s.chainAt k r n (i + 1)

/-- R255: the check of a chain about to be taken: 0, or the code that refuses it. -/
def State.chainCheck (s : State) (k : Nat) (ds : List (List Nat)) : Nat :=
  let l := ds.map descOf
  let streams := (l.map (·.stream)).eraseDups
  let rate := fun (st : Nat) => ((l.filter (·.stream = st)).map (s.descRate k)).sum
  if ds.any descBad ∨ !(l.any (·.last)) then 3
  else if streams.any (fun st => s.rdN (0x5410 + st) 3 * 1000000 < s.streamRate st + rate st) then 4
  else if 12800000000 * 8 < s.engineLoad k + (l.map (s.descRate k)).sum then 5
  else if streams.any (fun st => s.rd (0x5410 + st) 1 ≠ 1) then 6
  else 0

/-- R257: descriptors `at_` on are written back: words 0 to 2 where the chain ran, word 7 without OWN. -/
def State.writeBack (s : State) (k r at_ status : Nat) (words : List (List Nat)) (served first lost : Nat) : State :=
  (List.range words.length).foldl (fun s i =>
    let o := fun (w : Nat) => descAddr k r ((at_ + i) % s.ringLen k r) w
    let s := ((s.ringPut (o 0) (status * 2 ^ 24 + min 0xFFFFFF lost)).ringPut (o 1) first).ringPut (o 2) served
    s.ringPut (o 7) ((words.getD i []).getD 7 0 % 2 ^ 31)) s

/-- The head of ring `r` moves past `n` descriptors. -/
def State.moveHead (s : State) (k r n : Nat) : State := s.wr (0x5440 + k) (8 + r) ((s.ringHead k r + n) % s.ringLen k r)

/-- R260: a ring fetches: it takes the chain at its head, refuses it and fetches again, or parks. -/
def State.fetch (k r : Nat) : Nat → State → State
  | 0, s => s
  | n + 1, s =>
    let s := s.updRing k r (fun q => { q with kick := false })
    let head := s.ringHead k r
    let ds := s.chainAt k r (s.ringLen k r) head
    if ds.isEmpty then s.setRing k r 2
    else
      let code := s.chainCheck k ds
      if code ≠ 0 then
        let s := (s.writeBack k r head code ds 0 0 0).moveHead k r ds.length
        let s := (s.bump (0x5440 + k) (0x14 + r)).wr (0x5440 + k) 0x18 (code * 2 ^ 24 + r * 2 ^ 16 + head)
        State.fetch k r n (s.raise1 (312 + k) 0)
      else
        let ds' := match ds with
          | w :: rest => (if w.getD 5 0 = 0xFFFFFFFF then w.set 5 s.rdg.next else w) :: rest
          | [] => []
        let c : Chain := { at_ := head, descs := ds', served := 0, first := none, lost := 0 }
        ((s.updRing k r (fun q => { q with run := some c })).setRing k r 1).showLoads

/-- R263: engine `k` serves the compatibility line. -/
def State.compatEngine (s : State) (k : Nat) : Bool := s.compatMode && decide (k < 2)

/-- A ring fetches, if its engine takes descriptors now (R242). -/
def State.fetchRing (s : State) (k r : Nat) : State :=
  if s.live && !s.compatEngine k then State.fetch k r (s.ringLen k r) s else s

/-- R260: the doorbell of ring `r`. -/
def opDoorbell (k r : Nat) : Op := fun _ s =>
  if s.compatEngine k then (s, 7)
  else
    let s := s.updRing k r (fun q => { q with kick := true })
    (if s.ringState k r = 2 then s.fetchRing k r else s, 0)

/-- DOORBELL (R260): a write of 1 to 0x5440+k:02+r; `r` 0 to 2 stands for rings 1 to 3. -/
def execDoorbell (dt : Nat) (m : Fin 17) (k : Fin 8) (r : Fin 3) (s : State) : Host.Outcome State Fault Refusal :=
  hostCommand dt m (0x5440 + k) (2 + r) 1 (opDoorbell k (r + 1)) s

/-- R257, R259: a running chain ends with this status, its head moved past it where `move`. -/
def State.endChain (s : State) (k r status : Nat) (move : Bool) : State :=
  match (s.ring k r).run with
  | none => s
  | some c =>
    let s := s.writeBack k r c.at_ status c.descs c.served (c.first.getD 0) c.lost
    let s := if move then s.moveHead k r c.descs.length else s
    (s.updRing k r (fun q => { q with run := none })).showLoads

/-- R257: a chain has served its line count. -/
def Chain.full (c : Chain) : Bool :=
  let n := (c.list.headD default).count
  n ≠ 0 && decide (n ≤ c.served)

/-- R257: a chain completes: written back, counted, reported, and the ring fetches. -/
def State.completeChain (s : State) (k r : Nat) : State :=
  match (s.ring k r).run with
  | none => s
  | some c =>
    let s := (s.endChain k r 1 true).bump (0x5440 + k) (0x10 + r)
    (s.raiseIf (c.list.any (·.irq)) (304 + k) 0).fetchRing k r

/-- CHAIN_COMPLETE (R257): the last write of the chain's last line has left the engine. -/
def execChainComplete (dt : Nat) (k : Fin 8) (r : Fin 4) (s : State) : Host.Outcome State Fault Refusal :=
  event dt s (fun s => match (s.ring k r).run with | some c => c.full | none => false) (fun s => s.completeChain k r)

/-- R259: a stop: completed where the chain has just served its last line. -/
def opStopRing (k r : Nat) : Op := fun _ s =>
  match (s.ring k r).run with
  | none => (s, 0)
  | some c =>
    if c.full then (s.completeChain k r, 0)
    else
      let s := (s.endChain k r 2 true).updRing k r (fun q => { q with kick := false })
      ((s.setRing k r 2).raise1 (320 + k) 0, 0)

/-- STOP_RING (R259). -/
def execStopRing (dt : Nat) (m : Fin 17) (k : Fin 8) (r : Fin 3) (s : State) : Host.Outcome State Fault Refusal :=
  hostCommand dt m (0x5440 + k) (0xD + r) 1 (opStopRing k (r + 1)) s

/-- R266: the head of a parked or off ring becomes 0. -/
def opResetHead (k r : Nat) : Op := fun _ s =>
  if s.ringState k r = 1 then (s, 8)
  else ((s.wr (0x5440 + k) (8 + r) 0).updRing k r (fun q => { q with kick := false }), 0)

/-- RESET_HEAD (R266). -/
def execResetHead (dt : Nat) (m : Fin 17) (k : Fin 8) (r : Fin 3) (s : State) : Host.Outcome State Fault Refusal :=
  hostCommand dt m (0x5440 + k) (0x1A + r) 1 (opResetHead k (r + 1)) s

/-! ## Markers and gap runs (R246, R248, R281) -/

/-- R246: streams that take markers now: stream 0 and every stream with a running chain. -/
def State.markerStreams (s : State) : List Nat :=
  0 :: (List.range 31).filter (fun st => st ≠ 0 && s.chains.any (fun (_, _, c) => c.list.any (·.stream = st)))

/-- R246: the engine that writes a stream's markers. -/
def State.markerEngine (s : State) (st : Nat) : Nat :=
  if st = 31 then (s.carriers true).headD 0
  else
    let first := (s.carriers false).headD 0
    if st = 0 then first
    else (((s.chains.filter (fun (_, _, c) => c.list.any (·.stream = st))).map (·.1)).head?).getD first

/-- R281: a marker into one stream. -/
def State.putMarker (s : State) (st : Nat) (m : Marker) : State :=
  let k := s.markerEngine st
  let r := s.recipe m.recipe
  let h : Head := {
    kind := 2, stream := st, cls := 1, cluster := k, first := 0, count := 0, mask := 0, format := 0, piece := 0, packets := 1,
    region := s.rdN 0x4442 3, portions := (s.carriers (st = 31)).length, flags := 2 * b2n (st = 31), step := 1, dataLen := 32,
    seq := (s.stream st).seq }
  s.pushOrHold k { (default : Packet) with
    cls := 1, dest := st, blocks := blocksFor 100, line := m.line, bytes := markerBytes m h (rCd r) (rMd r) }

/-- A gap marker's fields: the run's first line, count, position and time, with the job and recipe in force. -/
def State.gapMarker (s : State) (g : GapRun) : Marker :=
  let q := s.rdg.grids.headD default
  { type_ := 3, cause := g.cause, line := g.first, count := g.count, pos := g.pos, time := g.time, extra := 0, linePos := g.pos,
    lineTime := g.time, job := q.job, recipe := q.recipe }

/-- R248: a run of missing lines of a stream is announced. -/
def State.flushRun (s : State) (st : Nat) : State :=
  match (s.stream st).run with
  | none => s
  | some g => (s.putMarker st (s.gapMarker g)).updStream st (fun q => { q with run := none, afterGap := true })

/-- R248: a missing line joins the run of its cause, or begins one after announcing a run of another cause. -/
def State.addRun (s : State) (st first count cause : Nat) (pos : Int) (time : Nat) : State :=
  match (s.stream st).run with
  | some g =>
    if g.cause = cause then s.updStream st (fun q => { q with run := some { g with count := g.count + count } })
    else (s.flushRun st).updStream st (fun q => { q with run := some ⟨first, count, cause, pos, time⟩ })
  | none => s.updStream st (fun q => { q with run := some ⟨first, count, cause, pos, time⟩ })

/-- The position of output line `j` in 1/256 line, on the grid in force. -/
def State.posOfLine (s : State) (j : Nat) : Int :=
  let g := s.rdg.grids.headD default
  linePos (g.at_ j) g.pitch

/-- R281: a marker whose position is unknown. -/
def unknownPos : Int := -(2 ^ 63)

/-- R157: the job switch marker. -/
def switchMarker (w : Switched) (l : OutLine) : Marker :=
  { type_ := 2, cause := w.source, line := l.num, count := w.oldJob % 65536 + w.oldRecipe % 256 * 65536, pos := l.linePos, time := w.time,
    extra := w.deferral, linePos := l.linePos, lineTime := l.time, job := l.job, recipe := l.recipe }

/-! ## Admission (R248) -/

/-- R248: bits of four lines of the streams with a link mask: the most that the credit of a group holds. -/
def State.creditCap (s : State) (m : Nat) : Nat :=
  let r := s.recipe s.activeRecipe
  4 * (((s.streamsOn.filter (fun n => s.maskOf n = m)).map (fun n =>
    if n = 0 then s.rateOf r 1 else s.rdN (0x5410 + n) 3 * 1000000 / max 1 (s.rdN 0x5400 2))).sum)

/-- R248: the credits grow with the time since they last did. -/
def State.growCredits (s : State) : State :=
  let dt := s.now - s.dma.creditAt
  let c := s.groupMasks.foldl (fun v m =>
    let g := groupNumber m
    vupd v g (fun x => min (s.creditCap m) (x + s.budget m * dt / 1000))) s.dma.credit
  { s with dma := { s.dma with credit := c, creditAt := s.now } }

/-- R248: engine parts fit their queues: for each engine the blocks of the bounds of its packets. -/
def State.partsFit (s : State) (parts : List (Nat × List Packet)) (bound : Packet → Nat) : Bool :=
  parts.all (fun (k, ps) => ps.isEmpty || (s.eq k).admits 2 ((ps.map bound).sum))

/-- R247, R232: the blocks of a line packet's bound: its data and 192 bytes. -/
def boundBlocks (p : Packet) : Nat :=
  let data := if p.bytes.length < 128 then p.bytes.length else fieldAt p.bytes 52 4
  blocksFor (data + 192)

/-- Packets are written and closed. -/
def State.pushAll (s : State) (l : List (Nat × Packet)) : State :=
  (s.eachOf l (fun (k, p) s =>
    let t := s.fine
    s.push k (if p.bytes.length < 128 then p else { p with bytes := closePacket t p.bytes }))).startLinks

/-! ## Building a stream's part of a line -/

/-- One packet's parts before the number of packets is known. -/
structure Draft where
  head : Head
  data : List Byte
  vals : List Val
  deriving DecidableEq, Repr, Inhabited

/-- R249 to R252: what one descriptor writes of a line in an engine whose portion is `b` to `e`. -/
def drafts (l : OutLine) (k b e : Nat) (d : Desc) : List Draft :=
  let lo := max b d.first
  let hi := min (min e (d.first + d.width)) l.width
  let sel := (List.range l.planes.length).filter (fun p => bit d.mask p)
  if hi ≤ lo ∨ sel.isEmpty then []
  else
    let cut := fun (p o n : Nat) => ((l.planes.getD p []).drop (lo + o)).take n
    let mask := sel.foldl (fun m p => setBit m p true) 0
    let head : Head := {
      kind := 1, stream := d.stream, cls := d.cls, cluster := k, first := lo, count := hi - lo, mask := mask, format := 0, piece := 0,
      packets := 0, region := min d.width (l.width - d.first), portions := 0, flags := 2 * b2n l.compat, step := d.step, dataLen := 0, seq := 0 }
    if d.cls = 3 then
      let data := sel.flatMap (fun p => statRecord p (cut p 0 (hi - lo)))
      let vals := sel.flatMap (fun p => binned 1 (hi - lo) (cut p 0 (hi - lo)))
      [⟨{ head with kind := 3, dataLen := data.length }, data, vals⟩]
    else
      let bits := packingBits d.pack
      let bin := 2 ^ d.bin
      let len := pieceLen (hi - lo) (if d.form = 1 then bits else bits * sel.length) bin
      let ps := pieces (hi - lo) len
      ((List.range ps.length).zip ps).flatMap (fun (i, (o, n)) =>
        (arrange d.form (sel.map (fun p => (p, binned bin n (cut p o n))))).map (fun (m, vs) =>
          let data := packBits bits (vs.map (fun x => packValue bits x.v))
          let per := vs.length / max 1 (popcount 4 m)
          ⟨{ head with
              first := lo + o, count := per, mask := m, format := d.form * 64 + d.pack * 16 + d.bin * 4, piece := i,
              dataLen := data.length }, data, vs⟩))

/-- R279: the line-wide flags. -/
def wideFlags (l : OutLine) (peg gap : Bool) : Nat :=
  b2n l.first.isSome * 2 ^ 31 + b2n peg * 2 ^ 30 + b2n gap * 2 ^ 29 + b2n l.declared * 2 ^ 21

/-- The packets of one stream's line, by engine. -/
def State.build (s : State) (l : OutLine) (st : Nat) (wide : Nat) (parts : List (Nat × List Desc)) : List (Nat × List Packet) :=
  let n := (s.carriers l.compat).length
  parts.map (fun (k, ds) =>
    let w := match s.portionOf l.compat l.width k with | some p => p | none => (0, 0)
    let fs := ds.flatMap (drafts l k w.1 w.2)
    (k, fs.map (fun f =>
      let h := { f.head with packets := fs.length % 256, portions := n, seq := (s.stream st).seq + 1 }
      let bytes := linePacket l h wide f.data f.vals
      { (default : Packet) with
        cls := h.cls, dest := st, blocks := blocksFor bytes.length, line := l.num, piece := h.piece,
        plane := ((List.range 4).find? (bit h.mask)).getD 0, bytes := bytes })))

/-- R248: a line of stream `st` is dropped in every cluster: counted, and its run begun or continued. -/
def State.dropLine (s : State) (l : OutLine) (st cause : Nat) (parts : List (Nat × List Packet)) : State :=
  let s := s.bump (0x5410 + st) 6
  let s := s.eachOf parts (fun (k, _) s => (s.bump (0x5610 + k) 9).raiseIf (cause = 2) (288 + k) 0)
  s.addRun st l.num 1 cause l.linePos l.time

/-- R248, R233: one stream's line: admitted, dropped, or, paced, made to wait. Whether it was dropped is answered too. -/
def State.sendStream (s : State) (l : OutLine) (st : Nat) (peg : Bool) (parts : List (Nat × List Desc)) : State × Bool :=
  let gap := (s.stream st).run.isSome || (s.stream st).afterGap
  let built := s.build l st (wideFlags l peg gap) parts
  let image := built.map (fun (k, ps) => (k, ps.filter (·.cls = 2)))
  let stats := built.flatMap (fun (k, ps) => (ps.filter (·.cls = 3)).map (fun p => (k, p)))
  if built.all (fun (_, ps) => ps.isEmpty) then (s, false)
  else
    let m := s.streamLinks st
    let g := groupNumber m
    let bits := 8 * ((image.flatMap (·.2)).map (fun p => fieldAt p.bytes 52 4)).sum
    let s := s.growCredits
    let up := (List.range 16).any (fun n => bit m n && s.linkUp n)
    let held := !s.paced && (!up || (bit s.dma.limited g && decide (vget s.dma.credit g < bits)))
    let some_ := image.any (fun (_, ps) => !ps.isEmpty)
    if some_ && held then (s.dropLine l st 1 image, true)
    else if some_ && !s.partsFit image boundBlocks && !s.paced then (s.dropLine l st 2 image, true)
    else
      let s := s.flushRun st
      let all := image.flatMap (fun (k, ps) => ps.map (fun p => (k, p)))
      let s := if !s.partsFit image boundBlocks || !s.dma.waiting.isEmpty then
          { s with dma := { s.dma with waiting := s.dma.waiting ++ [all] } }
        else s.pushAll all
      let s := if bit s.dma.limited g && !s.paced then
          { s with dma := { s.dma with credit := vupd s.dma.credit g (fun x => x - bits) } }
        else s
      let s := s.eachOf stats (fun (k, p) s =>
        if !s.can.shedStats && (s.eq k).admits 3 (boundBlocks p) then s.pushAll [(k, p)] else s.bump (0x5610 + k) 0xA)
      ((s.updStream st (fun q => { q with seq := q.seq + 1, afterGap := false })).bump (0x5410 + st) 5, false)

/-! ## Serving a line (R256, R257) -/

/-- R257: line `j` is selected by the descriptor, for a chain that starts at `start`. -/
def selects (j start : Nat) (d : Desc) : Bool := decide (start ≤ j) && (j - start) % d.step = 0

/-- The descriptors of ring chains in engine `k` that write line `j`, in the order of the rings. -/
def State.serving (s : State) (k j : Nat) : List Desc :=
  (List.range 4).flatMap (fun r => match (s.ring k r).run with
    | some c =>
      let start := (c.list.headD default).start
      if c.full then [] else c.list.filter (selects j start)
    | none => [])

/-- R257: chains count a line that their heads select; a dropped one counts as not delivered. -/
def State.countServed (s : State) (j : Nat) (dropped : List Nat) : State :=
  s.eachOf s.chains (fun (k, r, c) s =>
    let h := c.list.headD default
    if c.full ∨ !selects j h.start h then s
    else s.updRing k r (fun q => { q with run := some { c with
      served := c.served + 1, first := some (c.first.getD j), lost := if dropped.contains h.stream then c.lost + 1 else c.lost } }))

/-- The stream-0 descriptor of a line (R249). -/
def streamZero (l : OutLine) : Desc :=
  { own := true, last := true, irq := false, stream := 0, cls := 2, form := rForm l.bytes, pack := fieldAt l.bytes 9 1, bin := 0, mask := 15,
    count := 0, start := 0, first := 0, step := 1, width := l.width }

/-- R246, R157: the job switch marker goes ahead of a recipe's first line. -/
def State.jobMarker (s : State) (l : OutLine) : State :=
  match l.first with
  | none => s
  | some w => s.eachOf s.markerStreams (fun st s => s.putMarker st (switchMarker w l))

/-- R188: lines omitted through a forced self-trim are announced. -/
def State.omittedMarker (s : State) : State :=
  match s.rdg.omitted with
  | none => s
  | some (a, n) =>
    let p := s.rdg.grids.headD default
    let t := s.lineTime (p.at_ a)
    let s := s.eachOf s.markerStreams (fun st s => s.addRun st a n 6 (s.posOfLine a) t)
    { s with rdg := { s.rdg with omitted := none } }

/-- R253: word 7 of the stream-0 descriptor of a recipe. -/
def ringZeroWord (r : List Byte) : Nat := 2 ^ 31 + 2 ^ 30 + 2 * 2 ^ 14 + rForm r * 2 ^ 12 + fieldAt r 9 1 * 2 ^ 10 + 15 * 2 ^ 4

/-- R253: the stream-0 descriptor, eight words, of a recipe and a line width. -/
def ringZeroDesc (r : List Byte) (w : Nat) : List Nat := [0, 0, 0, w * 2 ^ 11, 0, 0xFFFFFFFF, 0, ringZeroWord r]

/-- R253, R157: the control processor changes ring 0 in place at the first line of a new recipe; stream 0's output rate follows. -/
def State.ringZeroSwitch (s : State) (l : OutLine) : State :=
  let s := s.wr 0x5410 3 (nearest (s.rateOf l.bytes (s.rdN 0x5400 2)) 1000000)
  (s.eachOf (s.carriers false) (fun k s =>
    let s := (s.ringPut (descAddr k 0 0 3) (l.width * 2 ^ 11)).ringPut (descAddr k 0 0 7) (ringZeroWord l.bytes)
    s.updRing k 0 (fun q => { q with run := q.run.map (fun c => { c with
      descs := c.descs.map (fun w => (w.set 3 (l.width * 2 ^ 11)).set 7 (ringZeroWord l.bytes)) }) }))).showLoads

/-- R23, R242 to R257: a native line is delivered to stream 0 and to the host streams, or, in inline Paused, withheld. -/
def State.deliverNative (s : State) (l : OutLine) : State :=
  let s := s.omittedMarker.jobMarker l
  let s := if l.first.isSome then s.ringZeroSwitch l else s
  if s.dev.st = .paused && !s.paced then
    s.eachOf s.markerStreams (fun st s => s.addRun st l.num 1 4 l.linePos l.time)
  else
    let ks := s.carriers false
    let host := ks.map (fun k => (k, s.serving k l.num))
    let streams := 0 :: (List.range 31).filter (fun st => st ≠ 0 && host.any (fun (_, ds) => ds.any (·.stream = st)))
    let peg := s.trn.afterPeg
    let r := streams.foldl (fun (acc : State × List Nat) st =>
      let parts := if st = 0 then ks.map (fun k => (k, [streamZero l])) else host.map (fun (k, ds) => (k, ds.filter (·.stream = st)))
      let q := acc.1.sendStream l st peg parts
      (q.1, if q.2 then st :: acc.2 else acc.2)) (s, [])
    r.1.countServed l.num r.2

/-! ## Compatibility transfers (R263, R264) -/

/-- The transfer that a start sets up. -/
def State.newCompat (s : State) (repeating : Bool) : Compat :=
  { left := s.rdN 0x5460 3, first := s.rdN 0x5460 1, count := s.rdN 0x5460 2, mask := s.rdN 0x5460 4, wide := s.rd 0x5460 5 = 1,
    crc := 0xFFFFFFFF, repeating := repeating, ended := false }

/-- R263: a transfer begins to wait for its first line. -/
def State.beginCompat (s : State) (repeating : Bool) : State :=
  let s := (s.wr 0x5460 7 1).wr 0x5460 0xA 0
  { s with dma := { s.dma with compat := some (s.newCompat repeating) } }

/-- R263: the compatibility line's width. -/
def State.compatWidth (s : State) : Nat := s.widthAt .compat (rCd (s.recipe s.activeRecipe))

/-- R263: the control register: start, repeat and stop. -/
def opCompat : Op := fun v s =>
  let w := v.toNat
  let start := bit w 0
  let rep := bit w 1 && !bit w 2
  if !start then
    let s := s.wr 0x5460 6 (2 * b2n rep)
    match s.dma.compat with
    | some c => ({ s with dma := { s.dma with compat := some { c with repeating := rep } } }, 0)
    | none => (s, 0)
  else if !s.compatMode then (s.raise1 329 0, 7)
  else if s.dma.compat.isSome then (s.raise1 329 0, 8)
  else if s.compatWidth < s.rdN 0x5460 1 + s.rdN 0x5460 2 ∨ s.rdN 0x5460 4 = 0 ∨ 15 < s.rdN 0x5460 4 then (s.raise1 329 0, 5)
  else
    let r := s.recipe s.activeRecipe
    let need := s.lMax * s.rdN 0x5460 2 * max 1 (rP r) * (if s.rd 0x5460 5 = 1 then 16 else 8)
    let have_ := s.budget (s.rdN 0x5460 4)
    if !s.paced && decide (have_ * 1000000 < need) then
      ((s.report ⟨4, nearest need 1000000, have_, groupNumber (s.rdN 0x5460 4)⟩).raise1 329 0, 10)
    else ((s.wr 0x5460 6 (2 * b2n rep)).beginCompat rep, 0)

/-- START_COMPAT_TRANSFER (R263): a write of bit 0 of 0x5460:06. -/
def execStartCompatTransfer (dt : Nat) (m : Fin 17) (s : State) : Host.Outcome State Fault Refusal :=
  hostCommand dt m 0x5460 6 1 opCompat s

/-- STOP_COMPAT_TRANSFER (R263): a write of bit 2 of 0x5460:06. -/
def execStopCompatTransfer (dt : Nat) (m : Fin 17) (s : State) : Host.Outcome State Fault Refusal :=
  hostCommand dt m 0x5460 6 4 opCompat s

/-- R264: a transfer completes: its CRC packet has left engine 1. -/
def State.compatDone (s : State) : State :=
  match s.dma.compat with
  | none => s
  | some c =>
    if !c.ended then s
    else
      let s := ((s.wr 0x5460 8 (((c.crc ^^^ 0xFFFFFFFF : Nat) : Int))).bump 0x5460 9).wr 0x5460 7 (if s.rd 0x5460 0xA = 0 then 3 else 4)
      let s := { s with dma := { s.dma with compat := none } }
      let s := s.raise1 328 0
      if c.repeating then s.beginCompat true else s

/-- COMPAT_TRANSFER_COMPLETE (R264). -/
def execCompatTransferComplete (dt : Nat) (s : State) : Host.Outcome State Fault Refusal :=
  event dt s (fun _ => true) State.compatDone

/-- R264: a running transfer is aborted. -/
def State.compatAbort (s : State) : State :=
  match s.dma.compat with
  | none => s
  | some c =>
    if s.rd 0x5460 7 = 1 ∧ !c.ended then s
    else ({ s.wr 0x5460 7 5 with dma := { (s.wr 0x5460 7 5).dma with compat := none } }).raise1 330 0

/-- R263: a compatibility line is delivered to the running transfer. -/
def State.deliverCompat (s : State) (l : OutLine) : State :=
  let s := s.compatDone
  match s.dma.compat with
  | none => s
  | some c =>
    if s.dev.st = .paused && !s.paced then s
    else
      let s := s.wr 0x5460 7 2
      let d : Desc := {
        own := true, last := true, irq := false, stream := 31, cls := 2, form := 2, pack := if c.wide then 3 else 0, bin := 0, mask := 15, count := 0,
        start := 0, first := c.first, step := 1, width := c.count }
      let parts := (s.carriers true).map (fun k => (k, [d]))
      let sizes := s.build l 31 0 parts
      let data := sizes.flatMap (fun (_, ps) => ps.flatMap (fun p => slice p.bytes 64 (fieldAt p.bytes 52 4)))
      let q := s.sendStream l 31 false parts
      let s := if q.2 then q.1.bump 0x5460 0xA else q.1
      let c : Compat := { c with left := c.left - 1, crc := if q.2 then c.crc else crc32Run c.crc data }
      if c.left = 0 then
        let s := s.flushRun 31
        let bytes := le 4 (c.crc ^^^ 0xFFFFFFFF) ++ le 4 (s.rdN 0x5460 9)
        let p : Packet := { (default : Packet) with cls := 2, dest := 31, blocks := blocksFor 8, line := l.num, bytes := bytes }
        let s := if (s.eq 1).admits 2 (blocksFor 8) && s.dma.waiting.isEmpty then (s.push 1 p).startLinks
          else { s with dma := { s.dma with waiting := s.dma.waiting ++ [[(1, p)]] } }
        { s with dma := { s.dma with compat := some { c with ended := true } } }
      else { s with dma := { s.dma with compat := some c } }

/-- A line goes to its streams. -/
def State.deliverLine (s : State) (l : OutLine) : State := if l.compat then s.deliverCompat l else s.deliverNative l

/-! ## Space freed (R233) -/

/-- R233: lines that wait are admitted in order while every engine's queue admits its part. -/
def State.admitLines : Nat → State → State
  | 0, s => s
  | n + 1, s =>
    match s.dma.waiting with
    | [] => s
    | g :: r =>
      let ks := (g.map (·.1)).eraseDups
      let parts := ks.map (fun k => (k, (g.filter (·.1 = k)).map (·.2)))
      if s.partsFit parts boundBlocks then
        State.admitLines n ({ s with dma := { s.dma with waiting := r } }.pushAll g)
      else s

/-- R233: what waits for space in queue `k`, and lines that wait, are admitted. -/
def State.spaceFreed (s : State) (k : Nat) : State :=
  let s := (s.admitHeld k (s.eq k).held.length).startLinks
  State.admitLines s.dma.waiting.length s

/-- EGRESS_SPACE_FREED (R233): the freed blocks of queue `k` admit what waits. -/
def execEgressSpaceFreed (dt : Nat) (k : Fin 8) (s : State) : Host.Outcome State Fault Refusal :=
  event dt s (fun s => s.queuesRun) (fun s => s.spaceFreed k)

/-! ## Output lines -/

/-- R233: the slices stand still: a marker waits for space, or, paced, a line does. -/
def State.stalled (s : State) : Bool :=
  !s.dma.waiting.isEmpty || (List.range 8).any (fun k => (s.eq k).held.any (fun p => p.cls = 1))

/-- R206: the first line after a restart from the peg has been made. -/
def State.pegLeft (s : State) : State :=
  if s.trn.afterPeg then { (s.raise1 584 0) with trn := { (s.raise1 584 0).trn with afterPeg := false } } else s

/-- Lines of one output line number are delivered. -/
def State.deliverLines (s : State) (ls : List OutLine) : State := (s.eachOf ls (fun l t => t.deliverLine l)).pegLeft

/-- R205: the peg marker of line `j`. -/
def State.pegMarker (s : State) (j cause : Nat) : State :=
  let q := s.rdg.grids.headD default
  let m : Marker := {
    type_ := 1, cause := cause, line := j, count := 0, pos := s.posOfLine j, time := s.trn.decided, extra := 0, linePos := s.posOfLine j,
    lineTime := s.lineTime (q.at_ j), job := q.job, recipe := q.recipe }
  s.eachOf s.markerStreams (fun st s => s.putMarker st m)

/-- R205: the peg is the last line made: it is shown, announced and counted. -/
def State.fixPeg (s : State) : State :=
  match s.trn.pegOwed with
  | none => s
  | some cause =>
    let j := (s.rdg.next + 2 ^ 32 - 1) % 2 ^ 32
    let p := (s.rdg.grids.headD default).at_ j
    let s := ((s.wr 0x4804 8 j).wr 0x4804 9 (s.posOfLine j)).bump 0x4804 0xB
    let s := (s.pegMarker j cause).raise1 583 0
    { s with trn := { s.trn with peg := some p, pegOwed := none } }

/-- R205: every exposure of before the stop is converted, positioned and read. -/
def State.exposuresDone (s : State) : Bool :=
  (List.range 16).all (fun g =>
    (s.group g).running.isNone && (s.group g).due.isNone && (s.group g).latch.isNone && !(s.group g).flush) &&
  s.rdg.expos.all (fun e => e.discarded || (e.waiting.isEmpty && e.pos.isSome))

/-- R173: the next output line is made and delivered, if it is decided; when none is left after a stop, the peg is fixed. -/
def State.produceLine (s : State) (bad : List (Nat × Nat)) : State :=
  let s := s.ridgeReady bad
  match s.ridgeLine false with
  | none => if s.trn.pegOwed.isSome && s.exposuresDone then s.fixPeg else s
  | some (t, ls) => t.deliverLines ls

/-- The frames are read and the next line is made where it can be (with end extension where `force`); what follows it is `rest`. -/
def State.nextLine (force : Bool) (rest : State → State) (s : State) : State :=
  let s := s.ridgeReady []
  match s.ridgeLine force with
  | none => s
  | some (t, ls) => rest (t.deliverLines ls)

/-- R205, R188: up to `n` lines are made, as long as there is one. -/
def State.allLines (force : Bool) : Nat → State → State
  | 0 => id
  | n + 1 => State.nextLine force (State.allLines force n)

/-- OUTPUT_LINE_PRODUCED (R173): the slices read every closed frame of the line queues (`bad` names channels and words with bad
parity, R228) and make the next output line once every candidate in it is decided. -/
def execOutputLineProduced (dt : Nat) (bad : List (Nat × Nat)) (s : State) : Host.Outcome State Fault Refusal :=
  event dt s (fun s => s.live && !s.stalled) (fun s => s.produceLine bad)

/-! ## Entry and exit (R244, R245, R253, R259) -/

/-- R244, R245, R253, R260: engines and streams at entry to Scanning; every ring fetches. -/
def State.streamsEntry (s : State) : State :=
  let lmax := s.lMax
  let s := s.wr 0x5400 2 lmax
  let r := s.recipe s.activeRecipe
  let s := s.wr 0x5410 3 (nearest (s.rateOf r lmax) 1000000)
  let s := { s with dma := { s.dma with streams := default, limited := 0, waiting := [], creditAt := s.now } }
  let s := { s with dma := { s.dma with credit := s.groupMasks.foldl (fun v m => vupd v (groupNumber m) (fun _ => s.creditCap m)) default } }
  let s := s.each 8 (fun k s =>
    if !bit s.dev.running k then s.wr (0x5440 + k) 1 0
    else
      let s := s.wr (0x5440 + k) 1 (if s.compatEngine k then 2 else 1)
      if s.compatEngine k then s
      else
        let d := ringZeroDesc r (s.rdN 0x4442 3)
        let s := s.ringStore (descAddr k 0 0 0) (d.flatMap (le 4))
        let c : Chain := { at_ := 0, descs := [d.set 5 s.rdg.next], served := 0, first := none, lost := 0 }
        let s := (s.updRing k 0 (fun q => { q with run := some c })).setRing k 0 1
        s.each 3 (fun r s => s.fetchRing k (r + 1)))
  s.showLoads

/-- R23: a line is in progress: an exposure lies beyond the last line made. -/
def State.lineInProgress (s : State) : Bool :=
  let g := s.rdg.grids.headD default
  s.rdg.expos.any (fun e => !e.discarded && (match e.pos with | none => true | some p => decide (g.at_ s.rdg.next - g.pitch < p)))

/-- R259, R264, R188, R23: the exit from Scanning or Paused: last lines, pending runs and the line in progress announced, chains
written back, transfers aborted, rings off. -/
def State.streamsExit (s : State) (finish : Bool) : State :=
  let s := if finish then State.allLines true (s.rdg.expos.length + 16) s else s.ridgeReady []
  let s := s.cutWindows
  let s := s.omittedMarker
  let s := if s.lineInProgress then
      let g := s.rdg.grids.headD default
      s.eachOf s.markerStreams (fun st s => s.addRun st s.rdg.next 1 5 (s.posOfLine s.rdg.next) (s.lineTime (g.at_ s.rdg.next)))
    else s
  let s := s.eachOf (31 :: s.markerStreams) (fun st s => s.flushRun st)
  let s := s.eachOf s.chains (fun (k, r, _) s => s.endChain k r 7 false)
  let s := s.compatAbort
  let s := s.each 8 (fun k s => (s.wr (0x5440 + k) 0xC 0).wr (0x5440 + k) 1 0)
  { s with rdg := { s.rdg with expos := [], grids := [] } }

end Sys2Proof.Machine
end

