-- ==== Sys2Proof/Machine/DevBase.lean ====
section
/-!
DEFINITION. The device state itself (R21 to R24): how it changes, what a change to Paused asked by the transport does, and
requests from inside the device.
-/
namespace Sys2Proof.Machine

/-- R21, R26: the device is in another state; the transition is counted. -/
def State.toState (s : State) (d : DevState) : State :=
  { s.bump 0x2000 7 with dev := { (s.bump 0x2000 7).dev with st := d, move := .none } }

/-- R23: a change waits for the next line boundary. -/
def State.atBoundary (s : State) (d : DevState) : State := { s with dev := { s.dev with move := .boundary d, goal := d } }

/-- R207: a paced fault stop makes a scanning device Paused at the next line boundary. -/
def State.faultPause (s : State) : State :=
  if s.dev.st = .scanning ∧ s.dev.move = .none then s.atBoundary .paused else s

end Sys2Proof.Machine
end

