-- ==== Sys2Proof/Machine/Transport.lean ====
section
/-!
DEFINITION. Following the press and pacing the table (chapter 8): the encoder, the divider, the paced generator, the table's
profile, the pacing law, stops at the peg and restarts.
-/
namespace Sys2Proof.Machine

/-- Change the transport. -/
def State.updTrn (s : State) (f : TransportSt → TransportSt) : State := { s with trn := f s.trn }

/-- One bit of the encoder status 0x4801:08. -/
def State.encBit (s : State) (i : Nat) : Bool := bit (s.rdN 0x4801 8) i

/-! ## The divider (R198) -/

/-- R198: the first trigger point above the current position, in 2^-32 count. -/
def State.firstPoint (s : State) : Int :=
  let pitch : Int := s.rd 0x4802 1
  let phase : Int := s.rd 0x4802 2
  let p := s.extPos * 2 ^ 8
  phase + ((p - phase) / pitch + 1) * pitch

/-- R198: a position `p` (2^-24 count) reaches or passes the next point: a trigger at time `t`; the point advances once. -/
def State.divide (s : State) (t : Nat) (p : Int) (origin : Nat) : State :=
  match s.trn.nextPoint with
  | none => s
  | some q =>
    if q ≤ p * 2 ^ 8 then
      let s := (s.updTrn (fun x => { x with nextPoint := some (q + s.rd 0x4802 1) })).bump 0x4802 3
      s.ownTrigger t origin p
    else s

/-- R189, R198: the encoder divider makes triggers: inline, selected here or, on the Casby master, as the ring's origin. -/
def State.dividing (s : State) : Bool :=
  s.live && !s.paced && (s.rd 0x2050 1 = 1 || (s.rd 0x2050 1 = 3 && s.casbyState = 5 && s.rd 0x4880 6 = 1))

/-! ## The encoder (R193 to R197) -/

/-- R196: the press speed of the process data, while EtherCAT is in Op and inline. -/
def State.pressSpeed (s : State) : Option Int :=
  if !s.paced ∧ s.door.ec.st = .op ∧ s.door.ec.actSpeed ≠ 0 then some s.door.ec.actSpeed else none

/-- R196: consecutive counts against the press speed. -/
def State.againstPress (s : State) (step : Int) : State :=
  match s.pressSpeed with
  | none => s.updTrn (fun x => { x with against := 0 })
  | some v =>
    if step * v < 0 then
      let n := s.trn.against + 1
      let s := s.updTrn (fun x => { x with against := n })
      if s.rdN 0x4801 0xB < n then
        let s := s.updTrn (fun x => { x with reversedAt := s.now })
        if s.encBit 3 then s else (s.wrBit 0x4801 8 3 true).raise1 579 0
      else s
    else s.updTrn (fun x => { x with against := 0 })

/-- R208: encoder supervision runs. -/
def State.supervising (s : State) : Bool := s.drivesStep && s.rd 0x4803 0xA = 1 && s.live && !s.encBit 0 && !s.encBit 1

/-- R208: counts opposite to the commanded direction. -/
def State.againstCommand (s : State) (step : Int) : State :=
  if s.supervising && decide (step * s.trn.prof.v < 0) then
    let n := s.trn.supRev + 1
    let s := s.updTrn (fun x => { x with supRev := n })
    if s.rdN 0x4801 0xB < n ∧ !s.encBit 4 then
      ((s.wrBit 0x4801 8 4 true).raise1 580 0).updTrn (fun x => { x with supOff := true })
    else s
  else s.updTrn (fun x => { x with supRev := 0 })

/-- R193: one encoder count in the direction `step`. -/
def State.encoderCount (s : State) (step : Int) : State :=
  let t := s.fine
  let n := s.trn.enc + step
  let s := s.updTrn (fun x => { x with enc := n, encEdges := recentEdges t ((t, n) :: x.encEdges) })
  let s := if s.trn.overTold && decide (s.encoderSpeed ≤ s.rd 0x4800 5) then s.updTrn (fun x => { x with overTold := false }) else s
  let s := (s.againstPress step).againstCommand step
  if s.paced ∨ s.casbyPosition then s
  else
    let s := s.addEdge t (n * 2 ^ 24)
    if 0 < step ∧ s.dividing then s.divide t (n * 2 ^ 24) 0 else s

/-- R193: an illegal transition; the first of a run is a raise of EV0576. -/
def State.illegalTransition (s : State) : State :=
  let first := match s.trn.illegal with | none => true | some t => decide (t + 1000000 ≤ s.now)
  ((s.bump 0x4801 9).raiseIf first 576 0).updTrn (fun x => { x with illegal := some s.now })

/-- ENCODER_EDGE (R193): the filtered levels of A and B are now `a` and `b`; both changing is illegal. -/
def execEncoderEdge (dt : Nat) (a b : Bool) (s : State) : Host.Outcome State Fault Refusal :=
  timed dt s (fun s => s.trn.counting) (fun s =>
    let ca := a ≠ s.trn.encA
    let cb := b ≠ s.trn.encB
    let lead := if ca then a ≠ b else a = b
    let s := s.updTrn (fun x => { x with encA := a, encB := b })
    if s.encBit 0 ∨ s.encBit 1 then s
    else if ca ∧ cb then s.illegalTransition
    else if ca ∨ cb then s.encoderCount (if lead = (s.rd 0x4801 1 = 0) then 1 else -1)
    else s)

/-- ILLEGAL_RUN_END (R193): 1 ms without an illegal transition. -/
def execIllegalRunEnd (dt : Nat) (s : State) : Host.Outcome State Fault Refusal :=
  event dt s (fun s => match s.trn.illegal with | none => false | some t => decide (t + 1000000 ≤ s.now)) (fun s =>
    s.updTrn (fun x => { x with illegal := none }))

/-- ENCODER_Z_EDGE (R194): a rising index edge latches position and time, applies a pending zero, and is checked. -/
def execEncoderZEdge (dt : Nat) (s : State) : Host.Outcome State Fault Refusal :=
  timed dt s (fun s => s.trn.counting && s.rd 0x4801 3 = 1 && !s.encBit 2) (fun s =>
    let zeroed := s.trn.zeroNext
    let s := if zeroed then s.updTrn (fun x => { x with zero := -(s.extPos / 2 ^ 24), zeroNext := false }) else s
    let p := s.reported
    let turn : Int := s.rd 0x4801 4
    let d := Ty.i32.wrap ((p : Int) - s.trn.lastZ.getD 0)
    let wrong := turn ≠ 0 ∧ !zeroed ∧ s.trn.lastZ.isSome ∧ 4 < (((d.natAbs : Int) - turn).natAbs)
    let s := if wrong then (s.bump 0x4801 0xA).raise1 578 0 else s
    ((s.wr 0x4801 6 p).wr 0x4801 7 s.fine).updTrn (fun x => { x with lastZ := some p }))

/-- R194: the zero offset is set at the next Z edge. -/
def opZeroNext : Op := fun _ s => (s.updTrn (fun x => { x with zeroNext := true }), 0)

/-- ZERO_AT_NEXT_Z (R194): a write of 1 to 0x4801:05. -/
def execZeroAtNextZ (dt : Nat) (m : Fin 17) (s : State) : Host.Outcome State Fault Refusal :=
  hostCommand dt m 0x4801 5 1 opZeroNext s

/-- ENCODER_LINE_OPEN (R195): pair 0 A, 1 B or 2 Z open or shorted for 2 µs. -/
def execEncoderLineOpen (dt : Nat) (pair : Fin 3) (s : State) : Host.Outcome State Fault Refusal :=
  timed dt s (fun s => s.trn.counting && !s.encBit pair) (fun s => (s.wrBit 0x4801 8 pair true).raise1 577 0)

/-- R195: the marker of a break: the web that passed is represented by no line. -/
def State.breakMarker (s : State) : State :=
  if !s.live then s
  else
    let q := s.rdg.grids.headD default
    let m : Marker := {
      type_ := 3, cause := 7, line := s.rdg.next, count := 0xFFFFFFFF, pos := unknownPos, time := s.fine, extra := 0,
      linePos := unknownPos, lineTime := s.fine, job := q.job, recipe := q.recipe }
    s.eachOf s.markerStreams (fun st s => ((s.flushRun st).putMarker st m).updStream st (fun q => { q with afterGap := true }))

/-- ENCODER_LINE_RESTORED (R195): 100 µs of valid input; once A and B are both valid, inline with local positions, each stream
is told. -/
def execEncoderLineRestored (dt : Nat) (pair : Fin 3) (s : State) : Host.Outcome State Fault Refusal :=
  timed dt s (fun s => s.encBit pair) (fun s =>
    let s := s.wrBit 0x4801 8 pair false
    if pair.val < 2 ∧ !s.encBit 0 ∧ !s.encBit 1 ∧ !s.paced ∧ !s.casbyPosition then s.breakMarker.raise1 587 0 else s)

/-- R196: the encoder speed differs from the press speed by more than the tolerance. -/
def State.pressMismatch (s : State) : Bool :=
  match s.pressSpeed with
  | none => false
  | some v => decide ((s.rdN 0x4801 0xC * v.natAbs : Nat) < 100 * (s.encoderSpeed - v).natAbs)

/-- PRESS_SPEED_MISMATCH (R196): it has differed for 100 ms. -/
def execPressSpeedMismatch (dt : Nat) (s : State) : Host.Outcome State Fault Refusal :=
  event dt s State.pressMismatch (fun s =>
    let s := if s.encBit 5 then s else (s.wrBit 0x4801 8 5 true).raise1 585 0
    s.updTrn (fun x => { x with mismatchAt := s.now }))

/-- PRESS_OVERSPEED (R196): the encoder speed over 1 ms is above the maximum press speed; once per excursion. -/
def execPressOverspeed (dt : Nat) (s : State) : Host.Outcome State Fault Refusal :=
  event dt s (fun s => !s.paced && !s.trn.overTold && decide (s.rd 0x4800 5 < s.encoderSpeed)) (fun s =>
    (s.raise1 586 0).updTrn (fun x => { x with overTold := true }))

/-- ENCODER_STATUS_CLEAR (R197): bits 3 and 5 clear once their condition has been absent for 100 ms. -/
def execEncoderStatusClear (dt : Nat) (s : State) : Host.Outcome State Fault Refusal :=
  event dt s (fun s => s.encBit 3 || s.encBit 5) (fun s =>
    let s := if s.encBit 3 && s.elapsed s.trn.reversedAt 100000000 then s.wrBit 0x4801 8 3 false else s
    if s.encBit 5 && !s.pressMismatch && s.elapsed s.trn.mismatchAt 100000000 then s.wrBit 0x4801 8 5 false else s)

/-- TRANSPORT_STOP_TIMEOUT (R191): no count edge within t_stop: the last position is final. -/
def execTransportStopTimeout (dt : Nat) (s : State) : Host.Outcome State Fault Refusal :=
  timed dt s (fun s => !s.trn.stopped && (match s.trn.edges with
      | [] => false
      | e :: _ => decide (e.1 + s.tStop ≤ s.fine)))
    (fun s => s.updTrn (fun x => { x with stopped := true }))

/-! ## Speeds and distances (R202, R203); speeds in fm/s, distances in nm -/

/-- A speed of µm/s in fm/s. -/
def fmps (um : Nat) : Int := (um : Int) * 10 ^ 9

/-- R202: the distance from standstill to speed `v`, in nm, rounded up. -/
def State.rampNm (s : State) (v : Int) : Nat :=
  let w := v.natAbs / 10 ^ 6
  let a := s.rdN 0x4803 6 * 1000
  let j := s.rdN 0x4803 7 * 1000
  if a * a ≤ w * j then cdiv (w * (w * j + a * a)) (2 * a * j)
  else isqrt (w * w * w / j) + 1

/-- A distance of `nm` in 2^-24 step. -/
def State.nmToSteps (s : State) (nm : Nat) : Int := s.pmToCounts ((nm : Int) * 1000)

/-- R203: a line rate in ln/s as a speed, with c_line in 2^-24 count. -/
def State.rateSpeed (s : State) (lines c : Nat) : Int := ((lines * c * s.scale : Nat) : Int) * 1000 / 2 ^ 24

/-- R169: the output line spacing in force. -/
def State.cNow (s : State) : Nat := (s.rdg.grids.headD default).pitch

/-- R203: v_lim. -/
def State.vLim (s : State) : Int := min (fmps (s.rdN 0x4800 6)) (s.rateSpeed (s.rdN 0x5A00 0xD) s.cNow)

/-- The pacing state 0x4804:05. -/
def State.pacing (s : State) : Nat := s.rdN 0x4804 5
/-- The pacing state changes. -/
def State.setPacing (s : State) (v : Nat) : State := s.wr 0x4804 5 v

/-- Change the profile. -/
def State.updProf (s : State) (f : Profile → Profile) : State := s.updTrn (fun x => { x with prof := f x.prof })

/-- R201: the table is about to move: MEN is asserted, and the move waits 10 ms where it was not. -/
def State.readyMotor (s : State) : State :=
  if s.trn.men ∨ s.rd 0x4803 4 = 0 ∨ !s.can.stepper then s.updTrn (fun x => { x with restAt := none })
  else (s.updTrn (fun x => { x with men := true, restAt := none })).updProf (fun p => { p with after := s.now + 10000000 })

/-- The profile heads for a speed; a standing table starts from now. -/
def State.headFor (s : State) (v : Int) : State :=
  s.updProf (fun p => { p with target := v, upTo := if p.v = 0 ∧ p.a = 0 ∧ p.target = 0 then max s.now p.after else p.upTo })

/-- The table rests. -/
def State.restTable (s : State) : State :=
  (s.updProf (fun p => { p with v := 0, a := 0, target := 0, stopAt := none })).updTrn (fun x => { x with restAt := some s.now })

/-! ## Stops and restarts (R205 to R207) -/

/-- R205: a stop is decided: no more triggers; the restart speed is fixed; flush cycles follow. -/
def State.decideStop (s : State) (cause : Nat) : State :=
  let vr := max (fmps (s.rdN 0x4803 9)) (min s.trn.prof.v s.vLim)
  let s := s.wr 0x4804 0xA cause
  let s := s.each 16 (fun g s => s.updGroup g (fun q => { q with flush := s.lagged g && s.groupRuns g }))
  s.updTrn (fun x => { x with decided := s.fine, pegOwed := some cause, peg := none, vr := vr, slow := 0, restart := false })

/-- R205, R210: a peg stop with a profile; before the first trigger after a restart the peg stays. -/
def State.pegStop (s : State) (cause : Nat) : State :=
  if s.pacing = 1 then ((s.decideStop cause).setPacing 2).updProf (fun p => { p with target := 0 })
  else if s.pacing = 5 then ((s.wr 0x4804 0xA cause).setPacing 2).updProf (fun p => { p with target := 0 })
  else s

/-- R207: MFLT: STEP stops at once, MEN is released, the pacing state is 6. -/
def State.motorStop (s : State) : State :=
  let s := if s.pacing = 1 then s.decideStop 4 else s.wr 0x4804 0xA 4
  let s := s.restTable.updTrn (fun x => { x with men := false, restart := false })
  (s.setPacing 6).faultPause

/-- R205: the run-up u in 2^-24 step. -/
def State.runUp (s : State) : Int := s.nmToSteps (s.rampNm s.trn.vr) + s.rdN 0x4803 8 * s.cNow

/-- R205: backing to the peg minus the run-up begins. -/
def State.beginBacking (s : State) : State :=
  let s := s.readyMotor.setPacing 3
  (s.updProf (fun p => { p with stopAt := some (min p.travel ((s.trn.peg.getD p.travel) - s.runUp)) })).headFor (-s.trn.vr)

/-- R206: the restart begins. -/
def State.beginRestart (s : State) : State :=
  let s := s.readyMotor.setPacing 5
  let s := s.headFor (min s.trn.vr s.vLim)
  let s := s.each 16 (fun g s => s.updGroup g (fun q => { q with priming := s.lagged g && s.groupRuns g }))
  s.updTrn (fun x => { x with
    restart := false, afterPeg := true, slow := 0, following := false, supEnc := x.enc, supStep := x.steps, supRev := 0,
    prof := { x.prof with stopAt := none } })

/-- R206, R207: a write of 3 ends Paused in paced mode; the code it is refused with, or 0. -/
def State.resumePaced (s : State) : State × Nat :=
  if !s.drivesStep then (s, 0)
  else match s.pacing with
    | 4 => (s.beginRestart, 0)
    | 2 => (s.updTrn (fun x => { x with restart := true }), 0)
    | 3 => (s.updTrn (fun x => { x with restart := true }), 0)
    | 6 =>
      if s.trn.following then (s, 7)
      else match s.trn.faultAt with
        | some t =>
          if s.now < t + 10000000 then (s, 7)
          else (s.beginBacking.updTrn (fun x => { x with restart := true, faultAt := none }), 0)
        | none => (s.beginRestart, 0)
    | _ => (s, 0)

/-- DECELERATION_DONE (R205, R207): the table is at rest after a stop: it begins backing, or in Standby idles. -/
def execDecelerationDone (dt : Nat) (s : State) : Host.Outcome State Fault Refusal :=
  timed dt s (fun s => s.pacing = 2 && s.trn.prof.v = 0 && s.trn.prof.a = 0 && s.trn.prof.target = 0) (fun s =>
    let s := s.updTrn (fun x => { x with restAt := some s.now })
    if !s.live then s.setPacing 0
    else
      let s := if s.trn.pegOwed.isSome then (State.allLines false (s.rdg.expos.length + 16) s).fixPeg else s
      s.beginBacking)

/-- BACKING_DONE (R205, R206): the table rests at the peg minus the run-up, or a pending restart begins. -/
def execBackingDone (dt : Nat) (s : State) : Host.Outcome State Fault Refusal :=
  timed dt s (fun s => s.pacing = 3 && s.trn.prof.v = 0 && some s.trn.prof.travel = s.trn.prof.stopAt) (fun s =>
    let s := s.restTable
    if s.trn.restart then s.beginRestart
    else s.setPacing (if s.rd 0x4804 0xA = 4 ∨ s.rd 0x4804 0xA = 5 then 6 else 4))

/-- MOTOR_ENABLE_HOLD_EXPIRY (R201): MEN is released the hold time after the table came to rest. -/
def execMotorEnableHoldExpiry (dt : Nat) (s : State) : Host.Outcome State Fault Refusal :=
  event dt s (fun s => s.trn.men && s.rd 0x4803 4 ≠ 0 && s.trn.prof.v = 0 && (match s.trn.restAt with
      | some t => s.elapsed t (s.rdN 0x4803 4 * 1000000)
      | none => false))
    (fun s => s.updTrn (fun x => { x with men := false }))

/-- MOTOR_FAULT (R207): MFLT has been active for 1 µs in paced mode. -/
def execMotorFault (dt : Nat) (s : State) : Host.Outcome State Fault Refusal :=
  timed dt s (fun s => s.drivesStep) (fun s =>
    let s := (s.raise1 582 0).updTrn (fun x => { x with faultAt := some s.now })
    if s.live then s.motorStop else s.restTable.updTrn (fun x => { x with men := false }))

/-! ## The profile (R202) -/

/-- R202: one period of 10 µs: the next speed and acceleration towards a target, within a_max (nm/s²) and `dj`, the most
that the acceleration may change. -/
def profileStep (v a target aMax dj j : Int) : Int × Int :=
  let settle := v + a * a.natAbs * 10 ^ 6 / (2 * j)
  let b := if settle < target then min (a + dj) aMax else if target < settle then max (a - dj) (-aMax)
    else if 0 < a then max 0 (a - dj) else min 0 (a + dj)
  let w := v + 10 * b
  if (target - w).natAbs ≤ (20 * dj).natAbs ∧ b.natAbs ≤ (2 * dj).natAbs then (target, 0) else (w, b)

/-- R202: a move to an end point brakes in time. -/
def State.moveTarget (s : State) (p : Profile) : Int :=
  match p.stopAt with
  | none => p.target
  | some e => if p.travel - e ≤ s.nmToSteps (s.rampNm p.v) + s.nmToSteps (p.v.natAbs / 10 ^ 10) then 0 else p.target

/-- STEP edges between two table positions within 10 µs from `t`, oldest first: time and count. -/
def stepEdges (t : Nat) (a b : Int) : List (Nat × Int) :=
  let n0 := a / 2 ^ 24
  let n1 := b / 2 ^ 24
  if n0 ≤ n1 then (List.range (n1 - n0).toNat).map (fun (i : Nat) =>
    (t + (10000 * ((n0 + 1 + i) * 2 ^ 24 - a) / max 1 (b - a)).toNat, n0 + 1 + i))
  else (List.range (n0 - n1).toNat).map (fun (i : Nat) =>
    (t + (10000 * (a - (n0 - i) * 2 ^ 24) / max 1 (a - b)).toNat, n0 - 1 - i))

/-- R208: the difference between encoder travel and step travel since the last restart exceeds the limit. -/
def State.followingError (s : State) : Bool :=
  s.supervising && !s.trn.supOff && decide (s.rdN 0x4803 0xB * 1000000 <
    ((s.trn.enc - s.trn.supEnc) * s.rdN 0x4800 3 - (s.trn.steps - s.trn.supStep) * s.rdN 0x4800 4).natAbs)

/-- R208, R207: a following error stops the table with cause 5. -/
def State.checkFollowing (s : State) : State :=
  let bad := s.followingError
  let s' := s.updTrn (fun x => { x with following := bad })
  if bad ∧ !s.trn.following then ((s'.raise1 581 0).pegStop 5).faultPause else s'

/-- R202: the profile is computed for one more period and its STEP edges are made. -/
def State.profilePeriod (s : State) : State :=
  let p := s.trn.prof
  let j := s.rdN 0x4803 7 * 1000
  let aMax := s.rdN 0x4803 6 * 1000
  let (v, a) := profileStep p.v p.a (s.moveTarget p) aMax (max 1 (j / 100000)) j
  let to_ := p.travel + v * 2 ^ 24 / (10 ^ 8 * (s.rdN 0x4800 4 : Int))
  let done := match p.stopAt with
    | some e => decide (to_ ≤ e) || (v = 0 && a = 0 && decide (to_ - e < 2 ^ 25))
    | none => false
  let to_ := if done then p.stopAt.getD to_ else to_
  let t0 := (p.upTo + s.compassOff) % 2 ^ 64
  let edges := stepEdges t0 p.travel to_
  let s := s.updTrn (fun x => { x with
    steps := to_ / 2 ^ 24
    prof := { p with
      v := if done then 0 else v, a := if done then 0 else a, target := if done then 0 else p.target, travel := to_, upTo := p.upTo + 10000 } })
  let s := s.wr 0x4803 0xC (s.trn.prof.v / 10 ^ 9)
  let s := if s.casbyPosition then s else s.eachOf edges (fun e s => s.addEdge e.1 (e.2 * 2 ^ 24))
  s.checkFollowing

/-- PROFILE_UPDATE (R202): every 10 µs. -/
def execProfileUpdate (dt : Nat) (s : State) : Host.Outcome State Fault Refusal :=
  timed dt s (fun s => s.paced && (s.drivesStep || s.trn.prof.v ≠ 0) && decide (s.trn.prof.upTo + 10000 ≤ s.now)) (fun s =>
    if s.trn.prof.v = 0 ∧ s.trn.prof.a = 0 ∧ s.trn.prof.target = 0 then s.updProf (fun p => { p with upTo := s.now })
    else s.profilePeriod)

/-- R198: the oldest STEP edge that reaches the next point. -/
def State.pointEdge (s : State) : Option (Nat × Int) :=
  match s.trn.nextPoint with
  | none => none
  | some q => (s.trn.edges.takeWhile (fun e => q ≤ e.2 * 2 ^ 8)).getLast?

/-- PACED_GENERATOR_TRIGGER (R198, R206): a STEP edge has reached the next point. -/
def execPacedGeneratorTrigger (dt : Nat) (s : State) : Host.Outcome State Fault Refusal :=
  timed dt s (fun s => s.drivesStep && s.dev.st = .scanning && (s.rd 0x2050 1 = 2 || s.rd 0x2050 1 = 3) &&
      (s.pacing = 1 || s.pacing = 5) && s.pointEdge.isSome)
    (fun s => match s.pointEdge with
      | none => s
      | some (t, p) => s.divide t p 1)

/-! ## The pacing law (R203) -/

/-- Payload bytes sent on all links in the last 800 µs. -/
def State.drained (s : State) : Nat :=
  ((List.range 16).map (fun n =>
    (((s.link n).used.filter (fun u => s.now < u.1 + 800000)).map (fun u => u.2.1)).sum)).sum

/-- R203: this device's drain in ln/s; B_line is the byte count of one output line over all streams. -/
def State.drainLines (s : State) : Nat :=
  let bits := ((s.streamsOn.map (fun n => if n = 0 then s.rateOf (s.recipe s.activeRecipe) 1
    else s.rdN (0x5410 + n) 3 * 1000000 / max 1 (s.rdN 0x5400 2)))).sum
  s.drained * 1250 * 8 / max 1 bits

/-- R203: the fill of this device's running clusters. -/
def State.ownFill (s : State) : Nat := (((List.range 8).filter (bit s.dev.running)).map (fun k => (s.eq k).fill)).foldl max 0

/-- R203: paced followers heard within 3 ms. -/
def State.pacedPeers (s : State) : List Peer :=
  if s.rd 0x2050 1 = 3 then s.csb.peers.toList.filter (fun p => p.known && decide (s.now ≤ p.heard + 3000000)) else []

/-- R203, R210: the restart condition. -/
def State.restartDue (s : State) (f : Nat) : Bool :=
  decide (f ≤ s.rdN 0x4804 3) && s.dev.st = .scanning && s.dev.move = .none &&
    (match s.trn.faultAt with | none => true | some t => decide (t + 10000000 ≤ s.now)) && decide (fmps (s.rdN 0x4803 9) ≤ s.vLim)

/-- PACING_PERIOD (R203): every 100 µs the law sets the table's speed, a stop or a restart. -/
def execPacingPeriod (dt : Nat) (s : State) : Host.Outcome State Fault Refusal :=
  timed dt s (fun s => s.live && s.drivesStep) (fun s =>
    let peers := s.pacedPeers
    let f := (peers.map (·.fill)).foldl max s.ownFill
    let ld := (peers.map (·.drain)).foldl min s.drainLines
    let s := (s.wr 0x4804 6 f).wr 0x4804 7 (s.drained * 5 / 4)
    if s.pacing = 1 ∧ s.dev.st = .scanning then
      if s.rdN 0x4804 2 ≤ f then s.pegStop 1
      else
        let gain := s.vLim * s.rdN 0x4804 4 * ((s.rdN 0x4804 1 : Int) - f) / (256 * 1000)
        let v := limit 0 s.vLim (s.rateSpeed ld s.cNow + gain)
        let n := if v < fmps (s.rdN 0x4803 9) then s.trn.slow + 1 else 0
        let s := s.updTrn (fun x => { x with slow := n })
        if 200 ≤ n then s.pegStop 2 else s.readyMotor.headFor v
    else if s.pacing = 4 ∧ s.restartDue f then s.beginRestart
    else if (s.pacing = 2 ∨ s.pacing = 3) ∧ s.rd 0x4804 0xA ≤ 2 ∧ s.restartDue f then s.updTrn (fun x => { x with restart := true })
    else s)

/-! ## Entry and exit -/

/-- R189, R198, R199, R203: the transport at entry to Scanning. -/
def State.transportEntry (s : State) : State :=
  let s := { s with csb := { s.csb with drives := s.casbyState = 5, ahead := [] } }
  let s := s.wr 0x4800 0xC s.eMax
  let s := s.updTrn (fun x => { x with
    nextPoint := some s.firstPoint, pegOwed := none, peg := none, slow := 0, restart := false, afterPeg := false, following := false,
    supEnc := x.enc, supStep := x.steps, supRev := 0, against := 0 })
  if s.drivesStep then s.setPacing 1 else s.setPacing 0

/-- R207: the transport at the exit to Standby: the table decelerates; the grid and the next point are discarded. -/
def State.transportExit (s : State) (fatal : Bool) : State :=
  let s := if fatal && s.drivesStep then s.wr 0x4804 0xA 6 else s
  let s := { s with csb := { s.csb with ahead := [] } }
  let s := s.updTrn (fun x => { x with
    nextPoint := none, pegOwed := none, peg := none, restart := false, afterPeg := false, prof := { x.prof with target := 0, stopAt := none } })
  if s.trn.prof.v = 0 ∧ s.trn.prof.a = 0 then s.setPacing 0 else s.setPacing 2

/-- R201: at entry to Bivouac MEN is released and the table stands. -/
def State.transportSleep (s : State) : State :=
  (s.restTable.updTrn (fun x => { x with men := false, restAt := none })).setPacing 0

/-- R205: the device's Paused at the host's request stops a paced table. -/
def State.transportPause (s : State) : State := if s.paced && s.drivesStep then s.pegStop 3 else s

/-- R208: the reversal bit clears at a write to 0x4801:01 or 0x4803:0A. -/
def State.clearReversal (s : State) : State := (s.wrBit 0x4801 8 4 false).updTrn (fun x => { x with supOff := false, supRev := 0 })

end Sys2Proof.Machine
end

