-- ==== Sys2Proof/Machine/Casby.lean ====
section
/-!
DEFINITION. The Casby port and ring (R211 to R221).
-/
namespace Sys2Proof.Machine

/-- Change the Casby part. -/
def State.updCsb (s : State) (f : CasbySt → CasbySt) : State := { s with csb := f s.csb }

/-- The Casby state changes. -/
def State.setCasby (s : State) (v : Nat) : State := s.wr 0x4880 8 v

/-! ## The port (R211, R212) -/

/-- R211: the port runs in Standby, Scanning and Paused while enabled, and is off otherwise. -/
def State.casbyPower (s : State) : State :=
  if s.rd 0x4880 1 = 1 && s.queuesRun then
    if s.casbyState = 0 then (s.setCasby 1).updCsb (fun c => { c with swapped := false, tryAt := s.now + 2000000 }) else s
  else
    ((s.setCasby 0).wr 0x4880 0xF 0).updCsb (fun c => { (default : CasbySt) with
      drives := c.drives, scale := c.scale, seqs := c.seqs, trigOut := c.trigOut, sent := c.sent, passed := c.passed, again := c.again })

/-- CASBY_PORT_LOCK (R212): the receiver locks; `inverted`: with P and N swapped. -/
def execCasbyPortLock (dt : Nat) (inverted : Bool) (s : State) : Host.Outcome State Fault Refusal :=
  timed dt s (fun s => s.casbyState = 1) (fun s =>
    let v := b2n s.csb.swapped + 2 * b2n inverted
    let s := ((s.wr 0x4880 0xC v).setCasby 2).raiseIf (v ≠ 0) 600 0
    s.updCsb (fun c => { c with locked := true, lockedAt := s.now, heardTime := none, trigIn := none }))

/-- R212: the dwell before the other assignment is tried, 2 to 4 ms, from the unique ID. -/
def dwell : Nat := 2000000 + Config.dwellBits.toNat % 2000001

/-- CASBY_PAIR_SWAP_TRY (R212): no valid signal for 2 ms, or for the dwell: the other assignment is tried. -/
def execCasbyPairSwapTry (dt : Nat) (s : State) : Host.Outcome State Fault Refusal :=
  timed dt s (fun s => s.casbyState = 1 && decide (s.csb.tryAt ≤ s.now)) (fun s =>
    s.updCsb (fun c => { c with swapped := !c.swapped, tryAt := s.now + dwell }))

/-- R213: a frame arrives: a bad one is counted; a good one of the type in question acts. -/
def State.received (s : State) (symbols : Bool) (bs : List Byte) (type_ : Nat) (act : Frame → State → State) : State :=
  if !s.onRing then s
  else match frameOf symbols bs with
    | none => (s.bump 0x4880 0x10).raise1 604 0
    | some f => if f.type_ = type_ then act f s else s

/-! ## Elections (R215) -/

/-- The payload of this device's own election frame, or announce. -/
def State.ownElection (s : State) (announce : Bool) : List Byte :=
  le 1 (s.rdN 0x4880 2) ++ le 8 Config.uniqueId ++ le 1 0 ++ le 1 (b2n announce)

/-- R215: an election frame is sent now. -/
def State.sendElection (s : State) : State :=
  (s.sendFrame 0 (s.ownElection false)).updCsb (fun c => { c with electAt := s.now })

/-- CASBY_ELECTION_START (R215): locked, and no time frame for 10 ms. -/
def execCasbyElectionStart (dt : Nat) (s : State) : Host.Outcome State Fault Refusal :=
  timed dt s (fun s => (s.casbyState = 2 || s.casbyState = 4) &&
      decide (max s.csb.lockedAt (s.csb.heardTime.getD 0) + 10000000 ≤ s.now))
    (fun s => ((s.setCasby 3).updCsb (fun c => { c with beaten := false })).sendElection)

/-- CASBY_ELECTION_SEND (R215): every 1 ms while electing, until a better frame has been forwarded. -/
def execCasbyElectionSend (dt : Nat) (s : State) : Host.Outcome State Fault Refusal :=
  timed dt s (fun s => s.casbyState = 3 && !s.csb.beaten && decide (s.csb.electAt + 1000000 ≤ s.now)) State.sendElection

/-- R215: a master is elected: EV0602, counted. -/
def State.elected (s : State) (pos size master : Nat) : State :=
  (((((s.wr 0x4880 0xA pos).wr 0x4880 9 size).wr 0x4880 0xB master).bump 0x4880 0x13).raise1 602 0).updCsb (fun c => { c with
    peers := default, trigIn := none, jobMiss := 0, near := 0, far := 0 })

/-- R217: at an election the lead is at least T_ring + 3.3 µs. -/
def State.raiseLead (s : State) : State :=
  let least := s.csb.ringDelay + 3300
  let was := s.rdN 0x4880 5
  if was < least then (s.wr 0x4880 5 least).ownClamp 0x4880 5 4 was least else s

/-- R215: this device's own election frame has returned over `size` devices. -/
def State.winElection (s : State) (size : Nat) : State :=
  let s := s.updCsb (fun c => { c with ringDelay := s.now - c.electAt, unreturned := 0, timeAt := s.now })
  let s := (s.setCasby 5).elected 0 size Config.uniqueId
  ((s.wr 0x4880 0xD s.csb.ringDelay).raiseLead).sendFrame 0 (s.ownElection true)

/-- R215: a frame is forwarded with its hop count increased. -/
def State.forwardElection (s : State) (f : Frame) (hop : Nat) : State :=
  s.putFrame { f with payload := overlay f.payload 9 (le 1 (hop + 1)) }

/-- R215: an election frame or an announce arrives. -/
def State.electionFrame (f : Frame) (s : State) : State :=
  let prio := fieldAt f.payload 0 1
  let uid := fieldAt f.payload 1 8
  let hop := fieldAt f.payload 9 1
  let announce := fieldAt f.payload 10 1 % 2 = 1
  let own := uid = Config.uniqueId
  let mine := s.rdN 0x4880 2
  let better := mine < prio ∨ (mine = prio ∧ uid < Config.uniqueId)
  if announce then
    if own then s
    else if s.casbyState = 5 ∧ ¬ better then s
    else ((s.forwardElection f hop).setCasby 4).elected (hop + 1) (hop + 2) uid |>.updCsb (fun c => { c with heardTime := some s.now })
  else if 8 ≤ hop then (s.setCasby 6).raise1 603 0
  else if own then (if s.casbyState = 3 then s.winElection (hop + 1) else s)
  else if s.casbyState = 5 then s.sendFrame 0 (s.ownElection true)
  else if better then (s.forwardElection f hop).updCsb (fun c => { c with beaten := true })
  else s

/-- CASBY_ELECTION_FRAME (R215, R213): `bs` are the bytes between start and end of frame. -/
def execCasbyElectionFrame (dt : Nat) (symbols : Bool) (bs : List Byte) (s : State) : Host.Outcome State Fault Refusal :=
  timed dt s (fun _ => true) (fun s => s.received symbols bs 0 State.electionFrame)

/-! ## Time (R214, R216) -/

/-- R216: a measured offset, in ns: stepped or slewed, and the lock judged. -/
def State.measured_ (s : State) (off : Int) : State :=
  let most : Int := ((s.now - s.csb.measuredAt) / 10000 : Nat)
  let s := (s.wr 0x4880 0xE off).updCsb (fun c => { c with measuredAt := s.now })
  let shift := fun (s : State) (d : Int) => { s with compassOff := ((s.compassOff + d) % 2 ^ 64).toNat }
  let s := if !s.live ∧ 10000 < off.natAbs then (shift s off).raise1 913 0 else shift s (limit (-most) most off)
  let s := s.raiseIf (decide (1000 < off.natAbs)) 912 0
  let near : Nat := if off.natAbs ≤ 2 then s.csb.near + 1 else 0
  let far : Nat := if 8 < off.natAbs then s.csb.far + 1 else 0
  let s := s.updCsb (fun c => { c with near := near, far := far })
  if 64 ≤ near then s.wr 0x4880 0xF 1 else if 4 ≤ far then s.wr 0x4880 0xF 0 else s

/-- CASBY_TIME_SEND (R214): the master sends a time frame every 100 µs; three that fail to return raise EV0601. -/
def execCasbyTimeSend (dt : Nat) (s : State) : Host.Outcome State Fault Refusal :=
  timed dt s (fun s => s.casbyState = 5 && decide (s.csb.timeAt + 100000 ≤ s.now)) (fun s =>
    let s := s.raiseIf (s.csb.unreturned = 3) 601 0
    let p := s.localPos
    let s := s.sendFrame 1 (le 8 s.fine ++ le 4 s.csb.ringDelay ++ le 4 (s.rdN 0x4880 5) ++ posField p ++ le 4 s.scale ++ le 1 s.pacing)
    let s := s.updCsb (fun c => { c with timeAt := s.now, unreturned := c.unreturned + 1 })
    if s.casbyPosition then s.casbySample s.fine p else s)

/-- R217, R198: a Casby sample as a count edge of the position in use; a forward one may be a trigger of the divider. -/
def State.casbyEdge (s : State) (t : Nat) (p : Int) : State :=
  let forward := decide (s.trn.casby < p)
  let s := s.casbySample t p
  if forward && s.live && !s.paced && s.casbyPosition && s.rd 0x2050 1 = 1 then s.divide t p 0 else s

/-- R214, R216: a time frame arrives. -/
def State.timeFrame (f : Frame) (s : State) : State :=
  let t := fieldAt f.payload 0 8
  if s.casbyState = 5 then
    if f.origin = s.rdN 0x4880 0xA then
      (s.wr 0x4880 0xD (s.fine - t)).updCsb (fun c => { c with ringDelay := s.fine - t, unreturned := 0 })
    else s
  else
    let ring := fieldAt f.payload 8 4
    let s := s.updCsb (fun c => { c with
      heardTime := some s.now, ringDelay := ring, lead := fieldAt f.payload 12 4, scale := fieldAt f.payload 22 4,
      masterPacing := fieldAt f.payload 26 1 })
    let s := s.wr 0x4880 0xD ring
    let s := if s.casbyState = 2 ∧ s.rdN 0x4880 9 ≠ 0 then s.setCasby 4 else s
    let n : Int := max 1 (s.rd 0x4880 9)
    let i : Int := s.rd 0x4880 0xA
    let expected : Int := (t : Int) + i * ((ring : Int) - (n - 1) * 400) / n + (i - 1) * 400 + s.rd 0x4880 4
    let pos := posNear s.trn.casby (fieldAt f.payload 16 6)
    let s := if s.rd 0x4880 3 = 2 then s.measured_ (expected - s.fine) else s
    s.casbyEdge t pos

/-- CASBY_TIME_FRAME (R216). -/
def execCasbyTimeFrame (dt : Nat) (symbols : Bool) (bs : List Byte) (s : State) : Host.Outcome State Fault Refusal :=
  timed dt s (fun _ => true) (fun s => s.received symbols bs 1 State.timeFrame)

/-! ## Triggers (R217) -/

/-- R217: a missing trigger number at a follower. -/
def State.missTrigger (s : State) : State :=
  let s := (s.bump 0x4880 0x11).raise1 605 0
  if s.rd 0x2050 1 = 3 ∧ s.triggersAct then s.each 16 (fun g s => if s.groupRuns g then s.dropTrigger g else s) else s

/-- R218: the job byte of a trigger frame. -/
def State.jobByte (s : State) (job : Nat) : State :=
  let n := if job = s.rdN 0x4210 2 % 256 then 0 else s.csb.jobMiss + 1
  (s.updCsb (fun c => { c with jobMiss := n })).raiseIf (n = 16) 608 0

/-- R217: a trigger frame reaches a follower. -/
def State.triggerFrame (f : Frame) (s : State) : State :=
  if s.casbyState ≠ 4 then s
  else
    let exec := timeNear s.fine (fieldAt f.payload 0 4)
    let num := fieldAt f.payload 4 2
    let field := fieldAt f.payload 7 6
    let pos := posNear s.trn.casby field
    let missed := match s.csb.trigIn with | none => 0 | some k => (num + 65536 - k - 1) % 65536
    let s := if missed < 32768 then s.each missed (fun _ s => s.missTrigger) else s
    let s := (s.updCsb (fun c => { c with trigIn := some num })).jobByte (fieldAt f.payload 6 1)
    let s := s.casbyEdge (exec - s.csb.lead) pos
    if s.rd 0x2050 1 ≠ 3 then s
    else
      let s := s.raiseIf (decide (exec < s.fine + 20)) 606 0
      (s.updCsb (fun c => { c with ahead := c.ahead ++ [⟨exec, field / 2 ^ 16, pos, num⟩] })).settleAhead

/-- CASBY_TRIGGER_FRAME (R217). -/
def execCasbyTriggerFrame (dt : Nat) (symbols : Bool) (bs : List Byte) (s : State) : Host.Outcome State Fault Refusal :=
  timed dt s (fun _ => true) (fun s => s.received symbols bs 2 State.triggerFrame)

/-! ## Job switches (R218) -/

/-- R218: a job switch frame reaches a follower. -/
def State.jobFrame (f : Frame) (s : State) : State :=
  if s.casbyState = 4 then s.jobByCasby (fieldAt f.payload 0 2) (fieldAt f.payload 2 2) else s

/-- CASBY_JOB_SWITCH_FRAME (R218, R155). -/
def execCasbyJobSwitchFrame (dt : Nat) (symbols : Bool) (bs : List Byte) (s : State) : Host.Outcome State Fault Refusal :=
  timed dt s (fun _ => true) (fun s => s.received symbols bs 3 State.jobFrame)

/-- R218: the master sends a job switch frame for the trigger two numbers above the last one sent, and acts on it itself. -/
def opSendJob : Op := fun v s =>
  if s.casbyState ≠ 5 then (s, 7)
  else
    let num := (s.csb.trigOut + 1) % 65536
    ((s.sendJobFrame v.toNat num).jobByCasby v.toNat num, 0)

/-- SEND_JOB_SWITCH (R218): a write to 0x4880:12. -/
def execSendJobSwitch (dt : Nat) (m : Fin 17) (job : Nat) (s : State) : Host.Outcome State Fault Refusal :=
  hostCommand dt m 0x4880 0x12 job opSendJob s

/-! ## Heartbeats and faults (R214, R219) -/

/-- CASBY_HEARTBEAT_SEND (R214): every 1 ms. -/
def execCasbyHeartbeatSend (dt : Nat) (s : State) : Host.Outcome State Fault Refusal :=
  timed dt s (fun s => s.onRing && decide (s.csb.beatAt + 1000000 ≤ s.now)) (fun s =>
    let s := s.sendFrame 5 (le 8 Config.uniqueId ++ le 1 s.dev.st.code ++ le 2 (s.rdN 0x4210 2) ++ le 2 s.ownFill ++ le 4 s.drainLines)
    s.updCsb (fun c => { c with beatAt := s.now }))

/-- R214: a peer's heartbeat. -/
def State.heartbeat (f : Frame) (s : State) : State :=
  if f.origin = s.rdN 0x4880 0xA then s
  else
    let p : Peer := {
      known := true, uid := fieldAt f.payload 0 8, state := fieldAt f.payload 8 1, job := fieldAt f.payload 9 2,
      fill := fieldAt f.payload 11 2, drain := fieldAt f.payload 13 4, heard := s.now, lostTold := false }
    let s := s.updCsb (fun c => { c with peers := vupd c.peers f.origin (fun _ => p) })
    if s.casbyState = 4 ∧ s.rdN 0x4880 9 < f.origin + 1 then s.wr 0x4880 9 (f.origin + 1) else s

/-- CASBY_HEARTBEAT_FRAME (R214). -/
def execCasbyHeartbeatFrame (dt : Nat) (symbols : Bool) (bs : List Byte) (s : State) : Host.Outcome State Fault Refusal :=
  timed dt s (fun _ => true) (fun s => s.received symbols bs 5 State.heartbeat)

/-- CASBY_RING_OPEN (R219): a follower without time frames for 300 µs. -/
def execCasbyRingOpen (dt : Nat) (s : State) : Host.Outcome State Fault Refusal :=
  timed dt s (fun s => s.casbyState = 4 && decide (s.csb.heardTime.getD 0 + 300000 ≤ s.now)) (fun s => (s.setCasby 2).raise1 601 0)

/-- CASBY_PEER_LOST (R219): a known peer's heartbeat missing for 3 ms. -/
def execCasbyPeerLost (dt : Nat) (p : Fin 8) (s : State) : Host.Outcome State Fault Refusal :=
  timed dt s (fun s => s.onRing && (vget s.csb.peers p).known && !(vget s.csb.peers p).lostTold &&
      decide ((vget s.csb.peers p).heard + 3000000 ≤ s.now))
    (fun s => (s.raise1 607 0).updCsb (fun c => { c with peers := vupd c.peers p (fun q => { q with lostTold := true }) }))

end Sys2Proof.Machine
end

