-- ==== Sys2Proof/Machine/Links.lean ====
section
/-!
DEFINITION. CoaXPress links (chapter 11): discovery, ConnectionConfig, training, suspension, transmission from the egress
queues, flushes, loss and return.
-/
namespace Sys2Proof.Machine

/-- The link state changes. -/
def State.setLink (s : State) (n v : Nat) : State := s.wr (0x5800 + n) 1 v

/-! ## Link groups (R270) -/

/-- R270: the link mask of the group of link `n`; a link that no enabled stream names is its own group. -/
def State.groupOfLink (s : State) (n : Nat) : Nat :=
  let compat := if s.compatMode then [s.rdN 0x5460 4] else []
  ((compat ++ s.groupMasks).find? (fun m => bit m n)).getD (2 ^ n)

/-- R270: the links of a mask, ascending. -/
def linksIn (m : Nat) : List Nat := (List.range 16).filter (bit m)

/-- 0x5800+n:0C. -/
def State.groupMaster (s : State) (n : Nat) : Nat := groupNumber (s.groupOfLink n)

/-- 0x5800+n:0D. -/
def State.connectionPosition (s : State) (n : Nat) : Nat := ((linksIn (s.groupOfLink n)).filter (· < n)).length

/-! ## Speeds (R271) -/

/-- R271: the downlink speeds in Mbit/s. -/
def speeds : List Nat := [1250, 2500, 3125, 5000, 6250, 10000, 12500]

/-- R271: the payload budget of a speed, in Mbit/s. -/
def budgetOf (v : Nat) : Nat := v * 96 / 125

/-- A link is trained at a speed. -/
def State.trained (s : State) (n v : Nat) : State :=
  (((((s.setLink n 3).wr (0x5800 + n) 2 v).wr (0x5800 + n) 6 (budgetOf v)).updLink n (fun l => { l with
    train := none, locked := true, named := true })).wakeLink n).startLinks

/-- DISCOVERY_REQUEST (R269, R273): answered from the boot responder's start on; a link without speed is found at 1.25 Gbit/s. -/
def execDiscoveryRequest (dt : Nat) (n : Fin 16) (s : State) : Host.Outcome State Fault Refusal :=
  timed dt s (fun s => s.pow.boot = .responder || s.pow.boot = .banked || s.pow.boot = .loaded || s.pow.boot = .done) (fun s =>
    let s := s.updLink n (fun l => { l with locked := true })
    let s := if s.linkState n = 0 ∨ s.linkState n = 1 then s.trained n 1250 else s.wakeLink n
    if s.linkUp n then s.respond (n + 1) 0 [] [] else s)

/-! ## R31 -/

/-- R31: the need of a link group is judged against its links; the credit of R248 limits it where it does not suffice, which the event
of R285 reports at a loss. -/
def State.judgeGroup (s : State) (m n : Nat) (lost : Bool) : State :=
  let need := s.groupNeed m (s.recipe s.activeRecipe) s.lMax
  let have_ := s.budget m
  let short := s.live && !s.paced && decide (have_ * 1000000 < need)
  let s := s.growCredits
  let s := { s with dma := { s.dma with limited := setBit s.dma.limited (groupNumber m) short } }
  if short && lost then s.raise (386 + 4 * n) (.wide (nearest need 1000000) have_) else s

/-- R31: every group that link `n` belongs to; `lost`: at the declaration of its loss. -/
def State.judgeLink (s : State) (n : Nat) (lost : Bool) : State :=
  s.eachOf (s.groupMasks.filter (fun m => bit m n)) (fun m s => s.judgeGroup m n lost)

/-! ## Loss (R285, R287) -/

/-- R287: the packet that a lost link was sending returns to its place, to be sent whole by another link. -/
def State.returnPacket (s : State) (n : Nat) : State :=
  match (s.link n).tx with
  | none => s
  | some (k, id) =>
    let s := s.updLink n (fun l => { l with tx := none })
    match s.packet k id with
    | none => s
    | some p =>
      let back : Packet := { (if p.cls = 0 then p else markResent p) with sending := none }
      (s.updEgress k (fun q => { q with pkts := q.pkts.map (fun x => if x.id = id then back else x) })).bump (0x5800 + n) 9

/-- R287, R237: what a packet's header says of its line; `t`: when the packet ended. -/
def sentLine (p : Packet) (t : Nat) : SentLine :=
  ⟨p.dest, p.line, t, sfieldAt p.bytes 8 8, fieldAt p.bytes 16 8, fieldAt p.bytes 24 2, fieldAt p.bytes 26 1⟩

/-- R281: the gap marker of a run that begins with a line already sent or queued. -/
def gapOf (l : SentLine) (cause count : Nat) : Marker :=
  { type_ := 3, cause := cause, line := l.line, count := count, pos := l.pos, time := l.time, extra := 0, linePos := l.pos, lineTime := l.time,
    job := l.job, recipe := l.recipe }

/-- A packet of a line: not the end packet of a compatibility transfer (R280). -/
def ofLine (p : Packet) : Bool := p.cls = 2 && decide (128 ≤ p.bytes.length)

/-- R287: lines whose packets ended on the link within the loss filter plus 10 µs may be incomplete: one marker per stream. -/
def State.incompleteLines (s : State) (n : Nat) : State :=
  let span := s.rdN 0x5820 2 * 1000 + 10000
  let l := (s.link n).recent.filter (fun r => s.now ≤ r.at_ + span)
  if !s.queuesRun then s
  else s.eachOf ((l.map (·.stream)).eraseDups) (fun st s =>
    let js := l.filter (·.stream = st)
    let lo := js.foldl (fun a b => if lineAtOrAfter b.line a.line then a else b) (js.headD default)
    let hi := js.foldl (fun a b => if lineAtOrAfter b.line a.line then b else a) (js.headD default)
    (s.putMarker st (gapOf lo 8 ((hi.line + 2 ^ 32 - lo.line) % 2 ^ 32 + 1))).updStream st (fun x => { x with afterGap := true }))

/-- R285, R61: a link is declared lost; `named`: the ConnectionConfig in force still names it. Its master's shadow and write buffer are
emptied. -/
def State.declareLost (s : State) (n : Nat) (named : Bool) : State :=
  if s.linkState n ≠ 2 ∧ s.linkState n ≠ 3 ∧ s.linkState n ≠ 5 then s.updLink n (fun l => { l with named := named, train := none })
  else
    let v := if s.linkState n = 2 then (s.link n).train.getD 1250 else s.rdN (0x5800 + n) 2
    let s := s.incompleteLines n
    let s := s.returnPacket n
    let s := ((((s.setLink n 4).wr (0x5800 + n) 2 0).wr (0x5800 + n) 6 0).bump (0x5800 + n) 0xA).wr (0x5800 + n) 0xF s.compass
    let s := s.updLink n (fun l => { l with
      train := if named then some v else none, named := named, testMode := false, recent := [] })
    let s := s.updMaster (n + 1) (fun q => { q with shadow := none, wbuf := none })
    ((s.raise1 (384 + 4 * n) 0).judgeLink n true).startLinks

/-- R285: the link is lost through its power or its uplink. -/
def State.loseLink (s : State) (n : Nat) : State :=
  (s.declareLost n true).updLink n (fun l => { l with locked := false })

/-- LINK_LOSS (R285): the uplink receiver has been out of lock for the loss filter. -/
def execLinkLoss (dt : Nat) (n : Fin 16) (s : State) : Host.Outcome State Fault Refusal :=
  timed dt s (fun s => s.linkState n = 2 || s.linkState n = 3 || s.linkState n = 5) (fun s => s.loseLink n)

/-! ## ConnectionConfig and training (R272) -/

/-- R272: the write is refused. -/
def State.configRefused (s : State) (n speed count : Nat) : Bool :=
  let g := linksIn (s.groupOfLink n)
  s.groupMaster n ≠ n || decide (count = 0 ∨ g.length < count) || !speeds.contains speed || s.live ||
    (g.take count).any (fun i => decide (s.rdN (0x5800 + i) 3 < speed))

/-- CONNECTION_CONFIG (R272): accepted on the group's master connection; the named links are to be trained, the others stop
transmitting. A refusal answers the standard's invalid-data acknowledgement, before Ready the busy one. -/
def execConnectionConfig (dt : Nat) (n : Fin 16) (speed count : Nat) (s : State) : Host.Outcome State Fault Refusal :=
  timed dt s (fun s => s.linkUp n) (fun s =>
    if !s.dev.ready then s.respond (n + 1) 7 [] []
    else if s.configRefused n speed count then s.respond (n + 1) 5 [] []
    else
      let g := linksIn (s.groupOfLink n)
      let s := s.respond (n + 1) 0 [] []
      let s := s.eachOf (g.take count) (fun i s =>
        let s := s.updLink i (fun l => { l with train := some speed, named := true })
        if s.linkState i = 4 then s else s.setLink i 2)
      s.eachOf (g.drop count) (fun i s => s.declareLost i false))

/-- LINK_TRAINED (R272): a named link completes training. -/
def execLinkTrained (dt : Nat) (n : Fin 16) (s : State) : Host.Outcome State Fault Refusal :=
  timed dt s (fun s => s.linkState n = 2) (fun s => s.trained n ((s.link n).train.getD 1250))

/-- R286, R288: the lines of which some packet has begun. -/
def State.begunLines (s : State) : List (Nat × Nat) :=
  (List.range 8).flatMap (fun k => ((s.eq k).pkts.filter (fun p => p.cls = 2 && (p.sending.isSome ||
    (List.range 16).any (fun i => (s.link i).recent.any (fun r => r.stream = p.dest && r.line = p.line))))).map (fun p => (p.dest, p.line)))

/-- LINK_RETURN (R288): a lost link that the ConnectionConfig names has locked and trained again; it joins at the next line. -/
def execLinkReturn (dt : Nat) (n : Fin 16) (s : State) : Host.Outcome State Fault Refusal :=
  timed dt s (fun s => s.linkState n = 4 && (s.link n).train.isSome) (fun s =>
    let s := s.updLink n (fun l => { l with skip := s.begunLines })
    let s := s.trained n ((s.link n).train.getD 1250)
    let s := (s.raise1 (385 + 4 * n) 0).judgeLink n false
    s.eachOf (s.markerStreams.filter (fun st => bit (s.streamLinks st) n)) (fun st s =>
      match (s.stream st).run with
      | some r => if r.cause = 1 then s.flushRun st else s
      | none => s))

/-- TEST_MODE_WRITE (R269): accepted in Standby only. -/
def execTestModeWrite (dt : Nat) (n : Fin 16) (on : Bool) (s : State) : Host.Outcome State Fault Refusal :=
  timed dt s (fun s => s.linkUp n) (fun s =>
    if s.dev.ready && s.dev.st = .standby then (s.updLink n (fun l => { l with testMode := on })).respond (n + 1) 0 [] []
    else s.respond (n + 1) 7 [] [])

/-- STREAM_PACKET_SIZE_WRITE (R276): StreamPacketSizeMax, 4,096 to 65,536 in multiples of 4. -/
def execStreamPacketSizeWrite (dt : Nat) (n : Fin 16) (size : Nat) (s : State) : Host.Outcome State Fault Refusal :=
  timed dt s (fun s => s.linkUp n) (fun s =>
    if !s.dev.ready then s.respond (n + 1) 7 [] []
    else if 4096 ≤ size ∧ size ≤ 65536 ∧ size % 4 = 0 then (s.wr 0x5820 1 size).respond (n + 1) 0 [] []
    else s.respond (n + 1) 5 [] [])

/-! ## Suspension (R273) -/

/-- LINK_WAKE_BY_COMMAND (R273): a control command on a suspended link's uplink. -/
def execLinkWakeByCommand (dt : Nat) (n : Fin 16) (s : State) : Host.Outcome State Fault Refusal :=
  timed dt s (fun s => s.dev.st = .bivouac && s.linkState n = 5) (fun s => s.wakeLink n)

/-- LINK_RESUSPEND (R273): in Bivouac, 1 s without a control command. -/
def execLinkResuspend (dt : Nat) (n : Fin 16) (s : State) : Host.Outcome State Fault Refusal :=
  timed dt s (fun s => s.dev.st = .bivouac && s.linkState n = 3 && s.elapsed (s.link n).lastCommand 1000000000)
    (fun s => s.setLink n 5)

/-- R273, R238, R292: at entry to Bivouac acknowledgements still owed are sent, other packets are discarded and counted, and
every trained link is suspended. -/
def State.linksSleep (s : State) : State :=
  let s := s.each 8 (fun k s =>
    let gone := ((s.eq k).pkts ++ (s.eq k).held).filter (·.cls ≠ 0)
    let sent := ((s.eq k).pkts ++ (s.eq k).held).filter (·.cls = 0)
    let s := s.eachOf sent (fun p s => s.bump (0x5800 + p.dest) 8)
    (s.bump (0x5610 + k) 0xB gone.length).updEgress k (fun q => { q with
      pkts := [], held := [], flush := 0, flushed := false, discarded := 0 }))
  let s := s.each 16 (fun n s =>
    let s := s.updLink n (fun l => { l with tx := none, recent := [], testMode := false })
    if s.linkState n = 3 then s.setLink n 5 else s)
  { s with dma := { s.dma with waiting := [] } }

/-- R273: from Ready on, links that the boot responder has trained are suspended. -/
def State.linksRest (s : State) : State := s.each 16 (fun n s => if s.linkState n = 3 then s.setLink n 5 else s)

/-- R273: at wake every suspended link resumes. -/
def State.linksWake (s : State) : State := s.each 16 (fun n s => if s.linkState n = 5 then s.setLink n 3 else s)

/-! ## Flushes (R237) -/

/-- R237: a flush is requested. -/
def opFlush (k : Nat) : Op := fun v s =>
  if (s.eq k).flush ≠ 0 then (s, 8)
  else ((s.updEgress k (fun q => { q with flush := v.toNat, flushed := false, discarded := 0 })).wr (0x5610 + k) 0xD 1, 0)

/-- FLUSH_IMAGE_LINES (R237): bit 2. -/
def execFlushImageLines (dt : Nat) (m : Fin 17) (k : Fin 8) (s : State) : Host.Outcome State Fault Refusal :=
  hostCommand dt m (0x5610 + k) 0xC 4 (opFlush k) s

/-- FLUSH_STATISTICS (R237): bit 3. -/
def execFlushStatistics (dt : Nat) (m : Fin 17) (k : Fin 8) (s : State) : Host.Outcome State Fault Refusal :=
  hostCommand dt m (0x5610 + k) 0xC 8 (opFlush k) s

/-- R237: the marker of the image lines of stream `st` that a flush discarded. -/
def State.flushMarker (s : State) (gone : List Packet) (st : Nat) : State :=
  let ps := gone.filter (fun p => ofLine p && p.dest = st)
  match ps with
  | [] => s
  | p :: r =>
    let first := r.foldl (fun a b => if lineAtOrAfter b.line a.line then a else b) p
    let m := gapOf (sentLine first 0) 3 ((ps.map (·.line)).eraseDups).length
    (s.putMarker st m).updStream st (fun x => { x with afterGap := true })

/-- R237: the flush of queue `k` acts at a packet boundary: packets of its classes not yet begun are discarded. -/
def State.flushNow (s : State) (k : Nat) : State :=
  let q := s.eq k
  if q.flush = 0 ∨ q.flushed then s
  else
    let hit := fun (p : Packet) => bit q.flush p.cls && p.sending.isNone
    let gone := q.pkts.filter hit
    let s := s.updEgress k (fun q => { q with pkts := q.pkts.filter (fun p => !hit p), flushed := true, discarded := gone.length })
    s.eachOf ((gone.map (·.dest)).eraseDups) (fun st s => s.flushMarker gone st)

/-- FLUSH_COMPLETE (R237): the last marked packet has been freed. -/
def execFlushComplete (dt : Nat) (k : Fin 8) (s : State) : Host.Outcome State Fault Refusal :=
  timed dt s (fun s => (s.eq k).flush ≠ 0) (fun s =>
    let s := s.flushNow k
    let s := ((s.bump (0x5610 + k) 0xB (s.eq k).discarded).wr (0x5610 + k) 0xD 2).bump (0x5610 + k) 0xE
    (s.updEgress k (fun q => { q with flush := 0, flushed := false, discarded := 0 })).raise1 (296 + k) 0)

/-! ## Transmission (R235, R274 to R276) -/

/-- The payload of a packet: the data between header and padding. -/
def payloadOf (p : Packet) : Nat := if p.cls = 0 then 0 else if p.bytes.length < 100 then p.bytes.length else fieldAt p.bytes 52 4

/-- R235, R236: link `n` has sent its packet: blocks freed, counters advanced; a parity error has poisoned it. -/
def State.endPacket (s : State) (n : Nat) (parityBad : Bool) : State :=
  match (s.link n).tx with
  | none => s
  | some (k, id) =>
    let s := s.updLink n (fun l => { l with tx := none })
    match s.packet k id with
    | none => s
    | some p =>
      let s := if parityBad then (s.bump (0x5610 + k) 0xF).raise1 (280 + k) 0 else s
      let load := payloadOf p
      let used := if p.cls = 0 then p.bytes.length else p.bytes.length + 24 * s.segments p
      let s := ((s.free k id).bump (0x5800 + n) 7 load).bump (0x5800 + n) 8
      s.updLink n (fun l => { l with
        recent := (if ofLine p then [sentLine p s.now] else []) ++ l.recent.filter (fun r => s.now ≤ r.at_ + 11000000)
        used := (s.now, load, used) :: l.used.filter (fun r => s.now < r.1 + 10000000) })

/-- PACKET_TRANSMIT_END (R235): link `n` has sent the packet in transmission, if there is one; flushes act at this packet
boundary, and the link takes its next packet. -/
def execPacketTransmitEnd (dt : Nat) (n : Fin 16) (parityBad : Bool) (s : State) : Host.Outcome State Fault Refusal :=
  timed dt s (fun s => s.queuesRun && s.linkState n = 3) (fun s =>
    (((s.endPacket n parityBad).each 8 (fun k s => s.flushNow k)).beginPacket n).startLinks)

/-- R289: link occupancy over the last 10 ms in 0.1 %. -/
def State.occupancy (s : State) (n : Nat) : Nat :=
  let v := s.rdN (0x5800 + n) 2
  if v = 0 then 0
  else min 1000 (((((s.link n).used.filter (fun r => s.now < r.1 + 10000000)).map (fun r => r.2.2)).sum) / v)

/-! ## Triggers and errors on the uplink (R284, R291) -/

/-- TRIGGER_PACKET (R284): a rising-edge packet is a software trigger, its time corrected by the delay field; others are dropped. -/
def execTriggerPacket (dt : Nat) (n : Fin 16) (rising : Bool) (delay : Nat) (s : State) : Host.Outcome State Fault Refusal :=
  timed dt s (fun s => s.dev.ready && s.linkUp n) (fun s =>
    if !rising ∨ s.rd 0x2050 1 ≠ 4 ∨ s.rd (0x5800 + n) 5 = 0 then s.bump (0x5800 + n) 0x10
    else s.ownTrigger (s.fine - delay) 3 s.extPos)

/-- UPLINK_PACKET_ERROR (R291): a bad CRC on the uplink; the event is raised while its latch is clear. -/
def execUplinkPacketError (dt : Nat) (n : Fin 16) (s : State) : Host.Outcome State Fault Refusal :=
  timed dt s (fun s => (s.link n).locked) (fun s =>
    (s.bump (0x5800 + n) 0xB).raiseIf (!s.latched (387 + 4 * n)) (387 + 4 * n) 0)

end Sys2Proof.Machine
end

