-- ==== Sys2Proof/Machine/Power.lean ====
section
/-!
DEFINITION. Connection power, the auxiliary input and the rails up to the release of the core die (chapter 15).
The later part of the start, which touches every family, stands in Start.lean.
-/
namespace Sys2Proof.Machine

/-! ## Connections (R352 to R357) -/

/-- The state of connection `n`, 0x58A0+n:01. -/
def State.connState (s : State) (n : Nat) : Nat := s.rdN (0x58A0 + n) 1

/-- R354: connection `n` enters a state now. -/
def State.setConn (s : State) (n code : Nat) : State :=
  ((s.wr (0x58A0 + n) 1 code).wr (0x5880 + n) 1 (b2n (code = 3))).updConn n (fun c => { c with since := s.now })

/-- R354: the power a current stands for exceeds I_lim × num / den, with I_lim = 12.0 W / V_nom; current in mA. -/
def State.overLimit (s : State) (current num den : Nat) : Bool :=
  decide (12000000 * num < current * s.rdN 0x5890 1 * den)

/-- R355: PEN of connection `n` is asserted. -/
def State.enableConn (s : State) (n : Nat) : State :=
  { s.setConn n 2 with pow := { (s.setConn n 2).pow with lastPen := s.now } }

/-- The lowest-numbered connection of a mask. -/
def lowestOf (p : Nat → Bool) : Option Nat := (List.range 16).find? p

/-- R356: connection `n` is shed: PEN released, counted, EV(0656+n) with detail 2. -/
def State.shed (s : State) (n : Nat) : State :=
  (((s.setConn n 4).updConn n (fun c => { c with attempts := c.attempts + 1 })).bump (0x58A0 + n) 2).raise1 (656 + n) 2

/-- CONNECTION_PRESENT (R354): presence read for 20 ms; state 1, or 5 while admission is disabled. -/
def execConnectionPresent (dt : Nat) (n : Fin 16) (s : State) : Host.Outcome State Fault Refusal :=
  event dt s (fun s => s.powered && s.connState n = 0) (fun s =>
    (s.setConn n (if s.rd (0x5880 + n) 4 = 0 then 5 else 1)).updConn n (fun c => { c with attempts := 0 }))

/-- CONNECTION_ENABLE (R355): from Ready on, at least the admission spacing after the last PEN, the lowest present
connection is enabled. -/
def execConnectionEnable (dt : Nat) (s : State) : Host.Outcome State Fault Refusal :=
  event dt s (fun s => s.dev.ready && s.elapsed s.pow.lastPen (s.rdN 0x5890 5 * 1000000)) (fun s =>
    match lowestOf (fun n => s.connState n = 1) with
    | none => s
    | some n => s.enableConn n)

/-- CONNECTION_ADMISSION_CHECK (R354): 10 ms after PEN, admitted below I_lim, otherwise shed. -/
def execConnectionAdmissionCheck (dt : Nat) (n : Fin 16) (current : Nat) (s : State) : Host.Outcome State Fault Refusal :=
  event dt s (fun s => s.connState n = 2 && s.elapsed (s.conn n).since 10000000) (fun s =>
    if current * s.rdN 0x5890 1 < 12000000 then (s.setConn n 3).updConn n (fun c => { c with attempts := 0 })
    else s.shed n)

/-- CONNECTION_SHED_RETRY (R354): 1 s after a shed, enabled again up to the attempt limit, then disabled. -/
def execConnectionShedRetry (dt : Nat) (n : Fin 16) (s : State) : Host.Outcome State Fault Refusal :=
  event dt s (fun s => s.connState n = 4 && s.elapsed (s.conn n).since 1000000000) (fun s =>
    if (s.conn n).attempts < s.rdN 0x5890 6 ∧ s.rd (0x5880 + n) 4 = 1 then s.enableConn n else s.setConn n 5)

/-- CONNECTION_OVERLOAD (R356): above I_lim for 10 ms; it stays admitted. -/
def execConnectionOverload (dt : Nat) (n : Fin 16) (current : Nat) (s : State) : Host.Outcome State Fault Refusal :=
  event dt s (fun s => s.connState n = 3 && s.overLimit current 1 1) (fun s =>
    let s := (s.bump (0x58A0 + n) 3).raise1 (656 + n) 1
    { s with can := { s.can with overload := setBit s.can.overload n true } })

/-- CONNECTION_SHED (R356): above 1.25 × I_lim for 1 ms; the link is not lost. -/
def execConnectionShed (dt : Nat) (n : Fin 16) (current : Nat) (s : State) : Host.Outcome State Fault Refusal :=
  event dt s (fun s => s.connState n = 3 && s.overLimit current 5 4) (fun s => s.shed n)

/-- CONNECTION_POWER_REMOVED (R357): PEN released, the link lost, and when it was the only admitted one, the lowest
connection that reads present is enabled at once. -/
def execConnectionPowerRemoved (dt : Nat) (n : Fin 16) (pres : BitVec 16) (s : State) : Host.Outcome State Fault Refusal :=
  event dt s (fun s => s.connState n = 2 || s.connState n = 3) (fun s =>
    let was := s.connState n = 3
    let s := (s.setConn n 0).loseLink n
    if was ∧ lowestOf (fun i => s.connState i = 3) = none then
      match lowestOf (fun i => i ≠ n && (pres.getLsbD i) && (s.connState i = 0 || s.connState i = 1)) with
      | none => s
      | some i => s.enableConn i
    else s)

/-- CONNECTION_SENSE_FAULT (R352): an invalid level for 1 ms; PEN stays deasserted. -/
def execConnectionSenseFault (dt : Nat) (n : Fin 16) (s : State) : Host.Outcome State Fault Refusal :=
  event dt s (fun s => s.powered && s.connState n ≠ 6) (fun s => (s.setConn n 6).raise1 (656 + n) 3)

/-- SENSE_FAULT_CLEARED (R354): a valid level for 100 ms; state 1 when it reads present, 0 otherwise. -/
def execSenseFaultCleared (dt : Nat) (n : Fin 16) (pres : Bool) (s : State) : Host.Outcome State Fault Refusal :=
  event dt s (fun s => s.connState n = 6) (fun s => s.setConn n (b2n pres))

/-- CONNECTION_PRESENCE_LOST (R354): present, shed or disabled, it reads absent. -/
def execConnectionPresenceLost (dt : Nat) (n : Fin 16) (s : State) : Host.Outcome State Fault Refusal :=
  event dt s (fun s => s.connState n = 1 || s.connState n = 4 || s.connState n = 5) (fun s => s.setConn n 0)

/-- R354: a write of 0 disables admission, a write of 1 takes a connection out of state 5. -/
def opAdmission (n : Nat) : Op := fun v s =>
  let s := s.wr (0x5880 + n) 4 v
  if v = 0 then (if s.connState n = 1 ∨ s.connState n = 4 then s.setConn n 5 else s, 0)
  else (if s.connState n = 5 then (s.setConn n 1).updConn n (fun c => { c with attempts := 0 }) else s, 0)

/-- ADMISSION_ENABLE_WRITE (R354). -/
def execAdmissionEnableWrite (dt : Nat) (m : Fin 17) (n : Fin 16) (v : Nat) (s : State) : Host.Outcome State Fault Refusal :=
  hostCommand dt m (0x5880 + n) 4 v (opAdmission n) s

/-! ## The auxiliary input (R359) -/

/-- The auxiliary input's state, 0x5891:03. -/
def State.vaux (s : State) : Nat := s.rdN 0x5891 3

/-- VAUX_REVERSED (R359): once per connection of the input. -/
def execVauxReversed (dt : Nat) (s : State) : Host.Outcome State Fault Refusal :=
  event dt s (fun s => s.powered && s.vaux ≠ 1) (fun s => ((s.wr 0x5891 3 1).bump 0x5891 6).raise1 672 0)

/-- VAUX_OUT_OF_RANGE (R359): VAUX_REV low, below 19.2 V or above 30.0 V, above 3.0 V; once per excursion. -/
def execVauxOutOfRange (dt : Nat) (mv : Nat) (s : State) : Host.Outcome State Fault Refusal :=
  event dt s (fun s => s.powered && s.vaux ≠ 2 && decide (3000 ≤ mv ∧ (mv < 19200 ∨ 30000 < mv))) (fun s =>
    (s.wr 0x5891 3 2).raise1 673 0)

/-- AUXILIARY_INPUT_QUALIFYING (R359): into range with VAUX_REV low, or removed below 3.0 V. -/
def execAuxiliaryInputQualifying (dt : Nat) (mv : Nat) (s : State) : Host.Outcome State Fault Refusal :=
  event dt s (fun s => s.powered) (fun s =>
    if mv < 3000 then s.wr 0x5891 3 0
    else if 19200 ≤ mv ∧ mv ≤ 30000 ∧ s.vaux ≤ 2 then
      { s.wr 0x5891 3 3 with pow := { (s.wr 0x5891 3 3).pow with vauxSince := s.now } }
    else s)

/-- VAUX_QUALIFIED (R359): 100 ms in range; admitted once Ready, or disabled by 0x5891:01. -/
def execVauxQualified (dt : Nat) (s : State) : Host.Outcome State Fault Refusal :=
  event dt s (fun s => s.vaux = 3 && s.elapsed s.pow.vauxSince 100000000 && (s.dev.ready || s.rd 0x5891 1 = 0)) (fun s =>
    s.wr 0x5891 3 (if s.rd 0x5891 1 = 1 then 4 else 5))

/-- R359: 0x5891:01 acts immediately on a qualified input. -/
def opVauxEnable : Op := fun v s =>
  let s := s.wr 0x5891 1 v
  (if v = 0 ∧ s.vaux = 4 then s.wr 0x5891 3 5 else if v = 1 ∧ s.vaux = 5 then s.wr 0x5891 3 4 else s, 0)

/-! ## Rails and the first milliseconds (R360 to R363) -/

/-- R363: nanoseconds on the start's timeline; a warm start joins it at +12 ms (R362). -/
def State.timeline (s : State) : Nat := s.now - s.pow.begun + (if s.pow.warm then 12000000 else 0)

/-- The start goes on to its next stage. -/
def State.bootTo (s : State) (b : Boot) : State := { s with pow := { s.pow with boot := b } }

/-- POWER_ON_FILTER_RELEASE (R363, R355): BOOT_SEL is sampled, PEN of the lowest connection reading present is asserted
without qualification, and the rail sequence begins. -/
def execPowerOnFilterRelease (dt : Nat) (bootSel : Bool) (pres : BitVec 16) (s : State) : Host.Outcome State Fault Refusal :=
  event dt s (fun s => s.pow.boot = .filter && s.elapsed s.pow.begun 2000000) (fun s =>
    match lowestOf (fun n => pres.getLsbD n) with
    | none => s
    | some n =>
      let s := s.enableConn n
      { s with pow := { s.pow with boot := .rails, step := 1, bootSel := bootSel, firstConn := n } })

/-- RAIL_STEP_POWER_GOOD (R360): the step's power-good arrives and the next step is enabled; steps 6 and 7 belong to a wake. -/
def execRailStepPowerGood (dt : Nat) (s : State) : Host.Outcome State Fault Refusal :=
  event dt s (fun s => s.pow.step ≠ 0 && (match s.pow.retryAt with | none => true | some t => decide (t ≤ s.now))) (fun s =>
    let k := s.pow.step
    let s := s.wrBit 0x5892 1 (k - 1) true
    { s with pow := { s.pow with step := if k = 5 ∨ 7 ≤ k then 0 else k + 1, retryAt := none } })

/-- CORE_RELEASE (R363): at +12 ms, rails 1 to 5 good, the core die is released. -/
def execCoreRelease (dt : Nat) (s : State) : Host.Outcome State Fault Refusal :=
  event dt s (fun s => s.pow.boot = .rails && s.pow.step = 0 && s.rdN 0x5892 1 % 32 = 31 && decide (12000000 ≤ s.timeline))
    (fun s => s.bootTo .core)

end Sys2Proof.Machine
end

