-- ==== Sys2Proof/Machine/Lantern.lean ====
section
/-!
DEFINITION. The Lantern strip (chapter 13): what each pixel shows, the frame, probes, breaks and shorts, the engines.
-/
namespace Sys2Proof.Machine

/-- Change the strip. -/
def State.updLan (s : State) (f : LanternSt → LanternSt) : State := { s with lan := f s.lan }

/-- Change engine `e`. -/
def State.updEngine (s : State) (e : Nat) (f : Engine → Engine) : State :=
  s.updLan (fun l => { l with engines := vupd l.engines e f })

/-- Engine `e`. -/
def State.engine (s : State) (e : Nat) : Engine := vget s.lan.engines e

/-- 0x4E00:0D, the lantern state. -/
def State.lanState (s : State) : Nat := s.rdN 0x4E00 0xD

/-- 0x4E00:03: bits of a colour word. -/
def State.wordBits (s : State) : Nat := [8, 12, 16].getD (s.rdN 0x4E00 3) 16

/-- R327: the pixel count and word width in force. -/
def State.chainNow (s : State) : Nat × Nat := s.lan.chain.getD (s.rdN 0x4E00 2, s.wordBits)

/-- R314: the clock periods of a frame as the entries ask for it. -/
def State.framePeriods (s : State) : Nat := s.rdN 0x4E00 2 * (3 * s.wordBits) + 3

/-- R314: the highest frame rate that fits. -/
def State.maxFrameRate (s : State) : Nat := max 1 (1000000000 / (s.framePeriods * s.rdN 0x4E00 5 * 40))

/-! ## Engines (R319, R320) -/

/-- R319: the first and last pixel of engine `e`'s effective range. -/
def State.engRange (s : State) (e : Nat) : Nat × Nat := (s.rdN (0x4E20 + e) 2, min (s.rdN (0x4E20 + e) 3) (s.chainNow.1 - 1))

/-- R320: the strip pixel of output pixel `i`; none while no recipe gives the native line a pitch. -/
def State.locatePixel (s : State) (i : Nat) : Option Int :=
  let d := rCd (s.recipe s.activeRecipe)
  if d = 0 then none
  else
    let x : Rat := ((s.origin .native : Int) : Rat) / 1000 + (i : Rat) * (inchPm : Rat) / ((1000 * d : Nat) : Rat)
    let q := half ((x - ((s.rd 0x4E00 0x15 : Int) : Rat)) / ((s.rdN 0x4E00 0x16 : Nat) : Rat))
    some (if s.rd 0x4E00 0x17 = 0 then q else (s.chainNow.1 : Int) - 1 - q)

/-- The time since engine `e` started, in ns of Compass. -/
def State.tau (s : State) (e : Nat) : Nat := s.fine - (s.engine e).t0

/-- R319: ⌊speed × τ⌋ in pixels. -/
def State.travelled (s : State) (e : Nat) : Nat := s.rdN (0x4E20 + e) 9 * s.tau e / 1000000000

/-- R319: the flash is lit at time `t`. -/
def State.flashOn (s : State) (e t : Nat) : Bool :=
  let period := s.rdN (0x4E20 + e) 7 * 1000000
  decide (t % period * 1000 < s.rdN (0x4E20 + e) 0xC * period)

/-- R319: the two heads of a locate engine towards pixel `q`. -/
def State.heads (s : State) (e : Nat) (q : Int) : Int × Int :=
  let r := s.engRange e
  (min ((r.1 : Int) + s.travelled e) q, max ((r.2 : Int) - s.travelled e) q)

/-- R319: λ of a breathing engine, in 0.1 %. -/
def State.breath (s : State) (e : Nat) : Int :=
  let o := 0x4E20 + e
  let period := s.rdN o 7 * 1000000
  let c := cosPi ((2 * s.tau e : Nat) / (period : Rat))
  half ((s.rd o 0xA : Rat) + ((s.rd o 0xB - s.rd o 0xA : Int) : Rat) * ((one80 - c : Int) : Rat) / ((2 * one80 : Int) : Rat))

/-- The engine's colour scaled by `num` / 1,000, rounded to nearest. -/
def State.engColour (s : State) (e : Nat) (num : Int) : List Nat :=
  [4, 5, 6].map (fun c => (limit 0 65535 ((s.rd (0x4E20 + e) c * num + 500) / 1000)).toNat)

/-- R319: what engine `e` shows at pixel `p`; none where it is transparent. -/
def State.draw (s : State) (e p : Nat) : Option (List Nat) :=
  let o := 0x4E20 + e
  let r := s.engRange e
  let n := r.2 + 1 - r.1
  if s.rd o 0x15 = 0 ∨ p < r.1 ∨ r.2 < p then none
  else match (s.engine e).typ with
    | 1 => some (s.engColour e (s.breath e))
    | 2 =>
      let k := if s.rd o 0xD = 0 then p - r.1 else r.2 - p
      if (k + n - s.travelled e % n) % n < s.rdN o 8 then some (s.engColour e 1000) else none
    | 3 => some (if s.flashOn e (s.tau e) then s.engColour e 1000 else [0, 0, 0])
    | 4 =>
      match s.locatePixel (s.rdN o 0x12) with
      | none => none
      | some q =>
        let w : Int := s.rd o 8
        let x : Int := p
        match (s.engine e).hold with
        | some t =>
          if q - w / 2 ≤ x ∧ x ≤ q + w / 2 then some (if s.flashOn e (s.fine - t) then s.engColour e 1000 else [0, 0, 0])
          else none
        | none =>
          let h := s.heads e q
          if (h.1 - w + 1 ≤ x ∧ x ≤ h.1) ∨ (h.2 ≤ x ∧ x ≤ h.2 + w - 1) then some (s.engColour e 1000) else none
    | _ => none

/-- R319: the composed colour of pixel `p`: the highest-numbered opaque engine, else the base frame. -/
def State.composed (s : State) (p : Nat) : List Nat :=
  match [3, 2, 1, 0].findSome? (fun e => s.draw e p) with
  | some c => c
  | none => [0, 1, 2].map (fun c => fieldAt s.lan.base (6 * p + 2 * c) 2)

/-! ## Colour, heat and power (R322, R323) -/

/-- R324: element (r, c) of the matrix of a bin, 2.14; the identity by default. -/
def State.binMatrix (s : State) (bin r c : Nat) : Int :=
  if s.lan.matrices.isEmpty then (if r = c then 0x4000 else 0) else sfieldAt s.lan.matrices (18 * bin + 6 * r + 2 * c) 2

/-- R322: s_T of the derate group. -/
def State.lanternHeat (s : State) : Nat :=
  let g := s.rdN 0x4E00 9
  if g = 255 then 1000
  else if s.lampState g = 4 then s.rdN (0x4C10 + g) 8
  else s.rdN (0x4C10 + g) 0xD

/-- R322: the three values u of pixel `p`. -/
def State.unscaledPixel (s : State) (heat p : Nat) : List Nat :=
  let col := s.composed p
  let bin := fieldAt s.lan.bins p 1
  [0, 1, 2].map (fun r =>
    let v := ([0, 1, 2].map (fun c => s.binMatrix bin r c * (col.getD c 0 : Int))).sum
    let v := (limit 0 65535 ((v + 8192) / 16384)).toNat
    (v * s.rdN 0x4E00 8 * heat + 500000) / 1000000)

/-- R322: a word of `b` bits from u and the Canteen scale. -/
def lanternWord (b cs u : Nat) : Nat :=
  let w := (u * cs + 500) / 1000
  if b = 16 then w else min ((w + 2 ^ (15 - b)) / 2 ^ (16 - b)) (2 ^ b - 1)

/-- R313: the colour order of a pixel's words. -/
def colourOrder (k : Nat) : List Nat :=
  [[0, 1, 2], [0, 2, 1], [1, 0, 2], [1, 2, 0], [2, 0, 1], [2, 1, 0]].getD k [0, 1, 2]

/-- R313: the bits of words, most significant first. -/
def wordsToBits (b : Nat) (ws : List Nat) : List Bool :=
  ws.flatMap (fun w => (List.range b).map (fun i => bit w (b - 1 - i)))

/-- R313: the bits of a frame in the order LAN_DAT carries them: the last pixel first. `ws` are the pixels' words,
pixel 0 first, in colour order. -/
def frameBits (b : Nat) : List Nat → List Bool
  | x :: y :: z :: r => frameBits b r ++ wordsToBits b [x, y, z]
  | _ => []

/-- R323: the Canteen scale for an unscaled power (mW × 65,535) and a cap in mW. -/
def lanternScale (unscaled cap : Nat) : Nat := if unscaled ≤ cap * 65535 then 1000 else 1000 * cap * 65535 / unscaled

/-- R322, R323: a frame is composed, scaled, shifted and latched. -/
def State.showFrame (s : State) : State :=
  let (n, b) := s.chainNow
  let heat := s.lanternHeat
  let us := (List.range n).map (s.unscaledPixel heat)
  let full := [0xA, 0xB, 0xC].map (fun c => s.rdN 0x4E00 c)
  let unscaled := (us.map (fun u => u.getD 0 0 * full.getD 0 0 + u.getD 1 0 * full.getD 1 0 + u.getD 2 0 * full.getD 2 0)).sum
  let cs := lanternScale unscaled (s.rdN 0x5A11 0xA)
  let s := s.raiseIf (decide (cs < 1000) && decide (s.rd 0x4E00 0x11 = 1000)) 516 0
  let s := (s.wr 0x4E00 0x10 (unscaled * cs / 65535000)).wr 0x4E00 0x11 cs
  let order := colourOrder (s.rdN 0x4E00 4)
  s.updLan (fun l => { l with
    shown := us.flatMap (fun u => order.map (fun c => lanternWord b cs (u.getD c 0)))
    bits := n * (3 * b), unscaled := unscaled })

/-- A dark frame of `n` bits is shifted and latched. -/
def State.darkFrame (s : State) (n : Nat) : State :=
  (s.wr 0x4E00 0x10 0).updLan (fun l => { l with shown := [], bits := n, unscaled := 0 })

/-! ## Probes (R315 to R318) -/

/-- R316: a probe starts. -/
def State.startProbe (s : State) : State :=
  (s.wr 0x4E00 0xD 1).updLan (fun l => { l with
    origin := if s.lanState = 1 then l.origin else s.lanState
    probeAt := s.now })

/-- R315: the lantern's outputs idle after a dark frame. -/
def State.lanternOff (s : State) (code : Nat) : State :=
  if s.lanState = code then s else (s.darkFrame s.lan.bits).wr 0x4E00 0xD code

/-- R315: the lantern may run, but for the Canteen's grant. -/
def State.lanternWanted (s : State) : Bool := s.rd 0x4E00 1 = 1 && s.dev.ready && s.queuesRun

/-- R315: the lantern starts or stops as its conditions say. -/
def State.lanternGate (s : State) : State :=
  if !s.lanternWanted then s.lanternOff 0
  else if !s.can.lantern then s.lanternOff 6
  else if s.lanState = 0 ∨ s.lanState = 6 then s.startProbe
  else s

/-- R316: a probe at a write, while the lantern runs. -/
def State.probeIfOn (s : State) : State := if s.lanState = 0 ∨ s.lanState = 6 ∨ s.lanState = 5 then s else s.startProbe

/-- R317: the chain is broken; a break that stands is not raised again. -/
def State.chainBroken (s : State) (was : Nat) : State :=
  let s := s.wr 0x4E00 0xD 4
  if was = 4 then s else (s.bump 0x4E00 0x12).raise1 512 0

/-- R318: a failed retry of a short: a new event only after the latch was cleared. -/
def State.stillShort (s : State) : State :=
  ((s.wr 0x4E00 0xD 5).updLan (fun l => { l with shortAt := s.now })).raiseIf (!s.latched 514) 514 0

/-- R316: the result of a probe that counted `count` clocks; 0 or more than 24,640: no 1 came back. -/
def State.probeResult (s : State) (count : Nat) : State :=
  let was := s.lan.origin
  let seen := decide (1 ≤ count ∧ count ≤ 24640)
  let n := s.rdN 0x4E00 2
  let b := s.wordBits
  let s := (s.wr 0x4E00 0xE (if seen then count else 0)).updLan (fun l => { l with skip := true, errors := 0 })
  if seen ∧ count = n * (3 * b) then
    let s := (s.wr 0x4E00 0xD 2).updLan (fun l => { l with chain := some (n, b) })
    (s.raiseIf (decide (was = 4)) 515 0).showFrame
  else if was = 5 then s.stillShort
  else if seen then ((s.wr 0x4E00 0xD 3).raise1 513 0).darkFrame count
  else s.chainBroken was

/-- LANTERN_PROBE_COMPLETE (R316 to R318). -/
def execLanternProbeComplete (dt : Nat) (count : Nat) (s : State) : Host.Outcome State Fault Refusal :=
  event dt s (fun s => s.lanState = 1) (fun s => s.probeResult count)

/-- LANTERN_PROBE_NOW (R316). -/
def opProbeNow : Op := opDo State.probeIfOn

/-- LANTERN_PROBE_NOW (R316): a write of 1 to 0x4E00:0F. -/
def execLanternProbeNow (dt : Nat) (m : Fin 17) (s : State) : Host.Outcome State Fault Refusal :=
  hostCommand dt m 0x4E00 0xF 1 opProbeNow s

/-- LANTERN_PERIODIC_PROBE (R317): every 250 ms while broken, or while the last frame had no bit set. -/
def execLanternPeriodicProbe (dt : Nat) (s : State) : Host.Outcome State Fault Refusal :=
  event dt s (fun s => (s.lanState = 4 || (s.lanState = 2 && s.lan.shown.all (· = 0))) && s.elapsed s.lan.probeAt 250000000)
    State.startProbe

/-- LANTERN_OUTPUT_SHORT (R318): the outputs go to high impedance. -/
def execLanternOutputShort (dt : Nat) (s : State) : Host.Outcome State Fault Refusal :=
  event dt s (fun s => s.lanState ≠ 0 && s.lanState ≠ 5) (fun s =>
    if s.lanState = 1 ∧ s.lan.origin = 5 then s.stillShort
    else (((s.wr 0x4E00 0xD 5).bump 0x4E00 0x14).raise1 514 0).updLan (fun l => { l with shortAt := s.now }))

/-- LANTERN_SHORT_RETRY (R318): every 1 s the device retries with a probe. -/
def execLanternShortRetry (dt : Nat) (s : State) : Host.Outcome State Fault Refusal :=
  event dt s (fun s => s.lanState = 5 && s.elapsed s.lan.shortAt 1000000000) State.startProbe

/-! ## Starting and stopping engines (R321) -/

/-- R321: engine `e` starts now from τ = 0 with the type and run time written. -/
def State.startEngine (s : State) (e : Nat) : State :=
  (s.wr (0x4E20 + e) 0x15 1).updEngine e (fun q => { q with
    typ := s.rdN (0x4E20 + e) 1, run := s.rdN (0x4E20 + e) 0xE * 1000000, t0 := s.fine, ask := .none, hold := none })

/-- R319: engine `e` ends. -/
def State.stopEngine (s : State) (e : Nat) : State :=
  (s.wr (0x4E20 + e) 0x15 0).updEngine e (fun q => { q with ask := .none, hold := none })

/-- R320: τ of a running engine restarts. -/
def State.restartTau (s : State) (e : Nat) : State :=
  if s.rd (0x4E20 + e) 0x15 = 0 then s.updEngine e (fun q => { q with ask := .none })
  else (s.wr (0x4E20 + e) 0x15 1).updEngine e (fun q => { q with t0 := s.fine, ask := .none, hold := none })

/-- What was asked of engine `e` happens. -/
def State.doAsk (s : State) (e : Nat) : State :=
  match (s.engine e).ask with
  | .none => s
  | .start => s.startEngine e
  | .restart => s.restartTau e
  | .stop => s.stopEngine e

/-- A write asks something of engine `e`: at the next frame, or at once while the lantern is not running (R327).
A target written behind a start that waits leaves the start. -/
def State.askEngine (s : State) (e : Nat) (a : Ask) : State :=
  let s := s.updEngine e (fun q => { q with ask := if a = .restart ∧ q.ask ≠ .none then q.ask else a })
  if s.lanState = 2 then s else s.doAsk e

/-- R321: the entry offered to engine `e` starts it. -/
def State.selects (s : State) (e : Nat) (r : LogRec) : Bool :=
  let o := 0x4E20 + e
  (s.rd o 0xF = 1 && decide (s.rdN o 0x10 ≤ r.cls)) || (s.rd o 0xF = 2 && decide (s.rdN o 0x11 = r.src))

/-- R321: of the offered entries that start an engine, the one with the highest sequence number. -/
def newestOf (l : List LogRec) : Option LogRec :=
  l.foldl (fun b r => match b with | none => some r | some x => if x.seq ≤ r.seq then some r else b) none

/-- R321: what the writes and the events since the last frame ask of engine `e` happens. -/
def State.engineFrame (s : State) (offers : List LogRec) (e : Nat) : State :=
  let s := s.doAsk e
  match newestOf (offers.filter (s.selects e)) with
  | some r => (s.startEngine e).wr (0x4E20 + e) 0x16 r.src
  | none => s

/-- R319: a locate engine whose heads have met begins its hold; one whose hold is over begins again. -/
def State.locateFrame (s : State) (e : Nat) : State :=
  let o := 0x4E20 + e
  if s.rd o 0x15 = 0 ∨ (s.engine e).typ ≠ 4 then s
  else match (s.engine e).hold, s.locatePixel (s.rdN o 0x12) with
    | some t, _ => if t + s.rdN o 0x17 * 1000000 ≤ s.fine then s.restartTau e else s
    | none, some q =>
      if s.heads e q = (q, q) then (s.wr o 0x15 2).updEngine e (fun g => { g with hold := some s.fine }) else s
    | none, none => s

/-- R314, R317: one frame: the engines take what was asked; while running, the pixels are composed and sent, and the
returned bits compared. -/
def State.frame (s : State) (differs : Bool) : State :=
  let offers := s.ev.offers
  let s : State := { s with ev := { s.ev with offers := [] } }
  let s := s.each 4 (fun e s => s.engineFrame offers e)
  let s := s.updLan (fun l => { l with frameAt := s.now })
  if s.lanState = 2 then
    let s := (s.each 4 (fun e s => s.locateFrame e)).showFrame
    if s.lan.skip then s.updLan (fun l => { l with skip := false, errors := 0 })
    else if differs then
      let s := (s.bump 0x4E00 0x13).updLan (fun l => { l with errors := l.errors + 1 })
      if 2 ≤ s.lan.errors then (s.chainBroken 2).updLan (fun l => { l with probeAt := s.now }) else s
    else s.updLan (fun l => { l with errors := 0 })
  else if s.lanState = 3 then s.darkFrame (s.rdN 0x4E00 0xE)
  else s

/-- LANTERN_FRAME (R314): at the frame rate; `differs`: the returned bits differ from the frame before. -/
def execLanternFrame (dt : Nat) (differs : Bool) (s : State) : Host.Outcome State Fault Refusal :=
  event dt s (fun s => s.queuesRun && s.dev.ready && s.elapsed s.lan.frameAt (1000000000 / s.rdN 0x4E00 6)) (fun s => s.frame differs)

/-- R321: a write of 1 to the start object of engine `e`. -/
def opEngineStart (e : Nat) : Op := opDo (fun s => s.askEngine e .start)

/-- LANTERN_ENGINE_START (R321). -/
def execLanternEngineStart (dt : Nat) (m : Fin 17) (e : Fin 4) (s : State) : Host.Outcome State Fault Refusal :=
  hostCommand dt m (0x4E20 + e) 0x13 1 (opEngineStart e) s

/-- R319: a write of 1 to the stop object of engine `e`. -/
def opEngineStop (e : Nat) : Op := opDo (fun s => s.askEngine e .stop)

/-- LANTERN_ENGINE_STOP (R319). -/
def execLanternEngineStop (dt : Nat) (m : Fin 17) (e : Fin 4) (s : State) : Host.Outcome State Fault Refusal :=
  hostCommand dt m (0x4E20 + e) 0x14 1 (opEngineStop e) s

/-- LANTERN_ENGINE_RUN_END (R319): a run time that is not endless is over. -/
def execLanternEngineRunEnd (dt : Nat) (e : Fin 4) (s : State) : Host.Outcome State Fault Refusal :=
  event dt s (fun s => s.rd (0x4E20 + e) 0x15 ≠ 0 && (s.engine e).run ≠ 0 && decide ((s.engine e).run ≤ s.tau e))
    (fun s => s.stopEngine e)

/-- R320: a locate target is taken, or refused outside the engine's effective range. -/
def opLocate (e : Nat) : Op := fun v s =>
  let r := s.engRange e
  match s.locatePixel v.toNat with
  | none => (s, 5)
  | some q =>
    if q < r.1 ∨ (r.2 : Int) < q then (s, 5)
    else ((s.wr (0x4E20 + e) 0x12 v).askEngine e .restart, 0)

/-- LOCATE_TARGET_WRITE (R320): a write of an output pixel to 0x4E20+e:12. -/
def execLocateTargetWrite (dt : Nat) (m : Fin 17) (e : Fin 4) (px : Nat) (s : State) : Host.Outcome State Fault Refusal :=
  hostCommand dt m (0x4E20 + e) 0x12 px (opLocate e) s

/-! ## Writes of the strip's entries -/

/-- R314: the frame rate is limited anew after a write of the count, the width or the divider. -/
def State.fitFrameRate (s : State) : State :=
  let r := s.rd 0x4E00 6
  if (s.maxFrameRate : Int) < r then (s.wr 0x4E00 6 s.maxFrameRate).ownClamp 0x4E00 6 4 r s.maxFrameRate else s

/-- R315, R316: entry 0x4E00:`sub` has been written. -/
def State.lanternWritten (s : State) (sub : Nat) : State :=
  if sub = 1 then s.lanternGate
  else if sub = 2 ∨ sub = 3 ∨ sub = 5 then s.fitFrameRate.probeIfOn
  else if sub = 7 then s.probeIfOn
  else s

/-- R314, R326: the dependent limits of the strip's entries. -/
def depLantern (idx sub : Nat) : State → Int → Verdict := fun s v =>
  if idx = 0x4E00 ∧ sub = 6 then depLimit 0 s.maxFrameRate v
  else if 0x4E20 ≤ idx ∧ idx < 0x4E24 ∧ sub = 3 then depLimit (s.rd idx 2) 511 v
  else .keep v

end Sys2Proof.Machine
end

