-- ==== Sys2Proof/Machine/Update.lean ====
section
/-!
DEFINITION. Evsyn images and activation (chapter 18): the header's checks, the session, blocks and the journal, applying and
verifying, the schedule and its frames. What a switch does at a start stands in Start.lean.
-/
namespace Sys2Proof.Machine

/-- Change the update's state. -/
def State.updUpd (s : State) (f : UpdateSt → UpdateSt) : State := { s with upd := f s.upd }

/-- Change bank `b`. -/
def State.updFw (s : State) (b : Nat) (f : FwBank → FwBank) : State :=
  s.updUpd (fun u => { u with banks := vupd u.banks b f })

/-- Bank `b`. -/
def State.fw (s : State) (b : Nat) : FwBank := vget s.upd.banks b

/-- The session state 0x2200:01. -/
def State.session (s : State) : Nat := s.rdN 0x2200 1

/-- The session changes its state and holder. -/
def State.setSession (s : State) (v holder : Nat) : State := (s.wr 0x2200 1 v).wr 0x2200 2 holder

/-- The bank that does not run (R411). -/
def State.otherBank (s : State) : Nat := 1 - s.pow.bank

/-- R418: the journal is active under R69 and R404. -/
def State.journalActive (s : State) : Bool :=
  [1, 2, 3, 4, 8].contains s.session || s.upd.trial.isSome

/-! ## The header (R409, R412) -/

/-- The image kind. -/
def hKind (h : List Byte) : Nat := fieldAt h 6 1
/-- The container length. -/
def hLength (h : List Byte) : Nat := fieldAt h 44 4
/-- The result length. -/
def hResult (h : List Byte) : Nat := fieldAt h 48 4
/-- The result digest. -/
def hDigest (h : List Byte) : List Byte := slice h 56 32

/-- The version of a bank. -/
def FwBank.ver (b : FwBank) : Nat := if b.content.isNone && b.code ≠ 0 then Config.deliveredVersion.toNat else b.version
/-- The settings format of a bank. -/
def FwBank.format (b : FwBank) : Nat := if b.content.isNone && b.code ≠ 0 then Config.settingsFormat else b.fmt
/-- The digest of a bank's content. -/
def FwBank.digest (b : FwBank) : List Byte := match b.content with
  | some c => c.2
  | none => (List.range 32).map Config.deliveredDigest
/-- The length of a bank's content. -/
def FwBank.length (b : FwBank) : Nat := match b.content with
  | some c => c.1.length
  | none => Config.deliveredLength.toNat
/-- Bytes of a bank's content. -/
def FwBank.read (b : FwBank) (o n : Nat) : List Byte := match b.content with
  | some c => slice c.1 o n
  | none => (List.range n).map (fun i => Config.deliveredByte (o + i))

/-- R412: code 2, format. -/
def headerFormatBad (h : List Byte) : Bool :=
  h.length ≠ 4096 || fieldAt h 0 4 ≠ 0x4B455653 || fieldAt h 4 2 ≠ 1 || 1 < fieldAt h 7 1 || !allZero h 20 4 ||
    !allZero h 216 3876 || fieldAt h 4092 4 ≠ crc32 (h.take 4092)

/-- R411, R412: code 5, limits. -/
def headerLimitsBad (h : List Byte) : Bool :=
  let n := hLength h
  let r := hResult h
  (hKind h ≠ 1 && hKind h ≠ 2) || r % 4 ≠ 0 || n % 4096 ≠ 0 || n < 4096 || 10485760 < r ||
    (if hKind h = 1 then n ≠ 4096 + cdiv r 4096 * 4096 else 8392704 < n)

/-- R412: the result of block 0 from master `m`. -/
def State.headerResult (s : State) (m : Nat) (h : List Byte) : Nat :=
  let run := s.fw s.pow.bank
  if headerFormatBad h then 2
  else if fieldAt h 8 4 ≠ Config.vendorId ∨ fieldAt h 12 4 ≠ 0x6400 ∨ fieldAt h 16 4 ≠ 0x20000 then 3
  else if bit (fieldAt h 7 1) 0 ∧ fieldAt h 24 8 ≠ Config.uniqueId then 4
  else if headerLimitsBad h then 5
  else if hKind h = 2 ∧ (fieldAt h 36 4 ≠ run.ver ∨ slice h 120 32 ≠ run.digest) then 6
  else if hDigest h = run.digest then 10
  else if (s.session = 1 ∧ s.rdN 0x2200 2 ≠ m) ∨ s.session = 3 ∨ s.session = 4 ∨ s.session = 8 then 7
  else if (s.session = 6 ∨ s.session = 7) ∧ h ≠ s.upd.header then 9
  else if (s.session = 5 ∨ s.session = 6 ∨ s.session = 7) ∧ h = s.upd.header then 8
  else 1

/-- The inactive bank is invalid. -/
def State.spoilBank (s : State) : State := s.updFw s.otherBank (fun b => { b with code := 0 })

/-- R415: a new session begins with this header. -/
def State.newSession (s : State) (m : Nat) (h : List Byte) : State :=
  let b := (s.fw s.otherBank).code
  let s := if b = 3 ∨ b = 4 then s.spoilBank else s
  let s := ((s.setSession 1 m).raise1 769 0).wr 0x2200 5 (hKind h)
  let s := ((s.wr 0x2200 6 (fieldAt h 32 4)).wr 0x2200 7 4096).wr 0x2200 8 (hLength h)
  let s := (s.wr 0x2200 9 0).wr 0x2200 0xA (cdiv (hResult h) 65536)
  let s := s.updUpd (fun u => { u with header := h, body := [], journaled := 0, last := s.now, wait := [] })
  if hKind h = 1 then s.updFw s.otherBank (fun b => { b with code := 3 }) else s

/-- R412, R415: block 0 arrives from master `m`: the new state and the result. -/
def State.blockZero (s : State) (m : Nat) (h : List Byte) : State × Nat :=
  let c := s.headerResult m h
  let s := (s.wr 0x2200 3 c).wr 0x2200 4 m
  let s := s.raiseIf (c ≠ 1 && c ≠ 8) 768 0
  let s := s.raiseIf (c = 7 || c = 9) 770 0
  if c ≠ 1 then (s, c)
  else if (s.session = 1 ∨ s.session = 2) ∧ h = s.upd.header then
    ((s.setSession 1 m).updUpd (fun u => { u with last := s.now }), 1)
  else (s.newSession m h, 1)

/-! ## Blocks (R414) -/

/-- The 4 MiB staging buffer has no room for a block. -/
def State.bufferFull (s : State) : Bool := decide (s.upd.journaled + 4194304 < s.rdN 0x2200 7 + 4096)

/-- R414: a block is taken at the next offset. -/
def State.takeBlock (s : State) (bs : List Byte) : State :=
  (s.wr 0x2200 7 (s.rdN 0x2200 7 + 4096)).updUpd (fun u => { u with body := u.body ++ bs, last := s.now })

/-- R414: the answer to a later block. -/
inductive BlockAnswer
  | taken | waits | stale | early | notHolder
  deriving DecidableEq, Repr

/-- R414: a block other than block 0 arrives from master `m`. -/
def State.laterBlock (s : State) (m off : Nat) (bs : List Byte) : State × BlockAnswer :=
  let next := s.rdN 0x2200 7 + 4096 * s.upd.wait.length
  if s.session = 1 ∧ s.rdN 0x2200 2 ≠ m then (s, .notHolder)
  else if s.session ≠ 1 ∨ next < off ∨ s.rdN 0x2200 8 ≤ off then (s, if off < next then .stale else .early)
  else if off < next then (s, .stale)
  else if s.bufferFull ∨ !s.upd.wait.isEmpty then (s.updUpd (fun u => { u with wait := u.wait ++ [(m, bs)] }), .waits)
  else (s.takeBlock bs, .taken)

/-- R412, R414: a data access to the staging domain by master `m` over its CoaXPress link: the outcome code; none while the
acknowledgement waits for room. -/
def State.stageAccess (s : State) (m off : Nat) (bs : List Byte) : State × Option Nat :=
  if off % 4096 ≠ 0 ∨ bs.length ≠ 4096 then (s, some 6)
  else if off = 0 then
    let r := s.blockZero m bs
    (r.1, some (if r.2 = 1 ∨ r.2 = 8 then 0 else if r.2 = 7 ∨ r.2 = 9 then 8 else 5))
  else
    let r := s.laterBlock m off bs
    (r.1, match r.2 with | .taken => some 0 | .stale => some 0 | .waits => none | .early => some 11 | .notHolder => some 8)

/-- Blocks that wait are taken as far as there is room; CoaXPress masters get their acknowledgement. -/
def State.admitBlocks (s : State) : Nat → State
  | 0 => s
  | n + 1 =>
    match s.upd.wait with
    | [] => s
    | (m, bs) :: r =>
      if s.bufferFull then s
      else
        let s := (s.updUpd (fun u => { u with wait := r })).takeBlock bs
        let s := if m = 0 then s else s.respond m 0 [] []
        s.admitBlocks n

/-- R417: a failure of the session. -/
def State.failSession (s : State) (code : Nat) : State :=
  ((((s.setSession 9 0xFF).wr 0x2200 0xC code).spoilBank).raise1 (if code = 5 then 785 else 774) 0).updUpd (fun u => { u with wait := [] })

/-- R414: the next 64 KiB of the container, or its last part, are in NOR and journaled. -/
def State.journalStep (s : State) : State :=
  let upto := min (s.upd.journaled + 65536) (s.rdN 0x2200 8)
  let s := s.updUpd (fun u => { u with journaled := upto })
  let s := if hKind s.upd.header = 1 then s.wr 0x2200 9 (min (s.rdN 0x2200 0xA) ((upto - 4096) / 65536)) else s
  let s := s.admitBlocks 16
  if upto = s.rdN 0x2200 8 then s.setSession (if hKind s.upd.header = 1 then 4 else 3) 0xFE else s

/-- UPDATE_BLOCKS_JOURNALED (R414): `ok`: the NOR write succeeds. -/
def execUpdateBlocksJournaled (dt : Nat) (good : Bool) (s : State) : Host.Outcome State Fault Refusal :=
  event dt s (fun s => (s.session = 1 || s.session = 2) && decide (min (s.upd.journaled + 65536) (s.rdN 0x2200 8) ≤ s.rdN 0x2200 7)) (fun s =>
    if good then s.journalStep else s.failSession 5)

/-- UPDATE_SESSION_SILENCE (R415): 30 s without a block from the holder. -/
def execUpdateSessionSilence (dt : Nat) (s : State) : Host.Outcome State Fault Refusal :=
  event dt s (fun s => s.session = 1 && s.elapsed s.upd.last 30000000000) (fun s =>
    ((s.setSession 2 0xFF).raise1 771 0).updUpd (fun u => { u with wait := [] }))

/-- R416: a write of 1 aborts the session in any state but 8; without a session there is nothing to abort. -/
def opAbortUpdate : Op := fun _ s =>
  if s.session = 8 then (s, 8)
  else if s.session = 0 then (s, 0)
  else
    let b := (s.fw s.otherBank).code
    let s := if b = 3 ∨ b = 4 then s.spoilBank else s
    (((s.setSession 0 0xFF).wr 0x2200 0xC 6).raise1 772 0 |>.updUpd (fun u =>
      { u with header := [], body := [], wait := [], accept := none, leaving := false }), 0)

/-- ABORT_UPDATE (R416): a write of 1 to 0x2200:0B. -/
def execAbortUpdate (dt : Nat) (m : Fin 17) (s : State) : Host.Outcome State Fault Refusal :=
  hostCommand dt m 0x2200 0xB 1 opAbortUpdate s

/-! ## Applying and verifying (R410, R417) -/

/-- R410: `n` delta records over the base: what they produce, and the rest of the body; none where a record is wrong. -/
def deltaRecords (base : FwBank) : Nat → List Byte → List Byte → Option (List Byte × List Byte)
  | 0, out, rest => some (out, rest)
  | n + 1, out, rest =>
    let len := fieldAt rest 4 4
    let src := fieldAt rest 8 4
    if rest.length < 12 ∨ !allZero rest 1 3 ∨ len % 4 ≠ 0 ∨ len < 4 then none
    else if fieldAt rest 0 1 = 1 then
      if base.length < src + len then none else deltaRecords base n (out ++ base.read src len) (rest.drop 12)
    else if fieldAt rest 0 1 = 2 then
      if rest.length < 12 + len ∨ src ≠ 0 then none else deltaRecords base n (out ++ slice rest 12 len) (rest.drop (12 + len))
    else none

/-- R410, R417: the result of the staged delta; none where it fails. -/
def State.deltaResult (s : State) : Option (List Byte) :=
  let h := s.upd.header
  match deltaRecords (s.fw s.pow.bank) (fieldAt h 52 4) [] s.upd.body with
  | some (out, rest) => if out.length = hResult h ∧ rest.all (· = 0) then some out else none
  | none => none

/-- R417: the body digest matches. -/
def State.bodyGood (s : State) : Bool := sha256 s.upd.body = slice s.upd.header 88 32

/-- The inactive bank holds this content. -/
def State.fillBank (s : State) (c : List Byte) : State :=
  s.updFw s.otherBank (fun b => { b with code := 3, content := some (c, sha256 c) })

/-- UPDATE_APPLY_COMPLETE (R417): a delta's body digest is checked and its records are applied; `ok`: the NOR writes
succeed. -/
def execUpdateApplyComplete (dt : Nat) (good : Bool) (s : State) : Host.Outcome State Fault Refusal :=
  event dt s (fun s => s.session = 3) (fun s =>
    if !s.bodyGood then s.failSession 1
    else match s.deltaResult with
      | none => s.failSession 2
      | some c => if good then ((s.fillBank c).wr 0x2200 9 (s.rdN 0x2200 0xA)).setSession 4 0xFE else s.failSession 5)

/-- R417: the image is staged. -/
def State.stageImage (s : State) : State :=
  let h := s.upd.header
  let s := s.updFw s.otherBank (fun b => { b with
    code := 4, version := fieldAt h 32 4, fmt := fieldAt h 40 2, oldest := fieldAt h 42 2 })
  ((s.wr 0x2200 9 (s.rdN 0x2200 0xA)).setSession 5 0xFF).raise1 775 0

/-- R417: a full image's content lies in the bank once its body digest is checked. -/
def State.fullContent (s : State) : State :=
  if hKind s.upd.header = 1 then s.fillBank (s.upd.body.take (hResult s.upd.header)) else s

/-- R417: the verification; `manifest`: the boot-segment digest and the sub-image CRC-32 values match the content. -/
def State.verify (s : State) (manifest good : Bool) : State :=
  if !s.bodyGood then s.failSession 1
  else
    let s := s.fullContent
    if (s.fw s.otherBank).digest ≠ hDigest s.upd.header then s.failSession 3
    else if !manifest then s.failSession 4
    else if !good then s.failSession 5
    else s.stageImage

/-- UPDATE_VERIFY_COMPLETE (R417). -/
def execUpdateVerifyComplete (dt : Nat) (manifest good : Bool) (s : State) : Host.Outcome State Fault Refusal :=
  event dt s (fun s => s.session = 4) (fun s => s.verify manifest good)

/-! ## FoE (R413, R44) -/

/-- The characters of a text as bytes. -/
def ascii (t : String) : List Byte := t.toList.map (fun c => BitVec.ofNat 8 c.toNat)

/-- A hexadecimal digit. -/
def hexDigit (b : Byte) : Option Nat :=
  let v := b.toNat
  if 48 ≤ v ∧ v ≤ 57 then some (v - 48)
  else if 65 ≤ v ∧ v ≤ 70 then some (v - 55)
  else if 97 ≤ v ∧ v ≤ 102 then some (v - 87)
  else none

/-- A number of hexadecimal digits. -/
def hexNumber (l : List Byte) : Option Nat :=
  l.foldl (fun a b => match a, hexDigit b with | some x, some d => some (16 * x + d) | _, _ => none) (some 0)

/-- R413: where a file name places the blocks after block 0; none for another name. -/
def foeOffset (name : List Byte) : Option Nat :=
  let base := ascii "KN6400.evsyn"
  if name = base then some 4096
  else if name.length = 21 ∧ name.take 13 = base ++ ascii "@" then
    match hexNumber (name.drop 13) with
    | some o => if o % 65536 = 0 then some o else none
    | none => none
  else none

/-- The whole blocks of a file's data. -/
def blocksOf (bs : List Byte) : List (List Byte) := (List.range (bs.length / 4096)).map (fun i => slice bs (4096 * i) 4096)

/-- The mailbox answers an FoE or mailbox error; 0 for none. -/
def State.mailbox (s : State) (code : Nat) : State :=
  { s with door := { s.door with ec := { s.door.ec with mailboxError := code } } }

/-- R413, R414: the blocks behind block 0 of an FoE write; at a wrong number the rest is not taken. -/
def State.foeBlocks (s : State) (off : Nat) : List (List Byte) → State
  | [] => s.mailbox 0
  | b :: r =>
    let x := s.laterBlock 0 off b
    match x.2 with
    | .early => x.1.mailbox 0x8005
    | .notHolder => x.1.mailbox 0x8000
    | _ => x.1.foeBlocks (off + 4096) r

/-- R412, R413: an FoE write of whole blocks. -/
def State.foeWrite (s : State) (name bs : List Byte) : State :=
  match foeOffset name, blocksOf bs with
  | none, _ => s.mailbox 0x8001
  | some _, [] => s.mailbox 0
  | some off, h :: r =>
    let x := s.blockZero 0 h
    if x.2 = 1 then x.1.foeBlocks off r
    else if x.2 = 8 then x.1.mailbox 0x8006
    else if x.2 = 7 ∨ x.2 = 9 then x.1.mailbox 0x8000
    else x.1.mailbox 0x8004

/-- FOE_WRITE_REQUEST (R413): in Pre-Op and above; `name` and the data of the transfer. -/
def execFoeWriteRequest (dt : Nat) (name bs : List Byte) (s : State) : Host.Outcome State Fault Refusal :=
  event dt s (fun s => s.masterPresent 0 && s.dev.ready) (fun s => s.foeWrite name bs)

/-- FOE_READ_REQUEST (R413): answered with error 0x8002. -/
def execFoeReadRequest (dt : Nat) (_name : List Byte) (s : State) : Host.Outcome State Fault Refusal :=
  event dt s (fun s => s.masterPresent 0) (fun s => s.mailbox 0x8002)

/-! ## Activation (R419, R420) -/

/-- R419: the staged image is scheduled. -/
def State.schedule (s : State) : State :=
  ((s.wr 0x2200 1 6).raise1 776 0).updUpd (fun u => { u with at_ := s.rdN 0x2202 2, leaving := false })

/-- R214, R218: an activation frame of this device, to be sent again 1 ms and 2 ms later. -/
def State.sendActivation (s : State) : State :=
  let id := s.rdN 0x2202 1
  let pay := le 4 id ++ le 8 (s.rdN 0x2202 2)
  let s := s.sendFrame 4 pay
  s.updCsb (fun c => { c with again := some (pay, 2, s.now), passed := if c.passed.contains id then c.passed else c.passed ++ [id] })

/-- R419: the schedule command. -/
def opSchedule : Op := fun v s =>
  if s.session ≠ 5 then (s, 8)
  else if s.rd 0x2202 1 = 0 then (s, 5)
  else if v = 2 ∧ s.casbyState ≠ 4 ∧ s.casbyState ≠ 5 then (s, 7)
  else (if v = 2 then s.schedule.sendActivation else s.schedule, 0)

/-- SCHEDULE_ACTIVATION_LOCAL (R419): a write of 1 to 0x2202:03. -/
def execScheduleActivationLocal (dt : Nat) (m : Fin 17) (s : State) : Host.Outcome State Fault Refusal :=
  hostCommand dt m 0x2202 3 1 opSchedule s

/-- SCHEDULE_ACTIVATION_CASBY (R419): a write of 2 to 0x2202:03. -/
def execScheduleActivationCasby (dt : Nat) (m : Fin 17) (s : State) : Host.Outcome State Fault Refusal :=
  hostCommand dt m 0x2202 3 2 opSchedule s

/-- ACTIVATION_FRAME_REPEAT (R218): 1 ms after the last send, twice. -/
def execActivationFrameRepeat (dt : Nat) (s : State) : Host.Outcome State Fault Refusal :=
  event dt s (fun s => match s.csb.again with | some (_, n, t) => 0 < n && s.elapsed t 1000000 | none => false) (fun s =>
    match s.csb.again with
    | some (pay, n, _) =>
      (s.sendFrame 4 pay).updCsb (fun c => { c with again := if n = 1 then none else some (pay, n - 1, s.now) })
    | none => s)

/-- R218, R419: an activation frame's ID is passed once. -/
def State.activationFrame (f : Frame) (s : State) : State :=
  let id := fieldAt f.payload 0 4
  if s.csb.passed.contains id then s
  else
    let s := s.updCsb (fun c => { c with passed := c.passed ++ [id] })
    if id = s.rdN 0x2202 1 ∧ s.session = 5 then (s.wr 0x2202 2 (fieldAt f.payload 4 8)).schedule
    else (s.bump 0x2202 9).raise1 784 0

/-- CASBY_ACTIVATION_FRAME (R218). -/
def execCasbyActivationFrame (dt : Nat) (symbols : Bool) (bs : List Byte) (s : State) : Host.Outcome State Fault Refusal :=
  timed dt s (fun _ => true) (fun s => s.received symbols bs 4 State.activationFrame)

/-- R420: the schedule ends; the image stays staged, and a bank in state 6 stays as it is. -/
def State.unschedule (s : State) : State :=
  (s.wr 0x2200 1 (if s.upd.accept.isSome then 0 else 5)).updUpd (fun u => { u with accept := none, leaving := false })

/-- R420: the cancel command. -/
def opCancelSchedule : Op := fun _ s => if s.session = 6 ∨ s.session = 7 then (s.unschedule, 0) else (s, 8)

/-- CANCEL_SCHEDULE (R420): a write of 1 to 0x2202:04. -/
def execCancelSchedule (dt : Nat) (m : Fin 17) (s : State) : Host.Outcome State Fault Refusal :=
  hostCommand dt m 0x2202 4 1 opCancelSchedule s

/-- A NOR write of a recipe, a basis set or a save runs. -/
def State.norBusy (s : State) : Bool :=
  s.door.saving.isSome || s.rcp.writing ≠ 0 || (List.range 8).any (fun k => s.rd 0x4202 (k + 1) = 3)

/-- R420: a blend runs. -/
def State.blending (s : State) : Bool := match s.rcp.armed with | some a => a.phase = 2 | none => false

/-- R420, bit 0: at rest in Bivouac or Standby. -/
def State.restIdle (s : State) : Bool :=
  (s.dev.st = .bivouac || s.dev.st = .standby) && s.sh.capture.isNone && s.rcp.measure.isNone && s.rcp.importing.isNone &&
    !s.blending && !s.norBusy

/-- R420, bits 1 and 2: idle while Scanning or Paused. -/
def State.liveIdle (s : State) : Bool :=
  s.live &&
    ((bit (s.rdN 0x2202 5) 1 && s.paced && (s.pacing = 4 || s.pacing = 6)) ||
     (bit (s.rdN 0x2202 5) 2 && !s.paced && s.transportSpeed = 0 && (match s.trn.edges with
      | [] => true
      | (t, _) :: _ => decide (t + 1000000000 ≤ s.fine))))

/-- R420, R421: the unit switches, or leaves Scanning to do so. -/
def State.beginSwitch (s : State) : State :=
  if bit (s.rdN 0x2202 5) 0 && s.restIdle then s.wr 0x2200 1 8
  else (s.updUpd (fun u => { u with leaving := true })).atBoundary .standby

/-- R420: the unit is idle. -/
def State.idleNow (s : State) : Bool := (bit (s.rdN 0x2202 5) 0 && s.restIdle) || s.liveIdle

/-- ACTIVATION_TIME_REACHED (R420). -/
def execActivationTimeReached (dt : Nat) (s : State) : Host.Outcome State Fault Refusal :=
  timed dt s (fun s => s.session = 6 && !s.upd.leaving && decide (s.upd.at_ ≤ s.fine)) (fun s =>
    if s.idleNow then s.beginSwitch
    else (((s.wr 0x2200 1 7).wr 0x2202 8 s.fine).raise1 777 0).updUpd (fun u => { u with since := s.now }))

/-- DEFERRED_ACTIVATION_IDLE (R420). -/
def execDeferredActivationIdle (dt : Nat) (s : State) : Host.Outcome State Fault Refusal :=
  timed dt s (fun s => s.session = 7 && !s.upd.leaving && s.idleNow) State.beginSwitch

/-- ACTIVATION_EXPIRED (R420): the deferral limit has passed. -/
def execActivationExpired (dt : Nat) (s : State) : Host.Outcome State Fault Refusal :=
  event dt s (fun s => s.session = 7 && s.rd 0x2202 6 ≠ 0 && s.elapsed s.upd.since (s.rdN 0x2202 6 * 1000000000))
    (fun s => s.unschedule.raise1 778 0)

/-! ## Migration commands (R424) -/

/-- R424: a switch into the bank in state 6 at the next idle moment, with policy 1. -/
def opAcceptDefaults : Op := fun _ s =>
  match (List.range 2).find? (fun b => (s.fw b).code = 6) with
  | none => (s, 8)
  | some b =>
    if s.session ≠ 0 ∧ s.session ≠ 9 then (s, 8)
    else ((s.setSession 7 0xFF).wr 0x2202 8 s.fine |>.updUpd (fun u => { u with accept := some b, since := s.now, leaving := false }), 0)

/-- ACCEPT_DEFAULTS (R424): a write of "acpt" to 0x2206:02. -/
def execAcceptDefaults (dt : Nat) (m : Fin 17) (s : State) : Host.Outcome State Fault Refusal :=
  hostCommand dt m 0x2206 2 0x74706361 opAcceptDefaults s

/-- R424: the quarantine is erased. -/
def opDiscardQuarantine : Op := opDo (fun s => (s.wr 0x2206 3 0).updUpd (fun u => { u with quarantine := none }))

/-- DISCARD_QUARANTINE (R424): a write of "quar" to 0x2206:04. -/
def execDiscardQuarantine (dt : Nat) (m : Fin 17) (s : State) : Host.Outcome State Fault Refusal :=
  hostCommand dt m 0x2206 4 0x72617571 opDiscardQuarantine s

end Sys2Proof.Machine
end

