-- ==== Sys2Proof/Machine/Trim.lean ====
section
/-!
DEFINITION. Self-trim (chapter 17, R383, R387): when a cluster is requested, the quiet windows, a trim's start and end, its
records. The trim values themselves are no part of the device's interface (R402, R404), so nothing holds them.
-/
namespace Sys2Proof.Machine

/-- Change what is kept for cluster `k`. -/
def State.updCluster (s : State) (k : Nat) (f : TrimCluster → TrimCluster) : State :=
  { s with trm := { s.trm with clusters := vupd s.trm.clusters k f } }

/-- What is kept for cluster `k`. -/
def State.cluster (s : State) (k : Nat) : TrimCluster := vget s.trm.clusters k

/-- R22: a cluster state is shown. -/
def State.setCluster (s : State) (k v : Nat) : State :=
  s.wr 0x2000 3 (s.rdN 0x2000 3 - s.rdN 0x2000 3 / 4 ^ k % 4 * 4 ^ k + v * 4 ^ k : Nat)

/-- R401: the trim of cluster `k` runs. -/
def State.trimRuns (s : State) (k : Nat) : Bool := match s.trm.running with | some t => decide (t.cluster = k) | none => false

/-- R405: the trim state of cluster `k` is shown. -/
def State.showTrim (s : State) (k : Nat) : State :=
  s.wr 0x2401 (k + 1) (if s.trimRuns k then 5 else match (s.cluster k).req with
    | some r => if r.forced then 4 else 3
    | none => (s.cluster k).result)

/-- R397: the cluster temperature in 1/16 °C: the mean of the last 16 readings. -/
def State.clusterTemp (s : State) (k : Nat) : Option Int :=
  match (s.cluster k).reads with
  | [] => none
  | l => some (rdiv l.sum l.length)

/-- R398: a request is made, or merged with the one that waits or runs. -/
def State.askTrim (s : State) (k : Nat) (forced : Bool) : State :=
  if s.trimRuns k then s
  else
    let new : TrimReq := match (s.cluster k).req with
      | some r => if forced && !r.forced then { r with forced := true, asked := s.now } else r
      | none => ⟨forced, s.now, s.now⟩
    let was := match (s.cluster k).req with | some r => r.forced | none => false
    ((s.updCluster k (fun c => { c with req := some new })).raiseIf (new.forced && !was) 824 k).showTrim k

/-- R398: a host or master requests the clusters of a mask, suspended ones too. -/
def opRequestTrim : Op := fun v s =>
  (s.each 8 (fun k s =>
    if bit v.toNat k then
      (s.updCluster k (fun c => { c with result := if c.result = 6 then 2 else c.result })).askTrim k false
    else s), 0)

/-- REQUEST_TRIM (R398): a write of a cluster mask to 0x2400:03. -/
def execRequestTrim (dt : Nat) (m : Fin 17) (mask : Nat) (s : State) : Host.Outcome State Fault Refusal :=
  hostCommand dt m 0x2400 3 mask opRequestTrim s

/-! ## Temperatures (R397, R398) -/

/-- R397: what the sensor of cluster `k` gives at a tick: its reading, or the mean of the die's valid sensors. -/
def clusterReading (dies : List Int) (invalid k : Nat) : Option Int :=
  if !bit invalid (8 + k) then some (dies.getD (8 + k) 0)
  else
    let die := (List.range 4).map (fun i => 8 + k / 4 * 4 + i)
    let l := (die.filter (fun i => !bit invalid i)).map (fun i => dies.getD i 0)
    if l.isEmpty then none else some (rdiv l.sum l.length)

/-- R397, R398: one tick of cluster `k`. -/
def State.trimTick (s : State) (dies : List Int) (invalid : Nat) (k : Nat) : State :=
  let v := clusterReading dies invalid k
  let bad := bit invalid (8 + k)
  let s := s.raiseIf (bad && !(s.cluster k).told) 827 (k / 4)
  let s := s.updCluster k (fun c => { c with
    told := bad, reads := match v with | some x => (x :: c.reads).take 16 | none => c.reads })
  match s.clusterTemp k with
  | none => s
  | some t =>
    let drift := t - s.rd 0x2402 (k + 1)
    let s := s.wr 0x2403 (k + 1) drift
    let set := s.rd 0x2400 2
    let c := s.cluster k
    if s.rd 0x2400 1 = 0 ∨ v.isNone then s
    else if c.result = 6 ∨ c.result = 2 then s
    else if 2 * set ≤ (drift.natAbs : Int) then s.askTrim k true
    else if set ≤ (drift.natAbs : Int) then s.askTrim k false
    else s

/-- R398: at the first entry to Standby after Trailhead, clusters on factory values are requested. -/
def State.trimFirst (s : State) : State :=
  if s.rd 0x2400 1 = 0 then s
  else s.each 8 (fun k s => if (s.cluster k).result = 0 then s.askTrim k false else s)

/-! ## Windows (R387) -/

/-- The row delays of the rows that hold a channel of cluster `k`. -/
def State.trimDelays (s : State) (k : Nat) : List Int :=
  ((List.range 4).filter (fun r => s.usedSegments.any (fun g => s.rowOf g = r && (s.taps g).any (fun c => c / 8 = k)))).map s.rowDelay

/-- R387: the exposures of cluster `k` over the next 2.4 ms, without and with 4 line spacings of `pitch` around, in 2^-24
count. -/
def State.trimSpan (s : State) (k : Nat) (pitch : Int) : Int × Int :=
  let p := s.extPos
  let q := p + s.pmToCounts (2400 * s.transportSpeed)
  let l := s.trimDelays k
  let lo := l.foldl min (l.headD 0)
  let hi := l.foldl max (l.headD 0)
  (min p q + lo - 4 * pitch, max p q + hi + 4 * pitch)

/-- R387: the transport is stopped. -/
def State.stoppedWindow (s : State) : Bool :=
  s.rd 0x5A30 5 = 1 && (s.dev.st = .standby ||
    (s.live && s.paced && (s.pacing = 4 || s.pacing = 6) && !s.trn.restart))

/-- R387: the lines after a job switch. -/
def State.switchWindow (s : State) (k : Nat) : Option (Int × Int) :=
  match s.trm.switchAt with
  | some (x, pitch, lines) =>
    let w := s.trimSpan k pitch
    let stop := x + (lines : Int) * pitch
    if s.live ∧ x ≤ w.1 ∧ w.2 < stop then some (x, stop) else none
  | none => none

/-- R387: the allowed gap in reported positions. -/
def State.gapWindow (s : State) (k : Nat) : Option (Int × Int) :=
  let one : Int := 2 ^ 24
  let len := s.rd 0x5A30 3 * one
  let w := s.trimSpan k s.cNow
  let repeat_ := if s.rd 0x5A30 4 = 0 then 2 ^ 32 * one else s.rd 0x5A30 4 * one
  let into := ((w.1 + s.trn.zero * one) % (2 ^ 32 * one) - s.rd 0x5A30 2 * one) % repeat_
  if s.live ∧ into + (w.2 - w.1) < len then some (w.1 - into, w.1 - into + len) else none

/-- R387: a quiet window for cluster `k`: open, with the positions it allows where it has any. -/
def State.quiet (s : State) (k : Nat) : Option (Option (Int × Int)) :=
  if s.stoppedWindow then some none
  else match s.switchWindow k, s.gapWindow k with
    | some w, _ => some (some w)
    | none, some w => some (some w)
    | none, none => none

/-! ## Start and end (R399 to R403) -/

/-- R399: which pending request comes next: forced ones lowest cluster first, then ordinary ones by age. -/
def State.nextTrim (s : State) : Option (Nat × TrimReq) :=
  let l := (List.range 8).filterMap (fun k => (s.cluster k).req.map (fun r => (k, r)))
  match l.find? (fun p => p.2.forced) with
  | some p => some p
  | none => l.foldl (fun b p => match b with | none => some p | some q => if p.2.since < q.2.since then some p else some q) none

/-- R385: the sensors of die A (4 to 7: die B) that carries cluster `k` are below the limit. -/
def State.afeCool (s : State) (k : Nat) : Bool :=
  (List.range 4).all (fun i => decide (s.rd 0x5A02 (8 + k / 4 * 4 + i + 1) < s.rd 0x5A01 2))

/-- R373: the account's reserve in µJ. -/
def State.reserve (s : State) : Nat := s.rdN 0x5A00 3 * s.rdN 0x5A00 7 / 1000

/-- R383: the account above its reserve can pay `uj`. -/
def State.affords (s : State) (uj : Nat) : Bool := decide (s.reserve + uj ≤ s.rdN 0x5A00 2)

/-- R401: the trim of cluster `k` starts. -/
def State.startTrim (s : State) (k : Nat) (r : TrimReq) (window : Option (Int × Int)) : State :=
  let s := if r.forced then s.bump 0x2400 7 else s.bump 0x5A30 6
  let t : Trimming := ⟨k, s.now, r.forced, r.since, window⟩
  let s := ({ s with trm := { s.trm with running := some t, abandon := false } } : State).updCluster k (fun c => { c with
    req := none, omits := if r.forced then some (s.fine, none) else c.omits })
  (s.setCluster k 3).showTrim k

/-- SELF_TRIM_START (R383, R387, R399 to R401): at a tick after the request and after the last trim's end. -/
def execSelfTrimStart (dt : Nat) (s : State) : Host.Outcome State Fault Refusal :=
  timed dt s (fun s => s.queuesRun && s.dev.move ≠ .entering && s.trm.running.isNone && s.sh.capture.isNone && s.rcp.measure.isNone)
    (fun s =>
      match s.nextTrim with
      | none => s
      | some (k, r) =>
        let ended := (List.range 8).foldl (fun t i => max t (s.cluster i).endAt) 0
        if s.can.tickNow ≤ max r.asked ended ∨ !s.afeCool k then s
        else if r.forced then s.startTrim k r none
        else match s.quiet k with
          | none => s
          | some w => if s.affords 720 then s.startTrim k r w else s)

/-- R401: the cluster state after a trim. -/
def State.afterTrim (s : State) (k : Nat) : State :=
  s.setCluster k (if bit (s.rdN 0x2000 4) k && s.queuesRun then (if s.dev.st = .scanning && bit s.dev.running k then 2 else 1) else 0)

/-- R387: exposures fell outside the trim's window. -/
def State.overran (s : State) (t : Trimming) : Bool :=
  if t.forced then false
  else match t.window with
    | some (a, b) => (s.trimDelays t.cluster).any (fun d => decide (s.extPos + d < a) || decide (b ≤ s.extPos + d))
    | none => s.live && s.paced && !((s.pacing = 4 || s.pacing = 6) && !s.trn.restart)

/-- R401: a running trim is over. -/
def State.endTrim (s : State) (t : Trimming) : State :=
  let s := if s.overran t then (s.bump 0x5A30 7).raise1 650 0 else s
  let s : State := { s with trm := { s.trm with running := none, abandon := false } }
  (s.updCluster t.cluster (fun c => { c with
    endAt := s.now, omits := match c.omits with | some (a, none) => some (a, some s.fine) | o => o })).afterTrim t.cluster

/-- R395: the channels of cluster `k` that a trim corrects. -/
def State.trimmed (s : State) (k : Nat) : List Nat :=
  (List.range 8).filter (fun i => s.named (8 * k + i) && s.status (8 * k + i) ≠ 1)

/-- R402: the trim of cluster `k` has passed. -/
def State.trimPassed (s : State) (k : Nat) : State :=
  let ref := (s.clusterTemp k).getD (s.rd 0x2402 (k + 1))
  let s := (((s.wr 0x2402 (k + 1) ref).wr 0x2405 (k + 1) 0).bump 0x2400 6).updCluster k (fun c => { c with
    result := 1, write := some ref })
  (s.wrBit 0x2400 4 k true).wrBit 0x2400 5 k false

/-- R402: it has failed. -/
def State.trimFailed (s : State) (k : Nat) : State :=
  let n := min 3 (s.rdN 0x2405 (k + 1) + 1)
  let s := ((s.wr 0x2405 (k + 1) n).raise1 (816 + k) 0).updCluster k (fun c => { c with
    result := if n = 3 then 6 else 2, retryAt := s.now + s.rdN 0x2400 9 * 1000000000 })
  (s.wrBit 0x2400 4 k false).wrBit 0x2400 5 k true

/-- SELF_TRIM_END (R402): `bad` names the channels of the cluster whose trim fails. -/
def execSelfTrimEnd (dt : Nat) (bad : BitVec 8) (s : State) : Host.Outcome State Fault Refusal :=
  timed dt s (fun s => s.trm.running.isSome) (fun s =>
    match s.trm.running with
    | none => s
    | some t =>
      let k := t.cluster
      let fails := (s.trimmed k).any (fun i => bad.getLsbD i)
      let s := s.endTrim t
      let s := if fails then s.trimFailed k else s.trimPassed k
      (s.wr 0x2404 (k + 1) s.fine).showTrim k)

/-- R403: a running trim is abandoned; its request stays pending with its kind and age. -/
def State.abandonTrim (s : State) : State :=
  match s.trm.running with
  | none => s
  | some t =>
    let s := (s.endTrim { t with forced := true }).bump 0x2400 8
    (s.updCluster t.cluster (fun c => { c with req := some ⟨t.forced, t.since, t.since⟩ })).showTrim t.cluster

/-- SELF_TRIM_ABANDONED (R403): a Bivouac request has been granted, or a fatal-class event has come. -/
def execSelfTrimAbandoned (dt : Nat) (s : State) : Host.Outcome State Fault Refusal :=
  event dt s (fun s => s.trm.running.isSome && (s.trm.abandon || s.ev.fatal || s.dev.move = .entering)) State.abandonTrim

/-- SELF_TRIM_RETRY (R402): the retry interval is over. -/
def execSelfTrimRetry (dt : Nat) (k : Fin 8) (s : State) : Host.Outcome State Fault Refusal :=
  event dt s (fun s => s.rd 0x2400 1 = 1 && (s.cluster k).result = 2 && (s.cluster k).req.isNone && s.dev.ready &&
      !s.trimRuns k && decide ((s.cluster k).retryAt ≤ s.now))
    (fun s => s.askTrim k false)

/-! ## Records (R404) -/

/-- R404: the valid record with the higher generation, and its place. -/
def TrimCluster.newest (c : TrimCluster) : Option (Nat × TrimRec) :=
  match vget c.recs 0, vget c.recs 1 with
  | some a, some b => if a.gen < b.gen then some (1, b) else some (0, a)
  | some a, none => some (0, a)
  | none, some b => some (1, b)
  | none, none => none

/-- TRIM_RECORD_WRITTEN (R404): while the update journal is not active. -/
def execTrimRecordWritten (dt : Nat) (k : Fin 8) (good : Bool) (s : State) : Host.Outcome State Fault Refusal :=
  event dt s (fun s => (s.cluster k).write.isSome && !s.journalActive && s.dev.ready) (fun s =>
    match (s.cluster k).write with
    | none => s
    | some ref =>
      let s := s.updCluster k (fun c => { c with write := none })
      if !good then s.raise1 826 0
      else s.updCluster k (fun c =>
        let at_ := match c.newest with | some (i, _) => 1 - i | none => 0
        let gen := match c.newest with | some (_, r) => r.gen + 1 | none => 1
        { c with recs := vupd c.recs at_ (fun _ => some ⟨gen, ref⟩) }))

/-- R404: at a start the newest record of each cluster applies, else the factory trim. -/
def State.applyTrim (s : State) : State :=
  s.each 8 (fun k s =>
    let s := match (s.cluster k).newest with
      | some (_, r) =>
        ((s.wr 0x2402 (k + 1) r.ref).updCluster k (fun c => { c with result := 1 })).wrBit 0x2400 4 k true
      | none =>
        ((s.wr 0x2402 (k + 1) (Ty.i16.wrap (Config.factoryTemp k).toNat)).updCluster k (fun c => { c with result := 0 })).raise1 825 0
    s.showTrim k)

end Sys2Proof.Machine
end

