-- ==== Sys2Proof/Machine/Canteen.lean ====
section
/-!
DEFINITION. The Canteen (chapter 16): the account, heat, the reservations, the plan and its grants, the lamp grant, the
reaction to lost connections, and what is published at every tick.
-/
namespace Sys2Proof.Machine

/-- Change what the Canteen keeps. -/
def State.updCan (s : State) (f : CanteenSt → CanteenSt) : State := { s with can := f s.can }

/-! ## Inputs and the account (R373) -/

/-- R373: ½ C (V² − V_floor²) in µJ, V in mV. -/
def State.bankEnergy (s : State) (v : Nat) : Nat := s.rdN 0x4C00 3 * (v * v - s.rdN 0x4C00 2 * s.rdN 0x4C00 2) / 2000000

/-- R352, R372: the total connection power, 0x5890:04, in mW. -/
def State.busPower (s : State) : Nat := ((List.range 16).map s.connPower).sum

/-- R373: consumption P_out. -/
def State.consumption (s : State) : Nat := s.busPower + min (s.rdN 0x4C00 6) s.auxCredit

/-- R356, R384: the power above I_lim of the connections whose overload persists. -/
def State.excess (s : State) : Nat :=
  ((List.range 16).map (fun n => if bit s.can.overload n then s.connPower n - 12000 else 0)).sum

/-- R373: the input budget P_in in mW. -/
def State.inputBudget (s : State) : Int :=
  (s.admittedLimit * (1000 - s.rdN 0x5A00 8) / 1000 : Nat) + s.auxCredit - s.excess

/-- R373, R377: the inputs of the tick are read and the account moves. `vb` is V_b in mV, `currents` the connection
currents in mA. -/
def State.readInputs (s : State) (vb : Nat) (currents : List Nat) : State :=
  let s := s.wr 0x4C00 4 (min vb 80000)
  let s := s.each 16 (fun n s => s.wr (0x5880 + n) 2 (if s.connState n = 2 ∨ s.connState n = 3 then min 1000 (currents.getD n 0) else 0))
  let beyond := (List.range 16).foldl (fun o n => setBit o n (bit s.can.overload n && s.connState n = 3 && decide (12000 < s.connPower n))) 0
  let s := s.updCan (fun c => { c with overload := beyond, tickAt := s.fine, tickNow := s.now })
  let top := s.bankEnergy (s.rdN 0x5A00 6)
  let a := s.rd 0x5A00 2 + (s.admittedLimit + s.auxCredit : Nat) - s.consumption
  let a := limit 0 (min (s.bankEnergy (s.rdN 0x4C00 4)) top : Nat) a
  let s := (s.wr 0x5A00 3 top).wr 0x5A00 2 a
  let s := ((s.wr 0x5A00 4 (max 0 s.inputBudget)).wr 0x5A00 5 s.consumption).wr 0x5A00 0x10 s.auxCredit
  let low := decide (a < (s.reserve : Int))
  let s := (s.raiseIf (low && !s.can.reserveTold) 646 0)
  let above := decide (s.admittedLimit + s.auxCredit < s.consumption)
  s.updCan (fun c => { c with
    reserveTold := low, overTicks := if above then c.overTicks + 1 else 0, overTold := c.overTold && above,
    floorTicks := if vb < s.rdN 0x4C00 2 then c.floorTicks + 1 else 0 })

/-- R373: at Ready the account is set. -/
def State.canteenStart (s : State) : State :=
  let top := s.bankEnergy (s.rdN 0x5A00 6)
  ((s.wr 0x5A00 3 top).wr 0x5A00 2 (min top (s.bankEnergy (s.rdN 0x4C00 4)))).updCan (fun c => { c with
    lastLimit := s.admittedLimit, lastCredit := s.auxCredit, ratio := 1000000 })

/-! ## Heat (R385) -/

/-- R385: the hottest die sensor and its reading. -/
def hottest (dies : List Int) : Nat × Int :=
  (List.range 16).foldl (fun b k => if b.2 < dies.getD k 0 then (k, dies.getD k 0) else b) (0, dies.getD 0 0)

/-- R385: a segment is at the sensor-board limit. -/
def State.boardAt (s : State) : Bool :=
  (List.range 32).any (fun g => match s.segTemp g with | some t => decide (s.rd 0x5A01 3 ≤ t) | none => false)

/-- R385: the thermal state of die readings and the segments. -/
def State.thermalOf (s : State) (dies : List Int) : Nat :=
  if dies.any (fun t => 1760 ≤ t) then 3
  else if dies.any (fun t => s.rd 0x5A01 2 ≤ t) then 2
  else if s.boardAt || dies.any (fun t => s.rd 0x5A01 1 ≤ t) then 1
  else 0

/-- R385: f_th moves by 50 per 100 ms. -/
def State.thermalFactor (s : State) (th : Nat) : State :=
  let dir : Int := if s.paced && (decide (2 ≤ th) || s.can.boardHot) then -1 else if th = 0 then 1 else 0
  let n : Int := if dir = 0 then 0 else if 0 ≤ s.can.thTicks * dir then s.can.thTicks + dir else dir
  if 100 ≤ n.natAbs then
    (s.wr 0x5A00 0x15 (limit 100 1000 (s.rd 0x5A00 0x15 + 50 * dir))).updCan (fun c => { c with thTicks := 0 })
  else s.updCan (fun c => { c with thTicks := n })

/-- R385: the thermal step of a tick; an invalid sensor counts as reading the limit. -/
def State.thermalStep (s : State) (dies : List Int) (invalid : Nat) : State :=
  let lim := s.rd 0x5A01 2
  let ts := (List.range 16).map (fun k => if bit invalid k then lim else dies.getD k 0)
  let s := s.each 16 (fun k s => s.wr 0x5A02 (k + 1) (ts.getD k 0))
  let h := hottest ts
  let th := s.thermalOf ts
  let s := ((s.wr 0x5A01 4 h.2).wr 0x5A01 5 h.1).wr 0x5A01 6 th
  let warm := (List.range 16).foldl (fun m k => setBit m k (decide (s.rd 0x5A01 1 ≤ ts.getD k 0))) 0
  let s := s.each 16 (fun k s => s.raiseIf (bit warm k && !bit s.can.warmTold k) (704 + k) 0)
  let board := s.boardAt
  let s := s.raiseIf (board && !s.can.boardHot) 722 0
  let s := s.raiseIf (decide (2 ≤ th) && !s.can.limitTold) 720 0
  let begins := decide (th = 3) && s.can.shutAt.isNone
  let s := if begins then (s.bump 0x5A01 7).raise1 721 0 else s
  let cool := ts.all (fun t => t < lim)
  let s := s.updCan (fun c => { c with
    warmTold := warm, boardHot := board, limitTold := decide (2 ≤ th), lantern := decide (th < 3)
    shutAt := if begins then some s.now else if cool then none else c.shutAt })
  (s.thermalFactor th).lanternGate

/-! ## Reservations (R375, R376, R381) -/

/-- R297: the paced table is held, so no strobe is placed. -/
def State.held (s : State) : Bool := s.paced && s.live && [2, 3, 4, 6].contains s.pacing

/-- R381: lamp power of what lights the lamps now, each group weighted by `share` / 1,000, in mW. -/
def State.lampNeed (s : State) (share : Nat → Nat) : Nat :=
  match s.sh.capture, s.rcp.measure with
  | some c, _ => if s.can.lampAsked || s.can.lamp then s.lampMilli (s.lampSum (s.recipe c.recipe) c.rate share) else 0
  | none, some m =>
    if s.can.lampAsked || s.can.lamp then
      let j := m.groups.getD m.table 0
      let v := ((s.stringsOf j).map (fun i => s.setpoint j i (m.currents.getD m.table 0) * s.stringVolts j i)).sum
      if s.groupOff j then 0 else s.lampMilli (s.rdN (0x4C10 + j) 0xD * v * (s.lampWidth j * m.rate) * share j)
    else 0
  | none, none =>
    if s.live && !s.held && !(s.paced && s.dev.st = .paused) then s.lampMilli (s.lampSum (s.recipe s.activeRecipe) (s.rdN 0x5400 2) share)
    else 0

/-- R384: a lamp reservation scaled by the ratio of the last reaction. -/
def State.scaled (s : State) (v : Nat) : Nat := v * s.can.ratio / 1000000

/-- R255, R376: the class-3 rate in use, in bit/s. -/
def State.statsRate (s : State) : Nat :=
  (s.chains.map (fun (k, _, c) => ((c.list.filter (·.cls = 3)).map (s.descRate k)).sum)).sum

/-- R339, R376: the pass average in mW at a pass time of `us`, uncapped. -/
def State.auxAverage (s : State) (us : Nat) : Nat :=
  if s.aux.lastUs = 0 then 0 else cdiv (s.aux.lastEnergy / us + s.aux.lastSteady) 1000000

/-- R375: the pixel-path reservation now; `dram`: with the DRAM term. -/
def State.pathNow (s : State) (dram : Bool) : Nat :=
  let stage := if s.live then 2 else if s.dev.st = .standby then 1 else 0
  let b := if s.live && dram then s.staggerBytes (s.planesOf s.activeRecipe) (s.rdN 0x5400 2) else 0
  s.pathMilli (s.pathModel stage (fun g => s.rdN (0x2040 + g) 3) (s.dramTerm b))

/-- R376: the ten reservations in mW. -/
def State.reservations (s : State) : List Nat :=
  let base := s.rdN 0x5A00 9
  if s.dev.st = .bivouac then [base, s.pathNow true, 0, 0, 0, 0, 0, 0, 0, 0]
  else
    let full := s.lampNeed (fun _ => 1000)
    let floor_ := s.lampNeed (fun j => s.rdN (0x4C10 + j) 4)
    [base, s.pathNow true, s.stepperNeed, s.scaled floor_, if s.blending then 1200 else 0,
      if s.trm.running.isSome then 300 else 0, s.scaled (full - floor_), cdiv (s.statsRate * 50) 1000000000,
      s.auxAverage (max 1 s.aux.lastUs), cdiv s.lan.unscaled 65535]

/-- R378: the auxiliary minimum. -/
def State.auxMin (s : State) (res : List Nat) : Nat := min (res.getD 8 0) (s.auxAverage (s.rdN 0x5000 7 * 1000))

/-! ## The plan (R378, R380) -/

/-- R378: where a plan stands: what is left, whether something was short, the grants so far, and whether the lamp share
of the bus was capped. -/
structure Plan where
  rest : Int
  short : Bool
  grants : List Nat
  capped : Bool

/-- R378: one consumer of the plan. `off`: lamps without their grant. -/
def planStep (res : List Nat) (auxMin lampCap : Nat) (hot board off : Bool) (p : Plan) (c : Nat) : Plan :=
  let want : Nat := if c = 8 then res.getD 8 0 - auxMin else res.getD c 0
  let fit : Nat := if c = 7 then (if (want : Int) ≤ p.rest then want else 0) else (min (want : Int) p.rest).toNat
  let g := if p.short then 0 else fit
  let room := lampCap - p.grants.getD 3 0
  let cut := decide (c = 6) && decide (room < g)
  let g := if cut then room else g
  let g := if (c = 6 ∧ board) ∨ ((c = 3 ∨ c = 6) ∧ off) ∨ (7 ≤ c ∧ hot) then 0 else g
  { rest := p.rest - g, short := p.short || (decide (g < want) && !((c = 3 || c = 6) && off)),
    grants := p.grants.set c (if c = 8 ∧ !hot then g + auxMin else g), capped := p.capped || cut }

/-- R378: the plan of the grants, and whether R374 capped it. -/
def State.plan (s : State) (res : List Nat) (off : Bool) : Plan :=
  let auxMin := s.auxMin res
  let rest : Int := s.inputBudget - res.getD 0 0 - res.getD 1 0 - res.getD 2 0 - auxMin
  let start : List Nat := [res.getD 0 0, res.getD 1 0, res.getD 2 0, 0, res.getD 4 0, res.getD 5 0, 0, 0, 0, 0]
  let hot := decide (2 ≤ s.rdN 0x5A01 6) && !s.paced
  [3, 6, 7, 8, 9].foldl (planStep res auxMin (150000 + s.auxCredit) hot (s.can.boardHot && !s.paced) off) ⟨rest, false, start, false⟩

/-- R380: the paced generator runs, so the line rate is the lever. -/
def State.pacedLever (s : State) : Bool := s.paced && s.live && !s.held

/-- R377: the grants that the plan allows. -/
def State.allowed (s : State) (res : List Nat) : Plan :=
  if s.dev.st = .bivouac then ⟨0, false, [res.getD 0 0, 0, 0, 0, 0, 0, 0, 0, 0, 0], false⟩
  else if s.pacedLever then ⟨0, false, res, false⟩
  else s.plan res (s.live && !s.can.lamp)

/-- R377: consumer `c` gets its grant: it falls at once; a grant that was cut rises only after the restore hold. -/
def State.giveGrant (s : State) (c was allowed : Nat) : State :=
  let now_ := s.rdN 0x5A11 (c + 1)
  if allowed ≤ now_ ∨ was ≤ now_ then
    (s.wr 0x5A11 (c + 1) allowed).updCan (fun q => { q with riseFrom := vupd q.riseFrom c (fun _ => none) })
  else match vget s.can.riseFrom c with
    | none => s.updCan (fun q => { q with
        riseFrom := vupd q.riseFrom c (fun _ => some s.now), riseTo := vupd q.riseTo c (fun _ => allowed) })
    | some _ => s.updCan (fun q => { q with riseTo := vupd q.riseTo c (fun v => min v allowed) })

/-! ## Publishing (R378, R379, R388) -/

/-- R378: the lamp duty scale. -/
def State.dutyScale (s : State) : Nat :=
  let res := s.rdN 0x5A10 4 + s.rdN 0x5A10 7
  if res = 0 then 1000 else min 1000 (1000 * (s.rdN 0x5A11 4 + s.rdN 0x5A11 7) / res)

/-- R380: L_lim in lines per second. -/
def State.lineLimit (s : State) : Nat :=
  let top := s.rdN 0x5400 2
  if !s.paced then top
  else
    let fixed := s.rdN 0x5A00 9 + s.pathNow false + s.stepperNeed + cdiv (s.statsRate * 50) 1000000000 +
      s.auxAverage (max 1 s.aux.lastUs) + cdiv s.lan.unscaled 65535
    let r := s.recipe s.activeRecipe
    let per := s.lampFull r top * 1000000000 + s.staggerPerLine (rP r) * 50 * top
    let room := (s.inputBudget - fixed).toNat
    let l := if per = 0 then top else min top (room * s.rdN 0x5A00 0xA * top * 1000000 / per)
    l * s.rdN 0x5A00 0x15 / 1000

/-- R379: the declaration stands or ends. -/
def State.declare (s : State) : State :=
  let short := decide (s.rd 0x5A11 4 < s.rd 0x5A10 4)
  if short ∧ !s.can.declared then
    (((s.raise1 643 0).wr 0x5A00 0xF 1).bump 0x5A00 0x11).updCan (fun c => { c with declared := true })
  else if !short ∧ s.can.declared then
    ((s.raise1 644 0).wr 0x5A00 0xF 0).updCan (fun c => { c with declared := false })
  else s

/-- R378: D acts on every used group. -/
def State.publishDuty (s : State) : State :=
  let d := s.dutyScale
  (s.wr 0x5A00 0xE d).each 8 (fun j s => s.wr (0x5A20 + j) 2 (if s.groupUsed j then d else 1000))

/-- R388: the energy state. -/
def State.energyState (s : State) : Nat :=
  let cut := fun c => decide (s.rd 0x5A11 (c + 1) < s.rd 0x5A10 (c + 1))
  if !s.dev.ready then 0
  else if 2 ≤ s.rd 0x5A01 6 then 8
  else if s.paced ∧ s.live ∧ s.rd 0x5A00 0xD < s.rd 0x5400 2 then 7
  else if s.can.declared then 6
  else if s.rd 0x5A00 0xE < 1000 then 5
  else if s.dev.st = .bivouac then 1
  else if cut 7 then 4
  else if cut 8 then 3
  else if cut 9 then 2
  else 1

/-- R377, R378, R388: what follows from the grants is published. -/
def State.publishGrants (s : State) : State :=
  let s := s.declare.publishDuty
  let shed := decide (s.rd 0x5A11 8 < s.rd 0x5A10 8)
  let cap : Nat := if s.rd 0x5A11 9 < s.rd 0x5A10 9 then max (s.rdN 0x5A11 9) (s.auxMin ((List.range 10).map (fun c => s.rdN 0x5A10 (c + 1))))
    else 0xFFFFFFFF
  let s := (s.wr 0x5000 8 cap).updCan (fun c => { c with shedStats := shed })
  let s := s.wr 0x5A00 0xD s.lineLimit
  let slow := s.paced && s.live && decide (s.rd 0x5A00 0xD < s.rd 0x5400 2)
  let s := (s.raiseIf (slow && !s.can.rateTold) 645 0).updCan (fun c => { c with rateTold := slow })
  let e := s.energyState
  if s.rdN 0x5A00 1 = e then s else (s.wr 0x5A00 1 e).raise1 640 0

/-! ## Reactions (R384), transient grants (R383), DRAM (R386) -/

/-- R384: the change of the admitted power since the last tick. -/
def State.budgetChange (s : State) : State :=
  let pl := s.admittedLimit
  let px := s.auxCredit
  let lost := decide (pl < s.can.lastLimit ∨ px < s.can.lastCredit)
  let won := decide (s.can.lastLimit < pl ∨ s.can.lastCredit < px)
  let modelled := s.rdN 0x5A11 4 + s.rdN 0x5A11 7
  let ratio := if lost ∨ won then 1000000
    else if s.can.second then (if modelled = 0 then 1000000 else s.rdN 0x4C00 6 * 1000000 / modelled)
    else s.can.ratio
  let s := if lost then (s.bump 0x5A00 0x12).raise 641 (.wide s.can.lastLimit pl) else s.raiseIf won 642 0
  s.updCan (fun c => { c with lastLimit := pl, lastCredit := px, second := lost, ratio := ratio })

/-- R153, R383: the energy bound of the armed blend in µJ. -/
def State.blendEnergy (s : State) (a : Armed) : Nat :=
  let r := s.recipe a.recipe
  let e := match s.basisBytes (rBasis r) with | some b => bsN b * rP r | none => 0
  cdiv (1200 * (11800000 * e / 2097152 + 200000)) 1000000

/-- R383: a blend that waits is granted once the account affords it and the core die is below its limit. -/
def State.grantBlend (s : State) : State :=
  match s.rcp.armed with
  | some a =>
    if a.phase = 1 ∧ s.affords (s.blendEnergy a) ∧ (List.range 8).all (fun k => decide (s.rd 0x5A02 (k + 1) < s.rd 0x5A01 2))
    then s.updCan (fun c => { c with blendOk := true }) else s
  | none => s

/-- R386: DRAM changes its rate. -/
def State.setDram (s : State) (v : Nat) : State := if s.rdN 0x5A00 0x13 = v then s else (s.wr 0x5A00 0x13 v).raise1 651 0

/-- R386: the stagger traffic at L_max allows the half rate. -/
def State.halfRateOk (s : State) : Bool := decide (s.staggerBytes (s.planesOf s.activeRecipe) s.lMax ≤ 40950000000)

/-- R386: the choice at entry to Standby and to Scanning. -/
def State.chooseDram (s : State) : State :=
  (s.setDram (b2n (s.rd 0x5A00 0x14 = 0 && s.halfRateOk))).updCan (fun c => { c with dramHeat := false })

/-- R386: while scanning, heat brings the half rate. -/
def State.dramStep (s : State) : State :=
  let th := s.rdN 0x5A01 6
  if !s.live ∨ s.rd 0x5A00 0x14 ≠ 0 then s
  else if (th = 1 ∨ th = 2) ∧ s.rd 0x5A00 0x13 = 0 ∧ s.halfRateOk then (s.setDram 1).updCan (fun c => { c with dramHeat := true })
  else if th = 0 ∧ s.can.dramHeat then (s.setDram 0).updCan (fun c => { c with dramHeat := false })
  else s

/-! ## Lamp and stepper grants (R382) -/

/-- R382: V_b is at or above the floor plus 1.0 V. -/
def State.bankReady (s : State) : Bool := decide (s.rdN 0x4C00 2 + 1000 ≤ s.rdN 0x4C00 4)

/-- R382: the two-tick rule for a lamp request. -/
def State.lampStep (s : State) (full : Bool) : State :=
  let asked := !s.can.lamp && (s.can.lampAsked || s.live)
  let good := s.dev.ready && decide (s.rd 0x5A01 6 < 3) && s.bankReady && full
  if asked ∧ good then
    if s.can.lampTick then s.updCan (fun c => { c with lamp := true, lampAsked := false, lampTick := false, floorTicks := 0 })
    else s.updCan (fun c => { c with lampTick := true })
  else s.updCan (fun c => { c with lampTick := false })

/-- R382: the stepper grant in paced mode. -/
def State.grantStepper (s : State) : State :=
  if s.paced && s.queuesRun && !s.can.stepper &&
      decide ((s.stepperNeed : Int) ≤ s.inputBudget - s.rdN 0x5A00 9 - s.pathNow true) then
    let s := s.updCan (fun c => { c with stepper := true })
    s.updTrn (fun x => { x with men := true, restAt := some s.now })
  else s

/-- R382: at the acceptance of an entry to Scanning. -/
def State.lampEntry (s : State) : State :=
  if s.bankReady then s.updCan (fun c => { c with lamp := true, lampAsked := false, lampTick := false, floorTicks := 0 })
  else s

/-- R386, R382: what the Canteen does at entry to Standby. -/
def State.canteenStandby (s : State) : State := s.chooseDram.grantStepper

/-- R394, R201: grants other than consumer 0's end at entry to Bivouac. -/
def State.canteenSleep (s : State) : State :=
  ((s.each 9 (fun c s => s.wr 0x5A11 (c + 2) 0)).updCan (fun c => { c with lamp := false, lampAsked := false, lampTick := false, stepper := false })).updTrn (fun x =>
    { x with men := false })

/-- LAMP_GRANT_WITHDRAWN (R382): V_b below the floor for 10 consecutive ticks, or a thermal shutdown. -/
def execLampGrantWithdrawn (dt : Nat) (s : State) : Host.Outcome State Fault Refusal :=
  timed dt s (fun s => s.can.lamp && (decide (10 ≤ s.can.floorTicks) || s.can.shutAt.isSome)) (fun s =>
    let s := (s.updCan (fun c => { c with lamp := false, lampTick := false })).raise1 648 0
    if s.paced then s.pegStop 2
    else if s.live then ((s.wr 0x5A11 4 0).wr 0x5A11 7 0).publishGrants
    else s)

/-- CONSUMPTION_ABOVE_BUDGET (R384): once per episode. -/
def execConsumptionAboveBudget (dt : Nat) (s : State) : Host.Outcome State Fault Refusal :=
  event dt s (fun s => decide (10 ≤ s.can.overTicks) && !s.can.overTold) (fun s =>
    (s.raise1 647 0).updCan (fun c => { c with overTold := true }))

/-- GRANT_RESTORE_HOLD_EXPIRY (R377): the grants whose plan has allowed more throughout the restore hold rise to the lowest
value it allowed. -/
def execGrantRestoreHoldExpiry (dt : Nat) (s : State) : Host.Outcome State Fault Refusal :=
  let beyond := fun (s : State) c => match vget s.can.riseFrom c with
    | some t => s.elapsed t (s.rdN 0x5A00 0xC * 1000000)
    | none => false
  event dt s (fun s => s.dev.ready && (List.range 10).any (beyond s)) (fun s =>
    (s.each 10 (fun c s =>
      if beyond s c then
        (s.wr 0x5A11 (c + 1) (vget s.can.riseTo c : Nat)).updCan (fun q => { q with riseFrom := vupd q.riseFrom c (fun _ => none) })
      else s)).publishGrants)

/-! ## The tick (R377) -/

/-- R377, steps 3 to 6. -/
def State.planStep (s : State) : State :=
  let was := (List.range 10).map (fun c => s.rdN 0x5A10 (c + 1))
  let s := s.budgetChange
  let res := s.reservations
  let s := (s.wrAll 0x5A10 1 (res.map Int.ofNat))
  let full := decide ((s.plan res false).grants.getD 3 0 = res.getD 3 0)
  let s := s.lampStep full
  let p := s.allowed res
  let s := (s.raiseIf (p.capped && !s.can.capTold) 649 0).updCan (fun c => { c with capTold := p.capped })
  let s := s.each 10 (fun c s => s.giveGrant c (was.getD c 0) (p.grants.getD c 0))
  let s := (s.grantBlend.dramStep).grantStepper
  s.publishGrants

/-- R387: the clusters that wait for a trim. -/
def State.showWaiting (s : State) : State :=
  s.wr 0x5A30 8 ((List.range 8).foldl (fun (m : Nat) k => setBit m k (s.cluster k).req.isSome) 0 : Nat)

/-- R377, R397: one tick. -/
def State.tick (s : State) (vb : Nat) (currents : List Nat) (dies : List Int) (invalid : Nat) : State :=
  let s := (s.readInputs vb currents).thermalStep dies invalid
  let s := s.planStep
  (s.each 8 (fun k s => s.trimTick dies invalid k)).showWaiting

/-- CANTEEN_TICK (R377): at each Compass multiple of 1 ms from Ready on. `vb` is V_b in mV, `currents` the 16 connection
currents in mA averaged over the last 1 ms, `dies` the 16 die sensors in 1/16 °C, `invalid` those without a reading. -/
def execCanteenTick (dt : Nat) (vb : Nat) (currents : List Nat) (dies : List Int) (invalid : BitVec 16) (s : State) :
    Host.Outcome State Fault Refusal :=
  timed dt s (fun s => s.dev.ready && decide (s.fine / 1000000 ≠ s.can.tickAt / 1000000)) (fun s =>
    s.tick vb currents dies invalid.toNat)

end Sys2Proof.Machine
end

