-- ==== Sys2Proof/Machine/Capture.lean ====
section
/-!
DEFINITION. The shading capture (R132 to R136), the basis measurement (R144, R145) and the import of a captured plane
(R146). The sums are gathered by CHANNEL_LINE_END (FrontEnd).
-/
namespace Sys2Proof.Machine

/-! ## What both procedures share -/

/-- R135: the parameters taken at a start. -/
def State.capPar (s : State) : CapPar :=
  let g := fun (i : Nat) => s.rdN 0x4030 i
  { lines := g 4, settle := g 5, base := g 8, target := g 9, repl := g 0xA, darkThr := g 0xB, whiteThr := g 0xC,
    minWhite := g 0xD, maxDef := g 0xE }

/-- R132: the exposure rate of a capture whose line cycles have `p` planes; with no trigger source, what every running
group's cycle allows at its present clock. -/
def State.captureMax (s : State) (p : Nat) : Nat :=
  let e := s.rateFor p
  if e ≠ 0 then e
  else
    let l := ((List.range 16).filter s.groupRuns).map (fun g => (s.group g).clock * 25000000 / 2 ^ 24 / s.cycleLen g)
    match l with
    | [] => 1
    | x :: r => max 1 (r.foldl min x)

/-- R132: the capture line rate: as set, or the maximum divided by P; a higher one is clamped and reported. -/
def State.captureRate (s : State) (p : Nat) : State × Nat :=
  let top := max 1 (s.captureMax p / p)
  let v := s.rdN 0x4030 6
  if v = 0 then (s, top)
  else if top < v then (s.ownClamp 0x4030 6 4 v top, top)
  else (s, v)

/-- Every group takes recipe `r` for the procedure's cycles, primed where it is lagged. -/
def State.captureGroups (s : State) (r : Nat) : State :=
  (s.resetGroups true).each 16 (fun g s => s.updGroup g (fun q => { q with recipe := r }))

/-- R73, R132: what ends with a capture or a measurement: cycles, the lamp grant asked for, the capture's clock. The Bivouac
idle timeout did not count from `begun` on. -/
def State.captureOver (s : State) (begun : Nat) : State :=
  let s := { s with sh := { s.sh with capture := none } }
  let s := { s with rcp := { s.rcp with measure := none } }
  let s := { s with can := { s.can with lampAsked := false, lamp := false } }
  let s := { s with dev := { s.dev with standbySince := s.dev.standbySince + (s.now - begun) } }
  (s.resetGroups false).setClocks s.eMax

/-- Every group is between cycles. -/
def State.groupsIdle (s : State) : Bool :=
  (List.range 16).all (fun g => (s.group g).running.isNone && (s.group g).due.isNone && (s.group g).latch.isNone)

/-- Named channels that are not simply in service now: they are skipped (R133). -/
def State.outNow (s : State) : List Nat := s.namedChannels.filter (fun n => s.status n ≠ 0 || s.offline (n / 8))

/-- A list joined with the members of another that it lacks. -/
def union (a b : List Nat) : List Nat := a ++ b.filter (fun x => !a.contains x)

/-- R133: a sum over `n` lines as a mean, ties away from zero. -/
def meanOf (n : Nat) (v : Int) : Int := rdiv v n

/-- R133: positions of a channel and plane whose value departs from its local median by more than the threshold. -/
def darkFlags (l : List Int) (thr : Nat) : List Nat :=
  (List.range l.length).filter (fun i => decide (thr < (l.getD i 0 - localMedian l i).natAbs))

/-- R133: the white defects of a channel and plane with the plane's level `m`; `over` says which pixels were over-range. -/
def whiteFlags (l : List Int) (beyond : Nat → Bool) (m min thr : Nat) : List Nat :=
  (List.range l.length).filter (fun i =>
    let w := l.getD i 0
    let loc := localMedian l i
    beyond i || decide (w < min) || decide (loc * thr < (w - loc).natAbs * 1000) || decide (0xFFFF < blendGain m w))

/-- Saturation to INTEGER16. -/
def satI16 (v : Int) : Int := limit (-32768) 32767 v

/-! ## Capture: acceptance -/

/-- R132: a capture's start. -/
def opCapture (kind : Nat) : Op := fun _ s =>
  let r := if s.rdN 0x4030 7 = 255 then s.activeRecipe else s.rdN 0x4030 7
  let b := s.recipe r
  let p := s.planesOf r
  if s.dev.st ≠ .standby then (s, 7)
  else if s.shadowHeld ∨ s.rcp.measure.isSome then (s, 8)
  else if kind = 2 ∧ s.rd 0x4030 8 ≠ 0 then (s, 5)
  else
    let c := firstFailed [s.item1, s.item3 (s.rateFor p) converterLimit, if kind = 1 then none else s.item6 b]
    if c.code ≠ 0 then (s.report c, 10)
    else
      let s := s.setClocks (s.rateFor p)
      let q := s.captureRate p
      let s := (q.1.setBank q.1.shadow 1 2).captureGroups r
      let s := ((s.wr 0x4030 3 1).wr 0x4030 0xF 0)
      let c : Capture := { (default : Capture) with
        kind := kind, phase := .base, recipe := r, planes := p, par := s.capPar, rate := q.2, skipped := s.outNow,
        begun := s.now, since := s.now }
      ({ s with sh := { s.sh with capture := some c } }, 0)

/-- START_DARK_CAPTURE (R132). -/
def execStartDarkCapture (dt : Nat) (m : Fin 17) (s : State) : Host.Outcome State Fault Refusal :=
  hostCommand dt m 0x4030 1 1 (opCapture 1) s

/-- START_WHITE_CAPTURE (R132). -/
def execStartWhiteCapture (dt : Nat) (m : Fin 17) (s : State) : Host.Outcome State Fault Refusal :=
  hostCommand dt m 0x4030 1 2 (opCapture 2) s

/-- START_DARK_WHITE_CAPTURE (R132). -/
def execStartDarkWhiteCapture (dt : Nat) (m : Fin 17) (s : State) : Host.Outcome State Fault Refusal :=
  hostCommand dt m 0x4030 1 3 (opCapture 3) s

/-! ## Capture: ends -/

/-- A capture ends with this status, and the shadow in this state without holder. -/
def State.captureEnd (s : State) (c : Capture) (status bank : Nat) : State :=
  (((s.wr 0x4030 3 status).setBank s.shadow bank 0).captureOver c.begun).raise1 (if bank = 2 then 840 else 841) 0

/-- R134: a capture is aborted. -/
def State.captureAbort (s : State) : State :=
  match s.sh.capture with
  | none => s
  | some c => s.captureEnd c 9 3

/-- R144: a measurement is aborted; set k stays as it is. -/
def State.measureAbort (s : State) : State :=
  match s.rcp.measure with
  | none => s
  | some m => (s.wr 0x4200 5 8).captureOver m.begun

/-- R134: the abort command: at the next line cycle boundary, at once where no line cycle runs. -/
def opAbortCapture : Op := fun _ s =>
  match s.sh.capture with
  | none => (s, 0)
  | some c =>
    if s.groupsIdle then (s.captureAbort, 0)
    else ({ s with sh := { s.sh with capture := some { c with aborting := true } } }, 0)

/-- ABORT_CAPTURE (R134). -/
def execAbortCapture (dt : Nat) (m : Fin 17) (s : State) : Host.Outcome State Fault Refusal :=
  hostCommand dt m 0x4030 2 1 opAbortCapture s

/-- R144: the abort command of a measurement. -/
def opAbortMeasurement : Op := fun _ s =>
  match s.rcp.measure with
  | none => (s, 0)
  | some m =>
    if s.groupsIdle then (s.measureAbort, 0)
    else ({ s with rcp := { s.rcp with measure := some { m with aborting := true } } }, 0)

/-- ABORT_MEASUREMENT (R144). -/
def execAbortMeasurement (dt : Nat) (m : Fin 17) (s : State) : Host.Outcome State Fault Refusal :=
  hostCommand dt m 0x4200 4 1 opAbortMeasurement s

/-! ## Line cycles of both procedures -/

/-- The settle or average count of a phase; none outside those phases. -/
def CapPar.count (p : CapPar) (ph : Phase) : Option Nat := match ph with
  | .darkSettle | .whiteSettle => some p.settle
  | .darkAverage | .whiteAverage => some p.lines
  | _ => none

/-- R132: a line cycle may be started: cycles remain in the phase, the period has passed, every group is free. -/
def cycleDue (s : State) (par : CapPar) (ph : Phase) (done rate since : Nat) (aborting : Bool) : Bool :=
  (match par.count ph with
    | none => false
    | some n => decide (done < n) && s.elapsed since (1000000000 / max 1 rate)) && s.groupsIdle || (aborting && s.groupsIdle)

/-- R132: one line cycle's trigger to every running group; its number counts the procedure's line cycles. -/
def State.captureTrigger (s : State) : State :=
  let n := s.rdN 0x4030 0xF
  (s.bump 0x4030 0xF).each 16 (fun g s => if s.groupRuns g then s.deliver g ⟨s.fine, n, 3, 0⟩ else s)

/-- CAPTURE_LINE_CYCLE (R132, R144): the capture generator starts a line cycle, or an abort takes effect at its boundary. -/
def execCaptureLineCycle (dt : Nat) (s : State) : Host.Outcome State Fault Refusal :=
  event dt s (fun _ => true) (fun s =>
    match s.sh.capture, s.rcp.measure with
    | some c, _ =>
      if !cycleDue s c.par c.phase c.done c.rate c.since c.aborting then s
      else if c.aborting then s.captureAbort
      else
        let s := s.captureTrigger
        { s with sh := { s.sh with capture := some { c with done := c.done + 1, since := s.now } } }
    | none, some m =>
      if !cycleDue s m.par m.phase m.done m.rate m.since m.aborting then s
      else if m.aborting then s.measureAbort
      else
        let s := s.captureTrigger
        { s with rcp := { s.rcp with measure := some { m with done := m.done + 1, since := s.now } } }
    | none, none => s)

/-- A settle phase's average phase. -/
def Phase.average : Phase → Phase
  | .darkSettle => .darkAverage
  | .whiteSettle => .whiteAverage
  | p => p

/-- CAPTURE_SETTLE_DONE (R133, R144): the settle count is done and averaging begins. -/
def execCaptureSettleDone (dt : Nat) (s : State) : Host.Outcome State Fault Refusal :=
  event dt s State.groupsIdle (fun s =>
    match s.sh.capture, s.rcp.measure with
    | some c, _ =>
      if (c.phase = .darkSettle ∨ c.phase = .whiteSettle) ∧ c.par.settle ≤ c.done then
        { s with sh := { s.sh with capture := some { c with phase := c.phase.average, done := 0, sumFrom := s.now } } }
      else s
    | none, some m =>
      if (m.phase = .darkSettle ∨ m.phase = .whiteSettle) ∧ m.par.settle ≤ m.done then
        { s with rcp := { s.rcp with measure := some { m with phase := m.phase.average, done := 0, sumFrom := s.now } } }
      else s
    | none, none => s)

/-- R133, R382: the wait for the lamp grant. -/
def State.askLamps (s : State) : State := { s with can := { s.can with lampAsked := true, lampTick := false } }

/-! ## Capture: base and sums -/

/-- R133: the base: header and entries of the shadow, from the live map and the capture recipe. -/
def State.captureBase (s : State) (c : Capture) : List Byte :=
  let a := s.bank s.activeBank
  let old := c.par.base = 0 && s.bankState s.activeBank = 2
  let has := fun n => s.named n
  let px := fun n => s.activePx n
  let clear := fun e => if c.kind ≠ 2 ∧ eOrigin e = 1 then mkEntry (eDark e) (eGain e) (eClass e) 0 0 else e
  let es := ((List.range 64).filter has).flatMap (fun n => (List.range c.planes).flatMap (fun p => (List.range (px n)).map (fun i =>
    if old && p < bP a.bytes && dirHas a.bytes 88 n && dirA a.bytes 88 n = px n then
      clear (bEntry a.bytes (entryIndex a.bytes n p i))
    else identityEntry)))
  let head := bankHeader c.planes (if old then fieldAt a.bytes 7 1 % 2 else 0) es.length 2 c.recipe
    ((List.range 4).map (fun p => if old && p < c.planes then bScale a.bytes p else 0x1000))
    ((List.range 32).map (fun g => if old then bTref a.bytes g else 0))
    (directory has px c.planes) (if old then slice a.bytes 600 2048 else [])
  bankContent head es

/-- CAPTURE_BASE_DONE (R133): the dark phase begins, or a white capture asks for its lamp grant. -/
def execCaptureBaseDone (dt : Nat) (s : State) : Host.Outcome State Fault Refusal :=
  event dt s (fun _ => true) (fun s =>
    match s.sh.capture with
    | none => s
    | some c =>
      if c.phase ≠ .base then s
      else
        let bytes := s.captureBase c
        let s := s.updBank s.shadow (fun _ => ⟨bytes, []⟩)
        let z : List Int := List.replicate (bE bytes) 0
        let zt : List Int := List.replicate 32 0
        let c := { c with
          sumDark := z, sumWhite := z, tempSum := zt, tempN := List.replicate 32 0, since := s.now
          dark := if c.kind = 2 then (bankEntries bytes).map eDark else z }
        if c.kind = 2 then
          { (s.wr 0x4030 3 3).askLamps with sh := { (s.wr 0x4030 3 3).askLamps.sh with capture := some { c with phase := .waitLamp } } }
        else
          { s.wr 0x4030 3 2 with sh := { (s.wr 0x4030 3 2).sh with capture := some { c with phase := .darkSettle } } })

/-- The channel and plane slices of a bank content: channel, plane, offset, length. -/
def bankSlices (b : List Byte) : List (Nat × Nat × Nat × Nat) :=
  ((List.range 64).filter (dirHas b 88)).flatMap (fun c =>
    (List.range (bP b)).map (fun p => (c, p, entryIndex b c p 0, dirA b 88 c)))

/-- R133: entry `e` carries a flag of origin 0, which no capture changes. -/
def kept (e : Nat) : Bool := eRepl e ≠ 0 && eOrigin e = 0

/-- R133, 2: dark values and dark defects from the sums. -/
def Capture.darkResult (c : Capture) (b : List Byte) : Capture :=
  let dark := c.sumDark.map (fun v => satI16 (meanOf c.par.lines v))
  let bad := (bankSlices b).flatMap (fun (n, _, o, len) =>
    if c.skipped.contains n then []
    else ((darkFlags ((dark.drop o).take len) c.par.darkThr).map (· + o)).filter (fun e => !kept (bEntry b e)))
  { c with dark := dark, darkBad := bad }

/-- CAPTURE_AVERAGING_DONE (R133): N line cycles are averaged and the computation begins. -/
def execCaptureAveragingDone (dt : Nat) (s : State) : Host.Outcome State Fault Refusal :=
  event dt s State.groupsIdle (fun s =>
    match s.sh.capture with
    | none => s
    | some c =>
      if c.done < c.par.lines then s
      else
        let c := { c with skipped := union c.skipped s.outNow, since := s.now }
        let b := (s.bank s.shadow).bytes
        if c.phase = .darkAverage then
          let c := c.darkResult b
          if c.kind = 3 then { s with sh := { s.sh with capture := some { c with phase := .darkComputing } } }
          else { s.wr 0x4030 3 5 with sh := { (s.wr 0x4030 3 5).sh with capture := some { c with phase := .computing } } }
        else if c.phase = .whiteAverage then
          { s.wr 0x4030 3 5 with sh := { (s.wr 0x4030 3 5).sh with capture := some { c with phase := .computing } } }
        else s)

/-- CAPTURE_LAMP_GRANT (R133, R144): the grant has come and the strobed cycles begin. -/
def execCaptureLampGrant (dt : Nat) (s : State) : Host.Outcome State Fault Refusal :=
  event dt s (fun s => s.can.lamp) (fun s =>
    match s.sh.capture, s.rcp.measure with
    | some c, _ =>
      if c.phase ≠ .waitLamp then s
      else { s.wr 0x4030 3 4 with sh := { (s.wr 0x4030 3 4).sh with
          capture := some { c with phase := .whiteSettle, done := 0, since := s.now } } }
    | none, some m =>
      if m.phase ≠ .waitLamp then s
      else { s.wr 0x4200 5 3 with rcp := { (s.wr 0x4200 5 3).rcp with
          measure := some { m with phase := .whiteSettle, done := 0, since := s.now } } }
    | none, none => s)

/-! ## Capture: result -/

/-- R136: one capture report record, 16 bytes, least significant byte first. -/
def capRecord (ch plane result defects : Nat) (dark : Int) (white gmin gmax procedure held : Nat) : List Byte :=
  le 16 (ch * 2 ^ 120 + plane * 2 ^ 118 + result * 2 ^ 104 + min 65535 defects * 2 ^ 88 +
    (Ty.u16.wrap dark).toNat * 2 ^ 72 + white * 2 ^ 56 + gmin * 2 ^ 40 + gmax * 2 ^ 24 + procedure * 2 ^ 16 + held * 2 ^ 15)

/-- R133, 3 and 4: what a white computation gives: levels by plane, defects, gains by entry. -/
structure WhiteResult where
  levels : List Nat
  w : List Int
  bad : List Nat
  gains : List Nat
  deriving DecidableEq, Repr, Inhabited

/-- R133, 3: the white computation. -/
def Capture.white (c : Capture) (b : List Byte) : WhiteResult :=
  let w := c.sumWhite.map (meanOf c.par.lines)
  let parts := (bankSlices b).filter (fun (n, _, _, _) => !c.skipped.contains n)
  let levels := (List.range (bP b)).map (fun p =>
    (lowerMedian ((parts.filter (fun q => q.2.1 = p)).flatMap (fun (_, _, o, len) => (w.drop o).take len))).toNat)
  let bad := parts.flatMap (fun (_, p, o, len) =>
    ((whiteFlags ((w.drop o).take len) (fun i => c.beyond.contains (o + i)) (levels.getD p 0) c.par.minWhite c.par.whiteThr).map (· + o)).filter
      (fun e => !kept (bEntry b e)))
  let gains := (bankSlices b).flatMap (fun (n, p, o, len) =>
    let l := (w.drop o).take len
    (List.range len).map (fun i =>
      if c.skipped.contains n then eGain (bEntry b (o + i))
      else min 0xFFFF (blendGain (levels.getD p 0) (if bad.contains (o + i) then localMedian l i else l.getD i 0))))
  ⟨levels, w, bad, gains⟩

/-- R133: a segment's mean temperature; the value before where none was summed. -/
def meanTemp (sum : List Int) (n : List Nat) (g : Nat) (was : Int) : Int :=
  if n.getD g 0 = 0 then was else rdiv (sum.getD g 0) (n.getD g 0)

/-- R133, 8: a plane scale. -/
def scaleFor (target m : Nat) : Nat := if m = 0 then 0xFFFF else (limit 1 0xFFFF ((2 * target * 2 ^ 12 + m) / (2 * m) : Nat)).toNat

/-- R133, 4 to 6: the shadow's new content. -/
def Capture.content (c : Capture) (b : List Byte) (wr : WhiteResult) : List Byte :=
  let es := (bankEntries b).mapIdx (fun i e =>
    let skip := (bankSlices b).any (fun (n, _, o, len) => c.skipped.contains n && o ≤ i && i < o + len)
    if skip then e
    else
      let dark := if c.kind = 2 then eDark e else c.dark.getD i 0
      let gain := if c.kind = 1 then eGain e else wr.gains.getD i 0
      let bad := (c.kind ≠ 2 && c.darkBad.contains i) || (c.kind ≠ 1 && wr.bad.contains i)
      if bad then mkEntry dark gain (eClass e) 1 c.par.repl else mkEntry dark gain (eClass e) (eOrigin e) (eRepl e))
  let head := b.take 4092
  let head := if c.kind = 1 then head
    else
      let scales := (List.range 4).flatMap (fun p => le 2 (if p < bP b then scaleFor c.par.target (wr.levels.getD p 0) else 0x1000))
      let tref := (List.range 32).flatMap (fun g => sle 2 (meanTemp c.tempSum c.tempN g (bTref b g)))
      overlay (overlay head 16 scales) 24 tref
  bankContent head es

/-- R133, 5, R136: the result of one channel and plane: 0 to 4. -/
def capResult (skipped : Bool) (defects maxDef : Nat) (low : Bool) : Nat :=
  if skipped then 4 else if maxDef < defects then 2 else if low then 3 else if defects = 0 then 0 else 1

/-- R136: the records of one procedure and the results they hold by channel. -/
def Capture.records (c : Capture) (s : State) (b : List Byte) (wr : WhiteResult) (white : Bool) : List (Nat × Nat × List Byte) :=
  (bankSlices b).map (fun (n, p, o, len) =>
    let mine := fun (l : List Nat) => (l.filter (fun e => o ≤ e && e < o + len)).length
    let own := mine (if white then wr.bad else c.darkBad)
    let all := mine (union (if c.kind = 2 then [] else c.darkBad) (if c.kind = 1 then [] else wr.bad))
    let dark := (c.dark.drop o).take len
    let med := lowerMedian ((wr.w.drop o).take len)
    let gains := (wr.gains.drop o).take len
    let skip := c.skipped.contains n
    let r := capResult skip (if white then all else own) c.par.maxDef (white && decide (med < c.par.minWhite))
    let held := match s.segmentOf n with
      | some g => b2n (bit (if white then c.tempHeld else c.darkHeld) g)
      | none => 0
    let rec_ :=
      if white then
        capRecord n p r own (lowerMedian dark) (limit 0 65535 med).toNat (gains.foldl min 0xFFFF) (gains.foldl max 0) 2 held
      else capRecord n p r own (lowerMedian dark) 0 0 0 1 held
    (n, r, rec_))

/-- R133, 6: a completed capture's result. -/
def State.captureResult (s : State) (c : Capture) : State :=
  let b := (s.bank s.shadow).bytes
  let c := { c with skipped := union c.skipped s.outNow }
  let wr := if c.kind = 1 then default else c.white b
  let recs := (if c.kind = 2 then [] else c.records s b default false) ++ (if c.kind = 1 then [] else c.records s b wr true)
  let failed := recs.any (fun q => q.2.1 = 2 || q.2.1 = 3)
  let passed := (List.range 64).foldl (fun m n =>
    setBit m n (dirHas b 88 n && recs.all (fun q => q.1 ≠ n || q.2.1 ≤ 1))) 0
  let defects := (union (if c.kind = 2 then [] else c.darkBad) (if c.kind = 1 then [] else wr.bad)).length
  let s := (s.wr 0x4030 0x10 passed).wr 0x4030 0x11 defects
  let report := recs.flatMap (fun q => q.2.2)
  let s := { s with sh := { s.sh with report := report } }
  if failed then s.captureEnd c 8 3
  else
    let bytes := c.content b wr
    (s.updBank s.shadow (fun _ => ⟨bytes, []⟩)).captureEnd c (if defects = 0 ∧ c.skipped = [] then 6 else 7) 2

/-- R133: no lamp grant came: every record reads 6. -/
def State.captureNoGrant (s : State) (c : Capture) : State :=
  let b := (s.bank s.shadow).bytes
  let one := fun (proc : Nat) => (bankSlices b).flatMap (fun (n, p, _, _) => capRecord n p 6 0 0 0 0 0 proc 0)
  let s := (s.wr 0x4030 0x10 0).wr 0x4030 0x11 0
  let s := { s with sh := { s.sh with report := (if c.kind = 2 then [] else one 1) ++ one 2 } }
  s.captureEnd c 8 3

/-- CAPTURE_COMPUTE_DONE (R133): the tables are computed; between dark and white the lamp grant is asked for. -/
def execCaptureComputeDone (dt : Nat) (s : State) : Host.Outcome State Fault Refusal :=
  event dt s (fun _ => true) (fun s =>
    match s.sh.capture with
    | none => s
    | some c =>
      if c.phase = .darkComputing then
        let s := (s.wr 0x4030 3 3).askLamps
        { s with sh := { s.sh with capture := some { c with phase := .waitLamp, since := s.now } } }
      else if c.phase = .computing then s.captureResult c
      else s)

/-! ## The basis measurement (R144) -/

/-- R144: item 6 for the groups of the measurement's tables. -/
def State.tablesOff (s : State) (groups : List Nat) : Option CheckResult :=
  (groups.find? s.groupOff).map (fun j => ⟨6, 0, 0, j⟩)

/-- R144: pixels of the live map. -/
def State.mapPx (s : State) : Nat := ((List.range 64).map (fun c => if s.named c then s.activePx c else 0)).sum

/-- R144: a measurement's start. -/
def opMeasure (k : Nat) : Op := fun _ s =>
  let t := s.rdN 0x4201 1
  let groups := (List.range t).map (fun i => s.rdN 0x4201 (2 + i))
  if s.dev.st ≠ .standby then (s, 7)
  else if s.shadowHeld ∨ s.sh.capture.isSome ∨ s.rcp.measure.isSome ∨ s.basisBusy k then (s, 8)
  else
    let c := firstFailed [s.item1, s.item3 (s.rateFor 1) converterLimit, s.tablesOff groups]
    if c.code ≠ 0 then (s.report c, 10)
    else
      let s := s.setClocks (s.rateFor 1)
      let q := s.captureRate 1
      let s := ((q.1.captureGroups 255).wr 0x4200 5 1).wr 0x4030 0xF 0
      let z : List Int := List.replicate s.mapPx 0
      let zt : List Int := List.replicate 32 0
      let m : Measure := { (default : Measure) with
        set := k, tables := t, groups := groups, currents := (List.range t).map (fun i => s.rdN 0x4201 (8 + i)),
        phase := .darkSettle, par := s.capPar, rate := q.2, sum := z, dark := z, tempSum := zt, tempN := List.replicate 32 0,
        skipped := s.outNow, begun := s.now, since := s.now }
      ({ s with rcp := { s.rcp with measure := some m } }, 0)

/-- START_MEASUREMENT (R144): a write of k to 0x4200:03. -/
def execStartMeasurement (dt : Nat) (m : Fin 17) (k : Fin 8) (s : State) : Host.Outcome State Fault Refusal :=
  hostCommand dt m 0x4200 3 k (opMeasure k) s

/-- The named channels with their pixel bases and counts. -/
def State.mapSlices (s : State) : List (Nat × Nat × Nat) :=
  ((List.range 64).filter s.named).map (fun n => (n, s.measureBase n, s.activePx n))

/-- R144, 4: the active bank gives channel `n`'s records: present there with the same A_c. -/
def State.activeGives (s : State) (n : Nat) : Bool :=
  s.bankState s.activeBank = 2 && dirHas (s.bank s.activeBank).bytes 88 n && dirA (s.bank s.activeBank).bytes 88 n = s.activePx n

/-- The active bank's entry at plane position 0 of pixel `i` of channel `n`; identity where it gives none. -/
def State.activeEntry (s : State) (n i : Nat) : Nat :=
  if s.activeGives n then
    let b := (s.bank s.activeBank).bytes
    bEntry b (entryIndex b n 0 i)
  else identityEntry

/-- R144: the pixels whose flag of origin 0 stands. -/
def State.keptPx (s : State) : List Nat :=
  s.mapSlices.flatMap (fun (n, o, len) => ((List.range len).filter (fun i => kept (s.activeEntry n i))).map (· + o))

/-- R144, 2: the dark array and its defects. -/
def State.measureDark (s : State) (m : Measure) : Measure :=
  let dark := m.sum.map (fun v => satI16 (meanOf m.par.lines v))
  let keep := s.keptPx
  let bad := s.mapSlices.flatMap (fun (n, o, len) =>
    if m.skipped.contains n then []
    else ((darkFlags ((dark.drop o).take len) m.par.darkThr).map (· + o)).filter (fun e => !keep.contains e))
  { m with dark := dark, darkBad := bad, sum := m.sum.map (fun _ => 0), done := 0, beyond := [] }

/-- R144, 3: one table's responses and defects. -/
def State.measureTable (s : State) (m : Measure) : Measure :=
  let w := m.sum.map (fun v => limit 0 65535 (meanOf m.par.lines v))
  let keep := s.keptPx
  let parts := s.mapSlices.filter (fun (n, _, _) => !m.skipped.contains n)
  let level := (lowerMedian (parts.flatMap (fun (_, o, len) => (w.drop o).take len))).toNat
  let bad := parts.flatMap (fun (_, o, len) =>
    ((whiteFlags ((w.drop o).take len) (fun i => m.beyond.contains (o + i)) level m.par.minWhite m.par.whiteThr).map (· + o)).filter
      (fun e => !keep.contains e))
  { m with
    resp := m.resp ++ [w.map Int.toNat], bad := m.bad ++ [bad], sum := m.sum.map (fun _ => 0), done := 0, beyond := []
    table := m.table + 1 }

/-- MEASUREMENT_PHASE_DONE (R144): the dark average or a table's average ends. -/
def execMeasurementPhaseDone (dt : Nat) (s : State) : Host.Outcome State Fault Refusal :=
  event dt s State.groupsIdle (fun s =>
    match s.rcp.measure with
    | none => s
    | some m =>
      if m.done < m.par.lines then s
      else
        let m := { m with skipped := union m.skipped s.outNow, since := s.now }
        if m.phase = .darkAverage then
          let m := s.measureDark m
          let s := (s.wr 0x4200 5 2).askLamps
          { s with rcp := { s.rcp with measure := some { m with phase := .waitLamp } } }
        else if m.phase = .whiteAverage then
          let m := s.measureTable m
          if m.table < m.tables then { s with rcp := { s.rcp with measure := some { m with phase := .whiteSettle } } }
          else { s.wr 0x4200 5 4 with rcp := { (s.wr 0x4200 5 4).rcp with measure := some { m with phase := .computing } } }
        else s)

/-- R141: a basis set's content. -/
def basisContent (source n : Nat) (groups currents : List Nat) (tref : List Int) (dir coeffs label : List Byte)
    (resp : List (List Nat)) (dark : List Int) (attr : List Nat) : List Byte :=
  let t := groups.length
  let h := le 4 0x4B424153 ++ le 2 1 ++ le 1 t ++ le 1 source ++ le 4 n ++
    (List.range 6).flatMap (fun i => le 1 (groups.getD i 255)) ++ le 2 0 ++
    (List.range 6).flatMap (fun i => le 2 (currents.getD i 0)) ++ (List.range 32).flatMap (fun g => sle 2 (tref.getD g 0)) ++
    dir ++ slice coeffs 0 2048 ++ slice label 0 16 ++ List.replicate 1420 0
  let body := pad4 (resp.flatMap (fun l => l.flatMap (le 2)) ++ dark.flatMap (sle 2) ++ attr.flatMap (le 1))
  h ++ le 4 (crc32 h) ++ body ++ le 4 (crc32 body)

/-- R144, 4: the attribute byte of pixel `i` (number `x`) of channel `n`. -/
def State.measureAttr (s : State) (m : Measure) (n i x : Nat) : Nat :=
  let e := s.activeEntry n i
  let cls := eClass e * 16
  if m.skipped.contains n then cls + 8 + 4
  else if kept e then cls + eRepl e
  else if m.darkBad.contains x || m.bad.any (fun l => l.contains x) then cls + 8 + m.par.repl
  else cls

/-- R144: the measured set. -/
def State.measured (s : State) (m : Measure) : List Byte :=
  let act := (s.bank s.activeBank).bytes
  let skipPx := s.mapSlices.flatMap (fun (n, o, len) => if m.skipped.contains n then [(o, len)] else [])
  let out := fun (x : Nat) => skipPx.any (fun (o, len) => o ≤ x && x < o + len)
  let resp := m.resp.map (fun l => l.mapIdx (fun x v => if out x then 0 else v))
  let dark := s.mapSlices.flatMap (fun (n, o, len) => (List.range len).map (fun i =>
    if m.skipped.contains n then eDark (s.activeEntry n i) else m.dark.getD (o + i) 0))
  let attr := s.mapSlices.flatMap (fun (n, o, len) => (List.range len).map (fun i => s.measureAttr m n i (o + i)))
  let coeffs := (List.range 64).flatMap (fun n => if s.named n && s.activeGives n then slice act (600 + 32 * n) 32 else List.replicate 32 0)
  basisContent 2 s.mapPx m.groups m.currents ((List.range 32).map (fun g => meanTemp m.tempSum m.tempN g 0))
    (directory s.named s.activePx 1) coeffs [] resp dark attr

/-- R144, 5: channel `n` fails table `i`. -/
def Measure.fails (m : Measure) (o len i : Nat) : Bool :=
  let bad := (union m.darkBad (m.bad.getD i [])).filter (fun x => o ≤ x && x < o + len)
  let med := lowerMedian ((((m.resp.getD i []).drop o).take len).map Int.ofNat)
  decide (m.par.maxDef < bad.length) || decide (med < m.par.minWhite)

/-- A measurement fails. -/
def State.measureFail (s : State) (m : Measure) : State := ((s.wr 0x4200 5 7).captureOver m.begun).raise1 851 0

/-- MEASUREMENT_COMPLETE (R144, 6): the set is replaced, or keeps its content. -/
def execMeasurementComplete (dt : Nat) (s : State) : Host.Outcome State Fault Refusal :=
  event dt s (fun _ => true) (fun s =>
    match s.rcp.measure with
    | none => s
    | some m =>
      if m.phase ≠ .computing then s
      else
        let m := { m with skipped := union m.skipped s.outNow }
        let failed := s.mapSlices.any (fun (n, o, len) => !m.skipped.contains n && (List.range m.tables).any (m.fails o len))
        if failed then s.measureFail m
        else
          let clean := m.skipped = [] ∧ m.darkBad = [] ∧ m.bad.all (fun l => l.isEmpty)
          let s := (s.takeBasis m.set (s.measured m)).wr 0x4200 5 (if clean then 5 else 6)
          (s.captureOver m.begun).raise1 850 0)

/-- CAPTURE_LAMP_GRANT_TIMEOUT (R133, R144): no grant within 100 ms. -/
def execCaptureLampGrantTimeout (dt : Nat) (s : State) : Host.Outcome State Fault Refusal :=
  event dt s (fun s => !s.can.lamp) (fun s =>
    match s.sh.capture, s.rcp.measure with
    | some c, _ => if c.phase = .waitLamp ∧ s.elapsed c.since 100000000 then s.captureNoGrant c else s
    | none, some m => if m.phase = .waitLamp ∧ s.elapsed m.since 100000000 then s.measureFail m else s
    | none, none => s)

/-! ## Importing a captured plane (R146) -/

/-- R146: one response from a gain and a plane scale. -/
def importResp (target gain scale : Nat) : Nat :=
  let d := gain * scale
  if d = 0 then 65535 else min 65535 ((2 * target * 2 ^ 26 + d) / (2 * d))

/-- R146: the set that an import of plane `p` as table `t` makes of set `k`; `none` where it is refused. -/
def State.importSet (s : State) (k t p : Nat) : Option (List Byte) :=
  let sh := (s.bank s.shadow).bytes
  let r := s.recipe (fieldAt sh 13 1)
  let group := (List.range 8).filter (fun j => bit (rMask r p) j)
  let st := s.basisState k
  let set := (vget s.rcp.basis k).bytes
  let chans := (List.range 64).filter (dirHas sh 88)
  let fits := st = 0 || ((st = 2 || st = 3) && (List.range 64).all (fun c =>
    dirHas set 96 c = dirHas sh 88 c && (!dirHas sh 88 c || dirA set 96 c = dirA sh 88 c)))
  let old := if st = 0 then 0 else bsT set
  match group with
  | [j] =>
    if s.bankState s.shadow ≠ 2 ∨ fieldAt sh 12 1 ≠ 2 ∨ s.shadowHeld ∨ 32 ≤ fieldAt sh 13 1 ∨ bP sh ≤ p ∨ rP r ≤ p ∨ !fits ∨ old < t ∨ 6 ≤ t
    then none
    else
      let px := chans.flatMap (fun c => (List.range (dirA sh 88 c)).map (fun i => bEntry sh (entryIndex sh c p i)))
      let n := px.length
      let new := px.map (fun e => importResp (s.rdN 0x4030 9) (eGain e) (bScale sh p))
      let count := max old (t + 1)
      let resp := (List.range count).map (fun i => if i = t then new else (List.range n).map (bsResp set i))
      let groups := (List.range count).map (fun i => if i = t then j else bsGroup set i)
      let currents := (List.range count).map (fun i => if i = t then rCurrent r p j else bsCurrent set i)
      let attr := px.mapIdx (fun x e =>
        let a := if st = 0 then eClass e * 16 else bsAttr set x
        if eRepl e = 0 then a else a / 16 * 16 + eOrigin e * 8 + eRepl e)
      let dark := px.mapIdx (fun x e => if st = 0 then eDark e else bsDark set x)
      let tref := (List.range 32).map (fun g => if st = 0 then bTref sh g else sfieldAt set (32 + 2 * g) 2)
      some (basisContent 3 n groups currents tref (directory (dirHas sh 88) (dirA sh 88) 1)
        (if st = 0 then slice sh 600 2048 else slice set 608 2048) (if st = 0 then [] else slice set 2656 16) resp dark attr)
  | _ => none

/-- R146: the import command. -/
def opImport : Op := fun v s =>
  let w := v.toNat
  let k := field w 15 8
  if 8 ≤ k ∨ 6 ≤ field w 7 4 ∨ 4 ≤ field w 3 0 then (s, 5)
  else if s.basisBusy k then (s.wr 0x4200 7 8, 8)
  else match s.importSet k (field w 7 4) (field w 3 0) with
    | none => (s.wr 0x4200 7 5, 5)
    | some b =>
      let s := s.wr 0x4200 7 0
      ({ s with rcp := { s.rcp with importing := some k, imported := b } }, 0)

/-- IMPORT_CAPTURE_PLANE (R146): a write to 0x4200:06. -/
def execImportCapturePlane (dt : Nat) (m : Fin 17) (v : Nat) (s : State) : Host.Outcome State Fault Refusal :=
  hostCommand dt m 0x4200 6 v opImport s

/-- IMPORT_COMPLETE (R146): the set takes its new content and is written to NOR. -/
def execImportComplete (dt : Nat) (s : State) : Host.Outcome State Fault Refusal :=
  event dt s (fun _ => true) (fun s =>
    match s.rcp.importing with
    | none => s
    | some k =>
      let s := (s.takeBasis k s.rcp.imported).wr 0x4200 7 1
      { s with rcp := { s.rcp with importing := none, imported := [] } })

end Sys2Proof.Machine
end

