-- ==== Sys2Proof/Machine/Device.lean ====
section
/-!
DEFINITION. The device's state machine (R21 to R31, R369 to R371): requests, the entries to and exits from each state, and what
every family does at them.
-/
namespace Sys2Proof.Machine

/-! ## Clusters (R22, R30) -/

/-- R22: every cluster but a calibrating one takes the state that the device's state gives it. -/
def State.showClusters (s : State) : State :=
  s.each 8 (fun k s =>
    if (s.trm.running.map (fun t => t.cluster)) = some k then s
    else s.setCluster k (
      if !bit (s.rdN 0x2000 4) k || !s.queuesRun then 0
      else if s.dev.st = .scanning && bit s.dev.running k then 2 else 1))

/-! ## Entry to Standby -/

/-- R73, R386, R440, R335: what every entry to Standby does. -/
def State.standbyEntry (s : State) : State :=
  let s := (s.toState .standby).showClusters
  let s := { s with dev := { s.dev with standbySince := s.now } }
  let s := (s.canteenStandby.setClocks s.eMax).tellLost
  if s.rcp.stood then s
  else
    let s : State := { s with rcp := { s.rcp with stood := true, startupDue := true } }
    s.trimFirst

/-- R23, R127, R161, R205, R259: the exit from Scanning or Paused; `fatal`: by a fatal-class event. -/
def State.exitScanning (s : State) (fatal : Bool) : State :=
  let s := ((s.streamsExit (!fatal)).transportExit fatal).leaveGroups.lampsExit
  let s := s.updCan (fun c => { c with lamp := false, lampAsked := false, lampTick := false })
  let s :=
    if fatal then
      let s := if s.sh.swapAt.isSome then (s.wr 0x4000 3 0).wr 0x4000 (6 + s.shadow) 0 else s
      ({ s with sh := { s.sh with swapAt := none } } : State).fatalArmed
    else (if s.sh.swapAt.isSome then s.swapNow s.activeRecipe else s).switchAtStandby
  let s := s.standbyEntry.auxStandby
  if s.upd.leaving then (s.wr 0x2200 1 8).updUpd (fun u => { u with leaving := false }) else s

/-! ## Bivouac (R369, R370) -/

/-- R369, R403: a granted entry to Bivouac begins: lamp gates off, a dark Lantern frame, the running trim to be abandoned. -/
def State.beginEntering (s : State) : State :=
  let s := s.lanternOff 0
  let s := s.updCan (fun c => { c with lamp := false, lampAsked := false, lampTick := false })
  { s with
    dev := { s.dev with move := .entering, goal := .bivouac }
    trm := { s.trm with abandon := s.trm.running.isSome }
    aux := { s.aux with visit := none } }

/-- R360, R370: a wake begins; rail step 6 is enabled. -/
def State.beginWaking (s : State) (goTo : DevState) : State :=
  { s with
    dev := { s.dev with move := .waking, goal := goTo }
    pow := { s.pow with step := 6, retryAt := none } }

/-! ## Entry to Scanning (R23, R24, R28 to R30) -/

/-- R30, R73, R81, R128, R166, R244, R380, R382, R386: what an entry to Scanning does in every family. -/
def State.enterScanning (s : State) : State :=
  let s : State := { s with dev := { s.dev with running := s.rdN 0x2000 4 } }
  let s := ((s.toState .scanning).showClusters.chooseDram.setClocks s.eMax).showRates.clampStrobes
  let s := s.matchAtEntry.ridgeEntry.streamsEntry
  let s := (s.transportEntry.resetGroups true)
  (s.wr 0x5A00 0xD s.lineLimit).lampEntry

/-- R133, R144: a capture or a measurement runs. -/
def State.calibrating (s : State) : Bool := s.sh.capture.isSome || s.rcp.measure.isSome

/-- R24, R28: a request for Scanning in Standby: code 8 during a capture or a measurement, 7 without an active recipe or in
a thermal shutdown, 10 when the combination check fails. -/
def State.scanFromStandby (s : State) : State × Nat :=
  if s.calibrating then (s, 8)
  else if 32 ≤ s.activeRecipe ∨ s.can.shutAt.isSome then (s, 7)
  else
    let r := s.combinationCheck
    if r.2 then (r.1.enterScanning, 0) else (r.1, 10)

/-- R24: an accepted request is the newest one; a write held until the check is replaced and answered. -/
def State.release (s : State) (code : Nat) : State :=
  match s.dev.held with
  | none => s
  | some m =>
    let s : State := { s with dev := { s.dev with held := none } }
    s.answer m 0x2000 2 code

/-- R24, R371: at Standby a held write is answered: of 3 after its check, of 2 at once. -/
def State.answerHeld (s : State) : State :=
  match s.dev.held with
  | none => s
  | some m =>
    let scan := s.dev.goal = .scanning
    let s : State := { s with dev := { s.dev with held := none, goal := .standby } }
    if scan then
      let r := s.scanFromStandby
      let t := if r.2 = 0 then r.1.wr 0x2000 2 3 else r.1
      t.answer m 0x2000 2 r.2
    else (s.wr 0x2000 2 2).answer m 0x2000 2 0

/-! ## Requests (R23, R24) -/

/-- The change that waits for the boundary is the device's own: a paced fault stop or a firmware switch. -/
def State.ownMove (s : State) : Bool := s.upd.leaving || (s.paced && (s.trn.following || s.trn.faultAt.isSome))

/-- A waiting change that a request made is withdrawn. -/
def State.withdraw (s : State) : State :=
  match s.dev.move with
  | .boundary _ => if s.ownMove then s else { s with dev := { s.dev with move := .none, goal := s.dev.st } }
  | _ => s

/-- R23, R24: a request for state 1 to 4; a request for the present state only replaces one that still waits. Writes of 2 and
3 that wait for Standby do not come here (`State.requestState`). -/
def opRequest : Op := fun v s =>
  let done := fun (t : State) => ((t.release 0).wr 0x2000 2 v, 0)
  let goal := fun (d : DevState) => ({ s with dev := { s.dev with goal := d } } : State)
  match s.dev.st, s.dev.move with
  | .trailhead, _ => (s, 7)
  | .bivouac, .waking => if v = 1 then done (goal .bivouac) else (s, 7)
  | .bivouac, _ => if v = 1 then done s else (s, 7)
  | .standby, .entering => if v = 1 then done (goal .bivouac) else (s, 7)
  | .standby, .waking => if v = 1 then done (goal .bivouac) else (s, 7)
  | .standby, _ =>
    if v = 1 then (if s.calibrating then (s, 8) else done s.beginEntering)
    else if v = 2 then done s
    else if v = 3 then
      let r := s.scanFromStandby
      (if r.2 = 0 then r.1.wr 0x2000 2 3 else r.1, r.2)
    else (s, 7)
  | .scanning, _ =>
    if v = 1 then
      let t := s.atBoundary .standby
      done { t with dev := { t.dev with goal := .bivouac } }
    else if v = 2 then done (s.atBoundary .standby)
    else if v = 3 then done s.withdraw
    else if s.ownMove then done s
    else done (s.atBoundary .paused)
  | .paused, _ =>
    if v = 1 then
      let t := s.atBoundary .standby
      done { t with dev := { t.dev with goal := .bivouac } }
    else if v = 2 then done (s.atBoundary .standby)
    else if v = 3 then
      if s.can.shutAt.isSome ∨ s.upd.leaving then (s, 7)
      else if s.paced then
        let r := s.resumePaced
        if r.2 = 0 then done ((r.1.toState .scanning).showClusters) else r
      else done (s.atBoundary .scanning)
    else done s.withdraw

/-- R360: rail steps 6 and 7 are enabled and good. -/
def State.converterRails (s : State) : Bool := s.rdN 0x5892 1 / 32 = 3

/-- R24, R361, R371: a write of 2 or 3 that has to wait for Standby and its rails: in Bivouac, during a move between Bivouac and
Standby, or in Standby after a rail fault. It is answered when they are reached. -/
def State.holdsWake (s : State) : Bool :=
  s.dev.ready && (s.dev.st = .bivouac || (s.dev.st = .standby && (s.dev.move = .entering || !s.converterRails)))

/-- A write of `v` to 0x2000:02 by master `m`. -/
def State.requestState (s : State) (m : Nat) (v : Int) : State :=
  if (v = 2 || v = 3) && s.holdsWake && s.masterPresent m then
    let s := (if m = 0 then s else s.wakeLink (m - 1)).release 0
    let goTo := if v = 3 then DevState.scanning else .standby
    let s := if s.dev.move = .none then s.beginWaking goTo else s
    let s : State := { s with dev := { s.dev with goal := goTo, held := some m } }
    if m = 0 then s else s.owe m
  else s.command m 0x2000 2 v opRequest

/-- REQUEST_BIVOUAC (R23). -/
def execRequestBivouac (dt : Nat) (m : Fin 17) (s : State) : Host.Outcome State Fault Refusal :=
  ok ((s.pass dt).settleAhead.requestState m 1)

/-- REQUEST_STANDBY (R23). -/
def execRequestStandby (dt : Nat) (m : Fin 17) (s : State) : Host.Outcome State Fault Refusal :=
  ok ((s.pass dt).settleAhead.requestState m 2)

/-- REQUEST_SCANNING (R24). -/
def execRequestScanning (dt : Nat) (m : Fin 17) (s : State) : Host.Outcome State Fault Refusal :=
  ok ((s.pass dt).settleAhead.requestState m 3)

/-- REQUEST_PAUSED (R23). -/
def execRequestPaused (dt : Nat) (m : Fin 17) (s : State) : Host.Outcome State Fault Refusal :=
  ok ((s.pass dt).settleAhead.requestState m 4)

/-! ## Moves that take effect -/

/-- R24: in Standby, with no move running, the device proceeds toward the newest request. -/
def State.proceed (s : State) : State :=
  if s.dev.held.isSome then s.answerHeld
  else if s.dev.goal = .bivouac then s.beginEntering
  else s

/-- STATE_CHANGE_AT_LINE_BOUNDARY (R23): a waiting change to Paused or Standby, or the resumption of output, takes effect. -/
def execStateChangeAtLineBoundary (dt : Nat) (s : State) : Host.Outcome State Fault Refusal :=
  timed dt s (fun s => match s.dev.move with | .boundary _ => s.live | _ => false) (fun s =>
    match s.dev.move with
    | .boundary .paused =>
      let s := (s.toState .paused).showClusters
      if s.trn.following ∨ s.trn.faultAt.isSome then s else s.transportPause
    | .boundary .scanning => (s.toState .scanning).showClusters
    | .boundary _ =>
      let goTo := s.dev.goal
      let t := s.exitScanning false
      if goTo = .bivouac ∧ ¬ t.session = 8 then t.beginEntering else t
    | _ => s)

/-- BIVOUAC_IDLE_TIMEOUT (R23): the time of 0x2000:05 has passed in Standby. -/
def execBivouacIdleTimeout (dt : Nat) (s : State) : Host.Outcome State Fault Refusal :=
  timed dt s (fun s => s.dev.st = .standby && s.dev.move = .none && s.rd 0x2000 5 ≠ 0 && !s.calibrating &&
    s.elapsed s.dev.standbySince (s.rdN 0x2000 5 * 1000000)) State.beginEntering

/-- FATAL_CLASS_STOP (R23, R24, R127, R133, R161): requests are discarded, a capture or a measurement is aborted, a scanning
device goes to Standby. -/
def execFatalClassStop (dt : Nat) (s : State) : Host.Outcome State Fault Refusal :=
  timed dt s (fun s => s.ev.fatal && s.dev.ready) (fun s =>
    let s : State := { s with
      ev := { s.ev with fatal := false }
      trm := { s.trm with abandon := s.trm.running.isSome } }
    let s := (s.wr 0x2000 2 2).release 7
    let s := (opAbortMeasurement 1 s.captureAbort).1
    if s.live then
      let s := s.exitScanning true
      { s with dev := { s.dev with goal := .standby } }
    else
      let s := s.fatalArmed
      { s with dev := { s.dev with goal := if s.dev.move = .waking then .standby else s.dev.st } })

/-- BIVOUAC_ENTRY_COMPLETE (R369, R20, R273): links suspended, queues lost, rails 7 and 6 off, EV0677. -/
def execBivouacEntryComplete (dt : Nat) (s : State) : Host.Outcome State Fault Refusal :=
  timed dt s (fun s => s.dev.move = .entering) (fun s =>
    let goTo := s.dev.goal
    let s := s.abandonTrim.linksSleep.auxSleep.transportSleep.canteenSleep
    let s := (s.wrBit 0x5892 1 6 false).wrBit 0x5892 1 5 false
    let s := (s.toState .bivouac).showClusters.casbyPower
    let s : State := { s with que := { s.que with lines := default } }
    let s := (s.resetGroups false).requestedService.raise1 677 0
    if goTo = .bivouac then s else s.beginWaking goTo)

/-- WAKE_COMPLETE (R370): every branch has ended; Standby is reached and EV0678 raised. Where only the rails had to come back in
Standby (R361), nothing else changes. -/
def execWakeComplete (dt : Nat) (s : State) : Host.Outcome State Fault Refusal :=
  timed dt s (fun s => s.dev.move = .waking && s.pow.step = 0 && s.converterRails) (fun s =>
    if s.dev.st = .standby then ({ s with dev := { s.dev with move := .none } } : State).proceed
    else
      let s := (s.linksWake.standbyEntry.casbyPower.auxWake).raise1 678 0
      s.lanternGate.flushEvents.proceed)

/-- THERMAL_BIVOUAC_REQUEST (R385): 100 ms after a thermal shutdown a sensor still reads 105 °C. -/
def execThermalBivouacRequest (dt : Nat) (s : State) : Host.Outcome State Fault Refusal :=
  timed dt s (fun s => (match s.can.shutAt with | some t => s.elapsed t 100000000 | none => false) &&
    decide (1680 ≤ s.rd 0x5A01 4) && s.queuesRun && !s.calibrating && s.dev.move ≠ .entering) (fun s =>
    if s.live then
      let t := s.atBoundary .standby
      { t with dev := { t.dev with goal := .bivouac } }
    else s.beginEntering)

end Sys2Proof.Machine
end

