-- ==== Sys2Proof/Machine/Entries.lean ====
section
/-!
DEFINITION. What the chapters add to each entry's row: values computed at a read, dependent limits (R35), refusals that
depend on other entries, and what a write sets off. The write of an entry is `opEntry`.
-/
namespace Sys2Proof.Machine

/-! ## Values computed at a read -/

/-- R41: the masters present. -/
def State.mastersPresent (s : State) : Nat := (List.range 17).foldl (fun m i => setBit m i (s.masterPresent i)) 0

/-- R230, R241: packets of class `c` in egress queue `k`. -/
def State.queued (s : State) (k c : Nat) : Nat := ((s.eq k).pkts.filter (fun p => p.cls = c)).length

/-- The live value of entry `idx:sub`. -/
def State.get (s : State) (idx sub : Nat) : Int :=
  if sub = 0 ∧ idx ≠ 0x1001 then s.rd idx sub
  else match idx with
  | 0x1001 => s.errorRegister
  | 0x2000 => if sub = 1 then s.dev.st.code else if sub = 6 then s.compass else s.rd idx sub
  | 0x2010 => if sub = 1 then s.mastersPresent else s.rd idx sub
  | 0x2110 => if sub = 2 then s.door.clamps.length else s.rd idx sub
  | 0x2203 => (s.fw (sub - 1)).code
  | 0x2204 => (s.fw (sub - 1)).ver
  | 0x2205 => (s.fw (sub - 1)).format
  | 0x2206 => if sub = 3 then b2n s.upd.quarantine.isSome else s.rd idx sub
  | 0x4002 => if s.bankState s.activeBank = 2 then bScale (s.bank s.activeBank).bytes (sub - 1) else 0x1000
  | 0x4800 =>
    if sub = 9 then s.reported else if sub = 0xA then s.extPos else if sub = 0xB then s.transportSpeed else s.rd idx sub
  | 0x5000 => if sub = 2 then s.auxState else s.rd idx sub
  | 0x5600 => (s.lineQ (sub - 1)).count
  | 0x5890 =>
    if sub = 2 then ((List.range 16).foldl (fun m n => setBit m n (s.connState n = 3)) 0 : Nat)
    else if sub = 3 then s.admittedLimit
    else if sub = 4 then ((List.range 16).map s.connPower).sum
    else s.rd idx sub
  | 0x5C00 =>
    if sub = 2 then s.ev.log.length else if sub = 3 then s.ev.archive.length
    else if sub = 8 then s.latchedSources.length else s.rd idx sub
  | _ =>
    if 0x5610 ≤ idx ∧ idx < 0x5618 then
      let k := idx - 0x5610
      if sub = 1 then (s.eq k).alloc else if sub = 2 then (s.eq k).fill
      else if 3 ≤ sub ∧ sub ≤ 6 then s.queued k (sub - 3) else s.rd idx sub
    else if 0x5800 ≤ idx ∧ idx < 0x5810 then
      let n := idx - 0x5800
      if sub = 0xC then s.groupMaster n else if sub = 0xD then s.connectionPosition n
      else if sub = 0xE then s.occupancy n else s.rd idx sub
    else if 0x5880 ≤ idx ∧ idx < 0x5890 ∧ sub = 3 then s.connPower (idx - 0x5880)
    else if 0x5C10 ≤ idx ∧ idx < 0x5C20 ∧ sub = 3 then b2n (s.gpActive (idx - 0x5C10))
    else s.rd idx sub

/-! ## Dependent limits (R35, R70) -/

/-- R476: the highest table speed that the step rate allows, in µm/s. -/
def State.stepLimit (s : State) : Nat :=
  let scale := s.rdN 0x4800 4
  min (4 * scale) (1000 * scale / (2 * s.rdN 0x4803 1))

/-- R95: the reset phase nearest to `v` that is at least 16/64 px from the sampling phase. -/
def resetPhase (phase v : Int) : Int :=
  let d := (v - phase) % 64
  if 16 ≤ d ∧ d ≤ 48 then v
  else if 0 < d ∧ d < 16 then (phase + 16) % 64
  else (phase - 16) % 64

/-- Whether entry `sub` of a timing group is a phase output's edge, and the entry of that output's mode. -/
def edgeMode (sub : Nat) : Option Nat := if sub = 8 ∨ sub = 9 then some 7 else if sub = 0xB ∨ sub = 0xC then some 0xA else none

/-- The dependent limits of entry `idx:sub`. -/
def depOf (idx sub : Nat) : State → Int → Verdict := fun s v =>
  if 0x2040 ≤ idx ∧ idx < 0x2050 then
    match edgeMode sub with
    | some m => if s.rd idx m = 2 then depLimit 0 63 v else .keep v
    | none => .keep v
  else if 0x3000 ≤ idx ∧ idx < 0x4000 then
    if idx % 64 = 1 ∧ sub = 5 then
      let u := resetPhase (s.rd (idx - 1) 2) v
      if u = v then .keep v else .clamped u 4
    else .keep v
  else if idx = 0x4800 ∧ sub = 6 then (if (s.stepLimit : Int) < v then .clamped s.stepLimit 4 else .keep v)
  else if idx = 0x4802 ∧ sub = 2 then (if v < s.rd 0x4802 1 then .keep v else .clamped (v % s.rd 0x4802 1) 4)
  else if idx = 0x4803 ∧ sub = 9 then depLimit 0 (s.rd 0x4800 6 - 1) v
  else if idx = 0x4804 ∧ sub = 1 then depLimit (max 100 (s.rd 0x4804 3 + 50)) (min 900 (s.rd 0x4804 2 - 50)) v
  else if 0x4C10 ≤ idx ∧ idx < 0x4C18 then
    if sub = 6 then depLimit 0 (s.rd idx 7 - 1) v
    else if sub = 7 then depLimit (s.rd idx 6 + 1) (s.rd idx 9 - 1) v
    else if sub = 9 then depLimit (s.rd idx 7 + 1) 2400 v
    else .keep v
  else if 0x4C40 ≤ idx ∧ idx < 0x4C60 then
    if sub = 5 then depLimit 0 (s.rd idx 6 - 1) v
    else if sub = 6 then depLimit (s.rd idx 5 + 1) 80000 v
    else .keep v
  else if idx = 0x4E00 ∨ (0x4E20 ≤ idx ∧ idx < 0x4E24) then depLantern idx sub s v
  else if idx = 0x5A00 ∧ sub = 6 then depLimit (s.rd 0x4C00 2 + 1000) 80000 v
  else if idx = 0x5A01 ∧ sub = 1 then depLimit 1040 (min 1680 (s.rd 0x5A01 2 - 1)) v
  else if idx = 0x5A01 ∧ sub = 2 then depLimit (s.rd 0x5A01 1 + 1) 1680 v
  else if idx = 0x5A30 ∧ sub = 4 then (if v = 0 then .keep v else depLimit (s.rd 0x5A30 3) 0xFFFFFFFF v)
  else .keep v

/-- The entries with dependent limits, in ascending order (R66, step 4). -/
def depKeys : List (Nat × Nat) :=
  (List.range 16).flatMap (fun g => [8, 9, 0xB, 0xC].map (fun i => (0x2040 + g, i))) ++
  (List.range 64).map (fun n => (chIdx n + 1, 5)) ++
  [(0x4800, 6), (0x4802, 2), (0x4803, 9), (0x4804, 1)] ++
  (List.range 8).flatMap (fun j => [6, 7, 9].map (fun i => (0x4C10 + j, i))) ++
  (List.range 32).flatMap (fun i => [5, 6].map (fun k => (0x4C40 + i, k))) ++
  [(0x4E00, 6)] ++ (List.range 4).map (fun e => (0x4E20 + e, 3)) ++
  [(0x5A00, 6), (0x5A01, 1), (0x5A01, 2), (0x5A30, 4)]

/-! ## Values refused by the entry's own range beyond what its row says -/

/-- R57: a window's target names a DOMAIN or VISIBLE_STRING entry. -/
def targetOk (v : Nat) : Bool :=
  v % 256 = 0 && (match lookup (v / 2 ^ 16) (v / 2 ^ 8 % 256) with
    | some e => e.row.ty = .dom || e.row.ty = .str
    | none => false)

/-- R434, R243, R57, R346, R347, R428: a value that the Range column refuses beyond its interval. -/
def rangeBad (idx sub : Nat) (v : Int) : Bool :=
  if 0x2020 ≤ idx ∧ idx < 0x2024 then
    if sub = 1 then !targetOk v.toNat else if sub = 2 then v % 4 ≠ 0 else false
  else if 0x2800 ≤ idx ∧ idx < 0x2C00 then
    sub = 3 && (if idx = 0x2800 + 675 ∨ idx = 0x2800 + 721 then v ≠ 3
      else if idx = 0x2800 + 676 ∨ idx = 0x2800 + 832 then v ≠ 0 else false)
  else if idx = 0x2202 ∧ sub = 5 then v = 0
  else if idx = 0x5410 ∧ sub = 1 then v ≠ 1
  else if 0x5040 ≤ idx ∧ idx < 0x5060 then !finite32 v.toNat
  else false

/-! ## Refusals that depend on other entries -/

/-- R89: the segment map names no channel twice, and its taps agree with its tap counts. -/
def State.mapOk (s : State) : Bool :=
  let named := (List.range 32).flatMap (fun g => (List.range 8).map (fun i => s.rdN (0x4400 + g) (i + 2)))
  let used := named.filter (· < 64)
  used.eraseDups.length = used.length &&
    (List.range 32).all (fun g => (List.range 8).all (fun i =>
      (decide (s.rdN (0x4400 + g) (i + 2) < 64)) = decide (i < s.rdN (0x4400 + g) 1)))

/-- R243: enabled streams have equal or disjoint link masks. -/
def State.masksOk (s : State) : Bool :=
  let l := (List.range 32).filter (fun n => s.rd (0x5410 + n) 1 = 1)
  l.all (fun a => l.all (fun b => s.maskOf a = s.maskOf b || s.maskOf a &&& s.maskOf b = 0))

/-- R82, R189: the trigger source is allowed in the transport mode. -/
def State.sourceOk (s : State) : Bool := !(s.rd 0x2050 1 = 1 && s.paced) && !(s.rd 0x2050 1 = 2 && !s.paced)

/-- The code with which the write that turns `was` into `s` is refused; 0 for none. -/
def State.refusedBy (was s : State) (idx sub : Nat) : Nat :=
  if 0x4400 ≤ idx ∧ idx < 0x4420 then (if was.rcp.armed.isSome then 8 else if s.mapOk then 0 else 5)
  else if 0x3000 ≤ idx ∧ idx < 0x4000 then (if idx % 64 = 0 ∧ sub = 3 ∧ was.rcp.armed.isSome then 8 else 0)
  else if (idx = 0x2050 ∨ idx = 0x4800) ∧ sub = 1 then (if s.sourceOk then 0 else 5)
  else if 0x5410 ≤ idx ∧ idx < 0x5430 then
    if idx = 0x542F ∧ sub = 1 ∧ (was.compatMode ∨ s.rd idx 1 = 1) then 5
    else if s.masksOk then 0 else 5
  else if 0x5010 ≤ idx ∧ idx < 0x5030 then (if s.slotOk (idx - 0x5010) then 0 else 5)
  else if idx = 0x5001 then (if s.sequenceOk then 0 else 5)
  else if 0x5100 ≤ idx ∧ idx < 0x5104 ∧ (sub = 4 ∨ sub = 5) then (if s.rd idx 4 = s.rd idx 5 then 5 else 0)
  else 0

/-! ## What a write sets off -/

/-- R73: after a write in Standby, the clock of every group for which a quantity of the rule has changed is set again. -/
def State.reclock (was s : State) : State :=
  if s.dev.st ≠ .standby ∨ s.calibrating then s
  else
    s.each 16 (fun g t =>
      if was.cycleLen g ≠ s.cycleLen g ∨ was.eMax ≠ s.eMax ∨ was.rd (0x2040 + g) 2 ≠ s.rd (0x2040 + g) 2 then
        (t.setClock g s.eMax).wr (0x2040 + g) 0xF (s.cycleLen g)
      else t)

/-- R476: a wider pulse lowers the maximum table speed. -/
def State.fitTableSpeed (s : State) : State :=
  let v := s.rd 0x4800 6
  if (s.stepLimit : Int) < v then (s.wr 0x4800 6 s.stepLimit).ownClamp 0x4800 6 4 v s.stepLimit else s

/-- What the write of entry `idx:sub` sets off. -/
def State.afterWrite (was s : State) (idx sub : Nat) : State :=
  if idx = 0x2000 then (if sub = 4 then s.showClusters else s)
  else if 0x2040 ≤ idx ∧ idx < 0x2050 then (if sub = 2 then was.reclock s else s)
  else if idx = 0x2050 ∨ idx = 0x4802 ∨ idx = 0x4800 then was.reclock s
  else if 0x3000 ≤ idx ∧ idx < 0x4000 then
    let n := (idx - 0x3000) / 64
    if idx % 64 = 0 then
      if sub = 2 then s.updFe n (fun f => { f with phaseTold := false }) else was.reclock s
    else if idx % 64 = 1 then
      if sub = 8 then s.updFe n (fun f => { f with written := true })
      else if sub = 5 then s.updFe n (fun f => { f with phaseTold := false }) else s
    else s
  else if 0x4400 ≤ idx ∧ idx < 0x4420 then was.reclock s
  else if idx = 0x4801 then (if sub = 1 then s.clearReversal else s)
  else if idx = 0x4803 then
    if sub = 1 then was.reclock s.fitTableSpeed else if sub = 0xA then s.clearReversal else s
  else if idx = 0x4880 then (if sub = 1 then s.casbyPower else s)
  else if 0x4C40 ≤ idx ∧ idx < 0x4C60 then (if sub = 1 then s.refreshLamps else s)
  else if idx = 0x4E00 then s.lanternWritten sub
  else if idx = 0x5000 then (if sub = 1 ∨ sub = 4 then s.auxFromNow else s)
  else if 0x5010 ≤ idx ∧ idx < 0x5030 then
    if sub ≤ 0xB then s.updSlot (idx - 0x5010) (fun x => { x with flush := true }) else s
  else if 0x5100 ≤ idx ∧ idx < 0x5104 then
    if sub = 1 ∨ sub = 2 then s.outWritten (idx - 0x5100) (sub = 1 && s.rd idx 1 = 1)
    else if sub = 6 ∧ s.rd idx 8 = 2 then s.outFail (idx - 0x5100) else s
  else s

/-! ## The write of an entry -/

/-- The entries whose write is one single command. -/
def commandTable : List (Nat × Nat × Op) := [
  (0x2000, 2, opRequest),
  (0x2050, 3, opSoftwareTrigger),
  (0x2110, 4, opClearClamps),
  (0x2200, 0xB, opAbortUpdate),
  (0x2202, 3, opSchedule),
  (0x2202, 4, opCancelSchedule),
  (0x2206, 2, opAcceptDefaults),
  (0x2206, 4, opDiscardQuarantine),
  (0x2400, 3, opRequestTrim),
  (0x4000, 2, opSwap),
  (0x4000, 8, opCopy),
  (0x4000, 9, opClearShadow),
  (0x4030, 1, fun v s => opCapture v.toNat v s),
  (0x4030, 2, opAbortCapture),
  (0x4200, 3, fun v s => opMeasure v.toNat v s),
  (0x4200, 4, opAbortMeasurement),
  (0x4200, 6, opImport),
  (0x4210, 7, opArm),
  (0x4210, 8, opDisarm),
  (0x4210, 9, opSwitchNow),
  (0x4443, 7, opResetEstimates),
  (0x4801, 5, opZeroNext),
  (0x4880, 0x12, opSendJob),
  (0x4E00, 0xF, opProbeNow),
  (0x5000, 3, opAuxTrigger),
  (0x5000, 5, opUrgent),
  (0x5460, 6, opCompat),
  (0x5606, 1, opClearPeaks),
  (0x5607, 3, opClearBits),
  (0x5891, 1, opVauxEnable),
  (0x5C00, 5, opClearClasses),
  (0x5C00, 6, opRaiseHost)]

/-- The operations of entries that are commands, without the doors' own (windows and layers). -/
def commandOf (idx sub : Nat) : Option Op :=
  match commandTable.find? (fun e => e.1 = idx && e.2.1 = sub) with
  | some e => some e.2.2
  | none =>
    if idx = 0x4003 then some (opPlaneScale (sub - 1))
    else if 0x3000 ≤ idx ∧ idx < 0x4000 ∧ idx % 64 = 0 ∧ sub = 7 then some (opService ((idx - 0x3000) / 64))
    else if 0x4C10 ≤ idx ∧ idx < 0x4C18 ∧ sub = 0xB then some (opClearGroup (idx - 0x4C10))
    else if 0x4E20 ≤ idx ∧ idx < 0x4E24 ∧ sub = 0x12 then some (opLocate (idx - 0x4E20))
    else if 0x4E20 ≤ idx ∧ idx < 0x4E24 ∧ sub = 0x13 then some (opEngineStart (idx - 0x4E20))
    else if 0x4E20 ≤ idx ∧ idx < 0x4E24 ∧ sub = 0x14 then some (opEngineStop (idx - 0x4E20))
    else if 0x5440 ≤ idx ∧ idx < 0x5448 then
      if 2 ≤ sub ∧ sub ≤ 4 then some (opDoorbell (idx - 0x5440) (sub - 1))
      else if 0xD ≤ sub ∧ sub ≤ 0xF then some (opStopRing (idx - 0x5440) (sub - 0xC))
      else if 0x1A ≤ sub ∧ sub ≤ 0x1C then some (opResetHead (idx - 0x5440) (sub - 0x19))
      else none
    else if 0x5610 ≤ idx ∧ idx < 0x5618 ∧ sub = 0xC then some (opFlush (idx - 0x5610))
    else if 0x5880 ≤ idx ∧ idx < 0x5890 ∧ sub = 4 then some (opAdmission (idx - 0x5880))
    else none

/-- The write of entry `idx:sub`: its command, or the value taken unless the chapter refuses it, and what that sets off. -/
def opEntry (idx sub : Nat) : Op := fun v s =>
  if rangeBad idx sub v then (s, 5)
  else match commandOf idx sub with
    | some op => op v s
    | none =>
      let t := s.wr idx sub v
      let c := s.refusedBy t idx sub
      if c ≠ 0 then (s, c) else (s.afterWrite t idx sub, 0)

end Sys2Proof.Machine
end

