-- ==== Sys2Proof/Machine/Windows.lean ====
section
/-!
DEFINITION. Bulk windows W0 to W3 (R57 to R59, R486) and the domains they reach.
-/
namespace Sys2Proof.Machine

/-! ## What a domain reads as -/

/-- R85: an exposure record as its 16 bytes. -/
def ExpRec.bytes (r : ExpRec) : List Byte :=
  le 8 (min r.lateness 0xFFFFF + b2n r.warming * 2 ^ 20 + b2n r.drop * 2 ^ 21 + b2n r.late * 2 ^ 22 + r.origin * 2 ^ 23 +
    r.plane * 2 ^ 26 + r.group * 2 ^ 28 + r.line % 2 ^ 32 * 2 ^ 32) ++ le 8 r.time

/-- R70: a clamp-report entry as its 32 bytes. -/
def ClampRec.bytes (c : ClampRec) : List Byte :=
  le 8 (c.reason + c.sub * 2 ^ 8 + c.index * 2 ^ 16 + c.link * 2 ^ 48 + c.source * 2 ^ 56) ++ sle 8 c.offered ++ sle 8 c.applied ++
    le 8 c.seq

/-- R65: a user-image record as its 16 bytes; a bad record carries a wrong check. -/
def UserRec.bytes (r : UserRec) : List Byte :=
  let head := r.value * 2 ^ 32 + r.len * 2 ^ 96 + r.sub * 2 ^ 104 + r.index * 2 ^ 112
  let c := crc16 (le 12 (head / 2 ^ 32)).reverse
  le 16 (head + (if r.ok then c else 0xFFFF - c) * 2 ^ 16)

/-- R65: a user image as it lies in NOR; the layout of its start and end block is free (Config). -/
def UserSlot.bytes (u : UserSlot) : List Byte :=
  let b := Config.startBlock u.format u.gen ++ u.recs.flatMap UserRec.bytes
  if u.whole then b ++ Config.endBlock b else b

/-- R38: the running firmware's version as text. -/
def State.versionText (s : State) : List Byte :=
  let v := (s.fw s.pow.bank).ver
  ascii (toString (v / 2 ^ 24) ++ "." ++ toString (v / 2 ^ 16 % 256) ++ "." ++ toString (v % 65536))

/-- R443: bytes `o` to `o + n − 1` of a log ring of `size` positions. -/
def logRead (log : List LogRec) (size o n : Nat) : List Byte :=
  let from_ := o / 24
  let goTo := (o + n + 23) / 24
  slice ((List.range (goTo - from_)).flatMap (fun i => match log.find? (fun r => r.seq % size = from_ + i) with
    | some r => r.bytes
    | none => List.replicate 24 0)) (o - 24 * from_) n

/-- Bytes padded with zeros, or cut, to `n`. -/
def fitBytes (bs : List Byte) (n : Nat) : List Byte := bs.take n ++ List.replicate (n - bs.length) 0

/-- R324: the identity matrices. -/
def identityMatrices : List Byte :=
  (List.range 576).flatMap (fun i => le 2 (if i % 9 = 0 ∨ i % 9 = 4 ∨ i % 9 = 8 then 0x4000 else 0))

/-- The content of a target that is held as one list of bytes. -/
def State.content (s : State) (idx : Nat) : List Byte :=
  if idx = 0x1008 then ascii "Nisil 6400"
  else if idx = 0x1009 then ascii "KN6400 step B"
  else if idx = 0x100A then s.versionText
  else if idx = 0x2051 then (List.range 16).flatMap (fun g => (s.group g).records.reverse.flatMap ExpRec.bytes)
  else if idx = 0x2111 then s.door.clamps.flatMap ClampRec.bytes
  else if idx = 0x2207 then (match s.upd.quarantine with | some u => u.bytes | none => [])
  else if idx = 0x4010 ∨ idx = 0x4011 then (s.bank (idx - 0x4010)).bytes
  else if idx = 0x4031 then s.sh.report
  else if 0x4208 ≤ idx ∧ idx < 0x4210 then (vget s.rcp.basis (idx - 0x4208)).bytes
  else if 0x4220 ≤ idx ∧ idx < 0x4240 then s.recipe (idx - 0x4220)
  else if idx = 0x4E10 then fitBytes s.lan.base (6 * s.rdN 0x4E00 2)
  else if idx = 0x4E11 then fitBytes s.lan.bins 512
  else if idx = 0x4E12 then (if s.lan.matrices.isEmpty then identityMatrices else s.lan.matrices)
  else []

/-- The length of a target. -/
def State.targetLength (s : State) (idx : Nat) : Nat :=
  if idx = 0x5430 then ringSize
  else if idx = 0x5C01 then 98304
  else if idx = 0x5C02 then 12582912
  else if idx = 0x2201 then 10489856
  else (s.content idx).length

/-- Bytes `o` to `o + n − 1` of a target. -/
def State.targetRead (s : State) (idx o n : Nat) : List Byte :=
  if idx = 0x5430 then Memory.bytes s.dma.ringMem o n
  else if idx = 0x5C01 then logRead s.ev.log 4096 o n
  else if idx = 0x5C02 then logRead s.ev.archive 524288 o n
  else slice (s.content idx) o n

/-- R486: the maximum length of a domain that is written whole. -/
def State.writeLimit (s : State) (idx : Nat) : Nat :=
  if idx = 0x4010 ∨ idx = 0x4011 then 10489860
  else if 0x4208 ≤ idx ∧ idx < 0x4210 then 15732740
  else if 0x4220 ≤ idx ∧ idx < 0x4240 then 256
  else if idx = 0x4E10 then 6 * s.rdN 0x4E00 2
  else if idx = 0x4E11 then 512
  else 1152

/-! ## A window's own entries -/

/-- Window `w`. -/
def State.window (s : State) (w : Nat) : Window := vget s.door.windows w
/-- Change window `w`. -/
def State.updWindow (s : State) (w : Nat) (f : Window → Window) : State :=
  { s with door := { s.door with windows := vupd s.door.windows w f } }
/-- The index that window `w` targets. -/
def State.winTarget (s : State) (w : Nat) : Nat := s.rdN (0x2020 + w) 1 / 2 ^ 16
/-- Its offset. -/
def State.winOffset (s : State) (w : Nat) : Nat := s.rdN (0x2020 + w) 2
/-- Its length entry. -/
def State.winLength (s : State) (w : Nat) : Nat := s.rdN (0x2020 + w) 3
/-- Its mode. -/
def State.winMode (s : State) (w : Nat) : Nat := s.rdN (0x2020 + w) 4
/-- It is open. -/
def State.winOpen (s : State) (w : Nat) : Bool := s.rd (0x2020 + w) 5 = 1
/-- Its owner. -/
def State.winOwner (s : State) (w : Nat) : Nat := s.rdN (0x2020 + w) 6

/-- R58: another master has window `w` open. -/
def State.winForeign (s : State) (m w : Nat) : Bool := s.winOpen w && s.winOwner w ≠ m

/-- R57: window `w` is closed with this status. -/
def State.winClosed (s : State) (w status : Nat) : State :=
  (((s.wr (0x2020 + w) 4 0).wr (0x2020 + w) 5 status).wr (0x2020 + w) 6 0xFF).updWindow w (fun q => { q with buf := [] })

/-- R59: an open is refused as busy; the owner entry names the holder. -/
def State.winBusy (s : State) (w holder : Nat) : State := (s.wr (0x2020 + w) 5 2).wr (0x2020 + w) 6 holder

/-- R57: window `w` opens for master `m`. -/
def State.winOpened (s : State) (m w mode len : Nat) : State :=
  ((((s.wr (0x2020 + w) 3 len).wr (0x2020 + w) 4 mode).wr (0x2020 + w) 5 1).wr (0x2020 + w) 6 m).updWindow w
    (fun _ => ⟨[], s.now⟩)

/-- R59: the window that is open for writing on a target. -/
def State.writerOf (s : State) (idx : Nat) : Option Nat :=
  (List.range 4).find? (fun w => s.winOpen w && s.winMode w = 2 && s.winTarget w = idx)

/-- R125, R142, R149: the owning chapter refuses a write-open on a target. -/
def State.targetBusy (s : State) (idx : Nat) : Bool :=
  if idx = 0x4010 ∨ idx = 0x4011 then s.activeBank = idx - 0x4010 || s.bankHolder (idx - 0x4010) ≠ 0
  else if 0x4208 ≤ idx ∧ idx < 0x4210 then s.basisBusy (idx - 0x4208)
  else if 0x4220 ≤ idx ∧ idx < 0x4240 then s.recipeBusy (idx - 0x4220)
  else false

/-- R57, R59: window `w` is opened for reading. -/
def State.openRead (s : State) (m w : Nat) : State × Nat :=
  match lookup (s.winTarget w) (s.rdN (0x2020 + w) 1 / 2 ^ 8 % 256) with
  | none => (s, 2)
  | some e => if e.row.acc = .wo then (s, 4) else (s.winOpened m w 1 (s.targetLength (s.winTarget w)), 0)

/-- R57, R59, R413: window `w` is opened for writing; one window at a time writes a domain, but for the staging domain. -/
def State.openWrite (s : State) (m w : Nat) : State × Nat :=
  let idx := s.winTarget w
  match lookup idx (s.rdN (0x2020 + w) 1 / 2 ^ 8 % 256) with
  | none => (s, 2)
  | some e =>
    if e.row.acc = .ro then (s, 3)
    else if idx = 0x2201 then (s.winOpened m w 2 10489856, 0)
    else match s.writerOf idx with
      | some x => (s.winBusy w (s.winOwner x), 8)
      | none =>
        if s.targetBusy idx then (s.winBusy w 0xFF, 8)
        else if idx = 0x5430 then (s.winOpened m w 2 ringSize, 0)
        else
          let s := s.winOpened m w 2 0
          (if idx = 0x4010 ∨ idx = 0x4011 then s.setBank (idx - 0x4010) 1 1 else s, 0)

/-- R324: the checks of a Lantern domain's content of the written length. -/
def State.closeLantern (s : State) (idx : Nat) (len : Nat) (buf : List Byte) : State × Bool :=
  if idx = 0x4E10 then (s, decide (len = 6 * s.rdN 0x4E00 2))
  else if idx = 0x4E11 then
    if buf.length = 512 ∧ buf.all (fun b => decide (b.toNat ≤ 63)) then ({ s with lan := { s.lan with bins := buf } }, true) else (s, false)
  else if buf.length = 1152 then ({ s with lan := { s.lan with matrices := buf } }, true) else (s, false)

/-- R59: the written content of target `idx` is committed and checked by its owning chapter. -/
def State.commitTarget (s : State) (idx len : Nat) (buf : List Byte) : State × Bool :=
  if idx = 0x4010 ∨ idx = 0x4011 then
    (s.updBank (idx - 0x4010) (fun q => { q with bytes := q.bytes.take len })).closeBank (idx - 0x4010)
  else if 0x4208 ≤ idx ∧ idx < 0x4210 then s.closeBasis (idx - 0x4208) buf
  else if 0x4220 ≤ idx ∧ idx < 0x4240 then
    let r := s.closeRecipe (idx - 0x4220) buf
    (s.reclock r.1, r.2)
  else if 0x4E10 ≤ idx ∧ idx ≤ 0x4E12 then s.closeLantern idx len buf
  else (s, true)

/-- R59: a write of mode 0 closes window `w`. -/
def State.closeWindow (s : State) (w : Nat) : State :=
  if s.winMode w ≠ 2 then s.winClosed w 0
  else
    let r := s.commitTarget (s.winTarget w) (s.winLength w) (s.window w).buf
    r.1.winClosed w (if r.2 then 0 else 4)

/-- R57, R486: an offset that an open window does not accept. -/
def State.offsetBad (s : State) (w : Nat) (v : Int) : Bool :=
  s.winOpen w && (if s.winMode w = 1 then decide ((s.winLength w : Int) ≤ v) else decide ((s.winLength w : Int) < v))

/-- R57 to R59: a write by master `m` to entry `sub` of window `w`. -/
def opWindow (m w sub : Nat) : Op := fun v s =>
  if s.winForeign m w then (s, 8)
  else if rangeBad (0x2020 + w) sub v then (s, 5)
  else if sub = 2 ∧ s.offsetBad w v then (s, 5)
  else if sub ≠ 4 then (s.wr (0x2020 + w) sub v, 0)
  else if v = 0 then (if s.winOpen w then s.closeWindow w else s, 0)
  else if s.winOpen w then (s, 8)
  else if v = 1 then s.openRead m w else s.openWrite m w

/-- OPEN_READ_WINDOW (R57). -/
def execOpenReadWindow (dt : Nat) (m : Fin 17) (w : Fin 4) (s : State) : Host.Outcome State Fault Refusal :=
  hostCommand dt m (0x2020 + w) 4 1 (opWindow m w 4) s

/-- OPEN_WRITE_WINDOW (R59). -/
def execOpenWriteWindow (dt : Nat) (m : Fin 17) (w : Fin 4) (s : State) : Host.Outcome State Fault Refusal :=
  hostCommand dt m (0x2020 + w) 4 2 (opWindow m w 4) s

/-- CLOSE_WINDOW (R59). -/
def execCloseWindow (dt : Nat) (m : Fin 17) (w : Fin 4) (s : State) : Host.Outcome State Fault Refusal :=
  hostCommand dt m (0x2020 + w) 4 0 (opWindow m w 4) s

/-! ## Data accesses (R58, R486) -/

/-- R58: the offset advances by the length of a data access. -/
def State.advance (s : State) (w n : Nat) : State :=
  (s.wr (0x2020 + w) 2 (s.winOffset w + n)).updWindow w (fun q => { q with last := s.now })

/-- R33, R51: a data access of `n` bytes at displacement `a` has a wrong size, or lies unaligned. -/
def accessCode (m a n : Nat) : Nat :=
  if n = 0 ∨ 4096 < n then 6
  else if m ≠ 0 ∧ (a % 4 ≠ 0 ∨ n % 4 ≠ 0 ∨ 0x1000000 < a + n) then 2
  else if m = 0 ∧ a ≠ 0 then 2
  else 0

/-- R58: bytes read through window `w`. -/
def State.windowRead (s : State) (m w a n : Nat) : State × Nat × List Byte :=
  let c := accessCode m a n
  let o := s.winOffset w + a
  if c ≠ 0 then (s, c, [])
  else if !s.winOpen w then (s, 11, [])
  else if s.winOwner w ≠ m then (s, 8, [])
  else if s.winMode w = 2 then (s, 4, [])
  else if s.winLength w < o + n then (s, 11, [])
  else (s.advance w n, 0, fitBytes (s.targetRead (s.winTarget w) o n) n)

/-- R486: bytes written at offset `o` of a domain that is replaced whole: in place, or into the window's buffer. -/
def State.putContent (s : State) (w o : Nat) (bs : List Byte) : State :=
  let idx := s.winTarget w
  let s :=
    if idx = 0x4010 ∨ idx = 0x4011 then s.updBank (idx - 0x4010) (fun q => { q with bytes := overlay q.bytes o bs })
    else if idx = 0x4E10 then { s with lan := { s.lan with base := overlay (s.content 0x4E10) o bs } }
    else s.updWindow w (fun q => { q with buf := overlay q.buf o bs })
  s.wr (0x2020 + w) 3 (max (s.winLength w) (o + bs.length) : Nat)

/-- R58, R253, R414, R486: bytes written through window `w`: the outcome code; none while the staging buffer is full. -/
def State.windowWrite (s : State) (m w a : Nat) (bs : List Byte) : State × Option Nat :=
  let n := bs.length
  let c := accessCode m a n
  let o := s.winOffset w + a
  let idx := s.winTarget w
  if c ≠ 0 then (s, some c)
  else if !s.winOpen w then (s, some 11)
  else if s.winOwner w ≠ m then (s, some 8)
  else if s.winMode w = 1 then (s, some 3)
  else if idx = 0x2201 then
    let r := s.stageAccess m o bs
    (if r.2 = some 0 ∨ r.2 = none then r.1.advance w n else r.1, r.2)
  else if idx = 0x5430 then
    if ringSize < o + n then (s, some 11)
    else if (List.range n).any (fun i => inRing0 (o + i)) then (s, some 3)
    else ((s.ringStore o bs).advance w n, some 0)
  else if s.winLength w < o ∨ s.writeLimit idx < o + n then (s, some 11)
  else ((s.putContent w o bs).advance w n, some 0)

/-- A data read by master `m`. -/
def State.dataRead (s : State) (m w a n : Nat) : State :=
  if !s.masterPresent m then s
  else if !s.dev.ready then s.answer m (0x2024 + w) 1 7
  else
    let r := s.windowRead m w a n
    r.1.answer m (0x2024 + w) 1 r.2.1 [] r.2.2

/-- A data write by master `m`; the acknowledgement of a block that waits for room is owed (R53, R414). -/
def State.dataWrite (s : State) (m w a : Nat) (bs : List Byte) : State :=
  if !s.masterPresent m then s
  else if !s.dev.ready then s.answer m (0x2024 + w) 1 7
  else
    let r := s.windowWrite m w a bs
    match r.2 with
    | some c => r.1.answer m (0x2024 + w) 1 c
    | none => (r.1.record m (0x2024 + w) 1 0).owe m

/-- WINDOW_DATA_READ (R58): `n` bytes at aperture displacement `a` (0 over EtherCAT). -/
def execWindowDataRead (dt : Nat) (m : Fin 17) (w : Fin 4) (a n : Nat) (s : State) : Host.Outcome State Fault Refusal :=
  ok ((s.pass dt).dataRead m w a n)

/-- WINDOW_DATA_WRITE (R58, R486). -/
def execWindowDataWrite (dt : Nat) (m : Fin 17) (w : Fin 4) (a : Nat) (bs : List Byte) (s : State) :
    Host.Outcome State Fault Refusal :=
  ok ((s.pass dt).dataWrite m w a bs)

/-- UPDATE_BLOCK_ZERO (R412): block 0 through a window on the staging domain whose offset is 0. -/
def execUpdateBlockZero (dt : Nat) (m : Fin 17) (w : Fin 4) (bs : List Byte) (s : State) : Host.Outcome State Fault Refusal :=
  ok ((s.pass dt).dataWrite m w 0 bs)

/-- UPDATE_BLOCK (R414): a later block at displacement `a`. -/
def execUpdateBlock (dt : Nat) (m : Fin 17) (w : Fin 4) (a : Nat) (bs : List Byte) (s : State) :
    Host.Outcome State Fault Refusal :=
  ok ((s.pass dt).dataWrite m w a bs)

/-- WINDOW_TIMEOUT (R59, R486): 10 s without a data access; a bank written in place is invalid. -/
def execWindowTimeout (dt : Nat) (w : Fin 4) (s : State) : Host.Outcome State Fault Refusal :=
  event dt s (fun s => s.winOpen w && s.elapsed (s.window w).last 10000000000) (fun s =>
    let idx := s.winTarget w
    let s := if s.winMode w = 2 ∧ (idx = 0x4010 ∨ idx = 0x4011) then s.setBank (idx - 0x4010) 3 0 else s
    (s.winClosed w 3).raise1 837 w)

end Sys2Proof.Machine
end

