-- ==== Sys2Proof/Machine/Layers.lean ====
section
/-!
DEFINITION. Configuration layers and stored images (R36, R64 to R69): saving and discarding the user image, and what a start
makes of the two slots, with the migration of a trial start (R422 to R425).
-/
namespace Sys2Proof.Machine

/-! ## The stored objects (R36) -/

/-- R36: entry `idx:sub` belongs to the user layer. -/
def storedEntry (idx sub : Nat) : Bool :=
  match lookup idx sub with
  | none => false
  | some e => e.row.acc = .rw && e.row.ty.bits ≠ 0 && decide (0x2000 ≤ idx ∧ idx < 0x6000) &&
      !(idx = 0x2000 && sub = 2) && !(decide (0x2010 ≤ idx ∧ idx < 0x2040)) && !(idx = 0x5410 && sub = 3)

/-- The subindices of a row. -/
def Row.subs (r : Row) : List Nat := (List.range r.subN).map (fun i => r.sub + i)

/-- R36: the stored objects in ascending order. -/
def storedKeys : List (Nat × Nat) :=
  (List.range 0x4000).flatMap (fun i =>
    match findFamily (0x2000 + i) (familiesAt (0x2000 + i)) with
    | none => []
    | some (f, _) => (f.rows.flatMap Row.subs).filterMap (fun k => if storedEntry (0x2000 + i) k then some (0x2000 + i, k) else none))

/-- R69: the live values of all stored entries as records. -/
def State.snapshot (s : State) : List UserRec :=
  storedKeys.map (fun (i, k) =>
    let t := tyAt i k
    ⟨i, k, t.bits / 8, (s.rd i k % 2 ^ t.bits).toNat, true⟩)

/-! ## The slots (R64, R66) -/

/-- User-image slot `i`. -/
def State.slotOf (s : State) (i : Nat) : UserSlot := vget s.door.slots i
/-- Change slot `i`. -/
def State.updUser (s : State) (i : Nat) (f : UserSlot → UserSlot) : State :=
  { s with door := { s.door with slots := vupd s.door.slots i f } }

/-- R66: of two slots, the second is the newer unless the first carries the higher generation. -/
def State.newerSlot (s : State) : Nat := if (s.slotOf 1).gen < (s.slotOf 0).gen then 0 else 1

/-- R66: the slots with a valid start block, the newest first. -/
def State.startedSlots (s : State) : List Nat :=
  [s.newerSlot, 1 - s.newerSlot].filter (fun i => (s.slotOf i).started)

/-- The newest whole slot. -/
def State.newestWhole (s : State) : Option Nat := s.startedSlots.find? (fun i => (s.slotOf i).whole)

/-- R69: the slot a save writes: the one that does not hold the newest whole image. -/
def State.saveSlot (s : State) : Nat := match s.newestWhole with
  | some i => 1 - i
  | none => 0

/-- R69: the generation a save writes. -/
def State.nextGen (s : State) : Nat := (s.startedSlots.foldl (fun g i => max g (s.slotOf i).gen) 0 + 1) % 2 ^ 32

/-- R64, R69: the snapshot lies in NOR up to record `n`, with its end block when `whole`. -/
def State.writeImage (s : State) (recs : List UserRec) (n : Nat) (whole : Bool) : State :=
  let gen := s.nextGen
  s.updUser s.saveSlot (fun _ => ⟨true, (s.fw s.pow.bank).format, gen, recs.take n, whole⟩)

/-- R65, R69: a save that ends early leaves its slot partial, with the records written so far. -/
def State.tearSave (s : State) (n : Nat) : State :=
  match s.door.saving with
  | none => s
  | some recs => { s.writeImage recs n false with door := { (s.writeImage recs n false).door with saving := none } }

/-- R69: a save, refused with code 8 while one is writing or while the update journal is active. -/
def opSave : Op := fun _ s =>
  if s.door.saving.isSome ∨ s.journalActive then (s, 8)
  else
    let recs := s.snapshot
    ({ s.wr 0x2100 3 1 with door := { (s.wr 0x2100 3 1).door with saving := some recs, discard := false } }, 0)

/-- SAVE_USER_IMAGE (R69): a write of "save" to 0x2100:01. -/
def execSaveUserImage (dt : Nat) (m : Fin 17) (s : State) : Host.Outcome State Fault Refusal :=
  hostCommand dt m 0x2100 1 0x65766173 opSave s

/-- SAVE_COMPLETE (R69): the save ends, done or failed after `written` records. -/
def execSaveComplete (dt : Nat) (good : Bool) (written : Nat) (s : State) : Host.Outcome State Fault Refusal :=
  event dt s (fun s => s.door.saving.isSome) (fun s =>
    if good then
      let s := (match s.door.saving with
        | some recs => s.writeImage recs recs.length true
        | none => s).wr 0x2100 3 2
      { s with door := { s.door with saving := none } }
    else (s.tearSave written).wr 0x2100 3 3)

/-- R69: both slots are marked to be erased at the next start. -/
def opDiscard : Op := fun _ s =>
  ({ s.wr 0x2100 3 4 with door := { (s.wr 0x2100 3 4).door with discard := true } }, 0)

/-- DISCARD_USER_IMAGE (R69): a write of "load" to 0x2100:02. -/
def execDiscardUserImage (dt : Nat) (m : Fin 17) (s : State) : Host.Outcome State Fault Refusal :=
  hostCommand dt m 0x2100 2 0x64616F6C opDiscard s

/-! ## Applying records (R66, R67, R70) -/

/-- A clamp-report entry made while the layers are applied (source 1). -/
def State.layerClamp (s : State) (idx sub reason : Nat) (offered applied : Int) : State :=
  s.reportClamp { (default : ClampRec) with
    source := 1, index := idx, sub := sub, reason := reason, offered := offered, applied := applied }

/-- R66: one record is checked, clamped and applied on its own; without dependent clamps. -/
def State.applyRecord (s : State) (r : UserRec) : State :=
  let took := fun (t : State) => t.wr 0x2100 6 (min 65535 (t.rdN 0x2100 6 + 1) : Nat)
  if !r.ok then s.layerClamp r.index r.sub 8 r.value (s.rd r.index r.sub)
  else match lookup r.index r.sub with
    | none => s.layerClamp r.index r.sub 7 r.value 0
    | some e =>
      let v := rawValue e.row.ty r.value
      let kept := s.layerClamp r.index r.sub 6 v (s.rd r.index r.sub)
      if !storedEntry r.index r.sub ∨ r.len * 8 ≠ e.row.ty.bits ∨ rangeBad r.index r.sub v then kept
      else match e.row.range.apply e.row.ty v with
        | .keep u => took (s.wr r.index r.sub u)
        | .clamped u why => took ((s.wr r.index r.sub u).layerClamp r.index r.sub why v u)
        | .refused => kept

/-- R66, step 4: the dependent clamps over all entries. -/
def State.settleLimits (s : State) : State :=
  s.eachOf depKeys (fun (i, k) s =>
    match depOf i k s (s.rd i k) with
    | .clamped u why => (s.wr i k u).layerClamp i k why (s.rd i k) u
    | _ => s)

/-! ## Choosing the image (R66, R422, R425) -/

/-- What a start makes of the stored images: the slots in the order of their records. -/
inductive Images
  | basecamp
  | use (slots : List Nat)
  | unreadable
  deriving DecidableEq, Repr

/-- R422: the oldest settings format the firmware of a bank migrates from. -/
def FwBank.oldestFormat (b : FwBank) : Nat :=
  if b.content.isNone && b.code ≠ 0 then Config.deliveredOldest.toNat else b.oldest

/-- R66, step 2: the slots whose records apply, oldest first. -/
def State.chosenSlots (s : State) : List Nat :=
  match s.startedSlots with
  | [] => []
  | n :: r => if (s.slotOf n).whole then [n] else r ++ [n]

/-- R422, R425: the running firmware reads these slots, or cannot. -/
def State.images (s : State) : Images :=
  let own := (s.fw s.pow.bank).format
  let oldest := (s.fw s.pow.bank).oldestFormat
  match s.newestWhole with
  | some w =>
    let other := s.slotOf (1 - w)
    if own < (s.slotOf w).format ∧ other.started ∧ other.whole ∧ other.format = own then .use [1 - w]
    else if s.chosenSlots.all (fun i => decide (oldest ≤ (s.slotOf i).format ∧ (s.slotOf i).format ≤ own) || (s.slotOf i).format = own)
      then .use s.chosenSlots else .unreadable
  | none =>
    if s.chosenSlots.isEmpty then .basecamp
    else if s.chosenSlots.all (fun i => decide (oldest ≤ (s.slotOf i).format ∧ (s.slotOf i).format ≤ own) || (s.slotOf i).format = own)
      then .use s.chosenSlots else .unreadable

/-- R422: a slot's records in the running firmware's format; none where one cannot be converted. -/
def State.readable (s : State) (i : Nat) : Option (List UserRec) :=
  let own := (s.fw s.pow.bank).format
  let u := s.slotOf i
  let recs := if u.whole then u.recs.map (fun r => { r with ok := true }) else u.recs
  if u.format = own then some recs
  else recs.mapM (fun r =>
    if !r.ok then some r
    else (Config.convert u.format own (r.index, r.sub, r.len, r.value)).map (fun (a, b, c, d) => ⟨a, b, c, d, true⟩))

/-- R68: the code of 0x2100:04 for these slots. -/
def State.imageCode (s : State) : List Nat → Nat
  | [] => 0
  | [i] => if (s.slotOf i).whole then 1 else 3
  | i :: _ => if (s.slotOf i).whole then 2 else 4

/-- R66: the records of these slots apply. -/
def State.applySlots (s : State) (slots : List Nat) (recs : List UserRec) : State :=
  let s := s.eachOf recs (fun r s => s.applyRecord r)
  let s := s.wr 0x2100 4 (s.imageCode slots)
  let s := s.wr 0x2100 5 (slots.getLast?.map (fun i => (s.slotOf i).gen) |>.getD 0 : Nat)
  s.raiseIf (slots.any (fun i => !(s.slotOf i).whole)) 833 0

/-- R422: the stored settings format of an image in use. -/
def State.imageFormat (s : State) (slots : List Nat) : Nat := (slots.getLast?.map (fun i => (s.slotOf i).format)).getD 0

/-- R423, R424: the trial start cannot read the settings: it falls back, or with policy 1 quarantines them and runs from Basecamp. -/
def State.migrationFails (s : State) : State :=
  match s.upd.trial with
  | some (_, 1) =>
    let image := s.newestWhole.map s.slotOf
    let s := s.updUpd (fun u => { u with quarantine := if image.isSome then image else u.quarantine, result := 4 })
    { s with door := { s.door with slots := default } }
  | _ => s.updUpd (fun u => { u with failing := true })

/-- R66, R422, R425: the layers are applied; Basecamp is already loaded. -/
def State.applyLayers (s : State) : State :=
  let trial := s.upd.trying
  let erased := s.door.discard
  let s : State := if erased then { s with door := { s.door with discard := false, slots := default } } else s
  let s := s.wr 0x2100 7 (s.fw s.pow.bank).format
  let s := match s.images with
    | .basecamp => (s.raise1 834 0).updUpd (fun u => { u with result := if erased then 5 else 2, found := 0 })
    | .unreadable => (if trial then s.migrationFails else s).updUpd (fun u => { u with found := s.imageFormat s.chosenSlots })
    | .use slots =>
      let found := s.imageFormat slots
      match slots.mapM s.readable with
      | none => (if trial then s.migrationFails else s).updUpd (fun u => { u with found := found })
      | some recs =>
        (s.applySlots slots recs.flatten).updUpd (fun u => { u with
          result := if found = (s.fw s.pow.bank).format then 2 else 1, found := found })
  s.settleLimits

end Sys2Proof.Machine
end

