-- ==== Sys2Proof/Machine/Doors.lean ====
section
/-!
DEFINITION. The two doors (R44 to R56, R61, R63, R64, R485): SDO downloads and control accesses, complete access, 64-bit entries in two
halves, result objects, and the wait acknowledgement.
-/
namespace Sys2Proof.Machine

/-! ## One write -/

/-- What a granted write of entry `idx:sub` by master `m` does, but for requests to 0x2000:02. -/
def opOf (m idx sub : Nat) : Op :=
  if 0x2020 ≤ idx ∧ idx < 0x2024 then opWindow m (idx - 0x2020) sub
  else if idx = 0x2100 ∧ sub = 1 then opSave
  else if idx = 0x2100 ∧ sub = 2 then opDiscard
  else opEntry idx sub

/-- A write of `v` by master `m`, its address and length being right. -/
def State.writeEntry (s : State) (m idx sub : Nat) (v : Int) : State :=
  if idx = 0x2000 ∧ sub = 2 then s.requestState m v else s.grant m idx sub v (depOf idx sub) (opOf m idx sub)

/-- An access of a present master that ends at once with code `c`; before Ready with code 7 (R40). -/
def State.deny (s : State) (m idx sub c : Nat) : State :=
  if !s.masterPresent m then s else s.answer m idx sub (if s.dev.ready then c else 7)

/-- R44, R46: an SDO download of `len` bytes. -/
def State.sdoWrite (s : State) (idx sub len raw : Nat) : State :=
  if 0x2024 ≤ idx ∧ idx < 0x2028 ∧ sub = 1 then s.dataWrite 0 (idx - 0x2024) 0 (le len raw)
  else match lookup idx sub with
    | none => s.deny 0 idx sub 2
    | some e =>
      if e.row.acc = .ro then s.deny 0 idx sub 3
      else if e.row.ty.bits = 0 ∨ e.row.ty.bits ≠ 8 * len then s.deny 0 idx sub 6
      else s.writeEntry 0 idx sub (rawValue e.row.ty (raw % 2 ^ e.row.ty.bits))

/-- R52: a scalar address reaches an entry of up to 32 bits. -/
def State.scalarWrite (s : State) (m idx sub : Nat) (w : Nat) : State :=
  match lookup idx sub with
  | none => s.deny m idx sub 2
  | some e =>
    if e.row.ty.bits = 0 ∨ e.row.ty.bits = 64 then s.deny m idx sub 2
    else s.writeEntry m idx sub (wordValue e.row.ty w)

/-! ## 64-bit entries over CoaXPress (R54 to R56) -/

/-- The entry is one of 64 bits. -/
def isWide (idx sub : Nat) : Bool := match lookup idx sub with
  | some e => e.row.ty.bits = 64
  | none => false

/-- R55: the low word goes into the write buffer. -/
def State.wideLow (s : State) (m idx sub w : Nat) : State :=
  if !s.masterPresent m then s
  else if !s.dev.ready then s.answer m idx sub 7
  else if !isWide idx sub then s.answer m idx sub 2
  else if s.rowRefusal idx sub = 3 then s.answer m idx sub 3
  else (s.updMaster m (fun q => { q with wbuf := some (key idx sub, w) })).answer m idx sub 0

/-- R55: the high word commits the value whose low word the buffer holds; otherwise code 9, and the buffer is emptied. -/
def State.wideHigh (s : State) (m idx sub w : Nat) : State :=
  if !s.masterPresent m then s
  else if !s.dev.ready then s.answer m idx sub 7
  else if !isWide idx sub then s.answer m idx sub 2
  else
    let t := s.updMaster m (fun q => { q with wbuf := none })
    match (s.master m).wbuf with
    | some (k, low) =>
      if k = key idx sub then t.writeEntry m idx sub (rawValue (tyAt idx sub) (w * 2 ^ 32 + low)) else t.answer m idx sub 9
    | none => t.answer m idx sub 9

/-- R53, R54: a read of one 32-bit half of a 64-bit entry. -/
def State.wideRead (s : State) (m idx sub : Nat) (high : Bool) : State :=
  if !s.masterPresent m then s
  else if !s.dev.ready && !State.bootReadable idx sub then s.answer m idx sub 7
  else match lookup idx sub with
    | none => s.answer m idx sub 2
    | some e =>
      if e.row.ty.bits ≠ 64 then s.answer m idx sub 2
      else if e.row.acc = .wo then s.answer m idx sub 4
      else
        let live := (s.get idx sub % 2 ^ 64).toNat
        if high then
          let v := match (s.master m).shadow with
            | some (k, x) => if k = key idx sub then x else live
            | none => live
          s.answer m idx sub 0 [(v / 2 ^ 32 : Nat)]
        else
          (s.updMaster m (fun q => { q with shadow := some (key idx sub, live) })).answer m idx sub 0 [(live % 2 ^ 32 : Nat)]

/-- A two-half access of link `l`: an address outside the wide area, or of the other half, is not this command's. -/
def wideAccess (dt : Nat) (l addr : Nat) (high : Bool) (s : State) (act : Nat → Nat → State → State) : Host.Outcome State Fault Refusal :=
  let s := (s.pass dt).settleAhead
  ok (match addressed addr with
    | .wide idx sub h => if h = high then act idx sub s else s.deny (l + 1) 0 0 2
    | _ => s.deny (l + 1) 0 0 2)

/-- WIDE_LOW_WORD_READ (R54). -/
def execWideLowWordRead (dt : Nat) (l : Fin 16) (addr : Nat) (s : State) : Host.Outcome State Fault Refusal :=
  wideAccess dt l addr false s (fun idx sub s => s.wideRead (l + 1) idx sub false)

/-- WIDE_HIGH_WORD_READ (R54). -/
def execWideHighWordRead (dt : Nat) (l : Fin 16) (addr : Nat) (s : State) : Host.Outcome State Fault Refusal :=
  wideAccess dt l addr true s (fun idx sub s => s.wideRead (l + 1) idx sub true)

/-- WIDE_LOW_WORD_WRITE (R55). -/
def execWideLowWordWrite (dt : Nat) (l : Fin 16) (addr : Nat) (w : BitVec 32) (s : State) : Host.Outcome State Fault Refusal :=
  wideAccess dt l addr false s (fun idx sub s => s.wideLow (l + 1) idx sub w.toNat)

/-- WIDE_HIGH_WORD_WRITE (R55). -/
def execWideHighWordWrite (dt : Nat) (l : Fin 16) (addr : Nat) (w : BitVec 32) (s : State) : Host.Outcome State Fault Refusal :=
  wideAccess dt l addr true s (fun idx sub s => s.wideHigh (l + 1) idx sub w.toNat)

/-! ## REGISTER_WRITE (R35, R51) -/

/-- R51 to R53, R55: a 32-bit control write of link `l`. -/
def State.controlWrite (s : State) (l addr : Nat) (w : BitVec 32) : State :=
  match addressed addr with
  | .scalar idx sub => s.scalarWrite (l + 1) idx sub w.toNat
  | .wide idx sub false => s.wideLow (l + 1) idx sub w.toNat
  | .wide idx sub true => s.wideHigh (l + 1) idx sub w.toNat
  | .ring o => s.ringWrite l o w.toNat
  | .window x d => s.dataWrite (l + 1) x d (le 4 w.toNat)
  | .deviceFile _ => s.deny (l + 1) 0 0 3
  | .nowhere => s.deny (l + 1) 0 0 2

/-- A register write: an SDO download is the EtherCAT master's, a control access a CoaXPress host's. -/
def State.registerWrite (s : State) (m : Nat) : Access → State
  | .sdo idx sub len raw => if m = 0 then s.sdoWrite idx sub len raw else s
  | .cxp addr w => if m = 0 then s else s.controlWrite (m - 1) addr w

/-- REGISTER_WRITE (R35). -/
def execRegisterWrite (dt : Nat) (m : Fin 17) (a : Access) (s : State) : Host.Outcome State Fault Refusal :=
  ok ((s.pass dt).settleAhead.registerWrite m a)

/-! ## Result objects (R63, R64) -/

/-- R63: the objects that hold results: channels, seams, auxiliary slots. -/
def resultObject (idx : Nat) : Bool :=
  (decide (0x3000 ≤ idx ∧ idx < 0x4000) && idx % 64 = 3) || decide (0x4460 ≤ idx ∧ idx < 0x4480) || decide (0x5080 ≤ idx ∧ idx < 0x50A0)

/-- The highest subindex of an index (R485). -/
def topSub (idx : Nat) : Nat := (dfltAt idx 0).toNat

/-- The live values of a result object. -/
def State.resultValues (s : State) (idx : Nat) : List Int := (List.range (topSub idx - 1)).map (fun i => s.rd idx (i + 2))

/-- R64: what a read of value `sub` of a result object returns to master `m`: the shadowed value while its shadow holds that
object. -/
def State.resultValue (s : State) (m idx sub : Nat) : Int :=
  match (s.master m).res with
  | some (k, vals) => if k = idx then vals.getD (sub - 2) 0 else s.rd idx sub
  | none => s.rd idx sub

/-- R63: master `m`'s fresh bit of a result object. -/
def State.isFresh (s : State) (m idx : Nat) : Bool := bit ((Store.find s.door.fresh idx).getD 0).toNat m

/-- R64: master `m` has read the status. -/
def State.notFresh (s : State) (m idx : Nat) : State :=
  match Store.find s.door.fresh idx with
  | none => s
  | some v => { s with door := { s.door with fresh := Store.put s.door.fresh idx (setBit v.toNat m false : Nat) } }

/-- R63: the status word as master `m` reads it. -/
def State.resultStatus (s : State) (m idx : Nat) : Nat := b2n (s.isFresh m idx) * 2 ^ 31 + s.rdN idx 1 % 2 ^ 31

/-- R64: a read of the status of result object `idx` by master `m`. -/
def State.statusRead (s : State) (m idx : Nat) : State :=
  if !s.masterPresent m then s
  else if !s.dev.ready then s.answer m idx 1 7
  else if !resultObject idx ∨ (lookup idx 1).isNone then s.answer m idx 1 2
  else
    let status := s.resultStatus m idx
    ((s.updMaster m (fun q => { q with res := some (idx, s.resultValues idx) })).notFresh m idx).answer m idx 1 0 [status]

/-- RESULT_STATUS_READ (R64). -/
def execResultStatusRead (dt : Nat) (m : Fin 17) (obj : Nat) (s : State) : Host.Outcome State Fault Refusal :=
  ok ((s.pass dt).settleAhead.statusRead m obj)

/-! ## Complete access (R47, R485) -/

/-- The subindices that an index's tables list, in ascending order. -/
def subsOf (idx : Nat) : List Nat :=
  match findFamily idx (familiesAt idx) with
  | none => []
  | some (f, _) => f.rows.flatMap (fun r => (List.range r.subN).map (fun i => r.sub + i))

/-- R485: the subindices a transfer covers: from 0 where the index has that entry, or from 1. -/
def covered (idx : Nat) (from0 : Bool) : List Nat :=
  let l := subsOf idx
  if from0 && !l.contains 0 then 0 :: l else l

/-- R47: the index holds an entry of more than 64 bits. -/
def holdsDomain (idx : Nat) : Bool := (subsOf idx).any (fun k => (tyAt idx k).bits = 0)

/-- R47: a complete-access read by the EtherCAT master; a covered WO entry is refused as any read of it. -/
def State.completeRead (s : State) (idx : Nat) (from0 : Bool) : State :=
  if !s.masterPresent 0 then s
  else if !s.dev.ready then s.answer 0 idx 0 7
  else if (subsOf idx).isEmpty then s.answer 0 idx 0 2
  else if holdsDomain idx then s.answer 0 idx 0 6
  else match (covered idx from0).find? (fun k => match lookup idx k with | some e => e.row.acc = .wo | none => false) with
    | some k => s.answer 0 idx k 4
    | none =>
      let vals : List Int := (covered idx from0).map (fun k =>
        if resultObject idx ∧ k = 1 then ((s.resultStatus 0 idx : Nat) : Int) else s.get idx k)
      (if resultObject idx then s.notFresh 0 idx else s).answer 0 idx 0 0 vals

/-- COMPLETE_ACCESS_READ (R47). -/
def execCompleteAccessRead (dt : Nat) (idx : Nat) (from0 : Bool) (s : State) : Host.Outcome State Fault Refusal :=
  ok ((s.pass dt).settleAhead.completeRead idx from0)

/-- One subindex of a complete-access write: the value it is to take and the reason of its clamp, or a refusal's code. -/
structure Planned where
  sub : Nat
  offered : Int
  value : Int
  why : Option Nat
  deriving DecidableEq, Repr

/-- R47, R485: the check of one subindex against the state at the grant. -/
def State.planOne (s : State) (idx sub : Nat) (v : Int) : Except Nat (Option Planned) :=
  if sub = 0 ∧ !(subsOf idx).contains 0 then (if v = dfltAt idx 0 then .ok none else .error 3)
  else
    let c := s.rowRefusal idx sub
    if c ≠ 0 then .error c
    else match (verdict idx sub v).andThen (depOf idx sub s) with
      | .refused => .error 5
      | .keep u => if rangeBad idx sub u then .error 5 else .ok (some ⟨sub, v, u, none⟩)
      | .clamped u why => if rangeBad idx sub u then .error 5 else .ok (some ⟨sub, v, u, some why⟩)

/-- The plan of a whole transfer; the first refused subindex and its code otherwise. -/
def State.planAll (s : State) (idx : Nat) : List (Nat × Int) → Except (Nat × Nat) (List Planned)
  | [] => .ok []
  | (k, v) :: r =>
    match s.planOne idx k v with
    | .error c => .error (k, c)
    | .ok p => match s.planAll idx r with
      | .error e => .error e
      | .ok l => .ok (p.toList ++ l)

/-- The entry's write is a command or has a rule of its own, and is not simply stored. -/
def actsOnWrite (idx sub : Nat) : Bool :=
  decide (0x2020 ≤ idx ∧ idx < 0x2024) || (idx = 0x2100 && (sub = 1 || sub = 2)) || (commandOf idx sub).isSome

/-- The commands of a transfer in ascending order; the first that refuses, with its code. -/
def State.runCommands (s : State) (idx : Nat) : List Planned → Except (Nat × Nat) State
  | [] => .ok s
  | p :: r =>
    let x := opOf 0 idx p.sub p.value s
    if x.2 ≠ 0 then .error (p.sub, x.2) else x.1.runCommands idx r

/-- R47: the planned values are all stored, judged together, and then act; commands act last. -/
def State.commitPlan (s : State) (idx : Nat) (l : List Planned) : Except (Nat × Nat) State :=
  let plain := l.filter (fun p => !actsOnWrite idx p.sub)
  let t := s.eachOf plain (fun p t => t.wr idx p.sub p.value)
  match plain.find? (fun p => s.refusedBy t idx p.sub ≠ 0) with
  | some p => .error (p.sub, s.refusedBy t idx p.sub)
  | none => (t.eachOf plain (fun p t => s.afterWrite t idx p.sub)).runCommands idx (l.filter (fun p => actsOnWrite idx p.sub))

/-- R47, R67: one clamp-report entry for each clamped subindex. -/
def State.reportPlan (s : State) (idx : Nat) (l : List Planned) : State :=
  s.eachOf l (fun p s => match p.why with
    | some w => s.reportClamp (clampOf 0 idx p.sub w p.offered p.value)
    | none => s)

/-- R47: a complete-access write by the EtherCAT master. -/
def State.completeWrite (s : State) (idx : Nat) (from0 : Bool) (vals : List Int) : State :=
  if !s.masterPresent 0 then s
  else if !s.dev.ready then s.answer 0 idx 0 7
  else if (subsOf idx).isEmpty then s.answer 0 idx 0 2
  else if holdsDomain idx ∨ (covered idx from0).length < vals.length then s.answer 0 idx 0 6
  else match s.planAll idx ((covered idx from0).zip vals) with
    | .error (k, c) => s.answer 0 idx k c
    | .ok l => match s.commitPlan idx l with
      | .error (k, c) => s.answer 0 idx k c
      | .ok t =>
        match l.find? (fun p => p.why.isSome) with
        | some p => (t.reportPlan idx l).answer 0 idx p.sub 1
        | none => t.answer 0 idx 0 0

/-- COMPLETE_ACCESS_WRITE (R47). -/
def execCompleteAccessWrite (dt : Nat) (idx : Nat) (from0 : Bool) (vals : List Int) (s : State) : Host.Outcome State Fault Refusal :=
  ok ((s.pass dt).settleAhead.completeWrite idx from0 vals)

/-! ## Wait acknowledgements (R53) -/

/-- R53: an access of link `l` has been granted and is not answered: a held state request, a block without room, or a response
that waits for space. -/
def State.owesAnswer (s : State) (l : Nat) : Bool :=
  s.dev.held = some (l + 1) || s.upd.wait.any (fun w => w.1 = l + 1) || (s.eq (l / 2)).held.any (fun p => p.cls = 0 && p.dest = l)

/-- CONTROL_WAIT_ACK (R53): not answered within 10 ms; repeated. -/
def execControlWaitAck (dt : Nat) (l : Fin 16) (s : State) : Host.Outcome State Fault Refusal :=
  event dt s (fun s => s.owesAnswer l && s.elapsed (s.master (l + 1)).asked (10000000 * ((s.master (l + 1)).waits + 1))) (fun s =>
    s.updMaster (l + 1) (fun q => { q with waits := q.waits + 1 }))

end Sys2Proof.Machine
end

