-- ==== Sys2Proof/Machine/Flags.lean ====
section
/-!
DEFINITION. The flags of the process data: the status word 0x2031:02 (R48).
-/
namespace Sys2Proof.Machine

/-- R48: the clusters in state Running, one bit each. -/
def State.runningBits (s : State) : Nat :=
  (List.range 8).foldl (fun m k => setBit m k (s.rdN 0x2000 3 / 4 ^ k % 4 = 2)) 0

/-- R204: a paced transport is stopped at a peg: pacing states 3 to 6. -/
def State.atPeg (s : State) : Bool := decide (3 ≤ s.pacing ∧ s.pacing ≤ 6)

/-- R48: the status word. -/
def State.statusWord (s : State) : Nat :=
  s.dev.st.code * 2 ^ 13 + b2n s.dev.ready * 2 ^ 12 + b2n (!s.door.clamps.isEmpty) * 2 ^ 11 +
    b2n (s.rd 0x2000 0x10 ≠ 0) * 2 ^ 10 + b2n (s.rd 0x4210 0xA = 5) * 2 ^ 9 + b2n s.atPeg * 2 ^ 8 + s.runningBits

end Sys2Proof.Machine
end

