-- ==== Sys2Proof/Machine/Start.lean ====
section
/-!
DEFINITION. How the block starts (R360 to R368, R371, R418, R421 to R426): what a start keeps, the warm triggers, the rail
faults, the choice of the bank, the reload, and Ready.
-/
namespace Sys2Proof.Machine

/-! ## What a start keeps -/

/-- R414, R418: the session state that the journal shows for a running session state. -/
def journalOf (session : Nat) : Nat :=
  if session = 1 ∨ session = 2 then 2 else if 3 ≤ session ∧ session ≤ 7 then session else 0

/-- R418: what the update has in NOR at a start. -/
def State.updAtStart (s : State) : UpdateSt :=
  let u := s.upd
  let shows := if s.dev.ready then journalOf s.session else u.journal
  { u with
    body := if shows = 2 then u.body.take (max 4096 (u.journaled / 65536 * 65536) - 4096) else u.body
    wait := [], leaving := false, journal := shows, failing := false, trying := false, result := 0,
    found := if u.fellBack then u.found else 0 }

/-- The trim records of a cluster in NOR (R404). -/
def TrimCluster.stored (c : TrimCluster) : TrimCluster := { (default : TrimCluster) with recs := c.recs }

/-- What every start keeps: the contents of NOR. The two user-image slots, basis sets, recipes, Lantern tables, trim records, the
firmware banks and the update journal. -/
def State.kept (s : State) : State :=
  { State.reset with
    pending := s.pending
    now := s.now
    door := { (default : DoorSt) with slots := s.door.slots, discard := s.door.discard }
    rcp := { (default : RecipeSt) with
      basis := s.rcp.basis.map (fun b => ⟨b.nor, b.nor⟩), recipes := s.rcp.norRecipes, norRecipes := s.rcp.norRecipes }
    lan := { (default : LanternSt) with bins := s.lan.bins, matrices := s.lan.matrices }
    trm := { (default : TrimSt) with clusters := s.trm.clusters.map TrimCluster.stored }
    upd := s.updAtStart }

/-- The entries that the always-on domain keeps through a warm start: latches and counts of the event sources (R362, R438), the
connections, the auxiliary input and the rails. -/
def alwaysOn (k : Nat) : Bool :=
  let i := k / 256
  let j := k % 256
  (decide (0x2800 ≤ i ∧ i < 0x2C00) && [1, 8, 9, 0xA, 0xB, 0xC].contains j) ||
  (i = 0x5C00 && [1, 4, 7].contains j) ||
  decide (0x58A0 ≤ i ∧ i < 0x58B0) ||
  (decide (0x5880 ≤ i ∧ i < 0x5890) && (j = 1 || j = 2)) ||
  (i = 0x5891 && [2, 3, 6].contains j) || i = 0x5892

/-- R440: the live log is kept, the archive emptied; everything in the ring counts as not archived. -/
def EventSt.atStart (e : EventSt) : EventSt :=
  { (default : EventSt) with
    pres := e.pres, log := e.log, unarchived := e.log.reverse.map (fun r => r.seq), lostSince := e.lostSince,
    emergencies := e.emergencies, lastEmergency := e.lastEmergency }

/-- R190, R362: the encoder and the positions keep counting. -/
def TransportSt.atStart (t : TransportSt) : TransportSt :=
  { (default : TransportSt) with
    encA := t.encA, encB := t.encB, counting := t.counting, enc := t.enc, steps := t.steps, casby := t.casby, zero := t.zero }

/-- The AL status code changes. -/
def State.setAl (s : State) (code : Nat) : State := { s with door := { s.door with ec := { s.door.ec with al := code } } }

/-- R20, R43, R362, R440: a return to Trailhead with the always-on domain running. -/
def State.restarted (s : State) (kind : Nat) : State :=
  ({ s.kept with
    compassOff := s.compassOff
    dict := s.dict.filter (fun p => alwaysOn p.1)
    ev := s.ev.atStart
    trn := s.trn.atStart
    pow := { s.pow with boot := .core, begun := s.now, warm := true, kind := kind, step := 0, retryAt := none, reason := 0, reload := 0 } } :
    State).setAl 0x8001

/-- R403, R430: through a warm start a running trim is abandoned and counted, and the pending requests stay. -/
def State.keepTrims (s t : State) : State :=
  let a := s.abandonTrim
  (t.each 8 (fun k t => t.updCluster k (fun c => { c with req := (a.cluster k).req }))).wr 0x2400 8 (a.rd 0x2400 8)

/-- R362: a warm start joins the timeline at +12 ms; rails 7 and 6 go off. -/
def State.warmStart (s : State) (kind : Nat) : State :=
  s.keepTrims (((s.restarted kind).wrBit 0x5892 1 6 false).wrBit 0x5892 1 5 false)

/-- R361, R371: the rail sequence begins at step 1. -/
def State.railsFrom (s : State) (attempt : Nat) (at_ : Option Nat) : State :=
  { s.wr 0x5892 1 0 with pow := { s.pow with boot := .rails, step := 1, attempt := attempt, retryAt := at_ } }

/-! ## Power and the triggers of a start (R362, R371) -/

/-- LOSS_OF_POWER (R371): the bus and VDD_AON collapse; only NOR keeps its contents. A save that was writing leaves `written`
records. -/
def execLossOfPower (dt written : Nat) (s : State) : Host.Outcome State Fault Refusal :=
  event dt s State.powered (fun s => ((s.tearSave written).kept).bootTo .unpowered)

/-- COLD_START (R362): VDD_AON rises; the always-on domain starts from zero. -/
def execColdStart (dt : Nat) (s : State) : Host.Outcome State Fault Refusal :=
  event dt s (fun s => !s.powered) (fun s => ({ s.kept with now := 0 } : State).bootTo .filter)

/-- NRESET (R362, R361, R371, R470): low for at least 1 µs. During the rail sequence and in a rail halt it restarts the sequence
from step 1; before the power-on filter has released there is nothing to reset. -/
def execNreset (dt low written : Nat) (s : State) : Host.Outcome State Fault Refusal :=
  event dt s (fun s => s.powered && decide (1000 ≤ low)) (fun s =>
    if s.pow.boot = .filter then s
    else if s.pow.boot = .rails ∨ s.pow.boot = .haltRail then (s.railsFrom 1 none).setAl 0
    else (s.tearSave written).warmStart 1)

/-- WATCHDOG_RESTART (R362, R451): the watchdog expires; EV0994 is raised in the Trailhead that follows. -/
def execWatchdogRestart (dt written : Nat) (s : State) : Host.Outcome State Fault Refusal :=
  event dt s (fun s => !([Boot.unpowered, .filter, .rails, .haltRail].contains s.pow.boot)) (fun s =>
    ((s.tearSave written).warmStart 2).raise1 994 0)

/-! ## Rail faults (R361) -/

/-- R361: rail step `k` is due to fault: its power-good is awaited, or it is good and falls. -/
def State.railDue (s : State) (k : Nat) (fell : Bool) : Bool :=
  if fell then bit (s.rdN 0x5892 1) (k - 1)
  else s.pow.step = k && (match s.pow.retryAt with | none => true | some t => decide (t ≤ s.now))

/-- How many rail steps are enabled. -/
def State.railsOn (s : State) : Nat :=
  ((List.range 7).filter (fun i => bit (s.rdN 0x5892 1) i)).length + (if s.pow.step = 0 then 0 else 1)

/-- R361, steps 1 to 5: all steps off; a new attempt 100 ms later, or the halt after the third. -/
def State.railFault (s : State) (k : Nat) : State :=
  let first := !(s.pow.boot = .rails)
  let attempt := if first then 1 else s.pow.attempt
  let wait := (s.railsOn - 1) * 1000000 + 100000000
  let s := if first then s.restarted 0 else s
  let s := s.raise1 675 (k * 256 + attempt)
  let s : State := { s with pow := { s.pow with warm := false } }
  if attempt < 3 then s.railsFrom (attempt + 1) (some (s.now + wait))
  else
    let t := s.wr 0x5892 1 0
    ({ t with pow := { t.pow with boot := .haltRail, step := 0, retryAt := none } } : State).setAl 0x8002

/-- R361, steps 6 and 7: both off; a wake or Standby request under way fails with code 7. -/
def State.converterFault (s : State) (k : Nat) : State :=
  let s := ((s.wrBit 0x5892 1 6 false).wrBit 0x5892 1 5 false).raise1 675 k
  let s : State := { s with pow := { s.pow with step := 0, retryAt := none } }
  if s.dev.move = .waking then
    (({ s with dev := { s.dev with move := .none, goal := s.dev.st } } : State).release 7)
  else s

/-- RAIL_FAULT (R361, R371): power-good of step `step + 1` does not come, or falls for 100 µs (`fell`). -/
def execRailFault (dt : Nat) (step : Fin 7) (fell : Bool) (s : State) : Host.Outcome State Fault Refusal :=
  event dt s (fun s => s.railDue (step + 1) fell) (fun s =>
    if step.val < 5 then s.railFault (step + 1) else s.converterFault (step + 1))

/-! ## The first 40 ms (R363) -/

/-- ETHERCAT_PORTS_OPEN (R363): at +14 ms; encoder counting starts. -/
def execEthercatPortsOpen (dt : Nat) (s : State) : Host.Outcome State Fault Refusal :=
  event dt s (fun s => s.pow.boot = .core && decide (14000000 ≤ s.timeline)) (fun s =>
    (s.bootTo .ports).updTrn (fun t => { t with counting := true }))

/-- BOOT_RESPONDER_START (R363): at +20 ms discovery is answered on every link whose uplink locks. -/
def execBootResponderStart (dt : Nat) (locked : BitVec 16) (s : State) : Host.Outcome State Fault Refusal :=
  event dt s (fun s => s.pow.boot = .ports && decide (20000000 ≤ s.timeline)) (fun s =>
    (s.bootTo .responder).each 16 (fun n s =>
      if locked.getLsbD n then (s.setLink n 1).updLink n (fun l => { l with locked := true }) else s))

/-! ## The firmware bank (R364, R421) -/

/-- The bank marked active. -/
def State.markedActive (s : State) : Nat := if (s.fw 1).code = 1 ∧ (s.fw 0).code ≠ 1 then 1 else 0

/-- R421: the trial bank has not reached Ready in its start: it is invalid, and the previous bank is taken. -/
def State.trialLost (s : State) (b : Nat) : State :=
  ((s.updFw b (fun q => { q with code := 0 })).updUpd (fun u => { u with trial := none, trying := false })).raise1 783 0

/-- R364, R421, R418: the bank wanted by steps 1 and 2, with its reason. -/
def State.wantedBank (s : State) : State × Nat × Nat :=
  match s.upd.trial with
  | some (b, _) =>
    if s.upd.trying then (s, b, b2n s.pow.bootSel)
    else
      let t := s.trialLost b
      ({ t with pow := { t.pow with kind := 4 } }, 1 - b, 0)
  | none => if s.pow.bootSel then (s, 1 - s.markedActive, 1) else (s, s.markedActive, 0)

/-- R364, R421: bank `b` runs; a trial bank that this start should have tried and cannot is lost. -/
def State.runBank (s : State) (b why : Nat) : State :=
  let s : State := { s with pow := { s.pow with bank := b, reason := why, boot := .banked } }
  match s.upd.trial with
  | some (t, _) => if t = b then s else s.trialLost t
  | none => s

/-- R418: neither journal copy is valid: no session, the inactive bank is invalid. -/
def State.journalLost (s : State) (b : Nat) : State :=
  let s := s.updFw b (fun q => { q with code := 1 })
  let s := s.updFw (1 - b) (fun q => { q with code := 0 })
  (s.updUpd (fun u => { u with journal := 0, header := [], body := [], trial := none, trying := false, accept := none })).raise1 786 0

/-- R364, R418, R421: the choice among banks whose header and boot segment check out; the layers apply to the bank taken. -/
def State.selectBank (s : State) (good : Nat → Bool) (journal : Bool) : State :=
  let r := if journal then s.wantedBank else (s, 0, 0)
  let b := r.2.1
  if good b then
    let why := if journal then r.2.2 else 2
    ((if journal then r.1 else r.1.journalLost b).runBank b why).applyLayers
  else if good (1 - b) then ((if journal then r.1 else r.1.journalLost (1 - b)).runBank (1 - b) 2).applyLayers
  else (r.1.bootTo .haltBank).setAl 0x8003

/-- BANK_SELECT (R364): at +40 ms; `goodA`, `goodB`: the header and boot segment of the bank check out; `journal`: a copy of the
journal is valid. A bank whose reload has failed in this start counts as failed (R365). -/
def execBankSelect (dt : Nat) (goodA goodB journal : Bool) (s : State) : Host.Outcome State Fault Refusal :=
  event dt s (fun s => s.pow.boot = .responder && decide (40000000 ≤ s.timeline)) (fun s =>
    s.selectBank (fun b => (if b = 0 then goodA else goodB) && !bit s.pow.failed b) journal)

/-- SUBPROCESSOR_RELOAD (R365): images that fail at the first load are loaded once more; one that fails again fails the bank, and
the device restarts warm with the other. -/
def execSubprocessorReload (dt : Nat) (first second : BitVec 5) (s : State) : Host.Outcome State Fault Refusal :=
  event dt s (fun s => s.pow.boot = .banked && !s.upd.failing) (fun s =>
    if first &&& second ≠ 0 then
      let failed := setBit s.pow.failed s.pow.bank true
      let t := s.warmStart 4
      { t with pow := { t.pow with failed := failed } }
    else { s with pow := { s.pow with reload := first.toNat, boot := .loaded } })

/-! ## Ready (R363, R366 to R368) -/

/-- R368: the boot record. -/
def State.bootRecord (s : State) : State :=
  let s := ((s.wr 0x2060 1 s.pow.kind).wr 0x2060 2 s.pow.bank).wr 0x2060 3 s.pow.reason
  let s := (s.wr 0x2060 4 s.pow.attempt).wr 0x2060 5 ((s.now - s.pow.begun) / 1000 : Nat)
  ((s.wr 0x2060 6 s.pow.firstConn).wr 0x2060 7 (min 4096 s.ev.bootCount : Nat)).wr 0x2060 8 s.pow.reload

/-- R418, R427: the session that the journal shows. -/
def State.resumeSession (s : State) : State :=
  let j := s.upd.journal
  let h := s.upd.header
  if h.isEmpty ∨ j = 0 then (if s.upd.accept.isSome then s.setSession j 0xFF else s)
  else
    let next := if j = 2 then s.upd.body.length + 4096 else hLength h
    let total := cdiv (hResult h) 65536
    let done := if 5 ≤ j then total else if hKind h = 1 then min total ((s.upd.journaled - 4096) / 65536) else 0
    let s := (s.setSession j (if j = 3 ∨ j = 4 then 0xFE else 0xFF)).wr 0x2200 5 (hKind h)
    let s := ((s.wr 0x2200 6 (fieldAt h 32 4)).wr 0x2200 7 next).wr 0x2200 8 (hLength h)
    let s := ((s.wr 0x2200 9 done).wr 0x2200 0xA total).updUpd (fun u => { u with journaled := min u.journaled next })
    let s := s.raiseIf (j = 3) 773 0
    if j = 7 then s.wr 0x2202 8 ((s.upd.since + s.compassOff) % 2 ^ 64 : Nat) else s

/-- R422, R424: the trial bank has reached Ready. -/
def State.confirmTrial (s : State) : State :=
  match s.upd.trial with
  | none => s
  | some (b, _) =>
    if !s.upd.trying then s
    else
      let s := s.updFw b (fun q => { q with code := 1 })
      let s := s.updFw (1 - b) (fun q => { q with code := if q.code = 1 then 2 else q.code })
      let s := ((s.wr 0x2206 1 s.upd.result).wr 0x2206 5 s.upd.found).raise1 779 0
      let s :=
        if s.upd.result = 1 then (s.writeImage s.snapshot s.snapshot.length true).raise1 780 0
        else s.raiseIf (s.upd.result = 4) 782 0
      s.updUpd (fun u => { u with trial := none, trying := false, header := [], body := [], accept := none })

/-- R423: the previous bank reports the migration failure of the trial. -/
def State.tellFallback (s : State) : State :=
  if s.upd.fellBack then ((s.wr 0x2206 1 3).wr 0x2206 5 s.upd.found).raise1 781 0 |>.updUpd (fun u => { u with fellBack := false })
  else s

/-- R143, R149: basis sets with a copy in NOR are to be loaded; recipes in NOR are stored. -/
def State.storedSets (s : State) : State :=
  let s := s.each 8 (fun k s =>
    let n := (vget s.rcp.basis k).nor.length
    if n = 0 then s else (s.setBasis k 1).wr 0x4203 (k + 1) n)
  let s := s.each 32 (fun r s =>
    if (vget s.rcp.norRecipes r).isEmpty then s else (s.wr 0x4240 (r + 1) 1).wr 0x4241 (r + 1) 1)
  s.showBasisFree

/-- R159: after Trailhead the active recipe is the startup recipe. -/
def State.startupActive (s : State) : State :=
  let r := s.rdN 0x4210 0x10
  (s.wr 0x4210 1 (if r < 32 ∧ s.recipeStored r then r else 0xFF : Nat)).wr 0x4210 2 (s.rd 0x4210 0x11)

/-- R367: the boot summary. -/
def State.bootSummary (s : State) : State :=
  let s := s.raise 676 (.wide s.ev.bootCount s.ev.bootClass)
  { s with ev := { s.ev with fatal := false } }

/-- READY (R363): Trailhead is over; the device is in Bivouac. -/
def execReady (dt : Nat) (s : State) : Host.Outcome State Fault Refusal :=
  event dt s (fun s => s.pow.boot = .loaded && !s.upd.failing) (fun s =>
    let s := s.requestedService.applyTrim.resumeSession.confirmTrial.tellFallback.storedSets.startupActive
    let s := s.stamp.bootRecord
    let s := (s.toState .bivouac).setAl 0
    let s : State := { s with
      dev := { s.dev with ready := true, goal := .bivouac }
      pow := { s.pow with boot := .done, failed := 0, lastPen := s.now } }
    s.linksRest.refreshLamps.canteenStart.auxSleep.bootSummary)

/-! ## Bank switches (R421, R423, R426) -/

/-- R421, step 2: NOR writes in progress are completed. -/
def State.finishWrites (s : State) : State :=
  let s := match s.door.saving with
    | some recs =>
      let t := s.writeImage recs recs.length true
      { t with door := { t.door with saving := none } }
    | none => s
  let s := s.each 8 (fun k s => if s.basisState k = 3 then s.updBasis k (fun q => { q with nor := q.bytes }) else s)
  let s := s.each 32 (fun r s => if bit s.rcp.writing r then
    { s with rcp := { s.rcp with norRecipes := vupd s.rcp.norRecipes r (fun _ => vget s.rcp.recipes r) } } else s)
  s

/-- BANK_SWITCH (R421): the bank is recorded as trial and the device makes a warm start. -/
def execBankSwitch (dt : Nat) (s : State) : Host.Outcome State Fault Refusal :=
  event dt s (fun s => s.session = 8 && s.dev.ready) (fun s =>
    let s := s.finishWrites
    let b := s.upd.accept.getD s.otherBank
    let policy := if s.upd.accept.isSome then 1 else s.rdN 0x2202 7
    let s := (s.updFw b (fun q => { q with code := 5 })).warmStart 3
    s.updUpd (fun u => { u with trial := some (b, policy), trying := true }))

/-- MIGRATION_FALLBACK (R423): the trial bank is marked migration failed; the previous bank starts. -/
def execMigrationFallback (dt : Nat) (s : State) : Host.Outcome State Fault Refusal :=
  event dt s (fun s => s.upd.failing && (s.pow.boot = .banked || s.pow.boot = .loaded)) (fun s =>
    let found := s.upd.found
    let s := s.updFw s.pow.bank (fun q => { q with code := 6 })
    let t := s.warmStart 4
    t.updUpd (fun u => { u with
      trial := none, trying := false, failing := false, fellBack := true, found := found, header := [], body := [],
      journal := 0, accept := none }))

/-- R426, R412 to R417: a full image for bank A. `manifest`: the boot-segment digest and the sub-image checks match. -/
def State.bootstrapImage (s : State) (bs : List Byte) (manifest good : Bool) : State :=
  let h := bs.take 4096
  let body := bs.drop 4096
  let c := if headerFormatBad h then 2
    else if fieldAt h 8 4 ≠ Config.vendorId ∨ fieldAt h 12 4 ≠ 0x6400 ∨ fieldAt h 16 4 ≠ 0x20000 then 3
    else if bit (fieldAt h 7 1) 0 ∧ fieldAt h 24 8 ≠ Config.uniqueId then 4
    else if headerLimitsBad h then 5
    else if hKind h = 2 then 6
    else 1
  let s := s.raiseIf (c ≠ 1) 768 0
  if c ≠ 1 then s.mailbox 0x8004
  else if hLength h ≠ bs.length then s.mailbox 0
  else
    let content := body.take (hResult h)
    if !good ∨ sha256 body ≠ slice h 88 32 ∨ sha256 content ≠ hDigest h ∨ !manifest then
      (s.updFw 0 (fun q => { q with code := 0 })).raiseIf true (if good then 774 else 785) 0 |>.mailbox 0
    else
      let s := s.updFw 0 (fun _ => {
        code := 1, version := fieldAt h 32 4, fmt := fieldAt h 40 2, oldest := fieldAt h 42 2, content := some (content, sha256 content) })
      let s := s.updFw 1 (fun q => { q with code := if q.code = 1 then 0 else q.code })
      ((s.mailbox 0).updUpd (fun u => { u with trial := none, trying := false })).warmStart 3

/-- BOOTSTRAP_IMAGE_WRITE (R426): in the boot halt without a valid bank, in the Bootstrap state; `ok`: the NOR writes succeed. -/
def execBootstrapImageWrite (dt : Nat) (bs : List Byte) (manifest good : Bool) (s : State) : Host.Outcome State Fault Refusal :=
  event dt s (fun s => s.pow.boot = .haltBank && s.door.ec.st = .boot) (fun s => s.bootstrapImage bs manifest good)

end Sys2Proof.Machine
end

