-- ==== Sys2Proof/Machine/EtherCat.lean ====
section
/-!
DEFINITION. The EtherCAT slave (R43 to R50): its state machine, the process data and the mailbox's refusals.
-/
namespace Sys2Proof.Machine

/-- Change the EtherCAT part. -/
def State.updEc (s : State) (f : EtherCat → EtherCat) : State := { s with door := { s.door with ec := f s.door.ec } }

/-! ## The state machine (R43, R38, R366, R426) -/

/-- The order of the states. -/
def EcState.rank : EcState → Nat
  | .init => 0
  | .preOp => 1
  | .safeOp => 2
  | .op => 3
  | .boot => 4

/-- The state that a request names. -/
def ecState (n : Nat) : EcState :=
  if n = 0 then .init else if n = 1 then .preOp else if n = 2 then .safeOp else if n = 3 then .op else .boot

/-- R363: the ports are open. -/
def State.portsOpen (s : State) : Bool := !([Boot.unpowered, .filter, .rails, .core].contains s.pow.boot)

/-- R43, R49, R155: the state changes; sync modes are latched from Pre-Op to Safe-Op, and the first job number committed after
an entry to Op acts whatever its value. -/
def State.toEc (s : State) (st : EcState) : State :=
  let was := s.door.ec.st
  let s := if was = .preOp ∧ st = .safeOp then s.updEc (fun e => { e with outSync := s.rdN 0x1C32 1, inSync := s.rdN 0x1C33 1 }) else s
  let s : State := if st = .op ∧ was ≠ .op then { s with rcp := { s.rcp with lastJob := none } } else s
  s.updEc (fun e => { e with st := st, al := 0, committed := if st = .op then e.committed else none })

/-- R43: a request before Ready; only the halt without a valid bank accepts Bootstrap. -/
def State.earlyRequest (s : State) (st : EcState) : State :=
  if s.pow.boot = .haltBank then
    if st = .boot ∨ (st = .init ∧ s.door.ec.st = .boot) then s.toEc st else if st = .init then s else s.setAl 0x8003
  else if st = .init then s
  else s.setAl (if s.pow.boot = .haltRail then 0x8002 else 0x8001)

/-- ETHERCAT_STATE_REQUEST (R43): 0 Init, 1 Pre-Op, 2 Safe-Op, 3 Op, 4 Bootstrap. Before Ready refused; after it one state up
or any state down, as the standard has it. -/
def execEthercatStateRequest (dt : Nat) (goTo : Fin 5) (s : State) : Host.Outcome State Fault Refusal :=
  event dt s (fun s => s.portsOpen) (fun s =>
    let st := ecState goTo
    if !s.dev.ready then s.earlyRequest st
    else if st = .boot then s.setAl 0x0013
    else if s.door.ec.st.rank + 1 < st.rank then s.setAl 0x0011
    else s.toEc st)

/-! ## Process data (R48 to R50) -/

/-- R49, R447: the TxPDO is latched. -/
def State.latchTx (s : State) : State :=
  ((((s.wr 0x2031 1 (s.rd 0x4441 8)).wr 0x2031 2 s.statusWord).wr 0x2031 3 (s.rd 0x4210 2)).wr 0x2031 4 (s.rd 0x5A00 1)).wr 0x2031 5 s.summary

/-- R49, R155, R196: committed values take effect in Op. -/
def State.actRx (s : State) (pos : Nat) (speed : Int) (job : Nat) : State :=
  (s.updEc (fun e => { e with actPos := pos, actSpeed := speed, committed := none })).jobCommitted job

/-- R196: the press position offset is reported. -/
def State.pressOffset (s : State) : State := s.wr 0x4801 0xD ((s.reported : Int) - s.door.ec.actPos)

/-- R48, R67: the press speed as it is committed: clamped, with its clamp-report entry. -/
def State.commitSpeed (s : State) (v : Int) : State × Int :=
  match verdict 0x2030 2 v with
  | .clamped u why => (s.reportClamp (clampOf 0 0x2030 2 why v u), u)
  | _ => (s, v)

/-- RXPDO_COMMIT (R49): a frame in Safe-Op or Op; with a valid check sequence its values are committed. -/
def execRxpdoCommit (dt : Nat) (fcsOk : Bool) (pos speed : BitVec 32) (job : BitVec 16) (s : State) :
    Host.Outcome State Fault Refusal :=
  timed dt s (fun s => s.door.ec.st = .safeOp || s.door.ec.st = .op) (fun s =>
    let s := if s.door.ec.inSync = 0 then s.latchTx else s
    if !fcsOk then s
    else
      let r := s.commitSpeed speed.toInt
      let s := ((r.1.wr 0x2030 1 pos.toNat).wr 0x2030 2 r.2).wr 0x2030 3 job.toNat
      if s.door.ec.st ≠ .op then s
      else if s.door.ec.outSync = 0 then (s.actRx pos.toNat r.2 job.toNat).pressOffset
      else s.updEc (fun e => { e with committed := some (pos.toNat, r.2, job.toNat) }))

/-- SYNC0_EVENT (R49, R196, R216): the TxPDO is latched, committed values take effect, the press offset is reported, and Compass is
measured against DC system time where that is the time source. -/
def execSync0Event (dt : Nat) (dcTime : BitVec 64) (s : State) : Host.Outcome State Fault Refusal :=
  timed dt s (fun s => s.portsOpen) (fun s =>
    let e := s.door.ec
    let s := if e.inSync = 2 ∧ (e.st = .safeOp ∨ e.st = .op) then s.latchTx else s
    let s :=
      if e.outSync = 2 ∧ e.st = .op then
        (match e.committed with
          | some (pos, speed, job) => s.actRx pos speed job
          | none => s).pressOffset
      else s
    if s.rd 0x4880 3 = 1 then s.measured_ ((dcTime.toNat : Int) - s.fine) else s)

/-- PDO_WATCHDOG_EXPIRY (R50): from Op to Safe-Op with AL status code 0x001B; 0x2030 keeps its values. -/
def execPdoWatchdogExpiry (dt : Nat) (s : State) : Host.Outcome State Fault Refusal :=
  timed dt s (fun s => s.door.ec.st = .op) (fun s => ((s.toEc .safeOp).setAl 0x001B).raise1 838 0)

/-! ## The mailbox (R44) -/

/-- MAILBOX_UNSUPPORTED (R44): a mailbox protocol other than CoE (3) and FoE (4) is answered with the standard's error
"unsupported protocol". -/
def execMailboxUnsupported (dt : Nat) (protocol : Nat) (s : State) : Host.Outcome State Fault Refusal :=
  event dt s (fun s => s.masterPresent 0 && protocol ≠ 3 && protocol ≠ 4) (fun s => s.mailbox 2)

end Sys2Proof.Machine
end

