-- ==== Sys2Proof/Machine/Dispatch.lean ====
section
/-!
DEFINITION. One arm per command: a direct call of its meaning, or rejected by name.
-/
namespace Sys2Proof.Machine

def exec (i : Instr) (s : State) : Host.Outcome State Fault Refusal :=
  match i with
  | .requestBivouac dt m => Sys2Proof.Machine.execRequestBivouac dt m s
  | .requestStandby dt m => Sys2Proof.Machine.execRequestStandby dt m s
  | .requestScanning dt m => Sys2Proof.Machine.execRequestScanning dt m s
  | .requestPaused dt m => Sys2Proof.Machine.execRequestPaused dt m s
  | .stateChangeAtLineBoundary dt => Sys2Proof.Machine.execStateChangeAtLineBoundary dt s
  | .bivouacIdleTimeout dt => Sys2Proof.Machine.execBivouacIdleTimeout dt s
  | .fatalClassStop dt => Sys2Proof.Machine.execFatalClassStop dt s
  | .bivouacEntryComplete dt => Sys2Proof.Machine.execBivouacEntryComplete dt s
  | .wakeComplete dt => Sys2Proof.Machine.execWakeComplete dt s
  | .coldStart dt => Sys2Proof.Machine.execColdStart dt s
  | .nreset dt low written => Sys2Proof.Machine.execNreset dt low written s
  | .watchdogRestart dt written => Sys2Proof.Machine.execWatchdogRestart dt written s
  | .powerOnFilterRelease dt bootSel present => Sys2Proof.Machine.execPowerOnFilterRelease dt bootSel present s
  | .railStepPowerGood dt => Sys2Proof.Machine.execRailStepPowerGood dt s
  | .railFault dt step fell => Sys2Proof.Machine.execRailFault dt step fell s
  | .coreRelease dt => Sys2Proof.Machine.execCoreRelease dt s
  | .ethercatPortsOpen dt => Sys2Proof.Machine.execEthercatPortsOpen dt s
  | .bootResponderStart dt locked => Sys2Proof.Machine.execBootResponderStart dt locked s
  | .bankSelect dt goodA goodB journal => Sys2Proof.Machine.execBankSelect dt goodA goodB journal s
  | .subprocessorReload dt first second => Sys2Proof.Machine.execSubprocessorReload dt first second s
  | .ready dt => Sys2Proof.Machine.execReady dt s
  | .registerWrite dt m a => Sys2Proof.Machine.execRegisterWrite dt m a s
  | .completeAccessRead dt idx from0 => Sys2Proof.Machine.execCompleteAccessRead dt idx from0 s
  | .completeAccessWrite dt idx from0 vals => Sys2Proof.Machine.execCompleteAccessWrite dt idx from0 vals s
  | .wideLowWordRead dt l addr => Sys2Proof.Machine.execWideLowWordRead dt l addr s
  | .wideHighWordRead dt l addr => Sys2Proof.Machine.execWideHighWordRead dt l addr s
  | .wideLowWordWrite dt l addr w => Sys2Proof.Machine.execWideLowWordWrite dt l addr w s
  | .wideHighWordWrite dt l addr w => Sys2Proof.Machine.execWideHighWordWrite dt l addr w s
  | .resultStatusRead dt m obj => Sys2Proof.Machine.execResultStatusRead dt m obj s
  | .controlWaitAck dt l => Sys2Proof.Machine.execControlWaitAck dt l s
  | .saveUserImage dt m => Sys2Proof.Machine.execSaveUserImage dt m s
  | .saveComplete dt ok written => Sys2Proof.Machine.execSaveComplete dt ok written s
  | .discardUserImage dt m => Sys2Proof.Machine.execDiscardUserImage dt m s
  | .clearClampReport dt m => Sys2Proof.Machine.execClearClampReport dt m s
  | .openReadWindow dt m w => Sys2Proof.Machine.execOpenReadWindow dt m w s
  | .openWriteWindow dt m w => Sys2Proof.Machine.execOpenWriteWindow dt m w s
  | .closeWindow dt m w => Sys2Proof.Machine.execCloseWindow dt m w s
  | .windowDataRead dt m w a n => Sys2Proof.Machine.execWindowDataRead dt m w a n s
  | .windowDataWrite dt m w a bs => Sys2Proof.Machine.execWindowDataWrite dt m w a bs s
  | .windowTimeout dt w => Sys2Proof.Machine.execWindowTimeout dt w s
  | .ethercatStateRequest dt goTo => Sys2Proof.Machine.execEthercatStateRequest dt goTo s
  | .rxpdoCommit dt fcsOk pos speed job => Sys2Proof.Machine.execRxpdoCommit dt fcsOk pos speed job s
  | .sync0Event dt dcTime => Sys2Proof.Machine.execSync0Event dt dcTime s
  | .pdoWatchdogExpiry dt => Sys2Proof.Machine.execPdoWatchdogExpiry dt s
  | .mailboxUnsupported dt protocol => Sys2Proof.Machine.execMailboxUnsupported dt protocol s
  | .foeWriteRequest dt name bs => Sys2Proof.Machine.execFoeWriteRequest dt name bs s
  | .foeReadRequest dt name => Sys2Proof.Machine.execFoeReadRequest dt name s
  | .softwareTrigger dt m => Sys2Proof.Machine.execSoftwareTrigger dt m s
  | .exposureCycleStart dt g => Sys2Proof.Machine.execExposureCycleStart dt g s
  | .exposureCycleEnd dt g => Sys2Proof.Machine.execExposureCycleEnd dt g s
  | .serviceRequestOut dt m n => Sys2Proof.Machine.execServiceRequestOut dt m n s
  | .serviceRequestReturn dt m n => Sys2Proof.Machine.execServiceRequestReturn dt m n s
  | .channelLeavesService dt n => Sys2Proof.Machine.execChannelLeavesService dt n s
  | .channelReentry dt n => Sys2Proof.Machine.execChannelReentry dt n s
  | .warmingEnd dt n => Sys2Proof.Machine.execWarmingEnd dt n s
  | .channelLineStart dt n bad => Sys2Proof.Machine.execChannelLineStart dt n bad s
  | .blackPixelsEnd dt n codes => Sys2Proof.Machine.execBlackPixelsEnd dt n codes s
  | .channelSignalLost dt n => Sys2Proof.Machine.execChannelSignalLost dt n s
  | .signalAutoRecovery dt n => Sys2Proof.Machine.execSignalAutoRecovery dt n s
  | .channelLineEnd dt n codes => Sys2Proof.Machine.execChannelLineEnd dt n codes s
  | .blackLevelResult dt n => Sys2Proof.Machine.execBlackLevelResult dt n s
  | .thermistorStale dt k => Sys2Proof.Machine.execThermistorStale dt k s
  | .swapRequest dt m => Sys2Proof.Machine.execSwapRequest dt m s
  | .copyActiveToShadow dt m => Sys2Proof.Machine.execCopyActiveToShadow dt m s
  | .copyComplete dt => Sys2Proof.Machine.execCopyComplete dt s
  | .clearShadow dt m => Sys2Proof.Machine.execClearShadow dt m s
  | .setActivePlaneScale dt m p v => Sys2Proof.Machine.execSetActivePlaneScale dt m p v s
  | .startDarkCapture dt m => Sys2Proof.Machine.execStartDarkCapture dt m s
  | .startWhiteCapture dt m => Sys2Proof.Machine.execStartWhiteCapture dt m s
  | .startDarkWhiteCapture dt m => Sys2Proof.Machine.execStartDarkWhiteCapture dt m s
  | .captureLineCycle dt => Sys2Proof.Machine.execCaptureLineCycle dt s
  | .captureBaseDone dt => Sys2Proof.Machine.execCaptureBaseDone dt s
  | .captureSettleDone dt => Sys2Proof.Machine.execCaptureSettleDone dt s
  | .captureAveragingDone dt => Sys2Proof.Machine.execCaptureAveragingDone dt s
  | .captureLampGrant dt => Sys2Proof.Machine.execCaptureLampGrant dt s
  | .captureLampGrantTimeout dt => Sys2Proof.Machine.execCaptureLampGrantTimeout dt s
  | .captureComputeDone dt => Sys2Proof.Machine.execCaptureComputeDone dt s
  | .abortCapture dt m => Sys2Proof.Machine.execAbortCapture dt m s
  | .startMeasurement dt m k => Sys2Proof.Machine.execStartMeasurement dt m k s
  | .measurementPhaseDone dt => Sys2Proof.Machine.execMeasurementPhaseDone dt s
  | .measurementComplete dt => Sys2Proof.Machine.execMeasurementComplete dt s
  | .abortMeasurement dt m => Sys2Proof.Machine.execAbortMeasurement dt m s
  | .importCapturePlane dt m v => Sys2Proof.Machine.execImportCapturePlane dt m v s
  | .importComplete dt => Sys2Proof.Machine.execImportComplete dt s
  | .basisNorWriteDone dt k => Sys2Proof.Machine.execBasisNorWriteDone dt k s
  | .basisSetLoadDone dt k good => Sys2Proof.Machine.execBasisSetLoadDone dt k good s
  | .armSwitch dt m => Sys2Proof.Machine.execArmSwitch dt m s
  | .disarmSwitch dt m => Sys2Proof.Machine.execDisarmSwitch dt m s
  | .switchNow dt m => Sys2Proof.Machine.execSwitchNow dt m s
  | .blendStart dt => Sys2Proof.Machine.execBlendStart dt s
  | .blendComplete dt => Sys2Proof.Machine.execBlendComplete dt s
  | .recipeSwitch dt => Sys2Proof.Machine.execRecipeSwitch dt s
  | .startupBuild dt => Sys2Proof.Machine.execStartupBuild dt s
  | .outputLineProduced dt bad => Sys2Proof.Machine.execOutputLineProduced dt bad s
  | .guylineWindowEnd dt => Sys2Proof.Machine.execGuylineWindowEnd dt s
  | .guylineSlewStep dt => Sys2Proof.Machine.execGuylineSlewStep dt s
  | .seamFreezeEnd dt => Sys2Proof.Machine.execSeamFreezeEnd dt s
  | .resetEstimates dt m => Sys2Proof.Machine.execResetEstimates dt m s
  | .encoderEdge dt a b => Sys2Proof.Machine.execEncoderEdge dt a b s
  | .illegalRunEnd dt => Sys2Proof.Machine.execIllegalRunEnd dt s
  | .encoderZEdge dt => Sys2Proof.Machine.execEncoderZEdge dt s
  | .zeroAtNextZ dt m => Sys2Proof.Machine.execZeroAtNextZ dt m s
  | .encoderLineOpen dt pair => Sys2Proof.Machine.execEncoderLineOpen dt pair s
  | .encoderLineRestored dt pair => Sys2Proof.Machine.execEncoderLineRestored dt pair s
  | .pressSpeedMismatch dt => Sys2Proof.Machine.execPressSpeedMismatch dt s
  | .pressOverspeed dt => Sys2Proof.Machine.execPressOverspeed dt s
  | .transportStopTimeout dt => Sys2Proof.Machine.execTransportStopTimeout dt s
  | .pacedGeneratorTrigger dt => Sys2Proof.Machine.execPacedGeneratorTrigger dt s
  | .profileUpdate dt => Sys2Proof.Machine.execProfileUpdate dt s
  | .pacingPeriod dt => Sys2Proof.Machine.execPacingPeriod dt s
  | .decelerationDone dt => Sys2Proof.Machine.execDecelerationDone dt s
  | .backingDone dt => Sys2Proof.Machine.execBackingDone dt s
  | .motorFault dt => Sys2Proof.Machine.execMotorFault dt s
  | .motorEnableHoldExpiry dt => Sys2Proof.Machine.execMotorEnableHoldExpiry dt s
  | .casbyPortLock dt inverted => Sys2Proof.Machine.execCasbyPortLock dt inverted s
  | .casbyPairSwapTry dt => Sys2Proof.Machine.execCasbyPairSwapTry dt s
  | .casbyElectionStart dt => Sys2Proof.Machine.execCasbyElectionStart dt s
  | .casbyElectionSend dt => Sys2Proof.Machine.execCasbyElectionSend dt s
  | .casbyElectionFrame dt symbols bs => Sys2Proof.Machine.execCasbyElectionFrame dt symbols bs s
  | .casbyTimeSend dt => Sys2Proof.Machine.execCasbyTimeSend dt s
  | .casbyTimeFrame dt symbols bs => Sys2Proof.Machine.execCasbyTimeFrame dt symbols bs s
  | .casbyTriggerFrame dt symbols bs => Sys2Proof.Machine.execCasbyTriggerFrame dt symbols bs s
  | .casbyJobSwitchFrame dt symbols bs => Sys2Proof.Machine.execCasbyJobSwitchFrame dt symbols bs s
  | .casbyActivationFrame dt symbols bs => Sys2Proof.Machine.execCasbyActivationFrame dt symbols bs s
  | .casbyHeartbeatSend dt => Sys2Proof.Machine.execCasbyHeartbeatSend dt s
  | .casbyHeartbeatFrame dt symbols bs => Sys2Proof.Machine.execCasbyHeartbeatFrame dt symbols bs s
  | .casbyRingOpen dt => Sys2Proof.Machine.execCasbyRingOpen dt s
  | .casbyPeerLost dt p => Sys2Proof.Machine.execCasbyPeerLost dt p s
  | .sendJobSwitch dt m job => Sys2Proof.Machine.execSendJobSwitch dt m job s
  | .clearPeaks dt m => Sys2Proof.Machine.execClearPeaks dt m s
  | .clearChannelBits dt m => Sys2Proof.Machine.execClearChannelBits dt m s
  | .egressSpaceFreed dt k => Sys2Proof.Machine.execEgressSpaceFreed dt k s
  | .packetTransmitEnd dt n parityBad => Sys2Proof.Machine.execPacketTransmitEnd dt n parityBad s
  | .flushImageLines dt m k => Sys2Proof.Machine.execFlushImageLines dt m k s
  | .flushStatistics dt m k => Sys2Proof.Machine.execFlushStatistics dt m k s
  | .flushComplete dt k => Sys2Proof.Machine.execFlushComplete dt k s
  | .doorbell dt m k r => Sys2Proof.Machine.execDoorbell dt m k r s
  | .chainComplete dt k r => Sys2Proof.Machine.execChainComplete dt k r s
  | .stopRing dt m k r => Sys2Proof.Machine.execStopRing dt m k r s
  | .resetHead dt m k r => Sys2Proof.Machine.execResetHead dt m k r s
  | .startCompatTransfer dt m => Sys2Proof.Machine.execStartCompatTransfer dt m s
  | .stopCompatTransfer dt m => Sys2Proof.Machine.execStopCompatTransfer dt m s
  | .compatTransferComplete dt => Sys2Proof.Machine.execCompatTransferComplete dt s
  | .discoveryRequest dt n => Sys2Proof.Machine.execDiscoveryRequest dt n s
  | .connectionConfig dt n speed count => Sys2Proof.Machine.execConnectionConfig dt n speed count s
  | .linkTrained dt n => Sys2Proof.Machine.execLinkTrained dt n s
  | .testModeWrite dt n on => Sys2Proof.Machine.execTestModeWrite dt n on s
  | .linkWakeByCommand dt n => Sys2Proof.Machine.execLinkWakeByCommand dt n s
  | .linkResuspend dt n => Sys2Proof.Machine.execLinkResuspend dt n s
  | .triggerPacket dt n rising delay => Sys2Proof.Machine.execTriggerPacket dt n rising delay s
  | .linkLoss dt n => Sys2Proof.Machine.execLinkLoss dt n s
  | .linkReturn dt n => Sys2Proof.Machine.execLinkReturn dt n s
  | .uplinkPacketError dt n => Sys2Proof.Machine.execUplinkPacketError dt n s
  | .stringCheck dt n current volts => Sys2Proof.Machine.execStringCheck dt n current volts s
  | .lampOvercurrent dt n => Sys2Proof.Machine.execLampOvercurrent dt n s
  | .clearGroup dt m j => Sys2Proof.Machine.execClearGroup dt m j s
  | .bulkFloorReached dt => Sys2Proof.Machine.execBulkFloorReached dt s
  | .bulkFloorClear dt vb => Sys2Proof.Machine.execBulkFloorClear dt vb s
  | .lampPowerReport dt vb out => Sys2Proof.Machine.execLampPowerReport dt vb out s
  | .lanternFrame dt differs => Sys2Proof.Machine.execLanternFrame dt differs s
  | .lanternProbeNow dt m => Sys2Proof.Machine.execLanternProbeNow dt m s
  | .lanternPeriodicProbe dt => Sys2Proof.Machine.execLanternPeriodicProbe dt s
  | .lanternProbeComplete dt count => Sys2Proof.Machine.execLanternProbeComplete dt count s
  | .lanternOutputShort dt => Sys2Proof.Machine.execLanternOutputShort dt s
  | .lanternShortRetry dt => Sys2Proof.Machine.execLanternShortRetry dt s
  | .lanternEngineStart dt m e => Sys2Proof.Machine.execLanternEngineStart dt m e s
  | .lanternEngineStop dt m e => Sys2Proof.Machine.execLanternEngineStop dt m e s
  | .lanternEngineRunEnd dt e => Sys2Proof.Machine.execLanternEngineRunEnd dt e s
  | .locateTargetWrite dt m e px => Sys2Proof.Machine.execLocateTargetWrite dt m e px s
  | .auxPassStart dt => Sys2Proof.Machine.execAuxPassStart dt s
  | .auxSoftwareTrigger dt m => Sys2Proof.Machine.execAuxSoftwareTrigger dt m s
  | .auxPeriodicTrigger dt => Sys2Proof.Machine.execAuxPeriodicTrigger dt s
  | .auxUrgentRequest dt m mask => Sys2Proof.Machine.execAuxUrgentRequest dt m mask s
  | .auxVisitStart dt => Sys2Proof.Machine.execAuxVisitStart dt s
  | .auxVisitEnd dt raw extreme excFault openFail held power refa => Sys2Proof.Machine.execAuxVisitEnd dt raw extreme excFault openFail held power refa s
  | .auxExcitationRetry dt q => Sys2Proof.Machine.execAuxExcitationRetry dt q s
  | .blankStuck dt => Sys2Proof.Machine.execBlankStuck dt s
  | .bivouacConversion dt raw extreme excFault openFail => Sys2Proof.Machine.execBivouacConversion dt raw extreme excFault openFail s
  | .aoStale dt a => Sys2Proof.Machine.execAoStale dt a s
  | .aoShort dt a => Sys2Proof.Machine.execAoShort dt a s
  | .aoShortRetry dt a holds => Sys2Proof.Machine.execAoShortRetry dt a holds s
  | .refaOutOfRange dt => Sys2Proof.Machine.execRefaOutOfRange dt s
  | .refaRestored dt => Sys2Proof.Machine.execRefaRestored dt s
  | .connectionPresent dt n => Sys2Proof.Machine.execConnectionPresent dt n s
  | .connectionEnable dt => Sys2Proof.Machine.execConnectionEnable dt s
  | .connectionAdmissionCheck dt n current => Sys2Proof.Machine.execConnectionAdmissionCheck dt n current s
  | .connectionShedRetry dt n => Sys2Proof.Machine.execConnectionShedRetry dt n s
  | .connectionOverload dt n current => Sys2Proof.Machine.execConnectionOverload dt n current s
  | .connectionShed dt n current => Sys2Proof.Machine.execConnectionShed dt n current s
  | .connectionPowerRemoved dt n present => Sys2Proof.Machine.execConnectionPowerRemoved dt n present s
  | .connectionSenseFault dt n => Sys2Proof.Machine.execConnectionSenseFault dt n s
  | .admissionEnableWrite dt m n v => Sys2Proof.Machine.execAdmissionEnableWrite dt m n v s
  | .vauxReversed dt => Sys2Proof.Machine.execVauxReversed dt s
  | .vauxOutOfRange dt mv => Sys2Proof.Machine.execVauxOutOfRange dt mv s
  | .vauxQualified dt => Sys2Proof.Machine.execVauxQualified dt s
  | .canteenTick dt vb currents dies invalid => Sys2Proof.Machine.execCanteenTick dt vb currents dies invalid s
  | .grantRestoreHoldExpiry dt => Sys2Proof.Machine.execGrantRestoreHoldExpiry dt s
  | .lampGrantWithdrawn dt => Sys2Proof.Machine.execLampGrantWithdrawn dt s
  | .consumptionAboveBudget dt => Sys2Proof.Machine.execConsumptionAboveBudget dt s
  | .thermalBivouacRequest dt => Sys2Proof.Machine.execThermalBivouacRequest dt s
  | .requestTrim dt m mask => Sys2Proof.Machine.execRequestTrim dt m mask s
  | .selfTrimStart dt => Sys2Proof.Machine.execSelfTrimStart dt s
  | .selfTrimEnd dt bad => Sys2Proof.Machine.execSelfTrimEnd dt bad s
  | .selfTrimAbandoned dt => Sys2Proof.Machine.execSelfTrimAbandoned dt s
  | .selfTrimRetry dt k => Sys2Proof.Machine.execSelfTrimRetry dt k s
  | .trimRecordWritten dt k ok => Sys2Proof.Machine.execTrimRecordWritten dt k ok s
  | .updateBlockZero dt m w bs => Sys2Proof.Machine.execUpdateBlockZero dt m w bs s
  | .updateBlock dt m w a bs => Sys2Proof.Machine.execUpdateBlock dt m w a bs s
  | .updateBlocksJournaled dt ok => Sys2Proof.Machine.execUpdateBlocksJournaled dt ok s
  | .updateSessionSilence dt => Sys2Proof.Machine.execUpdateSessionSilence dt s
  | .abortUpdate dt m => Sys2Proof.Machine.execAbortUpdate dt m s
  | .updateApplyComplete dt ok => Sys2Proof.Machine.execUpdateApplyComplete dt ok s
  | .updateVerifyComplete dt manifest ok => Sys2Proof.Machine.execUpdateVerifyComplete dt manifest ok s
  | .scheduleActivationLocal dt m => Sys2Proof.Machine.execScheduleActivationLocal dt m s
  | .scheduleActivationCasby dt m => Sys2Proof.Machine.execScheduleActivationCasby dt m s
  | .cancelSchedule dt m => Sys2Proof.Machine.execCancelSchedule dt m s
  | .activationTimeReached dt => Sys2Proof.Machine.execActivationTimeReached dt s
  | .deferredActivationIdle dt => Sys2Proof.Machine.execDeferredActivationIdle dt s
  | .activationExpired dt => Sys2Proof.Machine.execActivationExpired dt s
  | .bankSwitch dt => Sys2Proof.Machine.execBankSwitch dt s
  | .migrationFallback dt => Sys2Proof.Machine.execMigrationFallback dt s
  | .acceptDefaults dt m => Sys2Proof.Machine.execAcceptDefaults dt m s
  | .discardQuarantine dt m => Sys2Proof.Machine.execDiscardQuarantine dt m s
  | .bootstrapImageWrite dt bs manifest ok => Sys2Proof.Machine.execBootstrapImageWrite dt bs manifest ok s
  | .eventStamp dt => Sys2Proof.Machine.execEventStamp dt s
  | .emergencySend dt => Sys2Proof.Machine.execEmergencySend dt s
  | .archiveCopy dt => Sys2Proof.Machine.execArchiveCopy dt s
  | .latchClear dt m k => Sys2Proof.Machine.execLatchClear dt m k s
  | .clearLatchesByClass dt m mask => Sys2Proof.Machine.execClearLatchesByClass dt m mask s
  | .raiseHostEvent dt m v => Sys2Proof.Machine.execRaiseHostEvent dt m v s
  | .gpPulseEnd dt p => Sys2Proof.Machine.execGpPulseEnd dt p s
  | .tgOutputShort dt g => Sys2Proof.Machine.execTgOutputShort dt g s
  | .tgOutputRetry dt g matched => Sys2Proof.Machine.execTgOutputRetry dt g matched s
  | .senseFaultCleared dt n present => Sys2Proof.Machine.execSenseFaultCleared dt n present s
  | .connectionPresenceLost dt n => Sys2Proof.Machine.execConnectionPresenceLost dt n s
  | .auxiliaryInputQualifying dt mv => Sys2Proof.Machine.execAuxiliaryInputQualifying dt mv s
  | .lossOfPower dt written => Sys2Proof.Machine.execLossOfPower dt written s
  | .ringMemoryWrite dt n addr w => Sys2Proof.Machine.execRingMemoryWrite dt n addr w s
  | .streamPacketSizeWrite dt n size => Sys2Proof.Machine.execStreamPacketSizeWrite dt n size s
  | .recipeNorWriteDone dt r => Sys2Proof.Machine.execRecipeNorWriteDone dt r s
  | .blankInputReleased dt => Sys2Proof.Machine.execBlankInputReleased dt s
  | .encoderStatusClear dt => Sys2Proof.Machine.execEncoderStatusClear dt s
  | .activationFrameRepeat dt => Sys2Proof.Machine.execActivationFrameRepeat dt s

end Sys2Proof.Machine
end

