-- ==== Sys2Proof/Safety.lean ====
section
/-!
DEFINITION. What a state of the block keeps at every step: the two sparse stores in canonical form, and the bounds and orders that
the spec gives the event arbiter, the logs, the emergency queue and the clamp report. And the frames that the statements speak in:
which parts of the state stay, which entries stay, and what answering an access leaves alone.
-/
namespace Sys2Proof.Machine

/-- The dictionary's canonical form: keys strictly rising, no entry listed at its default, every listed value in its type's
range. -/
abbrev DictFormed (d : List (Nat × Int)) : Prop :=
  d.Pairwise (fun a b => a.1 < b.1) ∧ ∀ p ∈ d, p.2 ≠ keyDflt p.1 ∧ (keyTy p.1).wrap p.2 = p.2

/-- R437: the pending presentations stand in strictly ascending source order, one per source. -/
abbrev PresentsOrdered (l : List Present) : Prop := l.Pairwise (fun a b => a.src < b.src)

/-- R440, R443: no two entries of a log of `n` positions share a position. -/
abbrev LogPlaced (n : Nat) (l : List LogRec) : Prop := l.Pairwise (fun a b => a.seq % n ≠ b.seq % n)

/-- What every step keeps. -/
abbrev State.Sound (s : State) : Prop :=
  DictFormed s.dict ∧ Memory.wf s.dma.ringMem = true ∧ PresentsOrdered s.ev.pres ∧ s.ev.emergencies.length ≤ 32 ∧
    LogPlaced 4096 s.ev.log ∧ LogPlaced 524288 s.ev.archive ∧ s.door.clamps.length ≤ 256

/-- The parts of the state that the frames speak of: each chapter's part of State, and some parts of those. -/
inductive Part
  | now | compassOff | dict | dev | door | ev | pow | tim | que | dma | lnk | fe
  | sh | rcp | lamp | can | lan | aux | upd | trm | rdg | trn | csb
  | ringMem | log | archive | fatal | ec | slots | lines | egress | service | shBanks | basis
  deriving DecidableEq, Repr

/-- A part is in `t` what it is in `s`. -/
def Part.Same (p : Part) (s t : State) : Prop :=
  match p with
  | .now => t.now = s.now
  | .compassOff => t.compassOff = s.compassOff
  | .dict => t.dict = s.dict
  | .dev => t.dev = s.dev
  | .door => t.door = s.door
  | .ev => t.ev = s.ev
  | .pow => t.pow = s.pow
  | .tim => t.tim = s.tim
  | .que => t.que = s.que
  | .dma => t.dma = s.dma
  | .lnk => t.lnk = s.lnk
  | .fe => t.fe = s.fe
  | .sh => t.sh = s.sh
  | .rcp => t.rcp = s.rcp
  | .lamp => t.lamp = s.lamp
  | .can => t.can = s.can
  | .lan => t.lan = s.lan
  | .aux => t.aux = s.aux
  | .upd => t.upd = s.upd
  | .trm => t.trm = s.trm
  | .rdg => t.rdg = s.rdg
  | .trn => t.trn = s.trn
  | .csb => t.csb = s.csb
  | .ringMem => t.dma.ringMem = s.dma.ringMem
  | .log => t.ev.log = s.ev.log
  | .archive => t.ev.archive = s.ev.archive
  | .fatal => t.ev.fatal = s.ev.fatal
  | .ec => t.door.ec = s.door.ec
  | .slots => t.door.slots = s.door.slots
  | .lines => t.que.lines = s.que.lines
  | .egress => t.que.egress = s.que.egress
  | .service => t.tim.service = s.tim.service
  | .shBanks => t.sh.banks = s.sh.banks
  | .basis => t.rcp.basis = s.rcp.basis

/-- Every entry outside `P` reads in `t` as it did in `s`. -/
def Touch (P : Nat → Nat → Prop) (s t : State) : Prop := ∀ i j : Nat, j < 256 → ¬ P i j → t.rd i j = s.rd i j

/-- The state in which a command finds the block: its time has passed, and the triggers whose execution time has come have acted
(R217). -/
def State.arrive (s : State) (dt : Nat) : State := (s.pass dt).settleAhead

/-- The entries that answering an access of master `m` may write: the access counters and the master's last result (R39, R42), over
CoaXPress also the state of a link that wakes (R273), the counts and the peak of its home cluster's egress queue and the level
event of that queue (R238). -/
def answerEntry (m i j : Nat) : Prop :=
  (i = 0x2010 ∧ 2 ≤ j ∧ j ≤ 4) ∨ (i = 0x2014 ∧ j = m + 1) ∨
    (m ≠ 0 ∧ ((i = 0x5800 + (m - 1) ∧ j = 1) ∨ (i = 0x5610 + (m - 1) / 2 ∧ (j = 8 ∨ j = 0x10)) ∨
      (i = 0x2800 + (272 + (m - 1) / 2) ∧ (j = 8 ∨ j = 0xB ∨ j = 0xC))))

/-- `t` differs from `s` at most by what answering an access of master `m` touches: the entries above, that master's own reply, the
egress queues and links through which the reply leaves, a level event presented. -/
def State.Aside (m : Nat) (s t : State) : Prop :=
  t = { s with
    dict := t.dict
    ev := { s.ev with pres := t.ev.pres }
    door := { s.door with masters := t.door.masters }
    que := { s.que with egress := t.que.egress }
    lnk := t.lnk } ∧
  Touch (answerEntry m) s t ∧
  (∀ k, k ≠ m → t.master k = s.master k)

end Sys2Proof.Machine

namespace Sys2Proof
open Machine

/-- The state that a command finds: its time has passed, and where the command is one of those that the executed triggers matter to,
they have acted. -/
def Instr.found (c : Instr) (s : State) : State :=
  match c with
  | .requestBivouac dt _ | .requestStandby dt _ | .requestScanning dt _ | .requestPaused dt _ | .stateChangeAtLineBoundary dt
  | .bivouacIdleTimeout dt | .fatalClassStop dt | .bivouacEntryComplete dt | .wakeComplete dt | .registerWrite dt _ _
  | .completeAccessRead dt _ _ | .completeAccessWrite dt _ _ _ | .wideLowWordRead dt _ _ | .wideHighWordRead dt _ _
  | .wideLowWordWrite dt _ _ _ | .wideHighWordWrite dt _ _ _ | .resultStatusRead dt _ _ | .rxpdoCommit dt _ _ _ _ | .sync0Event dt _
  | .pdoWatchdogExpiry dt | .exposureCycleStart dt _ | .exposureCycleEnd dt _ | .encoderEdge dt _ _ | .encoderZEdge dt
  | .encoderLineOpen dt _ | .encoderLineRestored dt _ | .transportStopTimeout dt | .pacedGeneratorTrigger dt | .profileUpdate dt
  | .pacingPeriod dt | .decelerationDone dt | .backingDone dt | .motorFault dt | .casbyPortLock dt _ | .casbyPairSwapTry dt
  | .casbyElectionStart dt | .casbyElectionSend dt | .casbyElectionFrame dt _ _ | .casbyTimeSend dt | .casbyTimeFrame dt _ _
  | .casbyTriggerFrame dt _ _ | .casbyJobSwitchFrame dt _ _ | .casbyActivationFrame dt _ _ | .casbyHeartbeatSend dt
  | .casbyHeartbeatFrame dt _ _ | .casbyRingOpen dt | .casbyPeerLost dt _ | .packetTransmitEnd dt _ _ | .flushComplete dt _
  | .discoveryRequest dt _ | .connectionConfig dt _ _ _ | .linkTrained dt _ | .testModeWrite dt _ _ | .linkWakeByCommand dt _
  | .linkResuspend dt _ | .triggerPacket dt _ _ _ | .linkLoss dt _ | .linkReturn dt _ | .uplinkPacketError dt _
  | .stringCheck dt _ _ _ | .lampOvercurrent dt _ | .bulkFloorReached dt | .bulkFloorClear dt _ | .lampPowerReport dt _ _
  | .canteenTick dt _ _ _ _ | .lampGrantWithdrawn dt | .thermalBivouacRequest dt | .selfTrimStart dt | .selfTrimEnd dt _
  | .activationTimeReached dt | .deferredActivationIdle dt | .streamPacketSizeWrite dt _ _ => s.arrive dt
  | .coldStart dt | .nreset dt _ _ | .watchdogRestart dt _ | .powerOnFilterRelease dt _ _ | .railStepPowerGood dt | .railFault dt _ _
  | .coreRelease dt | .ethercatPortsOpen dt | .bootResponderStart dt _ | .bankSelect dt _ _ _ | .subprocessorReload dt _ _ | .ready dt
  | .controlWaitAck dt _ | .saveUserImage dt _ | .saveComplete dt _ _ | .discardUserImage dt _ | .clearClampReport dt _
  | .openReadWindow dt _ _ | .openWriteWindow dt _ _ | .closeWindow dt _ _ | .windowDataRead dt _ _ _ _ | .windowDataWrite dt _ _ _ _
  | .windowTimeout dt _ | .ethercatStateRequest dt _ | .mailboxUnsupported dt _ | .foeWriteRequest dt _ _ | .foeReadRequest dt _
  | .softwareTrigger dt _ | .serviceRequestOut dt _ _ | .serviceRequestReturn dt _ _ | .channelLeavesService dt _
  | .channelReentry dt _ | .warmingEnd dt _ | .channelLineStart dt _ _ | .blackPixelsEnd dt _ _ | .channelSignalLost dt _
  | .signalAutoRecovery dt _ | .channelLineEnd dt _ _ | .blackLevelResult dt _ | .thermistorStale dt _ | .swapRequest dt _
  | .copyActiveToShadow dt _ | .copyComplete dt | .clearShadow dt _ | .setActivePlaneScale dt _ _ _ | .startDarkCapture dt _
  | .startWhiteCapture dt _ | .startDarkWhiteCapture dt _ | .captureLineCycle dt | .captureBaseDone dt | .captureSettleDone dt
  | .captureAveragingDone dt | .captureLampGrant dt | .captureLampGrantTimeout dt | .captureComputeDone dt | .abortCapture dt _
  | .startMeasurement dt _ _ | .measurementPhaseDone dt | .measurementComplete dt | .abortMeasurement dt _
  | .importCapturePlane dt _ _ | .importComplete dt | .basisNorWriteDone dt _ | .basisSetLoadDone dt _ _ | .armSwitch dt _
  | .disarmSwitch dt _ | .switchNow dt _ | .blendStart dt | .blendComplete dt | .recipeSwitch dt | .startupBuild dt
  | .outputLineProduced dt _ | .guylineWindowEnd dt | .guylineSlewStep dt | .seamFreezeEnd dt | .resetEstimates dt _
  | .illegalRunEnd dt | .zeroAtNextZ dt _ | .pressSpeedMismatch dt | .pressOverspeed dt | .motorEnableHoldExpiry dt
  | .sendJobSwitch dt _ _ | .clearPeaks dt _ | .clearChannelBits dt _ | .egressSpaceFreed dt _ | .flushImageLines dt _ _
  | .flushStatistics dt _ _ | .doorbell dt _ _ _ | .chainComplete dt _ _ | .stopRing dt _ _ _ | .resetHead dt _ _ _
  | .startCompatTransfer dt _ | .stopCompatTransfer dt _ | .compatTransferComplete dt | .clearGroup dt _ _ | .lanternFrame dt _
  | .lanternProbeNow dt _ | .lanternPeriodicProbe dt | .lanternProbeComplete dt _ | .lanternOutputShort dt | .lanternShortRetry dt
  | .lanternEngineStart dt _ _ | .lanternEngineStop dt _ _ | .lanternEngineRunEnd dt _ | .locateTargetWrite dt _ _ _
  | .auxPassStart dt | .auxSoftwareTrigger dt _ | .auxPeriodicTrigger dt | .auxUrgentRequest dt _ _ | .auxVisitStart dt
  | .auxVisitEnd dt _ _ _ _ _ _ _ | .auxExcitationRetry dt _ | .blankStuck dt | .bivouacConversion dt _ _ _ _ | .aoStale dt _
  | .aoShort dt _ | .aoShortRetry dt _ _ | .refaOutOfRange dt | .refaRestored dt | .connectionPresent dt _ | .connectionEnable dt
  | .connectionAdmissionCheck dt _ _ | .connectionShedRetry dt _ | .connectionOverload dt _ _ | .connectionShed dt _ _
  | .connectionPowerRemoved dt _ _ | .connectionSenseFault dt _ | .admissionEnableWrite dt _ _ _ | .vauxReversed dt
  | .vauxOutOfRange dt _ | .vauxQualified dt | .grantRestoreHoldExpiry dt | .consumptionAboveBudget dt | .requestTrim dt _ _
  | .selfTrimAbandoned dt | .selfTrimRetry dt _ | .trimRecordWritten dt _ _ | .updateBlockZero dt _ _ _ | .updateBlock dt _ _ _ _
  | .updateBlocksJournaled dt _ | .updateSessionSilence dt | .abortUpdate dt _ | .updateApplyComplete dt _
  | .updateVerifyComplete dt _ _ | .scheduleActivationLocal dt _ | .scheduleActivationCasby dt _ | .cancelSchedule dt _
  | .activationExpired dt | .bankSwitch dt | .migrationFallback dt | .acceptDefaults dt _ | .discardQuarantine dt _
  | .bootstrapImageWrite dt _ _ _ | .eventStamp dt | .emergencySend dt | .archiveCopy dt | .latchClear dt _ _
  | .clearLatchesByClass dt _ _ | .raiseHostEvent dt _ _ | .gpPulseEnd dt _ | .tgOutputShort dt _ | .tgOutputRetry dt _ _
  | .senseFaultCleared dt _ _ | .connectionPresenceLost dt _ | .auxiliaryInputQualifying dt _ | .lossOfPower dt _
  | .ringMemoryWrite dt _ _ _ | .recipeNorWriteDone dt _ | .blankInputReleased dt | .encoderStatusClear dt | .activationFrameRepeat dt => s.pass dt

/-- The parts of the state that each command may change beyond what it finds; every other part stays. -/
def Instr.mayChange (c : Instr) : List Part :=
  match c with
  | .requestBivouac _ _ => [.dict, .dev, .door, .ev, .pow, .tim, .que, .dma, .lnk, .fe, .sh, .lamp, .can, .lan, .aux, .trm, .rdg,
      .trn, .csb, .ringMem, .lines, .egress]
  | .requestStandby _ _ => [.dict, .dev, .door, .ev, .pow, .tim, .que, .dma, .lnk, .fe, .sh, .lamp, .can, .lan, .aux, .trm, .rdg,
      .trn, .csb, .ringMem, .lines, .egress]
  | .requestScanning _ _ => [.dict, .dev, .door, .ev, .pow, .tim, .que, .dma, .lnk, .fe, .sh, .lamp, .can, .lan, .aux, .trm, .rdg,
      .trn, .csb, .ringMem, .lines, .egress]
  | .requestPaused _ _ => [.dict, .dev, .door, .ev, .pow, .tim, .que, .dma, .lnk, .fe, .sh, .lamp, .can, .lan, .aux, .trm, .rdg,
      .trn, .csb, .ringMem, .lines, .egress]
  | .stateChangeAtLineBoundary _ => [.dict, .dev, .door, .ev, .tim, .que, .dma, .lnk, .sh, .rcp, .lamp, .can, .lan, .aux, .upd, .trm,
      .rdg, .trn, .csb, .ringMem, .lines, .egress]
  | .bivouacIdleTimeout _ => [.dict, .dev, .can, .lan, .aux, .trm]
  | .fatalClassStop _ => [.dict, .dev, .door, .ev, .tim, .que, .dma, .lnk, .fe, .sh, .rcp, .lamp, .can, .aux, .upd, .trm, .rdg, .trn,
      .csb, .ringMem, .fatal, .lines, .egress]
  | .bivouacEntryComplete _ => [.dict, .dev, .ev, .pow, .tim, .que, .dma, .lnk, .fe, .sh, .can, .aux, .trm, .trn, .csb, .lines,
      .egress, .service]
  | .wakeComplete _ => [.dict, .dev, .door, .ev, .tim, .que, .dma, .lnk, .fe, .sh, .rcp, .lamp, .can, .lan, .aux, .trm, .rdg, .trn,
      .csb, .ringMem, .lines, .egress]
  | .coldStart _ => [.now, .compassOff, .dict, .dev, .door, .ev, .pow, .tim, .que, .dma, .lnk, .fe, .sh, .rcp, .lamp, .can, .lan,
      .aux, .upd, .trm, .rdg, .trn, .csb, .ringMem, .log, .archive, .fatal, .ec, .slots, .lines, .egress, .service, .shBanks, .basis]
  | .nreset _ _ _ => [.now, .compassOff, .dict, .dev, .door, .ev, .pow, .tim, .que, .dma, .lnk, .fe, .sh, .rcp, .lamp, .can, .lan,
      .aux, .upd, .trm, .rdg, .trn, .csb, .ringMem, .log, .archive, .fatal, .ec, .slots, .lines, .egress, .service, .shBanks, .basis]
  | .watchdogRestart _ _ => [.now, .compassOff, .dict, .dev, .door, .ev, .pow, .tim, .que, .dma, .lnk, .fe, .sh, .rcp, .lamp, .can,
      .lan, .aux, .upd, .trm, .rdg, .trn, .csb, .ringMem, .log, .archive, .fatal, .ec, .slots, .lines, .egress, .service, .shBanks,
      .basis]
  | .powerOnFilterRelease _ _ _ => [.dict, .pow]
  | .railStepPowerGood _ => [.dict, .pow]
  | .railFault _ _ _ => [.now, .compassOff, .dict, .dev, .door, .ev, .pow, .tim, .que, .dma, .lnk, .fe, .sh, .rcp, .lamp, .can, .lan,
      .aux, .upd, .trm, .rdg, .trn, .csb, .ringMem, .log, .archive, .fatal, .ec, .slots, .lines, .egress, .service, .shBanks, .basis]
  | .coreRelease _ => [.pow]
  | .ethercatPortsOpen _ => [.pow, .trn]
  | .bootResponderStart _ _ => [.dict, .pow, .lnk]
  | .bankSelect _ _ _ _ => [.dict, .door, .ev, .pow, .upd, .ec, .slots]
  | .subprocessorReload _ _ _ => [.now, .compassOff, .dict, .dev, .door, .ev, .pow, .tim, .que, .dma, .lnk, .fe, .sh, .rcp, .lamp,
      .can, .lan, .aux, .upd, .trm, .rdg, .trn, .csb, .ringMem, .log, .archive, .fatal, .ec, .slots, .lines, .egress, .service,
      .shBanks, .basis]
  | .ready _ => [.dict, .dev, .door, .ev, .pow, .tim, .que, .lnk, .can, .aux, .upd, .trm, .log, .fatal, .ec, .slots, .egress, .service]
  | .registerWrite _ _ _ => [.dict, .dev, .door, .ev, .pow, .tim, .que, .dma, .lnk, .fe, .sh, .rcp, .lamp, .can, .lan, .aux, .upd,
      .trm, .rdg, .trn, .csb, .ringMem, .lines, .egress, .service, .shBanks, .basis]
  | .completeAccessRead _ _ _ => [.dict, .door, .ev, .que, .lnk, .egress]
  | .completeAccessWrite _ _ _ _ => [.dict, .dev, .door, .ev, .pow, .tim, .que, .dma, .lnk, .fe, .sh, .rcp, .lamp, .can, .lan, .aux,
      .upd, .trm, .rdg, .trn, .csb, .ringMem, .lines, .egress, .service, .shBanks, .basis]
  | .wideLowWordRead _ _ _ => [.dict, .door, .ev, .que, .lnk, .egress]
  | .wideHighWordRead _ _ _ => [.dict, .door, .ev, .que, .lnk, .egress]
  | .wideLowWordWrite _ _ _ _ => [.dict, .door, .ev, .que, .lnk, .egress]
  | .wideHighWordWrite _ _ _ _ => [.dict, .dev, .door, .ev, .pow, .tim, .que, .dma, .lnk, .fe, .sh, .rcp, .lamp, .can, .lan, .aux,
      .upd, .trm, .rdg, .trn, .csb, .ringMem, .lines, .egress, .service, .shBanks, .basis]
  | .resultStatusRead _ _ _ => [.dict, .door, .ev, .que, .lnk, .egress]
  | .controlWaitAck _ _ => [.door]
  | .saveUserImage _ _ => [.dict, .door, .ev, .que, .lnk, .egress]
  | .saveComplete _ _ _ => [.dict, .door, .slots]
  | .discardUserImage _ _ => [.dict, .door, .ev, .que, .lnk, .egress]
  | .clearClampReport _ _ => [.dict, .door, .ev, .que, .lnk, .egress]
  | .openReadWindow _ _ _ => [.dict, .door, .ev, .tim, .que, .lnk, .sh, .rcp, .lan, .egress, .shBanks, .basis]
  | .openWriteWindow _ _ _ => [.dict, .door, .ev, .tim, .que, .lnk, .sh, .rcp, .lan, .egress, .shBanks, .basis]
  | .closeWindow _ _ _ => [.dict, .door, .ev, .tim, .que, .lnk, .sh, .rcp, .lan, .egress, .shBanks, .basis]
  | .windowDataRead _ _ _ _ _ => [.dict, .door, .ev, .que, .lnk, .egress]
  | .windowDataWrite _ _ _ _ _ => [.dict, .door, .ev, .que, .dma, .lnk, .sh, .lan, .upd, .ringMem, .egress, .shBanks]
  | .windowTimeout _ _ => [.dict, .door, .ev]
  | .ethercatStateRequest _ _ => [.door, .rcp, .ec]
  | .rxpdoCommit _ _ _ _ _ => [.dict, .door, .ev, .rcp, .ec]
  | .sync0Event _ _ => [.compassOff, .dict, .door, .ev, .rcp, .csb, .ec]
  | .pdoWatchdogExpiry _ => [.dict, .door, .ev, .rcp, .ec]
  | .mailboxUnsupported _ _ => [.door, .ec]
  | .foeWriteRequest _ _ _ => [.dict, .door, .ev, .upd, .ec]
  | .foeReadRequest _ _ => [.door, .ec]
  | .softwareTrigger _ _ => [.dict, .door, .ev, .tim, .que, .lnk, .sh, .rcp, .trm, .trn, .csb, .egress]
  | .exposureCycleStart _ _ => [.dict, .ev, .tim, .fe, .sh, .rcp, .trm, .rdg, .service]
  | .exposureCycleEnd _ _ => [.dict, .ev, .tim, .fe, .sh, .rcp, .trm, .rdg, .service]
  | .serviceRequestOut _ _ _ => [.dict, .door, .ev, .tim, .que, .lnk, .egress, .service]
  | .serviceRequestReturn _ _ _ => [.dict, .door, .ev, .tim, .que, .lnk, .egress, .service]
  | .channelLeavesService _ _ => [.dict, .ev, .tim, .service]
  | .channelReentry _ _ => [.dict, .ev, .tim, .rdg, .service]
  | .warmingEnd _ _ => [.dict]
  | .channelLineStart _ _ _ => [.dict, .ev, .tim, .que, .fe, .sh, .rdg, .lines, .service, .shBanks]
  | .blackPixelsEnd _ _ _ => [.dict, .door, .ev, .tim, .fe, .service]
  | .channelSignalLost _ _ => [.dict, .tim, .service]
  | .signalAutoRecovery _ _ => [.dict, .tim, .fe, .service]
  | .channelLineEnd _ _ _ => [.dict, .ev, .que, .fe, .sh, .rcp, .lines]
  | .blackLevelResult _ _ => [.dict, .door, .fe]
  | .thermistorStale _ _ => [.dict, .ev, .tim, .sh, .rcp, .lamp, .rdg]
  | .swapRequest _ _ => [.dict, .door, .ev, .tim, .que, .lnk, .sh, .egress]
  | .copyActiveToShadow _ _ => [.dict, .door, .ev, .que, .lnk, .sh, .egress]
  | .copyComplete _ => [.dict, .sh, .shBanks]
  | .clearShadow _ _ => [.dict, .door, .ev, .que, .lnk, .sh, .egress, .shBanks]
  | .setActivePlaneScale _ _ _ _ => [.dict, .door, .ev, .que, .lnk, .sh, .egress, .shBanks]
  | .startDarkCapture _ _ => [.dict, .door, .ev, .tim, .que, .lnk, .fe, .sh, .egress]
  | .startWhiteCapture _ _ => [.dict, .door, .ev, .tim, .que, .lnk, .fe, .sh, .egress]
  | .startDarkWhiteCapture _ _ => [.dict, .door, .ev, .tim, .que, .lnk, .fe, .sh, .egress]
  | .captureLineCycle _ => [.dict, .dev, .door, .ev, .tim, .fe, .sh, .rcp, .can]
  | .captureBaseDone _ => [.dict, .sh, .can, .shBanks]
  | .captureSettleDone _ => [.sh, .rcp]
  | .captureAveragingDone _ => [.dict, .sh]
  | .captureLampGrant _ => [.dict, .sh, .rcp]
  | .captureLampGrantTimeout _ => [.dict, .dev, .door, .ev, .tim, .fe, .sh, .rcp, .can]
  | .captureComputeDone _ => [.dict, .dev, .door, .ev, .tim, .fe, .sh, .rcp, .can, .shBanks]
  | .abortCapture _ _ => [.dict, .dev, .door, .ev, .tim, .que, .lnk, .fe, .sh, .rcp, .can, .egress]
  | .startMeasurement _ _ _ => [.dict, .door, .ev, .tim, .que, .lnk, .fe, .sh, .rcp, .egress]
  | .measurementPhaseDone _ => [.dict, .rcp, .can]
  | .measurementComplete _ => [.dict, .dev, .door, .ev, .tim, .fe, .sh, .rcp, .can, .basis]
  | .abortMeasurement _ _ => [.dict, .dev, .door, .ev, .tim, .que, .lnk, .fe, .sh, .rcp, .can, .egress]
  | .importCapturePlane _ _ _ => [.dict, .door, .ev, .que, .lnk, .rcp, .egress]
  | .importComplete _ => [.dict, .rcp, .basis]
  | .basisNorWriteDone _ _ => [.dict, .rcp, .basis]
  | .basisSetLoadDone _ _ _ => [.dict, .ev, .rcp, .basis]
  | .armSwitch _ _ => [.dict, .door, .ev, .que, .lnk, .rcp, .can, .egress]
  | .disarmSwitch _ _ => [.dict, .door, .ev, .que, .lnk, .rcp, .egress]
  | .switchNow _ _ => [.dict, .door, .ev, .que, .lnk, .rcp, .egress]
  | .blendStart _ => [.dict, .rcp, .can]
  | .blendComplete _ => [.dict, .ev, .sh, .rcp, .shBanks]
  | .recipeSwitch _ => [.dict, .ev, .tim, .sh, .rcp, .trm]
  | .startupBuild _ => [.dict, .rcp, .can]
  | .outputLineProduced _ _ => [.dict, .door, .ev, .que, .dma, .lnk, .rcp, .rdg, .trn, .ringMem, .lines, .egress]
  | .guylineWindowEnd _ => [.dict, .door, .ev, .rdg]
  | .guylineSlewStep _ => [.rdg]
  | .seamFreezeEnd _ => [.rdg]
  | .resetEstimates _ _ => [.dict, .door, .ev, .que, .lnk, .rdg, .egress]
  | .encoderEdge _ _ _ => [.dict, .ev, .tim, .sh, .rcp, .trm, .trn, .csb]
  | .illegalRunEnd _ => [.trn]
  | .encoderZEdge _ => [.dict, .ev, .trn]
  | .zeroAtNextZ _ _ => [.dict, .door, .ev, .que, .lnk, .trn, .egress]
  | .encoderLineOpen _ _ => [.dict, .ev]
  | .encoderLineRestored _ _ => [.dict, .ev, .que, .dma, .lnk, .egress]
  | .pressSpeedMismatch _ => [.dict, .ev, .trn]
  | .pressOverspeed _ => [.dict, .ev, .trn]
  | .transportStopTimeout _ => [.trn]
  | .pacedGeneratorTrigger _ => [.dict, .ev, .tim, .sh, .rcp, .trm, .trn, .csb]
  | .profileUpdate _ => [.dict, .dev, .ev, .tim, .trn]
  | .pacingPeriod _ => [.dict, .tim, .trn]
  | .decelerationDone _ => [.dict, .door, .ev, .que, .dma, .lnk, .rcp, .rdg, .trn, .ringMem, .lines, .egress]
  | .backingDone _ => [.dict, .tim, .trn]
  | .motorFault _ => [.dict, .dev, .ev, .tim, .trn]
  | .motorEnableHoldExpiry _ => [.trn]
  | .casbyPortLock _ _ => [.dict, .ev, .csb]
  | .casbyPairSwapTry _ => [.csb]
  | .casbyElectionStart _ => [.dict, .csb]
  | .casbyElectionSend _ => [.csb]
  | .casbyElectionFrame _ _ _ => [.dict, .door, .ev, .csb]
  | .casbyTimeSend _ => [.dict, .ev, .trn, .csb]
  | .casbyTimeFrame _ _ _ => [.compassOff, .dict, .ev, .tim, .sh, .rcp, .trm, .trn, .csb]
  | .casbyTriggerFrame _ _ _ => [.dict, .ev, .tim, .sh, .rcp, .trm, .trn, .csb]
  | .casbyJobSwitchFrame _ _ _ => [.dict, .ev, .rcp]
  | .casbyActivationFrame _ _ _ => [.dict, .ev, .upd, .csb]
  | .casbyHeartbeatSend _ => [.csb]
  | .casbyHeartbeatFrame _ _ _ => [.dict, .ev, .csb]
  | .casbyRingOpen _ => [.dict, .ev]
  | .casbyPeerLost _ _ => [.dict, .ev, .csb]
  | .sendJobSwitch _ _ _ => [.dict, .door, .ev, .que, .lnk, .rcp, .csb, .egress]
  | .clearPeaks _ _ => [.dict, .door, .ev, .que, .lnk, .egress]
  | .clearChannelBits _ _ => [.dict, .door, .ev, .que, .lnk, .egress]
  | .egressSpaceFreed _ _ => [.dict, .ev, .que, .dma, .lnk, .egress]
  | .packetTransmitEnd _ _ _ => [.dict, .ev, .que, .dma, .lnk, .egress]
  | .flushImageLines _ _ _ => [.dict, .door, .ev, .que, .lnk, .egress]
  | .flushStatistics _ _ _ => [.dict, .door, .ev, .que, .lnk, .egress]
  | .flushComplete _ _ => [.dict, .ev, .que, .dma, .lnk, .egress]
  | .doorbell _ _ _ _ => [.dict, .door, .ev, .que, .dma, .lnk, .ringMem, .egress]
  | .chainComplete _ _ _ => [.dict, .ev, .dma, .ringMem]
  | .stopRing _ _ _ _ => [.dict, .door, .ev, .que, .dma, .lnk, .ringMem, .egress]
  | .resetHead _ _ _ _ => [.dict, .door, .ev, .que, .dma, .lnk, .egress]
  | .startCompatTransfer _ _ => [.dict, .door, .ev, .que, .dma, .lnk, .egress]
  | .stopCompatTransfer _ _ => [.dict, .door, .ev, .que, .dma, .lnk, .egress]
  | .compatTransferComplete _ => [.dict, .ev, .dma]
  | .discoveryRequest _ _ => [.dict, .door, .ev, .que, .lnk, .egress]
  | .connectionConfig _ _ _ _ => [.dict, .door, .ev, .que, .dma, .lnk, .egress]
  | .linkTrained _ _ => [.dict, .que, .lnk, .egress]
  | .testModeWrite _ _ _ => [.dict, .door, .ev, .que, .lnk, .egress]
  | .linkWakeByCommand _ _ => [.dict, .lnk]
  | .linkResuspend _ _ => [.dict]
  | .triggerPacket _ _ _ _ => [.dict, .ev, .tim, .sh, .rcp, .trm, .trn, .csb]
  | .linkLoss _ _ => [.dict, .door, .ev, .que, .dma, .lnk, .egress]
  | .linkReturn _ _ => [.dict, .ev, .que, .dma, .lnk, .egress]
  | .uplinkPacketError _ _ => [.dict, .ev]
  | .stringCheck _ _ _ _ => [.dict, .ev, .tim, .rcp, .lamp, .aux, .rdg]
  | .lampOvercurrent _ _ => [.dict, .ev, .tim, .rcp, .lamp, .aux, .rdg]
  | .clearGroup _ _ _ => [.dict, .door, .ev, .tim, .que, .lnk, .rcp, .lamp, .rdg, .egress]
  | .bulkFloorReached _ => [.dict, .ev, .tim, .lamp, .rdg]
  | .bulkFloorClear _ _ => [.dict, .lamp]
  | .lampPowerReport _ _ _ => [.dict]
  | .lanternFrame _ _ => [.dict, .ev, .lan]
  | .lanternProbeNow _ _ => [.dict, .door, .ev, .que, .lnk, .lan, .egress]
  | .lanternPeriodicProbe _ => [.dict, .lan]
  | .lanternProbeComplete _ _ => [.dict, .ev, .lan]
  | .lanternOutputShort _ => [.dict, .ev, .lan]
  | .lanternShortRetry _ => [.dict, .lan]
  | .lanternEngineStart _ _ _ => [.dict, .door, .ev, .que, .lnk, .lan, .egress]
  | .lanternEngineStop _ _ _ => [.dict, .door, .ev, .que, .lnk, .lan, .egress]
  | .lanternEngineRunEnd _ _ => [.dict, .lan]
  | .locateTargetWrite _ _ _ _ => [.dict, .door, .ev, .que, .lnk, .lan, .egress]
  | .auxPassStart _ => [.aux]
  | .auxSoftwareTrigger _ _ => [.dict, .door, .ev, .que, .lnk, .aux, .egress]
  | .auxPeriodicTrigger _ => [.dict, .ev, .aux]
  | .auxUrgentRequest _ _ _ => [.dict, .door, .ev, .que, .lnk, .aux, .egress]
  | .auxVisitStart _ => [.dict, .ev, .aux]
  | .auxVisitEnd _ _ _ _ _ _ _ _ => [.dict, .door, .ev, .tim, .sh, .rcp, .lamp, .aux, .rdg]
  | .auxExcitationRetry _ _ => [.aux]
  | .blankStuck _ => [.dict, .ev, .aux]
  | .bivouacConversion _ _ _ _ _ => [.dict, .door, .ev, .tim, .sh, .rcp, .lamp, .aux, .rdg]
  | .aoStale _ _ => [.dict]
  | .aoShort _ _ => [.dict, .ev, .aux]
  | .aoShortRetry _ _ _ => [.dict, .ev, .aux]
  | .refaOutOfRange _ => [.dict, .ev, .aux]
  | .refaRestored _ => [.aux]
  | .connectionPresent _ _ => [.dict, .pow]
  | .connectionEnable _ => [.dict, .pow]
  | .connectionAdmissionCheck _ _ _ => [.dict, .ev, .pow]
  | .connectionShedRetry _ _ => [.dict, .pow]
  | .connectionOverload _ _ _ => [.dict, .ev, .can]
  | .connectionShed _ _ _ => [.dict, .ev, .pow]
  | .connectionPowerRemoved _ _ _ => [.dict, .door, .ev, .pow, .que, .dma, .lnk, .egress]
  | .connectionSenseFault _ _ => [.dict, .ev, .pow]
  | .admissionEnableWrite _ _ _ _ => [.dict, .door, .ev, .pow, .que, .lnk, .egress]
  | .vauxReversed _ => [.dict, .ev]
  | .vauxOutOfRange _ _ => [.dict, .ev]
  | .vauxQualified _ => [.dict]
  | .canteenTick _ _ _ _ _ => [.dict, .ev, .can, .lan, .trm, .trn]
  | .grantRestoreHoldExpiry _ => [.dict, .ev, .can]
  | .lampGrantWithdrawn _ => [.dict, .ev, .tim, .can, .trn]
  | .consumptionAboveBudget _ => [.dict, .ev, .can]
  | .thermalBivouacRequest _ => [.dict, .dev, .can, .lan, .aux, .trm]
  | .requestTrim _ _ _ => [.dict, .door, .ev, .que, .lnk, .trm, .egress]
  | .selfTrimStart _ => [.dict, .trm]
  | .selfTrimEnd _ _ => [.dict, .ev, .trm]
  | .selfTrimAbandoned _ => [.dict, .ev, .trm]
  | .selfTrimRetry _ _ => [.dict, .ev, .trm]
  | .trimRecordWritten _ _ _ => [.dict, .ev, .trm]
  | .updateBlockZero _ _ _ _ => [.dict, .door, .ev, .que, .dma, .lnk, .sh, .lan, .upd, .ringMem, .egress, .shBanks]
  | .updateBlock _ _ _ _ _ => [.dict, .door, .ev, .que, .dma, .lnk, .sh, .lan, .upd, .ringMem, .egress, .shBanks]
  | .updateBlocksJournaled _ _ => [.dict, .door, .ev, .que, .lnk, .upd, .egress]
  | .updateSessionSilence _ => [.dict, .ev, .upd]
  | .abortUpdate _ _ => [.dict, .door, .ev, .que, .lnk, .upd, .egress]
  | .updateApplyComplete _ _ => [.dict, .ev, .upd]
  | .updateVerifyComplete _ _ _ => [.dict, .ev, .upd]
  | .scheduleActivationLocal _ _ => [.dict, .door, .ev, .que, .lnk, .upd, .csb, .egress]
  | .scheduleActivationCasby _ _ => [.dict, .door, .ev, .que, .lnk, .upd, .csb, .egress]
  | .cancelSchedule _ _ => [.dict, .door, .ev, .que, .lnk, .upd, .egress]
  | .activationTimeReached _ => [.dict, .dev, .ev, .upd]
  | .deferredActivationIdle _ => [.dict, .dev, .upd]
  | .activationExpired _ => [.dict, .ev, .upd]
  | .bankSwitch _ => [.now, .compassOff, .dict, .dev, .door, .ev, .pow, .tim, .que, .dma, .lnk, .fe, .sh, .rcp, .lamp, .can, .lan,
      .aux, .upd, .trm, .rdg, .trn, .csb, .ringMem, .log, .archive, .fatal, .ec, .slots, .lines, .egress, .service, .shBanks, .basis]
  | .migrationFallback _ => [.now, .compassOff, .dict, .dev, .door, .ev, .pow, .tim, .que, .dma, .lnk, .fe, .sh, .rcp, .lamp, .can,
      .lan, .aux, .upd, .trm, .rdg, .trn, .csb, .ringMem, .log, .archive, .fatal, .ec, .slots, .lines, .egress, .service, .shBanks,
      .basis]
  | .acceptDefaults _ _ => [.dict, .door, .ev, .que, .lnk, .upd, .egress]
  | .discardQuarantine _ _ => [.dict, .door, .ev, .que, .lnk, .upd, .egress]
  | .bootstrapImageWrite _ _ _ _ => [.now, .compassOff, .dict, .dev, .door, .ev, .pow, .tim, .que, .dma, .lnk, .fe, .sh, .rcp, .lamp,
      .can, .lan, .aux, .upd, .trm, .rdg, .trn, .csb, .ringMem, .log, .archive, .fatal, .ec, .slots, .lines, .egress, .service,
      .shBanks, .basis]
  | .eventStamp _ => [.dict, .door, .ev, .que, .lnk, .log, .fatal, .egress]
  | .emergencySend _ => [.ev]
  | .archiveCopy _ => [.ev, .archive]
  | .latchClear _ _ _ => [.dict, .door, .ev, .que, .lnk, .egress]
  | .clearLatchesByClass _ _ _ => [.dict, .door, .ev, .que, .lnk, .egress]
  | .raiseHostEvent _ _ _ => [.dict, .door, .ev, .que, .lnk, .egress]
  | .gpPulseEnd _ _ => [.ev]
  | .tgOutputShort _ _ => [.dict, .ev, .tim, .que, .fe, .rdg, .lines]
  | .tgOutputRetry _ _ _ => [.dict, .ev, .tim]
  | .senseFaultCleared _ _ _ => [.dict, .pow]
  | .connectionPresenceLost _ _ => [.dict, .pow]
  | .auxiliaryInputQualifying _ _ => [.dict, .pow]
  | .lossOfPower _ _ => [.now, .compassOff, .dict, .dev, .door, .ev, .pow, .tim, .que, .dma, .lnk, .fe, .sh, .rcp, .lamp, .can, .lan,
      .aux, .upd, .trm, .rdg, .trn, .csb, .ringMem, .log, .archive, .fatal, .ec, .slots, .lines, .egress, .service, .shBanks, .basis]
  | .ringMemoryWrite _ _ _ _ => [.dict, .door, .ev, .que, .dma, .lnk, .ringMem, .egress]
  | .streamPacketSizeWrite _ _ _ => [.dict, .door, .ev, .que, .lnk, .egress]
  | .recipeNorWriteDone _ _ => [.dict, .rcp]
  | .blankInputReleased _ => [.aux]
  | .encoderStatusClear _ => [.dict]
  | .activationFrameRepeat _ => [.csb]

end Sys2Proof
end

