-- ==== Sys2Proof/Certificates/Slice0/Obligations.lean ====
section
/-!
DEFINITION. The statements about the block, chapter by chapter of its specification. `exec c s = .next t` with the `t` that the rules
give is where command `c` completes; `u.answer m i j k` is state `u` after master `m`'s access to entry `i:j` has been answered with
outcome code `k` (R39), and `State.Aside` says what that touches; `s.arrive dt` is the state in which a command finds the block.
-/

open Sys2Proof Sys2Proof.Machine

/-! ## The machine as a whole -/

/-- A step takes the command at the front of the queue and is that command's `exec` on the state with the queue's rest. On an empty
queue one cycle of the 25 MHz reference passes while the block is powered, and Compass advances by 40 (R19); with no power nothing
happens. That a step without a command is one reference cycle is the model's choice (log entry 1). -/
def Obligations.StepTakesTheFrontCommand : Prop :=
  (∀ (s : State) (c : Instr) (rest : List Instr), step { s with pending := c :: rest } = exec c { s with pending := rest }) ∧
  (∀ s : State, s.pending = [] →
    (s.powered = true → step s = .next { s with now := s.now + 40 } ∧
      ({ s with now := s.now + 40 } : State).compass = (s.compass + 40) % 2 ^ 64) ∧
    (s.powered = false → step s = .next s))

/-- The frame of every command: no command changes a part of the state that `Instr.mayChange` does not list for it, compared with the
state it finds. -/
def Obligations.OnlyTheseParts : Prop :=
  ∀ (c : Instr) (s t : State) (p : Part), exec c s = .next t → p ∉ c.mayChange → p.Same (c.found s) t


/-- Every step keeps the state sound: both sparse stores in canonical form with every listed value in its type, the presentations in
ascending source order, no two log or archive entries in one position, at most 32 emergencies waiting and 256 clamp-report
entries; and it takes exactly the front command off the queue. -/
def Obligations.EveryStepKeepsTheStateSound : Prop :=
  ∀ (s t : State), s.Sound → step s = .next t → t.Sound ∧ t.pending = s.pending.tail

/-- Every command gives a next state: the block never stops. -/
def Obligations.EveryCommandEnds : Prop :=
  ∀ (c : Instr) (s : State), s.Sound → ∃ t : State, exec c s = .next t ∧ t.Sound ∧ t.pending = s.pending

/-- Right after the first rise of VDD_AON (R362): Trailhead, not Ready, Compass zero, the EtherCAT state machine in Init, no link
trained, the next log sequence 1 and the log empty, every entry at its default; the state is sound and no command waits. The
defaults that the spec does not give, and that ring memory reads zero, are the model's choice (log entries 5 and 220). -/
def Obligations.ResetState : Prop :=
  State.reset.Sound ∧ State.reset.pending = [] ∧ State.reset.dev.st = .trailhead ∧ State.reset.dev.ready = false ∧
    State.reset.compass = 0 ∧ State.reset.door.ec.st = .init ∧ State.reset.ev.log = [] ∧ State.reset.ev.archive = [] ∧
    State.reset.rd 0x5C00 1 = 1 ∧ (∀ m : Fin 17, State.reset.masterPresent m = false) ∧
    (∀ i j : Nat, j < 256 → State.reset.rd i j = dfltAt i j) ∧
    (∀ o : Nat, Memory.get State.reset.dma.ringMem o = 0)

/-- R39, R41, R42: what answering an access does. The door gives the outcome and the values; the access is counted, and a refused or
clamped one is counted as such and stands in that master's last result; no other master notices, and beyond the reply's way out
nothing else changes. -/
def Obligations.AnswerOfAnAccess : Prop :=
  ∀ (s : State) (m : Fin 17) (i j code : Nat) (vals : List Int) (data : List Byte), i < 2 ^ 16 → j < 2 ^ 8 → code ≤ 11 →
    let t := s.answer m i j code vals data
    (t.master m).reply = ⟨code, vals, data⟩ ∧ s.Aside m t ∧
    t.rd 0x2010 2 = (s.rd 0x2010 2 + 1) % 2 ^ 32 ∧
    (2 ≤ code → t.rd 0x2010 3 = (s.rd 0x2010 3 + 1) % 2 ^ 32 ∧ t.rd 0x2010 4 = s.rd 0x2010 4) ∧
    (code = 1 → t.rd 0x2010 4 = (s.rd 0x2010 4 + 1) % 2 ^ 32 ∧ t.rd 0x2010 3 = s.rd 0x2010 3) ∧
    (code = 0 → t.rd 0x2010 3 = s.rd 0x2010 3 ∧ t.rd 0x2010 4 = s.rd 0x2010 4 ∧ t.rd 0x2014 (m + 1) = s.rd 0x2014 (m + 1)) ∧
    (code ≠ 0 → t.rd 0x2014 (m + 1) = code * 2 ^ 24 + j * 2 ^ 16 + i)

/-- R32, R33, R253, R261: what is written reads back. An entry reads as the value in its type, every other entry as before, and nothing
else in the state moves. A 32-bit word written into ring memory is read back, every other byte of ring memory stays, and so does
everything else; what lies beyond its end is not written. -/
def Obligations.StoresReadAsWritten : Prop :=
  (∀ (s : State) (i j : Nat) (v : Int), j < 256 →
    (s.wr i j v).rd i j = (tyAt i j).wrap v ∧ Touch (fun i' j' => i' = i ∧ j' = j) s (s.wr i j v) ∧
    s.wr i j v = { s with dict := (s.wr i j v).dict }) ∧
  (∀ (s : State) (o w : Nat), o + 4 ≤ ringSize → w < 2 ^ 32 →
    (s.ringPut o w).ringWord o = w ∧
    (∀ a : Nat, ¬ (o ≤ a ∧ a < o + 4) → Memory.get (s.ringPut o w).dma.ringMem a = Memory.get s.dma.ringMem a) ∧
    s.ringPut o w = { s with dma := { s.dma with ringMem := (s.ringPut o w).dma.ringMem } } ∧
    (Memory.wf s.dma.ringMem = true → Memory.wf (s.ringPut o w).dma.ringMem = true))

/-! ## Chapter 1: device states -/

/-- R24, R28: a request for Scanning in Standby at rest: busy during a capture or a measurement, not allowed without an active
recipe, refused with code 10 when the combination check fails, and otherwise the device scans with the enabled clusters. The codes 8
and 7 are the model's reading (log entries 20 to 22). -/
def Obligations.RequestForScanning : Prop :=
  ∀ (s : State) (dt : Nat) (m : Fin 17), (s.arrive dt).dev.ready = true → (s.arrive dt).masterPresent m = true →
    (s.arrive dt).dev.st = .standby → (s.arrive dt).dev.move = .none → (s.arrive dt).converterRails = true →
    let u := s.arrive dt
    (u.calibrating = true → exec (.requestScanning dt m) s = .next (u.answer m 0x2000 2 8)) ∧
    (u.calibrating = false → 32 ≤ u.activeRecipe → exec (.requestScanning dt m) s = .next (u.answer m 0x2000 2 7)) ∧
    (u.calibrating = false → u.activeRecipe < 32 → u.can.shutAt = none → u.combinationCheck.2 = false →
      ∃ t : State, exec (.requestScanning dt m) s = .next (t.answer m 0x2000 2 10) ∧ t.dev = u.dev ∧ t.rd 0x2000 2 = u.rd 0x2000 2) ∧
    (u.calibrating = false → u.activeRecipe < 32 → u.can.shutAt = none → u.combinationCheck.2 = true →
      ∃ t : State, exec (.requestScanning dt m) s = .next (t.answer m 0x2000 2 0) ∧ t.dev.st = .scanning ∧ t.dev.move = .none ∧
        t.dev.running = u.rdN 0x2000 4 ∧ t.rd 0x2000 2 = 3)

/-- R23, R24, R370: requests that a device in Scanning or Paused, or at rest in Standby, takes. A change to Paused or Standby waits for the
next line boundary, a request for Bivouac passes through Standby, and from Bivouac or Standby a request for Paused is refused with
nothing changed (code 7 is the model's choice, log entry 22). Each accepted request stands in 0x2000:02 and answers a write that
was still held (`State.release`). A write of 2 or 3 in Bivouac is held: the wake begins with rail step 6, and the write is answered
when Standby is reached. -/
def Obligations.RequestsForPausedStandbyBivouac : Prop :=
  ∀ (s : State) (dt : Nat) (m : Fin 17), (s.arrive dt).dev.ready = true → (s.arrive dt).masterPresent m = true →
    let u := s.arrive dt
    (u.dev.st = .scanning → u.ownMove = false →
      exec (.requestPaused dt m) s = .next (((({ u with dev := { u.dev with move := .boundary .paused, goal := .paused } } : State).release
        0).wr 0x2000 2 4).answer m 0x2000 2 0)) ∧
    (u.dev.st = .bivouac ∨ u.dev.st = .standby → exec (.requestPaused dt m) s = .next (u.answer m 0x2000 2 7)) ∧
    (u.dev.st = .scanning ∨ u.dev.st = .paused →
      exec (.requestStandby dt m) s = .next (((({ u with dev := { u.dev with move := .boundary .standby, goal := .standby } } : State).release
        0).wr 0x2000 2 2).answer m 0x2000 2 0)) ∧
    (u.dev.st = .scanning ∨ u.dev.st = .paused →
      exec (.requestBivouac dt m) s = .next (((({ u with dev := { u.dev with move := .boundary .standby, goal := .bivouac } } : State).release
        0).wr 0x2000 2 1).answer m 0x2000 2 0)) ∧
    (u.dev.st = .standby → u.dev.move = .none → u.calibrating = false →
      ∃ t : State, exec (.requestBivouac dt m) s = .next (((t.release 0).wr 0x2000 2 1).answer m 0x2000 2 0) ∧
        t.dev = { u.dev with move := .entering, goal := .bivouac } ∧ t.can.lamp = false ∧ t.aux.visit = none ∧
        t.trm.abandon = u.trm.running.isSome) ∧
    (u.dev.st = .bivouac → u.dev.move = .none →
      (∃ t : State, exec (.requestStandby dt m) s = .next t ∧ t.dev.st = .bivouac ∧ t.dev.move = .waking ∧ t.dev.goal = .standby ∧
        t.dev.held = some m.val ∧ t.pow.step = 6) ∧
      (∃ t : State, exec (.requestScanning dt m) s = .next t ∧ t.dev.st = .bivouac ∧ t.dev.move = .waking ∧ t.dev.goal = .scanning ∧
        t.dev.held = some m.val ∧ t.pow.step = 6))

/-- R23, R24, R205, R207, R369, R370, R385: the moves the device makes without a request. At a line boundary a waiting change to Paused, to
Standby or back to Scanning takes effect; it goes into Bivouac after the idle timeout or a lasting thermal shutdown, to Standby by a
fatal-class event, and the entry to Bivouac and the wake end. -/
def Obligations.MovesWithoutARequest : Prop :=
  ∀ (s : State) (dt : Nat), let u := s.arrive dt
    (u.live = true → u.dev.move = .boundary .paused →
      ∃ t : State, exec (.stateChangeAtLineBoundary dt) s = .next t ∧ t.dev.st = .paused ∧ t.dev.move = .none) ∧
    (u.live = true → u.dev.move = .boundary .scanning →
      ∃ t : State, exec (.stateChangeAtLineBoundary dt) s = .next t ∧ t.dev.st = .scanning ∧ t.dev.move = .none) ∧
    (u.live = true → u.dev.move = .boundary .standby → u.dev.goal = .standby →
      ∃ t : State, exec (.stateChangeAtLineBoundary dt) s = .next t ∧ t.dev.st = .standby ∧ t.dev.standbySince = u.now ∧ t.can.lamp = false) ∧
    (u.dev.st = .standby → u.dev.move = .none → u.rd 0x2000 5 ≠ 0 → u.calibrating = false →
      u.dev.standbySince + u.rdN 0x2000 5 * 1000000 ≤ u.now →
      ∃ t : State, exec (.bivouacIdleTimeout dt) s = .next t ∧ t.dev = { u.dev with move := .entering, goal := .bivouac }) ∧
    (∀ at_ : Nat, u.can.shutAt = some at_ → at_ + 100000000 ≤ u.now → 1680 ≤ u.rd 0x5A01 4 → u.dev.st = .standby →
      u.calibrating = false → u.dev.move ≠ .entering →
      ∃ t : State, exec (.thermalBivouacRequest dt) s = .next t ∧ t.dev = { u.dev with move := .entering, goal := .bivouac }) ∧
    (u.ev.fatal = true → u.dev.ready = true → u.live = true →
      ∃ t : State, exec (.fatalClassStop dt) s = .next t ∧ t.dev.st = .standby ∧ t.dev.goal = .standby ∧ t.ev.fatal = false ∧
        t.dev.held = none ∧ t.can.lamp = false) ∧
    (u.dev.move = .entering → u.dev.goal = .bivouac →
      ∃ t : State, exec (.bivouacEntryComplete dt) s = .next t ∧ t.dev.st = .bivouac ∧ t.dev.move = .none ∧ t.que.lines = default ∧
        t.dma.ringMem = u.dma.ringMem ∧ t.ev.log = u.ev.log ∧ t.sh.banks = u.sh.banks ∧ (∃ p ∈ t.ev.pres, p.src = 677)) ∧
    (u.dev.move = .waking → u.pow.step = 0 → u.converterRails = true → u.dev.st = .bivouac → u.dev.goal = .standby → u.dev.held = none →
      ∃ t : State, exec (.wakeComplete dt) s = .next t ∧ t.dev.st = .standby ∧ (∃ p ∈ t.ev.pres, p.src = 678))

/-! ## Chapter 2: the dictionary and its doors -/

/-- R34, R35, R38, R40, R41, R44: what becomes of an SDO download. No master, no effect; before Ready code 7 and nothing written; no such
entry code 2, a read-only entry code 3, a length that is not the type's code 6, a state that the row does not allow code 7, a value
outside the range code 5; a clamped value is written and reported with code 1; a value in range is written. What follows from the
new value is the chapters' (`State.afterWrite`). -/
def Obligations.SdoDownload : Prop :=
  ∀ (s : State) (dt idx sub len raw : Nat), let u := s.arrive dt
    (idx < 0x2024 ∨ 0x2028 ≤ idx) → ¬ (idx = 0x2000 ∧ sub = 2) →
    let c := Instr.registerWrite dt 0 (.sdo idx sub len raw)
    (u.masterPresent 0 = false → exec c s = .next u) ∧
    (u.masterPresent 0 = true → u.dev.ready = false → exec c s = .next (u.answer 0 idx sub 7)) ∧
    (u.masterPresent 0 = true → u.dev.ready = true →
      (lookup idx sub = none → exec c s = .next (u.answer 0 idx sub 2)) ∧
      ∀ e, lookup idx sub = some e →
        (e.row.acc = .ro → exec c s = .next (u.answer 0 idx sub 3)) ∧
        (e.row.acc ≠ .ro → e.row.ty.bits ≠ 8 * len → exec c s = .next (u.answer 0 idx sub 6)) ∧
        (e.row.acc ≠ .ro → e.row.ty.bits = 8 * len → 0 < len →
          let v := rawValue e.row.ty (raw % 2 ^ (8 * len))
          (idx ≠ 0x5410 → e.row.when = .standby → u.live = true → exec c s = .next (u.answer 0 idx sub 7)) ∧
          (u.rowRefusal idx sub = 0 → e.row.range.apply e.row.ty v = .refused → exec c s = .next (u.answer 0 idx sub 5)) ∧
          (u.rowRefusal idx sub = 0 → actsOnWrite idx sub = false → e.row.range.apply e.row.ty v = .keep v →
            depOf idx sub u v = .keep v → rangeBad idx sub v = false → u.refusedBy (u.wr idx sub v) idx sub = 0 →
            exec c s = .next ((u.afterWrite (u.wr idx sub v) idx sub).answer 0 idx sub 0)) ∧
          (∀ w why, u.rowRefusal idx sub = 0 → actsOnWrite idx sub = false → e.row.range.apply e.row.ty v = .clamped w why →
            depOf idx sub u w = .keep w → rangeBad idx sub w = false → u.refusedBy (u.wr idx sub w) idx sub = 0 →
            exec c s = .next (((u.afterWrite (u.wr idx sub w) idx sub).reportClamp (clampOf 0 idx sub why v w)).answer 0 idx sub 1))))

/-- R47: complete access by the EtherCAT master. A read of an index with no write-only entry returns its entries from subindex 0 or 1
on; an index that does not exist is refused with code 2, one with a domain with code 6. A write is checked whole first: the first
subindex that is refused is answered with its code and nothing is written; otherwise every subindex takes its value. -/
def Obligations.CompleteAccess : Prop :=
  ∀ (s : State) (dt idx : Nat) (from0 : Bool) (vals : List Int), let u := s.arrive dt
    u.masterPresent 0 = true → u.dev.ready = true →
    (subsOf idx = [] → exec (.completeAccessRead dt idx from0) s = .next (u.answer 0 idx 0 2) ∧
      exec (.completeAccessWrite dt idx from0 vals) s = .next (u.answer 0 idx 0 2)) ∧
    (subsOf idx ≠ [] → holdsDomain idx = true → exec (.completeAccessRead dt idx from0) s = .next (u.answer 0 idx 0 6) ∧
      exec (.completeAccessWrite dt idx from0 vals) s = .next (u.answer 0 idx 0 6)) ∧
    (subsOf idx ≠ [] → holdsDomain idx = false → resultObject idx = false →
      (∀ k ∈ covered idx from0, ∀ e, lookup idx k = some e → e.row.acc ≠ .wo) →
      exec (.completeAccessRead dt idx from0) s = .next (u.answer 0 idx 0 0 ((covered idx from0).map (u.get idx)))) ∧
    (subsOf idx ≠ [] → holdsDomain idx = false → vals.length ≤ (covered idx from0).length → ∀ k c,
      u.planAll idx ((covered idx from0).zip vals) = .error (k, c) →
      exec (.completeAccessWrite dt idx from0 vals) s = .next (u.answer 0 idx k c)) ∧
    (subsOf idx ≠ [] → holdsDomain idx = false → vals.length ≤ (covered idx from0).length → ∀ l t,
      u.planAll idx ((covered idx from0).zip vals) = .ok l → (∀ p ∈ l, p.why = none) → u.commitPlan idx l = .ok t →
      exec (.completeAccessWrite dt idx from0 vals) s = .next (t.answer 0 idx 0 0))

/-- R52, R54, R55: 64-bit entries over CoaXPress. A read of the low word latches the value in the master's shadow, and a read of the high
word is served from it while the shadow holds that entry; a low word waits in the master's write buffer, and a high word commits the
value only for the entry whose low word is waiting, else code 9; the buffer is empty afterwards. -/
def Obligations.WideEntries : Prop :=
  ∀ (s : State) (dt : Nat) (l : Fin 16) (idx sub : Nat), let u := s.arrive dt
    idx < 2 ^ 16 → sub < 2 ^ 8 → isWide idx sub = true → u.masterPresent (l + 1) = true → u.dev.ready = true →
    ((∀ e, lookup idx sub = some e → e.row.acc ≠ .wo) →
      exec (.wideLowWordRead dt l (wideAddr idx sub)) s = .next (
        (u.updMaster (l + 1) (fun q => { q with shadow := some (key idx sub, (u.get idx sub % 2 ^ 64).toNat) })).answer (l + 1) idx sub 0
          [((u.get idx sub % 2 ^ 64).toNat % 2 ^ 32 : Nat)]) ∧
      (∀ x : Nat, (u.master (l + 1)).shadow = some (key idx sub, x) →
        exec (.wideHighWordRead dt l (wideAddr idx sub + 4)) s = .next (u.answer (l + 1) idx sub 0 [(x / 2 ^ 32 : Nat)])) ∧
      ((∀ k x, (u.master (l + 1)).shadow = some (k, x) → k ≠ key idx sub) →
        exec (.wideHighWordRead dt l (wideAddr idx sub + 4)) s = .next (
          u.answer (l + 1) idx sub 0 [((u.get idx sub % 2 ^ 64).toNat / 2 ^ 32 : Nat)]))) ∧
    (∀ w : BitVec 32, u.rowRefusal idx sub ≠ 3 →
      exec (.wideLowWordWrite dt l (wideAddr idx sub) w) s = .next (
        (u.updMaster (l + 1) (fun q => { q with wbuf := some (key idx sub, w.toNat) })).answer (l + 1) idx sub 0)) ∧
    (∀ (w : BitVec 32) (low : Nat), (u.master (l + 1)).wbuf = some (key idx sub, low) → idx ≠ 0x2000 →
      exec (.wideHighWordWrite dt l (wideAddr idx sub + 4) w) s = .next (
        (u.updMaster (l + 1) (fun q => { q with wbuf := none })).grant (l + 1) idx sub (rawValue (tyAt idx sub) (w.toNat * 2 ^ 32 + low))
          (depOf idx sub) (opOf (l + 1) idx sub))) ∧
    (∀ w : BitVec 32, (∀ k x, (u.master (l + 1)).wbuf = some (k, x) → k ≠ key idx sub) →
      exec (.wideHighWordWrite dt l (wideAddr idx sub + 4) w) s = .next (
        (u.updMaster (l + 1) (fun q => { q with wbuf := none })).answer (l + 1) idx sub 9))

/-- R53, R63, R64: a read of a result object's status returns it with this master's fresh bit, shadows the object's values for this
master and clears that bit for this master alone; a granted access that is not answered within 10 ms is answered with a wait
acknowledgement, which is repeated every 10 ms. -/
def Obligations.ResultsAndWaits : Prop :=
  (∀ (s : State) (dt : Nat) (m : Fin 17) (idx : Nat), let u := s.arrive dt
    u.masterPresent m = true → u.dev.ready = true → resultObject idx = true → (lookup idx 1).isSome = true →
    ∃ t : State, exec (.resultStatusRead dt m idx) s = .next (t.answer m idx 1 0 [(b2n (u.isFresh m idx) * 2 ^ 31 + u.rdN idx 1 % 2 ^ 31 : Nat)]) ∧
      (t.master m).res = some (idx, u.resultValues idx) ∧ t.isFresh m idx = false ∧
      (∀ k : Fin 17, k ≠ m → t.isFresh k idx = u.isFresh k idx ∧ t.master k = u.master k) ∧
      (∀ i : Nat, i ≠ idx → ∀ k : Fin 17, t.isFresh k i = u.isFresh k i) ∧
      t = { u with door := { u.door with masters := t.door.masters, fresh := t.door.fresh } }) ∧
  (∀ (s : State) (dt : Nat) (l : Fin 16), let u := s.pass dt
    u.owesAnswer l = true → (u.master (l + 1)).asked + 10000000 * ((u.master (l + 1)).waits + 1) ≤ u.now →
    exec (.controlWaitAck dt l) s = .next (u.updMaster (l + 1) (fun q => { q with waits := q.waits + 1 })))

/-- R57 to R59: a bulk window opens for the master that asks, at an existing target that may be read or written, with mode, status 1,
owner and length; while it is open no other master's write to it is granted (code 8), and a second writer on the same domain finds it
busy. A data access moves the offset on by its length, and is refused with code 11 on a closed window or beyond the end, with code 8
to another master. A window of mode 1 closes with status 0; 10 s without a data access close any with status 3 and EV0837. -/
def Obligations.BulkWindows : Prop :=
  ∀ (s : State) (dt : Nat) (m : Fin 17) (w : Fin 4), let u := s.pass dt
    u.masterPresent m = true → u.dev.ready = true →
    (u.winOpen w = false → ∀ e, lookup (u.winTarget w) (u.rdN (0x2020 + w) 1 / 2 ^ 8 % 256) = some e → e.row.acc ≠ .wo →
      ∃ t : State, exec (.openReadWindow dt m w) s = .next (t.answer m (0x2020 + w) 4 0) ∧ t.winOpen w = true ∧ t.winMode w = 1 ∧
        t.winOwner w = m ∧ t.winTarget w = u.winTarget w ∧ t.rd (0x2020 + w) 2 = u.rd (0x2020 + w) 2 ∧
        t.rd (0x2020 + w) 3 = (u.targetLength (u.winTarget w) : Int) % 2 ^ 32 ∧ (t.window w).last = u.now) ∧
    (u.winOpen w = false → ∀ e, lookup (u.winTarget w) (u.rdN (0x2020 + w) 1 / 2 ^ 8 % 256) = some e → e.row.acc ≠ .ro →
      u.winTarget w = 0x4E11 ∨ u.winTarget w = 0x4E12 → u.writerOf (u.winTarget w) = none →
      ∃ t : State, exec (.openWriteWindow dt m w) s = .next (t.answer m (0x2020 + w) 4 0) ∧ t.winOpen w = true ∧ t.winMode w = 2 ∧
        t.winOwner w = m ∧ t.rd (0x2020 + w) 3 = 0 ∧ (t.window w).buf = []) ∧
    (u.winOpen w = false → ∀ e (x : Nat), lookup (u.winTarget w) (u.rdN (0x2020 + w) 1 / 2 ^ 8 % 256) = some e → e.row.acc ≠ .ro →
      u.winTarget w ≠ 0x2201 → u.writerOf (u.winTarget w) = some x →
      ∃ t : State, exec (.openWriteWindow dt m w) s = .next (t.answer m (0x2020 + w) 4 8) ∧ t.rd (0x2020 + w) 5 = 2 ∧
        t.winOwner w = u.winOwner x % 2 ^ 8) ∧
    (u.winOpen w = true → u.winOwner w ≠ m → exec (.closeWindow dt m w) s = .next (u.answer m (0x2020 + w) 4 8) ∧
      exec (.openReadWindow dt m w) s = .next (u.answer m (0x2020 + w) 4 8)) ∧
    (u.winOpen w = true → u.winOwner w = m → u.winMode w = 1 →
      ∃ t : State, exec (.closeWindow dt m w) s = .next (t.answer m (0x2020 + w) 4 0) ∧ t.winOpen w = false ∧ t.winMode w = 0 ∧
        t.winOwner w = 0xFF ∧ t.rd (0x2020 + w) 5 = 0) ∧
    (∀ a n : Nat, accessCode m a n = 0 →
      (u.winOpen w = false → exec (.windowDataRead dt m w a n) s = .next (u.answer m (0x2024 + w) 1 11)) ∧
      (u.winOpen w = true → u.winOwner w ≠ m → exec (.windowDataRead dt m w a n) s = .next (u.answer m (0x2024 + w) 1 8)) ∧
      (u.winOpen w = true → u.winOwner w = m → u.winMode w = 1 → u.winOffset w + a + n ≤ u.winLength w →
        exec (.windowDataRead dt m w a n) s = .next ((u.advance w n).answer m (0x2024 + w) 1 0 []
          (fitBytes (u.targetRead (u.winTarget w) (u.winOffset w + a) n) n)))) ∧
    (∀ (a : Nat) (bs : List Byte), accessCode m a bs.length = 0 → u.winOpen w = true → u.winOwner w = m → u.winMode w = 2 →
      u.winTarget w = 0x4E11 → u.winOffset w + a ≤ u.winLength w → u.winLength w ≤ 512 → u.winOffset w + a + bs.length ≤ 512 →
      ∃ t : State, exec (.windowDataWrite dt m w a bs) s = .next (t.answer m (0x2024 + w) 1 0) ∧
        (t.window w).buf = overlay (u.window w).buf (u.winOffset w + a) bs ∧
        t.rd (0x2020 + w) 3 = max (u.winLength w) (u.winOffset w + a + bs.length) ∧
        t.rd (0x2020 + w) 2 = u.winOffset w + bs.length) ∧
    (u.winOpen w = true → (u.window w).last + 10000000000 ≤ u.now →
      ∃ t : State, exec (.windowTimeout dt w) s = .next t ∧ t.winOpen w = false ∧ t.winMode w = 0 ∧ t.winOwner w = 0xFF ∧
        t.rd (0x2020 + w) 5 = 3 ∧ ∃ p ∈ t.ev.pres, p.src = 837)

/-- R64, R69, R70: saving and discarding the user image and clearing the clamp report. A save writes the stored objects as they were when
it was asked for into the slot that does not hold the newest whole image, with the next generation, and 0x2100:03 shows 1 while it
writes, 2 when it is done and 3 when it fails, which leaves the slot partial. -/
def Obligations.UserImage : Prop :=
  ∀ (s : State) (dt : Nat) (m : Fin 17), let u := s.pass dt
    (u.masterPresent m = true → u.dev.ready = true → u.door.saving = none → u.journalActive = false →
      exec (.saveUserImage dt m) s = .next (
        ({ u.wr 0x2100 3 1 with door := { u.door with saving := some u.snapshot, discard := false } } : State).answer m 0x2100 1 0)) ∧
    (u.masterPresent m = true → u.dev.ready = true → u.door.saving.isSome = true ∨ u.journalActive = true →
      exec (.saveUserImage dt m) s = .next (u.answer m 0x2100 1 8)) ∧
    (∀ (recs : List UserRec) (n : Nat), u.door.saving = some recs →
      ∃ t : State, exec (.saveComplete dt true n) s = .next t ∧ t.rd 0x2100 3 = 2 ∧ t.door.saving = none ∧
        t.slotOf u.saveSlot = ⟨true, (u.fw u.pow.bank).format, u.nextGen, recs, true⟩ ∧
        (u.saveSlot = 0 → t.slotOf 1 = u.slotOf 1) ∧ (u.saveSlot = 1 → t.slotOf 0 = u.slotOf 0)) ∧
    (∀ (recs : List UserRec) (n : Nat), u.door.saving = some recs →
      ∃ t : State, exec (.saveComplete dt false n) s = .next t ∧ t.rd 0x2100 3 = 3 ∧ t.door.saving = none ∧
        (t.slotOf u.saveSlot).recs = recs.take n ∧ (t.slotOf u.saveSlot).whole = false) ∧
    (u.masterPresent m = true → u.dev.ready = true →
      exec (.discardUserImage dt m) s = .next (({ u.wr 0x2100 3 4 with door := { u.door with discard := true } } : State).answer m 0x2100 2 0)) ∧
    (u.masterPresent m = true → u.dev.ready = true →
      exec (.clearClampReport dt m) s = .next (({ u with door := { u.door with clamps := [], clampLostTold := false } } : State).answer m 0x2110 4 0))

/-- R43, R44, R48, R49: the EtherCAT slave. After Ready a request goes one state up or any state down, a jump upwards answers AL status
code 0x0011 and Bootstrap 0x0013; before Ready nothing above Init is accepted, with AL status code 0x8001. A frame with a bad check
sequence commits nothing; a good one commits position, speed and job into 0x2030. An unsupported mailbox protocol, a read of a
file, and a write of another file are answered with their errors. -/
def Obligations.EtherCatSlave : Prop :=
  ∀ (s : State) (dt : Nat), let u := s.pass dt
    (u.pow.boot = .done → u.dev.ready = true →
      exec (.ethercatStateRequest dt 4) s = .next (u.setAl 0x0013) ∧
      (u.door.ec.st = .init → exec (.ethercatStateRequest dt 2) s = .next (u.setAl 0x0011) ∧
        exec (.ethercatStateRequest dt 3) s = .next (u.setAl 0x0011)) ∧
      (u.door.ec.st = .preOp → ∃ t : State, exec (.ethercatStateRequest dt 2) s = .next t ∧ t.door.ec.st = .safeOp ∧ t.door.ec.al = 0 ∧
        t.door.ec.outSync = u.rdN 0x1C32 1 ∧ t.door.ec.inSync = u.rdN 0x1C33 1) ∧
      (u.door.ec.st = .safeOp → ∃ t : State, exec (.ethercatStateRequest dt 3) s = .next t ∧ t.door.ec.st = .op ∧ t.door.ec.al = 0 ∧
        t.rcp.lastJob = none) ∧
      (∃ t : State, exec (.ethercatStateRequest dt 0) s = .next t ∧ t.door.ec.st = .init ∧ t.door.ec.al = 0)) ∧
    (u.pow.boot = .banked → u.dev.ready = false → ∀ k : Fin 5, k ≠ 0 → exec (.ethercatStateRequest dt k) s = .next (u.setAl 0x8001)) ∧
    (∀ p : Nat, u.masterPresent 0 = true → p ≠ 3 → p ≠ 4 → exec (.mailboxUnsupported dt p) s = .next (u.mailbox 2)) ∧
    (∀ name : List Byte, u.masterPresent 0 = true → exec (.foeReadRequest dt name) s = .next (u.mailbox 0x8002)) ∧
    (∀ name bs : List Byte, u.masterPresent 0 = true → u.dev.ready = true → foeOffset name = none →
      exec (.foeWriteRequest dt name bs) s = .next (u.mailbox 0x8001)) ∧
    (let v := s.arrive dt;
      (∀ (pos speed : BitVec 32) (job : BitVec 16), v.door.ec.st = .safeOp → v.door.ec.inSync ≠ 0 →
        exec (.rxpdoCommit dt false pos speed job) s = .next v ∧
        ((-20000000 ≤ speed.toInt ∧ speed.toInt ≤ 20000000) → exec (.rxpdoCommit dt true pos speed job) s =
          .next (((v.wr 0x2030 1 pos.toNat).wr 0x2030 2 speed.toInt).wr 0x2030 3 job.toNat))) ∧
      (∀ time : BitVec 64, v.pow.boot = .done → v.door.ec.st = .safeOp → v.door.ec.inSync = 2 → v.rd 0x4880 3 ≠ 1 →
        ∃ t : State, exec (.sync0Event dt time) s = .next t ∧ t.rd 0x2031 1 = v.rd 0x4441 8 % 2 ^ 32 ∧ t.rd 0x2031 2 = (v.statusWord : Int) % 2 ^ 16 ∧
          t.rd 0x2031 3 = v.rd 0x4210 2 % 2 ^ 16 ∧ t.rd 0x2031 4 = v.rd 0x5A00 1 % 2 ^ 8 ∧ t.rd 0x2031 5 = (v.summary : Int) % 2 ^ 32))

/-- R50: when the SM2 watchdog expires in Op the slave is in Safe-Op with AL status code 0x001B, the last committed values of 0x2030
stay, a job number is a switch-line source again only from Op on, scanning goes on unchanged, and EV0838 is raised. -/
def Obligations.ProcessDataWatchdog : Prop :=
  ∀ (s : State) (dt : Nat), let u := s.arrive dt
    (u.door.ec.st = .op →
      ∃ t : State, exec (.pdoWatchdogExpiry dt) s = .next t ∧ t.door.ec.st = .safeOp ∧ t.door.ec.al = 0x001B ∧ t.door.ec.committed = none ∧
        (∀ j : Nat, j < 256 → t.rd 0x2030 j = u.rd 0x2030 j) ∧ t.rcp = u.rcp ∧ t.dev = u.dev ∧ t.tim = u.tim ∧ t.que = u.que ∧
        (∃ p ∈ t.ev.pres, p.src = 838) ∧
        ∀ (pos speed : BitVec 32) (job : BitVec 16) (r : State), exec (.rxpdoCommit 0 true pos speed job) t = .next r →
          r.rcp = (t.arrive 0).rcp)

/-! ## Chapters 3 and 4: exposure cycles, channels in service, front ends -/

/-- R82, R83, R86, R87: triggers and exposure cycles. A software trigger is refused with code 7 outside Scanning and Paused and with
code 5 unless the trigger source is 4. A trigger waits at a free group for its start edge, is latched and counted at a busy one, and is
dropped when the latch is taken: counted, reported, and shown in the group's next record. A cycle begins at least 20 ns after its
trigger, for that trigger's line cycle; when it ends, the latched trigger's cycle begins on the same edge, late. -/
def Obligations.TriggersAndCycles : Prop :=
  ∀ (s : State) (dt : Nat) (g : Fin 16), let u := s.arrive dt
    (∀ m : Fin 17, let v := s.pass dt; v.masterPresent m = true → v.dev.ready = true →
      (v.live = false → exec (.softwareTrigger dt m) s = .next (v.answer m 0x2050 3 7)) ∧
      (v.live = true → v.rd 0x2050 1 ≠ 4 → exec (.softwareTrigger dt m) s = .next (v.answer m 0x2050 3 5)) ∧
      (v.live = true → v.rd 0x2050 1 = 4 →
        exec (.softwareTrigger dt m) s = .next ((v.ownTrigger v.fine 3 v.extPos).answer m 0x2050 3 0))) ∧
    (∀ t : Trig, (u.group g).running = none → (u.group g).due = none → (u.group g).priming = false →
      u.deliver g t = u.updGroup g (fun q => { q with due := some t })) ∧
    (∀ t : Trig, (u.group g).running.isSome = true → (u.group g).latch = none →
      ((u.deliver g t).group g).latch = some t ∧ (u.deliver g t).rd (0x2040 + g) 0x11 = (u.rd (0x2040 + g) 0x11 + 1) % 2 ^ 32) ∧
    (∀ t : Trig, (u.group g).running.isSome = true → (u.group g).latch.isSome = true →
      ((u.deliver g t).group g).latch = (u.group g).latch ∧ ((u.deliver g t).group g).dropBefore = true ∧
      (u.deliver g t).rd (0x2040 + g) 0x12 = (u.rd (0x2040 + g) 0x12 + 1) % 2 ^ 32 ∧ ∃ p ∈ (u.deliver g t).ev.pres, p.src = 896 + g) ∧
    (∀ t : Trig, (u.group g).running = none → (u.group g).priming = false → (u.group g).due = some t → u.mayStart g = true →
      u.cycling = true → t.time + 20 ≤ u.fine → t.origin ≤ 3 →
      ∃ (v : State) (c : Cycle) (r : ExpRec), exec (.exposureCycleStart dt g) s = .next v ∧ (v.group g).running = some c ∧
        (v.group g).due = none ∧ c.start = u.now ∧ c.line = t.line ∧ c.plane = u.planeFor g ∧ c.origin = t.origin ∧ c.late = false ∧
        c.lateness = min 0xFFFFF (c.stamp - t.time - 20) ∧ (v.group g).records.head? = some r ∧ r.time = c.stamp ∧ r.line = t.line ∧
        r.drop = c.drop) ∧
    (∀ c : Cycle, (u.group g).running = some c → c.start + u.clocksNs g (u.cycleLen g) ≤ u.now → (u.group g).selfTimed = 0 →
      (u.group g).latch = none →
      exec (.exposureCycleEnd dt g) s = .next (u.updGroup g (fun q => { q with running := none, prev := some c }))) ∧
    (∀ (c : Cycle) (t : Trig), (u.group g).running = some c → c.start + u.clocksNs g (u.cycleLen g) ≤ u.now →
      (u.group g).selfTimed = 0 → (u.group g).latch = some t → u.mayStart g = true → u.cycling = true → t.origin ≤ 3 →
      ∃ (v : State) (k : Cycle), exec (.exposureCycleEnd dt g) s = .next v ∧ (v.group g).running = some k ∧ (v.group g).latch = none ∧
        k.start = u.now ∧ k.line = t.line ∧ k.late = true)

/-- R91, R107, R108: service requests and the states of a channel. A request out acts at the next cycle start, at once where no cycles run;
leaving counts and raises EV(4n+3). A return puts a channel that is out or lost in wait, the first cycle at least 80 µs later warms it,
and after four warming cycles it is in service. A signal loss that waits acts at the cycle start after its check; a lost channel
returns by itself after its recovery lines. -/
def Obligations.ChannelService : Prop :=
  ∀ (s : State) (dt : Nat) (n : Fin 64), let u := s.pass dt
    (let t := u.leave n;
      t.status n = 1 ∧ t.rd (chIdx n) 0xA = (u.rd (chIdx n) 0xA + 1) % 2 ^ 32 ∧ (∃ p ∈ t.ev.pres, p.src = 4 * n + 3) ∧
      (t.svc n).leaving = false ∧ (t.svc n).losing = false ∧ (t.svc n).warmed = 0 ∧ (∀ k : Fin 64, k ≠ n → t.svc k = u.svc k) ∧
      Touch (fun i j => (i = chIdx n ∧ (j = 8 ∨ j = 0xA)) ∨ i = 0x2800 + (4 * n + 3)) u t) ∧
    (∀ m : Fin 17, u.masterPresent m = true → u.dev.ready = true →
      (u.rd (chIdx n) 7 = 1 → exec (.serviceRequestOut dt m n) s = .next ((u.wr (chIdx n) 7 1).answer m (chIdx n) 7 0)) ∧
      (u.rd (chIdx n) 7 ≠ 1 → u.queuesRun = true → u.status n ≠ 1 → u.status n ≠ 3 → exec (.serviceRequestOut dt m n) s = .next (
        (if u.cycling then (u.wr (chIdx n) 7 1).updService n (fun q => { q with leaving := true, asked := u.now })
          else (u.wr (chIdx n) 7 1).leave n).answer m (chIdx n) 7 0)) ∧
      (u.rd (chIdx n) 7 ≠ 0 → u.queuesRun = true → (u.svc n).leaving = false → u.status n = 1 ∨ u.status n = 2 →
        exec (.serviceRequestReturn dt m n) s = .next (
          (((u.wr (chIdx n) 7 0).wr (chIdx n) 8 3).updService n (fun q => { q with returned := u.now, losing := false })).answer m
            (chIdx n) 7 0))) ∧
    (∀ c : Cycle, (u.group (u.groupOf n)).running = some c →
      ((u.svc n).leaving = true → (u.svc n).asked ≤ c.start → exec (.channelLeavesService dt n) s = .next (u.leave n)) ∧
      ((u.svc n).losing = true → (u.svc n).asked ≤ c.start → exec (.channelSignalLost dt n) s =
        .next ((u.wr (chIdx n) 8 2).updService n (fun v => { v with losing := false, warmed := 0 }))) ∧
      (u.status n = 3 → (u.svc n).returned + 80000 ≤ c.start →
        ∃ t : State, exec (.channelReentry dt n) s = .next t ∧ t.status n = 4 ∧ (t.svc n).warmed = 1 ∧
          t.rd (chIdx n) 0xA = (u.rd (chIdx n) 0xA + 1) % 2 ^ 32 ∧ ∃ p ∈ t.ev.pres, p.src = 4 * n + 3)) ∧
    (u.status n = 4 → 5 ≤ (u.svc n).warmed → exec (.warmingEnd dt n) s = .next (u.wr (chIdx n) 8 0)) ∧
    (u.status n = 2 → u.rd (chIdx n + 2) 7 = 0 → (u.svc n).leaving = false → u.rdN (chIdx n + 2) 8 ≤ (vget u.fe n).passes →
      exec (.signalAutoRecovery dt n) s = .next (
        (((u.wr (chIdx n) 8 3).bump (chIdx n + 4) 4).updFe n (fun q => { q with passes := 0 })).updService n (fun v =>
          { v with returned := u.now })))

/-- R103 to R107: the black-level loop. With the loop on and a channel in service, black pixels within range whose check is off move F
by e × 2^-s, and D by one step where F passes 8 LSB; the new D stands in the offset DAC, and F within −64 and +63 15/16 LSB; a line
whose check fails gives no update, and in service it counts as a signal loss that waits for the next cycle. -/
def Obligations.BlackLevelLoop : Prop :=
  (∀ (d f b target : Int) (shift : Nat), 0 ≤ d → d ≤ 1023 →
    let r := loopStep d f b target shift
    0 ≤ r.1 ∧ r.1 ≤ 1023 ∧ -1024 ≤ r.2.1 ∧ r.2.1 ≤ 1023 ∧ (r.1 = d ∨ r.1 = d - 1 ∨ r.1 = d + 1) ∧
      (r.2.2 = true ↔ (r.1 = 0 ∧ 128 ≤ r.2.1) ∨ (r.1 = 1023 ∧ r.2.1 < -128)) ∧
      (b = 16 * target → -128 ≤ f → f < 128 → r.1 = d ∧ r.2.1 = f)) ∧
  (∀ (s : State) (dt : Nat) (n : Fin 64) (codes : List Int) (old : Bool) (r : Reading), let u := s.pass dt
    u.blackReadout n = some (old, r) → codes.length = u.blackPx n → 4 ≤ codes.length →
    (∀ c ∈ codes, u.codeLow n < c ∧ c < u.codeHigh n) →
    (u.status n = 0 → u.rd (chIdx n + 2) 1 = 1 → u.rd (chIdx n + 2) 5 ≠ 1 → (vget u.fe n).written = false →
      0 ≤ u.rd (chIdx n + 1) 8 → u.rd (chIdx n + 1) 8 ≤ 1023 →
      let k := loopStep (u.rd (chIdx n + 1) 8) (vget u.fe n).f (blackMean codes r.f) (u.target n) (u.rdN (chIdx n + 2) 3)
      ∃ t : State, exec (.blackPixelsEnd dt n codes) s = .next t ∧ t.rd (chIdx n + 1) 8 = k.1 ∧ (vget t.fe n).f = k.2.1 ∧
        (vget t.fe n).atLimit = k.2.2) ∧
    (u.status n = 0 → u.rd (chIdx n + 2) 1 = 1 → u.rd (chIdx n + 2) 5 = 1 →
      16 * u.rd (chIdx n + 2) 6 < (blackMean codes r.f - 16 * u.target n).natAbs →
      ∃ t : State, exec (.blackPixelsEnd dt n codes) s = .next t ∧ t.rd (chIdx n + 1) 8 = u.rd (chIdx n + 1) 8 ∧
        (vget t.fe n).f = (vget u.fe n).f ∧ (t.svc n).losing = true ∧ (t.svc n).asked = u.now ∧
        t.rd (chIdx n + 4) 3 = (u.rd (chIdx n + 4) 3 + 1) % 2 ^ 32 ∧ ∃ p ∈ t.ev.pres, p.src = 4 * n + 3))

/-- R109, R222, R225, R226, R229: a channel line enters its queue. At its start A + 4 words of credit open a frame, or the line
overruns: counted, marked and reported. At its end the record and the A words close the frame. A result period of the black
level publishes a result and begins anew. -/
def Obligations.ChannelLines : Prop :=
  ∀ (s : State) (dt : Nat) (n : Fin 64), let u := s.pass dt
    (∀ (r : Reading) (line plane : Nat), (u.group (u.groupOf n)).running.isSome = true → u.named n = true → u.trimFree n = true →
      u.live = true → u.status n = 0 → (u.svc n).leaving = false → (u.svc n).losing = false → (vget u.fe n).cur = some r →
      r.framed = false → r.lineDone = false → r.pix = some (line, plane) →
      (u.activePx n + 4 ≤ (u.lineQ n).free →
        ∃ t : State, exec (.channelLineStart dt n []) s = .next t ∧
          t.lineQ n = { u.lineQ n with credit := (u.lineQ n).credit + (u.activePx n + 4), missed := 0 } ∧
          (vget t.fe n).cur = some { r with framed := true, warming := false, missed := (u.lineQ n).missed }) ∧
      ((u.lineQ n).free < u.activePx n + 4 →
        ∃ t : State, exec (.channelLineStart dt n []) s = .next t ∧
          t.lineQ n = { u.lineQ n with missed := (u.lineQ n).missed + 1 } ∧ (vget t.fe n).cur = some { r with lineDone := true } ∧
          t.rd 0x5602 (n + 1) = (u.rd 0x5602 (n + 1) + 1) % 2 ^ 32 ∧ ∃ p ∈ t.ev.pres, p.src = 256 + n / 8)) ∧
    (∀ (codes : List Int) (old : Bool) (r : Reading), u.lineReadout n = some (old, r) → codes.length = u.activePx n → r.pix = none →
      exec (.channelLineEnd dt n codes) s = .next (u.updReading n old (fun r => { r with lineDone := true }))) ∧
    (∀ (codes : List Int) (old : Bool) (r : Reading) (line plane : Nat), u.lineReadout n = some (old, r) →
      codes.length = u.activePx n → r.pix = some (line, plane) → r.framed = true →
      ∃ (t : State) (rec_ words : List Nat), exec (.channelLineEnd dt n codes) s = .next t ∧ rec_.length = 4 ∧
        words.length = u.activePx n ∧ t.lineQ n = { u.lineQ n with
          w := ((u.lineQ n).w + (u.activePx n + 4)) % 65536
          words := (u.lineQ n).words ++ (rec_ ++ words)
          credit := (u.lineQ n).credit - (u.activePx n + 4) }) ∧
    (u.status n ≠ 1 → u.rdN (chIdx n + 2) 9 ≤ (vget u.fe n).lines →
      ∃ t : State, exec (.blackLevelResult dt n) s = .next t ∧ t.rdN (chIdx n + 3) 1 % 2 ^ 24 = nextResult (u.rdN (chIdx n + 3) 1) ∧
        (∀ m : Fin 17, t.isFresh m (chIdx n + 3) = true) ∧ (vget t.fe n).lines = 0 ∧ (vget t.fe n).beyond = 0)

/-! ## Chapter 5: shading -/

/-- R114, R115, R133, R146: the lane's and the tables' arithmetic. The lane's output fits 16 bits, and the identity entry at scale 1.0
gives the input in whole LSB, halves up; a multiplier fits 26 bits. A gain, a plane scale and an imported response are the quotients
the rules give, rounded with ties up. -/
def Obligations.ShadingArithmetic : Prop :=
  (∀ (x dark gain m : Int), laneClamp (laneY x dark gain m) ≤ 65535 ∧
    (laneY x dark gain m ≤ 0 → laneClamp (laneY x dark gain m) = 0) ∧
    (0 ≤ laneY x dark gain m → laneY x dark gain m ≤ 65535 → (laneClamp (laneY x dark gain m) : Int) = laneY x dark gain m)) ∧
  (∀ (x dark gain m : Int), let q := (x - dark) * gain * m
    2 ^ 36 * laneY x dark gain m ≤ q + 2 ^ 35 ∧ q + 2 ^ 35 < 2 ^ 36 * (laneY x dark gain m + 1)) ∧
  (∀ x : Int, laneY x (eDark identityEntry) (eGain identityEntry) (laneMult 0 none 0x1000) = x) ∧
  (∀ (coeff : Int) (dT : Option Int) (scale : Nat), laneMult coeff dT scale < 2 ^ 26) ∧
  (∀ m w : Nat, 0 < w → 2 * w * blendGain m w ≤ 2 * m * 2 ^ 14 + w ∧ 2 * m * 2 ^ 14 + w < 2 * w * (blendGain m w + 1)) ∧
  (∀ target m : Nat, 0 < m → 1 ≤ scaleFor target m ∧ scaleFor target m ≤ 0xFFFF ∧
    (1 < scaleFor target m → scaleFor target m < 0xFFFF →
      2 * m * scaleFor target m ≤ 2 * target * 2 ^ 12 + m ∧ 2 * target * 2 ^ 12 + m < 2 * m * (scaleFor target m + 1))) ∧
  (∀ target gain scale : Nat, importResp target gain scale ≤ 65535 ∧
    (0 < gain * scale → importResp target gain scale < 65535 →
      2 * (gain * scale) * importResp target gain scale ≤ 2 * target * 2 ^ 26 + gain * scale ∧
      2 * target * 2 ^ 26 + gain * scale < 2 * (gain * scale) * (importResp target gain scale + 1)))

/-- R119, R120, R127, R130, R131: the two banks and the segment temperatures. A swap is refused while the shadow is held or not ready or,
in Scanning and Paused, does not match; outside exposures it is made at once, in Scanning and Paused it waits for a trigger at least
1 µs later. A copy or a clear is refused while the shadow is held. A new plane scale goes into the active bank's header, whose
check word is recomputed. A thermistor that goes stale is no longer usable: the segments of its masks are recomputed from the rest, or
held, which raises EV0843. -/
def Obligations.ShadingBanks : Prop :=
  ∀ (s : State) (dt : Nat) (m : Fin 17), let u := s.pass dt
    (u.activeBank ≤ 1 → ∀ t line r : Nat, let v := u.doSwap t line r
      v.activeBank = u.shadow ∧ v.rd 0x4000 3 = 2 ∧ v.rd 0x4000 0xA = (u.rd 0x4000 0xA + 1) % 2 ^ 32 ∧ v.rd 0x4000 0xB = t % 2 ^ 64 ∧
        v.bankHolder 0 = 0 ∧ v.bankHolder 1 = 0 ∧ v.sh = { u.sh with swapAt := none, change := some ⟨line, u.shadow, r⟩, parityTold := false } ∧
        (∃ p ∈ v.ev.pres, p.src = 842) ∧
        Touch (fun i j => (i = 0x4000 ∧ (j = 1 ∨ j = 3 ∨ j = 0xA ∨ j = 0xB ∨ j = 6 ∨ j = 7 ∨ j = 0xE)) ∨ i = 0x2800 + 842) u v) ∧
    (∀ (at_ t line : Nat), u.sh.swapAt = some at_ → u.swapTrigger t line = if at_ ≤ t then u.doSwap t line u.activeRecipe else u) ∧
    (∀ g : Fin 16, u.activeBank ≤ 1 → ((u.swapNow u.activeRecipe).group g).bank = u.shadow ∧ (u.swapNow u.activeRecipe).sh.change = none) ∧
    (u.masterPresent m = true → u.dev.ready = true →
      (u.bankHolder u.shadow ≠ 0 ∨ u.rcp.armed.isSome = true →
        exec (.swapRequest dt m) s = .next ((u.wr 0x4000 3 5).answer m 0x4000 2 8)) ∧
      (u.bankHolder u.shadow = 0 → u.rcp.armed = none → u.bankState u.shadow ≠ 2 →
        exec (.swapRequest dt m) s = .next ((u.wr 0x4000 3 3).answer m 0x4000 2 5)) ∧
      (u.bankHolder u.shadow = 0 → u.rcp.armed = none → u.bankState u.shadow = 2 → u.live = true → u.shadowMatches = false →
        exec (.swapRequest dt m) s = .next ((u.wr 0x4000 3 4).answer m 0x4000 2 5)) ∧
      (u.bankHolder u.shadow = 0 → u.rcp.armed = none → u.bankState u.shadow = 2 → u.live = true → u.shadowMatches = true →
        exec (.swapRequest dt m) s = .next (
          (let t := (u.wr 0x4000 3 1).wr 0x4000 (6 + u.shadow) 5;
            { t with sh := { t.sh with swapAt := some (u.fine + 1000) } } : State).answer m 0x4000 2 0)) ∧
      (u.bankHolder u.shadow = 0 → u.rcp.armed = none → u.bankState u.shadow = 2 → u.live = false →
        exec (.swapRequest dt m) s = .next ((u.swapNow u.activeRecipe).answer m 0x4000 2 0)) ∧
      (u.bankHolder u.shadow ≠ 0 → exec (.copyActiveToShadow dt m) s = .next (u.answer m 0x4000 8 8) ∧
        exec (.clearShadow dt m) s = .next (u.answer m 0x4000 9 8)) ∧
      (u.bankHolder u.shadow = 0 →
        exec (.copyActiveToShadow dt m) s = .next (
          (let t := (u.wr 0x4000 (4 + u.shadow) 1).wr 0x4000 (6 + u.shadow) 4;
            { t with sh := { t.sh with copying := true } } : State).answer m 0x4000 8 0) ∧
        exec (.clearShadow dt m) s = .next (
          (((u.wr 0x4000 (4 + u.shadow) 0).wr 0x4000 (6 + u.shadow) 0).updBank u.shadow (fun _ => default)).answer m 0x4000 9 0)) ∧
      (∀ (p : Fin 4) (v : Nat), 1 ≤ v → v ≤ 0xFFFF →
        (u.bankState u.activeBank = 0 → exec (.setActivePlaneScale dt m p v) s = .next (u.answer m 0x4003 (p + 1) 7)) ∧
        (u.bankState u.activeBank ≠ 0 → exec (.setActivePlaneScale dt m p v) s = .next (
          (u.updBank u.activeBank (fun q =>
            let h := overlay (q.bytes.take 4092) (16 + 2 * p) (le 2 v)
            { q with bytes := h ++ le 4 (crc32 h) ++ q.bytes.drop 4096 })).answer m 0x4003 (p + 1) 0)))) ∧
    (u.sh.copying = true → u.activeBank ≤ 1 → ∃ t : State, exec (.copyComplete dt) s = .next t ∧ t.sh.copying = false ∧
      t.bankHolder u.shadow = 0 ∧ t.bankState u.shadow = u.bankState u.activeBank ∧ t.bank u.activeBank = u.bank u.activeBank ∧
      (u.bankState u.activeBank = 0 → t.bank u.shadow = default) ∧
      (u.bankState u.activeBank ≠ 0 → t.bank u.shadow = { u.bank u.activeBank with bytes := copyContent (u.bank u.activeBank).bytes }) ∧
      Touch (fun i j => i = 0x4000 ∧ (j = 4 + u.shadow ∨ j = 6 + u.shadow)) u t) ∧
    (∀ k : Fin 16, (vget u.sh.th k).usable = true → (vget u.sh.th k).time + u.rdN 0x4046 1 * 1000000 < u.now →
      let w : State := { u with sh := { u.sh with th := vupd u.sh.th k (fun t => { t with usable := false }) } }
      ∃ t : State, exec (.thermistorStale dt k) s = .next t ∧ t.sh.th = w.sh.th ∧ (∀ g : Fin 32,
        (bit (u.rdN 0x4043 (g + 1)) k = false → t.rd 0x4044 (g + 1) = u.rd 0x4044 (g + 1) ∧ t.rd 0x4045 (g + 1) = u.rd 0x4045 (g + 1)) ∧
        (bit (u.rdN 0x4043 (g + 1)) k = true → ∀ v : Int, w.segFrom g = some v →
          t.rd 0x4044 (g + 1) = Ty.i16.wrap v ∧ t.rd 0x4045 (g + 1) = 0) ∧
        (bit (u.rdN 0x4043 (g + 1)) k = true → w.segFrom g = none → u.rd 0x4045 (g + 1) = 0 →
          t.rd 0x4044 (g + 1) = u.rd 0x4044 (g + 1) ∧ t.rd 0x4045 (g + 1) = 1 ∧ ∃ p ∈ t.ev.pres, p.src = 843)))

/-- R132 to R136: the shading capture. A start is refused with code 7 outside Standby, 8 while the shadow is held or a measurement
runs, 5 for a white capture with the identity base, 10 when its checks fail; else the shadow is held for it. The base is written into
the shadow; line cycles settle and average; between dark and white the lamp grant is awaited for at most 100 ms; the result is 6 or 7
with a ready shadow and EV0840, or 8 with an invalid one and EV0841. An abort gives 9 and EV0841, at once between line cycles and else
at the line cycle's boundary. No outcome touches the active bank. -/
def Obligations.ShadingCapture : Prop :=
  ∀ (s : State) (dt : Nat), let u := s.pass dt
    (∀ (m : Fin 17) (k : Nat) (c : Instr),
      (k = 1 ∧ c = .startDarkCapture dt m) ∨ (k = 2 ∧ c = .startWhiteCapture dt m) ∨ (k = 3 ∧ c = .startDarkWhiteCapture dt m) →
      u.masterPresent m = true → u.dev.ready = true →
      let r := if u.rdN 0x4030 7 = 255 then u.activeRecipe else u.rdN 0x4030 7
      let bad := firstFailed [u.item1, u.item3 (u.rateFor (u.planesOf r)) converterLimit, if k = 1 then none else u.item6 (u.recipe r)]
      (u.dev.st ≠ .standby → exec c s = .next (u.answer m 0x4030 1 7)) ∧
      (u.dev.st = .standby → u.shadowHeld = true ∨ u.rcp.measure.isSome = true → exec c s = .next (u.answer m 0x4030 1 8)) ∧
      (u.dev.st = .standby → u.shadowHeld = false → u.rcp.measure = none → k = 2 → u.rd 0x4030 8 ≠ 0 →
        exec c s = .next (u.answer m 0x4030 1 5)) ∧
      (u.dev.st = .standby → u.shadowHeld = false → u.rcp.measure = none → (k = 2 → u.rd 0x4030 8 = 0) → bad.code ≠ 0 →
        exec c s = .next ((u.report bad).answer m 0x4030 1 10)) ∧
      (u.dev.st = .standby → u.shadowHeld = false → u.rcp.measure = none → (k = 2 → u.rd 0x4030 8 = 0) → bad.code = 0 →
        ∃ (t : State) (p : Capture), exec c s = .next t ∧ t.sh.capture = some p ∧ p.kind = k ∧ p.phase = .base ∧ p.recipe = r ∧
          p.planes = u.planesOf r ∧ p.begun = u.now ∧ p.done = 0 ∧ t.rd 0x4030 3 = 1 ∧ t.rd 0x4030 0xF = 0 ∧ t.bankState u.shadow = 1 ∧
          t.bankHolder u.shadow = 2 ∧ t.dev = u.dev ∧ t.sh.banks = u.sh.banks ∧ (t.master m).reply = ⟨0, [], []⟩)) ∧
    (∀ c : Capture, u.sh.capture = some c →
      (∀ b : Nat, b = 2 ∨ b = 3 → ∀ status : Nat, status ≤ 9 → let t := u.captureEnd c status b
        t.rd 0x4030 3 = status ∧ t.bankState u.shadow = b ∧ t.bankHolder u.shadow = 0 ∧ t.sh.capture = none ∧ t.can.lamp = false ∧
          t.sh.banks = u.sh.banks ∧ t.activeBank = u.activeBank ∧ ∃ p ∈ t.ev.pres, p.src = if b = 2 then 840 else 841) ∧
      (∀ m : Fin 17, u.masterPresent m = true → u.dev.ready = true →
        (u.groupsIdle = true → exec (.abortCapture dt m) s = .next ((u.captureEnd c 9 3).answer m 0x4030 2 0)) ∧
        (u.groupsIdle = false → exec (.abortCapture dt m) s = .next (
          ({ u with sh := { u.sh with capture := some { c with aborting := true } } } : State).answer m 0x4030 2 0))) ∧
      (u.groupsIdle = true → c.aborting = true → exec (.captureLineCycle dt) s = .next (u.captureEnd c 9 3)) ∧
      (cycleDue u c.par c.phase c.done c.rate c.since c.aborting = true → c.aborting = false →
        ∃ t : State, exec (.captureLineCycle dt) s = .next t ∧ t.rd 0x4030 0xF = (u.rd 0x4030 0xF + 1) % 2 ^ 32 ∧
          t.sh.capture = some { c with done := c.done + 1, since := u.now } ∧ t.rd 0x4030 3 = u.rd 0x4030 3 ∧
          ∀ g : Fin 16, u.groupRuns g = true → (u.group g).priming = false → (t.group g).due = some ⟨u.fine, u.rdN 0x4030 0xF, 3, 0⟩) ∧
      (c.phase = .base → ∃ (t : State) (p : Capture), exec (.captureBaseDone dt) s = .next t ∧ t.sh.capture = some p ∧
        (t.bank u.shadow).bytes = u.captureBase c ∧ t.activeBank = u.activeBank ∧
        (c.kind ≠ 2 → t.rd 0x4030 3 = 2 ∧ p.phase = .darkSettle) ∧
        (c.kind = 2 → t.rd 0x4030 3 = 3 ∧ p.phase = .waitLamp ∧ t.can.lampAsked = true)) ∧
      (u.groupsIdle = true → c.phase = .darkSettle ∨ c.phase = .whiteSettle → c.par.settle ≤ c.done →
        exec (.captureSettleDone dt) s = .next { u with sh := { u.sh with
          capture := some { c with phase := c.phase.average, done := 0, sumFrom := u.now } } }) ∧
      (u.groupsIdle = true → c.par.lines ≤ c.done → c.phase = .darkAverage → ∃ (t : State) (p : Capture),
        exec (.captureAveragingDone dt) s = .next t ∧ t.sh.capture = some p ∧
          p.dark = c.sumDark.map (fun v => satI16 (meanOf c.par.lines v)) ∧ (∀ n ∈ u.outNow, n ∈ p.skipped) ∧
          (c.kind = 3 → p.phase = .darkComputing ∧ t.rd 0x4030 3 = u.rd 0x4030 3) ∧
          (c.kind ≠ 3 → p.phase = .computing ∧ t.rd 0x4030 3 = 5)) ∧
      (u.groupsIdle = true → c.par.lines ≤ c.done → c.phase = .whiteAverage → ∃ (t : State) (p : Capture),
        exec (.captureAveragingDone dt) s = .next t ∧ t.sh.capture = some p ∧ p.phase = .computing ∧ t.rd 0x4030 3 = 5 ∧
          p.sumWhite = c.sumWhite ∧ (∀ n ∈ u.outNow, n ∈ p.skipped)) ∧
      (c.phase = .darkComputing → ∃ (t : State), exec (.captureComputeDone dt) s = .next t ∧
        t.sh.capture = some { c with phase := .waitLamp, since := u.now } ∧ t.rd 0x4030 3 = 3 ∧ t.can.lampAsked = true) ∧
      (u.can.lamp = true → c.phase = .waitLamp → exec (.captureLampGrant dt) s = .next { u.wr 0x4030 3 4 with
        sh := { u.sh with capture := some { c with phase := .whiteSettle, done := 0, since := u.now } } }) ∧
      (u.can.lamp = false → c.phase = .waitLamp → u.elapsed c.since 100000000 = true → u.activeBank ≤ 1 → ∃ t : State,
        exec (.captureLampGrantTimeout dt) s = .next t ∧ t.rd 0x4030 3 = 8 ∧ t.bankState u.shadow = 3 ∧ t.bankHolder u.shadow = 0 ∧
          t.sh.capture = none ∧ t.sh.banks = u.sh.banks ∧ ∃ p ∈ t.ev.pres, p.src = 841) ∧
      (c.phase = .computing → u.activeBank ≤ 1 →
        let b := (u.bank u.shadow).bytes
        let d := { c with skipped := union c.skipped u.outNow }
        let wr := if c.kind = 1 then default else d.white b
        let recs := (if c.kind = 2 then [] else d.records u b default false) ++ (if c.kind = 1 then [] else d.records u b wr true)
        ∃ t : State, exec (.captureComputeDone dt) s = .next t ∧ t.sh.capture = none ∧ t.bankHolder u.shadow = 0 ∧
          t.activeBank = u.activeBank ∧ t.bank u.activeBank = u.bank u.activeBank ∧ t.sh.report = recs.flatMap (fun q => q.2.2) ∧
          ((∃ q ∈ recs, q.2.1 = 2 ∨ q.2.1 = 3) →
            t.rd 0x4030 3 = 8 ∧ t.bankState u.shadow = 3 ∧ ∃ p ∈ t.ev.pres, p.src = 841) ∧
          ((∀ q ∈ recs, q.2.1 ≠ 2 ∧ q.2.1 ≠ 3) →
            (t.rd 0x4030 3 = 6 ∨ t.rd 0x4030 3 = 7) ∧ t.bankState u.shadow = 2 ∧ (t.bank u.shadow).bytes = d.content b wr ∧
              ∃ p ∈ t.ev.pres, p.src = 840)))

/-! ## Chapter 6: basis sets, recipes, blends and switches -/

/-- R142 to R146, R149: basis sets. A measurement is refused with code 7 outside Standby, 8 while the shadow is held, a capture or a
measurement runs or the set may not be written, 10 when its checks fail. Its dark average, lamp grant and tables follow one another;
a set it makes replaces set k, which is then written to NOR, or it leaves set k alone. An abort acts at once between line cycles, else
at the boundary. An import is refused with code 5 or 8, else set k takes what the shadow's plane gives. A set whose NOR copy is bad is
lost, which raises EV0853. -/
def Obligations.BasisSets : Prop :=
  ∀ (s : State) (dt : Nat), let u := s.pass dt
    (∀ (k : Fin 8) (b : List Byte), let t := u.takeBasis k b
      (vget t.rcp.basis k).bytes = b ∧ t.basisState k = 3 ∧ t.rd 0x4203 (k + 1) = Ty.u32.wrap b.length ∧
        Touch (fun i j => (i = 0x4202 ∧ j = k + 1) ∨ (i = 0x4203 ∧ j = k + 1) ∨ (i = 0x4200 ∧ j = 1)) u t ∧
        ∀ j : Fin 8, j ≠ k → vget t.rcp.basis j = vget u.rcp.basis j) ∧
    (∀ (m : Fin 17) (k : Fin 8), u.masterPresent m = true → u.dev.ready = true →
      let tables := u.rdN 0x4201 1
      let groups := (List.range tables).map (fun i => u.rdN 0x4201 (2 + i))
      let bad := firstFailed [u.item1, u.item3 (u.rateFor 1) converterLimit, u.tablesOff groups]
      let busy := u.shadowHeld || u.sh.capture.isSome || u.rcp.measure.isSome || u.basisBusy k
      (u.dev.st ≠ .standby → exec (.startMeasurement dt m k) s = .next (u.answer m 0x4200 3 7)) ∧
      (u.dev.st = .standby → busy = true → exec (.startMeasurement dt m k) s = .next (u.answer m 0x4200 3 8)) ∧
      (u.dev.st = .standby → busy = false → bad.code ≠ 0 →
        exec (.startMeasurement dt m k) s = .next ((u.report bad).answer m 0x4200 3 10)) ∧
      (u.dev.st = .standby → busy = false → bad.code = 0 → ∃ (t : State) (q : Measure), exec (.startMeasurement dt m k) s = .next t ∧
        t.rcp.measure = some q ∧ q.set = k ∧ q.tables = tables ∧ q.groups = groups ∧ q.phase = .darkSettle ∧ q.done = 0 ∧
        q.begun = u.now ∧ t.rd 0x4200 5 = 1 ∧ t.rd 0x4030 0xF = 0 ∧ t.dev = u.dev ∧ (t.master m).reply = ⟨0, [], []⟩)) ∧
    (∀ q : Measure, u.rcp.measure = some q →
      (∀ m : Fin 17, u.masterPresent m = true → u.dev.ready = true →
        (u.groupsIdle = true → exec (.abortMeasurement dt m) s = .next (((u.wr 0x4200 5 8).captureOver q.begun).answer m 0x4200 4 0)) ∧
        (u.groupsIdle = false → exec (.abortMeasurement dt m) s = .next (
          ({ u with rcp := { u.rcp with measure := some { q with aborting := true } } } : State).answer m 0x4200 4 0))) ∧
      (u.sh.capture = none → u.groupsIdle = true → q.aborting = true →
        exec (.captureLineCycle dt) s = .next ((u.wr 0x4200 5 8).captureOver q.begun)) ∧
      (u.groupsIdle = true → q.par.lines ≤ q.done → q.phase = .darkAverage → ∃ (t : State) (p : Measure),
        exec (.measurementPhaseDone dt) s = .next t ∧ t.rcp.measure = some p ∧ p.phase = .waitLamp ∧ t.rd 0x4200 5 = 2 ∧
          t.can.lampAsked = true ∧ p.dark = q.sum.map (fun v => satI16 (meanOf q.par.lines v))) ∧
      (u.groupsIdle = true → q.par.lines ≤ q.done → q.phase = .whiteAverage → ∃ (t : State) (p : Measure),
        exec (.measurementPhaseDone dt) s = .next t ∧ t.rcp.measure = some p ∧ p.table = q.table + 1 ∧
          p.resp = q.resp ++ [q.sum.map (fun v => (limit 0 65535 (meanOf q.par.lines v)).toNat)] ∧
          (q.table + 1 < q.tables → p.phase = .whiteSettle ∧ t.rd 0x4200 5 = u.rd 0x4200 5) ∧
          (q.tables ≤ q.table + 1 → p.phase = .computing ∧ t.rd 0x4200 5 = 4)) ∧
      (q.phase = .computing →
        let d := { q with skipped := union q.skipped u.outNow }
        let fails := u.mapSlices.any (fun (n, o, len) => !d.skipped.contains n && (List.range d.tables).any (d.fails o len))
        ∃ t : State, exec (.measurementComplete dt) s = .next t ∧ t.rcp.measure = none ∧
          (fails = true → t.rd 0x4200 5 = 7 ∧ t.rcp.basis = u.rcp.basis ∧ ∃ p ∈ t.ev.pres, p.src = 851) ∧
          (fails = false → (t.rd 0x4200 5 = 5 ∨ t.rd 0x4200 5 = 6) ∧ (∃ p ∈ t.ev.pres, p.src = 850) ∧
            (q.set < 8 → (vget t.rcp.basis q.set).bytes = u.measured d ∧ t.basisState q.set = 3)))) ∧
    (∀ (m : Fin 17) (k t p : Nat), k < 256 → t < 16 → p < 16 → u.masterPresent m = true → u.dev.ready = true →
      let v := k * 256 + t * 16 + p
      (8 ≤ k ∨ 6 ≤ t ∨ 4 ≤ p → exec (.importCapturePlane dt m v) s = .next (u.answer m 0x4200 6 5)) ∧
      (k < 8 → t < 6 → p < 4 → u.basisBusy k = true → exec (.importCapturePlane dt m v) s = .next ((u.wr 0x4200 7 8).answer m 0x4200 6 8)) ∧
      (k < 8 → t < 6 → p < 4 → u.basisBusy k = false → u.importSet k t p = none →
        exec (.importCapturePlane dt m v) s = .next ((u.wr 0x4200 7 5).answer m 0x4200 6 5)) ∧
      (∀ b : List Byte, k < 8 → t < 6 → p < 4 → u.basisBusy k = false → u.importSet k t p = some b →
        exec (.importCapturePlane dt m v) s = .next (
          ({ u.wr 0x4200 7 0 with rcp := { u.rcp with importing := some k, imported := b } } : State).answer m 0x4200 6 0))) ∧
    (∀ k : Nat, u.rcp.importing = some k → exec (.importComplete dt) s = .next
      (let t := (u.takeBasis k u.rcp.imported).wr 0x4200 7 1; { t with rcp := { t.rcp with importing := none, imported := [] } })) ∧
    (∀ k : Fin 8,
      (u.basisState k = 3 → ∃ t : State, exec (.basisNorWriteDone dt k) s = .next t ∧ t.basisState k = 2 ∧
        vget t.rcp.basis k = { vget u.rcp.basis k with nor := (vget u.rcp.basis k).bytes } ∧
        Touch (fun i j => (i = 0x4202 ∧ j = k + 1) ∨ (i = 0x4200 ∧ j = 1)) u t) ∧
      (u.rcp.stood = true → u.loadOrder.head? = some k.val → exec (.basisSetLoadDone dt k true) s =
        .next ((u.updBasis k (fun q => { q with bytes := q.nor })).wr 0x4202 (k + 1) 2)) ∧
      (u.rcp.stood = true → u.loadOrder.head? = some k.val → ∃ t : State, exec (.basisSetLoadDone dt k false) s = .next t ∧
        t.basisState k = 0 ∧ vget t.rcp.basis k = ⟨[], []⟩ ∧ t.rd 0x4203 (k + 1) = 0 ∧ ∃ p ∈ t.ev.pres, p.src = 853)) ∧
    (∀ r : Fin 32, bit u.rcp.writing r = true → ∃ t : State, exec (.recipeNorWriteDone dt r) s = .next t ∧
      vget t.rcp.norRecipes r = vget u.rcp.recipes r ∧ t.rcp.recipes = u.rcp.recipes ∧ bit t.rcp.writing r = false ∧
      (u.rd 0x4240 (r + 1) ≠ 2 → t.rd 0x4240 (r + 1) = 1) ∧ (u.rd 0x4240 (r + 1) = 2 → t.rd 0x4240 (r + 1) = 2) ∧
      Touch (fun i j => i = 0x4240 ∧ j = r + 1) u t)

/-- R152 to R161: arming, blend and switch. An arm is refused with code 7, 8 or 10; else the shadow is held for the blend engine and the
status is 1. The blend starts at the Canteen's grant with the set valid (status 2) and ends with a ready shadow held by the pending swap
(status 4, 3 for the startup build) or with status 7. A condition met before the shadow is ready defers the switch (status 5, EV0846).
The switch gives the new recipe and job, swaps the banks, counts and raises EV0845; the startup build's does neither. A disarm cancels
with status 8 unless the switch trigger is fixed (code 8). -/
def Obligations.RecipeSwitches : Prop :=
  ∀ (s : State) (dt : Nat), let u := s.pass dt
    (∀ m : Fin 17, u.masterPresent m = true → u.dev.ready = true →
      let src := u.rdN 0x4210 5
      let r := u.rdN 0x4210 3
      let early := u.dev.st = .trailhead ∨ u.dev.st = .bivouac ∨ (src = 1 ∧ u.rd 0x2050 1 ≠ 1 ∧ u.rd 0x2050 1 ≠ 2)
      let busy := u.rcp.armed.isSome = true ∨ u.shadowHeld = true ∨ u.sh.capture.isSome = true ∨ u.rcp.measure.isSome = true
      (early → exec (.armSwitch dt m) s = .next (u.answer m 0x4210 7 7)) ∧
      (¬ early → busy → exec (.armSwitch dt m) s = .next (u.answer m 0x4210 7 8)) ∧
      (¬ early → ¬ busy → u.rd 0x4240 (r + 1) ≠ 1 → exec (.armSwitch dt m) s = .next (
        (u.report ⟨9, if u.rd 0x4240 (r + 1) = 0 then 0 else u.rdN 0x4241 (r + 1), 0, r⟩).answer m 0x4210 7 10)) ∧
      (∀ c : CheckResult, ¬ early → ¬ busy → u.rd 0x4240 (r + 1) = 1 → u.item6 (u.recipe r) = some c →
        exec (.armSwitch dt m) s = .next ((u.report c).answer m 0x4210 7 10)) ∧
      (¬ early → ¬ busy → u.rd 0x4240 (r + 1) = 1 → u.item6 (u.recipe r) = none → ∃ (t : State) (a : Armed),
        exec (.armSwitch dt m) s = .next t ∧ t.rcp.armed = some a ∧ a.recipe = r ∧ a.job = u.rdN 0x4210 4 ∧ a.source = src ∧
          a.pos = u.rdN 0x4210 6 ∧ a.startup = false ∧ a.phase = 1 ∧ a.cond = none ∧ a.deferred = false ∧ t.rd 0x4210 0xA = 1 ∧
          t.bankHolder u.shadow = 3 ∧ t.can = { u.can with blendOk := false } ∧ (t.master m).reply = ⟨0, [], []⟩) ∧
      (u.rcp.armed = none → exec (.disarmSwitch dt m) s = .next (u.answer m 0x4210 8 0) ∧
        exec (.switchNow dt m) s = .next (u.answer m 0x4210 9 5)) ∧
      (∀ a : Armed, u.rcp.armed = some a →
        (a.fixed = true → exec (.disarmSwitch dt m) s = .next (u.answer m 0x4210 8 8)) ∧
        (a.fixed = false → ∃ t : State, exec (.disarmSwitch dt m) s = .next t ∧ t.rcp.armed = none ∧ t.rd 0x4210 0xA = 8 ∧
          t.bankHolder u.shadow = 0 ∧ (a.phase = 1 → t.bankState u.shadow = u.bankState u.shadow) ∧
          (2 ≤ a.phase → a.phase ≤ 3 → t.bankState u.shadow = 3) ∧
          (a.phase = 2 → t.rd 0x4210 0xB = 5 ∧ ∃ p ∈ t.ev.pres, p.src = 848)) ∧
        (a.source ≠ 0 ∨ a.startup = true → exec (.switchNow dt m) s = .next (u.answer m 0x4210 9 5)) ∧
        (a.source = 0 → a.startup = false → a.cond.isSome = true → exec (.switchNow dt m) s = .next (u.answer m 0x4210 9 0)) ∧
        (a.source = 0 → a.startup = false → a.cond = none → a.phase = 3 → exec (.switchNow dt m) s = .next (
          (u.setArmed (some { a with cond := some u.fine })).answer m 0x4210 9 0)) ∧
        (a.source = 0 → a.startup = false → a.cond = none → a.phase ≠ 3 → exec (.switchNow dt m) s = .next (
          (((u.setArmed (some { a with cond := some u.fine, deferred := true })).wr 0x4210 0xA 5).raise1 846 0).answer m 0x4210 9 0)))) ∧
    (∀ a : Armed, u.rcp.armed = some a →
      (∀ trig : Option (Nat × Nat × Int), u.activeBank ≤ 1 → a.recipe < 256 → a.job < 65536 → let t := u.makeSwitch a trig
        t.rcp.armed = none ∧ t.activeRecipe = a.recipe ∧ t.activeBank = u.shadow ∧ t.rd 0x4210 0xA = 6 ∧
          (∃ p ∈ t.ev.pres, p.src = 842) ∧
          (a.startup = false → t.rd 0x4210 2 = a.job ∧ t.rd 0x4210 0x12 = (u.rd 0x4210 0x12 + 1) % 2 ^ 32 ∧ ∃ p ∈ t.ev.pres, p.src = 845) ∧
          (a.startup = true → t.rd 0x4210 2 = (u.rdN 0x4210 2 : Nat) % 65536 ∧ t.rd 0x4210 0x12 = u.rd 0x4210 0x12 ∧ t.rcp.switches = u.rcp.switches) ∧
          (trig = none → t.rd 0x4210 0xC = 0 ∧ t.rd 0x4210 0xD = 0 ∧ t.rd 0x4210 0xE = u.fine ∧ t.rcp.switches = u.rcp.switches) ∧
          (∀ (line time : Nat) (pos : Int), trig = some (line, time, pos) →
            t.rd 0x4210 0xC = line % 2 ^ 32 ∧ t.rd 0x4210 0xE = time % 2 ^ 64 ∧ t.sh.change = some ⟨line, u.shadow, a.recipe⟩)) ∧
      (a.due.isSome = true → exec (.recipeSwitch dt) s = .next (u.makeSwitch a (if u.live then a.due else none))) ∧
      (a.due = none → u.dev.st = .standby → a.phase = 3 → a.cond.isSome = true →
        exec (.recipeSwitch dt) s = .next (u.makeSwitch a none)) ∧
      (u.can.blendOk = true → a.phase = 1 → u.basisState (rBasis (u.recipe a.recipe)) = 2 ∨ u.basisState (rBasis (u.recipe a.recipe)) = 3 →
        ∃ (t : State) (b : Armed), exec (.blendStart dt) s = .next t ∧ t.rcp.armed = some b ∧ b.phase = 2 ∧ b.granted = u.now ∧
          b.minWhite = u.rdN 0x4030 0xD ∧ b.maxDef = u.rdN 0x4030 0xE ∧ t.bankState u.shadow = 1 ∧ t.bankHolder u.shadow = 3 ∧
          t.can = { u.can with blendOk := false } ∧ t.rd 0x4210 0xA = if a.deferred then u.rd 0x4210 0xA else 2) ∧
      (a.phase = 2 → u.activeBank ≤ 1 →
        let own := if a.ownDark = true ∨ u.bankState u.activeBank ≠ 2 then none else some (u.bank u.activeBank).bytes
        ∃ t : State, exec (.blendComplete dt) s = .next t ∧ t.rd 0x4210 0x14 = ((u.now - a.granted) / 1000 : Nat) % 2 ^ 32 ∧
          (u.basisBytes (rBasis (u.recipe a.recipe)) = none → t.rcp.armed = none ∧ t.rd 0x4210 0xA = 7 ∧ t.rd 0x4210 0xB = 4 ∧
            t.bankState u.shadow = 3 ∧ ∃ p ∈ t.ev.pres, p.src = 848) ∧
          (∀ b : List Byte, u.basisBytes (rBasis (u.recipe a.recipe)) = some b →
            (∀ c : Nat, blend (u.recipe a.recipe) b a.recipe a.minWhite a.maxDef own = .error c →
              t.rcp.armed = none ∧ t.rd 0x4210 0xA = 7 ∧ t.rd 0x4210 0xB = c % 256 ∧ t.bankState u.shadow = 3 ∧ t.bankHolder u.shadow = 0 ∧
                t.activeRecipe = u.activeRecipe ∧ ∃ p ∈ t.ev.pres, p.src = 848) ∧
            (∀ bytes : List Byte, blend (u.recipe a.recipe) b a.recipe a.minWhite a.maxDef own = .ok bytes →
              t.rcp.armed = some { a with phase := 3, readyAt := u.fine } ∧ t.bank u.shadow = ⟨bytes, []⟩ ∧ t.bankState u.shadow = 2 ∧
                t.bankHolder u.shadow = 5 ∧ t.rd 0x4210 0xB = 1 ∧
                t.rd 0x4210 0xA = if a.deferred then u.rd 0x4210 0xA else if a.startup then 3 else 4)))) ∧
    (u.startupReady = true → ∃ (t : State) (a : Armed), exec (.startupBuild dt) s = .next t ∧ t.rcp.armed = some a ∧
      a.recipe = u.activeRecipe ∧ a.startup = true ∧ a.cond = some u.fine ∧ a.phase = 1 ∧ t.rcp.startupDue = false ∧
      t.rd 0x4210 0xA = 1 ∧ t.bankHolder u.shadow = 3)

/-! ## Chapter 7: output lines and seams -/

/-- R164, R169, R173, R183, R188, R205: output lines. When the slices may run, every closed frame is read and the next line is made if it is
decided: its number is the grid's next, its position the grid's, its planes and width the recipe's, every pixel present; it is
delivered. A line omitted through a forced trim is counted, the first of a run raises EV0857. When no line is left after a peg stop,
the peg is the last line made: shown, counted, announced by EV0583. -/
def Obligations.OutputLines : Prop :=
  ∀ (s : State) (dt : Nat) (bad : List (Nat × Nat)), let u := s.pass dt
    let v := u.ridgeReady bad
    ((u.live = false ∨ u.stalled = true) → exec (.outputLineProduced dt bad) s = .next u) ∧
    (u.live = true → u.stalled = false →
      (v.ridgeLine false = none → v.trn.pegOwed = none ∨ v.exposuresDone = false → exec (.outputLineProduced dt bad) s = .next v) ∧
      (v.ridgeLine false = none → v.trn.pegOwed.isSome = true → v.exposuresDone = true →
        ∃ t : State, exec (.outputLineProduced dt bad) s = .next t ∧ t = v.fixPeg ∧ t.trn.pegOwed = none ∧
          t.rd 0x4804 8 = ((v.rdg.next + 2 ^ 32 - 1) % 2 ^ 32 : Nat) ∧ t.rd 0x4804 0xB = (v.rd 0x4804 0xB + 1) % 2 ^ 32 ∧
          ∃ p ∈ t.ev.pres, p.src = 583) ∧
      (∀ (t : State) (ls : List OutLine), v.ridgeLine false = some (t, ls) →
        exec (.outputLineProduced dt bad) s = .next (t.deliverLines ls))) ∧
    (∀ (force : Bool) (t : State) (ls : List OutLine) (g : Grid) (r : List Grid), v.rdg.grids = g :: r →
      v.ridgeLine force = some (t, ls) →
      g.anchor.isSome = true ∧ t.rdg.next = (v.rdg.next + 1) % 2 ^ 32 ∧ t.rdg.count = v.rdg.count + 1 ∧ t.rdg.grids = v.rdg.grids ∧
        (∀ l ∈ ls, l.num = v.rdg.next ∧ l.pos = g.at_ v.rdg.next ∧ l.recipe = g.recipe ∧ l.job = g.job ∧
          l.planes.length = rP g.bytes ∧ ∀ p ∈ l.planes, p.length = l.width) ∧
        (ls = [] → (∃ q, t.rdg.omitted = some q) ∧ (v.rdg.omitted = none → t.rdg.omitted = some (v.rdg.next, 1) ∧ ∃ p ∈ t.ev.pres, p.src = 857)))

/-- R181, R182, R187: the guy-line. A window of 1,024 lines that ends makes a result; with fewer than 512 lines used, a peak below the
threshold or a cut, the targets stay, and they never leave their limits when it moves them. Every 64 lines each seam that is not frozen
moves one part by one step toward its target. A freeze ends after its lines; a reset clears the targets, in Standby the applied values
too. -/
def Obligations.GuyLine : Prop :=
  ∀ (s : State) (dt : Nat), let u := s.pass dt
    (∀ (old mean r : Int) (g lim : Nat), let q := seamTarget old mean r g lim
      ((-(lim : Int) ≤ q.1) ∧ q.1 ≤ lim ∧ (q.2 = false → q.1 = old + ((mean + r) - old) / 2 ^ g))) ∧
    (∀ (q : Seam) (n : Nat), let t := q.step n
      t.shiftT = q.shiftT ∧ t.stretchT = q.stretchT ∧ (t.shiftA = q.shiftA ∨ t.stretchA = q.stretchA) ∧
        (t.shiftA - q.shiftA).natAbs ≤ 1 ∧ (t.shiftA - q.shiftT).natAbs ≤ (q.shiftA - q.shiftT).natAbs ∧
        (t.stretchA - q.stretchA).natAbs ≤ nearest 65536 (max 1 n) ∧
        (t.stretchA - q.stretchT).natAbs ≤ (q.stretchA - q.stretchT).natAbs ∧
        (n ≤ 131072 → (t = q ↔ q.shiftA = q.shiftT ∧ q.stretchA = q.stretchT))) ∧
    (∀ (i : Fin 31) (ratio : Rat) (cut : Bool), let q := u.seam i
      let t := u.windowEnd i ratio cut
      (t.seam i).lines = 0 ∧ (t.seam i).shiftA = q.shiftA ∧ (t.seam i).stretchA = q.stretchA ∧
        (cut = true ∨ q.used < 512 ∨ min (peakOf q.near).1 (peakOf q.far).1 < q.par.threshold →
          (t.seam i).shiftT = q.shiftT ∧ (t.seam i).stretchT = q.stretchT) ∧
        (cut = false → 512 ≤ q.used → min (peakOf q.near).1 (peakOf q.far).1 < q.par.threshold → q.lowTold = false →
          ∃ p ∈ t.ev.pres, p.src = 855) ∧
        (cut = false → 512 ≤ q.used → (q.par.threshold : Int) ≤ min (peakOf q.near).1 (peakOf q.far).1 →
          (t.seam i).shiftT.natAbs ≤ q.par.shiftLimit ∧ (t.seam i).stretchT.natAbs ≤ q.par.stretchLimit) ∧
        t.rdN (0x4460 + i) 1 % 2 ^ 24 = nextResult (u.rdN (0x4460 + i) 1) ∧ (∀ j : Fin 32, j.val ≠ i.val → t.seam j = u.seam j)) ∧
    (∃ t : State, exec (.guylineWindowEnd dt) s = .next t ∧ (∀ i : Fin 31, (t.seam i).lines < 1024) ∧
      (∀ i : Fin 32, (u.seam i).lines < 1024 ∨ i = 31 → t.seam i = u.seam i) ∧ t.rdg.grids = u.rdg.grids) ∧
    (u.rdg.count < u.rdg.slewed + 64 → exec (.guylineSlewStep dt) s = .next u) ∧
    (u.rdg.slewed + 64 ≤ u.rdg.count → ∃ t : State, exec (.guylineSlewStep dt) s = .next t ∧ t.rdg.slewed = u.rdg.slewed + 64 ∧
      t.dict = u.dict ∧ ∀ i : Fin 32,
        t.seam i = if u.rd 0x4443 1 = 0 ∨ i.val ∉ u.usedSegments ∨ u.seamFrozen i = true then u.seam i
          else (u.seam i).step (u.nPx (u.outerOf i))) ∧
    (∃ t : State, exec (.seamFreezeEnd dt) s = .next t ∧ t.dict = u.dict ∧ ∀ i : Fin 32,
      (∀ f : Nat, (u.seam i).freeze = some f → t.seam i = if f ≤ u.rdg.count then { u.seam i with freeze := none } else u.seam i) ∧
      ((u.seam i).freeze = none → t.seam i = u.seam i)) ∧
    (∀ m : Fin 17, u.masterPresent m = true → u.dev.ready = true → ∃ t : State, exec (.resetEstimates dt m) s = .next t ∧
      (t.master m).reply = ⟨0, [], []⟩ ∧ ∀ i : Fin 32, t.seam i =
        if u.dev.st = .standby then { u.seam i with shiftT := 0, stretchT := 0, shiftA := 0, stretchA := 0 }
        else { u.seam i with shiftT := 0, stretchT := 0 })

/-! ## Chapter 8: encoder, table, Casby -/

/-- R191 to R197: the encoder. A count edge moves the position by one in the direction of the sequence; both inputs changing at once is
illegal: counted, not a position, EV0576 at the first of a run; while A or B is flagged nothing counts. A Z edge latches position and
time, applies a pending zero, and a wrong count per revolution is counted and raises EV0578. A line fault sets its status bit and
raises EV0577; restored inputs raise EV0587 inline. Press mismatch, overspeed and the end of the status bits follow their
conditions. -/
def Obligations.EncoderInputs : Prop :=
  ∀ (s : State) (dt : Nat), let u := s.arrive dt
    let w := s.pass dt
    (∀ a b : Bool,
      (u.trn.counting = false → exec (.encoderEdge dt a b) s = .next u) ∧
      (u.trn.counting = true → u.encBit 0 = true ∨ u.encBit 1 = true →
        exec (.encoderEdge dt a b) s = .next (u.updTrn (fun x => { x with encA := a, encB := b }))) ∧
      (u.trn.counting = true → u.encBit 0 = false → u.encBit 1 = false → a ≠ u.trn.encA → b ≠ u.trn.encB →
        ∃ t : State, exec (.encoderEdge dt a b) s = .next t ∧ t.trn = { u.trn with encA := a, encB := b, illegal := some u.now } ∧
          t.rd 0x4801 9 = (u.rd 0x4801 9 + 1) % 2 ^ 32 ∧ t.tim = u.tim ∧
          ((∀ i : Nat, u.trn.illegal = some i → i + 1000000 ≤ u.now) → ∃ p ∈ t.ev.pres, p.src = 576) ∧
          (∀ i : Nat, u.trn.illegal = some i → u.now < i + 1000000 → t.ev = u.ev)) ∧
      (u.trn.counting = true → u.encBit 0 = false → u.encBit 1 = false → (a ≠ u.trn.encA ↔ b = u.trn.encB) →
        ∃ t : State, exec (.encoderEdge dt a b) s = .next t ∧ t.trn.encA = a ∧ t.trn.encB = b ∧
          ((if a ≠ u.trn.encA then a ≠ b else a = b) →
            t.trn.enc = u.trn.enc + (if u.rd 0x4801 1 = 0 then 1 else -1)) ∧
          (¬ (if a ≠ u.trn.encA then a ≠ b else a = b) →
            t.trn.enc = u.trn.enc + (if u.rd 0x4801 1 = 0 then -1 else 1)))) ∧
    (∀ i : Nat, w.trn.illegal = some i → i + 1000000 ≤ w.now →
      exec (.illegalRunEnd dt) s = .next (w.updTrn (fun x => { x with illegal := none }))) ∧
    (u.trn.counting = true → u.rd 0x4801 3 = 1 → u.encBit 2 = false → ∃ t : State, exec (.encoderZEdge dt) s = .next t ∧
      t.trn.zeroNext = false ∧ t.rd 0x4801 7 = u.fine ∧ t.trn.lastZ = some t.reported ∧ t.rd 0x4801 6 = t.reported ∧
      (u.trn.zeroNext = true → t.reported = 0 ∧ t.ev = u.ev) ∧ (u.trn.zeroNext = false → t.reported = u.reported ∧
        ∀ z : Int, u.trn.lastZ = some z → u.rd 0x4801 4 ≠ 0 →
          (4 < (((Ty.i32.wrap ((u.reported : Int) - z)).natAbs : Int) - u.rd 0x4801 4).natAbs →
            t.rd 0x4801 0xA = (u.rd 0x4801 0xA + 1) % 2 ^ 32 ∧ ∃ p ∈ t.ev.pres, p.src = 578) ∧
          ((((Ty.i32.wrap ((u.reported : Int) - z)).natAbs : Int) - u.rd 0x4801 4).natAbs ≤ 4 → t.ev = u.ev))) ∧
    (∀ m : Fin 17, w.masterPresent m = true → w.dev.ready = true →
      exec (.zeroAtNextZ dt m) s = .next ((w.updTrn (fun x => { x with zeroNext := true })).answer m 0x4801 5 0)) ∧
    (∀ pair : Fin 3,
      (u.trn.counting = true → u.encBit pair = false →
        exec (.encoderLineOpen dt pair) s = .next ((u.wrBit 0x4801 8 pair true).raise1 577 0)) ∧
      (u.encBit pair = true → ∃ t : State, exec (.encoderLineRestored dt pair) s = .next t ∧ t.encBit pair = false ∧
        (∀ k : Nat, k < 8 → k ≠ pair.val → t.encBit k = u.encBit k) ∧
        (pair.val < 2 → u.encBit (1 - pair) = false → u.paced = false → u.casbyPosition = false → ∃ p ∈ t.ev.pres, p.src = 587) ∧
        (pair.val = 2 ∨ u.encBit (1 - pair) = true ∨ u.paced = true ∨ u.casbyPosition = true →
          t = u.wrBit 0x4801 8 pair false))) ∧
    (w.pressMismatch = true → exec (.pressSpeedMismatch dt) s = .next (
      (if w.encBit 5 then w else (w.wrBit 0x4801 8 5 true).raise1 585 0).updTrn (fun x => { x with mismatchAt := w.now }))) ∧
    (w.paced = false → w.trn.overTold = false → w.rd 0x4800 5 < w.encoderSpeed →
      exec (.pressOverspeed dt) s = .next ((w.raise1 586 0).updTrn (fun x => { x with overTold := true }))) ∧
    (w.encBit 3 = true ∨ w.encBit 5 = true → ∃ t : State, exec (.encoderStatusClear dt) s = .next t ∧
      t.encBit 3 = (w.encBit 3 && !w.elapsed w.trn.reversedAt 100000000) ∧
      t.encBit 5 = (w.encBit 5 && !(!w.pressMismatch && w.elapsed w.trn.mismatchAt 100000000)) ∧
      Touch (fun i j => i = 0x4801 ∧ j = 8) w t) ∧
    (∀ (e : Nat × Int) (r : List (Nat × Int)), u.trn.stopped = false → u.trn.edges = e :: r → e.1 + u.tStop ≤ u.fine →
      exec (.transportStopTimeout dt) s = .next (u.updTrn (fun x => { x with stopped := true })))

/-- R198, R201 to R208: the paced table. A STEP edge that reaches the next trigger point makes one trigger and moves the point by the
pitch. The profile keeps its acceleration limit. Every pacing period shows fill and drain and stops at the stop fill, restarts below
the resume fill, or sets the speed between 0 and v_lim. A stop goes by way of the peg (states 2, 3, then 4, or 6 after a fault) to a
restart (5). A motor fault raises EV0582, stops STEP at once and releases MEN, which else is released the hold time after rest. -/
def Obligations.PacedTable : Prop :=
  ∀ (s : State) (dt : Nat), let u := s.arrive dt
    let w := s.pass dt
    (∀ (t : Nat) (p q : Int) (o : Nat), u.trn.nextPoint = some q →
      (p * 2 ^ 8 < q → u.divide t p o = u) ∧
      (q ≤ p * 2 ^ 8 → (u.divide t p o).trn.nextPoint = some (q + u.rd 0x4802 1) ∧
        (u.divide t p o).rd 0x4802 3 = (u.rd 0x4802 3 + 1) % 2 ^ 32)) ∧
    (∀ (t : Nat) (p : Int), u.drivesStep = true → u.dev.st = .scanning → u.rd 0x2050 1 = 2 ∨ u.rd 0x2050 1 = 3 →
      u.pacing = 1 ∨ u.pacing = 5 → u.pointEdge = some (t, p) → exec (.pacedGeneratorTrigger dt) s = .next (u.divide t p 1)) ∧
    (∀ v a target aMax dj j : Int, 0 ≤ dj → 0 ≤ aMax → a.natAbs ≤ aMax.natAbs →
      (profileStep v a target aMax dj j).2.natAbs ≤ aMax.natAbs) ∧
    (u.paced = true → u.drivesStep = true → u.trn.prof.upTo + 10000 ≤ u.now →
      (u.trn.prof.v = 0 → u.trn.prof.a = 0 → u.trn.prof.target = 0 →
        exec (.profileUpdate dt) s = .next (u.updProf (fun p => { p with upTo := u.now }))) ∧
      (u.trn.prof.v ≠ 0 ∨ u.trn.prof.a ≠ 0 ∨ u.trn.prof.target ≠ 0 → ∃ t : State, exec (.profileUpdate dt) s = .next t ∧
        t.trn.prof.upTo = u.trn.prof.upTo + 10000 ∧ t.trn.steps = t.trn.prof.travel / 2 ^ 24)) ∧
    (u.live = true → u.drivesStep = true →
      let f := (u.pacedPeers.map (·.fill)).foldl max u.ownFill
      let ld := (u.pacedPeers.map (·.drain)).foldl min u.drainLines
      let z := (u.wr 0x4804 6 f).wr 0x4804 7 (u.drained * 5 / 4)
      (u.pacing = 1 → u.dev.st = .scanning → u.rdN 0x4804 2 ≤ f → exec (.pacingPeriod dt) s = .next (z.pegStop 1)) ∧
      (u.pacing = 1 → u.dev.st = .scanning → f < u.rdN 0x4804 2 →
        let v := limit 0 u.vLim (u.rateSpeed ld u.cNow + u.vLim * u.rdN 0x4804 4 * ((u.rdN 0x4804 1 : Int) - f) / (256 * 1000))
        (fmps (u.rdN 0x4803 9) ≤ v → exec (.pacingPeriod dt) s =
          .next ((z.updTrn (fun x => { x with slow := 0 })).readyMotor.headFor v)) ∧
        (v < fmps (u.rdN 0x4803 9) → 199 ≤ u.trn.slow → exec (.pacingPeriod dt) s =
          .next ((z.updTrn (fun x => { x with slow := x.slow + 1 })).pegStop 2))) ∧
      (u.pacing = 4 → u.restartDue f = true → exec (.pacingPeriod dt) s = .next z.beginRestart) ∧
      (u.pacing = 0 ∨ u.pacing = 6 ∨ (u.pacing = 4 ∧ u.restartDue f = false) → exec (.pacingPeriod dt) s = .next z)) ∧
    (∀ cause : Nat, cause < 256 → u.pacing = 1 → let t := u.pegStop cause
      t.pacing = 2 ∧ t.rd 0x4804 0xA = cause ∧ t.trn.pegOwed = some cause ∧ t.trn.prof.target = 0 ∧ t.trn.decided = u.fine ∧
        fmps (u.rdN 0x4803 9) ≤ t.trn.vr) ∧
    (u.pacing = 2 → u.trn.prof.v = 0 → u.trn.prof.a = 0 → u.trn.prof.target = 0 →
      ∃ t : State, exec (.decelerationDone dt) s = .next t ∧ (u.live = false → t.pacing = 0) ∧
        (u.live = true → t.pacing = 3 ∧ t.trn.pegOwed = none)) ∧
    (u.pacing = 3 → u.trn.prof.v = 0 → u.trn.prof.stopAt = some u.trn.prof.travel →
      ∃ t : State, exec (.backingDone dt) s = .next t ∧
        (u.trn.restart = false → t.pacing = (if u.rd 0x4804 0xA = 4 ∨ u.rd 0x4804 0xA = 5 then 6 else 4) ∧ t.trn.restAt = some u.now) ∧
        (u.trn.restart = true → t.pacing = 5 ∧ t.trn.afterPeg = true ∧ t.trn.prof.target = min u.trn.vr u.vLim)) ∧
    (u.drivesStep = true → ∃ t : State, exec (.motorFault dt) s = .next t ∧ t.trn.men = false ∧ t.trn.prof.v = 0 ∧
      t.trn.faultAt = some u.now ∧ (∃ p ∈ t.ev.pres, p.src = 582) ∧ (u.live = true → t.pacing = 6 ∧ t.rd 0x4804 0xA = 4)) ∧
    (∀ r : Nat, w.trn.men = true → w.rd 0x4803 4 ≠ 0 → w.trn.prof.v = 0 → w.trn.restAt = some r →
      r + w.rdN 0x4803 4 * 1000000 ≤ w.now → exec (.motorEnableHoldExpiry dt) s = .next (w.updTrn (fun x => { x with men := false })))

/-- R212 to R219: the Casby ring. A frame is read back from its bytes; a bad one is counted and raises EV0604. Lock, pair swap, elections,
time frames, triggers, job switches, activations, heartbeats, a peer's loss and the open ring act as the rules give them. -/
def Obligations.CasbyRing : Prop :=
  (∀ f : Frame, f.type_ < 6 → f.origin < 8 → f.seq < 256 → f.payload.length = payloadLength f.type_ →
    frameOf true f.bytes = some f ∧ frameOf false f.bytes = none) ∧
  (∀ (s : State) (dt : Nat), let u := s.arrive dt
    (∀ inverted : Bool, u.casbyState = 1 → let v := b2n u.csb.swapped + 2 * b2n inverted
      ∃ t : State, exec (.casbyPortLock dt inverted) s = .next t ∧ t.casbyState = 2 ∧ t.rd 0x4880 0xC = v ∧
        t.csb = { u.csb with locked := true, lockedAt := u.now, heardTime := none, trigIn := none } ∧
        (v ≠ 0 → ∃ p ∈ t.ev.pres, p.src = 600)) ∧
    (u.casbyState = 1 → u.csb.tryAt ≤ u.now → exec (.casbyPairSwapTry dt) s =
      .next (u.updCsb (fun c => { c with swapped := !c.swapped, tryAt := u.now + dwell }))) ∧
    (∀ (symbols : Bool) (bs : List Byte) (c : Instr),
      c = .casbyElectionFrame dt symbols bs ∨ c = .casbyTimeFrame dt symbols bs ∨ c = .casbyTriggerFrame dt symbols bs ∨
        c = .casbyJobSwitchFrame dt symbols bs ∨ c = .casbyActivationFrame dt symbols bs ∨ c = .casbyHeartbeatFrame dt symbols bs →
      (u.onRing = false → exec c s = .next u) ∧
      (u.onRing = true → frameOf symbols bs = none → exec c s = .next ((u.bump 0x4880 0x10).raise1 604 0))) ∧
    (∀ (type_ : Nat) (payload : List Byte), u.onRing = true → (u.sendFrame type_ payload).csb.sent.head? =
      some ⟨type_, u.rdN 0x4880 0xA, vget u.csb.seqs type_, payload⟩ ∧ (u.sendFrame type_ payload).dict = u.dict) ∧
    (u.casbyState = 2 ∨ u.casbyState = 4 → max u.csb.lockedAt (u.csb.heardTime.getD 0) + 10000000 ≤ u.now →
      ∃ t : State, exec (.casbyElectionStart dt) s = .next t ∧ t.casbyState = 3 ∧ t.csb.beaten = false ∧ t.csb.electAt = u.now ∧
        ∃ f ∈ t.csb.sent, f.type_ = 0 ∧ f.payload = u.ownElection false) ∧
    (u.casbyState = 3 → u.csb.beaten = false → u.csb.electAt + 1000000 ≤ u.now →
      exec (.casbyElectionSend dt) s = .next ((u.sendFrame 0 (u.ownElection false)).updCsb (fun c => { c with electAt := u.now }))) ∧
    (∀ (symbols : Bool) (bs : List Byte) (f : Frame), u.onRing = true → frameOf symbols bs = some f → f.type_ = 0 →
      let prio := fieldAt f.payload 0 1
      let uid := fieldAt f.payload 1 8
      let hop := fieldAt f.payload 9 1
      let better := u.rdN 0x4880 2 < prio ∨ (u.rdN 0x4880 2 = prio ∧ uid < Config.uniqueId)
      (fieldAt f.payload 10 1 % 2 = 0 → 8 ≤ hop →
        exec (.casbyElectionFrame dt symbols bs) s = .next ((u.wr 0x4880 8 6).raise1 603 0)) ∧
      (fieldAt f.payload 10 1 % 2 = 0 → hop < 8 → uid = Config.uniqueId → u.casbyState = 3 → u.now - u.csb.electAt + 3300 < 2 ^ 32 →
        ∃ t : State, exec (.casbyElectionFrame dt symbols bs) s = .next t ∧ t.casbyState = 5 ∧ t.rd 0x4880 9 = hop + 1 ∧
          t.rd 0x4880 0xA = 0 ∧ t.rd 0x4880 0x13 = (u.rd 0x4880 0x13 + 1) % 2 ^ 32 ∧ t.csb.ringDelay = u.now - u.csb.electAt ∧
          ((t.csb.ringDelay + 3300 : Nat) : Int) ≤ t.rd 0x4880 5 ∧ (∃ p ∈ t.ev.pres, p.src = 602) ∧
          ∃ g ∈ t.csb.sent, g.type_ = 0 ∧ g.payload = u.ownElection true) ∧
      (fieldAt f.payload 10 1 % 2 = 0 → hop < 8 → uid ≠ Config.uniqueId → u.casbyState ≠ 5 →
        exec (.casbyElectionFrame dt symbols bs) s = .next (if better then
          (u.putFrame { f with payload := overlay f.payload 9 (le 1 (hop + 1)) }).updCsb (fun c => { c with beaten := true }) else u)) ∧
      (fieldAt f.payload 10 1 % 2 = 0 → hop < 8 → uid ≠ Config.uniqueId → u.casbyState = 5 →
        exec (.casbyElectionFrame dt symbols bs) s = .next (u.sendFrame 0 (u.ownElection true))) ∧
      (fieldAt f.payload 10 1 % 2 = 1 → hop < 8 → uid ≠ Config.uniqueId → u.casbyState ≠ 5 ∨ better →
        ∃ t : State, exec (.casbyElectionFrame dt symbols bs) s = .next t ∧ t.casbyState = 4 ∧ t.rd 0x4880 0xA = hop + 1 ∧
          t.rd 0x4880 9 = hop + 2 ∧ t.rd 0x4880 0x13 = (u.rd 0x4880 0x13 + 1) % 2 ^ 32 ∧ t.csb.heardTime = some u.now ∧
          ∃ p ∈ t.ev.pres, p.src = 602)) ∧
    (u.casbyState = 5 → u.csb.timeAt + 100000 ≤ u.now → ∃ t : State, exec (.casbyTimeSend dt) s = .next t ∧ t.csb.timeAt = u.now ∧
      t.csb.unreturned = u.csb.unreturned + 1 ∧ (u.csb.unreturned = 3 → ∃ p ∈ t.ev.pres, p.src = 601) ∧
      ∃ f ∈ t.csb.sent, f.type_ = 1 ∧ f.origin = u.rdN 0x4880 0xA ∧ fieldAt f.payload 0 8 = u.fine) ∧
    (∀ (symbols : Bool) (bs : List Byte) (f : Frame), u.onRing = true → frameOf symbols bs = some f → f.type_ = 1 →
      (u.casbyState = 5 → f.origin = u.rdN 0x4880 0xA → exec (.casbyTimeFrame dt symbols bs) s = .next (
        (u.wr 0x4880 0xD (u.fine - fieldAt f.payload 0 8)).updCsb (fun c =>
          { c with ringDelay := u.fine - fieldAt f.payload 0 8, unreturned := 0 }))) ∧
      (u.casbyState ≠ 5 → ∃ t : State, exec (.casbyTimeFrame dt symbols bs) s = .next t ∧ t.csb.heardTime = some u.now ∧
        t.rd 0x4880 0xD = fieldAt f.payload 8 4 ∧ t.csb.lead = fieldAt f.payload 12 4 ∧
        t.csb.masterPacing = fieldAt f.payload 26 1 ∧
        t.casbyState = (if u.casbyState = 2 ∧ u.rdN 0x4880 9 ≠ 0 then 4 else u.casbyState) ∧
        t.trn.casby = posNear u.trn.casby (fieldAt f.payload 16 6))) ∧
    (∀ off : Int, let t := u.measured_ off
      (u.live = false → 10000 < off.natAbs → t.compassOff = ((u.compassOff + off) % 2 ^ 64).toNat ∧ ∃ p ∈ t.ev.pres, p.src = 913) ∧
      (u.live = true ∨ off.natAbs ≤ 10000 → ∃ d : Int, d.natAbs ≤ (u.now - u.csb.measuredAt) / 10000 ∧
        t.compassOff = ((u.compassOff + d) % 2 ^ 64).toNat) ∧
      (1000 < off.natAbs → ∃ p ∈ t.ev.pres, p.src = 912) ∧
      (off.natAbs ≤ 2 → 63 ≤ u.csb.near → t.rd 0x4880 0xF = 1) ∧ (8 < off.natAbs → 3 ≤ u.csb.far → t.rd 0x4880 0xF = 0)) ∧
    (∀ (symbols : Bool) (bs : List Byte) (f : Frame), u.onRing = true → frameOf symbols bs = some f → f.type_ = 2 →
      (u.casbyState ≠ 4 → exec (.casbyTriggerFrame dt symbols bs) s = .next u) ∧
      (u.casbyState = 4 → ∃ t : State, exec (.casbyTriggerFrame dt symbols bs) s = .next t ∧ t.csb.trigIn = some (fieldAt f.payload 4 2) ∧
        (∀ k : Nat, u.csb.trigIn = some k → (fieldAt f.payload 4 2 + 65536 - k - 1) % 65536 < 32768 →
          (fieldAt f.payload 4 2 + 65536 - k - 1) % 65536 ≠ 0 →
          t.rd 0x4880 0x11 = (u.rd 0x4880 0x11 + ((fieldAt f.payload 4 2 + 65536 - k - 1) % 65536 : Nat)) % 2 ^ 32 ∧
          ∃ p ∈ t.ev.pres, p.src = 605))) ∧
    (∀ (symbols : Bool) (bs : List Byte) (f : Frame), u.onRing = true → frameOf symbols bs = some f → f.type_ = 3 →
      exec (.casbyJobSwitchFrame dt symbols bs) s =
        .next (if u.casbyState = 4 then u.jobByCasby (fieldAt f.payload 0 2) (fieldAt f.payload 2 2) else u)) ∧
    (∀ job trig : Nat, u.jobByCasby job trig =
      if job = u.rdN 0x4210 2 then u
      else match u.rcp.armed with
        | none => u.unmatchedJob
        | some a =>
          if a.startup = true ∨ a.job ≠ job then u.unmatchedJob
          else if a.source ≠ 2 ∨ a.cond.isSome = true then u
          else if a.phase = 3 then u.setArmed (some { a with cond := some u.fine, casbyTrig := some trig })
          else (((u.setArmed (some { a with cond := some u.fine, deferred := true, casbyTrig := some trig })).wr 0x4210 0xA 5).raise1
            846 0)) ∧
    (∀ (symbols : Bool) (bs : List Byte) (f : Frame), u.onRing = true → frameOf symbols bs = some f → f.type_ = 4 →
      let id := fieldAt f.payload 0 4
      (u.csb.passed.contains id = true → exec (.casbyActivationFrame dt symbols bs) s = .next u) ∧
      (u.csb.passed.contains id = false → ∃ t : State, exec (.casbyActivationFrame dt symbols bs) s = .next t ∧
        t.csb.passed = u.csb.passed ++ [id] ∧
        (id = u.rdN 0x2202 1 → u.session = 5 → t.session = 6 ∧ t.rd 0x2202 2 = fieldAt f.payload 4 8 ∧ ∃ p ∈ t.ev.pres, p.src = 776) ∧
        (id ≠ u.rdN 0x2202 1 ∨ u.session ≠ 5 → t.rd 0x2202 9 = (u.rd 0x2202 9 + 1) % 2 ^ 32 ∧ ∃ p ∈ t.ev.pres, p.src = 784))) ∧
    (∀ (symbols : Bool) (bs : List Byte) (f : Frame), u.onRing = true → frameOf symbols bs = some f → f.type_ = 5 →
      f.origin ≠ u.rdN 0x4880 0xA → f.origin < 8 → ∃ t : State, exec (.casbyHeartbeatFrame dt symbols bs) s = .next t ∧
        (let p := vget t.csb.peers f.origin;
          (p.known = true ∧ p.uid = fieldAt f.payload 0 8 ∧ p.state = fieldAt f.payload 8 1 ∧ p.job = fieldAt f.payload 9 2 ∧
            p.fill = fieldAt f.payload 11 2 ∧ p.drain = fieldAt f.payload 13 4 ∧ p.heard = u.now ∧ p.lostTold = false)) ∧
        t.rdN 0x4880 9 = (if u.casbyState = 4 then max (u.rdN 0x4880 9) (f.origin + 1) else u.rdN 0x4880 9)) ∧
    (u.onRing = true → u.csb.beatAt + 1000000 ≤ u.now → ∃ t : State, exec (.casbyHeartbeatSend dt) s = .next t ∧ t.csb.beatAt = u.now ∧
      ∃ f ∈ t.csb.sent, f.type_ = 5 ∧ fieldAt f.payload 8 1 = u.dev.st.code) ∧
    (u.casbyState = 4 → u.csb.heardTime.getD 0 + 300000 ≤ u.now →
      exec (.casbyRingOpen dt) s = .next ((u.wr 0x4880 8 2).raise1 601 0)) ∧
    (∀ p : Fin 8, u.onRing = true → (vget u.csb.peers p).known = true → (vget u.csb.peers p).lostTold = false →
      (vget u.csb.peers p).heard + 3000000 ≤ u.now → exec (.casbyPeerLost dt p) s =
        .next ((u.raise1 607 0).updCsb (fun c => { c with peers := vupd c.peers p (fun q => { q with lostTold := true }) }))) ∧
    (∀ (m : Fin 17) (job : Nat), job < 65536 → let w := s.pass dt
      w.masterPresent m = true → w.dev.ready = true →
      (w.casbyState ≠ 5 → exec (.sendJobSwitch dt m job) s = .next (w.answer m 0x4880 0x12 7)) ∧
      (w.casbyState = 5 → exec (.sendJobSwitch dt m job) s = .next (
        ((w.sendFrame 3 (le 2 job ++ le 2 ((w.csb.trigOut + 1) % 65536))).jobByCasby job ((w.csb.trigOut + 1) % 65536)).answer m
          0x4880 0x12 0))) ∧
    (∀ (pay : List Byte) (n at_ : Nat), let w := s.pass dt
      w.csb.again = some (pay, n, at_) → 0 < n → at_ + 1000000 ≤ w.now → exec (.activationFrameRepeat dt) s =
        .next ((w.sendFrame 4 pay).updCsb (fun c => { c with again := if n = 1 then none else some (pay, n - 1, w.now) }))))

/-! ## Chapters 9 to 11: egress queues, engines, streams -/

/-- R230 to R240: egress queues. A packet admitted stands at the end of its queue. At a link's packet boundary the packet sent is freed
and counted, a parity error is counted and raised, flushes act, and idle links begin again. A flush discards the packets of its classes
not yet begun, marks the gap, and completes with its count and event; a second request is refused with code 8. What waits is admitted
in order as space frees. -/
def Obligations.EgressQueues : Prop :=
  ∀ (s : State) (dt : Nat) (k : Fin 8), let u := s.pass dt
    let w := s.arrive dt
    (∀ p : Packet, ((u.push k p).eq k).pkts = (u.eq k).pkts ++ [{ p with id := (u.eq k).nextId }] ∧
      ((u.push k p).eq k).alloc = (u.eq k).alloc + p.blocks ∧ (∀ j : Fin 8, j ≠ k → (u.push k p).eq j = u.eq j)) ∧
    (∀ m : Fin 17, u.masterPresent m = true → u.dev.ready = true →
      (∃ t : State, exec (.clearPeaks dt m) s = .next (t.answer m 0x5606 1 0) ∧
        (∀ n : Fin 64, t.rd 0x5605 (n + 1) = ((u.lineQ n).count : Int) % 65536) ∧
        (∀ j : Fin 8, t.rd (0x5610 + j) 0x10 = ((u.eq j).fill : Int) % 65536) ∧
        Touch (fun i j => i = 0x5605 ∨ (0x5610 ≤ i ∧ i < 0x5618 ∧ j = 0x10)) u t) ∧
      exec (.clearChannelBits dt m) s = .next (((u.wr 0x5607 1 0).wr 0x5607 2 0).answer m 0x5607 3 0) ∧
      (∀ (c : Instr) (v : Nat), (v = 4 ∧ c = .flushImageLines dt m k) ∨ (v = 8 ∧ c = .flushStatistics dt m k) →
        ((u.eq k).flush ≠ 0 → exec c s = .next (u.answer m (0x5610 + k) 0xC 8)) ∧
        ((u.eq k).flush = 0 → exec c s = .next (
          ((u.updEgress k (fun q => { q with flush := v, flushed := false, discarded := 0 })).wr (0x5610 + k) 0xD 1).answer m
            (0x5610 + k) 0xC 0)))) ∧
    ((w.eq k).flushed = false → (w.eq k).flush = 4 ∨ (w.eq k).flush = 8 ∨ (w.eq k).flush = 12 → let t := w.flushNow k
      (t.eq k).flushed = true ∧ (t.eq k).flush = (w.eq k).flush ∧
        (t.eq k).discarded = ((w.eq k).pkts.filter (fun p => bit (w.eq k).flush p.cls && p.sending.isNone)).length ∧
        ∀ p ∈ (t.eq k).pkts, bit (w.eq k).flush p.cls = true → p.sending.isSome = true) ∧
    ((w.eq k).flush ≠ 0 → ∃ t : State, exec (.flushComplete dt k) s = .next t ∧ (t.eq k).flush = 0 ∧ t.rd (0x5610 + k) 0xD = 2 ∧
      t.rd (0x5610 + k) 0xE = (w.rd (0x5610 + k) 0xE + 1) % 2 ^ 32 ∧ (∃ p ∈ t.ev.pres, p.src = 296 + k) ∧
      ((w.eq k).flushed = true → t.rd (0x5610 + k) 0xB = (w.rd (0x5610 + k) 0xB + (w.eq k).discarded) % 2 ^ 32)) ∧
    (∀ n : Nat, (∀ (p : Packet) (r : List Packet), (u.eq k).held = p :: r → (u.eq k).admits p.cls p.blocks = false →
        u.admitHeld k n = u) ∧
      (∀ (p : Packet) (r : List Packet), (u.eq k).held = p :: r → (u.eq k).admits p.cls p.blocks = true →
        u.admitHeld k (n + 1) = ((u.updEgress k (fun q => { q with held := r })).push k p).admitHeld k n)) ∧
    (u.queuesRun = true → exec (.egressSpaceFreed dt k) s = .next (u.spaceFreed k) ∧
      ((u.eq k).held = [] → u.dma.waiting = [] → u.startLinks.dma.waiting = [] → u.spaceFreed k = u.startLinks)) ∧
    (∀ (n : Fin 16) (bad : Bool), w.queuesRun = true → w.linkState n = 3 →
      exec (.packetTransmitEnd dt n bad) s =
        .next ((((w.endPacket n bad).each 8 (fun k s => s.flushNow k)).beginPacket n).startLinks) ∧
      ((w.link n).tx = none → w.endPacket n bad = w) ∧
      (∀ (id : Nat) (p : Packet), (w.link n).tx = some (k.val, id) → w.packet k id = some p → let t := w.endPacket n bad
        (t.link n).tx = none ∧ (t.eq k).pkts = (w.eq k).pkts.filter (fun p => p.id ≠ id) ∧
          t.rd (0x5800 + n) 8 = (tyAt (0x5800 + n) 8).wrap (w.rd (0x5800 + n) 8 + 1) ∧
          t.rd (0x5800 + n) 7 = (tyAt (0x5800 + n) 7).wrap (w.rd (0x5800 + n) 7 + payloadOf p) ∧
          (bad = true → t.rd (0x5610 + k) 0xF = (w.rd (0x5610 + k) 0xF + 1) % 2 ^ 32 ∧ ∃ q ∈ t.ev.pres, q.src = 280 + k) ∧
          (bad = false → t.ev = w.ev)))

/-- R253 to R266: rings, chains and compatibility transfers. A fetch parks the ring, takes the chain, or refuses it: counted, shown,
reported, its head moved past. A chain that completes is counted and, where asked, raised; a stop ends it, raises its event and parks
the ring. A head is reset only while the ring does not run. A transfer starts only in compatibility mode, one at a time, with legal
parameters and budget. A word written to ring memory lands there unless it belongs to a ring 0. -/
def Obligations.DmaEngines : Prop :=
  ∀ (s : State) (dt : Nat) (k : Fin 8), let u := s.pass dt
    (∀ (r : Fin 4) (n : Nat), let ds := u.chainAt k r (u.ringLen k r) (u.ringHead k r)
      (ds = [] → (State.fetch k r (n + 1) u).ringState k r = 2 ∧ ((State.fetch k r (n + 1) u).ring k r).run = (u.ring k r).run) ∧
      (ds ≠ [] → u.chainCheck k ds = 0 → ∃ c : Chain, ((State.fetch k r (n + 1) u).ring k r).run = some c ∧
        (State.fetch k r (n + 1) u).ringState k r = 1 ∧ c.at_ = u.ringHead k r ∧ c.served = 0 ∧ c.lost = 0 ∧
        c.descs.length = ds.length ∧ c.descs.tail = ds.tail) ∧
      (ds ≠ [] → u.chainCheck k ds ≠ 0 → ∃ t : State, State.fetch k r (n + 1) u = State.fetch k r n t ∧
        t.rd (0x5440 + k) (0x14 + r) = (u.rd (0x5440 + k) (0x14 + r) + 1) % 2 ^ 32 ∧
        t.rd (0x5440 + k) 0x18 = ((u.chainCheck k ds * 2 ^ 24 + r * 2 ^ 16 + u.ringHead k r : Nat) : Int) % 2 ^ 32 ∧
        t.rd (0x5440 + k) (8 + r) = (((u.ringHead k r + ds.length) % u.ringLen k r : Nat) : Int) % 2 ^ 16 ∧
        (t.ring k r).run = (u.ring k r).run ∧ ∃ p ∈ t.ev.pres, p.src = 312 + k)) ∧
    (∀ (r at_ status served first lost : Nat) (w : List Nat), r < 4 → at_ % u.ringLen k r < 1024 → status < 256 → served < 2 ^ 32 →
      first < 2 ^ 32 → let t := u.writeBack k r at_ status [w] served first lost
      let o := descAddr k r (at_ % u.ringLen k r)
      t.ringWord (o 0) = status * 2 ^ 24 + min 0xFFFFFF lost ∧ t.ringWord (o 1) = first ∧ t.ringWord (o 2) = served ∧
        t.ringWord (o 7) = w.getD 7 0 % 2 ^ 31 ∧ t.dict = u.dict) ∧
    (∀ (m : Fin 17) (r : Fin 3), u.masterPresent m = true → u.dev.ready = true →
      (u.compatEngine k = true → exec (.doorbell dt m k r) s = .next (u.answer m (0x5440 + k) (2 + r) 7)) ∧
      (u.compatEngine k = false → u.ringState k (r + 1) = 2 → exec (.doorbell dt m k r) s =
        .next (((u.updRing k (r + 1) (fun q => { q with kick := true })).fetchRing k (r + 1)).answer m (0x5440 + k) (2 + r) 0)) ∧
      (u.compatEngine k = false → u.ringState k (r + 1) ≠ 2 → exec (.doorbell dt m k r) s =
        .next ((u.updRing k (r + 1) (fun q => { q with kick := true })).answer m (0x5440 + k) (2 + r) 0)) ∧
      ((u.ring k (r + 1)).run = none → exec (.stopRing dt m k r) s = .next (u.answer m (0x5440 + k) (0xD + r) 0)) ∧
      (∀ c : Chain, (u.ring k (r + 1)).run = some c → c.full = true →
        exec (.stopRing dt m k r) s = .next ((u.completeChain k (r + 1)).answer m (0x5440 + k) (0xD + r) 0)) ∧
      (∀ c : Chain, (u.ring k (r + 1)).run = some c → c.full = false → ∃ t : State,
        exec (.stopRing dt m k r) s = .next (t.answer m (0x5440 + k) (0xD + r) 0) ∧ (t.ring k (r + 1)).run = none ∧
          t.ringState k (r + 1) = 2 ∧ (t.ring k (r + 1)).kick = false ∧ ∃ p ∈ t.ev.pres, p.src = 320 + k) ∧
      (u.ringState k (r + 1) = 1 → exec (.resetHead dt m k r) s = .next (u.answer m (0x5440 + k) (0x1A + r) 8)) ∧
      (u.ringState k (r + 1) ≠ 1 → exec (.resetHead dt m k r) s = .next (
        ((u.wr (0x5440 + k) (8 + (r + 1)) 0).updRing k (r + 1) (fun q => { q with kick := false })).answer m (0x5440 + k) (0x1A + r) 0))) ∧
    (∀ (r : Fin 4) (c : Chain), (u.ring k r).run = some c → c.full = true → ∃ t : State, exec (.chainComplete dt k r) s = .next t ∧
      t.rd (0x5440 + k) (0x10 + r) = (u.rd (0x5440 + k) (0x10 + r) + 1) % 2 ^ 32 ∧
      (c.list.any (·.irq) = true → ∃ p ∈ t.ev.pres, p.src = 304 + k)) ∧
    (∀ m : Fin 17, u.masterPresent m = true → u.dev.ready = true →
      let bad := u.compatWidth < u.rdN 0x5460 1 + u.rdN 0x5460 2 ∨ u.rdN 0x5460 4 = 0 ∨ 15 < u.rdN 0x5460 4
      let need := u.lMax * u.rdN 0x5460 2 * max 1 (rP (u.recipe u.activeRecipe)) * (if u.rd 0x5460 5 = 1 then 16 else 8)
      (u.compatMode = false → exec (.startCompatTransfer dt m) s = .next ((u.raise1 329 0).answer m 0x5460 6 7)) ∧
      (u.compatMode = true → u.dma.compat.isSome = true →
        exec (.startCompatTransfer dt m) s = .next ((u.raise1 329 0).answer m 0x5460 6 8)) ∧
      (u.compatMode = true → u.dma.compat = none → bad → exec (.startCompatTransfer dt m) s = .next ((u.raise1 329 0).answer m 0x5460 6 5)) ∧
      (u.compatMode = true → u.dma.compat = none → ¬ bad → u.paced = false → u.budget (u.rdN 0x5460 4) * 1000000 < need →
        exec (.startCompatTransfer dt m) s = .next (
          ((u.report ⟨4, nearest need 1000000, u.budget (u.rdN 0x5460 4), groupNumber (u.rdN 0x5460 4)⟩).raise1 329 0).answer m 0x5460 6 10)) ∧
      (u.compatMode = true → u.dma.compat = none → ¬ bad → u.paced = true ∨ need ≤ u.budget (u.rdN 0x5460 4) * 1000000 →
        exec (.startCompatTransfer dt m) s = .next (
          (let t := ((u.wr 0x5460 6 0).wr 0x5460 7 1).wr 0x5460 0xA 0;
            { t with dma := { t.dma with compat := some ⟨u.rdN 0x5460 3, u.rdN 0x5460 1, u.rdN 0x5460 2, u.rdN 0x5460 4,
                decide (u.rd 0x5460 5 = 1), 0xFFFFFFFF, false, false⟩ } } : State).answer m 0x5460 6 0)) ∧
      (u.dma.compat = none → exec (.stopCompatTransfer dt m) s = .next ((u.wr 0x5460 6 0).answer m 0x5460 6 0)) ∧
      (∀ c : Compat, u.dma.compat = some c → exec (.stopCompatTransfer dt m) s = .next (
        ({ u.wr 0x5460 6 0 with dma := { u.dma with compat := some { c with repeating := false } } } : State).answer m 0x5460 6 0))) ∧
    (∀ c : Compat, u.dma.compat = some c → c.ended = true → ∃ t : State, exec (.compatTransferComplete dt) s = .next t ∧
      t.rd 0x5460 8 = (((c.crc ^^^ 0xFFFFFFFF : Nat) : Int)) % 2 ^ 32 ∧ t.rd 0x5460 9 = (u.rd 0x5460 9 + 1) % 2 ^ 32 ∧
      (∃ p ∈ t.ev.pres, p.src = 328) ∧
      (c.repeating = false → t.dma.compat = none ∧ t.rd 0x5460 7 = if u.rd 0x5460 0xA = 0 then 3 else 4) ∧
      (c.repeating = true → t.dma.compat.isSome = true ∧ t.rd 0x5460 7 = 1)) ∧
    (∀ (n : Fin 16) (addr : Nat) (w : BitVec 32), u.masterPresent (n + 1) = true → u.dev.ready = true →
      (∀ o : Nat, addr = 0x30000000 + o → o % 4 = 0 → o < 0x100000 →
        (o % 0x20000 < 0x8000 → exec (.ringMemoryWrite dt n addr w) s = .next (u.answer (n + 1) 0x5430 0 3)) ∧
        (0x8000 ≤ o % 0x20000 → exec (.ringMemoryWrite dt n addr w) s = .next ((u.ringPut o w.toNat).answer (n + 1) 0x5430 0 0))) ∧
      (addr % 4 ≠ 0 ∨ addr < 0x30000000 ∨ 0x30100000 ≤ addr →
        exec (.ringMemoryWrite dt n addr w) s = .next (u.answer (n + 1) 0 0 2)))

/-! ## Chapter 12: links -/

/-- R285: a link that has been trained is lost when its uplink falls out of lock: its state, its speed and its budget, the count and
the time of the loss, EV(0384 + 4n), and the state of its master's accesses; no other link's state changes. A link that is not trained
is not lost. That a suspended link (state 5) is lost by it too is the model's reading, log 245. -/
def Obligations.LinkLoss : Prop :=
  ∀ (s : State) (dt : Nat) (n : Fin 16), let u := s.arrive dt
    (u.linkState n = 2 ∨ u.linkState n = 3 ∨ u.linkState n = 5 →
      ∃ t : State, exec (.linkLoss dt n) s = .next t ∧ t.linkState n = 4 ∧ t.rd (0x5800 + n) 2 = 0 ∧ t.rd (0x5800 + n) 6 = 0 ∧
        t.rd (0x5800 + n) 0xA = (u.rd (0x5800 + n) 0xA + 1) % 2 ^ 32 ∧ t.rd (0x5800 + n) 0xF = u.compass ∧
        (∃ p ∈ t.ev.pres, p.src = 384 + 4 * n) ∧ (t.link n).locked = false ∧ (t.link n).tx = none ∧
        (t.master (n + 1)).shadow = none ∧ (t.master (n + 1)).wbuf = none ∧
        ∀ k : Fin 16, k ≠ n → t.linkState k = u.linkState k) ∧
    (u.linkState n = 0 ∨ u.linkState n = 1 ∨ u.linkState n = 4 → exec (.linkLoss dt n) s = .next u)

/-- R269, R272, R288: a link is trained: discovery finds one without a speed at 1.25 Gbit/s; ConnectionConfig is refused away from the
group's master connection or while Scanning or Paused, and before Ready; an accepted one puts the links it names in training; training
ends with the link trained at its speed, with the budget of R271; a lost link returns with EV(0385 + 4n). -/
def Obligations.LinkTraining : Prop :=
  ∀ (s : State) (dt : Nat) (n : Fin 16), let u := s.arrive dt
    (u.pow.boot = .done → u.linkState n ≤ 1 → u.dev.st ≠ .bivouac →
      ∃ t : State, exec (.discoveryRequest dt n) s = .next (t.respond (n + 1) 0 [] []) ∧ t.linkState n = 3 ∧ t.rd (0x5800 + n) 2 = 1250 ∧
        t.rd (0x5800 + n) 6 = 960) ∧
    (∀ speed count : Nat, u.linkUp n = true → u.dev.ready = false →
      exec (.connectionConfig dt n speed count) s = .next (u.respond (n + 1) 7 [] [])) ∧
    (∀ speed count : Nat, u.linkUp n = true → u.dev.ready = true → (u.groupMaster n ≠ n ∨ u.live = true ∨ count = 0 ∨
        speed ∉ speeds ∨ (linksIn (u.groupOfLink n)).length < count) →
      exec (.connectionConfig dt n speed count) s = .next (u.respond (n + 1) 5 [] [])) ∧
    (∀ speed count : Nat, u.linkUp n = true → u.dev.ready = true → u.configRefused n speed count = false →
      u.dev.st = .standby →
      ∃ t : State, exec (.connectionConfig dt n speed count) s = .next t ∧ (t.master (n + 1)).reply.code = 0 ∧
        ∀ k : Fin 16, k.val ∈ (linksIn (u.groupOfLink n)).take count → u.linkState k ≠ 4 →
          t.linkState k = 2 ∧ (t.link k).train = some speed) ∧
    (∀ v : Nat, v ∈ speeds → u.linkState n = 2 → (u.link n).train = some v →
      ∃ t : State, exec (.linkTrained dt n) s = .next t ∧ t.linkState n = 3 ∧ t.rd (0x5800 + n) 2 = v ∧
        t.rd (0x5800 + n) 6 = v * 96 / 125 ∧ (t.link n).train = none ∧ ∀ k : Fin 16, k ≠ n → t.linkState k = u.linkState k) ∧
    (∀ v : Nat, v ∈ speeds → u.linkState n = 4 → (u.link n).train = some v →
      ∃ t : State, exec (.linkReturn dt n) s = .next t ∧ t.linkState n = 3 ∧ t.rd (0x5800 + n) 2 = v ∧ t.rd (0x5800 + n) 6 = v * 96 / 125 ∧
        ∃ p ∈ t.ev.pres, p.src = 385 + 4 * n)

/-- R269, R273, R276, R284, R291: what comes down a link. Test mode only in Standby; a stream packet size within its bounds; the wake of
a suspended link by a command and its suspension after a second without one; a trigger packet dropped and counted where it is a falling
edge, the trigger source is not 4 or the link's enable is 0, and otherwise a trigger; an uplink packet error counted, with one event
while its latch is clear. -/
def Obligations.LinkCommands : Prop :=
  ∀ (s : State) (dt : Nat) (n : Fin 16), let u := s.arrive dt
    (∀ on : Bool, u.linkUp n = true → exec (.testModeWrite dt n on) s = .next (
      if u.dev.ready = true ∧ u.dev.st = .standby then (u.updLink n (fun l => { l with testMode := on })).respond (n + 1) 0 [] []
      else u.respond (n + 1) 7 [] [])) ∧
    (∀ size : Nat, u.linkUp n = true → u.dev.ready = true → exec (.streamPacketSizeWrite dt n size) s = .next (
      if 4096 ≤ size ∧ size ≤ 65536 ∧ size % 4 = 0 then (u.wr 0x5820 1 size).respond (n + 1) 0 [] [] else u.respond (n + 1) 5 [] [])) ∧
    (u.dev.st = .bivouac → u.linkState n = 5 → exec (.linkWakeByCommand dt n) s =
      .next ((u.wr (0x5800 + n) 1 3).updLink n (fun l => { l with lastCommand := u.now }))) ∧
    (u.dev.st = .bivouac → u.linkState n = 3 → (u.link n).lastCommand + 1000000000 ≤ u.now →
      exec (.linkResuspend dt n) s = .next (u.wr (0x5800 + n) 1 5)) ∧
    (∀ (rising : Bool) (delay : Nat), u.dev.ready = true → u.linkUp n = true →
      rising = false ∨ u.rd 0x2050 1 ≠ 4 ∨ u.rd (0x5800 + n) 5 = 0 →
      exec (.triggerPacket dt n rising delay) s = .next (u.bump (0x5800 + n) 0x10)) ∧
    (∀ delay : Nat, u.dev.ready = true → u.linkUp n = true → u.rd 0x2050 1 = 4 → u.rd (0x5800 + n) 5 ≠ 0 →
      exec (.triggerPacket dt n true delay) s = .next (u.ownTrigger (u.fine - delay) 3 u.extPos)) ∧
    ((u.link n).locked = true → exec (.uplinkPacketError dt n) s = .next (
      if u.rd (0x2800 + (387 + 4 * n)) 1 = 1 then u.bump (0x5800 + n) 0xB else (u.bump (0x5800 + n) 0xB).raise1 (387 + 4 * n) 0))

/-! ## Chapters 12 and 13: illumination, the Lantern strip -/

/-- R303 to R308: lamp faults, heat and power. A string is measured at its check point and classed; a faulty class is counted and
raised, and its group goes off once: counted, raised, its slots asked for urgently. Above its off temperature a group goes off; its
scale stays between S_min and 1,000 below it. A hot group is not cleared (code 5). The bulk floor cuts every lit strobe and raises
EV0504 once. -/
def Obligations.LampStrings : Prop :=
  ∀ (s : State) (dt : Nat), let u := s.arrive dt
    (∀ (i : Fin 32) (j : Fin 8) (cls : Nat), cls < 256 → let t := u.stringFault i j cls
      t.rd (0x4C40 + i) 7 = cls ∧ t.rd (0x4C40 + i) 0xA = (u.rd (0x4C40 + i) 0xA + 1) % 2 ^ 32 ∧ (∃ p ∈ t.ev.pres, p.src = 448 + i) ∧
        (u.groupOff j = true → t.lamp = u.lamp ∧ t.aux = u.aux ∧ t.rd (0x4C10 + j) 0xA = u.rd (0x4C10 + j) 0xA) ∧
        (u.groupOff j = false → t.rd (0x4C10 + j) 0xA = 3 ∧ t.rd (0x4C10 + j) 0xE = (u.rd (0x4C10 + j) 0xE + 1) % 2 ^ 32 ∧
          (vget t.lamp.groups j).tripAt = u.now ∧ ∃ p ∈ t.ev.pres, p.src = 480 + j)) ∧
    (∀ (i : Fin 32) (current volts code : Nat), u.checkable i = some code →
      let v : State := { (u.wr (0x4C40 + i) 8 (min current 4000)).wr (0x4C40 + i) 9 (min volts 80000) with
        lamp := { u.lamp with checked := setBit u.lamp.checked i true } }
      let cls : Nat := if 2 * current * 4095 < code * 3000 then (if u.rdN (0x4C40 + i) 6 < volts then 2 else 5)
        else if volts < u.rdN (0x4C40 + i) 5 then 3 else 1
      (cls = 1 → exec (.stringCheck dt i current volts) s = .next (v.wr (0x4C40 + i) 7 1)) ∧
      (cls ≠ 1 → exec (.stringCheck dt i current volts) s = .next (v.stringFault i (u.rdN (0x4C40 + i) 1) cls))) ∧
    (∀ i : Fin 32, let j := u.rdN (0x4C40 + i) 1
      j < 8 → u.litSteady j = true ∨ (u.litCycle j).isSome = true →
        exec (.lampOvercurrent dt i) s = .next (u.stringFault i j 4)) ∧
    (∀ t t1 t2 lo : Int, t1 < t2 → lo ≤ 1000 → lo ≤ thermalScale t t1 t2 lo ∧ thermalScale t t1 t2 lo ≤ 1000 ∧
      (t ≤ t1 → thermalScale t t1 t2 lo = 1000) ∧ (t2 ≤ t → thermalScale t t1 t2 lo = lo)) ∧
    (∀ (j : Fin 8) (t : Int), let v := u.lampThermal j
      u.rd (0x4C10 + j) 5 ≠ 0 → u.lampTemp j = some t →
        v.rd (0x4C10 + j) 0xC = Ty.i16.wrap t ∧
        (u.rd (0x4C10 + j) 9 ≤ t → u.groupOff j = false → u.groupUsed j = true → v.rd (0x4C10 + j) 0xA = 4 ∧
          v.rd (0x4C10 + j) 0xE = (u.rd (0x4C10 + j) 0xE + 1) % 2 ^ 32 ∧ ∃ p ∈ v.ev.pres, p.src = 496 + j) ∧
        (t < u.rd (0x4C10 + j) 9 → v.rd (0x4C10 + j) 0xD =
          Ty.u16.wrap (thermalScale t (u.rd (0x4C10 + j) 6) (u.rd (0x4C10 + j) 7) (u.rd (0x4C10 + j) 8)))) ∧
    (∀ (m : Fin 17) (j : Fin 8), let w := s.pass dt
      w.masterPresent m = true → w.dev.ready = true →
      (w.rd (0x4C10 + j) 5 ≠ 0 → (∀ t : Int, w.lampTemp j = some t → w.rd (0x4C10 + j) 7 ≤ t) →
        exec (.clearGroup dt m j) s = .next (w.answer m (0x4C10 + j) 0xB 5)) ∧
      (w.rd (0x4C10 + j) 5 = 0 ∨ (∃ t : Int, w.lampTemp j = some t ∧ t < w.rd (0x4C10 + j) 7) →
        (w.groupOff j = false → exec (.clearGroup dt m j) s = .next (w.answer m (0x4C10 + j) 0xB 0)) ∧
        (w.groupOff j = true → ∃ v : State, exec (.clearGroup dt m j) s = .next (v.answer m (0x4C10 + j) 0xB 0) ∧
          v.rd (0x4C10 + j) 0xA = (if v.rd (0x4C10 + j) 0xD < 1000 then 2 else 1) ∧ (vget v.lamp.groups j).clearedAt = w.now + 1000 ∧
          ∀ i ∈ w.stringsOf j, v.rd (0x4C40 + i) 7 = 1))) ∧
    (u.strobesNow.isEmpty = false ∨ (∃ j : Fin 8, u.litSteady j = true) → ∃ t : State, exec (.bulkFloorReached dt) s = .next t ∧
      t.rd 0x4C00 8 = Ty.u32.wrap (u.rd 0x4C00 8 + u.strobesNow.length) ∧ t.lamp = { u.lamp with bulkLow := true } ∧
      (u.lamp.bulkLow = false → ∃ p ∈ t.ev.pres, p.src = 504) ∧ (u.lamp.bulkLow = true → t.ev = u.ev)) ∧
    (∀ vb : Nat, u.lamp.bulkLow = true → u.rdN 0x4C00 2 + 1000 < vb → exec (.bulkFloorClear dt vb) s =
      .next { u.wr 0x4C00 4 (min vb 80000) with lamp := { u.lamp with bulkLow := false } }) ∧
    (∀ (vb : Nat) (out : List Nat), u.powered = true →
      let share := fun (j : Nat) => if u.groupUsed j then out.getD j 0 * 1000 / u.rdN 0x4C00 5 else 0
      ∃ t : State, exec (.lampPowerReport dt vb out) s = .next t ∧ t.rd 0x4C00 4 = (min vb 80000 : Nat) ∧
        t.rd 0x4C00 6 = (((List.range 8).map share).sum : Int) % 2 ^ 32 ∧
        (∀ j : Fin 8, t.rd (0x4C10 + j) 0xF = (share j : Int) % 2 ^ 32) ∧
        Touch (fun i k => (i = 0x4C00 ∧ (k = 4 ∨ k = 6)) ∨ (0x4C10 ≤ i ∧ i < 0x4C18 ∧ k = 0xF)) u t)

/-- R313 to R323: the strip. A word fits its width, a frame has as many bits as its words, and the Canteen scale keeps the power within
its cap. A probe that counts the expected bits leads to running, another count to length mismatch (EV0513), none to chain broken
(EV0512) or, after a short, back to the short; the retries start a probe. Engines start and stop at the next frame, at once while the
strip is not running; a locate target outside the range is refused with code 5. -/
def Obligations.LanternStrip : Prop :=
  (∀ b cs x : Nat, b = 8 ∨ b = 12 ∨ b = 16 → x ≤ 65535 → cs ≤ 1000 → lanternWord b cs x < 2 ^ b) ∧
  (∀ unscaled cap : Nat, lanternScale unscaled cap ≤ 1000 ∧ unscaled * lanternScale unscaled cap ≤ cap * 65535000) ∧
  (∀ (b k : Nat) (ws : List Nat), ws.length = 3 * k → (frameBits b ws).length = ws.length * b) ∧
  (∀ (s : State) (dt : Nat), let u := s.pass dt
    (∀ differs : Bool, u.queuesRun = true → u.dev.ready = true → u.elapsed u.lan.frameAt (1000000000 / u.rdN 0x4E00 6) = true →
      ∃ t : State, exec (.lanternFrame dt differs) s = .next t ∧ t.lan.frameAt = u.now ∧ t.ev.offers = [] ∧
        (u.lanState = 2 → t.lan.shown.length = 3 * u.chainNow.1 ∧ t.lan.bits = u.chainNow.1 * (3 * u.chainNow.2)) ∧
        (u.lanState = 2 → u.lan.skip = false → differs = true → 1 ≤ u.lan.errors →
          t.lanState = 4 ∧ t.rd 0x4E00 0x12 = (u.rd 0x4E00 0x12 + 1) % 2 ^ 32 ∧ ∃ p ∈ t.ev.pres, p.src = 512) ∧
        (u.lanState = 2 → differs = false → t.lanState = 2 ∧ t.lan.errors = 0)) ∧
    (∀ m : Fin 17, u.masterPresent m = true → u.dev.ready = true →
      exec (.lanternProbeNow dt m) s =
        .next ((if u.lanState = 0 ∨ u.lanState = 6 ∨ u.lanState = 5 then u else u.startProbe).answer m 0x4E00 0xF 0)) ∧
    (u.startProbe.lanState = 1 ∧ u.startProbe.lan.probeAt = u.now) ∧
    ((u.lanState = 4 ∨ (u.lanState = 2 ∧ u.lan.shown.all (· = 0) = true)) → u.lan.probeAt + 250000000 ≤ u.now →
      exec (.lanternPeriodicProbe dt) s = .next u.startProbe) ∧
    (u.lanState = 5 → u.lan.shortAt + 1000000000 ≤ u.now → exec (.lanternShortRetry dt) s = .next u.startProbe) ∧
    (u.lanState ≠ 0 → u.lanState ≠ 5 → ¬ (u.lanState = 1 ∧ u.lan.origin = 5) → exec (.lanternOutputShort dt) s = .next (
      (((u.wr 0x4E00 0xD 5).bump 0x4E00 0x14).raise1 514 0).updLan (fun l => { l with shortAt := u.now }))) ∧
    (∀ count : Nat, u.lanState = 1 → ∃ t : State, exec (.lanternProbeComplete dt count) s = .next t ∧
      (1 ≤ count → count ≤ 24640 → count = u.rdN 0x4E00 2 * (3 * u.wordBits) →
        t.lanState = 2 ∧ t.lan.chain = some (u.rdN 0x4E00 2, u.wordBits) ∧ (u.lan.origin = 4 → ∃ p ∈ t.ev.pres, p.src = 515)) ∧
      (1 ≤ count → count ≤ 24640 → count ≠ u.rdN 0x4E00 2 * (3 * u.wordBits) → u.lan.origin ≠ 5 →
        t.lanState = 3 ∧ t.rd 0x4E00 0xE = count ∧ t.lan.shown = [] ∧ ∃ p ∈ t.ev.pres, p.src = 513) ∧
      (count = 0 ∨ 24640 < count → u.lan.origin ≠ 5 → t.lanState = 4 ∧ t.rd 0x4E00 0xE = 0 ∧
        (u.lan.origin ≠ 4 → t.rd 0x4E00 0x12 = (u.rd 0x4E00 0x12 + 1) % 2 ^ 32 ∧ ∃ p ∈ t.ev.pres, p.src = 512) ∧
        (u.lan.origin = 4 → t.ev = u.ev)) ∧
      (count ≠ u.rdN 0x4E00 2 * (3 * u.wordBits) → u.lan.origin = 5 → t.lanState = 5 ∧ t.lan.shortAt = u.now)) ∧
    (∀ (m : Fin 17) (e : Fin 4), u.masterPresent m = true → u.dev.ready = true →
      (∃ t : State, exec (.lanternEngineStart dt m e) s = .next (t.answer m (0x4E20 + e) 0x13 0) ∧
        (u.lanState = 2 → t = u.updEngine e (fun q => { q with ask := .start })) ∧
        (u.lanState ≠ 2 → t.rd (0x4E20 + e) 0x15 = 1 ∧ (t.engine e).typ = u.rdN (0x4E20 + e) 1 ∧ (t.engine e).t0 = u.fine ∧
          (t.engine e).run = u.rdN (0x4E20 + e) 0xE * 1000000)) ∧
      (∃ t : State, exec (.lanternEngineStop dt m e) s = .next (t.answer m (0x4E20 + e) 0x14 0) ∧
        (u.lanState = 2 → t = u.updEngine e (fun q => { q with ask := .stop })) ∧
        (u.lanState ≠ 2 → t.rd (0x4E20 + e) 0x15 = 0)) ∧
      (∀ px : Nat, px < 1048576 →
        (u.locatePixel px = none → exec (.locateTargetWrite dt m e px) s = .next (u.answer m (0x4E20 + e) 0x12 5)) ∧
        (∀ q : Int, u.locatePixel px = some q →
          (q < (u.engRange e).1 ∨ ((u.engRange e).2 : Int) < q →
            exec (.locateTargetWrite dt m e px) s = .next (u.answer m (0x4E20 + e) 0x12 5)) ∧
          (((u.engRange e).1 : Int) ≤ q → q ≤ (u.engRange e).2 →
            exec (.locateTargetWrite dt m e px) s =
              .next (((u.wr (0x4E20 + e) 0x12 px).askEngine e .restart).answer m (0x4E20 + e) 0x12 0))))) ∧
    (∀ e : Fin 4, u.rd (0x4E20 + e) 0x15 ≠ 0 → (u.engine e).run ≠ 0 → (u.engine e).run ≤ u.tau e →
      exec (.lanternEngineRunEnd dt e) s = .next (u.stopEngine e)))

/-! ## Chapter 14: auxiliary measurement -/

/-- R333, R334: passes, triggers and urgent requests. A trigger starts a pass at once, is latched, or is dropped with EV0552; a software
trigger is refused with code 5 unless the mode is 2 and with code 7 outside Standby, Scanning and Paused. Urgent slots wait in order and
go ahead of the pass. -/
def Obligations.AuxiliarySequence : Prop :=
  ∀ (s : State) (dt : Nat), let u := s.pass dt
    (u.startPass.aux.pass = some ⟨u.sequenceList.filter u.slotUsed, u.now, 0, 0⟩ ∧ u.startPass.aux.latch = false ∧
      u.startPass.dict = u.dict) ∧
    (u.queuesRun = true → u.passFree = true → u.seqMode = 1 ∨ (2 ≤ u.seqMode ∧ u.aux.latch = true) →
      exec (.auxPassStart dt) s = .next u.startPass) ∧
    ((u.passFree = true → u.aux.latch = false → u.auxTrigger = u.startPass) ∧
      (u.passFree = false → u.aux.latch = false →
        u.auxTrigger = (u.updAux (fun a => { a with latch := true })).bump 0x5000 0xB) ∧
      (u.aux.latch = true → u.auxTrigger = (u.bump 0x5000 0xC).raise1 552 0)) ∧
    (u.queuesRun = true → u.seqMode = 3 → u.aux.multiple < u.fine / (u.rdN 0x5000 4 * 1000000) →
      exec (.auxPeriodicTrigger dt) s =
        .next (u.updAux (fun a => { a with multiple := u.fine / (u.rdN 0x5000 4 * 1000000) })).auxTrigger) ∧
    (∀ m : Fin 17, u.masterPresent m = true → u.dev.ready = true →
      (u.seqMode ≠ 2 → exec (.auxSoftwareTrigger dt m) s = .next (u.answer m 0x5000 3 5)) ∧
      (u.seqMode = 2 → u.queuesRun = false → exec (.auxSoftwareTrigger dt m) s = .next (u.answer m 0x5000 3 7)) ∧
      (u.seqMode = 2 → u.queuesRun = true → exec (.auxSoftwareTrigger dt m) s = .next (u.auxTrigger.answer m 0x5000 3 0)) ∧
      (∀ mask : BitVec 32, exec (.auxUrgentRequest dt m mask) s = .next ((u.urgent mask.toNat).answer m 0x5000 5 0))) ∧
    (∀ mask : Nat, let t := u.urgent mask
      u.aux.urgent <+: t.aux.urgent ∧ t.dict = u.dict ∧ t.aux = { u.aux with urgent := t.aux.urgent } ∧
        (∀ q : Fin 32, bit mask q = true → u.slotUsed q = true → ∃ p ∈ t.aux.urgent, p.1 = q.val) ∧
        (∀ p ∈ t.aux.urgent, p ∈ u.aux.urgent ∨ (bit mask p.1 = true ∧ u.slotUsed p.1 = true ∧ p.2 = u.now))) ∧
    (u.queuesRun = true → u.aux.visit = none →
      (∀ (q a : Nat) (r : List (Nat × Nat)), u.aux.urgent = (q, a) :: r → ∃ (t : State) (v : Visit),
        exec (.auxVisitStart dt) s = .next t ∧ t.aux.visit = some v ∧ v.slot = q ∧ v.urgent = true ∧ v.start = u.now ∧
          v.cfg = u.slotCfg q ∧ t.aux.urgent = r ∧ t.rd 0x5000 0xD = (u.rd 0x5000 0xD + 1) % 2 ^ 32 ∧
          t.rd 0x5000 0xF = ((u.now - a) / 1000 : Nat) % 2 ^ 32) ∧
      (∀ (p : Pass) (q : Nat) (r : List Nat), u.aux.urgent = [] → u.aux.pass = some p → p.todo = q :: r → u.seqMode ≠ 0 →
        ∃ (t : State) (v : Visit), exec (.auxVisitStart dt) s = .next t ∧ t.aux.visit = some v ∧ v.slot = q ∧ v.urgent = false ∧
          v.start = u.now ∧ t.aux.pass = some { p with todo := r } ∧ t.dict = u.dict) ∧
      (u.aux.urgent = [] → u.aux.pass = none → exec (.auxVisitStart dt) s = .next u)) ∧
    (∀ p : Pass, u.aux.pass = some p → p.todo = [] → let t := u.passEnd
      t.aux.pass = none ∧ t.rd 0x5000 0xA = (u.rd 0x5000 0xA + 1) % 2 ^ 32 ∧
        t.rd 0x5000 9 = ((u.now - p.start) / 1000 : Nat) % 2 ^ 32 ∧ p.start + (u.now - p.start) / 1000 * 1000 ≤ t.aux.after)

/-- R332, R336 to R345: results, disturbances and outputs. A visit's end makes one result of its slot; the curves stay within their
ranges and an output within 0 to 65,535. A stuck BLANK pin and a REFA out of range raise their events and are left when they end. A
stale output takes its fail action; a shorted one is counted, raised and retried. -/
def Obligations.AuxiliaryResults : Prop :=
  (∀ (ratio : Rat) (v : Int), platinumTemp ratio = .value v ∨ platinumTemp ratio = .saturated v → -200000 ≤ v ∧ v ≤ 850000) ∧
  (∀ (curve : Int) (uv : Rat) (cold v : Int), coupleTemp curve uv cold = .value v ∨ coupleTemp curve uv cold = .saturated v →
    (coupleRange curve).1 ≤ v ∧ v ≤ (coupleRange curve).2) ∧
  (∀ (s : State) (dt : Nat), let u := s.pass dt
    (∀ (v : Visit) (raw : Int) (extreme excFault openFail : Bool) (held power refa : Nat), u.aux.visit = some v → v.slot < 32 →
      v.start + v.time ≤ u.now → ∃ t : State, exec (.auxVisitEnd dt raw extreme excFault openFail held power refa) s = .next t ∧
        t.aux.visit = none ∧ t.rdN (0x5080 + v.slot) 1 % 2 ^ 24 = nextResult (u.rdN (0x5080 + v.slot) 1) ∧
        t.rd (0x5080 + v.slot) 5 = u.fine % 2 ^ 32 ∧ (t.slot v.slot).stamp = u.now ∧
        (∀ m : Fin 17, t.isFresh m (0x5080 + v.slot) = true) ∧
        (excFault = true → v.dark = false → t.rd 0x5000 0xE = (u.rd 0x5000 0xE + 1) % 2 ^ 32 ∧ (t.slot v.slot).faulted = true ∧
          ∃ p ∈ t.ev.pres, p.src = 553) ∧
        (openFail = true → u.rd (0x5010 + v.slot) 0xD ≠ 0 → (t.slot v.slot).isOpen = true ∧
          ((u.slot v.slot).isOpen = false → ∃ p ∈ t.ev.pres, p.src = 520 + v.slot))) ∧
    (∀ q : Fin 32, (u.slot q).faulted = true → (u.slot q).retryAt ≤ u.now →
      exec (.auxExcitationRetry dt q) s = .next (u.updSlot q (fun x => { x with retry := true }))) ∧
    (u.queuesRun = true → u.aux.blankOff = false →
      exec (.blankStuck dt) s = .next ((u.updAux (fun a => { a with blankOff := true })).raise1 561 0)) ∧
    (u.aux.blankOff = true → exec (.blankInputReleased dt) s = .next (u.updAux (fun a => { a with blankOff := false }))) ∧
    (u.queuesRun = true → u.aux.refaBad = false →
      exec (.refaOutOfRange dt) s = .next ((u.updAux (fun a => { a with refaBad := true })).raise1 560 0)) ∧
    (u.aux.refaBad = true → exec (.refaRestored dt) s = .next (u.updAux (fun a => { a with refaBad := false }))) ∧
    (∀ (raw : Int) (extreme excFault openFail : Bool), u.dev.st = .bivouac →
      (∀ (q : Nat) (r : List Nat), u.aux.sleeping = q :: r → q < 32 → ∃ t : State,
        exec (.bivouacConversion dt raw extreme excFault openFail) s = .next t ∧ t.aux.sleeping = r ∧
          t.rdN (0x5080 + q) 1 % 2 ^ 24 = nextResult (u.rdN (0x5080 + q) 1) ∧ (t.slot q).stamp = u.now) ∧
      (u.aux.sleeping = [] → u.aux.period ≤ u.now → ∃ t : State,
        exec (.bivouacConversion dt raw extreme excFault openFail) s = .next t ∧ t.aux.period = u.now + u.rdN 0x5000 6 * 1000000)) ∧
    (∀ (a : Fin 4) (v : Int), 0 ≤ u.outFraction a v ∧ u.outFraction a v ≤ 65535) ∧
    (∀ a : Fin 4, let t := u.outFail a
      (u.rd (0x5100 + a) 6 = 0 → t.rd (0x5100 + a) 7 = u.rd (0x5100 + a) 7) ∧ (u.rd (0x5100 + a) 6 = 1 → t.rd (0x5100 + a) 7 = 0) ∧
        (u.rd (0x5100 + a) 6 = 2 → t.rd (0x5100 + a) 7 = 65535) ∧ (u.rd (0x5100 + a) 8 = 1 → t.rd (0x5100 + a) 8 = 2) ∧
        Touch (fun i j => i = 0x5100 + a ∧ (j = 7 ∨ j = 8)) u t) ∧
    (∀ a : Fin 4,
      (u.queuesRun = true → u.rd (0x5100 + a) 1 = 1 → u.rd (0x5100 + a) 8 = 1 →
        (vget u.aux.outs a).last + u.rdN (0x5100 + a) 0xA * 1000000 ≤ u.now → exec (.aoStale dt a) s = .next (u.outFail a)) ∧
      (u.rd (0x5100 + a) 8 = 1 ∨ u.rd (0x5100 + a) 8 = 2 → exec (.aoShort dt a) s = .next (
        (((u.wr (0x5100 + a) 8 3).bump (0x5100 + a) 9).raise1 (556 + a) 0).updAux (fun x =>
          { x with outs := vupd x.outs a (fun o => { o with retryAt := u.now + 1000000000 }) }))) ∧
      (u.rd (0x5100 + a) 8 = 3 → (vget u.aux.outs a).retryAt ≤ u.now →
        exec (.aoShortRetry dt a true) s = .next ((u.wr (0x5100 + a) 8 1).outHost a) ∧
        exec (.aoShortRetry dt a false) s = .next (
          (if u.latched (556 + a) then u else u.raise1 (556 + a) 0).updAux (fun x =>
            { x with outs := vupd x.outs a (fun o => { o with retryAt := u.now + 1000000000 }) })))))

/-! ## Chapter 15: power and the start -/

/-- R362: at the first rise of VDD_AON the always-on domain starts from zero: Compass, the encoder, the event arbiter with its log and
its latches, every entry at its default; only the contents of NOR are kept. R371: when the bus collapses, likewise only NOR keeps its
contents. A save under way then is torn (R70); here none is. -/
def Obligations.PowerOnAndOff : Prop :=
  ∀ (s : State) (dt written : Nat), let u := s.pass dt
    (u.powered = false →
      ∃ t : State, exec (.coldStart dt) s = .next t ∧ t.pow = { State.reset.pow with boot := .filter } ∧ t.now = 0 ∧ t.compass = 0 ∧
        t.dict = [] ∧ t.dev = State.reset.dev ∧ t.ev = State.reset.ev ∧ t.trn = State.reset.trn ∧ t.dma = State.reset.dma ∧
        t.door.slots = u.door.slots ∧ t.rcp.recipes = u.rcp.norRecipes ∧ t.rcp.norRecipes = u.rcp.norRecipes ∧
        t.lan.bins = u.lan.bins ∧ t.lan.matrices = u.lan.matrices ∧ t.pending = s.pending) ∧
    (u.powered = true → u.door.saving = none →
      ∃ t : State, exec (.lossOfPower dt written) s = .next t ∧ t.powered = false ∧ t.dict = [] ∧ t.dev = State.reset.dev ∧
        t.ev = State.reset.ev ∧ t.door.slots = u.door.slots ∧ t.rcp.recipes = u.rcp.norRecipes ∧ t.rcp.norRecipes = u.rcp.norRecipes ∧
        t.lan.bins = u.lan.bins ∧ t.lan.matrices = u.lan.matrices ∧ t.pending = s.pending)

/-- R20, R43, R362, R440: nRESET low for at least 1 µs, and the watchdog, return the device to Trailhead with the always-on domain
running: Compass and the encoder count go on, the log, the latches and the connections stay, the archive is emptied, the EtherCAT
state machine is in Init with AL status code 0x8001, rails 6 and 7 are off and the start joins its timeline at the release of the
core. The watchdog raises EV0994 (R451). During the rail sequence nRESET restarts it at step 1 (R371). -/
def Obligations.WarmStarts : Prop :=
  ∀ (s : State) (dt written low : Nat), let u := s.pass dt
    (u.pow.boot ≠ .unpowered → u.pow.boot ≠ .filter → u.pow.boot ≠ .rails → u.pow.boot ≠ .haltRail →
      ∀ c kind, (c = .nreset dt low written ∧ 1000 ≤ low ∧ kind = 1) ∨ (c = .watchdogRestart dt written ∧ kind = 2) →
      ∃ t : State, exec c s = .next t ∧ t.dev = State.reset.dev ∧ t.compass = u.compass ∧ t.now = u.now ∧
        t.pow.boot = .core ∧ t.pow.begun = u.now ∧ t.pow.warm = true ∧ t.pow.kind = kind ∧ t.pow.conns = u.pow.conns ∧
        t.ev.log = u.ev.log ∧ t.ev.archive = [] ∧ t.door.ec.st = .init ∧ t.door.ec.al = 0x8001 ∧
        t.trn.enc = u.trn.enc ∧ t.trn.steps = u.trn.steps ∧ t.trn.counting = u.trn.counting ∧
        (∀ n : Fin 16, t.connState n = u.connState n) ∧
        (∀ k : Nat, k < 1024 → t.rd (0x2800 + k) 1 = u.rd (0x2800 + k) 1) ∧
        (∀ k < 5, bit (t.rdN 0x5892 1) k = bit (u.rdN 0x5892 1) k) ∧ bit (t.rdN 0x5892 1) 5 = false ∧ bit (t.rdN 0x5892 1) 6 = false ∧
        (kind = 2 → ∃ p ∈ t.ev.pres, p.src = 994)) ∧
    (u.pow.boot = .rails ∨ u.pow.boot = .haltRail → 1000 ≤ low →
      ∃ t : State, exec (.nreset dt low written) s = .next t ∧ t.pow = { u.pow with boot := .rails, step := 1, attempt := 1, retryAt := none } ∧
        t.rd 0x5892 1 = 0 ∧ Touch (fun i j => i = 0x5892 ∧ j = 1) u t) ∧
    (u.pow.boot = .filter → exec (.nreset dt low written) s = .next u)

/-- R355, R360, R363: the first milliseconds. When the power-on filter releases, BOOT_SEL is sampled and PEN of the lowest connection
that reads present is asserted without qualification; each power-good enables the next rail step, and after steps 5 and 7 none; at
+12 ms the core die is released, at +14 ms the EtherCAT ports open and encoder counting starts, at +20 ms the boot responder answers
discovery on every link whose uplink locks. -/
def Obligations.FirstMilliseconds : Prop :=
  ∀ (s : State) (dt : Nat), let u := s.pass dt
    (∀ (bootSel : Bool) (pres : BitVec 16) (n : Fin 16), u.pow.boot = .filter → u.pow.begun + 2000000 ≤ u.now →
      pres.getLsbD n = true → (∀ k < n.val, pres.getLsbD k = false) →
      exec (.powerOnFilterRelease dt bootSel pres) s = .next (
        { (u.wr (0x58A0 + n) 1 2).wr (0x5880 + n) 1 0 with pow := { u.pow with
          conns := vupd u.pow.conns n (fun c => { c with since := u.now }), lastPen := u.now
          boot := .rails, step := 1, bootSel := bootSel, firstConn := n } })) ∧
    (∀ bootSel : Bool, u.pow.boot = .filter → exec (.powerOnFilterRelease dt bootSel 0) s = .next u) ∧
    (u.pow.step ≠ 0 → (∀ x, u.pow.retryAt = some x → x ≤ u.now) →
      exec (.railStepPowerGood dt) s = .next { u.wrBit 0x5892 1 (u.pow.step - 1) true with
        pow := { u.pow with step := if u.pow.step = 5 ∨ 7 ≤ u.pow.step then 0 else u.pow.step + 1, retryAt := none } }) ∧
    (u.pow.boot = .rails → u.pow.step = 0 → u.rdN 0x5892 1 % 32 = 31 → 12000000 ≤ u.timeline →
      exec (.coreRelease dt) s = .next { u with pow := { u.pow with boot := .core } }) ∧
    (u.pow.boot = .core → 14000000 ≤ u.timeline →
      exec (.ethercatPortsOpen dt) s = .next { u with pow := { u.pow with boot := .ports }, trn := { u.trn with counting := true } }) ∧
    (∀ locked : BitVec 16, u.pow.boot = .ports → 20000000 ≤ u.timeline →
      ∃ t : State, exec (.bootResponderStart dt locked) s = .next t ∧ t.pow = { u.pow with boot := .responder } ∧
        (∀ n : Fin 16, if locked.getLsbD n then t.rd (0x5800 + n) 1 = 1 ∧ (t.link n).locked = true
          else t.rd (0x5800 + n) 1 = u.rd (0x5800 + n) 1 ∧ t.link n = u.link n))

/-- R361: a fault of steps 1 to 5 switches every step off, raises EV0675 with the step and the attempt, and restarts the sequence at
step 1 after 100 ms and 1 ms for each further step that was on, or after the third attempt halts the start with AL status code 0x8002. A
fault of steps 6 and 7 switches both off and raises EV0675 with the step; a wake under way fails and its held write is answered with
code 7. -/
def Obligations.RailFaults : Prop :=
  ∀ (s : State) (dt : Nat) (k : Fin 7) (fell : Bool), let u := s.pass dt
    u.railDue (k + 1) fell = true →
    (k.val < 5 → u.pow.boot = .rails → u.pow.attempt < 3 →
      ∃ t : State, exec (.railFault dt k fell) s = .next t ∧ t.rd 0x5892 1 = 0 ∧
        t.pow = { u.pow with
          warm := false, boot := .rails, step := 1, attempt := u.pow.attempt + 1
          retryAt := some (u.now + ((u.railsOn - 1) * 1000000 + 100000000)) } ∧
        ((∀ p ∈ u.ev.pres, p.src ≠ 675) → (⟨675, .narrow ((k.val + 1) * 256 + u.pow.attempt)⟩ : Present) ∈ t.ev.pres) ∧
        Touch (fun i j => (i = 0x5892 ∧ j = 1) ∨ i = 0x2800 + 675) u t) ∧
    (k.val < 5 → u.pow.boot = .rails → 3 ≤ u.pow.attempt →
      ∃ t : State, exec (.railFault dt k fell) s = .next t ∧ t.rd 0x5892 1 = 0 ∧ t.pow.boot = .haltRail ∧ t.pow.step = 0 ∧
        t.door.ec.al = 0x8002 ∧ ∃ p ∈ t.ev.pres, p.src = 675) ∧
    (5 ≤ k.val → u.dev.move ≠ .waking →
      exec (.railFault dt k fell) s = .next { ((u.wrBit 0x5892 1 6 false).wrBit 0x5892 1 5 false).raise1 675 (k + 1) with
        pow := { u.pow with step := 0, retryAt := none } }) ∧
    (5 ≤ k.val → u.dev.move = .waking → ∀ m, u.dev.held = some m →
      ∃ t : State, exec (.railFault dt k fell) s = .next (t.answer m 0x2000 2 7) ∧
        t.dev = { u.dev with move := .none, goal := u.dev.st, held := none } ∧ bit (t.rdN 0x5892 1) 5 = false ∧ bit (t.rdN 0x5892 1) 6 = false)

/-- R363, R367, R368: Ready ends Trailhead: the device is in Bivouac and accepts EtherCAT requests, the boot record shows the start,
EV0676 is raised and nothing raised in Trailhead counts as fatal-class; the active recipe is the startup recipe if it is stored, else
none (R159). -/
def Obligations.ReadyEndsTrailhead : Prop :=
  ∀ (s : State) (dt : Nat), let u := s.pass dt
    u.pow.boot = .loaded → u.upd.failing = false →
      ∃ t : State, exec (.ready dt) s = .next t ∧ t.dev.st = .bivouac ∧ t.dev.ready = true ∧ t.dev.move = .none ∧ t.dev.goal = .bivouac ∧
        t.pow.boot = .done ∧ t.door.ec.al = 0 ∧ t.ev.fatal = false ∧ (∃ p ∈ t.ev.pres, p.src = 676) ∧
        t.rd 0x2060 1 = (u.pow.kind : Int) % 2 ^ 8 ∧ t.rd 0x2060 2 = (u.pow.bank : Int) % 2 ^ 8 ∧ t.rd 0x2060 3 = (u.pow.reason : Int) % 2 ^ 8 ∧
        t.rd 0x2060 4 = (u.pow.attempt : Int) % 2 ^ 8 ∧ t.rd 0x2060 5 = ((u.now - u.pow.begun) / 1000 : Nat) % 2 ^ 32 ∧
        t.rd 0x2060 6 = (u.pow.firstConn : Int) % 2 ^ 8 ∧ t.rd 0x2060 8 = (u.pow.reload : Int) % 2 ^ 16

/-- R357: removed connection power: the connection is absent and its link lost; when it was the only admitted one, the lowest other
connection that reads present is enabled at once. R359: the auxiliary input: reversed, out of range, in range and qualifying, removed,
and admitted or disabled after 100 ms. -/
def Obligations.PowerInputs : Prop :=
  ∀ (s : State) (dt : Nat), let u := s.pass dt
    (∀ (n k : Fin 16) (pres : BitVec 16), u.connState n = 3 → (∀ i : Fin 16, i ≠ n → u.connState i ≠ 3) → k ≠ n →
      pres.getLsbD k = true → u.connState k ≤ 1 → (∀ i < k.val, i ≠ n.val → pres.getLsbD i = false) →
      exec (.connectionPowerRemoved dt n pres) s = .next (((u.setConn n 0).loseLink n).enableConn k)) ∧
    (∀ (n k : Fin 16) (pres : BitVec 16), k ≠ n → u.connState n = 3 → u.connState k = 3 →
      exec (.connectionPowerRemoved dt n pres) s = .next ((u.setConn n 0).loseLink n)) ∧
    (u.powered = true → u.vaux ≠ 1 → exec (.vauxReversed dt) s = .next (((u.wr 0x5891 3 1).bump 0x5891 6).raise1 672 0)) ∧
    (∀ mv : Nat, u.powered = true → u.vaux ≠ 2 → 3000 ≤ mv → (mv < 19200 ∨ 30000 < mv) →
      exec (.vauxOutOfRange dt mv) s = .next ((u.wr 0x5891 3 2).raise1 673 0)) ∧
    (∀ mv : Nat, u.powered = true → mv < 3000 → exec (.auxiliaryInputQualifying dt mv) s = .next (u.wr 0x5891 3 0)) ∧
    (∀ mv : Nat, u.powered = true → 19200 ≤ mv → mv ≤ 30000 → u.vaux ≤ 2 → ∃ t : State,
      exec (.auxiliaryInputQualifying dt mv) s = .next t ∧ t.vaux = 3 ∧ t.pow = { u.pow with vauxSince := u.now } ∧
        Touch (fun i j => i = 0x5891 ∧ j = 3) u t) ∧
    (u.vaux = 3 → u.pow.vauxSince + 100000000 ≤ u.now → u.dev.ready = true →
      exec (.vauxQualified dt) s = .next (u.wr 0x5891 3 (if u.rd 0x5891 1 = 1 then 4 else 5)))

/-- R364, R365, R426: at +40 ms the bank is chosen. Without a trial (R421), the bank marked active is taken with reason 0, or with BOOT_SEL
the other one with reason 1; when the one chosen fails its checks, the other with reason 2; when both fail the start halts with AL
status code 0x8003. Sub-processor images that load at the first or second attempt let the start go on, and 0x2060:08 will show which
needed the second; one that fails twice fails the bank, and the device restarts warm with kind 4. In the halt without a valid bank,
in Bootstrap, a full image that is of this device and matches its digests is written into bank A, which is then active, and the device
starts warm; one whose header fails leaves the halt, with EV0768. -/
def Obligations.BankAndReload : Prop :=
  ∀ (s : State) (dt : Nat), let u := s.pass dt
    (u.pow.boot = .responder → 40000000 ≤ u.timeline → u.upd.trial = none → u.pow.failed = 0 → ∀ good : Fin 2 → Bool,
      let want := if u.pow.bootSel then 1 - u.markedActive else u.markedActive
      (∀ b : Fin 2, b.val = want → good b = true → ∃ t : State, exec (.bankSelect dt (good 0) (good 1) true) s = .next t ∧
        t.pow = { u.pow with bank := want, reason := b2n u.pow.bootSel, boot := .banked }) ∧
      (∀ b : Fin 2, b.val = want → good b = false → good (1 - b) = true →
        ∃ t : State, exec (.bankSelect dt (good 0) (good 1) true) s = .next t ∧
          t.pow = { u.pow with bank := 1 - want, reason := 2, boot := .banked }) ∧
      (good 0 = false → good 1 = false → exec (.bankSelect dt (good 0) (good 1) true) s = .next { u with
        pow := { u.pow with boot := .haltBank }, door := { u.door with ec := { u.door.ec with al := 0x8003 } } })) ∧
    (u.pow.boot = .banked → u.upd.failing = false → ∀ first second : BitVec 5,
      (first &&& second = 0 → exec (.subprocessorReload dt first second) s = .next { u with
        pow := { u.pow with reload := first.toNat, boot := .loaded } }) ∧
      (first &&& second ≠ 0 → ∃ t : State, exec (.subprocessorReload dt first second) s = .next t ∧
        t.pow.boot = .core ∧ t.pow.warm = true ∧ t.pow.kind = 4 ∧ bit t.pow.failed u.pow.bank = true ∧ t.dev = State.reset.dev)) ∧
    (∀ (bs : List Byte) (manifest : Bool), u.pow.boot = .haltBank → u.door.ec.st = .boot →
      (headerFormatBad (bs.take 4096) = true →
        exec (.bootstrapImageWrite dt bs manifest true) s = .next ((u.raise1 768 0).mailbox 0x8004)) ∧
      (headerFormatBad (bs.take 4096) = false → fieldAt (bs.take 4096) 8 4 = Config.vendorId → fieldAt (bs.take 4096) 12 4 = 0x6400 →
        fieldAt (bs.take 4096) 16 4 = 0x20000 → bit (fieldAt (bs.take 4096) 7 1) 0 = false → headerLimitsBad (bs.take 4096) = false →
        hKind (bs.take 4096) ≠ 2 → hLength (bs.take 4096) = bs.length → sha256 (bs.drop 4096) = slice (bs.take 4096) 88 32 →
        sha256 ((bs.drop 4096).take (hResult (bs.take 4096))) = hDigest (bs.take 4096) → manifest = true →
        ∃ t : State, exec (.bootstrapImageWrite dt bs manifest true) s = .next t ∧ t.pow.boot = .core ∧ t.pow.warm = true ∧
          (t.fw 0).code = 1 ∧ (t.fw 0).version = fieldAt (bs.take 4096) 32 4 ∧ (t.fw 1).code ≠ 1 ∧ t.upd.trial = none))

/-- R352, R354 to R357: connection n. Entering a state sets 0x58A0+n:01 and, as state 3 is or is not entered, 0x5880+n:01; a shed
enters state 4, counts and raises EV(0656+n) with detail 2, and leaves the link alone. Presence makes an absent connection present,
or disabled while admission is; an absent level ends the states 1, 4 and 5; an invalid level is a sense fault, and a valid one ends
it. From Ready on, and the admission spacing after the last PEN, the lowest present connection is enabled; 10 ms after PEN it is
admitted below I_lim = 12.0 W / V_nom and shed otherwise; a shed one is retried after 1 s up to the attempt limit and then disabled; an
admitted one above I_lim is reported and counted and stays, and above 1.25 × I_lim it is shed. A write of 0x5880+n:04 disables and
enables. -/
def Obligations.ConnectionAdmission : Prop :=
  ∀ (s : State) (dt : Nat) (n : Fin 16), let u := s.pass dt
    (∀ code : Nat, code ≤ 6 → let t := u.setConn n code;
      t.connState n = code ∧ t.rd (0x5880 + n) 1 = (if code = 3 then 1 else 0) ∧ (t.conn n).since = u.now ∧
      (t.conn n).attempts = (u.conn n).attempts ∧ (∀ k : Fin 16, k ≠ n → t.conn k = u.conn k) ∧
      t = { u with dict := t.dict, pow := { u.pow with conns := t.pow.conns } } ∧
      Touch (fun i j => (i = 0x58A0 + n ∨ i = 0x5880 + n) ∧ j = 1) u t) ∧
    (let t := u.shed n;
      t.connState n = 4 ∧ t.rd (0x5880 + n) 1 = 0 ∧ (t.conn n).attempts = (u.conn n).attempts + 1 ∧
      t.rd (0x58A0 + n) 2 = (u.rd (0x58A0 + n) 2 + 1) % 2 ^ 32 ∧ t.lnk = u.lnk ∧
      ((∀ p ∈ u.ev.pres, p.src ≠ 656 + n) → (⟨656 + n, .narrow 2⟩ : Present) ∈ t.ev.pres)) ∧
    (u.powered = true → u.connState n = 0 → exec (.connectionPresent dt n) s =
      .next ((u.setConn n (if u.rd (0x5880 + n) 4 = 0 then 5 else 1)).updConn n (fun c => { c with attempts := 0 }))) ∧
    (u.connState n = 1 ∨ u.connState n = 4 ∨ u.connState n = 5 → exec (.connectionPresenceLost dt n) s = .next (u.setConn n 0)) ∧
    (u.powered = true → u.connState n ≠ 6 → exec (.connectionSenseFault dt n) s = .next ((u.setConn n 6).raise1 (656 + n) 3)) ∧
    (∀ p : Bool, u.connState n = 6 → exec (.senseFaultCleared dt n p) s = .next (u.setConn n (if p then 1 else 0))) ∧
    (u.dev.ready = true → u.pow.lastPen + u.rdN 0x5890 5 * 1000000 ≤ u.now → u.connState n = 1 → (∀ k < n.val, u.connState k ≠ 1) →
      exec (.connectionEnable dt) s = .next { u.setConn n 2 with pow := { (u.setConn n 2).pow with lastPen := u.now } }) ∧
    (∀ current : Nat, u.connState n = 2 → (u.conn n).since + 10000000 ≤ u.now → current * u.rdN 0x5890 1 < 12000000 →
      exec (.connectionAdmissionCheck dt n current) s = .next ((u.setConn n 3).updConn n (fun c => { c with attempts := 0 }))) ∧
    (∀ current : Nat, u.connState n = 2 → (u.conn n).since + 10000000 ≤ u.now → 12000000 ≤ current * u.rdN 0x5890 1 →
      exec (.connectionAdmissionCheck dt n current) s = .next (u.shed n)) ∧
    (u.connState n = 4 → (u.conn n).since + 1000000000 ≤ u.now → exec (.connectionShedRetry dt n) s = .next (
      if (u.conn n).attempts < u.rdN 0x5890 6 ∧ u.rd (0x5880 + n) 4 = 1 then
        { u.setConn n 2 with pow := { (u.setConn n 2).pow with lastPen := u.now } }
      else u.setConn n 5)) ∧
    (∀ current : Nat, u.connState n = 3 → 12000000 < current * u.rdN 0x5890 1 → ∃ t : State,
      exec (.connectionOverload dt n current) s = .next t ∧ t.connState n = 3 ∧ t.pow = u.pow ∧
        t.rd (0x58A0 + n) 3 = (u.rd (0x58A0 + n) 3 + 1) % 2 ^ 32 ∧ (∃ p ∈ t.ev.pres, p.src = 656 + n) ∧ t.lnk = u.lnk) ∧
    (∀ current : Nat, u.connState n = 3 → 12000000 * 5 < current * u.rdN 0x5890 1 * 4 →
      exec (.connectionShed dt n current) s = .next (u.shed n)) ∧
    (∀ m : Fin 17, u.masterPresent m = true → u.dev.ready = true →
      exec (.admissionEnableWrite dt m n 0) s = .next (
        (if u.connState n = 1 ∨ u.connState n = 4 then (u.wr (0x5880 + n) 4 0).setConn n 5 else u.wr (0x5880 + n) 4 0).answer m (0x5880 + n) 4 0) ∧
      exec (.admissionEnableWrite dt m n 1) s = .next (
        (if u.connState n = 5 then ((u.wr (0x5880 + n) 4 1).setConn n 1).updConn n (fun c => { c with attempts := 0 })
          else u.wr (0x5880 + n) 4 1).answer m (0x5880 + n) 4 0))

/-! ## Chapter 16: the Canteen -/

/-- R373, R377, R385: one tick of the Canteen at each Compass multiple of 1 ms from Ready on; between them the command finds nothing due.
Reading the inputs publishes V_b, the connection currents, the capacity, the input budget and the consumption, and moves the account by
what is admitted less what is consumed, within 0 and what the bank holds; below its reserve it raises EV0646. The thermal step
publishes the sixteen die sensors, an invalid one at the limit, and the thermal state. -/
def Obligations.CanteenTick : Prop :=
  ∀ (s : State) (dt vb : Nat) (currents : List Nat) (dies : List Int) (invalid : BitVec 16), let u := s.arrive dt
    (u.dev.ready = true → u.fine / 1000000 ≠ u.can.tickAt / 1000000 →
      exec (.canteenTick dt vb currents dies invalid) s = .next (u.tick vb currents dies invalid.toNat)) ∧
    (u.dev.ready = false ∨ u.fine / 1000000 = u.can.tickAt / 1000000 → exec (.canteenTick dt vb currents dies invalid) s = .next u) ∧
    (let t := u.readInputs vb currents;
      t.rd 0x4C00 4 = min vb 80000 ∧
      (∀ n : Fin 16, t.rd (0x5880 + n) 2 = if u.connState n = 2 ∨ u.connState n = 3 then min 1000 (currents.getD n 0) else 0) ∧
      t.rd 0x5A00 3 = t.bankEnergy (t.rdN 0x5A00 6) % 2 ^ 32 ∧
      t.rd 0x5A00 2 = limit 0 (min (t.bankEnergy (t.rdN 0x4C00 4)) (t.bankEnergy (t.rdN 0x5A00 6)) : Nat)
        (u.rd 0x5A00 2 + (t.admittedLimit + t.auxCredit : Nat) - t.consumption) % 2 ^ 32 ∧
      t.rd 0x5A00 4 = max 0 t.inputBudget % 2 ^ 32 ∧ t.rd 0x5A00 5 = t.consumption % 2 ^ 32 ∧ t.rd 0x5A00 0x10 = t.auxCredit ∧
      (t.bankEnergy (t.rdN 0x4C00 4) < 2 ^ 32 → t.rd 0x5A00 2 < t.reserve → u.can.reserveTold = false → ∃ p ∈ t.ev.pres, p.src = 646) ∧
      t.can.tickAt = u.fine ∧ t.can.floorTicks = (if vb < u.rdN 0x4C00 2 then u.can.floorTicks + 1 else 0) ∧
      t.can.overTicks = (if t.admittedLimit + t.auxCredit < t.consumption then u.can.overTicks + 1 else 0)) ∧
    (let t := u.thermalStep dies invalid.toNat;
      let reading := fun k => if bit invalid.toNat k then u.rd 0x5A01 2 else dies.getD k 0;
      (∀ k : Fin 16, t.rd 0x5A02 (k + 1) = (tyAt 0x5A02 (k + 1)).wrap (reading k)) ∧
      ((∃ k < 16, 1760 ≤ reading k) → t.rd 0x5A01 6 = 3) ∧
      ((∀ k < 16, reading k < 1760) → (∃ k < 16, u.rd 0x5A01 2 ≤ reading k) → t.rd 0x5A01 6 = 2) ∧
      ((∀ k < 16, reading k < 1760 ∧ reading k < u.rd 0x5A01 2 ∧ reading k < u.rd 0x5A01 1) → u.boardAt = false → t.rd 0x5A01 6 = 0) ∧
      ((∃ k < 16, 1760 ≤ reading k) → u.can.shutAt = none →
        t.can.shutAt = some u.now ∧ t.can.lantern = false ∧ t.rd 0x5A01 7 = (u.rd 0x5A01 7 + 1) % 2 ^ 32 ∧ ∃ p ∈ t.ev.pres, p.src = 721))

/-- R377, R378, R382, R384, R388: grants. No plan grants a consumer more than its reservation, nor in all more than the budget beyond what
is fixed; a lower grant falls at the tick, and a higher one rises only after the restore hold, to the lowest value allowed in it. A
lamp grant asked for comes with the second tick that passes its conditions and is withdrawn below the floor or at a thermal shutdown,
with EV0648: paced, the table stops at a peg; inline, the duty scale is 0. Consumption above the budget is told once with EV0647. The
energy state shown is the one that the grants give. -/
def Obligations.CanteenGrants : Prop :=
  ∀ (s : State) (dt : Nat), let u := s.pass dt
    (∀ (res : List Nat) (off : Bool), res.length = 10 → let g := fun c => (u.plan res off).grants.getD c 0
      (∀ c < 10, g c ≤ res.getD c 0) ∧
      ((g 0 + g 1 + g 2 + g 3 + g 6 + g 7 + g 8 + g 9 : Nat) : Int) ≤
        max u.inputBudget (res.getD 0 0 + res.getD 1 0 + res.getD 2 0 + u.auxMin res : Nat)) ∧
    (∀ (c : Fin 10) (was allowed : Nat), let t := u.giveGrant c was allowed
      (allowed ≤ u.rdN 0x5A11 (c + 1) ∨ was ≤ u.rdN 0x5A11 (c + 1) →
        t.rd 0x5A11 (c + 1) = (allowed : Int) % 2 ^ 32 ∧ vget t.can.riseFrom c = none) ∧
      (u.rdN 0x5A11 (c + 1) < allowed → u.rdN 0x5A11 (c + 1) < was → t.dict = u.dict ∧
        (vget u.can.riseFrom c = none → vget t.can.riseFrom c = some u.now ∧ vget t.can.riseTo c = allowed) ∧
        (∀ x, vget u.can.riseFrom c = some x → vget t.can.riseFrom c = some x ∧
          vget t.can.riseTo c = min (vget u.can.riseTo c) allowed))) ∧
    (∀ (c : Fin 10) (x : Nat), u.dev.ready = true → vget u.can.riseFrom c = some x → x + u.rdN 0x5A00 0xC * 1000000 ≤ u.now →
      ∃ t : State, exec (.grantRestoreHoldExpiry dt) s = .next t ∧ t.rd 0x5A11 (c + 1) = (vget u.can.riseTo c % 2 ^ 32 : Nat) ∧
        vget t.can.riseFrom c = none) ∧
    (u.can.lamp = false → u.can.lampAsked = true → u.dev.ready = true → u.rd 0x5A01 6 < 3 → u.bankReady = true →
      (u.lampStep true).can = { u.can with
        lamp := u.can.lampTick, lampAsked := !u.can.lampTick, lampTick := !u.can.lampTick
        floorTicks := if u.can.lampTick then 0 else u.can.floorTicks } ∧
      (u.lampStep false).can = { u.can with lampTick := false }) ∧
    (let v := s.arrive dt;
      let w := (v.updCan (fun c => { c with lamp := false, lampTick := false })).raise1 648 0;
      v.can.lamp = true → 10 ≤ v.can.floorTicks ∨ v.can.shutAt ≠ none →
        (v.paced = true → exec (.lampGrantWithdrawn dt) s = .next (w.pegStop 2)) ∧
        (v.paced = false → v.live = true → ∃ t : State, exec (.lampGrantWithdrawn dt) s = .next t ∧ t.can.lamp = false ∧
          t.rd 0x5A11 4 = 0 ∧ t.rd 0x5A11 7 = 0 ∧ (∃ p ∈ t.ev.pres, p.src = 648) ∧
          t.rd 0x5A00 0xE = (if v.rdN 0x5A10 4 + v.rdN 0x5A10 7 = 0 then 1000 else 0)) ∧
        (v.paced = false → v.live = false → exec (.lampGrantWithdrawn dt) s = .next w)) ∧
    (10 ≤ u.can.overTicks → u.can.overTold = false →
      exec (.consumptionAboveBudget dt) s = .next ((u.raise1 647 0).updCan (fun c => { c with overTold := true }))) ∧
    (let t := u.publishGrants;
      t.rdN 0x5A00 1 = t.energyState ∧ (u.rdN 0x5A00 1 ≠ t.energyState → ∃ p ∈ t.ev.pres, p.src = 640))

/-! ## Chapter 17: self-trim -/

/-- R398 to R404: self-trim. A write of a mask asks for ordinary trims and lifts a suspension; the forced request of the lowest cluster is
next, else the oldest. A trim that starts sets cluster state 3; one that passes takes the cluster temperature as its reference and
clears the failures, a failing one counts, is retried after the interval, and at the third failure is suspended. An abandoned trim
counts, and its request stays pending. A record takes the older of the two places with the next generation. -/
def Obligations.SelfTrim : Prop :=
  ∀ (s : State) (dt : Nat), let u := s.pass dt
    (∀ (m : Fin 17) (mask : Nat), u.masterPresent m = true → u.dev.ready = true → 1 ≤ mask → mask ≤ 255 →
      ∃ t : State, exec (.requestTrim dt m mask) s = .next (t.answer m 0x2400 3 0) ∧
        ∀ k : Fin 8,
          (bit mask k = false → t.cluster k = u.cluster k) ∧
          (bit mask k = true → u.trimRuns k = false → (u.cluster k).req = none →
            t.cluster k = { u.cluster k with
              req := some ⟨false, u.now, u.now⟩, result := if (u.cluster k).result = 6 then 2 else (u.cluster k).result } ∧
            t.rd 0x2401 (k + 1) = 3) ∧
          (∀ r, bit mask k = true → u.trimRuns k = false → (u.cluster k).req = some r → (t.cluster k).req = some r)) ∧
    (∀ (k : Fin 8) (r : TrimReq), (u.cluster k).req = some r → r.forced = true →
      (∀ (i : Fin 8) (q : TrimReq), i < k → (u.cluster i).req = some q → q.forced = false) → u.nextTrim = some (k.val, r)) ∧
    (∀ (k : Fin 8) (r : TrimReq), (u.cluster k).req = some r →
      (∀ (i : Fin 8) (q : TrimReq), (u.cluster i).req = some q → q.forced = false ∧ (i ≠ k → r.since < q.since)) →
      u.nextTrim = some (k.val, r)) ∧
    (∀ (k : Fin 8) (r : TrimReq), let v := s.arrive dt
      v.queuesRun = true → v.dev.move ≠ .entering → v.trm.running = none → v.sh.capture = none → v.rcp.measure = none →
      v.nextTrim = some (k.val, r) → v.afeCool k = true → r.asked < v.can.tickNow → (∀ i : Fin 8, (v.cluster i).endAt < v.can.tickNow) →
      (r.forced = true → exec (.selfTrimStart dt) s = .next (v.startTrim k r none)) ∧
      (∀ w, r.forced = false → v.quiet k = some w → v.affords 720 = true → exec (.selfTrimStart dt) s = .next (v.startTrim k r w)) ∧
      (r.forced = false → v.quiet k = none → exec (.selfTrimStart dt) s = .next v)) ∧
    (∀ (k : Fin 8) (r : TrimReq) (w : Option (Int × Int)), let t := u.startTrim k r w
      t.trm.running = some ⟨k, u.now, r.forced, r.since, w⟩ ∧ (t.cluster k).req = none ∧ t.rdN 0x2000 3 / 4 ^ k.val % 4 = 3 ∧
        t.rd 0x2401 (k + 1) = 5 ∧ (∀ i : Fin 8, i ≠ k → t.cluster i = u.cluster i) ∧
        t.rd 0x2400 7 = (if r.forced then (u.rd 0x2400 7 + 1) % 2 ^ 32 else u.rd 0x2400 7)) ∧
    (∀ (x : Trimming) (k : Fin 8) (bad : BitVec 8), let v := s.arrive dt
      v.trm.running = some x → x.cluster = k.val → (v.cluster k).req = none →
      ((∀ i ∈ v.trimmed k, bad.getLsbD i = false) → ∃ t : State, exec (.selfTrimEnd dt bad) s = .next t ∧ t.trm.running = none ∧
        t.rd 0x2401 (k + 1) = 1 ∧ t.rd 0x2405 (k + 1) = 0 ∧ t.rd 0x2400 6 = (v.rd 0x2400 6 + 1) % 2 ^ 32 ∧
        t.rd 0x2404 (k + 1) = v.fine ∧ bit (t.rdN 0x2400 4) k = true ∧ bit (t.rdN 0x2400 5) k = false ∧
        (∀ temp, v.clusterTemp k = some temp → t.rd 0x2402 (k + 1) = (tyAt 0x2402 (k + 1)).wrap temp)) ∧
      ((∃ i ∈ v.trimmed k, bad.getLsbD i = true) → ∃ t : State, exec (.selfTrimEnd dt bad) s = .next t ∧ t.trm.running = none ∧
        t.rdN 0x2405 (k + 1) = min 3 (v.rdN 0x2405 (k + 1) + 1) ∧ t.rd 0x2401 (k + 1) = (if 2 ≤ v.rdN 0x2405 (k + 1) then 6 else 2) ∧
        t.rd 0x2402 (k + 1) = v.rd 0x2402 (k + 1) ∧ (t.cluster k).retryAt = v.now + v.rdN 0x2400 9 * 1000000000 ∧
        bit (t.rdN 0x2400 4) k = false ∧ bit (t.rdN 0x2400 5) k = true ∧ ∃ p ∈ t.ev.pres, p.src = 816 + k)) ∧
    (∀ (x : Trimming) (k : Fin 8), u.trm.running = some x → x.cluster = k.val →
      u.trm.abandon = true ∨ u.ev.fatal = true ∨ u.dev.move = .entering →
      ∃ t : State, exec (.selfTrimAbandoned dt) s = .next t ∧ t.trm.running = none ∧
        (t.cluster k).req = some ⟨x.forced, x.since, x.since⟩ ∧ (t.cluster k).result = (u.cluster k).result ∧
        t.rd 0x2400 8 = (u.rd 0x2400 8 + 1) % 2 ^ 32 ∧ t.rd 0x2405 (k + 1) = u.rd 0x2405 (k + 1)) ∧
    (∀ k : Fin 8, u.rd 0x2400 1 = 1 → (u.cluster k).result = 2 → (u.cluster k).req = none → u.dev.ready = true → u.trimRuns k = false →
      (u.cluster k).retryAt ≤ u.now → exec (.selfTrimRetry dt k) s = .next (u.askTrim k false)) ∧
    (∀ (k : Fin 8) (ref : Int), (u.cluster k).write = some ref → u.journalActive = false → u.dev.ready = true →
      (∃ t : State, exec (.trimRecordWritten dt k true) s = .next t ∧ (t.cluster k).write = none ∧
        ((u.cluster k).newest = none → (vget (t.cluster k).recs 0) = some ⟨1, ref⟩) ∧
        (∀ i r, (u.cluster k).newest = some (i, r) → (t.cluster k).newest = some (1 - i, ⟨r.gen + 1, ref⟩))) ∧
      (∃ t : State, exec (.trimRecordWritten dt k false) s = .next t ∧ (t.cluster k).recs = (u.cluster k).recs ∧
        ∃ p ∈ t.ev.pres, p.src = 826))

/-! ## Chapter 18: Evsyn images -/

/-- R416: a write of 1 to 0x2200:0B aborts the session in any state but 8: what was received is dropped, a scheduled or deferred
activation is cancelled, the inactive bank is invalid if anything was written to it, the journal keeps nothing of the session, 0x2200:0C
reads 6, the state becomes 0 and EV0772 is raised. In state 8 the write is refused with code 8. -/
def Obligations.AbortUpdate : Prop :=
  ∀ (s : State) (dt : Nat) (m : Fin 17), let u := s.pass dt
    u.masterPresent m = true → u.dev.ready = true →
      (u.session = 8 → exec (.abortUpdate dt m) s = .next (u.answer m 0x2200 0xB 8)) ∧
      (u.session ≠ 0 → u.session ≠ 8 → ∃ t : State, exec (.abortUpdate dt m) s = .next (t.answer m 0x2200 0xB 0) ∧
        t.session = 0 ∧ t.rd 0x2200 2 = 0xFF ∧ t.rd 0x2200 0xC = 6 ∧ (∃ p ∈ t.ev.pres, p.src = 772) ∧
        t.upd = { u.upd with header := [], body := [], wait := [], accept := none, leaving := false, banks := t.upd.banks } ∧
        t.fw u.otherBank = { u.fw u.otherBank with
          code := if (u.fw u.otherBank).code = 3 ∨ (u.fw u.otherBank).code = 4 then 0 else (u.fw u.otherBank).code } ∧
        t.fw (1 - u.otherBank) = u.fw (1 - u.otherBank) ∧ journalOf t.session = 0)

/-- R412, R414, R415, R417: delivering an image through a window on the staging domain. Block 0 is checked first: a refused one leaves
the session, an accepted one starts it, or goes on with it where it is the same. A later block is taken at the next offset only, a
lower one is acknowledged without effect, a higher one refused with code 11, another master's with code 8, and one for which the
buffer has no room waits. 30 s of silence interrupt the session. A delta is applied and every image verified, and each failure has its
code. An abort with no session (state 0) aborts nothing, which is the model's reading, log 369. -/
def Obligations.UpdateDelivery : Prop :=
  ∀ (s : State) (dt : Nat), let u := s.pass dt
    (∀ m : Fin 17, u.masterPresent m = true → u.dev.ready = true → u.session = 0 →
      exec (.abortUpdate dt m) s = .next (u.answer m 0x2200 0xB 0)) ∧
    (∀ (m : Fin 17) (w : Fin 4) (bs : List Byte), u.masterPresent m = true → u.dev.ready = true → bs.length = 4096 → u.winOpen w = true →
      u.winOwner w = m → u.winMode w = 2 → u.winTarget w = 0x2201 →
      (u.winOffset w = 0 → let c := u.headerResult m bs
        (c ≠ 1 → c ≠ 8 → ∃ t : State, exec (.updateBlockZero dt m w bs) s = .next (t.answer m (0x2024 + w) 1 (if c = 7 ∨ c = 9 then 8 else 5)) ∧
          t.rd 0x2200 3 = c ∧ t.rd 0x2200 4 = m ∧ t.session = u.session ∧ t.upd = u.upd ∧ (∃ p ∈ t.ev.pres, p.src = 768) ∧
          (c = 7 ∨ c = 9 → ∃ p ∈ t.ev.pres, p.src = 770)) ∧
        (c = 8 → ∃ t : State, exec (.updateBlockZero dt m w bs) s = .next (t.answer m (0x2024 + w) 1 0) ∧
          t.rd 0x2200 3 = 8 ∧ t.session = u.session ∧ t.upd = u.upd) ∧
        (c = 1 → u.session = 1 ∨ u.session = 2 → bs = u.upd.header →
          ∃ t : State, exec (.updateBlockZero dt m w bs) s = .next (t.answer m (0x2024 + w) 1 0) ∧
            t.session = 1 ∧ t.rd 0x2200 2 = m ∧ t.rd 0x2200 7 = u.rd 0x2200 7 ∧ t.upd = { u.upd with last := u.now }) ∧
        (c = 1 → bs ≠ u.upd.header →
          ∃ t : State, exec (.updateBlockZero dt m w bs) s = .next (t.answer m (0x2024 + w) 1 0) ∧
            t.session = 1 ∧ t.rd 0x2200 2 = m ∧ t.rd 0x2200 7 = 4096 ∧ t.rd 0x2200 8 = (hLength bs : Int) % 2 ^ 32 ∧
            t.upd.header = bs ∧ t.upd.body = [] ∧ t.upd.journaled = 0 ∧ (∃ p ∈ t.ev.pres, p.src = 769) ∧
            (hKind bs = 1 → (t.fw u.otherBank).code = 3))) ∧
      (∀ a : Nat, accessCode m a 4096 = 0 → u.winOffset w + a ≠ 0 → (u.winOffset w + a) % 4096 = 0 → let o := u.winOffset w + a
        (u.session = 1 → u.rdN 0x2200 2 ≠ m → exec (.updateBlock dt m w a bs) s = .next (u.answer m (0x2024 + w) 1 8)) ∧
        (u.session = 1 → u.rdN 0x2200 2 = m → u.upd.wait = [] →
          (o = u.rdN 0x2200 7 → o < u.rdN 0x2200 8 → u.bufferFull = false →
            ∃ t : State, exec (.updateBlock dt m w a bs) s = .next (t.answer m (0x2024 + w) 1 0) ∧
              t.rd 0x2200 7 = (o + 4096 : Nat) % 2 ^ 32 ∧ t.upd = { u.upd with body := u.upd.body ++ bs, last := u.now }) ∧
          (o = u.rdN 0x2200 7 → o < u.rdN 0x2200 8 → u.bufferFull = true →
            ∃ t : State, exec (.updateBlock dt m w a bs) s = .next t ∧ t.rd 0x2200 7 = u.rd 0x2200 7 ∧
              t.upd = { u.upd with wait := [(m.val, bs)] }) ∧
          (o < u.rdN 0x2200 7 → ∃ t : State, exec (.updateBlock dt m w a bs) s = .next (t.answer m (0x2024 + w) 1 0) ∧
            t.rd 0x2200 7 = u.rd 0x2200 7 ∧ t.upd = u.upd) ∧
          (u.rdN 0x2200 7 < o → exec (.updateBlock dt m w a bs) s = .next (u.answer m (0x2024 + w) 1 11))))) ∧
    (u.session = 1 ∨ u.session = 2 → min (u.upd.journaled + 65536) (u.rdN 0x2200 8) ≤ u.rdN 0x2200 7 →
      exec (.updateBlocksJournaled dt true) s = .next u.journalStep ∧
      exec (.updateBlocksJournaled dt false) s = .next (u.failSession 5) ∧
      u.journalStep.upd.journaled = min (u.upd.journaled + 65536) (u.rdN 0x2200 8) ∧
      (u.upd.wait = [] → u.rdN 0x2200 8 ≤ u.upd.journaled + 65536 →
        u.journalStep.session = (if hKind u.upd.header = 1 then 4 else 3) ∧ u.journalStep.rd 0x2200 2 = 0xFE)) ∧
    (u.session = 1 → u.upd.last + 30000000000 ≤ u.now → exec (.updateSessionSilence dt) s =
      .next (((u.setSession 2 0xFF).raise1 771 0).updUpd (fun x => { x with wait := [] }))) ∧
    (∀ code : Nat, code ≤ 6 → let t := u.failSession code
      t.session = 9 ∧ t.rd 0x2200 2 = 0xFF ∧ t.rd 0x2200 0xC = code ∧ (t.fw u.otherBank).code = 0 ∧
        ∃ p ∈ t.ev.pres, p.src = if code = 5 then 785 else 774) ∧
    (u.session = 3 →
      (u.bodyGood = false → exec (.updateApplyComplete dt true) s = .next (u.failSession 1)) ∧
      (u.bodyGood = true → u.deltaResult = none → exec (.updateApplyComplete dt true) s = .next (u.failSession 2)) ∧
      (∀ c, u.bodyGood = true → u.deltaResult = some c → exec (.updateApplyComplete dt false) s = .next (u.failSession 5) ∧
        ∃ t : State, exec (.updateApplyComplete dt true) s = .next t ∧ t.session = 4 ∧ t.rd 0x2200 2 = 0xFE ∧
          (t.fw u.otherBank).code = 3 ∧ (t.fw u.otherBank).content = some (c, sha256 c))) ∧
    (u.session = 4 →
      (u.bodyGood = false → exec (.updateVerifyComplete dt true true) s = .next (u.failSession 1)) ∧
      (u.bodyGood = true → (u.fullContent.fw u.otherBank).digest ≠ hDigest u.upd.header →
        exec (.updateVerifyComplete dt true true) s = .next (u.fullContent.failSession 3)) ∧
      (u.bodyGood = true → (u.fullContent.fw u.otherBank).digest = hDigest u.upd.header →
        exec (.updateVerifyComplete dt false true) s = .next (u.fullContent.failSession 4) ∧
        ∃ t : State, exec (.updateVerifyComplete dt true true) s = .next t ∧ t.session = 5 ∧ t.rd 0x2200 2 = 0xFF ∧
          (t.fw u.otherBank).code = 4 ∧ (t.fw u.otherBank).version = fieldAt u.upd.header 32 4 ∧ t.upd.header = u.upd.header ∧
          ∃ p ∈ t.ev.pres, p.src = 775))

/-- R419 to R424: activation and migration. A staged image is scheduled with a non-zero ID, over Casby too where Casby runs; a schedule is
cancelled, expires with EV0778, or comes due: the unit switches when it is idle, and otherwise defers with EV0777 and switches at its
first idle moment, from Scanning or Paused by way of Standby. The switch makes a warm start of kind 3 into the trial bank; a migration
failure marks that bank and makes one of kind 4 back; the defaults are accepted while a bank is in state 6, and the quarantine is
erased on command. -/
def Obligations.ActivationAndMigration : Prop :=
  ∀ (s : State) (dt : Nat), let u := s.pass dt
    (∀ m : Fin 17, u.masterPresent m = true → u.dev.ready = true →
      (u.session ≠ 5 → exec (.scheduleActivationLocal dt m) s = .next (u.answer m 0x2202 3 8) ∧
        exec (.scheduleActivationCasby dt m) s = .next (u.answer m 0x2202 3 8)) ∧
      (u.session = 5 → u.rd 0x2202 1 = 0 → exec (.scheduleActivationLocal dt m) s = .next (u.answer m 0x2202 3 5) ∧
        exec (.scheduleActivationCasby dt m) s = .next (u.answer m 0x2202 3 5)) ∧
      (u.session = 5 → u.rd 0x2202 1 ≠ 0 →
        exec (.scheduleActivationLocal dt m) s = .next (u.schedule.answer m 0x2202 3 0) ∧
        (u.casbyState ≠ 4 → u.casbyState ≠ 5 → exec (.scheduleActivationCasby dt m) s = .next (u.answer m 0x2202 3 7)) ∧
        (u.casbyState = 4 ∨ u.casbyState = 5 →
          exec (.scheduleActivationCasby dt m) s = .next (u.schedule.sendActivation.answer m 0x2202 3 0))) ∧
      (u.session = 6 ∨ u.session = 7 → exec (.cancelSchedule dt m) s = .next (u.unschedule.answer m 0x2202 4 0)) ∧
      (u.session ≠ 6 → u.session ≠ 7 → exec (.cancelSchedule dt m) s = .next (u.answer m 0x2202 4 8)) ∧
      ((∀ b : Fin 2, (u.fw b).code ≠ 6) → exec (.acceptDefaults dt m) s = .next (u.answer m 0x2206 2 8)) ∧
      (∀ b : Fin 2, (u.fw b).code = 6 → (u.fw (1 - b : Fin 2)).code ≠ 6 → u.session = 0 ∨ u.session = 9 →
        ∃ t : State, exec (.acceptDefaults dt m) s = .next (t.answer m 0x2206 2 0) ∧ t.session = 7 ∧ t.rd 0x2202 8 = u.fine ∧
          t.upd = { u.upd with accept := some b.val, since := u.now, leaving := false }) ∧
      exec (.discardQuarantine dt m) s =
        .next (((u.wr 0x2206 3 0).updUpd (fun x => { x with quarantine := none })).answer m 0x2206 4 0)) ∧
    (u.schedule.session = 6 ∧ u.schedule.upd = { u.upd with at_ := u.rdN 0x2202 2, leaving := false } ∧
      (∃ p ∈ u.schedule.ev.pres, p.src = 776) ∧
      u.unschedule.session = (if u.upd.accept.isSome then 0 else 5) ∧
      u.unschedule.upd = { u.upd with accept := none, leaving := false } ∧ u.unschedule.ev = u.ev) ∧
    (let v := s.arrive dt;
      v.upd.leaving = false →
        (v.session = 6 → v.upd.at_ ≤ v.fine → v.idleNow = false → ∃ t : State, exec (.activationTimeReached dt) s = .next t ∧
          t.session = 7 ∧ t.rd 0x2202 8 = v.fine ∧ t.upd = { v.upd with since := v.now } ∧ ∃ p ∈ t.ev.pres, p.src = 777) ∧
        (∀ c : Instr, (c = .activationTimeReached dt ∧ v.session = 6 ∧ v.upd.at_ ≤ v.fine) ∨ (c = .deferredActivationIdle dt ∧ v.session = 7) →
          (bit (v.rdN 0x2202 5) 0 = true → v.restIdle = true → exec c s = .next (v.wr 0x2200 1 8)) ∧
          (v.restIdle = false → v.liveIdle = true → exec c s = .next { v with
            dev := { v.dev with move := .boundary .standby, goal := .standby }, upd := { v.upd with leaving := true } })) ∧
        (v.session = 7 → v.idleNow = false → exec (.deferredActivationIdle dt) s = .next v)) ∧
    (u.session = 7 → u.rd 0x2202 6 ≠ 0 → u.upd.since + u.rdN 0x2202 6 * 1000000000 ≤ u.now →
      exec (.activationExpired dt) s = .next (u.unschedule.raise1 778 0)) ∧
    (u.session = 8 → u.dev.ready = true → u.upd.accept = none → u.pow.bank ≤ 1 →
      ∃ t : State, exec (.bankSwitch dt) s = .next t ∧ t.dev = State.reset.dev ∧ t.pow.kind = 3 ∧ t.pow.warm = true ∧ t.pow.boot = .core ∧
        t.upd.trial = some (1 - u.pow.bank, u.rdN 0x2202 7) ∧ t.upd.trying = true ∧ (t.fw (1 - u.pow.bank)).code = 5 ∧
        t.fw u.pow.bank = u.fw u.pow.bank ∧ t.door.saving = none) ∧
    (u.upd.failing = true → u.pow.boot = .banked ∨ u.pow.boot = .loaded → u.pow.bank ≤ 1 →
      ∃ t : State, exec (.migrationFallback dt) s = .next t ∧ t.dev = State.reset.dev ∧ t.pow.kind = 4 ∧ t.pow.warm = true ∧
        t.pow.boot = .core ∧ (t.fw u.pow.bank).code = 6 ∧ t.fw (1 - u.pow.bank) = u.fw (1 - u.pow.bank) ∧ t.upd.trial = none ∧
        t.upd.fellBack = true ∧ t.upd.found = u.upd.found ∧ t.door.slots = u.door.slots)

/-! ## Chapter 19: events -/

/-- R433, R437: raising a source counts the raise, keeps its detail and presents it to the arbiter; a presentation of that source
that still waits stays as it is; every other entry and every other part of the state stays. -/
def Obligations.RaisingASource : Prop :=
  ∀ (s : State) (src : Nat) (d : Detail), src < 1024 →
    let t := s.raise src d
    t.rd (0x2800 + src) 8 = (s.rd (0x2800 + src) 8 + 1) % 2 ^ 32 ∧
    t.rd (0x2800 + src) 0xB = d.pair.1 % 2 ^ 32 ∧ t.rd (0x2800 + src) 0xC = d.pair.2 % 2 ^ 32 ∧
    (∃ p ∈ t.ev.pres, p.src = src) ∧
    (∀ p ∈ s.ev.pres, p ∈ t.ev.pres) ∧
    ((∀ p ∈ s.ev.pres, p.src ≠ src) → (⟨src, d⟩ : Present) ∈ t.ev.pres) ∧
    t = { s with dict := t.dict, ev := { s.ev with pres := t.ev.pres } } ∧
    Touch (fun i j => i = 0x2800 + src ∧ (j = 8 ∨ j = 0xB ∨ j = 0xC)) s t

/-- R433, R437, R438, R440: the arbiter's cycle stamps the presented event of an enabled source whose latch is clear: the latch is
set, one log entry with the next sequence number, the Compass time and the detail is made, and the sequence number advances. A
disabled source, and a latched one whose repeat mode is 0, makes no entry. In each case nothing stays presented of what was. -/
def Obligations.ArbiterCycle : Prop :=
  (∀ (s : State) (dt src : Nat) (d : Detail), s.Sound → s.powered = true → src < 1024 → s.ev.pres = [⟨src, d⟩] →
    s.rd (0x2800 + src) 2 = 1 → (s.rd (0x2800 + src) 1 ≠ 1 ∨ s.rd (0x2800 + src) 7 = 1) →
    ∃ t r, exec (.eventStamp dt) s = .next t ∧
      t.ev.log = r :: s.ev.log.filter (fun e => e.seq % 4096 ≠ r.seq % 4096) ∧
      r.seq = s.rdN 0x5C00 1 ∧ r.src = src ∧ r.cls = s.rdN (0x2800 + src) 3 ∧
      r.time = ((s.now + dt) / 40 * 40 + s.compassOff) % 2 ^ 64 ∧
      r.rep = decide (s.rd (0x2800 + src) 1 = 1) ∧ r.boot = decide (s.dev.st = .trailhead) ∧
      (match d with | .narrow n => r.detail = n ∧ r.wide = false | .wide a b => r.a = a ∧ r.b = b ∧ r.wide = true) ∧
      t.rd (0x2800 + src) 1 = 1 ∧ t.rd (0x2800 + src) 9 = s.rd 0x5C00 1 ∧ t.rd (0x2800 + src) 0xA = r.time ∧
      t.rd 0x5C00 1 = (if s.rd 0x5C00 1 = 0xFFFFFFFF then 1 else s.rd 0x5C00 1 + 1) ∧
      (t.ev.fatal = true ↔ s.ev.fatal = true ∨ s.rdN (0x2800 + src) 3 = 3) ∧
      t = { s with now := s.now + dt, dict := t.dict, ev := t.ev, door := t.door, que := t.que, lnk := t.lnk } ∧
      Touch (fun i _ => (0x2800 ≤ i ∧ i < 0x2C00) ∨ i = 0x5C00 ∨ (0x5610 ≤ i ∧ i < 0x5618)) s t) ∧
  (∀ (s : State) (dt src : Nat) (d : Detail), s.powered = true → src < 1024 → s.ev.pres = [⟨src, d⟩] →
    (s.rd (0x2800 + src) 2 ≠ 1 ∨ (s.rd (0x2800 + src) 1 = 1 ∧ s.rd (0x2800 + src) 7 ≠ 1)) →
    ∃ t : State, exec (.eventStamp dt) s = .next t ∧ t.ev.log = s.ev.log ∧ t.rd (0x2800 + src) 1 = s.rd (0x2800 + src) 1 ∧
      t.rd 0x5C00 1 = s.rd 0x5C00 1)

/-- R445: in Pre-Op and above the oldest waiting emergency leaves, eight bytes of it, and nothing else changes. R440: outside
Trailhead and Bivouac the oldest entry that the archive lacks is copied to its position there. R449: a pulse of a general-purpose
output ends once its time is over. -/
def Obligations.EmergencyArchivePulse : Prop :=
  (∀ (s : State) (dt : Nat) (r : LogRec) (err : Nat) (rest : List (LogRec × Nat)), s.masterPresent 0 = true →
    s.ev.emergencies = (r, err) :: rest →
    ∃ t : State, exec (.emergencySend dt) s = .next t ∧
      t = { s with now := s.now + dt, ev := { s.ev with emergencies := rest, lastEmergency := t.ev.lastEmergency } } ∧
      t.ev.lastEmergency.length = 8 ∧
      unle (t.ev.lastEmergency.take 2) = (0xFF00 + r.cls) % 2 ^ 16 ∧ unle ((t.ev.lastEmergency.drop 2).take 1) = err % 2 ^ 8 ∧
      unle ((t.ev.lastEmergency.drop 3).take 2) = r.src % 2 ^ 16 ∧ unle (t.ev.lastEmergency.drop 5) = r.seq % 2 ^ 24) ∧
  (∀ (s : State) (dt q : Nat) (rest : List Nat) (r : LogRec), s.queuesRun = true → s.ev.unarchived = q :: rest →
    s.ev.log.find? (fun e => e.seq = q) = some r →
    exec (.archiveCopy dt) s = .next { s with now := s.now + dt, ev := { s.ev with
      unarchived := rest, archive := r :: s.ev.archive.filter (fun e => e.seq % 524288 ≠ q % 524288) } }) ∧
  (∀ (s : State) (dt : Nat) (p : Fin 16) (e : Nat), s.ev.pulse[p] = some e → e ≤ s.now + dt →
    ∃ t : State, exec (.gpPulseEnd dt p) s = .next t ∧ t = { s with now := s.now + dt, ev := { s.ev with pulse := t.ev.pulse } } ∧
      t.ev.pulse[p] = none ∧ ∀ k : Fin 16, k ≠ p → t.ev.pulse[k] = s.ev.pulse[k])

/-- R435, R450, R451, R456: a master's write of 0 clears a latch; a clear by class clears the latches of the sources of those classes
and no other; a write to 0x5C00:06 raises the named host source with the given detail, and any other source is refused with
code 5 with nothing done. -/
def Obligations.EventWrites : Prop :=
  (∀ (s : State) (dt : Nat) (m : Fin 17) (k : Fin 1024), s.masterPresent m = true → s.dev.ready = true →
    exec (.latchClear dt m k) s = .next (((s.pass dt).wr (0x2800 + k) 1 0).answer m (0x2800 + k) 1 0)) ∧
  (∀ (s : State) (dt : Nat) (m : Fin 17) (mask : Nat), s.masterPresent m = true → s.dev.ready = true → 1 ≤ mask → mask ≤ 15 →
    ∃ u : State, exec (.clearLatchesByClass dt m mask) s = .next (u.answer m 0x5C00 5 0) ∧ u = { s with now := s.now + dt, dict := u.dict } ∧
      (∀ k, k < 1024 → u.rd (0x2800 + k) 1 = if mask / 2 ^ s.rdN (0x2800 + k) 3 % 2 = 1 then 0 else s.rd (0x2800 + k) 1) ∧
      Touch (fun i j => 0x2800 ≤ i ∧ i < 0x2C00 ∧ j = 1) s u) ∧
  (∀ (s : State) (dt : Nat) (m : Fin 17) (src detail : Nat), s.masterPresent m = true → s.dev.ready = true → src < 1024 →
    detail < 2 ^ 16 →
    exec (.raiseHostEvent dt m (BitVec.ofNat 32 (src * 2 ^ 22 + detail))) s =
      .next (if 960 ≤ src ∧ src ≤ 991 then ((s.pass dt).raise1 src detail).answer m 0x5C00 6 0 else (s.pass dt).answer m 0x5C00 6 5))

/-- R453: a short stops a group's cycles, reports and counts it; every 100 ms the outputs are driven again for 1 ms, a read-back that
matches for that time ends the short, and a retry that fails raises no further event while the latch stands. -/
def Obligations.TimingOutputShort : Prop :=
  (∀ (s : State) (dt : Nat) (g : Fin 16), s.groupRuns g = true →
    ∃ t : State, exec (.tgOutputShort dt g) s = .next t ∧
      t.rd 0x5C20 (g + 1) = 1 ∧ t.rd 0x5C21 (g + 1) = (s.rd 0x5C21 (g + 1) + 1) % 2 ^ 32 ∧
      (t.group g).running = none ∧ (t.group g).due = none ∧ (t.group g).latch = none ∧
      (t.group g).retryAt = s.now + dt + 100000000 ∧ t.groupRuns g = false ∧
      (∀ h : Fin 16, h ≠ g → t.group h = s.group h) ∧ (∃ p ∈ t.ev.pres, p.src = 920 + g) ∧
      Touch (fun i j => (i = 0x5C20 ∨ i = 0x5C21) ∧ j = g + 1 ∨ i = 0x2800 + (920 + g)) s t) ∧
  (∀ (s : State) (dt : Nat) (g : Fin 16) (matched : Bool), s.rd 0x5C20 (g + 1) ≠ 0 → (s.group g).retryAt ≤ s.now + dt →
    exec (.tgOutputRetry dt g matched) s = .next (
      if s.rd 0x5C20 (g + 1) = 1 then
        ((s.pass dt).wr 0x5C20 (g + 1) 2).updGroup g (fun q => { q with retryAt := s.now + dt + 1000000 })
      else if matched then (s.pass dt).wr 0x5C20 (g + 1) 0
      else if s.rd (0x2800 + (920 + g)) 1 = 1 then
        ((s.pass dt).wr 0x5C20 (g + 1) 1).updGroup g (fun q => { q with retryAt := s.now + dt + 99000000 })
      else
        (((s.pass dt).wr 0x5C20 (g + 1) 1).updGroup g (fun q => { q with retryAt := s.now + dt + 99000000 })).raise1 (920 + g) 0))
end

