-- ==== Sys2Proof/Laws/Store.lean ====
section
/-!
SUPPORT. The sparse stores: what a write leaves to be read, and that it keeps the canonical form (the dictionary, ring memory).
-/
set_option Elab.async false
namespace Sys2Proof.Machine

/-! ## The dictionary's store -/

theorem Store.find_put (l : List (Nat × Int)) (k : Nat) (v : Int) (j : Nat) :
    Store.find (Store.put l k v) j = if k = j then some v else Store.find l j := by
  induction l with
  | nil => simp [Store.put, Store.find]
  | cons p r ih =>
    obtain ⟨i, u⟩ := p
    simp only [Store.put]
    split
    · simp only [Store.find, ih]; split <;> split <;> simp_all
    · split
      · subst_vars; simp only [Store.find]; split <;> simp_all
      · simp only [Store.find]

theorem Store.find_del (l : List (Nat × Int)) (k j : Nat) :
    Store.find (Store.del l k) j = if k = j then none else Store.find l j := by
  induction l with
  | nil => simp [Store.del, Store.find]
  | cons p r ih =>
    obtain ⟨i, u⟩ := p
    simp only [Store.del]
    split
    · simp only [ih, Store.find]; split <;> simp_all
    · simp only [Store.find, ih]; split <;> split <;> simp_all

theorem Store.mem_put {l : List (Nat × Int)} {k : Nat} {v : Int} {p : Nat × Int} (h : p ∈ Store.put l k v) :
    p = (k, v) ∨ p ∈ l := by
  induction l with
  | nil => simpa [Store.put] using h
  | cons q r ih =>
    obtain ⟨i, u⟩ := q
    simp only [Store.put] at h
    split at h
    · rcases List.mem_cons.mp h with h | h
      · simp [h]
      · rcases ih h with h | h <;> simp [h]
    · split at h
      · rcases List.mem_cons.mp h with h | h <;> simp [h]
      · rcases List.mem_cons.mp h with h | h
        · simp [h]
        · exact .inr h

theorem Store.mem_del {l : List (Nat × Int)} {k : Nat} {p : Nat × Int} (h : p ∈ Store.del l k) : p ∈ l := by
  induction l with
  | nil => simp [Store.del] at h
  | cons q r ih =>
    obtain ⟨i, u⟩ := q
    simp only [Store.del] at h
    split at h
    · simp [ih h]
    · rcases List.mem_cons.mp h with h | h
      · simp [h]
      · simp [ih h]

theorem Store.pairwise_put {l : List (Nat × Int)} (h : l.Pairwise (fun a b => a.1 < b.1)) (k : Nat) (v : Int) :
    (Store.put l k v).Pairwise (fun a b => a.1 < b.1) := by
  induction l with
  | nil => simp [Store.put]
  | cons q r ih =>
    obtain ⟨i, u⟩ := q
    obtain ⟨h1, h2⟩ := List.pairwise_cons.mp h
    simp only [Store.put]
    split
    · refine List.pairwise_cons.mpr ⟨fun p hp => ?_, ih h2⟩
      rcases Store.mem_put hp with rfl | hp
      · assumption
      · exact h1 p hp
    · split
      · subst_vars; exact List.pairwise_cons.mpr ⟨h1, h2⟩
      · refine List.pairwise_cons.mpr ⟨fun p hp => ?_, h⟩
        rcases List.mem_cons.mp hp with rfl | hp
        · simp; omega
        · have := h1 p hp; simp at this ⊢; omega

theorem Store.pairwise_del {l : List (Nat × Int)} (h : l.Pairwise (fun a b => a.1 < b.1)) (k : Nat) :
    (Store.del l k).Pairwise (fun a b => a.1 < b.1) := by
  induction l with
  | nil => simp [Store.del]
  | cons q r ih =>
    obtain ⟨i, u⟩ := q
    obtain ⟨h1, h2⟩ := List.pairwise_cons.mp h
    simp only [Store.del]
    split
    · exact ih h2
    · exact List.pairwise_cons.mpr ⟨fun p hp => h1 p (Store.mem_del hp), ih h2⟩

/-- A canonical write of a value in its type's range keeps the dictionary's form. -/
theorem DictFormed.set {d : List (Nat × Int)} (h : DictFormed d) (k : Nat) {v : Int} (hv : (keyTy k).wrap v = v) :
    DictFormed (Store.set d k v (keyDflt k)) := by
  unfold Store.set
  split
  · exact ⟨Store.pairwise_del h.1 k, fun p hp => h.2 p (Store.mem_del hp)⟩
  · refine ⟨Store.pairwise_put h.1 k v, fun p hp => ?_⟩
    rcases Store.mem_put hp with rfl | hp
    · exact ⟨by assumption, hv⟩
    · exact h.2 p hp

theorem Ty.wrap_wrap (t : Ty) (v : Int) : t.wrap (t.wrap v) = t.wrap v := by
  cases t <;> simp [Ty.wrap, Ty.bits, Ty.signed] <;> omega

/-- Reading back: the entry written gives the wrapped value, every other entry what it gave before. -/
theorem Store.find_set (d : List (Nat × Int)) (k : Nat) (v : Int) (j : Nat) :
    (Store.find (Store.set d k v (keyDflt k)) j).getD (keyDflt j) =
      if k = j then v else (Store.find d j).getD (keyDflt j) := by
  unfold Store.set
  split
  · rw [Store.find_del]; split <;> simp_all
  · rw [Store.find_put]; split <;> simp_all

/-! ## Ring memory -/

theorem Memory.formed_weaken {m : List Host.Cell} {b : Nat} (h : Memory.formed m (some b) = true) : Memory.formed m none = true := by
  cases m with
  | nil => rfl
  | cons p r =>
    simp only [Memory.formed, Bool.and_eq_true] at h ⊢
    exact ⟨⟨⟨trivial, h.1.1.2⟩, h.1.2⟩, h.2⟩

theorem Memory.formed_lower {m : List Host.Cell} {b c : Nat} (hc : c ≤ b) (h : Memory.formed m (some b) = true) :
    Memory.formed m (some c) = true := by
  cases m with
  | nil => rfl
  | cons p r =>
    simp only [Memory.formed, Bool.and_eq_true, decide_eq_true_eq] at h ⊢
    exact ⟨⟨⟨by omega, h.1.1.2⟩, h.1.2⟩, h.2⟩

theorem Memory.formed_put {m : List Host.Cell} {lo : Option Nat} (h : Memory.formed m lo = true) {k : Nat} {v : Byte}
    (hk : k < ringSize) (hv : v ≠ 0) (hlo : match lo with | none => True | some b => b < k) :
    Memory.formed (Memory.put m k v) lo = true := by
  induction m generalizing lo with
  | nil => cases lo <;> simp_all [Memory.put, Memory.formed]
  | cons p r ih =>
    obtain ⟨a, b⟩ := p
    simp only [Memory.formed, Bool.and_eq_true, decide_eq_true_eq] at h
    obtain ⟨⟨⟨h1, h2⟩, h3⟩, h4⟩ := h
    simp only [Memory.put]
    split
    · simp only [Memory.formed, Bool.and_eq_true, decide_eq_true_eq]
      exact ⟨⟨⟨h1, h2⟩, h3⟩, ih h4 (by assumption)⟩
    · split
      · subst_vars
        simp only [Memory.formed, Bool.and_eq_true, decide_eq_true_eq]
        exact ⟨⟨⟨h1, h2⟩, hv⟩, h4⟩
      · simp only [Memory.formed, Bool.and_eq_true, decide_eq_true_eq]
        refine ⟨⟨⟨?_, hk⟩, hv⟩, ⟨⟨by omega, h2⟩, h3⟩, h4⟩
        cases lo <;> simp_all

theorem Memory.formed_del {m : List Host.Cell} {lo : Option Nat} (h : Memory.formed m lo = true) (k : Nat) :
    Memory.formed (Memory.del m k) lo = true := by
  induction m generalizing lo with
  | nil => rfl
  | cons p r ih =>
    obtain ⟨a, b⟩ := p
    simp only [Memory.formed, Bool.and_eq_true, decide_eq_true_eq] at h
    obtain ⟨⟨⟨h1, h2⟩, h3⟩, h4⟩ := h
    simp only [Memory.del]
    split
    · refine ih ?_
      cases lo with
      | none => exact Memory.formed_weaken h4
      | some c => exact Memory.formed_lower (by simp at h1; omega) h4
    · simp only [Memory.formed, Bool.and_eq_true, decide_eq_true_eq]
      exact ⟨⟨⟨h1, h2⟩, h3⟩, ih h4⟩

theorem Memory.wf_set {m : List Host.Cell} (h : Memory.wf m = true) {k : Nat} (hk : k < ringSize) (v : Byte) :
    Memory.wf (Memory.set m k v) = true := by
  unfold Memory.set
  split
  · exact Memory.formed_del h k
  · exact Memory.formed_put h hk (by assumption) trivial

/-- Every write into ring memory keeps its canonical form. -/
theorem Memory.wf_setAll {m : List Host.Cell} (h : Memory.wf m = true) (k : Nat) (bs : List Byte) (hk : k + bs.length ≤ ringSize) :
    Memory.wf (Memory.setAll m k bs) = true := by
  induction bs generalizing m k with
  | nil => exact h
  | cons b r ih =>
    simp only [List.length_cons] at hk
    exact ih (Memory.wf_set h (by omega) b) (k + 1) (by omega)

theorem Memory.get_put (m : List Host.Cell) (k : Nat) (v : Byte) (j : Nat) :
    Memory.get (Memory.put m k v) j = if k = j then v else Memory.get m j := by
  induction m with
  | nil => simp [Memory.put, Memory.get]
  | cons p r ih =>
    obtain ⟨a, b⟩ := p
    simp only [Memory.put]
    split
    · simp only [Memory.get, ih]; split <;> split <;> simp_all
    · split
      · subst_vars; simp only [Memory.get]; split <;> simp_all
      · simp only [Memory.get]

theorem Memory.get_del (m : List Host.Cell) (k j : Nat) :
    Memory.get (Memory.del m k) j = if k = j then 0 else Memory.get m j := by
  induction m with
  | nil => simp [Memory.del, Memory.get]
  | cons p r ih =>
    obtain ⟨a, b⟩ := p
    simp only [Memory.del]
    split
    · simp only [ih, Memory.get]; split <;> simp_all
    · simp only [Memory.get, ih]; split <;> split <;> simp_all

/-- A byte written is read back, every other byte is what it was. -/
theorem Memory.get_set (m : List Host.Cell) (k : Nat) (v : Byte) (j : Nat) :
    Memory.get (Memory.set m k v) j = if k = j then v else Memory.get m j := by
  unfold Memory.set
  split
  · rw [Memory.get_del]; split <;> simp_all
  · exact Memory.get_put m k v j

end Sys2Proof.Machine
end

