-- ==== Sys2Proof/Laws/State.lean ====
section
/-!
SUPPORT. Beside State: what every update leaves in every field, and what an entry reads as after a write, so that no proof
unfolds a record update.
-/
set_option Elab.async false
namespace Sys2Proof.Machine

/-! ## Entries -/

/-- R32: a written entry reads as its value in its type; every other entry reads as before. -/
theorem State.rd_wr (s : State) (i j : Nat) (v : Int) (i' j' : Nat) :
    (s.wr i j v).rd i' j' = if key i j = key i' j' then (keyTy (key i j)).wrap v else s.rd i' j' :=
  Store.find_set s.dict (key i j) _ (key i' j')

/-- An entry reads as the value just written, in its type. -/
theorem State.rd_wr_same (s : State) (i j : Nat) (v : Int) : (s.wr i j v).rd i j = (keyTy (key i j)).wrap v := by
  rw [State.rd_wr, if_pos rfl]

/-- A write leaves every other entry alone. -/
theorem State.rd_wr_ne (s : State) (i j : Nat) (v : Int) {i' j' : Nat} (h : key i j ≠ key i' j') :
    (s.wr i j v).rd i' j' = s.rd i' j' := by
  rw [State.rd_wr, if_neg h]

/-- Two entries with subindices of a byte have one key only if they are one entry. -/
theorem key_inj {i j i' j' : Nat} (hj : j < 256) (hj' : j' < 256) : key i j = key i' j' ↔ i = i' ∧ j = j' := by
  unfold key; omega

theorem State.rd_bump (s : State) (i j n i' j' : Nat) :
    (s.bump i j n).rd i' j' = if key i j = key i' j' then (keyTy (key i j)).wrap (s.rd i j + n) else s.rd i' j' :=
  State.rd_wr s i j _ i' j'

/-- Reading an entry depends on the dictionary alone. -/
theorem State.rd_congr {s t : State} (h : t.dict = s.dict) (i j : Nat) : t.rd i j = s.rd i j := by
  unfold State.rd; rw [h]

theorem State.raise_dict (s : State) (src : Nat) (d : Detail) : (s.raise src d).dict =
    (((s.bump (0x2800 + src) 8).wr (0x2800 + src) 0xB d.pair.1).wr (0x2800 + src) 0xC d.pair.2).dict := by
  unfold State.raise; dsimp only

theorem State.raise_rd (s : State) (src : Nat) (d : Detail) (i j : Nat) : (s.raise src d).rd i j =
    (((s.bump (0x2800 + src) 8).wr (0x2800 + src) 0xB d.pair.1).wr (0x2800 + src) 0xC d.pair.2).rd i j :=
  State.rd_congr (s.raise_dict src d) i j

@[simp] theorem State.raise_pres (s : State) (src : Nat) (d : Detail) : (s.raise src d).ev.pres = present ⟨src, d⟩ s.ev.pres := by
  unfold State.raise; dsimp only; rfl

/-- Raising a source changes the dictionary and the presentations only. -/
theorem State.raise_eq (s : State) (src : Nat) (d : Detail) :
    s.raise src d = { s with dict := (s.raise src d).dict, ev := { s.ev with pres := present ⟨src, d⟩ s.ev.pres } } := by
  unfold State.raise; generalize 0x2800 + src = o; rfl

/-- R433, R437: raising a source touches its occurrence counter and its last detail only. -/
theorem State.rd_raise (s : State) (src : Nat) (d : Detail) {i j : Nat} (hj : j < 256)
    (h : ¬ (i = 0x2800 + src ∧ (j = 8 ∨ j = 0xB ∨ j = 0xC))) : (s.raise src d).rd i j = s.rd i j := by
  rw [State.raise_rd]
  have hk : ∀ k, k < 256 → (k = 8 ∨ k = 0xB ∨ k = 0xC) → key (0x2800 + src) k ≠ key i j := by
    intro k hk hk' e
    obtain ⟨h1, h2⟩ := (key_inj hk hj).mp e
    exact h ⟨h1.symm, h2 ▸ hk'⟩
  rw [State.rd_wr_ne _ _ _ _ (hk 0xC (by omega) (by omega)), State.rd_wr_ne _ _ _ _ (hk 0xB (by omega) (by omega)), State.rd_bump,
    if_neg (hk 8 (by omega) (by omega))]

@[simp] theorem State.pass_now (s : State) (n : Nat) : (s.pass n).now = s.now + n := rfl

/-! ## `State.wr` -/

section
variable (s : State) (i j : Nat) (v : Int)

@[simp] theorem State.wr_pending : (s.wr i j v).pending = s.pending := rfl
@[simp] theorem State.wr_now : (s.wr i j v).now = s.now := rfl
@[simp] theorem State.wr_compassOff : (s.wr i j v).compassOff = s.compassOff := rfl
@[simp] theorem State.wr_dev : (s.wr i j v).dev = s.dev := rfl
@[simp] theorem State.wr_door : (s.wr i j v).door = s.door := rfl
@[simp] theorem State.wr_ev : (s.wr i j v).ev = s.ev := rfl
@[simp] theorem State.wr_pow : (s.wr i j v).pow = s.pow := rfl
@[simp] theorem State.wr_tim : (s.wr i j v).tim = s.tim := rfl
@[simp] theorem State.wr_que : (s.wr i j v).que = s.que := rfl
@[simp] theorem State.wr_dma : (s.wr i j v).dma = s.dma := rfl
@[simp] theorem State.wr_lnk : (s.wr i j v).lnk = s.lnk := rfl
@[simp] theorem State.wr_fe : (s.wr i j v).fe = s.fe := rfl
@[simp] theorem State.wr_sh : (s.wr i j v).sh = s.sh := rfl
@[simp] theorem State.wr_rcp : (s.wr i j v).rcp = s.rcp := rfl
@[simp] theorem State.wr_lamp : (s.wr i j v).lamp = s.lamp := rfl
@[simp] theorem State.wr_can : (s.wr i j v).can = s.can := rfl
@[simp] theorem State.wr_lan : (s.wr i j v).lan = s.lan := rfl
@[simp] theorem State.wr_aux : (s.wr i j v).aux = s.aux := rfl
@[simp] theorem State.wr_upd : (s.wr i j v).upd = s.upd := rfl
@[simp] theorem State.wr_trm : (s.wr i j v).trm = s.trm := rfl
@[simp] theorem State.wr_rdg : (s.wr i j v).rdg = s.rdg := rfl
@[simp] theorem State.wr_trn : (s.wr i j v).trn = s.trn := rfl
@[simp] theorem State.wr_csb : (s.wr i j v).csb = s.csb := rfl

end

/-! ## `State.bump` -/

section
variable (s : State) (i j n : Nat)

@[simp] theorem State.bump_pending : (s.bump i j n).pending = s.pending := rfl
@[simp] theorem State.bump_now : (s.bump i j n).now = s.now := rfl
@[simp] theorem State.bump_compassOff : (s.bump i j n).compassOff = s.compassOff := rfl
@[simp] theorem State.bump_dev : (s.bump i j n).dev = s.dev := rfl
@[simp] theorem State.bump_door : (s.bump i j n).door = s.door := rfl
@[simp] theorem State.bump_ev : (s.bump i j n).ev = s.ev := rfl
@[simp] theorem State.bump_pow : (s.bump i j n).pow = s.pow := rfl
@[simp] theorem State.bump_tim : (s.bump i j n).tim = s.tim := rfl
@[simp] theorem State.bump_que : (s.bump i j n).que = s.que := rfl
@[simp] theorem State.bump_dma : (s.bump i j n).dma = s.dma := rfl
@[simp] theorem State.bump_lnk : (s.bump i j n).lnk = s.lnk := rfl
@[simp] theorem State.bump_fe : (s.bump i j n).fe = s.fe := rfl
@[simp] theorem State.bump_sh : (s.bump i j n).sh = s.sh := rfl
@[simp] theorem State.bump_rcp : (s.bump i j n).rcp = s.rcp := rfl
@[simp] theorem State.bump_lamp : (s.bump i j n).lamp = s.lamp := rfl
@[simp] theorem State.bump_can : (s.bump i j n).can = s.can := rfl
@[simp] theorem State.bump_lan : (s.bump i j n).lan = s.lan := rfl
@[simp] theorem State.bump_aux : (s.bump i j n).aux = s.aux := rfl
@[simp] theorem State.bump_upd : (s.bump i j n).upd = s.upd := rfl
@[simp] theorem State.bump_trm : (s.bump i j n).trm = s.trm := rfl
@[simp] theorem State.bump_rdg : (s.bump i j n).rdg = s.rdg := rfl
@[simp] theorem State.bump_trn : (s.bump i j n).trn = s.trn := rfl
@[simp] theorem State.bump_csb : (s.bump i j n).csb = s.csb := rfl

end

/-! ## `State.wrBit` -/

section
variable (s : State) (i j n : Nat) (b : Bool)

@[simp] theorem State.wrBit_pending : (s.wrBit i j n b).pending = s.pending := rfl
@[simp] theorem State.wrBit_now : (s.wrBit i j n b).now = s.now := rfl
@[simp] theorem State.wrBit_compassOff : (s.wrBit i j n b).compassOff = s.compassOff := rfl
@[simp] theorem State.wrBit_dev : (s.wrBit i j n b).dev = s.dev := rfl
@[simp] theorem State.wrBit_door : (s.wrBit i j n b).door = s.door := rfl
@[simp] theorem State.wrBit_ev : (s.wrBit i j n b).ev = s.ev := rfl
@[simp] theorem State.wrBit_pow : (s.wrBit i j n b).pow = s.pow := rfl
@[simp] theorem State.wrBit_tim : (s.wrBit i j n b).tim = s.tim := rfl
@[simp] theorem State.wrBit_que : (s.wrBit i j n b).que = s.que := rfl
@[simp] theorem State.wrBit_dma : (s.wrBit i j n b).dma = s.dma := rfl
@[simp] theorem State.wrBit_lnk : (s.wrBit i j n b).lnk = s.lnk := rfl
@[simp] theorem State.wrBit_fe : (s.wrBit i j n b).fe = s.fe := rfl
@[simp] theorem State.wrBit_sh : (s.wrBit i j n b).sh = s.sh := rfl
@[simp] theorem State.wrBit_rcp : (s.wrBit i j n b).rcp = s.rcp := rfl
@[simp] theorem State.wrBit_lamp : (s.wrBit i j n b).lamp = s.lamp := rfl
@[simp] theorem State.wrBit_can : (s.wrBit i j n b).can = s.can := rfl
@[simp] theorem State.wrBit_lan : (s.wrBit i j n b).lan = s.lan := rfl
@[simp] theorem State.wrBit_aux : (s.wrBit i j n b).aux = s.aux := rfl
@[simp] theorem State.wrBit_upd : (s.wrBit i j n b).upd = s.upd := rfl
@[simp] theorem State.wrBit_trm : (s.wrBit i j n b).trm = s.trm := rfl
@[simp] theorem State.wrBit_rdg : (s.wrBit i j n b).rdg = s.rdg := rfl
@[simp] theorem State.wrBit_trn : (s.wrBit i j n b).trn = s.trn := rfl
@[simp] theorem State.wrBit_csb : (s.wrBit i j n b).csb = s.csb := rfl

end

/-! ## `State.pass` -/

section
variable (s : State) (n : Nat)

@[simp] theorem State.pass_rd (a b : Nat) : (s.pass n).rd a b = s.rd a b := rfl
@[simp] theorem State.pass_rdN (a b : Nat) : (s.pass n).rdN a b = s.rdN a b := rfl
@[simp] theorem State.pass_pending : (s.pass n).pending = s.pending := rfl
@[simp] theorem State.pass_compassOff : (s.pass n).compassOff = s.compassOff := rfl
@[simp] theorem State.pass_dict : (s.pass n).dict = s.dict := rfl
@[simp] theorem State.pass_dev : (s.pass n).dev = s.dev := rfl
@[simp] theorem State.pass_door : (s.pass n).door = s.door := rfl
@[simp] theorem State.pass_ev : (s.pass n).ev = s.ev := rfl
@[simp] theorem State.pass_pow : (s.pass n).pow = s.pow := rfl
@[simp] theorem State.pass_tim : (s.pass n).tim = s.tim := rfl
@[simp] theorem State.pass_que : (s.pass n).que = s.que := rfl
@[simp] theorem State.pass_dma : (s.pass n).dma = s.dma := rfl
@[simp] theorem State.pass_lnk : (s.pass n).lnk = s.lnk := rfl
@[simp] theorem State.pass_fe : (s.pass n).fe = s.fe := rfl
@[simp] theorem State.pass_sh : (s.pass n).sh = s.sh := rfl
@[simp] theorem State.pass_rcp : (s.pass n).rcp = s.rcp := rfl
@[simp] theorem State.pass_lamp : (s.pass n).lamp = s.lamp := rfl
@[simp] theorem State.pass_can : (s.pass n).can = s.can := rfl
@[simp] theorem State.pass_lan : (s.pass n).lan = s.lan := rfl
@[simp] theorem State.pass_aux : (s.pass n).aux = s.aux := rfl
@[simp] theorem State.pass_upd : (s.pass n).upd = s.upd := rfl
@[simp] theorem State.pass_trm : (s.pass n).trm = s.trm := rfl
@[simp] theorem State.pass_rdg : (s.pass n).rdg = s.rdg := rfl
@[simp] theorem State.pass_trn : (s.pass n).trn = s.trn := rfl
@[simp] theorem State.pass_csb : (s.pass n).csb = s.csb := rfl

end

/-! ## `State.raise` -/

section
variable (s : State) (i : Nat) (d : Detail)

@[simp] theorem State.raise_pending : (s.raise i d).pending = s.pending := by simp only [State.raise, State.wr_pending, State.bump_pending]
@[simp] theorem State.raise_now : (s.raise i d).now = s.now := by simp only [State.raise, State.wr_now, State.bump_now]
@[simp] theorem State.raise_compassOff : (s.raise i d).compassOff = s.compassOff := by simp only [State.raise, State.wr_compassOff, State.bump_compassOff]
@[simp] theorem State.raise_dev : (s.raise i d).dev = s.dev := by simp only [State.raise, State.wr_dev, State.bump_dev]
@[simp] theorem State.raise_door : (s.raise i d).door = s.door := by simp only [State.raise, State.wr_door, State.bump_door]
@[simp] theorem State.raise_pow : (s.raise i d).pow = s.pow := by simp only [State.raise, State.wr_pow, State.bump_pow]
@[simp] theorem State.raise_tim : (s.raise i d).tim = s.tim := by simp only [State.raise, State.wr_tim, State.bump_tim]
@[simp] theorem State.raise_que : (s.raise i d).que = s.que := by simp only [State.raise, State.wr_que, State.bump_que]
@[simp] theorem State.raise_dma : (s.raise i d).dma = s.dma := by simp only [State.raise, State.wr_dma, State.bump_dma]
@[simp] theorem State.raise_lnk : (s.raise i d).lnk = s.lnk := by simp only [State.raise, State.wr_lnk, State.bump_lnk]
@[simp] theorem State.raise_fe : (s.raise i d).fe = s.fe := by simp only [State.raise, State.wr_fe, State.bump_fe]
@[simp] theorem State.raise_sh : (s.raise i d).sh = s.sh := by simp only [State.raise, State.wr_sh, State.bump_sh]
@[simp] theorem State.raise_rcp : (s.raise i d).rcp = s.rcp := by simp only [State.raise, State.wr_rcp, State.bump_rcp]
@[simp] theorem State.raise_lamp : (s.raise i d).lamp = s.lamp := by simp only [State.raise, State.wr_lamp, State.bump_lamp]
@[simp] theorem State.raise_can : (s.raise i d).can = s.can := by simp only [State.raise, State.wr_can, State.bump_can]
@[simp] theorem State.raise_lan : (s.raise i d).lan = s.lan := by simp only [State.raise, State.wr_lan, State.bump_lan]
@[simp] theorem State.raise_aux : (s.raise i d).aux = s.aux := by simp only [State.raise, State.wr_aux, State.bump_aux]
@[simp] theorem State.raise_upd : (s.raise i d).upd = s.upd := by simp only [State.raise, State.wr_upd, State.bump_upd]
@[simp] theorem State.raise_trm : (s.raise i d).trm = s.trm := by simp only [State.raise, State.wr_trm, State.bump_trm]
@[simp] theorem State.raise_rdg : (s.raise i d).rdg = s.rdg := by simp only [State.raise, State.wr_rdg, State.bump_rdg]
@[simp] theorem State.raise_trn : (s.raise i d).trn = s.trn := by simp only [State.raise, State.wr_trn, State.bump_trn]
@[simp] theorem State.raise_csb : (s.raise i d).csb = s.csb := by simp only [State.raise, State.wr_csb, State.bump_csb]

end

/-! ## `State.raise1` -/

section
variable (s : State) (i n : Nat)

@[simp] theorem State.raise1_pending : (s.raise1 i n).pending = s.pending := State.raise_pending s i _
@[simp] theorem State.raise1_now : (s.raise1 i n).now = s.now := State.raise_now s i _
@[simp] theorem State.raise1_compassOff : (s.raise1 i n).compassOff = s.compassOff := State.raise_compassOff s i _
@[simp] theorem State.raise1_dev : (s.raise1 i n).dev = s.dev := State.raise_dev s i _
@[simp] theorem State.raise1_door : (s.raise1 i n).door = s.door := State.raise_door s i _
@[simp] theorem State.raise1_pow : (s.raise1 i n).pow = s.pow := State.raise_pow s i _
@[simp] theorem State.raise1_tim : (s.raise1 i n).tim = s.tim := State.raise_tim s i _
@[simp] theorem State.raise1_que : (s.raise1 i n).que = s.que := State.raise_que s i _
@[simp] theorem State.raise1_dma : (s.raise1 i n).dma = s.dma := State.raise_dma s i _
@[simp] theorem State.raise1_lnk : (s.raise1 i n).lnk = s.lnk := State.raise_lnk s i _
@[simp] theorem State.raise1_fe : (s.raise1 i n).fe = s.fe := State.raise_fe s i _
@[simp] theorem State.raise1_sh : (s.raise1 i n).sh = s.sh := State.raise_sh s i _
@[simp] theorem State.raise1_rcp : (s.raise1 i n).rcp = s.rcp := State.raise_rcp s i _
@[simp] theorem State.raise1_lamp : (s.raise1 i n).lamp = s.lamp := State.raise_lamp s i _
@[simp] theorem State.raise1_can : (s.raise1 i n).can = s.can := State.raise_can s i _
@[simp] theorem State.raise1_lan : (s.raise1 i n).lan = s.lan := State.raise_lan s i _
@[simp] theorem State.raise1_aux : (s.raise1 i n).aux = s.aux := State.raise_aux s i _
@[simp] theorem State.raise1_upd : (s.raise1 i n).upd = s.upd := State.raise_upd s i _
@[simp] theorem State.raise1_trm : (s.raise1 i n).trm = s.trm := State.raise_trm s i _
@[simp] theorem State.raise1_rdg : (s.raise1 i n).rdg = s.rdg := State.raise_rdg s i _
@[simp] theorem State.raise1_trn : (s.raise1 i n).trn = s.trn := State.raise_trn s i _
@[simp] theorem State.raise1_csb : (s.raise1 i n).csb = s.csb := State.raise_csb s i _

end

/-! ## `State.updGroup` -/

section
variable (s : State) (i : Nat) (f : Group → Group)

@[simp] theorem State.updGroup_rd (a b : Nat) : (s.updGroup i f).rd a b = s.rd a b := rfl
@[simp] theorem State.updGroup_rdN (a b : Nat) : (s.updGroup i f).rdN a b = s.rdN a b := rfl
@[simp] theorem State.updGroup_pending : (s.updGroup i f).pending = s.pending := rfl
@[simp] theorem State.updGroup_now : (s.updGroup i f).now = s.now := rfl
@[simp] theorem State.updGroup_compassOff : (s.updGroup i f).compassOff = s.compassOff := rfl
@[simp] theorem State.updGroup_dict : (s.updGroup i f).dict = s.dict := rfl
@[simp] theorem State.updGroup_dev : (s.updGroup i f).dev = s.dev := rfl
@[simp] theorem State.updGroup_door : (s.updGroup i f).door = s.door := rfl
@[simp] theorem State.updGroup_ev : (s.updGroup i f).ev = s.ev := rfl
@[simp] theorem State.updGroup_pow : (s.updGroup i f).pow = s.pow := rfl
@[simp] theorem State.updGroup_que : (s.updGroup i f).que = s.que := rfl
@[simp] theorem State.updGroup_dma : (s.updGroup i f).dma = s.dma := rfl
@[simp] theorem State.updGroup_lnk : (s.updGroup i f).lnk = s.lnk := rfl
@[simp] theorem State.updGroup_fe : (s.updGroup i f).fe = s.fe := rfl
@[simp] theorem State.updGroup_sh : (s.updGroup i f).sh = s.sh := rfl
@[simp] theorem State.updGroup_rcp : (s.updGroup i f).rcp = s.rcp := rfl
@[simp] theorem State.updGroup_lamp : (s.updGroup i f).lamp = s.lamp := rfl
@[simp] theorem State.updGroup_can : (s.updGroup i f).can = s.can := rfl
@[simp] theorem State.updGroup_lan : (s.updGroup i f).lan = s.lan := rfl
@[simp] theorem State.updGroup_aux : (s.updGroup i f).aux = s.aux := rfl
@[simp] theorem State.updGroup_upd : (s.updGroup i f).upd = s.upd := rfl
@[simp] theorem State.updGroup_trm : (s.updGroup i f).trm = s.trm := rfl
@[simp] theorem State.updGroup_rdg : (s.updGroup i f).rdg = s.rdg := rfl
@[simp] theorem State.updGroup_trn : (s.updGroup i f).trn = s.trn := rfl
@[simp] theorem State.updGroup_csb : (s.updGroup i f).csb = s.csb := rfl

end

/-! ## `State.updService` -/

section
variable (s : State) (i : Nat) (f : Service → Service)

@[simp] theorem State.updService_rd (a b : Nat) : (s.updService i f).rd a b = s.rd a b := rfl
@[simp] theorem State.updService_rdN (a b : Nat) : (s.updService i f).rdN a b = s.rdN a b := rfl
@[simp] theorem State.updService_pending : (s.updService i f).pending = s.pending := rfl
@[simp] theorem State.updService_now : (s.updService i f).now = s.now := rfl
@[simp] theorem State.updService_compassOff : (s.updService i f).compassOff = s.compassOff := rfl
@[simp] theorem State.updService_dict : (s.updService i f).dict = s.dict := rfl
@[simp] theorem State.updService_dev : (s.updService i f).dev = s.dev := rfl
@[simp] theorem State.updService_door : (s.updService i f).door = s.door := rfl
@[simp] theorem State.updService_ev : (s.updService i f).ev = s.ev := rfl
@[simp] theorem State.updService_pow : (s.updService i f).pow = s.pow := rfl
@[simp] theorem State.updService_que : (s.updService i f).que = s.que := rfl
@[simp] theorem State.updService_dma : (s.updService i f).dma = s.dma := rfl
@[simp] theorem State.updService_lnk : (s.updService i f).lnk = s.lnk := rfl
@[simp] theorem State.updService_fe : (s.updService i f).fe = s.fe := rfl
@[simp] theorem State.updService_sh : (s.updService i f).sh = s.sh := rfl
@[simp] theorem State.updService_rcp : (s.updService i f).rcp = s.rcp := rfl
@[simp] theorem State.updService_lamp : (s.updService i f).lamp = s.lamp := rfl
@[simp] theorem State.updService_can : (s.updService i f).can = s.can := rfl
@[simp] theorem State.updService_lan : (s.updService i f).lan = s.lan := rfl
@[simp] theorem State.updService_aux : (s.updService i f).aux = s.aux := rfl
@[simp] theorem State.updService_upd : (s.updService i f).upd = s.upd := rfl
@[simp] theorem State.updService_trm : (s.updService i f).trm = s.trm := rfl
@[simp] theorem State.updService_rdg : (s.updService i f).rdg = s.rdg := rfl
@[simp] theorem State.updService_trn : (s.updService i f).trn = s.trn := rfl
@[simp] theorem State.updService_csb : (s.updService i f).csb = s.csb := rfl

end

/-! ## `State.updLineQ` -/

section
variable (s : State) (i : Nat) (f : LineQueue → LineQueue)

@[simp] theorem State.updLineQ_rd (a b : Nat) : (s.updLineQ i f).rd a b = s.rd a b := rfl
@[simp] theorem State.updLineQ_rdN (a b : Nat) : (s.updLineQ i f).rdN a b = s.rdN a b := rfl
@[simp] theorem State.updLineQ_pending : (s.updLineQ i f).pending = s.pending := rfl
@[simp] theorem State.updLineQ_now : (s.updLineQ i f).now = s.now := rfl
@[simp] theorem State.updLineQ_compassOff : (s.updLineQ i f).compassOff = s.compassOff := rfl
@[simp] theorem State.updLineQ_dict : (s.updLineQ i f).dict = s.dict := rfl
@[simp] theorem State.updLineQ_dev : (s.updLineQ i f).dev = s.dev := rfl
@[simp] theorem State.updLineQ_door : (s.updLineQ i f).door = s.door := rfl
@[simp] theorem State.updLineQ_ev : (s.updLineQ i f).ev = s.ev := rfl
@[simp] theorem State.updLineQ_pow : (s.updLineQ i f).pow = s.pow := rfl
@[simp] theorem State.updLineQ_tim : (s.updLineQ i f).tim = s.tim := rfl
@[simp] theorem State.updLineQ_dma : (s.updLineQ i f).dma = s.dma := rfl
@[simp] theorem State.updLineQ_lnk : (s.updLineQ i f).lnk = s.lnk := rfl
@[simp] theorem State.updLineQ_fe : (s.updLineQ i f).fe = s.fe := rfl
@[simp] theorem State.updLineQ_sh : (s.updLineQ i f).sh = s.sh := rfl
@[simp] theorem State.updLineQ_rcp : (s.updLineQ i f).rcp = s.rcp := rfl
@[simp] theorem State.updLineQ_lamp : (s.updLineQ i f).lamp = s.lamp := rfl
@[simp] theorem State.updLineQ_can : (s.updLineQ i f).can = s.can := rfl
@[simp] theorem State.updLineQ_lan : (s.updLineQ i f).lan = s.lan := rfl
@[simp] theorem State.updLineQ_aux : (s.updLineQ i f).aux = s.aux := rfl
@[simp] theorem State.updLineQ_upd : (s.updLineQ i f).upd = s.upd := rfl
@[simp] theorem State.updLineQ_trm : (s.updLineQ i f).trm = s.trm := rfl
@[simp] theorem State.updLineQ_rdg : (s.updLineQ i f).rdg = s.rdg := rfl
@[simp] theorem State.updLineQ_trn : (s.updLineQ i f).trn = s.trn := rfl
@[simp] theorem State.updLineQ_csb : (s.updLineQ i f).csb = s.csb := rfl

end

/-! ## `State.updEgress` -/

section
variable (s : State) (i : Nat) (f : Egress → Egress)

@[simp] theorem State.updEgress_rd (a b : Nat) : (s.updEgress i f).rd a b = s.rd a b := rfl
@[simp] theorem State.updEgress_rdN (a b : Nat) : (s.updEgress i f).rdN a b = s.rdN a b := rfl
@[simp] theorem State.updEgress_pending : (s.updEgress i f).pending = s.pending := rfl
@[simp] theorem State.updEgress_now : (s.updEgress i f).now = s.now := rfl
@[simp] theorem State.updEgress_compassOff : (s.updEgress i f).compassOff = s.compassOff := rfl
@[simp] theorem State.updEgress_dict : (s.updEgress i f).dict = s.dict := rfl
@[simp] theorem State.updEgress_dev : (s.updEgress i f).dev = s.dev := rfl
@[simp] theorem State.updEgress_door : (s.updEgress i f).door = s.door := rfl
@[simp] theorem State.updEgress_ev : (s.updEgress i f).ev = s.ev := rfl
@[simp] theorem State.updEgress_pow : (s.updEgress i f).pow = s.pow := rfl
@[simp] theorem State.updEgress_tim : (s.updEgress i f).tim = s.tim := rfl
@[simp] theorem State.updEgress_dma : (s.updEgress i f).dma = s.dma := rfl
@[simp] theorem State.updEgress_lnk : (s.updEgress i f).lnk = s.lnk := rfl
@[simp] theorem State.updEgress_fe : (s.updEgress i f).fe = s.fe := rfl
@[simp] theorem State.updEgress_sh : (s.updEgress i f).sh = s.sh := rfl
@[simp] theorem State.updEgress_rcp : (s.updEgress i f).rcp = s.rcp := rfl
@[simp] theorem State.updEgress_lamp : (s.updEgress i f).lamp = s.lamp := rfl
@[simp] theorem State.updEgress_can : (s.updEgress i f).can = s.can := rfl
@[simp] theorem State.updEgress_lan : (s.updEgress i f).lan = s.lan := rfl
@[simp] theorem State.updEgress_aux : (s.updEgress i f).aux = s.aux := rfl
@[simp] theorem State.updEgress_upd : (s.updEgress i f).upd = s.upd := rfl
@[simp] theorem State.updEgress_trm : (s.updEgress i f).trm = s.trm := rfl
@[simp] theorem State.updEgress_rdg : (s.updEgress i f).rdg = s.rdg := rfl
@[simp] theorem State.updEgress_trn : (s.updEgress i f).trn = s.trn := rfl
@[simp] theorem State.updEgress_csb : (s.updEgress i f).csb = s.csb := rfl

end

/-! ## `State.updLink` -/

section
variable (s : State) (i : Nat) (f : Link → Link)

@[simp] theorem State.updLink_rd (a b : Nat) : (s.updLink i f).rd a b = s.rd a b := rfl
@[simp] theorem State.updLink_rdN (a b : Nat) : (s.updLink i f).rdN a b = s.rdN a b := rfl
@[simp] theorem State.updLink_pending : (s.updLink i f).pending = s.pending := rfl
@[simp] theorem State.updLink_now : (s.updLink i f).now = s.now := rfl
@[simp] theorem State.updLink_compassOff : (s.updLink i f).compassOff = s.compassOff := rfl
@[simp] theorem State.updLink_dict : (s.updLink i f).dict = s.dict := rfl
@[simp] theorem State.updLink_dev : (s.updLink i f).dev = s.dev := rfl
@[simp] theorem State.updLink_door : (s.updLink i f).door = s.door := rfl
@[simp] theorem State.updLink_ev : (s.updLink i f).ev = s.ev := rfl
@[simp] theorem State.updLink_pow : (s.updLink i f).pow = s.pow := rfl
@[simp] theorem State.updLink_tim : (s.updLink i f).tim = s.tim := rfl
@[simp] theorem State.updLink_que : (s.updLink i f).que = s.que := rfl
@[simp] theorem State.updLink_dma : (s.updLink i f).dma = s.dma := rfl
@[simp] theorem State.updLink_fe : (s.updLink i f).fe = s.fe := rfl
@[simp] theorem State.updLink_sh : (s.updLink i f).sh = s.sh := rfl
@[simp] theorem State.updLink_rcp : (s.updLink i f).rcp = s.rcp := rfl
@[simp] theorem State.updLink_lamp : (s.updLink i f).lamp = s.lamp := rfl
@[simp] theorem State.updLink_can : (s.updLink i f).can = s.can := rfl
@[simp] theorem State.updLink_lan : (s.updLink i f).lan = s.lan := rfl
@[simp] theorem State.updLink_aux : (s.updLink i f).aux = s.aux := rfl
@[simp] theorem State.updLink_upd : (s.updLink i f).upd = s.upd := rfl
@[simp] theorem State.updLink_trm : (s.updLink i f).trm = s.trm := rfl
@[simp] theorem State.updLink_rdg : (s.updLink i f).rdg = s.rdg := rfl
@[simp] theorem State.updLink_trn : (s.updLink i f).trn = s.trn := rfl
@[simp] theorem State.updLink_csb : (s.updLink i f).csb = s.csb := rfl

end

/-! ## `State.updRing` -/

section
variable (s : State) (i j : Nat) (f : Ring → Ring)

@[simp] theorem State.updRing_rd (a b : Nat) : (s.updRing i j f).rd a b = s.rd a b := rfl
@[simp] theorem State.updRing_rdN (a b : Nat) : (s.updRing i j f).rdN a b = s.rdN a b := rfl
@[simp] theorem State.updRing_pending : (s.updRing i j f).pending = s.pending := rfl
@[simp] theorem State.updRing_now : (s.updRing i j f).now = s.now := rfl
@[simp] theorem State.updRing_compassOff : (s.updRing i j f).compassOff = s.compassOff := rfl
@[simp] theorem State.updRing_dict : (s.updRing i j f).dict = s.dict := rfl
@[simp] theorem State.updRing_dev : (s.updRing i j f).dev = s.dev := rfl
@[simp] theorem State.updRing_door : (s.updRing i j f).door = s.door := rfl
@[simp] theorem State.updRing_ev : (s.updRing i j f).ev = s.ev := rfl
@[simp] theorem State.updRing_pow : (s.updRing i j f).pow = s.pow := rfl
@[simp] theorem State.updRing_tim : (s.updRing i j f).tim = s.tim := rfl
@[simp] theorem State.updRing_que : (s.updRing i j f).que = s.que := rfl
@[simp] theorem State.updRing_lnk : (s.updRing i j f).lnk = s.lnk := rfl
@[simp] theorem State.updRing_fe : (s.updRing i j f).fe = s.fe := rfl
@[simp] theorem State.updRing_sh : (s.updRing i j f).sh = s.sh := rfl
@[simp] theorem State.updRing_rcp : (s.updRing i j f).rcp = s.rcp := rfl
@[simp] theorem State.updRing_lamp : (s.updRing i j f).lamp = s.lamp := rfl
@[simp] theorem State.updRing_can : (s.updRing i j f).can = s.can := rfl
@[simp] theorem State.updRing_lan : (s.updRing i j f).lan = s.lan := rfl
@[simp] theorem State.updRing_aux : (s.updRing i j f).aux = s.aux := rfl
@[simp] theorem State.updRing_upd : (s.updRing i j f).upd = s.upd := rfl
@[simp] theorem State.updRing_trm : (s.updRing i j f).trm = s.trm := rfl
@[simp] theorem State.updRing_rdg : (s.updRing i j f).rdg = s.rdg := rfl
@[simp] theorem State.updRing_trn : (s.updRing i j f).trn = s.trn := rfl
@[simp] theorem State.updRing_csb : (s.updRing i j f).csb = s.csb := rfl

end

/-! ## `State.updStream` -/

section
variable (s : State) (i : Nat) (f : Stream → Stream)

@[simp] theorem State.updStream_rd (a b : Nat) : (s.updStream i f).rd a b = s.rd a b := rfl
@[simp] theorem State.updStream_rdN (a b : Nat) : (s.updStream i f).rdN a b = s.rdN a b := rfl
@[simp] theorem State.updStream_pending : (s.updStream i f).pending = s.pending := rfl
@[simp] theorem State.updStream_now : (s.updStream i f).now = s.now := rfl
@[simp] theorem State.updStream_compassOff : (s.updStream i f).compassOff = s.compassOff := rfl
@[simp] theorem State.updStream_dict : (s.updStream i f).dict = s.dict := rfl
@[simp] theorem State.updStream_dev : (s.updStream i f).dev = s.dev := rfl
@[simp] theorem State.updStream_door : (s.updStream i f).door = s.door := rfl
@[simp] theorem State.updStream_ev : (s.updStream i f).ev = s.ev := rfl
@[simp] theorem State.updStream_pow : (s.updStream i f).pow = s.pow := rfl
@[simp] theorem State.updStream_tim : (s.updStream i f).tim = s.tim := rfl
@[simp] theorem State.updStream_que : (s.updStream i f).que = s.que := rfl
@[simp] theorem State.updStream_lnk : (s.updStream i f).lnk = s.lnk := rfl
@[simp] theorem State.updStream_fe : (s.updStream i f).fe = s.fe := rfl
@[simp] theorem State.updStream_sh : (s.updStream i f).sh = s.sh := rfl
@[simp] theorem State.updStream_rcp : (s.updStream i f).rcp = s.rcp := rfl
@[simp] theorem State.updStream_lamp : (s.updStream i f).lamp = s.lamp := rfl
@[simp] theorem State.updStream_can : (s.updStream i f).can = s.can := rfl
@[simp] theorem State.updStream_lan : (s.updStream i f).lan = s.lan := rfl
@[simp] theorem State.updStream_aux : (s.updStream i f).aux = s.aux := rfl
@[simp] theorem State.updStream_upd : (s.updStream i f).upd = s.upd := rfl
@[simp] theorem State.updStream_trm : (s.updStream i f).trm = s.trm := rfl
@[simp] theorem State.updStream_rdg : (s.updStream i f).rdg = s.rdg := rfl
@[simp] theorem State.updStream_trn : (s.updStream i f).trn = s.trn := rfl
@[simp] theorem State.updStream_csb : (s.updStream i f).csb = s.csb := rfl

end

/-! ## `State.updMaster` -/

section
variable (s : State) (i : Nat) (f : Master → Master)

@[simp] theorem State.updMaster_rd (a b : Nat) : (s.updMaster i f).rd a b = s.rd a b := rfl
@[simp] theorem State.updMaster_rdN (a b : Nat) : (s.updMaster i f).rdN a b = s.rdN a b := rfl
@[simp] theorem State.updMaster_pending : (s.updMaster i f).pending = s.pending := rfl
@[simp] theorem State.updMaster_now : (s.updMaster i f).now = s.now := rfl
@[simp] theorem State.updMaster_compassOff : (s.updMaster i f).compassOff = s.compassOff := rfl
@[simp] theorem State.updMaster_dict : (s.updMaster i f).dict = s.dict := rfl
@[simp] theorem State.updMaster_dev : (s.updMaster i f).dev = s.dev := rfl
@[simp] theorem State.updMaster_ev : (s.updMaster i f).ev = s.ev := rfl
@[simp] theorem State.updMaster_pow : (s.updMaster i f).pow = s.pow := rfl
@[simp] theorem State.updMaster_tim : (s.updMaster i f).tim = s.tim := rfl
@[simp] theorem State.updMaster_que : (s.updMaster i f).que = s.que := rfl
@[simp] theorem State.updMaster_dma : (s.updMaster i f).dma = s.dma := rfl
@[simp] theorem State.updMaster_lnk : (s.updMaster i f).lnk = s.lnk := rfl
@[simp] theorem State.updMaster_fe : (s.updMaster i f).fe = s.fe := rfl
@[simp] theorem State.updMaster_sh : (s.updMaster i f).sh = s.sh := rfl
@[simp] theorem State.updMaster_rcp : (s.updMaster i f).rcp = s.rcp := rfl
@[simp] theorem State.updMaster_lamp : (s.updMaster i f).lamp = s.lamp := rfl
@[simp] theorem State.updMaster_can : (s.updMaster i f).can = s.can := rfl
@[simp] theorem State.updMaster_lan : (s.updMaster i f).lan = s.lan := rfl
@[simp] theorem State.updMaster_aux : (s.updMaster i f).aux = s.aux := rfl
@[simp] theorem State.updMaster_upd : (s.updMaster i f).upd = s.upd := rfl
@[simp] theorem State.updMaster_trm : (s.updMaster i f).trm = s.trm := rfl
@[simp] theorem State.updMaster_rdg : (s.updMaster i f).rdg = s.rdg := rfl
@[simp] theorem State.updMaster_trn : (s.updMaster i f).trn = s.trn := rfl
@[simp] theorem State.updMaster_csb : (s.updMaster i f).csb = s.csb := rfl

end

/-! ## `State.updConn` -/

section
variable (s : State) (i : Nat) (f : Conn → Conn)

@[simp] theorem State.updConn_rd (a b : Nat) : (s.updConn i f).rd a b = s.rd a b := rfl
@[simp] theorem State.updConn_rdN (a b : Nat) : (s.updConn i f).rdN a b = s.rdN a b := rfl
@[simp] theorem State.updConn_pending : (s.updConn i f).pending = s.pending := rfl
@[simp] theorem State.updConn_now : (s.updConn i f).now = s.now := rfl
@[simp] theorem State.updConn_compassOff : (s.updConn i f).compassOff = s.compassOff := rfl
@[simp] theorem State.updConn_dict : (s.updConn i f).dict = s.dict := rfl
@[simp] theorem State.updConn_dev : (s.updConn i f).dev = s.dev := rfl
@[simp] theorem State.updConn_door : (s.updConn i f).door = s.door := rfl
@[simp] theorem State.updConn_ev : (s.updConn i f).ev = s.ev := rfl
@[simp] theorem State.updConn_tim : (s.updConn i f).tim = s.tim := rfl
@[simp] theorem State.updConn_que : (s.updConn i f).que = s.que := rfl
@[simp] theorem State.updConn_dma : (s.updConn i f).dma = s.dma := rfl
@[simp] theorem State.updConn_lnk : (s.updConn i f).lnk = s.lnk := rfl
@[simp] theorem State.updConn_fe : (s.updConn i f).fe = s.fe := rfl
@[simp] theorem State.updConn_sh : (s.updConn i f).sh = s.sh := rfl
@[simp] theorem State.updConn_rcp : (s.updConn i f).rcp = s.rcp := rfl
@[simp] theorem State.updConn_lamp : (s.updConn i f).lamp = s.lamp := rfl
@[simp] theorem State.updConn_can : (s.updConn i f).can = s.can := rfl
@[simp] theorem State.updConn_lan : (s.updConn i f).lan = s.lan := rfl
@[simp] theorem State.updConn_aux : (s.updConn i f).aux = s.aux := rfl
@[simp] theorem State.updConn_upd : (s.updConn i f).upd = s.upd := rfl
@[simp] theorem State.updConn_trm : (s.updConn i f).trm = s.trm := rfl
@[simp] theorem State.updConn_rdg : (s.updConn i f).rdg = s.rdg := rfl
@[simp] theorem State.updConn_trn : (s.updConn i f).trn = s.trn := rfl
@[simp] theorem State.updConn_csb : (s.updConn i f).csb = s.csb := rfl

end

/-! ## `State.updCan` -/

section
variable (s : State) (f : CanteenSt → CanteenSt)

@[simp] theorem State.updCan_rd (a b : Nat) : (s.updCan f).rd a b = s.rd a b := rfl
@[simp] theorem State.updCan_rdN (a b : Nat) : (s.updCan f).rdN a b = s.rdN a b := rfl
@[simp] theorem State.updCan_pending : (s.updCan f).pending = s.pending := rfl
@[simp] theorem State.updCan_now : (s.updCan f).now = s.now := rfl
@[simp] theorem State.updCan_compassOff : (s.updCan f).compassOff = s.compassOff := rfl
@[simp] theorem State.updCan_dict : (s.updCan f).dict = s.dict := rfl
@[simp] theorem State.updCan_dev : (s.updCan f).dev = s.dev := rfl
@[simp] theorem State.updCan_door : (s.updCan f).door = s.door := rfl
@[simp] theorem State.updCan_ev : (s.updCan f).ev = s.ev := rfl
@[simp] theorem State.updCan_pow : (s.updCan f).pow = s.pow := rfl
@[simp] theorem State.updCan_tim : (s.updCan f).tim = s.tim := rfl
@[simp] theorem State.updCan_que : (s.updCan f).que = s.que := rfl
@[simp] theorem State.updCan_dma : (s.updCan f).dma = s.dma := rfl
@[simp] theorem State.updCan_lnk : (s.updCan f).lnk = s.lnk := rfl
@[simp] theorem State.updCan_fe : (s.updCan f).fe = s.fe := rfl
@[simp] theorem State.updCan_sh : (s.updCan f).sh = s.sh := rfl
@[simp] theorem State.updCan_rcp : (s.updCan f).rcp = s.rcp := rfl
@[simp] theorem State.updCan_lamp : (s.updCan f).lamp = s.lamp := rfl
@[simp] theorem State.updCan_lan : (s.updCan f).lan = s.lan := rfl
@[simp] theorem State.updCan_aux : (s.updCan f).aux = s.aux := rfl
@[simp] theorem State.updCan_upd : (s.updCan f).upd = s.upd := rfl
@[simp] theorem State.updCan_trm : (s.updCan f).trm = s.trm := rfl
@[simp] theorem State.updCan_rdg : (s.updCan f).rdg = s.rdg := rfl
@[simp] theorem State.updCan_trn : (s.updCan f).trn = s.trn := rfl
@[simp] theorem State.updCan_csb : (s.updCan f).csb = s.csb := rfl

end

/-! ## `State.updCsb` -/

section
variable (s : State) (f : CasbySt → CasbySt)

@[simp] theorem State.updCsb_rd (a b : Nat) : (s.updCsb f).rd a b = s.rd a b := rfl
@[simp] theorem State.updCsb_rdN (a b : Nat) : (s.updCsb f).rdN a b = s.rdN a b := rfl
@[simp] theorem State.updCsb_pending : (s.updCsb f).pending = s.pending := rfl
@[simp] theorem State.updCsb_now : (s.updCsb f).now = s.now := rfl
@[simp] theorem State.updCsb_compassOff : (s.updCsb f).compassOff = s.compassOff := rfl
@[simp] theorem State.updCsb_dict : (s.updCsb f).dict = s.dict := rfl
@[simp] theorem State.updCsb_dev : (s.updCsb f).dev = s.dev := rfl
@[simp] theorem State.updCsb_door : (s.updCsb f).door = s.door := rfl
@[simp] theorem State.updCsb_ev : (s.updCsb f).ev = s.ev := rfl
@[simp] theorem State.updCsb_pow : (s.updCsb f).pow = s.pow := rfl
@[simp] theorem State.updCsb_tim : (s.updCsb f).tim = s.tim := rfl
@[simp] theorem State.updCsb_que : (s.updCsb f).que = s.que := rfl
@[simp] theorem State.updCsb_dma : (s.updCsb f).dma = s.dma := rfl
@[simp] theorem State.updCsb_lnk : (s.updCsb f).lnk = s.lnk := rfl
@[simp] theorem State.updCsb_fe : (s.updCsb f).fe = s.fe := rfl
@[simp] theorem State.updCsb_sh : (s.updCsb f).sh = s.sh := rfl
@[simp] theorem State.updCsb_rcp : (s.updCsb f).rcp = s.rcp := rfl
@[simp] theorem State.updCsb_lamp : (s.updCsb f).lamp = s.lamp := rfl
@[simp] theorem State.updCsb_can : (s.updCsb f).can = s.can := rfl
@[simp] theorem State.updCsb_lan : (s.updCsb f).lan = s.lan := rfl
@[simp] theorem State.updCsb_aux : (s.updCsb f).aux = s.aux := rfl
@[simp] theorem State.updCsb_upd : (s.updCsb f).upd = s.upd := rfl
@[simp] theorem State.updCsb_trm : (s.updCsb f).trm = s.trm := rfl
@[simp] theorem State.updCsb_rdg : (s.updCsb f).rdg = s.rdg := rfl
@[simp] theorem State.updCsb_trn : (s.updCsb f).trn = s.trn := rfl

end

/-! ## `State.updEc` -/

section
variable (s : State) (f : EtherCat → EtherCat)

@[simp] theorem State.updEc_rd (a b : Nat) : (s.updEc f).rd a b = s.rd a b := rfl
@[simp] theorem State.updEc_rdN (a b : Nat) : (s.updEc f).rdN a b = s.rdN a b := rfl
@[simp] theorem State.updEc_pending : (s.updEc f).pending = s.pending := rfl
@[simp] theorem State.updEc_now : (s.updEc f).now = s.now := rfl
@[simp] theorem State.updEc_compassOff : (s.updEc f).compassOff = s.compassOff := rfl
@[simp] theorem State.updEc_dict : (s.updEc f).dict = s.dict := rfl
@[simp] theorem State.updEc_dev : (s.updEc f).dev = s.dev := rfl
@[simp] theorem State.updEc_ev : (s.updEc f).ev = s.ev := rfl
@[simp] theorem State.updEc_pow : (s.updEc f).pow = s.pow := rfl
@[simp] theorem State.updEc_tim : (s.updEc f).tim = s.tim := rfl
@[simp] theorem State.updEc_que : (s.updEc f).que = s.que := rfl
@[simp] theorem State.updEc_dma : (s.updEc f).dma = s.dma := rfl
@[simp] theorem State.updEc_lnk : (s.updEc f).lnk = s.lnk := rfl
@[simp] theorem State.updEc_fe : (s.updEc f).fe = s.fe := rfl
@[simp] theorem State.updEc_sh : (s.updEc f).sh = s.sh := rfl
@[simp] theorem State.updEc_rcp : (s.updEc f).rcp = s.rcp := rfl
@[simp] theorem State.updEc_lamp : (s.updEc f).lamp = s.lamp := rfl
@[simp] theorem State.updEc_can : (s.updEc f).can = s.can := rfl
@[simp] theorem State.updEc_lan : (s.updEc f).lan = s.lan := rfl
@[simp] theorem State.updEc_aux : (s.updEc f).aux = s.aux := rfl
@[simp] theorem State.updEc_upd : (s.updEc f).upd = s.upd := rfl
@[simp] theorem State.updEc_trm : (s.updEc f).trm = s.trm := rfl
@[simp] theorem State.updEc_rdg : (s.updEc f).rdg = s.rdg := rfl
@[simp] theorem State.updEc_trn : (s.updEc f).trn = s.trn := rfl
@[simp] theorem State.updEc_csb : (s.updEc f).csb = s.csb := rfl

end

/-! ## `State.updFe` -/

section
variable (s : State) (i : Nat) (f : FrontEnd → FrontEnd)

@[simp] theorem State.updFe_rd (a b : Nat) : (s.updFe i f).rd a b = s.rd a b := rfl
@[simp] theorem State.updFe_rdN (a b : Nat) : (s.updFe i f).rdN a b = s.rdN a b := rfl
@[simp] theorem State.updFe_pending : (s.updFe i f).pending = s.pending := rfl
@[simp] theorem State.updFe_now : (s.updFe i f).now = s.now := rfl
@[simp] theorem State.updFe_compassOff : (s.updFe i f).compassOff = s.compassOff := rfl
@[simp] theorem State.updFe_dict : (s.updFe i f).dict = s.dict := rfl
@[simp] theorem State.updFe_dev : (s.updFe i f).dev = s.dev := rfl
@[simp] theorem State.updFe_door : (s.updFe i f).door = s.door := rfl
@[simp] theorem State.updFe_ev : (s.updFe i f).ev = s.ev := rfl
@[simp] theorem State.updFe_pow : (s.updFe i f).pow = s.pow := rfl
@[simp] theorem State.updFe_tim : (s.updFe i f).tim = s.tim := rfl
@[simp] theorem State.updFe_que : (s.updFe i f).que = s.que := rfl
@[simp] theorem State.updFe_dma : (s.updFe i f).dma = s.dma := rfl
@[simp] theorem State.updFe_lnk : (s.updFe i f).lnk = s.lnk := rfl
@[simp] theorem State.updFe_sh : (s.updFe i f).sh = s.sh := rfl
@[simp] theorem State.updFe_rcp : (s.updFe i f).rcp = s.rcp := rfl
@[simp] theorem State.updFe_lamp : (s.updFe i f).lamp = s.lamp := rfl
@[simp] theorem State.updFe_can : (s.updFe i f).can = s.can := rfl
@[simp] theorem State.updFe_lan : (s.updFe i f).lan = s.lan := rfl
@[simp] theorem State.updFe_aux : (s.updFe i f).aux = s.aux := rfl
@[simp] theorem State.updFe_upd : (s.updFe i f).upd = s.upd := rfl
@[simp] theorem State.updFe_trm : (s.updFe i f).trm = s.trm := rfl
@[simp] theorem State.updFe_rdg : (s.updFe i f).rdg = s.rdg := rfl
@[simp] theorem State.updFe_trn : (s.updFe i f).trn = s.trn := rfl
@[simp] theorem State.updFe_csb : (s.updFe i f).csb = s.csb := rfl

end

/-! ## `State.updAux` -/

section
variable (s : State) (f : AuxSt → AuxSt)

@[simp] theorem State.updAux_rd (a b : Nat) : (s.updAux f).rd a b = s.rd a b := rfl
@[simp] theorem State.updAux_rdN (a b : Nat) : (s.updAux f).rdN a b = s.rdN a b := rfl
@[simp] theorem State.updAux_pending : (s.updAux f).pending = s.pending := rfl
@[simp] theorem State.updAux_now : (s.updAux f).now = s.now := rfl
@[simp] theorem State.updAux_compassOff : (s.updAux f).compassOff = s.compassOff := rfl
@[simp] theorem State.updAux_dict : (s.updAux f).dict = s.dict := rfl
@[simp] theorem State.updAux_dev : (s.updAux f).dev = s.dev := rfl
@[simp] theorem State.updAux_door : (s.updAux f).door = s.door := rfl
@[simp] theorem State.updAux_ev : (s.updAux f).ev = s.ev := rfl
@[simp] theorem State.updAux_pow : (s.updAux f).pow = s.pow := rfl
@[simp] theorem State.updAux_tim : (s.updAux f).tim = s.tim := rfl
@[simp] theorem State.updAux_que : (s.updAux f).que = s.que := rfl
@[simp] theorem State.updAux_dma : (s.updAux f).dma = s.dma := rfl
@[simp] theorem State.updAux_lnk : (s.updAux f).lnk = s.lnk := rfl
@[simp] theorem State.updAux_fe : (s.updAux f).fe = s.fe := rfl
@[simp] theorem State.updAux_sh : (s.updAux f).sh = s.sh := rfl
@[simp] theorem State.updAux_rcp : (s.updAux f).rcp = s.rcp := rfl
@[simp] theorem State.updAux_lamp : (s.updAux f).lamp = s.lamp := rfl
@[simp] theorem State.updAux_can : (s.updAux f).can = s.can := rfl
@[simp] theorem State.updAux_lan : (s.updAux f).lan = s.lan := rfl
@[simp] theorem State.updAux_upd : (s.updAux f).upd = s.upd := rfl
@[simp] theorem State.updAux_trm : (s.updAux f).trm = s.trm := rfl
@[simp] theorem State.updAux_rdg : (s.updAux f).rdg = s.rdg := rfl
@[simp] theorem State.updAux_trn : (s.updAux f).trn = s.trn := rfl
@[simp] theorem State.updAux_csb : (s.updAux f).csb = s.csb := rfl

end

/-! ## `State.updLan` -/

section
variable (s : State) (f : LanternSt → LanternSt)

@[simp] theorem State.updLan_rd (a b : Nat) : (s.updLan f).rd a b = s.rd a b := rfl
@[simp] theorem State.updLan_rdN (a b : Nat) : (s.updLan f).rdN a b = s.rdN a b := rfl
@[simp] theorem State.updLan_pending : (s.updLan f).pending = s.pending := rfl
@[simp] theorem State.updLan_now : (s.updLan f).now = s.now := rfl
@[simp] theorem State.updLan_compassOff : (s.updLan f).compassOff = s.compassOff := rfl
@[simp] theorem State.updLan_dict : (s.updLan f).dict = s.dict := rfl
@[simp] theorem State.updLan_dev : (s.updLan f).dev = s.dev := rfl
@[simp] theorem State.updLan_door : (s.updLan f).door = s.door := rfl
@[simp] theorem State.updLan_ev : (s.updLan f).ev = s.ev := rfl
@[simp] theorem State.updLan_pow : (s.updLan f).pow = s.pow := rfl
@[simp] theorem State.updLan_tim : (s.updLan f).tim = s.tim := rfl
@[simp] theorem State.updLan_que : (s.updLan f).que = s.que := rfl
@[simp] theorem State.updLan_dma : (s.updLan f).dma = s.dma := rfl
@[simp] theorem State.updLan_lnk : (s.updLan f).lnk = s.lnk := rfl
@[simp] theorem State.updLan_fe : (s.updLan f).fe = s.fe := rfl
@[simp] theorem State.updLan_sh : (s.updLan f).sh = s.sh := rfl
@[simp] theorem State.updLan_rcp : (s.updLan f).rcp = s.rcp := rfl
@[simp] theorem State.updLan_lamp : (s.updLan f).lamp = s.lamp := rfl
@[simp] theorem State.updLan_can : (s.updLan f).can = s.can := rfl
@[simp] theorem State.updLan_aux : (s.updLan f).aux = s.aux := rfl
@[simp] theorem State.updLan_upd : (s.updLan f).upd = s.upd := rfl
@[simp] theorem State.updLan_trm : (s.updLan f).trm = s.trm := rfl
@[simp] theorem State.updLan_rdg : (s.updLan f).rdg = s.rdg := rfl
@[simp] theorem State.updLan_trn : (s.updLan f).trn = s.trn := rfl
@[simp] theorem State.updLan_csb : (s.updLan f).csb = s.csb := rfl

end

/-! ## `State.updTrn` -/

section
variable (s : State) (f : TransportSt → TransportSt)

@[simp] theorem State.updTrn_rd (a b : Nat) : (s.updTrn f).rd a b = s.rd a b := rfl
@[simp] theorem State.updTrn_rdN (a b : Nat) : (s.updTrn f).rdN a b = s.rdN a b := rfl
@[simp] theorem State.updTrn_pending : (s.updTrn f).pending = s.pending := rfl
@[simp] theorem State.updTrn_now : (s.updTrn f).now = s.now := rfl
@[simp] theorem State.updTrn_compassOff : (s.updTrn f).compassOff = s.compassOff := rfl
@[simp] theorem State.updTrn_dict : (s.updTrn f).dict = s.dict := rfl
@[simp] theorem State.updTrn_dev : (s.updTrn f).dev = s.dev := rfl
@[simp] theorem State.updTrn_door : (s.updTrn f).door = s.door := rfl
@[simp] theorem State.updTrn_ev : (s.updTrn f).ev = s.ev := rfl
@[simp] theorem State.updTrn_pow : (s.updTrn f).pow = s.pow := rfl
@[simp] theorem State.updTrn_tim : (s.updTrn f).tim = s.tim := rfl
@[simp] theorem State.updTrn_que : (s.updTrn f).que = s.que := rfl
@[simp] theorem State.updTrn_dma : (s.updTrn f).dma = s.dma := rfl
@[simp] theorem State.updTrn_lnk : (s.updTrn f).lnk = s.lnk := rfl
@[simp] theorem State.updTrn_fe : (s.updTrn f).fe = s.fe := rfl
@[simp] theorem State.updTrn_sh : (s.updTrn f).sh = s.sh := rfl
@[simp] theorem State.updTrn_rcp : (s.updTrn f).rcp = s.rcp := rfl
@[simp] theorem State.updTrn_lamp : (s.updTrn f).lamp = s.lamp := rfl
@[simp] theorem State.updTrn_can : (s.updTrn f).can = s.can := rfl
@[simp] theorem State.updTrn_lan : (s.updTrn f).lan = s.lan := rfl
@[simp] theorem State.updTrn_aux : (s.updTrn f).aux = s.aux := rfl
@[simp] theorem State.updTrn_upd : (s.updTrn f).upd = s.upd := rfl
@[simp] theorem State.updTrn_trm : (s.updTrn f).trm = s.trm := rfl
@[simp] theorem State.updTrn_rdg : (s.updTrn f).rdg = s.rdg := rfl
@[simp] theorem State.updTrn_csb : (s.updTrn f).csb = s.csb := rfl

end

/-! ## `State.updUpd` -/

section
variable (s : State) (f : UpdateSt → UpdateSt)

@[simp] theorem State.updUpd_rd (a b : Nat) : (s.updUpd f).rd a b = s.rd a b := rfl
@[simp] theorem State.updUpd_rdN (a b : Nat) : (s.updUpd f).rdN a b = s.rdN a b := rfl
@[simp] theorem State.updUpd_pending : (s.updUpd f).pending = s.pending := rfl
@[simp] theorem State.updUpd_now : (s.updUpd f).now = s.now := rfl
@[simp] theorem State.updUpd_compassOff : (s.updUpd f).compassOff = s.compassOff := rfl
@[simp] theorem State.updUpd_dict : (s.updUpd f).dict = s.dict := rfl
@[simp] theorem State.updUpd_dev : (s.updUpd f).dev = s.dev := rfl
@[simp] theorem State.updUpd_door : (s.updUpd f).door = s.door := rfl
@[simp] theorem State.updUpd_ev : (s.updUpd f).ev = s.ev := rfl
@[simp] theorem State.updUpd_pow : (s.updUpd f).pow = s.pow := rfl
@[simp] theorem State.updUpd_tim : (s.updUpd f).tim = s.tim := rfl
@[simp] theorem State.updUpd_que : (s.updUpd f).que = s.que := rfl
@[simp] theorem State.updUpd_dma : (s.updUpd f).dma = s.dma := rfl
@[simp] theorem State.updUpd_lnk : (s.updUpd f).lnk = s.lnk := rfl
@[simp] theorem State.updUpd_fe : (s.updUpd f).fe = s.fe := rfl
@[simp] theorem State.updUpd_sh : (s.updUpd f).sh = s.sh := rfl
@[simp] theorem State.updUpd_rcp : (s.updUpd f).rcp = s.rcp := rfl
@[simp] theorem State.updUpd_lamp : (s.updUpd f).lamp = s.lamp := rfl
@[simp] theorem State.updUpd_can : (s.updUpd f).can = s.can := rfl
@[simp] theorem State.updUpd_lan : (s.updUpd f).lan = s.lan := rfl
@[simp] theorem State.updUpd_aux : (s.updUpd f).aux = s.aux := rfl
@[simp] theorem State.updUpd_trm : (s.updUpd f).trm = s.trm := rfl
@[simp] theorem State.updUpd_rdg : (s.updUpd f).rdg = s.rdg := rfl
@[simp] theorem State.updUpd_trn : (s.updUpd f).trn = s.trn := rfl
@[simp] theorem State.updUpd_csb : (s.updUpd f).csb = s.csb := rfl

end

end Sys2Proof.Machine
end

