-- ==== Sys2Proof/Laws/Access.lean ====
section
/-!
SUPPORT. The grant of a write and the answer of an access (Machine/Operands.lean): what each does, said once.
-/
set_option Elab.async false
namespace Sys2Proof.Machine

/-! ## Event commands -/

/-- An event command whose event is due acts on the state that time has reached. -/
theorem event_due {dt : Nat} {s : State} {due : State → Bool} {act : State → State} (h : due (s.pass dt) = true) :
    event dt s due act = .next (act (s.pass dt)) := by
  simp [event, h]

theorem event_idle {dt : Nat} {s : State} {due : State → Bool} {act : State → State} (h : due (s.pass dt) = false) :
    event dt s due act = .next (s.pass dt) := by
  simp [event, h]

/-- The same, the state of arrival named. -/
theorem event_at {dt : Nat} {s u : State} {due : State → Bool} {act : State → State} (e : s.pass dt = u) (h : due u = true) :
    event dt s due act = .next (act u) := by
  subst e; exact event_due h

/-- The same for an event before which the triggers due by then act. -/
theorem timed_due {dt : Nat} {s : State} {due : State → Bool} {act : State → State} (h : due (s.arrive dt) = true) :
    timed dt s due act = .next (act (s.arrive dt)) := by
  have h' : due (s.pass dt).settleAhead = true := h
  simp [timed, h', State.arrive]

/-- The same, the state of arrival named. -/
theorem timed_at {dt : Nat} {s u : State} {due : State → Bool} {act : State → State} (e : s.arrive dt = u) (h : due u = true) :
    timed dt s due act = .next (act u) := by
  subst e; exact timed_due h

theorem timed_idle {dt : Nat} {s : State} {due : State → Bool} {act : State → State} (h : due (s.arrive dt) = false) :
    timed dt s due act = .next (s.arrive dt) := by
  have h' : due (s.pass dt).settleAhead = false := h
  simp [timed, h', State.arrive]

/-! ## Grant -/

/-- A granted write: present master, after Ready, a writable row in a state that allows it, a value in range, an operation that
answers its own code. -/
theorem State.grant_keep {s : State} {m i j : Nat} {v u : Int} {dep : State → Int → Verdict} {op : Op}
    (hm : s.masterPresent m = true) (hr : s.dev.ready = true) (hc : s.rowRefusal i j = 0)
    (hv : (verdict i j v).andThen (dep s) = .keep u) :
    s.grant m i j v dep op = (op u s).1.answer m i j (op u s).2 := by
  simp [State.grant, hm, hr, hc, hv]

/-- The same for a command with no dependent limit. -/
theorem State.command_keep {s : State} {m i j : Nat} {v : Int} {op : Op}
    (hm : s.masterPresent m = true) (hr : s.dev.ready = true) (hc : s.rowRefusal i j = 0) (hv : verdict i j v = .keep v) :
    s.command m i j v op = (op v s).1.answer m i j (op v s).2 :=
  State.grant_keep hm hr hc (by rw [hv]; rfl)

/-- R42: an absent master's access is none. -/
theorem State.grant_absent {s : State} {m i j : Nat} {v : Int} {dep : State → Int → Verdict} {op : Op}
    (hm : s.masterPresent m = false) : s.grant m i j v dep op = s := by
  simp [State.grant, hm]

/-- R40: before Ready every write is refused with code 7. -/
theorem State.grant_early {s : State} {m i j : Nat} {v : Int} {dep : State → Int → Verdict} {op : Op}
    (hm : s.masterPresent m = true) (hr : s.dev.ready = false) : s.grant m i j v dep op = s.answer m i j 7 := by
  simp [State.grant, hm, hr]

/-! ## Rows -/

/-- What a row says of a write. -/
abbrev rowShape (i j : Nat) : Option (Acc × When × Range × Ty) :=
  (lookup i j).map (fun e => (e.row.acc, e.row.when, e.row.range, e.row.ty))

theorem State.rowRefusal_always {s : State} {i j : Nat} {a : Acc} {r : Range} {t : Ty} (h : rowShape i j = some (a, .always, r, t))
    (ha : a ≠ .ro) (hi : ¬ (i = 0x5410 ∧ j = 3)) : s.rowRefusal i j = 0 := by
  unfold rowShape at h
  cases hl : lookup i j with
  | none => rw [hl] at h; cases h
  | some e =>
    rw [hl] at h
    simp only [Option.map_some, Option.some.injEq, Prod.mk.injEq] at h
    simp [State.rowRefusal, hl, h.1, h.2.1, ha, hi]

theorem State.rowRefusal_standby {s : State} {i j : Nat} {a : Acc} {r : Range} {t : Ty} (h : rowShape i j = some (a, .standby, r, t))
    (ha : a ≠ .ro) (hi : ¬ (i = 0x5410 ∧ j = 3)) : s.rowRefusal i j = if s.live then 7 else 0 := by
  unfold rowShape at h
  cases hl : lookup i j with
  | none => rw [hl] at h; cases h
  | some e =>
    rw [hl] at h
    simp only [Option.map_some, Option.some.injEq, Prod.mk.injEq] at h
    simp [State.rowRefusal, hl, h.1, h.2.1, ha, hi]

theorem verdict_of {i j : Nat} {a : Acc} {w : When} {r : Range} {t : Ty} (h : rowShape i j = some (a, w, r, t)) (v : Int) :
    verdict i j v = r.apply t v := by
  unfold rowShape at h
  cases hl : lookup i j with
  | none => rw [hl] at h; cases h
  | some e =>
    rw [hl] at h
    simp only [Option.map_some, Option.some.injEq, Prod.mk.injEq] at h
    simp [verdict, hl, h.2.2.1, h.2.2.2]

theorem keyTy_of {i j : Nat} {a : Acc} {w : When} {r : Range} {t : Ty} (h : rowShape i j = some (a, w, r, t)) (hj : j < 256) :
    keyTy (key i j) = t := by
  unfold rowShape at h
  cases hl : lookup i j with
  | none => rw [hl] at h; cases h
  | some e =>
    rw [hl] at h
    simp only [Option.map_some, Option.some.injEq, Prod.mk.injEq] at h
    have h1 : key i j / 256 = i := by unfold key; omega
    have h2 : key i j % 256 = j := by unfold key; omega
    simp [keyTy, tyAt, h1, h2, hl, h.2.2.2]

/-! ## Vectors -/

theorem vget_vupd {α : Type} [Inhabited α] {n : Nat} (v : Vector α n) (i j : Nat) (f : α → α) :
    vget (vupd v i f) j = if i = j ∧ i < n then f (vget v j) else vget v j := by
  unfold vget vupd
  by_cases hi : i < n
  · by_cases hij : i = j
    · subst hij; simp [hi]
    · simp [hi, hij]
  · simp [hi]

/-! ## Answer -/

theorem State.Aside.refl (m : Nat) (s : State) : s.Aside m s := ⟨rfl, fun _ _ _ _ => rfl, fun _ _ => rfl⟩

theorem State.Aside.trans {m : Nat} {s t u : State} (h : s.Aside m t) (g : t.Aside m u) : s.Aside m u :=
  ⟨by rw [g.1]; rw [h.1], fun i j hj hn => (g.2.1 i j hj hn).trans (h.2.1 i j hj hn), fun k hk => (g.2.2 k hk).trans (h.2.2 k hk)⟩

theorem State.Aside.wr (m : Nat) (s : State) {i j : Nat} (v : Int) (hj : j < 256) (h : answerEntry m i j) : s.Aside m (s.wr i j v) :=
  ⟨rfl, fun i' j' hj' hn => s.rd_wr_ne i j v (fun e => hn (by
    obtain ⟨rfl, rfl⟩ := (key_inj hj hj').mp e; exact h)), fun _ _ => rfl⟩

theorem State.Aside.bump (m : Nat) (s : State) {i j : Nat} (n : Nat) (hj : j < 256) (h : answerEntry m i j) : s.Aside m (s.bump i j n) :=
  .wr m s _ hj h

theorem State.Aside.raise (m : Nat) (s : State) (k : Nat) (d : Detail) (hm : m ≠ 0) (h : k = 272 + (m - 1) / 2) :
    s.Aside m (s.raise k d) := by
  subst h
  refine ⟨?_, fun i j hj hn => s.rd_raise _ d hj (fun e => hn ?_), fun _ _ => ?_⟩
  · unfold State.raise State.wr State.bump State.wr; rfl
  · unfold answerEntry; omega
  · unfold State.master; rw [State.raise_door]

theorem State.Aside.ite {m : Nat} {s a b : State} {c : Prop} [Decidable c] (ha : s.Aside m a) (hb : s.Aside m b) :
    s.Aside m (if c then a else b) := by
  split <;> assumption

theorem State.Aside.updEgress (m : Nat) (s : State) (k : Nat) (f : Egress → Egress) : s.Aside m (s.updEgress k f) :=
  ⟨rfl, fun _ _ _ _ => rfl, fun _ _ => rfl⟩

theorem State.Aside.updLink (m : Nat) (s : State) (k : Nat) (f : Link → Link) : s.Aside m (s.updLink k f) :=
  ⟨rfl, fun _ _ _ _ => rfl, fun _ _ => rfl⟩

theorem State.Aside.updMaster (m : Nat) (s : State) (f : Master → Master) : s.Aside m (s.updMaster m f) :=
  ⟨rfl, fun _ _ _ _ => rfl, fun k hk => by
    show vget (vupd s.door.masters m f) k = vget s.door.masters k
    rw [vget_vupd, if_neg (fun h => hk h.1.symm)]⟩

theorem State.Aside.lnk (m : Nat) (s : State) (l : LinkSt) : s.Aside m { s with lnk := l } :=
  ⟨rfl, fun _ _ _ _ => rfl, fun _ _ => rfl⟩

theorem State.Aside.fillMoved {m : Nat} (s : State) (b : Nat) (hm : m ≠ 0) : s.Aside m (s.fillMoved ((m - 1) / 2) b) := by
  unfold State.fillMoved
  extract_lets f level a
  have ha : s.Aside m a := by
    refine .ite ?_ (.refl m s)
    refine .trans (.bump m s _ (by omega) ?_) (.raise m _ _ _ hm rfl)
    unfold answerEntry; omega
  refine .ite (ha.trans (.wr m a _ (by omega) ?_)) ha
  unfold answerEntry; omega

theorem State.Aside.push {m : Nat} (s : State) (p : Packet) (hm : m ≠ 0) : s.Aside m (s.push ((m - 1) / 2) p) :=
  (State.Aside.updEgress m s _ _).trans (.fillMoved _ _ hm)

theorem State.Aside.beginPacket (m : Nat) (s : State) (n : Nat) : s.Aside m (s.beginPacket n) := by
  unfold State.beginPacket
  refine .ite (.refl m s) ?_
  split
  · exact .refl m s
  · refine .ite ?_ ?_
    · exact (State.Aside.updEgress m s _ _).trans (.updLink m _ _ _)
    · exact ((State.Aside.updEgress m s _ _).trans (.updLink m _ _ _)).trans (.lnk m _ _)

theorem State.Aside.foldl {m : Nat} {α : Type} {f : State → α → State} (hf : ∀ (s : State) a, s.Aside m (f s a)) :
    ∀ (l : List α) (s : State), s.Aside m (l.foldl f s)
  | [], s => .refl m s
  | a :: l, s => (hf s a).trans (State.Aside.foldl hf l (f s a))

theorem State.Aside.startRounds (m : Nat) : ∀ (r : Nat) (s : State), s.Aside m (State.startRounds r s)
  | 0, s => .refl m s
  | r + 1, s => by
    unfold State.startRounds
    refine .ite ?_ (.refl m s)
    exact .trans (State.Aside.foldl (fun s n => .beginPacket m s n) _ s) (.startRounds m r _)

theorem State.Aside.pushControl {m : Nat} (s : State) (b : List Byte) (hm : m ≠ 0) : s.Aside m (s.pushControl (m - 1) b) := by
  unfold State.pushControl State.pushOrHold
  refine .ite ?_ (.updEgress m s _ _)
  exact (State.Aside.push s _ hm).trans (State.Aside.startRounds m 16 _)

theorem State.Aside.wakeLink {m : Nat} (s : State) (hm : m ≠ 0) : s.Aside m (s.wakeLink (m - 1)) := by
  unfold State.wakeLink
  refine .ite (.refl m s) ?_
  refine .trans (.ite (.wr m s _ (by omega) ?_) (.refl m s)) (.updLink m _ _ _)
  unfold answerEntry; omega

theorem State.Aside.respond (s : State) (m code : Nat) (vals : List Int) (data : List Byte) : s.Aside m (s.respond m code vals data) := by
  by_cases hm : m = 0
  · subst hm; simp only [State.respond, if_true, true_or]; exact .updMaster 0 s _
  · simp only [State.respond, hm, if_false, false_or]
    refine .trans (.trans (.wakeLink s hm) (.updMaster m _ _)) (.ite (.refl m _) (.trans (.pushControl _ _ hm) (.ite (.refl m _) (.updMaster m _ _))))

theorem State.Aside.record (s : State) (m i j code : Nat) (hm : m < 17) : s.Aside m (s.record m i j code) := by
  unfold State.record
  refine .trans (.trans (.trans (.bump m s _ (by omega) ?_) (.ite (.bump m _ _ (by omega) ?_) (.refl m _)))
    (.ite (.bump m _ _ (by omega) ?_) (.refl m _))) (.ite (.refl m _) (.wr m _ _ (by omega) ?_))
  all_goals (unfold answerEntry; omega)

theorem State.Aside.answer (s : State) (m i j code : Nat) (vals : List Int) (data : List Byte) (hm : m < 17) :
    s.Aside m (s.answer m i j code vals data) :=
  .trans (.record s m i j code hm) (.respond _ m code vals data)

theorem State.beginPacket_door (s : State) (n : Nat) : (s.beginPacket n).door = s.door := by
  unfold State.beginPacket
  split
  · rfl
  · split
    · rfl
    · dsimp only; split <;> rfl

theorem State.startRounds_door : ∀ (r : Nat) (s : State), (State.startRounds r s).door = s.door
  | 0, _ => rfl
  | r + 1, s => by
    have hf : ∀ (l : List Nat) (s : State), (l.foldl (fun s n => s.beginPacket n) s).door = s.door := by
      intro l
      induction l with
      | nil => intro s; rfl
      | cons a l ih => intro s; exact (ih _).trans (s.beginPacket_door a)
    unfold State.startRounds
    split
    · exact (State.startRounds_door r _).trans (hf _ s)
    · rfl

theorem State.push_door (s : State) (k : Nat) (p : Packet) : (s.push k p).door = s.door := by
  unfold State.push State.fillMoved
  dsimp only
  split <;> split <;> simp

theorem State.pushControl_door (s : State) (n : Nat) (b : List Byte) : (s.pushControl n b).door = s.door := by
  unfold State.pushControl State.pushOrHold
  split
  · exact (State.startRounds_door 16 _).trans (s.push_door _ _)
  · rfl

/-- R39: what leaves by the door of master `m`. -/
theorem State.answer_reply (s : State) {m : Nat} (hm : m < 17) (i j code : Nat) (vals : List Int) (data : List Byte) :
    ((s.answer m i j code vals data).master m).reply = ⟨code, vals, data⟩ := by
  unfold State.answer State.respond
  extract_lets a b c
  have hb : (b.master m).reply = ⟨code, vals, data⟩ := by
    show (vget (vupd a.door.masters m _) m).reply = _
    rw [vget_vupd, if_pos ⟨rfl, hm⟩]
  have hc : (c.master m).reply = ⟨code, vals, data⟩ := by
    unfold State.master; rw [State.pushControl_door]; exact hb
  split
  · exact hb
  · split
    · exact hc
    · show (vget (vupd c.door.masters m _) m).reply = _
      rw [vget_vupd, if_pos ⟨rfl, hm⟩]
      exact hc

end Sys2Proof.Machine
end

