-- ==== Sys2Proof/Laws/Bytes.lean ====
section
/-!
SUPPORT. Laws of byte strings: lengths and values of little-endian fields, slices of joined strings, and the ranges of the check words.
-/
set_option Elab.async false
namespace Sys2Proof.Machine

theorem le_length : ∀ (n v : Nat), (le n v).length = n
  | 0, _ => rfl
  | n + 1, v => congrArg Nat.succ (le_length n (v / 256))

/-- The number in a field is the number written, modulo its width. -/
theorem unle_le : ∀ (n v : Nat), unle (le n v) = v % 2 ^ (8 * n)
  | 0, v => by simp [le, unle, Nat.mod_one]
  | n + 1, v => by
    have e : 2 ^ (8 * (n + 1)) = 256 * 2 ^ (8 * n) := by rw [show 8 * (n + 1) = 8 + 8 * n by omega, Nat.pow_add]
    rw [le, unle, unle_le n, e, Nat.mod_mul]
    simp

/-- A field of `n` bytes is below `2 ^ (8n)`. -/
theorem unle_lt : ∀ l : List Byte, unle l < 2 ^ (8 * l.length)
  | [] => by simp [unle]
  | b :: r => by
    have h := unle_lt r
    have hb := b.isLt
    rw [List.length_cons, show 8 * (r.length + 1) = 8 + 8 * r.length by omega, Nat.pow_add, unle]
    omega

/-- A slice that lies inside is the bytes there. -/
theorem slice_append (a b c : List Byte) : slice (a ++ b ++ c) a.length b.length = b := by
  simp [slice]

/-- A slice that ends inside the first part is the first part's. -/
theorem slice_left (x y : List Byte) (o n : Nat) (h : o + n ≤ x.length) : slice (x ++ y) o n = slice x o n := by
  have e : ((x ++ y).drop o).take n = (x.drop o).take n := by
    rw [List.drop_append_of_le_length (by omega), List.take_append_of_le_length (by rw [List.length_drop]; omega)]
  simp only [slice, e]

/-- A slice that begins beyond the first part is the second part's. -/
theorem slice_right (x y : List Byte) (o n : Nat) : slice (x ++ y) (x.length + o) n = slice y o n := by
  simp [slice, ← List.drop_drop]

theorem crc32Shift_lt : ∀ (n c : Nat), c < 2 ^ 32 → crc32Shift n c < 2 ^ 32
  | 0, _, h => h
  | n + 1, c, h => by
    refine crc32Shift_lt n _ ?_
    split
    · exact Nat.xor_lt_two_pow (by omega) (by decide)
    · omega

theorem crc32_lt (bs : List Byte) : crc32 bs < 2 ^ 32 := by
  have : ∀ (l : List Byte) (c : Nat), c < 2 ^ 32 → l.foldl crc32Byte c < 2 ^ 32 := by
    intro l
    induction l with
    | nil => exact fun _ h => h
    | cons b r ih =>
      intro c h
      refine ih _ (crc32Shift_lt 8 _ (Nat.xor_lt_two_pow h ?_))
      have := b.isLt
      omega
  exact Nat.xor_lt_two_pow (this bs _ (by decide)) (by decide)

theorem crc16Shift_lt : ∀ (n c : Nat), c < 2 ^ 16 → crc16Shift n c < 2 ^ 16
  | 0, _, h => h
  | n + 1, c, _ => by
    refine crc16Shift_lt n _ ?_
    split
    · exact Nat.xor_lt_two_pow (Nat.mod_lt _ (by decide)) (by decide)
    · exact Nat.mod_lt _ (by decide)

theorem crc16_lt (bs : List Byte) : crc16 bs < 2 ^ 16 := by
  have : ∀ (l : List Byte) (c : Nat), c < 2 ^ 16 → l.foldl (fun c b => crc16Shift 8 (c ^^^ (b.toNat * 256))) c < 2 ^ 16 := by
    intro l
    induction l with
    | nil => exact fun _ h => h
    | cons b r ih =>
      intro c h
      refine ih _ (crc16Shift_lt 8 _ (Nat.xor_lt_two_pow h ?_))
      have := b.isLt
      omega
  exact this bs _ (by decide)

end Sys2Proof.Machine
end

