-- ==== Sys2Proof/Laws/Frame.lean ====
section
/-!
SUPPORT. Frames over the dictionary: `Touch P s t` says that only entries for which `P` holds differ between two states. One lemma
per shared operation, and the ways to put them together.
-/
set_option Elab.async false
namespace Sys2Proof.Machine

variable {P Q : Nat → Nat → Prop} {s t u : State}

theorem Touch.refl (P : Nat → Nat → Prop) (s : State) : Touch P s s := fun _ _ _ _ => rfl

theorem Touch.trans (h : Touch P s t) (g : Touch P t u) : Touch P s u :=
  fun i j hj hn => (g i j hj hn).trans (h i j hj hn)

theorem Touch.mono (h : Touch P s t) (hq : ∀ i j, P i j → Q i j) : Touch Q s t :=
  fun i j hj hn => h i j hj (fun hp => hn (hq i j hp))

/-- Only the dictionary matters. -/
theorem Touch.of_dict (h : t.dict = s.dict) : Touch P s t := fun i j _ _ => by unfold State.rd; rw [h]

theorem Touch.wr (s : State) {i j : Nat} (v : Int) (hj : j < 256) (h : P i j) : Touch P s (s.wr i j v) :=
  fun i' j' hj' hn => s.rd_wr_ne i j v (fun e => hn (by obtain ⟨rfl, rfl⟩ := (key_inj hj hj').mp e; exact h))

theorem Touch.bump (s : State) {i j : Nat} (n : Nat) (hj : j < 256) (h : P i j) : Touch P s (s.bump i j n) := .wr s _ hj h

theorem Touch.wrBit (s : State) {i j : Nat} (n : Nat) (b : Bool) (hj : j < 256) (h : P i j) : Touch P s (s.wrBit i j n b) := .wr s _ hj h

theorem Touch.raise (s : State) (k : Nat) (d : Detail) (h : ∀ j, (j = 8 ∨ j = 0xB ∨ j = 0xC) → P (0x2800 + k) j) :
    Touch P s (s.raise k d) :=
  fun i j hj hn => s.rd_raise k d hj (fun e => hn (by obtain ⟨rfl, e⟩ := e; exact h j e))

theorem Touch.raise1 (s : State) (k d : Nat) (h : ∀ j, (j = 8 ∨ j = 0xB ∨ j = 0xC) → P (0x2800 + k) j) :
    Touch P s (s.raise1 k d) := .raise s k _ h

theorem Touch.raiseIf (s : State) (c : Bool) (k d : Nat) (h : ∀ j, (j = 8 ∨ j = 0xB ∨ j = 0xC) → P (0x2800 + k) j) :
    Touch P s (s.raiseIf c k d) := by
  unfold State.raiseIf; split
  · exact .raise1 s k d h
  · exact .refl P s

theorem Touch.ite {c : Prop} [Decidable c] {a b : State} (ha : Touch P s a) (hb : Touch P s b) : Touch P s (if c then a else b) := by
  split <;> assumption

theorem Touch.foldl {α : Type} {f : State → α → State} : ∀ {l : List α} (_ : ∀ s, ∀ a ∈ l, Touch P s (f s a)) (s : State),
    Touch P s (l.foldl f s)
  | [], _, s => .refl P s
  | a :: l, hf, s => (hf s a (by simp)).trans (Touch.foldl (fun s b hb => hf s b (by simp [hb])) (f s a))

theorem Touch.each {n : Nat} {f : Nat → State → State} (hf : ∀ i, i < n → ∀ s, Touch P s (f i s)) (s : State) :
    Touch P s (s.each n f) :=
  Touch.foldl (fun s i hi => hf i (List.mem_range.mp hi) s) s

theorem Touch.eachOf {α : Type} {l : List α} {f : α → State → State} (hf : ∀ a ∈ l, ∀ s, Touch P s (f a s)) (s : State) :
    Touch P s (s.eachOf l f) :=
  Touch.foldl (fun s a ha => hf a ha s) s

theorem Touch.wrAll {idx : Nat} : ∀ {l : List Int} {sub : Nat} (_ : ∀ k, k < l.length → P idx (sub + k)) (_ : sub + l.length ≤ 256)
    (s : State), Touch P s (s.wrAll idx sub l)
  | [], _, _, _, s => .refl P s
  | v :: l, sub, h, hl, s => by
    simp only [List.length_cons] at h hl
    refine (Touch.wr s v (by omega) (h 0 (by omega))).trans (Touch.wrAll (sub := sub + 1) (fun k hk => ?_) (by omega) _)
    have := h (k + 1) (by omega)
    rwa [show sub + 1 + k = sub + (k + 1) by omega]

theorem State.Aside.touch {m : Nat} (h : s.Aside m t) : Touch (answerEntry m) s t := h.2.1

/-- A clamp report touches its counters and EV0832, EV0835. -/
theorem Touch.reportClamp (s : State) (c : ClampRec) (h : ∀ i j, i = 0x2110 ∨ i = 0x2800 + 832 ∨ i = 0x2800 + 835 → P i j) :
    Touch P s (s.reportClamp c) := by
  unfold State.reportClamp
  extract_lets s1 all s3 d1 d2 s4
  have h4 : Touch P s1 s4 := .ite (.trans (.trans (.bump _ _ (by omega) (h _ _ (by omega)))
    (.raiseIf _ _ _ _ (fun j _ => h _ _ (by omega)))) (.of_dict rfl)) (.of_dict rfl)
  exact .trans (.trans (Touch.bump s _ (by omega) (h _ _ (by omega))) h4) (.raise1 _ _ _ (fun j _ => h _ _ (by omega)))

/-! ## Egress queues -/

/-- What filling egress queue `k` may write: its counts, its peak, its level event (R238). -/
def egressEntry (k i j : Nat) : Prop :=
  (i = 0x5610 + k ∧ (j = 8 ∨ j = 0x10)) ∨ (i = 0x2800 + (272 + k) ∧ (j = 8 ∨ j = 0xB ∨ j = 0xC))

theorem Touch.fillMoved (s : State) (k b : Nat) (h : ∀ i j, egressEntry k i j → P i j) : Touch P s (s.fillMoved k b) := by
  unfold State.fillMoved
  extract_lets f level a
  have ha : Touch P s a := .ite (.trans (.bump s _ (by omega) (h _ _ (.inl ⟨rfl, .inl rfl⟩)))
    (.raise1 _ _ _ (fun j hj => h _ _ (.inr ⟨rfl, hj⟩)))) (.refl P s)
  exact .ite (ha.trans (.wr a _ (by omega) (h _ _ (.inl ⟨rfl, .inr rfl⟩)))) ha

theorem Touch.push (s : State) (k : Nat) (p : Packet) (h : ∀ i j, egressEntry k i j → P i j) : Touch P s (s.push k p) :=
  .trans (t := s.updEgress k _) (.of_dict rfl) (.fillMoved _ k _ h)

theorem State.beginPacket_dict (s : State) (n : Nat) : (s.beginPacket n).dict = s.dict := by
  unfold State.beginPacket
  split
  · rfl
  · split
    · rfl
    · dsimp only; split <;> rfl

theorem State.startRounds_dict : ∀ (r : Nat) (s : State), (State.startRounds r s).dict = s.dict
  | 0, _ => rfl
  | r + 1, s => by
    have hf : ∀ (l : List Nat) (s : State), (l.foldl (fun s n => s.beginPacket n) s).dict = s.dict := by
      intro l
      induction l with
      | nil => intro s; rfl
      | cons a l ih => intro s; exact (ih _).trans (s.beginPacket_dict a)
    unfold State.startRounds
    split
    · exact (State.startRounds_dict r _).trans (hf _ s)
    · rfl

theorem Touch.pushOrHold (s : State) (k : Nat) (p : Packet) (h : ∀ i j, egressEntry k i j → P i j) : Touch P s (s.pushOrHold k p) := by
  unfold State.pushOrHold
  exact .ite (.trans (.push s k p h) (.of_dict (State.startRounds_dict 16 _))) (.of_dict rfl)

theorem Touch.pushControl (s : State) (n : Nat) (b : List Byte) (h : ∀ i j, egressEntry (n / 2) i j → P i j) :
    Touch P s (s.pushControl n b) := .pushOrHold s (n / 2) _ h

end Sys2Proof.Machine
end

