-- ==== Sys2Proof/Laws/Events.lean ====
section
/-!
SUPPORT. Raising and presenting an event: what it leaves in the source's entries and in the arbiter.
-/
set_option Elab.async false
namespace Sys2Proof.Machine

/-! ## Presentations -/

theorem mem_present {p x : Present} {l : List Present} (h : x ∈ l) : x ∈ present p l := by
  induction l with
  | nil => simp at h
  | cons a r ih =>
    simp only [present]
    split
    · simp [h]
    · split
      · exact h
      · rcases List.mem_cons.mp h with h | h
        · simp [h]
        · simp [ih h]

theorem present_src {p : Present} {l : List Present} : ∃ x ∈ present p l, x.src = p.src := by
  induction l with
  | nil => simp [present]
  | cons a r ih =>
    simp only [present]
    split
    · exact ⟨p, by simp, rfl⟩
    · split
      · exact ⟨a, by simp, by simp_all⟩
      · obtain ⟨x, hx, he⟩ := ih; exact ⟨x, by simp [hx], he⟩

theorem present_new {p : Present} {l : List Present} (h : ∀ x ∈ l, x.src ≠ p.src) : p ∈ present p l := by
  induction l with
  | nil => simp [present]
  | cons a r ih =>
    simp only [present]
    split
    · simp
    · split
      · exact absurd (Eq.symm ‹_›) (h a (by simp))
      · simp [ih (fun x hx => h x (by simp [hx]))]

/-! ## The entries of a source -/

theorem evTy : ∀ k : Fin 1024, keyTy (key (0x2800 + k) 1) = .u8 ∧ keyTy (key (0x2800 + k) 2) = .u8 ∧
    keyTy (key (0x2800 + k) 3) = .u8 ∧ keyTy (key (0x2800 + k) 4) = .u8 ∧ keyTy (key (0x2800 + k) 8) = .u32 ∧
    keyTy (key (0x2800 + k) 9) = .u32 ∧ keyTy (key (0x2800 + k) 0xA) = .u64 ∧ keyTy (key (0x2800 + k) 0xB) = .u32 ∧
    keyTy (key (0x2800 + k) 0xC) = .u32 := by decide +kernel

theorem State.raise_occurrences (s : State) {src : Nat} (d : Detail) (h : src < 1024) :
    (s.raise src d).rd (0x2800 + src) 8 = (s.rd (0x2800 + src) 8 + 1) % 2 ^ 32 := by
  rw [State.raise_rd, State.rd_wr_ne, State.rd_wr_ne, State.bump, State.rd_wr_same, (evTy ⟨src, h⟩).2.2.2.2.1]
  · simp [Ty.wrap, Ty.bits, Ty.signed]
  · rw [Ne, key_inj (by omega) (by omega)]; omega
  · rw [Ne, key_inj (by omega) (by omega)]; omega

theorem State.raise_detailA (s : State) {src : Nat} (d : Detail) (h : src < 1024) :
    (s.raise src d).rd (0x2800 + src) 0xB = d.pair.1 % 2 ^ 32 := by
  rw [State.raise_rd, State.rd_wr_ne, State.rd_wr_same, (evTy ⟨src, h⟩).2.2.2.2.2.2.2.1]
  · simp [Ty.wrap, Ty.bits, Ty.signed]
  · rw [Ne, key_inj (by omega) (by omega)]; omega

theorem State.raise_detailB (s : State) {src : Nat} (d : Detail) (h : src < 1024) :
    (s.raise src d).rd (0x2800 + src) 0xC = d.pair.2 % 2 ^ 32 := by
  rw [State.raise_rd, State.rd_wr_same, (evTy ⟨src, h⟩).2.2.2.2.2.2.2.2]
  simp [Ty.wrap, Ty.bits, Ty.signed]

end Sys2Proof.Machine
end

