-- ==== Sys2Proof/Laws/Keeps.lean ====
section
/-!
SUPPORT. The law that goes through every operation: what becomes of a state `s0` is sound if `s0` is and has the commands waiting that
`s0` has, and part `p` of the state is what it was, unless the operation is one that touches `p`. Here the law itself and the
operations that touch what it speaks of; the lemmas of the other operations follow in the other files of this name.
-/
set_option Elab.async false
namespace Sys2Proof.Machine

/-- The bit of a part in a set of parts. -/
def Part.bit : Part → Nat
  | .now => 0x1
  | .compassOff => 0x2
  | .dict => 0x4
  | .dev => 0x8
  | .door => 0x10
  | .ev => 0x20
  | .pow => 0x40
  | .tim => 0x80
  | .que => 0x100
  | .dma => 0x200
  | .lnk => 0x400
  | .fe => 0x800
  | .sh => 0x1000
  | .rcp => 0x2000
  | .lamp => 0x4000
  | .can => 0x8000
  | .lan => 0x10000
  | .aux => 0x20000
  | .upd => 0x40000
  | .trm => 0x80000
  | .rdg => 0x100000
  | .trn => 0x200000
  | .csb => 0x400000
  | .ringMem => 0x800000
  | .log => 0x1000000
  | .archive => 0x2000000
  | .fatal => 0x4000000
  | .ec => 0x8000000
  | .slots => 0x10000000
  | .lines => 0x20000000
  | .egress => 0x40000000
  | .service => 0x80000000
  | .shBanks => 0x100000000
  | .basis => 0x200000000

/-- Part `p` is not in the set `m`. -/
def Off (p : Part) (m : Nat) : Prop := p.bit &&& m = 0

theorem Off.sub {p : Part} {a b : Nat} (h : Off p a) (e : a &&& b = b) : Off p b := by
  unfold Off at *
  rw [← e, ← Nat.and_assoc, h, Nat.zero_and]

theorem Off.ne {p r : Part} {m : Nat} (h : Off p m) (e : r.bit &&& m = r.bit) : p ≠ r := by
  rintro rfl
  unfold Off at h
  rw [e] at h
  cases p <;> cases h

/-- `s` is what has become of `s0`. -/
structure Keeps (p : Part) (s0 s : State) : Prop where
  sound : s0.Sound → s.Sound
  pend : s.pending = s0.pending
  same : p.Same s0 s

variable {p : Part} {s0 s t : State}

theorem Part.Same.refl (p : Part) (s : State) : p.Same s s := by cases p <;> rfl

theorem Part.Same.trans {s t u : State} (h : p.Same s t) (g : p.Same t u) : p.Same s u := by
  cases p <;> exact Eq.trans g h

theorem Keeps.refl (p : Part) (s : State) : Keeps p s s := ⟨id, rfl, .refl p s⟩

theorem Keeps.trans {u : State} (h : Keeps p s t) (g : Keeps p t u) : Keeps p s u :=
  ⟨fun x => g.sound (h.sound x), g.pend.trans h.pend, h.same.trans g.same⟩

/-- Only what soundness speaks of matters to it. -/
theorem State.Sound.of (h : s.Sound) (hd : t.dict = s.dict) (hm : t.dma.ringMem = s.dma.ringMem)
    (he : t.ev.pres = s.ev.pres) (hq : t.ev.emergencies = s.ev.emergencies) (hl : t.ev.log = s.ev.log)
    (ha : t.ev.archive = s.ev.archive) (hc : t.door.clamps = s.door.clamps) : t.Sound := by
  unfold State.Sound at *
  rw [hd, hm, he, hq, hl, ha, hc]
  exact h

/-- A state written out whole, with the waiting commands and the dictionary of `s`, whose other parts are those of `s` or touched. -/
theorem Keeps.mk' {m : Nat} (hp : Off p m) {now : Nat} {compassOff : Nat} {dev : DevSt} {door : DoorSt} {ev : EventSt} {pow : PowerSt} {tim : TimingSt} {que : QueueSt} {dma : DmaSt} {lnk : LinkSt} {fe : Vector FrontEnd 64} {sh : ShadeSt} {rcp : RecipeSt} {lamp : LampSt} {can : CanteenSt} {lan : LanternSt} {aux : AuxSt} {upd : UpdateSt} {trm : TrimSt} {rdg : RidgeSt} {trn : TransportSt} {csb : CasbySt}
    (h : Keeps p s0 s) (hm : dma.ringMem = s.dma.ringMem := by with_reducible rfl) (he : ev.pres = s.ev.pres := by with_reducible rfl)
    (hq : ev.emergencies = s.ev.emergencies := by with_reducible rfl) (hl : ev.log = s.ev.log := by with_reducible rfl) (ha : ev.archive = s.ev.archive := by with_reducible rfl)
    (hc : door.clamps = s.door.clamps := by with_reducible rfl)
    (c_now : now = s.now ∨ Part.bit .now &&& m = Part.bit .now := by first | exact .inl (by with_reducible rfl) | exact .inr (by decide))
    (c_compassOff : compassOff = s.compassOff ∨ Part.bit .compassOff &&& m = Part.bit .compassOff := by first | exact .inl (by with_reducible rfl) | exact .inr (by decide))
    (c_dev : dev = s.dev ∨ Part.bit .dev &&& m = Part.bit .dev := by first | exact .inl (by with_reducible rfl) | exact .inr (by decide))
    (c_door : door = s.door ∨ Part.bit .door &&& m = Part.bit .door := by first | exact .inl (by with_reducible rfl) | exact .inr (by decide))
    (c_ev : ev = s.ev ∨ Part.bit .ev &&& m = Part.bit .ev := by first | exact .inl (by with_reducible rfl) | exact .inr (by decide))
    (c_pow : pow = s.pow ∨ Part.bit .pow &&& m = Part.bit .pow := by first | exact .inl (by with_reducible rfl) | exact .inr (by decide))
    (c_tim : tim = s.tim ∨ Part.bit .tim &&& m = Part.bit .tim := by first | exact .inl (by with_reducible rfl) | exact .inr (by decide))
    (c_que : que = s.que ∨ Part.bit .que &&& m = Part.bit .que := by first | exact .inl (by with_reducible rfl) | exact .inr (by decide))
    (c_dma : dma = s.dma ∨ Part.bit .dma &&& m = Part.bit .dma := by first | exact .inl (by with_reducible rfl) | exact .inr (by decide))
    (c_lnk : lnk = s.lnk ∨ Part.bit .lnk &&& m = Part.bit .lnk := by first | exact .inl (by with_reducible rfl) | exact .inr (by decide))
    (c_fe : fe = s.fe ∨ Part.bit .fe &&& m = Part.bit .fe := by first | exact .inl (by with_reducible rfl) | exact .inr (by decide))
    (c_sh : sh = s.sh ∨ Part.bit .sh &&& m = Part.bit .sh := by first | exact .inl (by with_reducible rfl) | exact .inr (by decide))
    (c_rcp : rcp = s.rcp ∨ Part.bit .rcp &&& m = Part.bit .rcp := by first | exact .inl (by with_reducible rfl) | exact .inr (by decide))
    (c_lamp : lamp = s.lamp ∨ Part.bit .lamp &&& m = Part.bit .lamp := by first | exact .inl (by with_reducible rfl) | exact .inr (by decide))
    (c_can : can = s.can ∨ Part.bit .can &&& m = Part.bit .can := by first | exact .inl (by with_reducible rfl) | exact .inr (by decide))
    (c_lan : lan = s.lan ∨ Part.bit .lan &&& m = Part.bit .lan := by first | exact .inl (by with_reducible rfl) | exact .inr (by decide))
    (c_aux : aux = s.aux ∨ Part.bit .aux &&& m = Part.bit .aux := by first | exact .inl (by with_reducible rfl) | exact .inr (by decide))
    (c_upd : upd = s.upd ∨ Part.bit .upd &&& m = Part.bit .upd := by first | exact .inl (by with_reducible rfl) | exact .inr (by decide))
    (c_trm : trm = s.trm ∨ Part.bit .trm &&& m = Part.bit .trm := by first | exact .inl (by with_reducible rfl) | exact .inr (by decide))
    (c_rdg : rdg = s.rdg ∨ Part.bit .rdg &&& m = Part.bit .rdg := by first | exact .inl (by with_reducible rfl) | exact .inr (by decide))
    (c_trn : trn = s.trn ∨ Part.bit .trn &&& m = Part.bit .trn := by first | exact .inl (by with_reducible rfl) | exact .inr (by decide))
    (c_csb : csb = s.csb ∨ Part.bit .csb &&& m = Part.bit .csb := by first | exact .inl (by with_reducible rfl) | exact .inr (by decide))
    (c_fatal : ev.fatal = s.ev.fatal ∨ Part.bit .fatal &&& m = Part.bit .fatal := by first | exact .inl (by with_reducible rfl) | exact .inr (by decide))
    (c_ec : door.ec = s.door.ec ∨ Part.bit .ec &&& m = Part.bit .ec := by first | exact .inl (by with_reducible rfl) | exact .inr (by decide))
    (c_slots : door.slots = s.door.slots ∨ Part.bit .slots &&& m = Part.bit .slots := by first | exact .inl (by with_reducible rfl) | exact .inr (by decide))
    (c_lines : que.lines = s.que.lines ∨ Part.bit .lines &&& m = Part.bit .lines := by first | exact .inl (by with_reducible rfl) | exact .inr (by decide))
    (c_egress : que.egress = s.que.egress ∨ Part.bit .egress &&& m = Part.bit .egress := by first | exact .inl (by with_reducible rfl) | exact .inr (by decide))
    (c_service : tim.service = s.tim.service ∨ Part.bit .service &&& m = Part.bit .service := by first | exact .inl (by with_reducible rfl) | exact .inr (by decide))
    (c_shBanks : sh.banks = s.sh.banks ∨ Part.bit .shBanks &&& m = Part.bit .shBanks := by first | exact .inl (by with_reducible rfl) | exact .inr (by decide))
    (c_basis : rcp.basis = s.rcp.basis ∨ Part.bit .basis &&& m = Part.bit .basis := by first | exact .inl (by with_reducible rfl) | exact .inr (by decide)) :
    Keeps p s0 (State.mk s.pending now compassOff s.dict dev door ev pow tim que dma lnk fe sh rcp lamp can lan aux upd trm rdg trn csb) := by
  refine ⟨fun x => (h.sound x).of rfl hm he hq hl ha hc, h.pend, h.same.trans ?_⟩
  cases p
  case now => exact c_now.resolve_right (fun e => hp.ne e rfl)
  case compassOff => exact c_compassOff.resolve_right (fun e => hp.ne e rfl)
  case dict => rfl
  case dev => exact c_dev.resolve_right (fun e => hp.ne e rfl)
  case door => exact c_door.resolve_right (fun e => hp.ne e rfl)
  case ev => exact c_ev.resolve_right (fun e => hp.ne e rfl)
  case pow => exact c_pow.resolve_right (fun e => hp.ne e rfl)
  case tim => exact c_tim.resolve_right (fun e => hp.ne e rfl)
  case que => exact c_que.resolve_right (fun e => hp.ne e rfl)
  case dma => exact c_dma.resolve_right (fun e => hp.ne e rfl)
  case lnk => exact c_lnk.resolve_right (fun e => hp.ne e rfl)
  case fe => exact c_fe.resolve_right (fun e => hp.ne e rfl)
  case sh => exact c_sh.resolve_right (fun e => hp.ne e rfl)
  case rcp => exact c_rcp.resolve_right (fun e => hp.ne e rfl)
  case lamp => exact c_lamp.resolve_right (fun e => hp.ne e rfl)
  case can => exact c_can.resolve_right (fun e => hp.ne e rfl)
  case lan => exact c_lan.resolve_right (fun e => hp.ne e rfl)
  case aux => exact c_aux.resolve_right (fun e => hp.ne e rfl)
  case upd => exact c_upd.resolve_right (fun e => hp.ne e rfl)
  case trm => exact c_trm.resolve_right (fun e => hp.ne e rfl)
  case rdg => exact c_rdg.resolve_right (fun e => hp.ne e rfl)
  case trn => exact c_trn.resolve_right (fun e => hp.ne e rfl)
  case csb => exact c_csb.resolve_right (fun e => hp.ne e rfl)
  case ringMem => exact hm
  case log => exact hl
  case archive => exact ha
  case fatal => exact c_fatal.resolve_right (fun e => hp.ne e rfl)
  case ec => exact c_ec.resolve_right (fun e => hp.ne e rfl)
  case slots => exact c_slots.resolve_right (fun e => hp.ne e rfl)
  case lines => exact c_lines.resolve_right (fun e => hp.ne e rfl)
  case egress => exact c_egress.resolve_right (fun e => hp.ne e rfl)
  case service => exact c_service.resolve_right (fun e => hp.ne e rfl)
  case shBanks => exact c_shBanks.resolve_right (fun e => hp.ne e rfl)
  case basis => exact c_basis.resolve_right (fun e => hp.ne e rfl)

theorem Keeps.ite {c : Prop} [Decidable c] {a b : State} (ha : Keeps p s0 a) (hb : Keeps p s0 b) : Keeps p s0 (if c then a else b) := by
  split <;> assumption

theorem Keeps.wr (h : Keeps p s0 s) (hp : Off p 0x4) (idx sub : Nat) (v : Int) : Keeps p s0 (s.wr idx sub v) := by
  refine ⟨fun x => ⟨(h.sound x).1.set _ (Ty.wrap_wrap _ _), (h.sound x).2⟩, h.pend, h.same.trans ?_⟩
  cases p <;> first | rfl | exact absurd rfl (hp.ne rfl)

theorem Keeps.foldl {α : Type} {f : State → α → State} (hf : ∀ s a, Keeps p s0 s → Keeps p s0 (f s a)) :
    ∀ (l : List α) {s : State}, Keeps p s0 s → Keeps p s0 (l.foldl f s)
  | [], _, h => h
  | a :: l, _, h => Keeps.foldl hf l (hf _ a h)

theorem Keeps.foldl1 {α β : Type} {f : State × β → α → State × β} (hf : ∀ s a, Keeps p s0 s.1 → Keeps p s0 (f s a).1) :
    ∀ (l : List α) {s : State × β}, Keeps p s0 s.1 → Keeps p s0 (l.foldl f s).1
  | [], _, h => h
  | a :: l, _, h => Keeps.foldl1 hf l (hf _ a h)

theorem Keeps.each {n : Nat} {f : Nat → State → State} (h : Keeps p s0 s) (hf : ∀ i t, Keeps p s0 t → Keeps p s0 (f i t)) :
    Keeps p s0 (s.each n f) :=
  Keeps.foldl (fun s a => hf a s) _ h

theorem Keeps.eachOf {α : Type} {l : List α} {f : α → State → State} (h : Keeps p s0 s)
    (hf : ∀ a t, Keeps p s0 t → Keeps p s0 (f a t)) : Keeps p s0 (s.eachOf l f) :=
  Keeps.foldl (fun s a => hf a s) _ h

theorem Keeps.wrAll (h : Keeps p s0 s) (hp : Off p 0x4) (idx sub : Nat) (l : List Int) : Keeps p s0 (s.wrAll idx sub l) := by
  induction l generalizing s sub with
  | nil => exact h
  | cons v l ih => exact ih (h.wr hp idx sub v) (sub + 1)

theorem Keeps.ringStore (h : Keeps p s0 s) (hp : Off p 0x800200) (o : Nat) (bs : List Byte) : Keeps p s0 (s.ringStore o bs) := by
  refine ⟨fun x => ?_, h.pend, h.same.trans ?_⟩
  · have x := h.sound x
    refine ⟨x.1, ?_, x.2.2⟩
    by_cases ho : o ≤ ringSize
    · exact Memory.wf_setAll x.2.1 o _ (by simp only [List.length_take]; omega)
    · have : ringSize - o = 0 := by omega
      show Memory.wf (Memory.setAll s.dma.ringMem o (bs.take (ringSize - o))) = true
      rw [this, List.take_zero]
      exact x.2.1
  · cases p <;> first | rfl | exact absurd rfl (hp.ne rfl)

theorem present_ordered {l : List Present} (h : PresentsOrdered l) (p : Present) : PresentsOrdered (present p l) := by
  have hm : ∀ {l : List Present} {x : Present}, x ∈ present p l → x = p ∨ x ∈ l := by
    intro l x hx
    induction l with
    | nil => simpa [present] using hx
    | cons a r ih =>
      simp only [present] at hx
      split at hx
      · simpa using hx
      · split at hx
        · exact .inr hx
        · rcases List.mem_cons.mp hx with hx | hx
          · simp [hx]
          · rcases ih hx with hx | hx <;> simp [hx]
  induction l with
  | nil => simp [present]
  | cons a r ih =>
    obtain ⟨h1, h2⟩ := List.pairwise_cons.mp h
    simp only [present]
    split
    · refine List.pairwise_cons.mpr ⟨fun x hx => ?_, h⟩
      rcases List.mem_cons.mp hx with rfl | hx
      · assumption
      · have := h1 x hx; omega
    · split
      · exact h
      · refine List.pairwise_cons.mpr ⟨fun x hx => ?_, ih h2⟩
        rcases hm hx with rfl | hx
        · omega
        · exact h1 x hx

theorem Keeps.bump (h : Keeps p s0 s) (hp : Off p 0x4) (idx sub n : Nat) : Keeps p s0 (s.bump idx sub n) := h.wr hp idx sub _

theorem Keeps.presents {l : List Present} (h : Keeps p s0 s) (hp : Off p 0x20) (hl : s.Sound → PresentsOrdered l) :
    Keeps p s0 { s with ev := { s.ev with pres := l } } := by
  refine ⟨fun x => ?_, h.pend, h.same.trans ?_⟩
  · have x := h.sound x
    exact ⟨x.1, x.2.1, hl x, x.2.2.2⟩
  · cases p <;> first | rfl | exact absurd rfl (hp.ne rfl)

theorem Keeps.raise (h : Keeps p s0 s) (hp : Off p 0x24) (src : Nat) (d : Detail) : Keeps p s0 (s.raise src d) := by
  have hd : Off p 0x4 := hp.sub rfl
  exact (((h.bump hd _ _ _).wr hd _ _ _).wr hd _ _ _).presents (hp.sub rfl) (fun x => present_ordered x.2.2.1 _)

/-- A local value of a definition is a state that the law holds of. -/
theorem Keeps.use {b : State} (a : State) (ha : Keeps p s0 a) (hb : Keeps p s0 a → Keeps p s0 b) : Keeps p s0 b := hb ha

/-- A local value is a pair whose state the law holds of. -/
theorem Keeps.use1 {α : Type} {b : State} (a : State × α) (ha : Keeps p s0 a.1) (hb : Keeps p s0 a.1 → Keeps p s0 b) : Keeps p s0 b :=
  hb ha

/-- A local value is a function between states that keeps the law. -/
theorem Keeps.useF {b : State} (a : State → State) (ha : ∀ t, Keeps p s0 t → Keeps p s0 (a t))
    (hb : (∀ t, Keeps p s0 t → Keeps p s0 (a t)) → Keeps p s0 b) : Keeps p s0 b :=
  hb ha

/-- A local value is a function of an argument that keeps the law. -/
theorem Keeps.useG {α : Type} {b : State} (a : α → State → State) (ha : ∀ x t, Keeps p s0 t → Keeps p s0 (a x t))
    (hb : (∀ x t, Keeps p s0 t → Keeps p s0 (a x t)) → Keeps p s0 b) : Keeps p s0 b :=
  hb ha

/-- An operation of an access keeps the law. -/
abbrev OpKeeps (p : Part) (s0 : State) (op : Op) : Prop := ∀ (v : Int) (s : State), Keeps p s0 s → Keeps p s0 (op v s).1

end Sys2Proof.Machine
end

