-- ==== Sys2Proof/Laws/KeepsAccess.lean ====
section
/-!
SUPPORT. The law of `Laws/Keeps.lean` for answering an access, the egress queues, the events and the operands of an access: one lemma per operation and
one per command, which says that the command gives a next state.
-/
set_option Elab.async false
namespace Sys2Proof.Machine

variable {pt : Part} {s0 : State}

/-! ## Ops -/

theorem State.wrBit_keeps {s : State} (h : Keeps pt s0 s) (hp : Off pt 0x4) (idx : Nat) (sub : Nat) (i : Nat) (b : Bool) : Keeps pt s0 (s.wrBit idx sub i b) := by
  unfold State.wrBit
  repeat' first
    | with_reducible assumption
    | exact hp.sub rfl
    | with_reducible first | apply Keeps.wr

theorem State.pass_keeps {s : State} (h : Keeps pt s0 s) (hp : Off pt 0x1) (dt : Nat) : Keeps pt s0 (s.pass dt) := by
  unfold State.pass
  repeat' first
    | with_reducible assumption
    | exact hp.sub rfl
    | with_reducible (refine Keeps.mk' hp ?_; first | assumption)

theorem State.idle_keeps {s : State} (h : Keeps pt s0 s) (hp : Off pt 0x1) : Keeps pt s0 (s.idle) := by
  unfold State.idle
  repeat' first
    | with_reducible assumption
    | exact hp.sub rfl
    | with_reducible first | apply State.pass_keeps | apply Keeps.ite

theorem State.raise1_keeps {s : State} (h : Keeps pt s0 s) (hp : Off pt 0x24) (src : Nat) (d : Nat) : Keeps pt s0 (s.raise1 src d) := by
  unfold State.raise1
  repeat' first
    | with_reducible assumption
    | exact hp.sub rfl
    | with_reducible first | apply Keeps.raise

theorem State.raiseIf_keeps {s : State} (h : Keeps pt s0 s) (hp : Off pt 0x24) (c : Bool) (src : Nat) (d : Nat) : Keeps pt s0 (s.raiseIf c src d) := by
  unfold State.raiseIf
  repeat' first
    | with_reducible assumption
    | exact hp.sub rfl
    | with_reducible first | apply State.raise1_keeps | apply Keeps.ite

theorem event_keeps (dt : Nat) (s : State) (due : State → Bool) {act : State → State}
    (hact : ∀ t, Keeps pt (s.pass dt) t → Keeps pt (s.pass dt) (act t)) : ∃ t, event dt s due act = .next t ∧ Keeps pt (s.pass dt) t :=
  ⟨_, rfl, Keeps.ite (hact _ (.refl _ _)) (.refl _ _)⟩

theorem State.updGroup_keeps {s : State} (h : Keeps pt s0 s) (hp : Off pt 0x80) (g : Nat) (f : Group → Group) : Keeps pt s0 (s.updGroup g f) := by
  unfold State.updGroup
  repeat' first
    | with_reducible assumption
    | exact hp.sub rfl
    | with_reducible first | apply hf
    | with_reducible (refine Keeps.mk' hp ?_; first | assumption | apply hf)

theorem State.updService_keeps {s : State} (h : Keeps pt s0 s) (hp : Off pt 0x80000080) (n : Nat) (f : Service → Service) : Keeps pt s0 (s.updService n f) := by
  unfold State.updService
  repeat' first
    | with_reducible assumption
    | exact hp.sub rfl
    | with_reducible first | apply hf
    | with_reducible (refine Keeps.mk' hp ?_; first | assumption | apply hf)

theorem State.updLineQ_keeps {s : State} (h : Keeps pt s0 s) (hp : Off pt 0x20000100) (n : Nat) (f : LineQueue → LineQueue) : Keeps pt s0 (s.updLineQ n f) := by
  unfold State.updLineQ
  repeat' first
    | with_reducible assumption
    | exact hp.sub rfl
    | with_reducible first | apply hf
    | with_reducible (refine Keeps.mk' hp ?_; first | assumption | apply hf)

theorem State.updEgress_keeps {s : State} (h : Keeps pt s0 s) (hp : Off pt 0x40000100) (k : Nat) (f : Egress → Egress) : Keeps pt s0 (s.updEgress k f) := by
  unfold State.updEgress
  repeat' first
    | with_reducible assumption
    | exact hp.sub rfl
    | with_reducible first | apply hf
    | with_reducible (refine Keeps.mk' hp ?_; first | assumption | apply hf)

theorem State.updLink_keeps {s : State} (h : Keeps pt s0 s) (hp : Off pt 0x400) (n : Nat) (f : Link → Link) : Keeps pt s0 (s.updLink n f) := by
  unfold State.updLink
  repeat' first
    | with_reducible assumption
    | exact hp.sub rfl
    | with_reducible first | apply hf
    | with_reducible (refine Keeps.mk' hp ?_; first | assumption | apply hf)

theorem State.updRing_keeps {s : State} (h : Keeps pt s0 s) (hp : Off pt 0x200) (k : Nat) (r : Nat) (f : Ring → Ring) : Keeps pt s0 (s.updRing k r f) := by
  unfold State.updRing
  repeat' first
    | with_reducible assumption
    | exact hp.sub rfl
    | with_reducible first | apply hf
    | with_reducible (refine Keeps.mk' hp ?_; first | assumption | apply hf)

theorem State.updStream_keeps {s : State} (h : Keeps pt s0 s) (hp : Off pt 0x200) (n : Nat) (f : Stream → Stream) : Keeps pt s0 (s.updStream n f) := by
  unfold State.updStream
  repeat' first
    | with_reducible assumption
    | exact hp.sub rfl
    | with_reducible first | apply hf
    | with_reducible (refine Keeps.mk' hp ?_; first | assumption | apply hf)

theorem State.updMaster_keeps {s : State} (h : Keeps pt s0 s) (hp : Off pt 0x10) (m : Nat) (f : Master → Master) : Keeps pt s0 (s.updMaster m f) := by
  unfold State.updMaster
  repeat' first
    | with_reducible assumption
    | exact hp.sub rfl
    | with_reducible first | apply hf
    | with_reducible (refine Keeps.mk' hp ?_; first | assumption | apply hf)

theorem State.updConn_keeps {s : State} (h : Keeps pt s0 s) (hp : Off pt 0x40) (n : Nat) (f : Conn → Conn) : Keeps pt s0 (s.updConn n f) := by
  unfold State.updConn
  repeat' first
    | with_reducible assumption
    | exact hp.sub rfl
    | with_reducible first | apply hf
    | with_reducible (refine Keeps.mk' hp ?_; first | assumption | apply hf)

/-! ## Egress -/

theorem State.fillMoved_keeps {s : State} (h : Keeps pt s0 s) (hp : Off pt 0x24) (k : Nat) (before : Nat) : Keeps pt s0 (s.fillMoved k before) := by
  unfold State.fillMoved
  repeat' first
    | with_reducible assumption
    | exact hp.sub rfl
    | with_reducible first | apply State.raise1_keeps | apply Keeps.wr | apply Keeps.bump | apply Keeps.ite

theorem State.push_keeps {s : State} (h : Keeps pt s0 s) (hp : Off pt 0x40000124) (k : Nat) (p : Packet) : Keeps pt s0 (s.push k p) := by
  unfold State.push
  repeat' first
    | with_reducible assumption
    | exact hp.sub rfl
    | with_reducible first | apply State.fillMoved_keeps | apply State.updEgress_keeps

theorem State.beginPacket_keeps {s : State} (h : Keeps pt s0 s) (hp : Off pt 0x40000500) (n : Nat) : Keeps pt s0 (s.beginPacket n) := by
  unfold State.beginPacket
  repeat' first
    | with_reducible assumption
    | exact hp.sub rfl
    | with_reducible first | apply State.updEgress_keeps | apply State.updLink_keeps | apply Keeps.ite
    | with_reducible (refine Keeps.mk' hp ?_; first | assumption | apply State.updEgress_keeps | apply State.updLink_keeps | apply Keeps.ite)
    | split

theorem State.startRounds_keeps (x0 : Nat) {x1 : State} (hx1 : Keeps pt s0 x1) (hp : Off pt 0x40000500) : Keeps pt s0 (State.startRounds x0 x1) := by
  induction x0 generalizing x1 with
  | zero =>
    unfold State.startRounds
    repeat' first
      | with_reducible assumption
      | exact hp.sub rfl
      | intro _
      | with_reducible first | apply State.beginPacket_keeps | apply Keeps.each | apply Keeps.ite
  | succ n ih =>
    unfold State.startRounds
    repeat' first
      | with_reducible assumption
      | exact hp.sub rfl
      | intro _
      | with_reducible first | apply State.beginPacket_keeps | apply Keeps.each | apply ih | apply Keeps.ite

theorem State.startLinks_keeps {s : State} (h : Keeps pt s0 s) (hp : Off pt 0x40000500) : Keeps pt s0 (s.startLinks) := by
  unfold State.startLinks
  repeat' first
    | with_reducible assumption
    | exact hp.sub rfl
    | with_reducible first | apply State.startRounds_keeps

theorem State.pushOrHold_keeps {s : State} (h : Keeps pt s0 s) (hp : Off pt 0x40000524) (k : Nat) (p : Packet) : Keeps pt s0 (s.pushOrHold k p) := by
  unfold State.pushOrHold
  repeat' first
    | with_reducible assumption
    | exact hp.sub rfl
    | with_reducible first | apply State.startLinks_keeps | apply State.push_keeps | apply State.updEgress_keeps | apply Keeps.ite

theorem State.pushControl_keeps {s : State} (h : Keeps pt s0 s) (hp : Off pt 0x40000524) (n : Nat) (bytes : List Byte) : Keeps pt s0 (s.pushControl n bytes) := by
  unfold State.pushControl
  repeat' first
    | with_reducible assumption
    | exact hp.sub rfl
    | with_reducible first | apply State.pushOrHold_keeps

theorem State.admitHeld_keeps {s : State} (h : Keeps pt s0 s) (hp : Off pt 0x40000124) (k : Nat) (x2 : Nat) : Keeps pt s0 (s.admitHeld k x2) := by
  induction x2 generalizing s with
  | zero =>
    unfold State.admitHeld
    repeat' first
      | with_reducible assumption
      | exact hp.sub rfl
      | with_reducible first | apply State.updEgress_keeps | apply State.push_keeps | apply Keeps.ite
      | split
  | succ n ih =>
    unfold State.admitHeld
    repeat' first
      | with_reducible assumption
      | exact hp.sub rfl
      | with_reducible first | apply State.updEgress_keeps | apply State.push_keeps | apply ih | apply Keeps.ite
      | split

theorem State.free_keeps {s : State} (h : Keeps pt s0 s) (hp : Off pt 0x40000100) (k : Nat) (id : Nat) : Keeps pt s0 (s.free k id) := by
  unfold State.free
  repeat' first
    | with_reducible assumption
    | exact hp.sub rfl
    | with_reducible first | apply State.updEgress_keeps

/-! ## Events -/

theorem State.logEntry_keeps {s : State} (h : Keeps pt s0 s) (hp : Off pt 0x1000024) (r : LogRec) : Keeps pt s0 (s.logEntry r) := by
  have key : ∀ (t : State) (m : Nat), Keeps pt s0 t → Keeps pt s0 { t with ev := { t.ev with
      log := r :: t.ev.log.filter (fun e => e.seq % 4096 ≠ r.seq % 4096)
      unarchived := t.ev.unarchived.filter (fun q => q % 4096 ≠ r.seq % 4096) ++ [r.seq]
      lostSince := t.ev.lostSince + m } } := by
    intro t m ht
    refine ⟨fun x => ?_, ht.pend, ht.same.trans ?_⟩
    · have x := ht.sound x
      refine ⟨x.1, x.2.1, x.2.2.1, x.2.2.2.1, List.pairwise_cons.mpr ⟨fun e he => ?_, ?_⟩, x.2.2.2.2.2⟩
      · have := (List.mem_filter.mp he).2
        simp only [decide_eq_true_eq] at this
        exact fun e => this e.symm
      · exact x.2.2.2.2.1.filter _
    · cases pt <;> first | rfl | exact absurd rfl (hp.ne rfl)
  unfold State.logEntry
  refine key _ _ ?_
  split
  · exact h
  · exact h.bump (hp.sub rfl) _ _ _

theorem State.queueEmergency_keeps {s : State} (h : Keeps pt s0 s) (hp : Off pt 0x24) (r : LogRec) : Keeps pt s0 (s.queueEmergency r) := by
  unfold State.queueEmergency
  split
  · refine ⟨fun x => ?_, h.pend, h.same.trans ?_⟩
    · have x := h.sound x
      refine ⟨x.1, x.2.1, x.2.2.1, ?_, x.2.2.2.2⟩
      simp only [List.length_append, List.length_cons, List.length_nil]
      omega
    · cases pt <;> first | rfl | exact absurd rfl (hp.ne rfl)
  · exact State.raiseIf_keeps (h.bump (hp.sub rfl) _ _ _) (hp.sub rfl) _ _ _

theorem State.queueEventPackets_keeps {s : State} (h : Keeps pt s0 s) (hp : Off pt 0x400) (r : LogRec) : Keeps pt s0 (s.queueEventPackets r) := by
  unfold State.queueEventPackets
  repeat' first
    | with_reducible assumption
    | exact hp.sub rfl
    | intro _
    | with_reducible first | apply State.updLink_keeps | apply Keeps.eachOf

theorem State.sendEvents_keeps {s : State} (h : Keeps pt s0 s) (hp : Off pt 0x40000524) (n : Nat) (x2 : Nat) : Keeps pt s0 (s.sendEvents n x2) := by
  induction x2 generalizing s with
  | zero =>
    unfold State.sendEvents
    repeat' first
      | with_reducible assumption
      | exact hp.sub rfl
      | with_reducible first | apply State.pushControl_keeps | apply State.updLink_keeps
      | split
  | succ n ih =>
    unfold State.sendEvents
    repeat' first
      | with_reducible assumption
      | exact hp.sub rfl
      | with_reducible first | apply State.pushControl_keeps | apply State.updLink_keeps | apply ih
      | split

theorem State.flushEvents_keeps {s : State} (h : Keeps pt s0 s) (hp : Off pt 0x40000524) : Keeps pt s0 (s.flushEvents) := by
  unfold State.flushEvents
  repeat' first
    | with_reducible assumption
    | exact hp.sub rfl
    | intro _
    | with_reducible first | apply State.updLink_keeps | apply State.sendEvents_keeps | apply Keeps.each | apply Keeps.ite

theorem State.startPulse_keeps {s : State} (h : Keeps pt s0 s) (hp : Off pt 0x20) (p : Nat) : Keeps pt s0 (s.startPulse p) := by
  unfold State.startPulse
  repeat' first
    | with_reducible assumption
    | exact hp.sub rfl
    | with_reducible first | apply Keeps.ite
    | with_reducible (refine Keeps.mk' hp ?_; first | assumption | apply Keeps.ite)

theorem State.route_keeps {s : State} (h : Keeps pt s0 s) (hp : Off pt 0x424) (r : LogRec) : Keeps pt s0 (s.route r) := by
  unfold State.route
  repeat' first
    | with_reducible assumption
    | exact hp.sub rfl
    | with_reducible first | apply State.queueEmergency_keeps | apply State.queueEventPackets_keeps | apply State.startPulse_keeps | apply Keeps.ite
    | with_reducible (refine Keeps.mk' hp ?_; first | assumption | apply State.queueEmergency_keeps | apply State.queueEventPackets_keeps | apply State.startPulse_keeps | apply Keeps.ite)

theorem State.tellClamps_keeps {s : State} (h : Keeps pt s0 s) (hp : Off pt 0x10) (n : Nat) : Keeps pt s0 (s.tellClamps n) := by
  refine ⟨fun x => ?_, h.pend, h.same.trans ?_⟩
  · have x := h.sound x
    exact ⟨x.1, x.2.1, x.2.2.1, x.2.2.2.1, x.2.2.2.2.1, x.2.2.2.2.2.1, by
      simpa only [State.tellClamps, List.length_map] using x.2.2.2.2.2.2⟩
  · cases pt <;> first | rfl | exact absurd rfl (hp.ne rfl)

theorem State.stampOne_keeps {s : State} (h : Keeps pt s0 s) (hp : Off pt 0x5000434) (p : Present) : Keeps pt s0 (s.stampOne p) := by
  unfold State.stampOne
  repeat' first
    | with_reducible assumption
    | exact hp.sub rfl
    | with_reducible first | apply State.tellClamps_keeps | apply State.logEntry_keeps | apply State.route_keeps | apply Keeps.wr | apply Keeps.ite
    | with_reducible (refine Keeps.mk' hp ?_; first | assumption | apply State.tellClamps_keeps | apply State.logEntry_keeps | apply State.route_keeps | apply Keeps.wr | apply Keeps.ite)

theorem State.stamp_keeps {s : State} (h : Keeps pt s0 s) (hp : Off pt 0x45000534) : Keeps pt s0 s.stamp :=
  State.flushEvents_keeps (Keeps.eachOf (h.presents (hp.sub rfl) fun _ => List.Pairwise.nil)
    (fun p _ ht => State.stampOne_keeps ht (hp.sub rfl) p)) (hp.sub rfl)

theorem execEventStamp_keeps (dt : Nat) (s : State) (hp : Off pt 0x45000534) : ∃ t, (execEventStamp dt s) = .next t ∧ Keeps pt (s.pass dt) t := by
  unfold execEventStamp
  refine event_keeps _ _ _ ?_
  repeat' first
    | with_reducible assumption
    | exact hp.sub rfl
    | intro _
    | with_reducible first | apply State.stamp_keeps

theorem execEmergencySend_keeps (dt : Nat) (s : State) (hp : Off pt 0x20) :
    ∃ t, execEmergencySend dt s = .next t ∧ Keeps pt (s.pass dt) t := by
  unfold execEmergencySend
  refine event_keeps _ _ _ fun t ht => ?_
  split
  · exact ht
  · next r e rest he =>
    refine ⟨fun x => ?_, ht.pend, ht.same.trans ?_⟩
    · have x := ht.sound x
      refine ⟨x.1, x.2.1, x.2.2.1, ?_, x.2.2.2.2⟩
      have := x.2.2.2.1
      rw [he] at this
      exact Nat.le_of_succ_le this
    · cases pt <;> first | rfl | exact absurd rfl (hp.ne rfl)

theorem State.archiveOne_keeps {s : State} (h : Keeps pt s0 s) (hp : Off pt 0x2000020) : Keeps pt s0 s.archiveOne := by
  unfold State.archiveOne
  split
  · exact h
  · dsimp only
    split
    · refine ⟨fun x => (h.sound x).of rfl rfl rfl rfl rfl rfl rfl, h.pend, h.same.trans ?_⟩
      cases pt <;> first | rfl | exact absurd rfl (hp.ne rfl)
    · next m rest he _ r hr =>
      refine ⟨fun x => ?_, h.pend, h.same.trans ?_⟩
      · have x := h.sound x
        refine ⟨x.1, x.2.1, x.2.2.1, x.2.2.2.1, x.2.2.2.2.1, List.pairwise_cons.mpr ⟨fun e he => ?_, ?_⟩, x.2.2.2.2.2.2⟩
        · have hm : r.seq = m := by simpa using List.find?_some hr
          have := (List.mem_filter.mp he).2
          simp only [decide_eq_true_eq] at this
          rw [hm]
          exact fun e => this e.symm
        · exact x.2.2.2.2.2.1.filter _
      · cases pt <;> first | rfl | exact absurd rfl (hp.ne rfl)

theorem execArchiveCopy_keeps (dt : Nat) (s : State) (hp : Off pt 0x2000020) : ∃ t, (execArchiveCopy dt s) = .next t ∧ Keeps pt (s.pass dt) t := by
  unfold execArchiveCopy
  refine event_keeps _ _ _ ?_
  repeat' first
    | with_reducible assumption
    | exact hp.sub rfl
    | intro _
    | with_reducible first | apply State.archiveOne_keeps

theorem execGpPulseEnd_keeps (dt : Nat) (p : Fin 16) (s : State) (hp : Off pt 0x20) : ∃ t, (execGpPulseEnd dt p s) = .next t ∧ Keeps pt (s.pass dt) t := by
  unfold execGpPulseEnd
  refine event_keeps _ _ _ ?_
  repeat' first
    | with_reducible assumption
    | exact hp.sub rfl
    | intro _
    | with_reducible (refine Keeps.mk' hp ?_; first | assumption)

theorem State.clearClasses_keeps {s : State} (h : Keeps pt s0 s) (hp : Off pt 0x4) (mask : Nat) : Keeps pt s0 (s.clearClasses mask) := by
  unfold State.clearClasses
  repeat' first
    | with_reducible assumption
    | exact hp.sub rfl
    | intro _
    | with_reducible first | apply Keeps.wr | apply Keeps.eachOf | apply Keeps.ite

theorem opRaiseHost_keeps (v : Int) {s : State} (h : Keeps pt s0 s) (hp : Off pt 0x24) : Keeps pt s0 (opRaiseHost v s).1 := by
  unfold opRaiseHost
  repeat' first
    | with_reducible assumption
    | exact hp.sub rfl
    | with_reducible first | apply State.raise1_keeps | apply Keeps.ite
    | (extract_lets +onlyGivenNames -underBinder a; fail_if_success (have : Keeps pt s0 a := by with_reducible assumption); with_reducible first | refine Keeps.use a ?_ fun _ => ?_)
    | split

theorem State.tellLost_keeps {s : State} (h : Keeps pt s0 s) (hp : Off pt 0x24) : Keeps pt s0 (s.tellLost) := by
  unfold State.tellLost
  repeat' first
    | with_reducible assumption
    | exact hp.sub rfl
    | with_reducible first | apply Keeps.raise | apply Keeps.ite
    | with_reducible (refine Keeps.mk' hp ?_; first | assumption | apply Keeps.raise | apply Keeps.ite)

/-! ## Operands -/

theorem State.record_keeps {s : State} (h : Keeps pt s0 s) (hp : Off pt 0x4) (m : Nat) (idx : Nat) (sub : Nat) (code : Nat) : Keeps pt s0 (s.record m idx sub code) := by
  unfold State.record
  repeat' first
    | with_reducible assumption
    | exact hp.sub rfl
    | with_reducible first | apply Keeps.wr | apply Keeps.bump | apply Keeps.ite

theorem State.wakeLink_keeps {s : State} (h : Keeps pt s0 s) (hp : Off pt 0x404) (n : Nat) : Keeps pt s0 (s.wakeLink n) := by
  unfold State.wakeLink
  repeat' first
    | with_reducible assumption
    | exact hp.sub rfl
    | with_reducible first | apply State.updLink_keeps | apply Keeps.wr | apply Keeps.ite

theorem State.owe_keeps {s : State} (h : Keeps pt s0 s) (hp : Off pt 0x10) (m : Nat) : Keeps pt s0 (s.owe m) := by
  unfold State.owe
  repeat' first
    | with_reducible assumption
    | exact hp.sub rfl
    | with_reducible first | apply State.updMaster_keeps

theorem State.respond_keeps {s : State} (h : Keeps pt s0 s) (hp : Off pt 0x40000534) (m : Nat) (code : Nat) (vals : List Int) (data : List Byte) : Keeps pt s0 (s.respond m code vals data) := by
  unfold State.respond
  repeat' first
    | with_reducible assumption
    | exact hp.sub rfl
    | with_reducible first | apply State.wakeLink_keeps | apply State.updMaster_keeps | apply State.pushControl_keeps | apply State.owe_keeps | apply Keeps.ite

theorem State.answer_keeps {s : State} (h : Keeps pt s0 s) (hp : Off pt 0x40000534) (m : Nat) (idx : Nat) (sub : Nat) (code : Nat) (vals : optParam (List Int) []) (data : optParam (List Byte) []) : Keeps pt s0 (s.answer m idx sub code vals data) := by
  unfold State.answer
  repeat' first
    | with_reducible assumption
    | exact hp.sub rfl
    | with_reducible first | apply State.respond_keeps | apply State.record_keeps

theorem State.reportClamp_keeps {s : State} (h : Keeps pt s0 s) (hp : Off pt 0x34) (c : ClampRec) : Keeps pt s0 (s.reportClamp c) := by
  have key : ∀ (t : State) (l : List ClampRec) (b : Bool), Keeps pt s0 t → (s0.Sound → l.length ≤ 256) →
      Keeps pt s0 { t with door := { t.door with clamps := l, clampLostTold := b } } := fun t l b ht hl => by
    refine ⟨fun x => ?_, ht.pend, ht.same.trans ?_⟩
    · have y := ht.sound x
      exact ⟨y.1, y.2.1, y.2.2.1, y.2.2.2.1, y.2.2.2.2.1, y.2.2.2.2.2.1, hl x⟩
    · cases pt <;> first | rfl | exact absurd rfl (hp.ne rfl)
  have h1 := h.bump (hp.sub rfl) 0x2110 1 1
  have hl : s0.Sound → _ := fun x => (h1.sound x).2.2.2.2.2.2
  unfold State.reportClamp
  refine State.raise1_keeps ?_ (hp.sub rfl) _ _
  split
  · refine key _ _ _ (State.raiseIf_keeps (h1.bump (hp.sub rfl) _ _ _) (hp.sub rfl) _ _ _) fun x => ?_
    have := hl x
    simp only [List.length_drop, List.length_append, List.length_cons, List.length_nil]
    omega
  · next hn =>
    refine key _ _ _ h1 fun _ => ?_
    simpa using hn

theorem State.ownClamp_keeps {s : State} (h : Keeps pt s0 s) (hp : Off pt 0x34) (idx : Nat) (sub : Nat) (reason : Nat) (offered : Int) (applied : Int) : Keeps pt s0 (s.ownClamp idx sub reason offered applied) := by
  unfold State.ownClamp
  repeat' first
    | with_reducible assumption
    | exact hp.sub rfl
    | with_reducible first | apply State.reportClamp_keeps

theorem State.grant_keeps {s : State} (h : Keeps pt s0 s) (hp : Off pt 0x40000534) (m : Nat) (idx : Nat) (sub : Nat) (v : Int) (dep : State → Int → Verdict) {op : Op} (hop : OpKeeps pt s0 op) : Keeps pt s0 (s.grant m idx sub v dep op) := by
  unfold State.grant
  repeat' first
    | with_reducible assumption
    | exact hp.sub rfl
    | with_reducible first | apply State.answer_keeps | apply State.reportClamp_keeps | apply hdep | apply hop | apply Keeps.ite
    | split

theorem State.command_keeps {s : State} (h : Keeps pt s0 s) (hp : Off pt 0x40000534) (m : Nat) (idx : Nat) (sub : Nat) (v : Int) {op : Op} (hop : OpKeeps pt s0 op) : Keeps pt s0 (s.command m idx sub v op) := by
  unfold State.command
  repeat' first
    | with_reducible assumption
    | exact hp.sub rfl
    | with_reducible first | apply State.grant_keeps | apply hop

theorem hostCommand_keeps (dt : Nat) (m : Fin 17) (idx sub : Nat) (v : Int) (s : State) (hp : Off pt 0x40000534) {op : Op}
    (hop : OpKeeps pt (s.pass dt) op) : ∃ t, hostCommand dt m idx sub v op s = .next t ∧ Keeps pt (s.pass dt) t :=
  ⟨_, rfl, State.command_keeps (.refl _ _) hp _ _ _ _ hop⟩

theorem opStore_keeps (idx : Nat) (sub : Nat) (hp : Off pt 0x4) : OpKeeps pt s0 (opStore idx sub) := by
  intro v s h
  unfold opStore
  repeat' first
    | with_reducible assumption
    | exact hp.sub rfl
    | with_reducible first | apply Keeps.wr

theorem opDo_keeps {f : State → State} (hf : ∀ t, Keeps pt s0 t → Keeps pt s0 (f t)) : OpKeeps pt s0 (opDo f) := fun _ s h => hf s h

theorem State.publish_keeps {s : State} (h : Keeps pt s0 s) (hp : Off pt 0x14) (idx : Nat) (flags : Nat) (vals : List Int) : Keeps pt s0 (s.publish idx flags vals) := by
  unfold State.publish
  repeat' first
    | with_reducible assumption
    | exact hp.sub rfl
    | with_reducible first | apply Keeps.wr | apply Keeps.wrAll
    | with_reducible (refine Keeps.mk' hp ?_; first | assumption | apply Keeps.wr | apply Keeps.wrAll)

theorem execLatchClear_keeps (dt : Nat) (m : Fin 17) (k : Fin 1024) (s : State) (hp : Off pt 0x40000534) : ∃ t, (execLatchClear dt m k s) = .next t ∧ Keeps pt (s.pass dt) t := by
  unfold execLatchClear
  exact hostCommand_keeps _ _ _ _ _ _ (hp.sub rfl) (opStore_keeps _ _ (hp.sub rfl))

theorem opClearClasses_keeps (hp : Off pt 0x4) : OpKeeps pt s0 opClearClasses := by
  intro v s h
  unfold opClearClasses
  repeat' first
    | with_reducible assumption
    | exact hp.sub rfl
    | with_reducible first | apply State.clearClasses_keeps

theorem execClearLatchesByClass_keeps (dt : Nat) (m : Fin 17) (mask : Nat) (s : State) (hp : Off pt 0x40000534) : ∃ t, (execClearLatchesByClass dt m mask s) = .next t ∧ Keeps pt (s.pass dt) t := by
  unfold execClearLatchesByClass
  exact hostCommand_keeps _ _ _ _ _ _ (hp.sub rfl) (opClearClasses_keeps (hp.sub rfl))

theorem execRaiseHostEvent_keeps (dt : Nat) (m : Fin 17) (v : BitVec 32) (s : State) (hp : Off pt 0x40000534) : ∃ t, (execRaiseHostEvent dt m v s) = .next t ∧ Keeps pt (s.pass dt) t := by
  unfold execRaiseHostEvent
  exact hostCommand_keeps _ _ _ _ _ _ (hp.sub rfl) (fun _ _ h => opRaiseHost_keeps _ h (hp.sub rfl))

theorem opClearClamps_keeps (hp : Off pt 0x10) : OpKeeps pt s0 opClearClamps := by
  intro v s h
  refine ⟨fun x => ?_, h.pend, h.same.trans ?_⟩
  · have x := h.sound x
    exact ⟨x.1, x.2.1, x.2.2.1, x.2.2.2.1, x.2.2.2.2.1, x.2.2.2.2.2.1, Nat.zero_le _⟩
  · cases pt <;> first | rfl | exact absurd rfl (hp.ne rfl)

theorem execClearClampReport_keeps (dt : Nat) (m : Fin 17) (s : State) (hp : Off pt 0x40000534) : ∃ t, (execClearClampReport dt m s) = .next t ∧ Keeps pt (s.pass dt) t := by
  unfold execClearClampReport
  exact hostCommand_keeps _ _ _ _ _ _ (hp.sub rfl) (opClearClamps_keeps (hp.sub rfl))

end Sys2Proof.Machine
end

