-- ==== Sys2Proof/Laws/KeepsRecipes.lean ====
section
/-!
SUPPORT. The law of `Laws/Keeps.lean` for recipes, energy, shading, the checks, strobes and the position: one lemma per operation and
one per command, which says that the command gives a next state.
-/
set_option Elab.async false
namespace Sys2Proof.Machine

variable {pt : Part} {s0 : State}

/-! ## RecipeData -/

theorem State.updBank_keeps {s : State} (h : Keeps pt s0 s) (hp : Off pt 0x100001000) (b : Nat) (f : Bank → Bank) : Keeps pt s0 (s.updBank b f) := by
  unfold State.updBank
  repeat' first
    | with_reducible assumption
    | exact hp.sub rfl
    | with_reducible first | apply hf
    | with_reducible (refine Keeps.mk' hp ?_; first | assumption | apply hf)

theorem State.setClock_keeps {s : State} (h : Keeps pt s0 s) (hp : Off pt 0xb4) (g : Nat) (e : Nat) : Keeps pt s0 (s.setClock g e) := by
  unfold State.setClock
  repeat' first
    | with_reducible assumption
    | exact hp.sub rfl
    | with_reducible first | apply State.ownClamp_keeps | apply State.updGroup_keeps | apply Keeps.wr | apply Keeps.ite

theorem State.setClocks_keeps {s : State} (h : Keeps pt s0 s) (hp : Off pt 0xb4) (e : Nat) : Keeps pt s0 (s.setClocks e) := by
  unfold State.setClocks
  repeat' first
    | with_reducible assumption
    | exact hp.sub rfl
    | intro _
    | with_reducible first | apply State.setClock_keeps | apply Keeps.wr | apply Keeps.each

theorem State.showRates_keeps {s : State} (h : Keeps pt s0 s) (hp : Off pt 0x4) : Keeps pt s0 (s.showRates) := by
  unfold State.showRates
  repeat' first
    | with_reducible assumption
    | exact hp.sub rfl
    | intro _
    | with_reducible first | apply Keeps.wr | apply Keeps.each

/-! ## Energy -/

theorem State.refreshLamps_keeps {s : State} (h : Keeps pt s0 s) (hp : Off pt 0x4) : Keeps pt s0 (s.refreshLamps) := by
  unfold State.refreshLamps
  repeat' first
    | with_reducible assumption
    | exact hp.sub rfl
    | intro _
    | with_reducible first | apply Keeps.wr | apply Keeps.each | apply Keeps.ite

/-! ## Shading -/

theorem State.segUpdate_keeps {s : State} (h : Keeps pt s0 s) (hp : Off pt 0x24) (g : Nat) : Keeps pt s0 (s.segUpdate g) := by
  unfold State.segUpdate
  repeat' first
    | with_reducible assumption
    | exact hp.sub rfl
    | with_reducible first | apply State.raise1_keeps | apply Keeps.wr | apply Keeps.ite
    | split

theorem State.segsOfTh_keeps {s : State} (h : Keeps pt s0 s) (hp : Off pt 0x24) (k : Nat) : Keeps pt s0 (s.segsOfTh k) := by
  unfold State.segsOfTh
  repeat' first
    | with_reducible assumption
    | exact hp.sub rfl
    | intro _
    | with_reducible first | apply State.segUpdate_keeps | apply Keeps.each | apply Keeps.ite

theorem State.thResult_keeps {s : State} (h : Keeps pt s0 s) (hp : Off pt 0x1024) (q : Nat) (usable : Bool) (milli : Int) : Keeps pt s0 (s.thResult q usable milli) := by
  unfold State.thResult
  repeat' first
    | with_reducible assumption
    | exact hp.sub rfl
    | intro _
    | with_reducible first | apply State.segsOfTh_keeps | apply Keeps.each | apply Keeps.ite
    | with_reducible (refine Keeps.mk' hp ?_; first | assumption | apply State.segsOfTh_keeps | apply Keeps.each | apply Keeps.ite)

theorem State.setBank_keeps {s : State} (h : Keeps pt s0 s) (hp : Off pt 0x4) (b : Nat) (st : Nat) (holder : Nat) : Keeps pt s0 (s.setBank b st holder) := by
  unfold State.setBank
  repeat' first
    | with_reducible assumption
    | exact hp.sub rfl
    | with_reducible first | apply Keeps.wr

theorem State.closeBank_keeps {s : State} (h : Keeps pt s0 s) (hp : Off pt 0x100001004) (b : Nat) : Keeps pt s0 (s.closeBank b).1 := by
  unfold State.closeBank
  repeat' first
    | with_reducible assumption
    | exact hp.sub rfl
    | with_reducible first | apply State.updBank_keeps | apply State.setBank_keeps | apply Keeps.wr | apply Keeps.ite
    | (extract_lets +onlyGivenNames -underBinder a; fail_if_success (have : Keeps pt s0 a := by with_reducible assumption); fail_if_success (have : Keeps pt s0 a.1 := by with_reducible assumption); with_reducible first | refine Keeps.use a ?_ fun _ => ?_ | refine Keeps.use1 a ?_ fun _ => ?_)
    | split

theorem State.doSwap_keeps {s : State} (h : Keeps pt s0 s) (hp : Off pt 0x1024) (t' : Nat) (line : Nat) (recipe : Nat) : Keeps pt s0 (s.doSwap t' line recipe) := by
  unfold State.doSwap
  repeat' first
    | with_reducible assumption
    | exact hp.sub rfl
    | with_reducible first | apply State.raise1_keeps | apply Keeps.wr | apply Keeps.bump
    | with_reducible (refine Keeps.mk' hp ?_; first | assumption | apply State.raise1_keeps | apply Keeps.wr | apply Keeps.bump)

theorem State.swapNow_keeps {s : State} (h : Keeps pt s0 s) (hp : Off pt 0x10a4) (recipe : Nat) : Keeps pt s0 (s.swapNow recipe) := by
  unfold State.swapNow
  repeat' first
    | with_reducible assumption
    | exact hp.sub rfl
    | intro _
    | with_reducible first | apply State.doSwap_keeps | apply State.updGroup_keeps | apply Keeps.each
    | with_reducible (refine Keeps.mk' hp ?_; first | assumption | apply State.doSwap_keeps | apply State.updGroup_keeps | apply Keeps.each)

theorem opSwap_keeps (hp : Off pt 0x10a4) : OpKeeps pt s0 opSwap := by
  intro v s h
  unfold opSwap
  repeat' first
    | with_reducible assumption
    | exact hp.sub rfl
    | with_reducible first | apply State.swapNow_keeps | apply Keeps.wr | apply Keeps.ite
    | (extract_lets +onlyGivenNames -underBinder a; fail_if_success (have : Keeps pt s0 a := by with_reducible assumption); with_reducible first | refine Keeps.use a ?_ fun _ => ?_)
    | with_reducible (refine Keeps.mk' hp ?_; first | assumption | apply State.swapNow_keeps | apply Keeps.wr | apply Keeps.ite)
    | split

theorem execSwapRequest_keeps (dt : Nat) (m : Fin 17) (s : State) (hp : Off pt 0x400015b4) : ∃ t, (execSwapRequest dt m s) = .next t ∧ Keeps pt (s.pass dt) t := by
  unfold execSwapRequest
  exact hostCommand_keeps _ _ _ _ _ _ (hp.sub rfl) (opSwap_keeps (hp.sub rfl))

theorem opCopy_keeps (hp : Off pt 0x1004) : OpKeeps pt s0 opCopy := by
  intro v s h
  unfold opCopy
  repeat' first
    | with_reducible assumption
    | exact hp.sub rfl
    | with_reducible first | apply State.setBank_keeps | apply Keeps.ite
    | (extract_lets +onlyGivenNames -underBinder a; fail_if_success (have : Keeps pt s0 a := by with_reducible assumption); with_reducible first | refine Keeps.use a ?_ fun _ => ?_)
    | with_reducible (refine Keeps.mk' hp ?_; first | assumption | apply State.setBank_keeps | apply Keeps.ite)
    | split

theorem execCopyActiveToShadow_keeps (dt : Nat) (m : Fin 17) (s : State) (hp : Off pt 0x40001534) : ∃ t, (execCopyActiveToShadow dt m s) = .next t ∧ Keeps pt (s.pass dt) t := by
  unfold execCopyActiveToShadow
  exact hostCommand_keeps _ _ _ _ _ _ (hp.sub rfl) (opCopy_keeps (hp.sub rfl))

theorem execCopyComplete_keeps (dt : Nat) (s : State) (hp : Off pt 0x100001004) : ∃ t, (execCopyComplete dt s) = .next t ∧ Keeps pt (s.pass dt) t := by
  unfold execCopyComplete
  refine event_keeps _ _ _ ?_
  repeat' first
    | with_reducible assumption
    | exact hp.sub rfl
    | intro _
    | with_reducible first | apply State.updBank_keeps | apply State.setBank_keeps | apply Keeps.ite
    | with_reducible (refine Keeps.mk' hp ?_; first | assumption | apply State.updBank_keeps | apply State.setBank_keeps | apply Keeps.ite)

theorem opClearShadow_keeps (hp : Off pt 0x100001004) : OpKeeps pt s0 opClearShadow := by
  intro v s h
  unfold opClearShadow
  repeat' first
    | with_reducible assumption
    | exact hp.sub rfl
    | with_reducible first | apply State.updBank_keeps | apply State.setBank_keeps | apply Keeps.ite
    | (extract_lets +onlyGivenNames -underBinder a; fail_if_success (have : Keeps pt s0 a := by with_reducible assumption); with_reducible first | refine Keeps.use a ?_ fun _ => ?_)
    | split

theorem execClearShadow_keeps (dt : Nat) (m : Fin 17) (s : State) (hp : Off pt 0x140001534) : ∃ t, (execClearShadow dt m s) = .next t ∧ Keeps pt (s.pass dt) t := by
  unfold execClearShadow
  exact hostCommand_keeps _ _ _ _ _ _ (hp.sub rfl) (opClearShadow_keeps (hp.sub rfl))

theorem opPlaneScale_keeps (p : Nat) (hp : Off pt 0x100001000) : OpKeeps pt s0 (opPlaneScale p) := by
  intro v s h
  unfold opPlaneScale
  repeat' first
    | with_reducible assumption
    | exact hp.sub rfl
    | with_reducible first | apply State.updBank_keeps | apply Keeps.ite
    | (extract_lets +onlyGivenNames -underBinder a; fail_if_success (have : Keeps pt s0 a := by with_reducible assumption); with_reducible first | refine Keeps.use a ?_ fun _ => ?_)
    | split

theorem execSetActivePlaneScale_keeps (dt : Nat) (m : Fin 17) (p : Fin 4) (v : Nat) (s : State) (hp : Off pt 0x140001534) : ∃ t, (execSetActivePlaneScale dt m p v s) = .next t ∧ Keeps pt (s.pass dt) t := by
  unfold execSetActivePlaneScale
  exact hostCommand_keeps _ _ _ _ _ _ (hp.sub rfl) (opPlaneScale_keeps _ (hp.sub rfl))

theorem State.matchAtEntry_keeps {s : State} (h : Keeps pt s0 s) (hp : Off pt 0x24) : Keeps pt s0 (s.matchAtEntry) := by
  unfold State.matchAtEntry
  repeat' first
    | with_reducible assumption
    | exact hp.sub rfl
    | with_reducible first | apply State.raiseIf_keeps | apply Keeps.wr

/-! ## Check -/

theorem State.showBasisFree_keeps {s : State} (h : Keeps pt s0 s) (hp : Off pt 0x4) : Keeps pt s0 (s.showBasisFree) := by
  unfold State.showBasisFree
  repeat' first
    | with_reducible assumption
    | exact hp.sub rfl
    | with_reducible first | apply Keeps.wr

theorem State.report_keeps {s : State} (h : Keeps pt s0 s) (hp : Off pt 0x4) (c : CheckResult) : Keeps pt s0 (s.report c) := by
  unfold State.report
  repeat' first
    | with_reducible assumption
    | exact hp.sub rfl
    | with_reducible first | apply Keeps.wrAll

theorem State.recheck_keeps {s : State} (h : Keeps pt s0 s) (hp : Off pt 0x24) (num : Nat) : Keeps pt s0 (s.recheck num) := by
  unfold State.recheck
  repeat' first
    | with_reducible assumption
    | exact hp.sub rfl
    | with_reducible first | apply State.raiseIf_keeps | apply Keeps.wr | apply Keeps.ite

theorem State.combinationCheck_keeps {s : State} (h : Keeps pt s0 s) (hp : Off pt 0x24) : Keeps pt s0 (s.combinationCheck).1 := by
  unfold State.combinationCheck
  repeat' first
    | with_reducible assumption
    | exact hp.sub rfl
    | intro _
    | with_reducible first | apply State.report_keeps | apply State.recheck_keeps | apply Keeps.each | apply Keeps.ite
    | (extract_lets +onlyGivenNames -underBinder a; fail_if_success (have : Keeps pt s0 a := by with_reducible assumption); fail_if_success (have : Keeps pt s0 a.1 := by with_reducible assumption); with_reducible first | refine Keeps.use a ?_ fun _ => ?_ | refine Keeps.use1 a ?_ fun _ => ?_)
    | split

/-! ## Recipes -/

theorem State.holdShadow_keeps {s : State} (h : Keeps pt s0 s) (hp : Off pt 0x4) (h' : Nat) : Keeps pt s0 (s.holdShadow h') := by
  unfold State.holdShadow
  repeat' first
    | with_reducible assumption
    | exact hp.sub rfl
    | with_reducible first | apply Keeps.wr

theorem State.spoilShadow_keeps {s : State} (h : Keeps pt s0 s) (hp : Off pt 0x4) : Keeps pt s0 (s.spoilShadow) := by
  unfold State.spoilShadow
  repeat' first
    | with_reducible assumption
    | exact hp.sub rfl
    | with_reducible first | apply State.setBank_keeps

theorem State.setBasis_keeps {s : State} (h : Keeps pt s0 s) (hp : Off pt 0x4) (k : Nat) (st : Nat) : Keeps pt s0 (s.setBasis k st) := by
  unfold State.setBasis
  repeat' first
    | with_reducible assumption
    | exact hp.sub rfl
    | with_reducible first | apply Keeps.wr

theorem State.updBasis_keeps {s : State} (h : Keeps pt s0 s) (hp : Off pt 0x200002000) (k : Nat) (f : Basis → Basis) : Keeps pt s0 (s.updBasis k f) := by
  unfold State.updBasis
  repeat' first
    | with_reducible assumption
    | exact hp.sub rfl
    | with_reducible first | apply hf
    | with_reducible (refine Keeps.mk' hp ?_; first | assumption | apply hf)

theorem State.takeBasis_keeps {s : State} (h : Keeps pt s0 s) (hp : Off pt 0x200002004) (k : Nat) (b : List Byte) : Keeps pt s0 (s.takeBasis k b) := by
  unfold State.takeBasis
  repeat' first
    | with_reducible assumption
    | exact hp.sub rfl
    | with_reducible first | apply State.showBasisFree_keeps | apply State.setBasis_keeps | apply State.updBasis_keeps | apply Keeps.wr

theorem State.closeBasis_keeps {s : State} (h : Keeps pt s0 s) (hp : Off pt 0x200002004) (k : Nat) (b : List Byte) : Keeps pt s0 (s.closeBasis k b).1 := by
  unfold State.closeBasis
  repeat' first
    | with_reducible assumption
    | exact hp.sub rfl
    | with_reducible first | apply State.takeBasis_keeps | apply Keeps.wr | apply Keeps.ite
    | (extract_lets +onlyGivenNames -underBinder a; fail_if_success (have : Keeps pt s0 a := by with_reducible assumption); with_reducible first | refine Keeps.use a ?_ fun _ => ?_)
    | split

theorem execBasisNorWriteDone_keeps (dt : Nat) (k : Fin 8) (s : State) (hp : Off pt 0x200002004) : ∃ t, (execBasisNorWriteDone dt k s) = .next t ∧ Keeps pt (s.pass dt) t := by
  unfold execBasisNorWriteDone
  refine event_keeps _ _ _ ?_
  repeat' first
    | with_reducible assumption
    | exact hp.sub rfl
    | intro _
    | with_reducible first | apply State.showBasisFree_keeps | apply State.setBasis_keeps | apply State.updBasis_keeps

theorem State.setArmed_keeps {s : State} (h : Keeps pt s0 s) (hp : Off pt 0x2000) (a : Option Armed) : Keeps pt s0 (s.setArmed a) := by
  unfold State.setArmed
  repeat' first
    | with_reducible assumption
    | exact hp.sub rfl
    | with_reducible (refine Keeps.mk' hp ?_; first | assumption)

theorem State.switchStatus_keeps {s : State} (h : Keeps pt s0 s) (hp : Off pt 0x4) (v : Nat) : Keeps pt s0 (s.switchStatus v) := by
  unfold State.switchStatus
  repeat' first
    | with_reducible assumption
    | exact hp.sub rfl
    | with_reducible first | apply Keeps.wr

theorem State.dropArmed_keeps {s : State} (h : Keeps pt s0 s) (hp : Off pt 0x2024) (status : Nat) (result : Nat) : Keeps pt s0 (s.dropArmed status result) := by
  unfold State.dropArmed
  repeat' first
    | with_reducible assumption
    | exact hp.sub rfl
    | with_reducible first | apply State.switchStatus_keeps | apply State.setArmed_keeps | apply State.raise1_keeps | apply State.spoilShadow_keeps | apply State.holdShadow_keeps | apply Keeps.wr | apply Keeps.ite
    | split

theorem State.cancelArmed_keeps {s : State} (h : Keeps pt s0 s) (hp : Off pt 0x2024) : Keeps pt s0 (s.cancelArmed) := by
  unfold State.cancelArmed
  repeat' first
    | with_reducible assumption
    | exact hp.sub rfl
    | with_reducible first | apply State.dropArmed_keeps | apply State.raise1_keeps | apply State.spoilShadow_keeps | apply Keeps.ite
    | split

theorem State.fatalArmed_keeps {s : State} (h : Keeps pt s0 s) (hp : Off pt 0x2024) : Keeps pt s0 (s.fatalArmed) := by
  unfold State.fatalArmed
  repeat' first
    | with_reducible assumption
    | exact hp.sub rfl
    | with_reducible first | apply State.raise1_keeps | apply State.dropArmed_keeps
    | split

theorem State.loseArmedBasis_keeps {s : State} (h : Keeps pt s0 s) (hp : Off pt 0x2024) (k : Nat) : Keeps pt s0 (s.loseArmedBasis k) := by
  unfold State.loseArmedBasis
  repeat' first
    | with_reducible assumption
    | exact hp.sub rfl
    | with_reducible first | apply State.dropArmed_keeps | apply State.raise1_keeps | apply Keeps.wr | apply Keeps.ite
    | split

theorem execBasisSetLoadDone_keeps (dt : Nat) (k : Fin 8) (good : Bool) (s : State) (hp : Off pt 0x200002024) : ∃ t, (execBasisSetLoadDone dt k good s) = .next t ∧ Keeps pt (s.pass dt) t := by
  unfold execBasisSetLoadDone
  refine event_keeps _ _ _ ?_
  repeat' first
    | with_reducible assumption
    | exact hp.sub rfl
    | intro _
    | with_reducible first | apply State.setBasis_keeps | apply State.updBasis_keeps | apply State.showBasisFree_keeps | apply State.loseArmedBasis_keeps | apply State.raise1_keeps | apply Keeps.wr | apply Keeps.ite

theorem State.beginArm_keeps {s : State} (h : Keeps pt s0 s) (hp : Off pt 0xa004) (a : Armed) : Keeps pt s0 (s.beginArm a) := by
  unfold State.beginArm
  repeat' first
    | with_reducible assumption
    | exact hp.sub rfl
    | with_reducible first | apply State.holdShadow_keeps | apply State.switchStatus_keeps | apply State.setArmed_keeps
    | with_reducible (refine Keeps.mk' hp ?_; first | assumption | apply State.holdShadow_keeps | apply State.switchStatus_keeps | apply State.setArmed_keeps)

theorem opArm_keeps (hp : Off pt 0xa004) : OpKeeps pt s0 opArm := by
  intro v s h
  unfold opArm
  repeat' first
    | with_reducible assumption
    | exact hp.sub rfl
    | with_reducible first | apply State.report_keeps | apply State.beginArm_keeps | apply Keeps.ite
    | (extract_lets +onlyGivenNames -underBinder a; fail_if_success (have : Keeps pt s0 a := by with_reducible assumption); with_reducible first | refine Keeps.use a ?_ fun _ => ?_)
    | split

theorem execArmSwitch_keeps (dt : Nat) (m : Fin 17) (s : State) (hp : Off pt 0x4000a534) : ∃ t, (execArmSwitch dt m s) = .next t ∧ Keeps pt (s.pass dt) t := by
  unfold execArmSwitch
  exact hostCommand_keeps _ _ _ _ _ _ (hp.sub rfl) (opArm_keeps (hp.sub rfl))

theorem opDisarm_keeps (hp : Off pt 0x2024) : OpKeeps pt s0 opDisarm := by
  intro v s h
  unfold opDisarm
  repeat' first
    | with_reducible assumption
    | exact hp.sub rfl
    | with_reducible first | apply State.dropArmed_keeps | apply State.spoilShadow_keeps | apply Keeps.ite
    | split

theorem execDisarmSwitch_keeps (dt : Nat) (m : Fin 17) (s : State) (hp : Off pt 0x40002534) : ∃ t, (execDisarmSwitch dt m s) = .next t ∧ Keeps pt (s.pass dt) t := by
  unfold execDisarmSwitch
  exact hostCommand_keeps _ _ _ _ _ _ (hp.sub rfl) (opDisarm_keeps (hp.sub rfl))

theorem State.condition_keeps {s : State} (h : Keeps pt s0 s) (hp : Off pt 0x2024) (t' : Nat) : Keeps pt s0 (s.condition t') := by
  unfold State.condition
  repeat' first
    | with_reducible assumption
    | exact hp.sub rfl
    | with_reducible first | apply State.setArmed_keeps | apply State.raise1_keeps | apply State.switchStatus_keeps | apply Keeps.ite
    | split

theorem opSwitchNow_keeps (hp : Off pt 0x2024) : OpKeeps pt s0 opSwitchNow := by
  intro v s h
  unfold opSwitchNow
  repeat' first
    | with_reducible assumption
    | exact hp.sub rfl
    | with_reducible first | apply State.condition_keeps | apply Keeps.ite
    | split

theorem execSwitchNow_keeps (dt : Nat) (m : Fin 17) (s : State) (hp : Off pt 0x40002534) : ∃ t, (execSwitchNow dt m s) = .next t ∧ Keeps pt (s.pass dt) t := by
  unfold execSwitchNow
  exact hostCommand_keeps _ _ _ _ _ _ (hp.sub rfl) (opSwitchNow_keeps (hp.sub rfl))

theorem State.unmatchedJob_keeps {s : State} (h : Keeps pt s0 s) (hp : Off pt 0x24) : Keeps pt s0 (s.unmatchedJob) := by
  unfold State.unmatchedJob
  repeat' first
    | with_reducible assumption
    | exact hp.sub rfl
    | with_reducible first | apply State.raise1_keeps | apply Keeps.bump

theorem State.jobCommitted_keeps {s : State} (h : Keeps pt s0 s) (hp : Off pt 0x2024) (job : Nat) : Keeps pt s0 (s.jobCommitted job) := by
  unfold State.jobCommitted
  repeat' first
    | with_reducible assumption
    | exact hp.sub rfl
    | with_reducible first | apply State.condition_keeps | apply State.unmatchedJob_keeps | apply Keeps.ite
    | with_reducible (refine Keeps.mk' hp ?_; first | assumption | apply State.condition_keeps | apply State.unmatchedJob_keeps | apply Keeps.ite)
    | split

theorem State.jobByCasby_keeps {s : State} (h : Keeps pt s0 s) (hp : Off pt 0x2024) (job : Nat) (trig : Nat) : Keeps pt s0 (s.jobByCasby job trig) := by
  unfold State.jobByCasby
  repeat' first
    | with_reducible assumption
    | exact hp.sub rfl
    | with_reducible first | apply State.unmatchedJob_keeps | apply State.condition_keeps | apply State.setArmed_keeps | apply Keeps.ite
    | (extract_lets +onlyGivenNames -underBinder a; fail_if_success (have : Keeps pt s0 a := by with_reducible assumption); with_reducible first | refine Keeps.use a ?_ fun _ => ?_)
    | split

theorem State.switchTrigger_keeps {s : State} (h : Keeps pt s0 s) (hp : Off pt 0x2024) (t' : Nat) (line : Nat) (rep : Nat) (pos : Int) (num : Option Nat) : Keeps pt s0 (s.switchTrigger t' line rep pos num) := by
  unfold State.switchTrigger
  repeat' first
    | with_reducible assumption
    | exact hp.sub rfl
    | with_reducible first | apply State.condition_keeps | apply State.setArmed_keeps | apply Keeps.ite
    | (extract_lets +onlyGivenNames -underBinder a; fail_if_success (have : Keeps pt s0 a := by with_reducible assumption); with_reducible first | refine Keeps.use a ?_ fun _ => ?_)
    | split

theorem State.swapTrigger_keeps {s : State} (h : Keeps pt s0 s) (hp : Off pt 0x1024) (t' : Nat) (line : Nat) : Keeps pt s0 (s.swapTrigger t' line) := by
  unfold State.swapTrigger
  repeat' first
    | with_reducible assumption
    | exact hp.sub rfl
    | with_reducible first | apply State.doSwap_keeps | apply Keeps.ite
    | split

theorem State.showGrid_keeps {s : State} (h : Keeps pt s0 s) (hp : Off pt 0x4) : Keeps pt s0 (s.showGrid) := by
  unfold State.showGrid
  repeat' first
    | with_reducible assumption
    | exact hp.sub rfl
    | with_reducible first | apply Keeps.wr

theorem State.makeSwitch_keeps {s : State} (h : Keeps pt s0 s) (hp : Off pt 0x830a4) (a : Armed) (trig : Option (Nat × Nat × Int)) : Keeps pt s0 (s.makeSwitch a trig) := by
  unfold State.makeSwitch
  repeat' first
    | with_reducible assumption
    | exact hp.sub rfl
    | with_reducible first | apply State.setArmed_keeps | apply State.swapNow_keeps | apply State.doSwap_keeps | apply State.showGrid_keeps | apply State.switchStatus_keeps | apply State.raise1_keeps | apply Keeps.wr | apply Keeps.bump | apply Keeps.ite
    | with_reducible (refine Keeps.mk' hp ?_; first | assumption | apply State.setArmed_keeps | apply State.swapNow_keeps | apply State.doSwap_keeps | apply State.showGrid_keeps | apply State.switchStatus_keeps | apply State.raise1_keeps | apply Keeps.wr | apply Keeps.bump | apply Keeps.ite)
    | split

theorem State.settleSwitch_keeps {s : State} (h : Keeps pt s0 s) (hp : Off pt 0x830a4) : Keeps pt s0 (s.settleSwitch) := by
  unfold State.settleSwitch
  repeat' first
    | with_reducible assumption
    | exact hp.sub rfl
    | with_reducible first | apply State.makeSwitch_keeps | apply Keeps.ite
    | split

theorem execRecipeSwitch_keeps (dt : Nat) (s : State) (hp : Off pt 0x830a4) : ∃ t, (execRecipeSwitch dt s) = .next t ∧ Keeps pt (s.pass dt) t := by
  unfold execRecipeSwitch
  refine event_keeps _ _ _ ?_
  repeat' first
    | with_reducible assumption
    | exact hp.sub rfl
    | intro _
    | with_reducible first | apply State.settleSwitch_keeps

theorem State.switchAtStandby_keeps {s : State} (h : Keeps pt s0 s) (hp : Off pt 0x830a4) : Keeps pt s0 (s.switchAtStandby) := by
  unfold State.switchAtStandby
  repeat' first
    | with_reducible assumption
    | exact hp.sub rfl
    | with_reducible first | apply State.makeSwitch_keeps | apply Keeps.ite
    | split

theorem execBlendStart_keeps (dt : Nat) (s : State) (hp : Off pt 0xa004) : ∃ t, (execBlendStart dt s) = .next t ∧ Keeps pt (s.pass dt) t := by
  unfold execBlendStart
  refine event_keeps _ _ _ ?_
  repeat' first
    | with_reducible assumption
    | exact hp.sub rfl
    | intro _
    | with_reducible first | apply State.setBank_keeps | apply State.setArmed_keeps | apply State.switchStatus_keeps | apply Keeps.ite
    | with_reducible (refine Keeps.mk' hp ?_; first | assumption | apply State.setBank_keeps | apply State.setArmed_keeps | apply State.switchStatus_keeps | apply Keeps.ite)
    | split

theorem execBlendComplete_keeps (dt : Nat) (s : State) (hp : Off pt 0x100003024) : ∃ t, (execBlendComplete dt s) = .next t ∧ Keeps pt (s.pass dt) t := by
  unfold execBlendComplete
  refine event_keeps _ _ _ ?_
  repeat' first
    | with_reducible assumption
    | exact hp.sub rfl
    | intro _
    | with_reducible first | apply State.dropArmed_keeps | apply State.setBank_keeps | apply State.updBank_keeps | apply State.setArmed_keeps | apply State.switchStatus_keeps | apply Keeps.wr | apply Keeps.ite
    | (extract_lets +onlyGivenNames -underBinder a; fail_if_success (have : Keeps pt s0 a := by with_reducible assumption); with_reducible first | refine Keeps.use a ?_ fun _ => ?_)
    | split

theorem execStartupBuild_keeps (dt : Nat) (s : State) (hp : Off pt 0xa004) : ∃ t, (execStartupBuild dt s) = .next t ∧ Keeps pt (s.pass dt) t := by
  unfold execStartupBuild
  refine event_keeps _ _ _ ?_
  repeat' first
    | with_reducible assumption
    | exact hp.sub rfl
    | intro _
    | with_reducible first | apply State.beginArm_keeps
    | with_reducible (refine Keeps.mk' hp ?_; first | assumption | apply State.beginArm_keeps)

theorem State.closeRecipe_keeps {s : State} (h : Keeps pt s0 s) (hp : Off pt 0x2004) (r : Nat) (b : List Byte) : Keeps pt s0 (s.closeRecipe r b).1 := by
  unfold State.closeRecipe
  repeat' first
    | with_reducible assumption
    | exact hp.sub rfl
    | with_reducible first | apply State.report_keeps | apply Keeps.wr | apply Keeps.ite
    | (extract_lets +onlyGivenNames -underBinder a; fail_if_success (have : Keeps pt s0 a := by with_reducible assumption); fail_if_success (have : Keeps pt s0 a.1 := by with_reducible assumption); with_reducible first | refine Keeps.use a ?_ fun _ => ?_ | refine Keeps.use1 a ?_ fun _ => ?_)
    | with_reducible (refine Keeps.mk' hp ?_; first | assumption | apply State.report_keeps | apply Keeps.wr | apply Keeps.ite)
    | split

theorem execRecipeNorWriteDone_keeps (dt : Nat) (r : Fin 32) (s : State) (hp : Off pt 0x2004) : ∃ t, (execRecipeNorWriteDone dt r s) = .next t ∧ Keeps pt (s.pass dt) t := by
  unfold execRecipeNorWriteDone
  refine event_keeps _ _ _ ?_
  repeat' first
    | with_reducible assumption
    | exact hp.sub rfl
    | intro _
    | with_reducible first | apply Keeps.wr | apply Keeps.ite
    | with_reducible (refine Keeps.mk' hp ?_; first | assumption | apply Keeps.wr | apply Keeps.ite)

/-! ## Strobes -/

theorem State.updLamp_keeps {s : State} (h : Keeps pt s0 s) (hp : Off pt 0x4000) (j : Nat) (f : LampGroup → LampGroup) : Keeps pt s0 (s.updLamp j f) := by
  unfold State.updLamp
  repeat' first
    | with_reducible assumption
    | exact hp.sub rfl
    | with_reducible first | apply hf
    | with_reducible (refine Keeps.mk' hp ?_; first | assumption | apply hf)

theorem State.deratingAt_keeps {s : State} (h : Keeps pt s0 s) (hp : Off pt 0x24) (j : Nat) : Keeps pt s0 (s.deratingAt j) := by
  unfold State.deratingAt
  repeat' first
    | with_reducible assumption
    | exact hp.sub rfl
    | with_reducible first | apply State.raise1_keeps | apply Keeps.wr | apply Keeps.ite

theorem State.placeStrobes_keeps {s : State} (h : Keeps pt s0 s) (hp : Off pt 0x24) (g : Nat) (r : Nat) (p : Nat) : Keeps pt s0 (s.placeStrobes g r p) := by
  unfold State.placeStrobes
  repeat' first
    | with_reducible assumption
    | exact hp.sub rfl
    | intro _
    | with_reducible first | apply State.deratingAt_keeps | apply Keeps.bump | apply Keeps.eachOf | apply Keeps.ite

/-! ## Position -/

theorem State.addEdge_keeps {s : State} (h : Keeps pt s0 s) (hp : Off pt 0x200000) (t' : Nat) (p : Int) : Keeps pt s0 (s.addEdge t' p) := by
  unfold State.addEdge
  repeat' first
    | with_reducible assumption
    | exact hp.sub rfl
    | with_reducible first | apply Keeps.ite
    | with_reducible (refine Keeps.mk' hp ?_; first | assumption | apply Keeps.ite)

end Sys2Proof.Machine
end

