-- ==== Sys2Proof/Laws/KeepsSensing.lean ====
section
/-!
SUPPORT. The law of `Laws/Keeps.lean` for the timing groups, the lamps, the auxiliary inputs, Lantern and the front ends: one lemma per operation and
one per command, which says that the command gives a next state.
-/
set_option Elab.async false
namespace Sys2Proof.Machine

variable {pt : Part} {s0 : State}

/-! ## CasbyFrame -/

theorem State.putFrame_keeps {s : State} (h : Keeps pt s0 s) (hp : Off pt 0x400000) (f : Frame) : Keeps pt s0 (s.putFrame f) := by
  unfold State.putFrame
  repeat' first
    | with_reducible assumption
    | exact hp.sub rfl
    | with_reducible (refine Keeps.mk' hp ?_; first | assumption)

theorem State.sendFrame_keeps {s : State} (h : Keeps pt s0 s) (hp : Off pt 0x400000) (type_ : Nat) (payload : List Byte) : Keeps pt s0 (s.sendFrame type_ payload) := by
  unfold State.sendFrame
  repeat' first
    | with_reducible assumption
    | exact hp.sub rfl
    | with_reducible first | apply State.putFrame_keeps | apply Keeps.ite
    | with_reducible (refine Keeps.mk' hp ?_; first | assumption | apply State.putFrame_keeps | apply Keeps.ite)

theorem State.casbySample_keeps {s : State} (h : Keeps pt s0 s) (hp : Off pt 0x200000) (t' : Nat) (p : Int) : Keeps pt s0 (s.casbySample t' p) := by
  unfold State.casbySample
  repeat' first
    | with_reducible assumption
    | exact hp.sub rfl
    | with_reducible first | apply State.addEdge_keeps | apply Keeps.ite
    | with_reducible (refine Keeps.mk' hp ?_; first | assumption | apply State.addEdge_keeps | apply Keeps.ite)

theorem State.sendJobFrame_keeps {s : State} (h : Keeps pt s0 s) (hp : Off pt 0x400000) (job : Nat) (num : Nat) : Keeps pt s0 (s.sendJobFrame job num) := by
  unfold State.sendJobFrame
  repeat' first
    | with_reducible assumption
    | exact hp.sub rfl
    | with_reducible first | apply State.sendFrame_keeps

theorem State.sendTriggerFrame_keeps {s : State} (h : Keeps pt s0 s) (hp : Off pt 0x600000) (t' : Nat) (p : Int) : Keeps pt s0 (s.sendTriggerFrame t' p) := by
  unfold State.sendTriggerFrame
  repeat' first
    | with_reducible assumption
    | exact hp.sub rfl
    | with_reducible first | apply State.sendFrame_keeps | apply State.casbySample_keeps | apply Keeps.ite
    | with_reducible (refine Keeps.mk' hp ?_; first | assumption | apply State.sendFrame_keeps | apply State.casbySample_keeps | apply Keeps.ite)

/-! ## Timing -/

theorem State.serviceChange_keeps {s : State} (h : Keeps pt s0 s) (hp : Off pt 0x24) (n : Nat) (st : Nat) : Keeps pt s0 (s.serviceChange n st) := by
  unfold State.serviceChange
  repeat' first
    | with_reducible assumption
    | exact hp.sub rfl
    | with_reducible first | apply State.raise1_keeps | apply Keeps.wr | apply Keeps.bump

theorem State.freezeSeams_keeps {s : State} (h : Keeps pt s0 s) (hp : Off pt 0x100000) (n : Nat) : Keeps pt s0 (s.freezeSeams n) := by
  unfold State.freezeSeams
  repeat' first
    | with_reducible assumption
    | exact hp.sub rfl
    | with_reducible first | apply Keeps.foldl
    | with_reducible (refine Keeps.mk' hp ?_; first | assumption | apply Keeps.foldl)

theorem State.leave_keeps {s : State} (h : Keeps pt s0 s) (hp : Off pt 0x800000a4) (n : Nat) : Keeps pt s0 (s.leave n) := by
  unfold State.leave
  repeat' first
    | with_reducible assumption
    | exact hp.sub rfl
    | with_reducible first | apply State.updService_keeps | apply State.serviceChange_keeps

theorem State.lose_keeps {s : State} (h : Keeps pt s0 s) (hp : Off pt 0x80000084) (n : Nat) : Keeps pt s0 (s.lose n) := by
  unfold State.lose
  repeat' first
    | with_reducible assumption
    | exact hp.sub rfl
    | with_reducible first | apply State.updService_keeps | apply Keeps.wr

theorem State.reenter_keeps {s : State} (h : Keeps pt s0 s) (hp : Off pt 0x801000a4) (n : Nat) : Keeps pt s0 (s.reenter n) := by
  unfold State.reenter
  repeat' first
    | with_reducible assumption
    | exact hp.sub rfl
    | with_reducible first | apply State.freezeSeams_keeps | apply State.updService_keeps | apply State.serviceChange_keeps

theorem State.settleService_keeps {s : State} (h : Keeps pt s0 s) (hp : Off pt 0x801000a4) (n : Nat) : Keeps pt s0 (s.settleService n) := by
  unfold State.settleService
  repeat' first
    | with_reducible assumption
    | exact hp.sub rfl
    | with_reducible first | apply State.leave_keeps | apply State.lose_keeps | apply State.reenter_keeps | apply Keeps.wr | apply Keeps.ite

theorem State.requestedService_keeps {s : State} (h : Keeps pt s0 s) (hp : Off pt 0x80000084) : Keeps pt s0 (s.requestedService) := by
  unfold State.requestedService
  repeat' first
    | with_reducible assumption
    | exact hp.sub rfl
    | intro _
    | with_reducible first | apply State.updService_keeps | apply Keeps.wr | apply Keeps.each

theorem execChannelLeavesService_keeps (dt : Nat) (n : Fin 64) (s : State) (hp : Off pt 0x800000a4) : ∃ t, (execChannelLeavesService dt n s) = .next t ∧ Keeps pt (s.pass dt) t := by
  unfold execChannelLeavesService
  refine event_keeps _ _ _ ?_
  repeat' first
    | with_reducible assumption
    | exact hp.sub rfl
    | intro _
    | with_reducible first | apply State.leave_keeps

theorem execChannelSignalLost_keeps (dt : Nat) (n : Fin 64) (s : State) (hp : Off pt 0x80000084) : ∃ t, (execChannelSignalLost dt n s) = .next t ∧ Keeps pt (s.pass dt) t := by
  unfold execChannelSignalLost
  refine event_keeps _ _ _ ?_
  repeat' first
    | with_reducible assumption
    | exact hp.sub rfl
    | intro _
    | with_reducible first | apply State.lose_keeps

theorem execChannelReentry_keeps (dt : Nat) (n : Fin 64) (s : State) (hp : Off pt 0x801000a4) : ∃ t, (execChannelReentry dt n s) = .next t ∧ Keeps pt (s.pass dt) t := by
  unfold execChannelReentry
  refine event_keeps _ _ _ ?_
  repeat' first
    | with_reducible assumption
    | exact hp.sub rfl
    | intro _
    | with_reducible first | apply State.reenter_keeps

theorem execWarmingEnd_keeps (dt : Nat) (n : Fin 64) (s : State) (hp : Off pt 0x4) : ∃ t, (execWarmingEnd dt n s) = .next t ∧ Keeps pt (s.pass dt) t := by
  unfold execWarmingEnd
  refine event_keeps _ _ _ ?_
  repeat' first
    | with_reducible assumption
    | exact hp.sub rfl
    | intro _
    | with_reducible first | apply Keeps.wr

theorem opService_keeps (n : Nat) (hp : Off pt 0x800000a4) : OpKeeps pt s0 (opService n) := by
  intro v s h
  unfold opService
  repeat' first
    | with_reducible assumption
    | exact hp.sub rfl
    | with_reducible first | apply State.leave_keeps | apply State.updService_keeps | apply Keeps.wr | apply Keeps.ite
    | (extract_lets +onlyGivenNames -underBinder a; fail_if_success (have : Keeps pt s0 a := by with_reducible assumption); with_reducible first | refine Keeps.use a ?_ fun _ => ?_)
    | split

theorem execServiceRequestOut_keeps (dt : Nat) (m : Fin 17) (n : Fin 64) (s : State) (hp : Off pt 0xc00005b4) : ∃ t, (execServiceRequestOut dt m n s) = .next t ∧ Keeps pt (s.pass dt) t := by
  unfold execServiceRequestOut
  exact hostCommand_keeps _ _ _ _ _ _ (hp.sub rfl) (opService_keeps _ (hp.sub rfl))

theorem execServiceRequestReturn_keeps (dt : Nat) (m : Fin 17) (n : Fin 64) (s : State) (hp : Off pt 0xc00005b4) : ∃ t, (execServiceRequestReturn dt m n s) = .next t ∧ Keeps pt (s.pass dt) t := by
  unfold execServiceRequestReturn
  exact hostCommand_keeps _ _ _ _ _ _ (hp.sub rfl) (opService_keeps _ (hp.sub rfl))

theorem State.adopt_keeps {s : State} (h : Keeps pt s0 s) (hp : Off pt 0x80) (g : Nat) (line : Nat) : Keeps pt s0 (s.adopt g line) := by
  unfold State.adopt
  repeat' first
    | with_reducible assumption
    | exact hp.sub rfl
    | with_reducible first | apply State.updGroup_keeps | apply Keeps.ite
    | split

theorem State.frontEndStart_keeps {s : State} (h : Keeps pt s0 s) (hp : Off pt 0x804) (n : Nat) : Keeps pt s0 (s.frontEndStart n) := by
  unfold State.frontEndStart
  repeat' first
    | with_reducible assumption
    | exact hp.sub rfl
    | with_reducible first | apply Keeps.wr | apply Keeps.ite
    | with_reducible (refine Keeps.mk' hp ?_; first | assumption | apply Keeps.wr | apply Keeps.ite)

theorem State.readStart_keeps {s : State} (h : Keeps pt s0 s) (hp : Off pt 0x800) (n : Nat) (c : Cycle) (pix : Option (Nat × Nat)) : Keeps pt s0 (s.readStart n c pix) := by
  unfold State.readStart
  repeat' first
    | with_reducible assumption
    | exact hp.sub rfl
    | with_reducible (refine Keeps.mk' hp ?_; first | assumption)

theorem State.logExposure_keeps {s : State} (h : Keeps pt s0 s) (hp : Off pt 0x84) (g : Nat) (c : Cycle) : Keeps pt s0 (s.logExposure g c) := by
  unfold State.logExposure
  repeat' first
    | with_reducible assumption
    | exact hp.sub rfl
    | with_reducible first | apply State.updGroup_keeps | apply Keeps.bump

theorem State.updExpo_keeps {s : State} (h : Keeps pt s0 s) (hp : Off pt 0x100000) (g : Nat) (line : Nat) (plane : Nat) (f : Expo → Expo) : Keeps pt s0 (s.updExpo g line plane f) := by
  unfold State.updExpo
  repeat' first
    | with_reducible assumption
    | exact hp.sub rfl
    | with_reducible first | apply hf | apply Keeps.ite
    | with_reducible (refine Keeps.mk' hp ?_; first | assumption | apply hf | apply Keeps.ite)

theorem State.addExpo_keeps {s : State} (h : Keeps pt s0 s) (hp : Off pt 0x100000) (g : Nat) (c : Cycle) : Keeps pt s0 (s.addExpo g c) := by
  unfold State.addExpo
  repeat' first
    | with_reducible assumption
    | exact hp.sub rfl
    | with_reducible (refine Keeps.mk' hp ?_; first | assumption)

theorem State.sumTemps_keeps {s : State} (h : Keeps pt s0 s) (hp : Off pt 0x3000) (g : Nat) : Keeps pt s0 (s.sumTemps g) := by
  unfold State.sumTemps
  repeat' first
    | with_reducible assumption
    | exact hp.sub rfl
    | intro _
    | with_reducible first | apply Keeps.eachOf | apply Keeps.ite
    | with_reducible (refine Keeps.mk' hp ?_; first | assumption | apply Keeps.eachOf | apply Keeps.ite)
    | split

theorem State.startCycle_keeps {s : State} (h : Keeps pt s0 s) (hp : Off pt 0x801838a4) (g : Nat) (t' : Trig) (late : Bool) : Keeps pt s0 (s.startCycle g t' late) := by
  unfold State.startCycle
  repeat' first
    | with_reducible assumption
    | exact hp.sub rfl
    | intro _
    | with_reducible first | apply State.adopt_keeps | apply State.settleSwitch_keeps | apply State.updGroup_keeps | apply State.placeStrobes_keeps | apply State.logExposure_keeps | apply State.readStart_keeps | apply State.frontEndStart_keeps | apply State.updService_keeps | apply State.addExpo_keeps | apply State.sumTemps_keeps | apply Keeps.eachOf | apply Keeps.ite

theorem State.endCycle_keeps {s : State} (h : Keeps pt s0 s) (hp : Off pt 0x801838a4) (g : Nat) : Keeps pt s0 (s.endCycle g) := by
  unfold State.endCycle
  repeat' first
    | with_reducible assumption
    | exact hp.sub rfl
    | with_reducible first | apply State.updGroup_keeps | apply State.startCycle_keeps | apply Keeps.ite
    | (extract_lets +onlyGivenNames -underBinder a; fail_if_success (have : Keeps pt s0 a := by with_reducible assumption); with_reducible first | refine Keeps.use a ?_ fun _ => ?_)
    | split

theorem State.dropTrigger_keeps {s : State} (h : Keeps pt s0 s) (hp : Off pt 0xa4) (g : Nat) : Keeps pt s0 (s.dropTrigger g) := by
  unfold State.dropTrigger
  repeat' first
    | with_reducible assumption
    | exact hp.sub rfl
    | intro _
    | with_reducible first | apply State.raise1_keeps | apply State.updGroup_keeps | apply Keeps.bump | apply Keeps.eachOf

theorem State.deliver_keeps {s : State} (h : Keeps pt s0 s) (hp : Off pt 0xa4) (g : Nat) (t' : Trig) : Keeps pt s0 (s.deliver g t') := by
  unfold State.deliver
  repeat' first
    | with_reducible assumption
    | exact hp.sub rfl
    | with_reducible first | apply State.updGroup_keeps | apply State.dropTrigger_keeps | apply Keeps.bump | apply Keeps.ite

theorem State.numberTrigger_keeps {s : State} (h : Keeps pt s0 s) (hp : Off pt 0x84) (switchHere : Bool) (planes : Nat) : Keeps pt s0 (s.numberTrigger switchHere planes).1 := by
  unfold State.numberTrigger
  repeat' first
    | with_reducible assumption
    | exact hp.sub rfl
    | with_reducible first | apply Keeps.bump | apply Keeps.ite
    | with_reducible (refine Keeps.mk' hp ?_; first | assumption | apply Keeps.bump | apply Keeps.ite)
    | split

theorem State.trigger_keeps {s : State} (h : Keeps pt s0 s) (hp : Off pt 0x830a4) (t' : Nat) (origin : Nat) (rep : Nat) (pos : Int) (num : Option Nat) : Keeps pt s0 (s.trigger t' origin rep pos num) := by
  unfold State.trigger
  repeat' first
    | with_reducible assumption
    | exact hp.sub rfl
    | intro _
    | with_reducible first | apply State.settleSwitch_keeps | apply State.switchTrigger_keeps | apply State.numberTrigger_keeps | apply State.swapTrigger_keeps | apply State.deliver_keeps | apply Keeps.wr | apply Keeps.bump | apply Keeps.each | apply Keeps.ite

theorem State.tellSwitch_keeps {s : State} (h : Keeps pt s0 s) (hp : Off pt 0x400000) (was : Bool) (num : Nat) {probe : State} (hprobe : Keeps pt s0 probe) : Keeps pt s0 (s.tellSwitch was num probe) := by
  unfold State.tellSwitch
  repeat' first
    | with_reducible assumption
    | exact hp.sub rfl
    | with_reducible first | apply State.sendJobFrame_keeps | apply Keeps.ite
    | with_reducible (refine Keeps.mk' hp ?_; first | assumption | apply State.sendJobFrame_keeps | apply Keeps.ite)
    | split

theorem State.ownTrigger_keeps {s : State} (h : Keeps pt s0 s) (hp : Off pt 0x6830a4) (t' : Nat) (origin : Nat) (pos : Int) : Keeps pt s0 (s.ownTrigger t' origin pos) := by
  unfold State.ownTrigger
  repeat' first
    | with_reducible assumption
    | exact hp.sub rfl
    | with_reducible first | apply State.trigger_keeps | apply State.tellSwitch_keeps | apply State.switchTrigger_keeps | apply State.sendTriggerFrame_keeps | apply Keeps.ite
    | with_reducible (refine Keeps.mk' hp ?_; first | assumption | apply State.trigger_keeps | apply State.tellSwitch_keeps | apply State.switchTrigger_keeps | apply State.sendTriggerFrame_keeps | apply Keeps.ite)

theorem State.settleAhead_keeps {s : State} (h : Keeps pt s0 s) (hp : Off pt 0x4830a4) : Keeps pt s0 (s.settleAhead) := by
  unfold State.settleAhead
  repeat' first
    | with_reducible assumption
    | exact hp.sub rfl
    | intro _
    | with_reducible first | apply State.trigger_keeps | apply State.tellSwitch_keeps | apply Keeps.eachOf | apply Keeps.ite
    | with_reducible (refine Keeps.mk' hp ?_; first | assumption | apply State.trigger_keeps | apply State.tellSwitch_keeps | apply Keeps.eachOf | apply Keeps.ite)

theorem Keeps.arrived {s : State} {dt : Nat} : Keeps pt (s.arrive dt) (s.pass dt).settleAhead := .refl _ _

theorem timed_keeps (dt : Nat) (s : State) (due : State → Bool) {act : State → State}
    (hact : ∀ t, Keeps pt (s.arrive dt) t → Keeps pt (s.arrive dt) (act t)) :
    ∃ t, timed dt s due act = .next t ∧ Keeps pt (s.arrive dt) t :=
  ⟨_, rfl, Keeps.ite (hact _ .arrived) .arrived⟩

theorem execExposureCycleStart_keeps (dt : Nat) (g : Fin 16) (s : State) (hp : Off pt 0x801838a4) : ∃ t, (execExposureCycleStart dt g s) = .next t ∧ Keeps pt (s.arrive dt) t := by
  unfold execExposureCycleStart
  refine timed_keeps _ _ _ ?_
  repeat' first
    | with_reducible assumption
    | exact hp.sub rfl
    | intro _
    | with_reducible first | apply State.updGroup_keeps | apply State.startCycle_keeps | apply Keeps.ite
    | split

theorem execExposureCycleEnd_keeps (dt : Nat) (g : Fin 16) (s : State) (hp : Off pt 0x801838a4) : ∃ t, (execExposureCycleEnd dt g s) = .next t ∧ Keeps pt (s.arrive dt) t := by
  unfold execExposureCycleEnd
  refine timed_keeps _ _ _ ?_
  repeat' first
    | with_reducible assumption
    | exact hp.sub rfl
    | intro _
    | with_reducible first | apply State.endCycle_keeps

theorem opSoftwareTrigger_keeps (hp : Off pt 0x6830a4) : OpKeeps pt s0 opSoftwareTrigger := by
  intro v s h
  unfold opSoftwareTrigger
  repeat' first
    | with_reducible assumption
    | exact hp.sub rfl
    | with_reducible first | apply State.ownTrigger_keeps | apply Keeps.ite
    | split

theorem execSoftwareTrigger_keeps (dt : Nat) (m : Fin 17) (s : State) (hp : Off pt 0x406835b4) : ∃ t, (execSoftwareTrigger dt m s) = .next t ∧ Keeps pt (s.pass dt) t := by
  unfold execSoftwareTrigger
  exact hostCommand_keeps _ _ _ _ _ _ (hp.sub rfl) (opSoftwareTrigger_keeps (hp.sub rfl))

theorem State.resetGroups_keeps {s : State} (h : Keeps pt s0 s) (hp : Off pt 0x1880) (prime : Bool) : Keeps pt s0 (s.resetGroups prime) := by
  unfold State.resetGroups
  repeat' first
    | with_reducible assumption
    | exact hp.sub rfl
    | intro _
    | with_reducible first | apply State.updGroup_keeps | apply Keeps.each
    | with_reducible (refine Keeps.mk' hp ?_; first | assumption | apply State.updGroup_keeps | apply Keeps.each)

theorem State.leaveGroups_keeps {s : State} (h : Keeps pt s0 s) (hp : Off pt 0x80) : Keeps pt s0 (s.leaveGroups) := by
  unfold State.leaveGroups
  repeat' first
    | with_reducible assumption
    | exact hp.sub rfl
    | intro _
    | with_reducible first | apply State.updGroup_keeps | apply Keeps.each

theorem State.dropReadings_keeps {s : State} (h : Keeps pt s0 s) (hp : Off pt 0x20100900) (n : Nat) : Keeps pt s0 (s.dropReadings n) := by
  unfold State.dropReadings
  repeat' first
    | with_reducible assumption
    | exact hp.sub rfl
    | intro _
    | with_reducible first | apply State.updExpo_keeps | apply Keeps.eachOf
    | with_reducible (refine Keeps.mk' hp ?_; first | assumption | apply State.updExpo_keeps | apply Keeps.eachOf)

theorem execTgOutputShort_keeps (dt : Nat) (g : Fin 16) (s : State) (hp : Off pt 0x201009a4) : ∃ t, (execTgOutputShort dt g s) = .next t ∧ Keeps pt (s.pass dt) t := by
  unfold execTgOutputShort
  refine event_keeps _ _ _ ?_
  repeat' first
    | with_reducible assumption
    | exact hp.sub rfl
    | intro _
    | with_reducible first | apply State.raise1_keeps | apply State.dropReadings_keeps | apply State.updGroup_keeps | apply Keeps.wr | apply Keeps.bump | apply Keeps.eachOf

theorem execTgOutputRetry_keeps (dt : Nat) (g : Fin 16) (matched : Bool) (s : State) (hp : Off pt 0xa4) : ∃ t, (execTgOutputRetry dt g matched s) = .next t ∧ Keeps pt (s.pass dt) t := by
  unfold execTgOutputRetry
  refine event_keeps _ _ _ ?_
  repeat' first
    | with_reducible assumption
    | exact hp.sub rfl
    | intro _
    | with_reducible first | apply State.updGroup_keeps | apply State.raiseIf_keeps | apply Keeps.wr | apply Keeps.ite

/-! ## Lamps -/

theorem State.updAux_keeps {s : State} (h : Keeps pt s0 s) (hp : Off pt 0x20000) (f : AuxSt → AuxSt) : Keeps pt s0 (s.updAux f) := by
  unfold State.updAux
  repeat' first
    | with_reducible assumption
    | exact hp.sub rfl
    | with_reducible first | apply hf
    | with_reducible (refine Keeps.mk' hp ?_; first | assumption | apply hf)

theorem State.urgent_keeps {s : State} (h : Keeps pt s0 s) (hp : Off pt 0x20000) (mask : Nat) : Keeps pt s0 (s.urgent mask) := by
  unfold State.urgent
  repeat' first
    | with_reducible assumption
    | exact hp.sub rfl
    | intro _
    | with_reducible first | apply State.updAux_keeps | apply Keeps.each | apply Keeps.ite

theorem State.groupLost_keeps {s : State} (h : Keeps pt s0 s) (hp : Off pt 0x2024) (j : Nat) : Keeps pt s0 (s.groupLost j) := by
  unfold State.groupLost
  repeat' first
    | with_reducible assumption
    | exact hp.sub rfl
    | with_reducible first | apply State.cancelArmed_keeps | apply Keeps.ite
    | split

theorem State.cutStrobe_keeps {s : State} (h : Keeps pt s0 s) (hp : Off pt 0x100080) (j : Nat) (g : Nat) (c : Cycle) : Keeps pt s0 (s.cutStrobe j g c) := by
  unfold State.cutStrobe
  repeat' first
    | with_reducible assumption
    | exact hp.sub rfl
    | with_reducible first | apply State.updGroup_keeps | apply Keeps.ite
    | with_reducible (refine Keeps.mk' hp ?_; first | assumption | apply State.updGroup_keeps | apply Keeps.ite)

theorem State.endStrobe_keeps {s : State} (h : Keeps pt s0 s) (hp : Off pt 0x100080) (j : Nat) : Keeps pt s0 (s.endStrobe j) := by
  unfold State.endStrobe
  repeat' first
    | with_reducible assumption
    | exact hp.sub rfl
    | intro _
    | with_reducible first | apply State.cutStrobe_keeps | apply Keeps.eachOf

theorem State.stringFault_keeps {s : State} (h : Keeps pt s0 s) (hp : Off pt 0x1260a4) (i : Nat) (j : Nat) (cls : Nat) : Keeps pt s0 (s.stringFault i j cls) := by
  unfold State.stringFault
  repeat' first
    | with_reducible assumption
    | exact hp.sub rfl
    | with_reducible first | apply State.raise1_keeps | apply State.endStrobe_keeps | apply State.updLamp_keeps | apply State.groupLost_keeps | apply State.urgent_keeps | apply Keeps.wr | apply Keeps.bump | apply Keeps.ite

theorem execStringCheck_keeps (dt : Nat) (i : Fin 32) (current : Nat) (volts : Nat) (s : State) (hp : Off pt 0x1260a4) : ∃ t, (execStringCheck dt i current volts s) = .next t ∧ Keeps pt (s.arrive dt) t := by
  unfold execStringCheck
  refine timed_keeps _ _ _ ?_
  repeat' first
    | with_reducible assumption
    | exact hp.sub rfl
    | intro _
    | with_reducible first | apply State.stringFault_keeps | apply Keeps.wr | apply Keeps.ite
    | with_reducible (refine Keeps.mk' hp ?_; first | assumption | apply State.stringFault_keeps | apply Keeps.wr | apply Keeps.ite)

theorem execLampOvercurrent_keeps (dt : Nat) (i : Fin 32) (s : State) (hp : Off pt 0x1260a4) : ∃ t, (execLampOvercurrent dt i s) = .next t ∧ Keeps pt (s.arrive dt) t := by
  unfold execLampOvercurrent
  refine timed_keeps _ _ _ ?_
  repeat' first
    | with_reducible assumption
    | exact hp.sub rfl
    | intro _
    | with_reducible first | apply State.stringFault_keeps

theorem State.setScale_keeps {s : State} (h : Keeps pt s0 s) (hp : Off pt 0x4) (j : Nat) (v : Int) : Keeps pt s0 (s.setScale j v) := by
  unfold State.setScale
  repeat' first
    | with_reducible assumption
    | exact hp.sub rfl
    | with_reducible first | apply Keeps.wr | apply Keeps.ite

theorem State.lampThermal_keeps {s : State} (h : Keeps pt s0 s) (hp : Off pt 0x1060a4) (j : Nat) : Keeps pt s0 (s.lampThermal j) := by
  unfold State.lampThermal
  repeat' first
    | with_reducible assumption
    | exact hp.sub rfl
    | with_reducible first | apply State.setScale_keeps | apply State.raiseIf_keeps | apply State.updLamp_keeps | apply State.groupLost_keeps | apply State.raise1_keeps | apply State.endStrobe_keeps | apply Keeps.wr | apply Keeps.bump | apply Keeps.ite
    | split

theorem State.lampsOfTh_keeps {s : State} (h : Keeps pt s0 s) (hp : Off pt 0x1060a4) (k : Nat) : Keeps pt s0 (s.lampsOfTh k) := by
  unfold State.lampsOfTh
  repeat' first
    | with_reducible assumption
    | exact hp.sub rfl
    | intro _
    | with_reducible first | apply State.lampThermal_keeps | apply Keeps.each | apply Keeps.ite

theorem execThermistorStale_keeps (dt : Nat) (k : Fin 16) (s : State) (hp : Off pt 0x1070a4) : ∃ t, (execThermistorStale dt k s) = .next t ∧ Keeps pt (s.pass dt) t := by
  unfold execThermistorStale
  refine event_keeps _ _ _ ?_
  repeat' first
    | with_reducible assumption
    | exact hp.sub rfl
    | intro _
    | with_reducible first | apply State.lampsOfTh_keeps | apply State.segsOfTh_keeps
    | with_reducible (refine Keeps.mk' hp ?_; first | assumption | apply State.lampsOfTh_keeps | apply State.segsOfTh_keeps)

theorem opClearGroup_keeps (j : Nat) (hp : Off pt 0x1060a4) : OpKeeps pt s0 (opClearGroup j) := by
  intro v s h
  unfold opClearGroup
  repeat' first
    | with_reducible assumption
    | exact hp.sub rfl
    | intro _
    | with_reducible first | apply State.lampThermal_keeps | apply State.updLamp_keeps | apply Keeps.wr | apply Keeps.eachOf | apply Keeps.ite
    | (extract_lets +onlyGivenNames -underBinder a; fail_if_success (have : Keeps pt s0 a := by with_reducible assumption); with_reducible first | refine Keeps.use a ?_ fun _ => ?_)
    | split

theorem execClearGroup_keeps (dt : Nat) (m : Fin 17) (j : Fin 8) (s : State) (hp : Off pt 0x401065b4) : ∃ t, (execClearGroup dt m j s) = .next t ∧ Keeps pt (s.pass dt) t := by
  unfold execClearGroup
  exact hostCommand_keeps _ _ _ _ _ _ (hp.sub rfl) (opClearGroup_keeps _ (hp.sub rfl))

theorem execBulkFloorReached_keeps (dt : Nat) (s : State) (hp : Off pt 0x1040a4) : ∃ t, (execBulkFloorReached dt s) = .next t ∧ Keeps pt (s.arrive dt) t := by
  unfold execBulkFloorReached
  refine timed_keeps _ _ _ ?_
  repeat' first
    | with_reducible assumption
    | exact hp.sub rfl
    | intro _
    | with_reducible first | apply State.cutStrobe_keeps | apply State.raiseIf_keeps | apply Keeps.wr | apply Keeps.bump | apply Keeps.eachOf
    | with_reducible (refine Keeps.mk' hp ?_; first | assumption | apply State.cutStrobe_keeps | apply State.raiseIf_keeps | apply Keeps.wr | apply Keeps.bump | apply Keeps.eachOf)

theorem execBulkFloorClear_keeps (dt : Nat) (vb : Nat) (s : State) (hp : Off pt 0x4004) : ∃ t, (execBulkFloorClear dt vb s) = .next t ∧ Keeps pt (s.arrive dt) t := by
  unfold execBulkFloorClear
  refine timed_keeps _ _ _ ?_
  repeat' first
    | with_reducible assumption
    | exact hp.sub rfl
    | intro _
    | with_reducible first | apply Keeps.wr
    | with_reducible (refine Keeps.mk' hp ?_; first | assumption | apply Keeps.wr)

theorem execLampPowerReport_keeps (dt : Nat) (vb : Nat) (out : List Nat) (s : State) (hp : Off pt 0x4) : ∃ t, (execLampPowerReport dt vb out s) = .next t ∧ Keeps pt (s.arrive dt) t := by
  unfold execLampPowerReport
  refine timed_keeps _ _ _ ?_
  repeat' first
    | with_reducible assumption
    | exact hp.sub rfl
    | intro _
    | with_reducible first | apply Keeps.wr | apply Keeps.each | apply Keeps.ite

theorem State.clampStrobes_keeps {s : State} (h : Keeps pt s0 s) (hp : Off pt 0x4034) : Keeps pt s0 (s.clampStrobes) := by
  unfold State.clampStrobes
  repeat' first
    | with_reducible assumption
    | exact hp.sub rfl
    | intro _
    | with_reducible first | apply State.updLamp_keeps | apply State.ownClamp_keeps | apply Keeps.each | apply Keeps.ite

theorem State.lampsExit_keeps {s : State} (h : Keeps pt s0 s) (hp : Off pt 0x4000) : Keeps pt s0 (s.lampsExit) := by
  unfold State.lampsExit
  repeat' first
    | with_reducible assumption
    | exact hp.sub rfl
    | intro _
    | with_reducible first | apply State.updLamp_keeps | apply Keeps.each

/-! ## Auxiliary -/

theorem State.updSlot_keeps {s : State} (h : Keeps pt s0 s) (hp : Off pt 0x20000) (q : Nat) (f : AuxSlot → AuxSlot) : Keeps pt s0 (s.updSlot q f) := by
  unfold State.updSlot
  repeat' first
    | with_reducible assumption
    | exact hp.sub rfl
    | with_reducible first | apply State.updAux_keeps | apply hf

theorem State.endExcitation_keeps {s : State} (h : Keeps pt s0 s) (hp : Off pt 0x20000) (l : List Nat) : Keeps pt s0 (s.endExcitation l) := by
  unfold State.endExcitation
  repeat' first
    | with_reducible assumption
    | exact hp.sub rfl
    | intro _
    | with_reducible first | apply State.updSlot_keeps | apply Keeps.each | apply Keeps.ite

theorem State.startPass_keeps {s : State} (h : Keeps pt s0 s) (hp : Off pt 0x20000) : Keeps pt s0 (s.startPass) := by
  unfold State.startPass
  repeat' first
    | with_reducible assumption
    | exact hp.sub rfl
    | with_reducible first | apply State.updAux_keeps | apply State.endExcitation_keeps

theorem State.auxTrigger_keeps {s : State} (h : Keeps pt s0 s) (hp : Off pt 0x20024) : Keeps pt s0 (s.auxTrigger) := by
  unfold State.auxTrigger
  repeat' first
    | with_reducible assumption
    | exact hp.sub rfl
    | with_reducible first | apply State.startPass_keeps | apply State.updAux_keeps | apply State.raise1_keeps | apply Keeps.bump | apply Keeps.ite

theorem execAuxPassStart_keeps (dt : Nat) (s : State) (hp : Off pt 0x20000) : ∃ t, (execAuxPassStart dt s) = .next t ∧ Keeps pt (s.pass dt) t := by
  unfold execAuxPassStart
  refine event_keeps _ _ _ ?_
  repeat' first
    | with_reducible assumption
    | exact hp.sub rfl
    | intro _
    | with_reducible first | apply State.startPass_keeps

theorem opAuxTrigger_keeps (hp : Off pt 0x20024) : OpKeeps pt s0 opAuxTrigger := by
  intro v s h
  unfold opAuxTrigger
  repeat' first
    | with_reducible assumption
    | exact hp.sub rfl
    | with_reducible first | apply State.auxTrigger_keeps | apply Keeps.ite
    | split

theorem execAuxSoftwareTrigger_keeps (dt : Nat) (m : Fin 17) (s : State) (hp : Off pt 0x40020534) : ∃ t, (execAuxSoftwareTrigger dt m s) = .next t ∧ Keeps pt (s.pass dt) t := by
  unfold execAuxSoftwareTrigger
  exact hostCommand_keeps _ _ _ _ _ _ (hp.sub rfl) (opAuxTrigger_keeps (hp.sub rfl))

theorem execAuxPeriodicTrigger_keeps (dt : Nat) (s : State) (hp : Off pt 0x20024) : ∃ t, (execAuxPeriodicTrigger dt s) = .next t ∧ Keeps pt (s.pass dt) t := by
  unfold execAuxPeriodicTrigger
  refine event_keeps _ _ _ ?_
  repeat' first
    | with_reducible assumption
    | exact hp.sub rfl
    | intro _
    | with_reducible first | apply State.auxTrigger_keeps | apply State.updAux_keeps

theorem State.auxFromNow_keeps {s : State} (h : Keeps pt s0 s) (hp : Off pt 0x20000) : Keeps pt s0 (s.auxFromNow) := by
  unfold State.auxFromNow
  repeat' first
    | with_reducible assumption
    | exact hp.sub rfl
    | with_reducible first | apply State.updAux_keeps

theorem opUrgent_keeps (hp : Off pt 0x20000) : OpKeeps pt s0 opUrgent := by
  intro v s h
  unfold opUrgent
  repeat' first
    | with_reducible assumption
    | exact hp.sub rfl
    | with_reducible first | apply State.urgent_keeps

theorem execAuxUrgentRequest_keeps (dt : Nat) (m : Fin 17) (mask : BitVec 32) (s : State) (hp : Off pt 0x40020534) : ∃ t, (execAuxUrgentRequest dt m mask s) = .next t ∧ Keeps pt (s.pass dt) t := by
  unfold execAuxUrgentRequest
  exact hostCommand_keeps _ _ _ _ _ _ (hp.sub rfl) (opUrgent_keeps (hp.sub rfl))

theorem State.beginVisit_keeps {s : State} (h : Keeps pt s0 s) (hp : Off pt 0x20000) (q : Nat) (urgent : Bool) : Keeps pt s0 (s.beginVisit q urgent) := by
  unfold State.beginVisit
  repeat' first
    | with_reducible assumption
    | exact hp.sub rfl
    | with_reducible first | apply State.updSlot_keeps | apply State.updAux_keeps | apply Keeps.ite

theorem State.outFail_keeps {s : State} (h : Keeps pt s0 s) (hp : Off pt 0x4) (a : Nat) : Keeps pt s0 (s.outFail a) := by
  unfold State.outFail
  repeat' first
    | with_reducible assumption
    | exact hp.sub rfl
    | with_reducible first | apply Keeps.wr | apply Keeps.ite

theorem State.outsOf_keeps {s : State} (h : Keeps pt s0 s) (hp : Off pt 0x20004) (q : Nat) (usable : Bool) (v : Int) : Keeps pt s0 (s.outsOf q usable v) := by
  unfold State.outsOf
  repeat' first
    | with_reducible assumption
    | exact hp.sub rfl
    | intro _
    | with_reducible first | apply State.updAux_keeps | apply State.outFail_keeps | apply Keeps.wr | apply Keeps.each | apply Keeps.ite

theorem State.result_keeps {s : State} (h : Keeps pt s0 s) (hp : Off pt 0x1270b4) (q : Nat) (cfg : List Int) (d : Sampled) (unsettled : Bool) (urgent : Bool) (sleeping : Bool) (forced : Bool) : Keeps pt s0 (s.result q cfg d unsettled urgent sleeping forced) := by
  unfold State.result
  repeat' first
    | with_reducible assumption
    | exact hp.sub rfl
    | intro _
    | with_reducible first | apply State.raiseIf_keeps | apply State.publish_keeps | apply State.updSlot_keeps | apply State.thResult_keeps | apply State.lampsOfTh_keeps | apply State.outsOf_keeps | apply Keeps.wr | apply Keeps.each | apply Keeps.ite

theorem State.verdictOpen_keeps {s : State} (h : Keeps pt s0 s) (hp : Off pt 0x20024) (q : Nat) (fails : Bool) : Keeps pt s0 (s.verdictOpen q fails) := by
  unfold State.verdictOpen
  repeat' first
    | with_reducible assumption
    | exact hp.sub rfl
    | with_reducible first | apply State.raiseIf_keeps | apply State.updSlot_keeps | apply Keeps.ite

theorem State.verdictFault_keeps {s : State} (h : Keeps pt s0 s) (hp : Off pt 0x20024) (v : Visit) (fails : Bool) : Keeps pt s0 (s.verdictFault v fails) := by
  unfold State.verdictFault
  repeat' first
    | with_reducible assumption
    | exact hp.sub rfl
    | with_reducible first | apply State.updSlot_keeps | apply State.raise1_keeps | apply Keeps.bump | apply Keeps.ite

theorem State.countPower_keeps {s : State} (h : Keeps pt s0 s) (hp : Off pt 0x20000) (v : Visit) (power : Nat) : Keeps pt s0 (s.countPower v power) := by
  unfold State.countPower
  repeat' first
    | with_reducible assumption
    | exact hp.sub rfl
    | with_reducible first | apply State.updAux_keeps | apply Keeps.ite
    | split

theorem State.passEnd_keeps {s : State} (h : Keeps pt s0 s) (hp : Off pt 0x20024) : Keeps pt s0 (s.passEnd) := by
  unfold State.passEnd
  repeat' first
    | with_reducible assumption
    | exact hp.sub rfl
    | with_reducible first | apply State.raiseIf_keeps | apply State.updAux_keeps | apply Keeps.wr | apply Keeps.bump | apply Keeps.ite
    | split

theorem execAuxVisitStart_keeps (dt : Nat) (s : State) (hp : Off pt 0x20024) : ∃ t, (execAuxVisitStart dt s) = .next t ∧ Keeps pt (s.pass dt) t := by
  unfold execAuxVisitStart
  refine event_keeps _ _ _ ?_
  repeat' first
    | with_reducible assumption
    | exact hp.sub rfl
    | intro _
    | with_reducible first | apply State.beginVisit_keeps | apply State.updAux_keeps | apply State.endExcitation_keeps | apply State.passEnd_keeps | apply Keeps.wr | apply Keeps.bump | apply Keeps.ite
    | split

theorem execAuxVisitEnd_keeps (dt : Nat) (raw : Int) (extreme : Bool) (excFault : Bool) (openFail : Bool) (held : Nat) (power : Nat) (refa : Nat) (s : State) (hp : Off pt 0x1270b4) : ∃ t, (execAuxVisitEnd dt raw extreme excFault openFail held power refa s) = .next t ∧ Keeps pt (s.pass dt) t := by
  unfold execAuxVisitEnd
  refine event_keeps _ _ _ ?_
  repeat' first
    | with_reducible assumption
    | exact hp.sub rfl
    | intro _
    | with_reducible first | apply State.verdictFault_keeps | apply State.verdictOpen_keeps | apply State.updSlot_keeps | apply State.result_keeps | apply State.countPower_keeps | apply State.updAux_keeps | apply State.endExcitation_keeps | apply State.passEnd_keeps | apply Keeps.ite
    | split

theorem execAuxExcitationRetry_keeps (dt : Nat) (q : Fin 32) (s : State) (hp : Off pt 0x20000) : ∃ t, (execAuxExcitationRetry dt q s) = .next t ∧ Keeps pt (s.pass dt) t := by
  unfold execAuxExcitationRetry
  refine event_keeps _ _ _ ?_
  repeat' first
    | with_reducible assumption
    | exact hp.sub rfl
    | intro _
    | with_reducible first | apply State.updSlot_keeps

theorem execBlankStuck_keeps (dt : Nat) (s : State) (hp : Off pt 0x20024) : ∃ t, (execBlankStuck dt s) = .next t ∧ Keeps pt (s.pass dt) t := by
  unfold execBlankStuck
  refine event_keeps _ _ _ ?_
  repeat' first
    | with_reducible assumption
    | exact hp.sub rfl
    | intro _
    | with_reducible first | apply State.raise1_keeps | apply State.updAux_keeps

theorem execBlankInputReleased_keeps (dt : Nat) (s : State) (hp : Off pt 0x20000) : ∃ t, (execBlankInputReleased dt s) = .next t ∧ Keeps pt (s.pass dt) t := by
  unfold execBlankInputReleased
  refine event_keeps _ _ _ ?_
  repeat' first
    | with_reducible assumption
    | exact hp.sub rfl
    | intro _
    | with_reducible first | apply State.updAux_keeps

theorem execRefaOutOfRange_keeps (dt : Nat) (s : State) (hp : Off pt 0x20024) : ∃ t, (execRefaOutOfRange dt s) = .next t ∧ Keeps pt (s.pass dt) t := by
  unfold execRefaOutOfRange
  refine event_keeps _ _ _ ?_
  repeat' first
    | with_reducible assumption
    | exact hp.sub rfl
    | intro _
    | with_reducible first | apply State.raise1_keeps | apply State.updAux_keeps

theorem execRefaRestored_keeps (dt : Nat) (s : State) (hp : Off pt 0x20000) : ∃ t, (execRefaRestored dt s) = .next t ∧ Keeps pt (s.pass dt) t := by
  unfold execRefaRestored
  refine event_keeps _ _ _ ?_
  repeat' first
    | with_reducible assumption
    | exact hp.sub rfl
    | intro _
    | with_reducible first | apply State.updAux_keeps

theorem execBivouacConversion_keeps (dt : Nat) (raw : Int) (extreme : Bool) (excFault : Bool) (openFail : Bool) (s : State) (hp : Off pt 0x1270b4) : ∃ t, (execBivouacConversion dt raw extreme excFault openFail s) = .next t ∧ Keeps pt (s.pass dt) t := by
  unfold execBivouacConversion
  refine event_keeps _ _ _ ?_
  repeat' first
    | with_reducible assumption
    | exact hp.sub rfl
    | intro _
    | with_reducible first | apply State.updAux_keeps | apply State.verdictOpen_keeps | apply State.raise1_keeps | apply State.result_keeps | apply Keeps.bump | apply Keeps.ite
    | (extract_lets +onlyGivenNames -underBinder a; fail_if_success (have : Keeps pt s0 a := by with_reducible assumption); with_reducible first | refine Keeps.use a ?_ fun _ => ?_)
    | split

theorem State.outHost_keeps {s : State} (h : Keeps pt s0 s) (hp : Off pt 0x4) (a : Nat) : Keeps pt s0 (s.outHost a) := by
  unfold State.outHost
  repeat' first
    | with_reducible assumption
    | exact hp.sub rfl
    | with_reducible first | apply Keeps.wr | apply Keeps.ite

theorem State.outWritten_keeps {s : State} (h : Keeps pt s0 s) (hp : Off pt 0x20004) (a : Nat) (toSlot : Bool) : Keeps pt s0 (s.outWritten a toSlot) := by
  unfold State.outWritten
  repeat' first
    | with_reducible assumption
    | exact hp.sub rfl
    | with_reducible first | apply State.outHost_keeps | apply State.updAux_keeps | apply Keeps.ite

theorem execAoStale_keeps (dt : Nat) (a : Fin 4) (s : State) (hp : Off pt 0x4) : ∃ t, (execAoStale dt a s) = .next t ∧ Keeps pt (s.pass dt) t := by
  unfold execAoStale
  refine event_keeps _ _ _ ?_
  repeat' first
    | with_reducible assumption
    | exact hp.sub rfl
    | intro _
    | with_reducible first | apply State.outFail_keeps

theorem execAoShort_keeps (dt : Nat) (a : Fin 4) (s : State) (hp : Off pt 0x20024) : ∃ t, (execAoShort dt a s) = .next t ∧ Keeps pt (s.pass dt) t := by
  unfold execAoShort
  refine event_keeps _ _ _ ?_
  repeat' first
    | with_reducible assumption
    | exact hp.sub rfl
    | intro _
    | with_reducible first | apply State.raise1_keeps | apply State.updAux_keeps | apply Keeps.wr | apply Keeps.bump

theorem execAoShortRetry_keeps (dt : Nat) (a : Fin 4) (holds : Bool) (s : State) (hp : Off pt 0x20024) : ∃ t, (execAoShortRetry dt a holds s) = .next t ∧ Keeps pt (s.pass dt) t := by
  unfold execAoShortRetry
  refine event_keeps _ _ _ ?_
  repeat' first
    | with_reducible assumption
    | exact hp.sub rfl
    | intro _
    | with_reducible first | apply State.outHost_keeps | apply State.raiseIf_keeps | apply State.updAux_keeps | apply Keeps.wr | apply Keeps.ite

theorem State.auxWake_keeps {s : State} (h : Keeps pt s0 s) (hp : Off pt 0x20004) : Keeps pt s0 (s.auxWake) := by
  unfold State.auxWake
  repeat' first
    | with_reducible assumption
    | exact hp.sub rfl
    | intro _
    | with_reducible first | apply State.updSlot_keeps | apply State.updAux_keeps | apply State.auxFromNow_keeps | apply State.outHost_keeps | apply Keeps.wr | apply Keeps.each

theorem State.auxStandby_keeps {s : State} (h : Keeps pt s0 s) (hp : Off pt 0x20000) : Keeps pt s0 (s.auxStandby) := by
  unfold State.auxStandby
  repeat' first
    | with_reducible assumption
    | exact hp.sub rfl
    | intro _
    | with_reducible first | apply State.updSlot_keeps | apply Keeps.each

theorem State.auxSleep_keeps {s : State} (h : Keeps pt s0 s) (hp : Off pt 0x20004) : Keeps pt s0 (s.auxSleep) := by
  unfold State.auxSleep
  repeat' first
    | with_reducible assumption
    | exact hp.sub rfl
    | intro _
    | with_reducible first | apply State.updAux_keeps | apply State.endExcitation_keeps | apply Keeps.wr | apply Keeps.each

/-! ## Lantern -/

theorem State.updLan_keeps {s : State} (h : Keeps pt s0 s) (hp : Off pt 0x10000) (f : LanternSt → LanternSt) : Keeps pt s0 (s.updLan f) := by
  unfold State.updLan
  repeat' first
    | with_reducible assumption
    | exact hp.sub rfl
    | with_reducible first | apply hf
    | with_reducible (refine Keeps.mk' hp ?_; first | assumption | apply hf)

theorem State.updEngine_keeps {s : State} (h : Keeps pt s0 s) (hp : Off pt 0x10000) (e : Nat) (f : Engine → Engine) : Keeps pt s0 (s.updEngine e f) := by
  unfold State.updEngine
  repeat' first
    | with_reducible assumption
    | exact hp.sub rfl
    | with_reducible first | apply State.updLan_keeps | apply hf

theorem State.showFrame_keeps {s : State} (h : Keeps pt s0 s) (hp : Off pt 0x10024) : Keeps pt s0 (s.showFrame) := by
  unfold State.showFrame
  repeat' first
    | with_reducible assumption
    | exact hp.sub rfl
    | with_reducible first | apply State.raiseIf_keeps | apply State.updLan_keeps | apply Keeps.wr

theorem State.darkFrame_keeps {s : State} (h : Keeps pt s0 s) (hp : Off pt 0x10004) (n : Nat) : Keeps pt s0 (s.darkFrame n) := by
  unfold State.darkFrame
  repeat' first
    | with_reducible assumption
    | exact hp.sub rfl
    | with_reducible first | apply State.updLan_keeps | apply Keeps.wr

theorem State.startProbe_keeps {s : State} (h : Keeps pt s0 s) (hp : Off pt 0x10004) : Keeps pt s0 (s.startProbe) := by
  unfold State.startProbe
  repeat' first
    | with_reducible assumption
    | exact hp.sub rfl
    | with_reducible first | apply State.updLan_keeps | apply Keeps.wr | apply Keeps.ite

theorem State.lanternOff_keeps {s : State} (h : Keeps pt s0 s) (hp : Off pt 0x10004) (code : Nat) : Keeps pt s0 (s.lanternOff code) := by
  unfold State.lanternOff
  repeat' first
    | with_reducible assumption
    | exact hp.sub rfl
    | with_reducible first | apply State.darkFrame_keeps | apply Keeps.wr | apply Keeps.ite

theorem State.lanternGate_keeps {s : State} (h : Keeps pt s0 s) (hp : Off pt 0x10004) : Keeps pt s0 (s.lanternGate) := by
  unfold State.lanternGate
  repeat' first
    | with_reducible assumption
    | exact hp.sub rfl
    | with_reducible first | apply State.lanternOff_keeps | apply State.startProbe_keeps | apply Keeps.ite

theorem State.probeIfOn_keeps {s : State} (h : Keeps pt s0 s) (hp : Off pt 0x10004) : Keeps pt s0 (s.probeIfOn) := by
  unfold State.probeIfOn
  repeat' first
    | with_reducible assumption
    | exact hp.sub rfl
    | with_reducible first | apply State.startProbe_keeps | apply Keeps.ite

theorem State.chainBroken_keeps {s : State} (h : Keeps pt s0 s) (hp : Off pt 0x24) (was : Nat) : Keeps pt s0 (s.chainBroken was) := by
  unfold State.chainBroken
  repeat' first
    | with_reducible assumption
    | exact hp.sub rfl
    | with_reducible first | apply State.raise1_keeps | apply Keeps.wr | apply Keeps.bump | apply Keeps.ite

theorem State.stillShort_keeps {s : State} (h : Keeps pt s0 s) (hp : Off pt 0x10024) : Keeps pt s0 (s.stillShort) := by
  unfold State.stillShort
  repeat' first
    | with_reducible assumption
    | exact hp.sub rfl
    | with_reducible first | apply State.raiseIf_keeps | apply State.updLan_keeps | apply Keeps.wr

theorem State.probeResult_keeps {s : State} (h : Keeps pt s0 s) (hp : Off pt 0x10024) (count : Nat) : Keeps pt s0 (s.probeResult count) := by
  unfold State.probeResult
  repeat' first
    | with_reducible assumption
    | exact hp.sub rfl
    | with_reducible first | apply State.updLan_keeps | apply State.showFrame_keeps | apply State.raiseIf_keeps | apply State.stillShort_keeps | apply State.darkFrame_keeps | apply State.raise1_keeps | apply State.chainBroken_keeps | apply Keeps.wr | apply Keeps.ite

theorem execLanternProbeComplete_keeps (dt : Nat) (count : Nat) (s : State) (hp : Off pt 0x10024) : ∃ t, (execLanternProbeComplete dt count s) = .next t ∧ Keeps pt (s.pass dt) t := by
  unfold execLanternProbeComplete
  refine event_keeps _ _ _ ?_
  repeat' first
    | with_reducible assumption
    | exact hp.sub rfl
    | intro _
    | with_reducible first | apply State.probeResult_keeps

theorem opProbeNow_keeps (hp : Off pt 0x10004) : OpKeeps pt s0 opProbeNow := by
  intro v s h
  unfold opProbeNow
  repeat' first
    | with_reducible assumption
    | exact hp.sub rfl
    | intro _
    | with_reducible first | apply opDo_keeps | apply State.probeIfOn_keeps

theorem execLanternProbeNow_keeps (dt : Nat) (m : Fin 17) (s : State) (hp : Off pt 0x40010534) : ∃ t, (execLanternProbeNow dt m s) = .next t ∧ Keeps pt (s.pass dt) t := by
  unfold execLanternProbeNow
  exact hostCommand_keeps _ _ _ _ _ _ (hp.sub rfl) (opProbeNow_keeps (hp.sub rfl))

theorem execLanternPeriodicProbe_keeps (dt : Nat) (s : State) (hp : Off pt 0x10004) : ∃ t, (execLanternPeriodicProbe dt s) = .next t ∧ Keeps pt (s.pass dt) t := by
  unfold execLanternPeriodicProbe
  refine event_keeps _ _ _ ?_
  repeat' first
    | with_reducible assumption
    | exact hp.sub rfl
    | intro _
    | with_reducible first | apply State.startProbe_keeps

theorem execLanternOutputShort_keeps (dt : Nat) (s : State) (hp : Off pt 0x10024) : ∃ t, (execLanternOutputShort dt s) = .next t ∧ Keeps pt (s.pass dt) t := by
  unfold execLanternOutputShort
  refine event_keeps _ _ _ ?_
  repeat' first
    | with_reducible assumption
    | exact hp.sub rfl
    | intro _
    | with_reducible first | apply State.stillShort_keeps | apply State.updLan_keeps | apply State.raise1_keeps | apply Keeps.wr | apply Keeps.bump | apply Keeps.ite

theorem execLanternShortRetry_keeps (dt : Nat) (s : State) (hp : Off pt 0x10004) : ∃ t, (execLanternShortRetry dt s) = .next t ∧ Keeps pt (s.pass dt) t := by
  unfold execLanternShortRetry
  refine event_keeps _ _ _ ?_
  repeat' first
    | with_reducible assumption
    | exact hp.sub rfl
    | intro _
    | with_reducible first | apply State.startProbe_keeps

theorem State.startEngine_keeps {s : State} (h : Keeps pt s0 s) (hp : Off pt 0x10004) (e : Nat) : Keeps pt s0 (s.startEngine e) := by
  unfold State.startEngine
  repeat' first
    | with_reducible assumption
    | exact hp.sub rfl
    | with_reducible first | apply State.updEngine_keeps | apply Keeps.wr

theorem State.stopEngine_keeps {s : State} (h : Keeps pt s0 s) (hp : Off pt 0x10004) (e : Nat) : Keeps pt s0 (s.stopEngine e) := by
  unfold State.stopEngine
  repeat' first
    | with_reducible assumption
    | exact hp.sub rfl
    | with_reducible first | apply State.updEngine_keeps | apply Keeps.wr

theorem State.restartTau_keeps {s : State} (h : Keeps pt s0 s) (hp : Off pt 0x10004) (e : Nat) : Keeps pt s0 (s.restartTau e) := by
  unfold State.restartTau
  repeat' first
    | with_reducible assumption
    | exact hp.sub rfl
    | with_reducible first | apply State.updEngine_keeps | apply Keeps.wr | apply Keeps.ite

theorem State.doAsk_keeps {s : State} (h : Keeps pt s0 s) (hp : Off pt 0x10004) (e : Nat) : Keeps pt s0 (s.doAsk e) := by
  unfold State.doAsk
  repeat' first
    | with_reducible assumption
    | exact hp.sub rfl
    | with_reducible first | apply State.startEngine_keeps | apply State.restartTau_keeps | apply State.stopEngine_keeps
    | split

theorem State.askEngine_keeps {s : State} (h : Keeps pt s0 s) (hp : Off pt 0x10004) (e : Nat) (a : Ask) : Keeps pt s0 (s.askEngine e a) := by
  unfold State.askEngine
  repeat' first
    | with_reducible assumption
    | exact hp.sub rfl
    | with_reducible first | apply State.updEngine_keeps | apply State.doAsk_keeps | apply Keeps.ite

theorem State.engineFrame_keeps {s : State} (h : Keeps pt s0 s) (hp : Off pt 0x10004) (offers : List LogRec) (e : Nat) : Keeps pt s0 (s.engineFrame offers e) := by
  unfold State.engineFrame
  repeat' first
    | with_reducible assumption
    | exact hp.sub rfl
    | with_reducible first | apply State.doAsk_keeps | apply State.startEngine_keeps | apply Keeps.wr
    | (extract_lets +onlyGivenNames -underBinder a; fail_if_success (have : Keeps pt s0 a := by with_reducible assumption); with_reducible first | refine Keeps.use a ?_ fun _ => ?_)
    | split

theorem State.locateFrame_keeps {s : State} (h : Keeps pt s0 s) (hp : Off pt 0x10004) (e : Nat) : Keeps pt s0 (s.locateFrame e) := by
  unfold State.locateFrame
  repeat' first
    | with_reducible assumption
    | exact hp.sub rfl
    | with_reducible first | apply State.restartTau_keeps | apply State.updEngine_keeps | apply Keeps.wr | apply Keeps.ite
    | split

theorem State.frame_keeps {s : State} (h : Keeps pt s0 s) (hp : Off pt 0x10024) (differs : Bool) : Keeps pt s0 (s.frame differs) := by
  unfold State.frame
  repeat' first
    | with_reducible assumption
    | exact hp.sub rfl
    | intro _
    | with_reducible first | apply State.engineFrame_keeps | apply State.updLan_keeps | apply State.showFrame_keeps | apply State.locateFrame_keeps | apply State.chainBroken_keeps | apply State.darkFrame_keeps | apply Keeps.bump | apply Keeps.each | apply Keeps.ite
    | with_reducible (refine Keeps.mk' hp ?_; first | assumption | apply State.engineFrame_keeps | apply State.updLan_keeps | apply State.showFrame_keeps | apply State.locateFrame_keeps | apply State.chainBroken_keeps | apply State.darkFrame_keeps | apply Keeps.bump | apply Keeps.each | apply Keeps.ite)

theorem execLanternFrame_keeps (dt : Nat) (differs : Bool) (s : State) (hp : Off pt 0x10024) : ∃ t, (execLanternFrame dt differs s) = .next t ∧ Keeps pt (s.pass dt) t := by
  unfold execLanternFrame
  refine event_keeps _ _ _ ?_
  repeat' first
    | with_reducible assumption
    | exact hp.sub rfl
    | intro _
    | with_reducible first | apply State.frame_keeps

theorem opEngineStart_keeps (e : Nat) (hp : Off pt 0x10004) : OpKeeps pt s0 (opEngineStart e) := by
  intro v s h
  unfold opEngineStart
  repeat' first
    | with_reducible assumption
    | exact hp.sub rfl
    | intro _
    | with_reducible first | apply opDo_keeps | apply State.askEngine_keeps

theorem execLanternEngineStart_keeps (dt : Nat) (m : Fin 17) (e : Fin 4) (s : State) (hp : Off pt 0x40010534) : ∃ t, (execLanternEngineStart dt m e s) = .next t ∧ Keeps pt (s.pass dt) t := by
  unfold execLanternEngineStart
  exact hostCommand_keeps _ _ _ _ _ _ (hp.sub rfl) (opEngineStart_keeps _ (hp.sub rfl))

theorem opEngineStop_keeps (e : Nat) (hp : Off pt 0x10004) : OpKeeps pt s0 (opEngineStop e) := by
  intro v s h
  unfold opEngineStop
  repeat' first
    | with_reducible assumption
    | exact hp.sub rfl
    | intro _
    | with_reducible first | apply opDo_keeps | apply State.askEngine_keeps

theorem execLanternEngineStop_keeps (dt : Nat) (m : Fin 17) (e : Fin 4) (s : State) (hp : Off pt 0x40010534) : ∃ t, (execLanternEngineStop dt m e s) = .next t ∧ Keeps pt (s.pass dt) t := by
  unfold execLanternEngineStop
  exact hostCommand_keeps _ _ _ _ _ _ (hp.sub rfl) (opEngineStop_keeps _ (hp.sub rfl))

theorem execLanternEngineRunEnd_keeps (dt : Nat) (e : Fin 4) (s : State) (hp : Off pt 0x10004) : ∃ t, (execLanternEngineRunEnd dt e s) = .next t ∧ Keeps pt (s.pass dt) t := by
  unfold execLanternEngineRunEnd
  refine event_keeps _ _ _ ?_
  repeat' first
    | with_reducible assumption
    | exact hp.sub rfl
    | intro _
    | with_reducible first | apply State.stopEngine_keeps

theorem opLocate_keeps (e : Nat) (hp : Off pt 0x10004) : OpKeeps pt s0 (opLocate e) := by
  intro v s h
  unfold opLocate
  repeat' first
    | with_reducible assumption
    | exact hp.sub rfl
    | with_reducible first | apply State.askEngine_keeps | apply Keeps.wr | apply Keeps.ite
    | (extract_lets +onlyGivenNames -underBinder a; fail_if_success (have : Keeps pt s0 a := by with_reducible assumption); fail_if_success (have : Keeps pt s0 a.1 := by with_reducible assumption); with_reducible first | refine Keeps.use a ?_ fun _ => ?_ | refine Keeps.use1 a ?_ fun _ => ?_)
    | split

theorem execLocateTargetWrite_keeps (dt : Nat) (m : Fin 17) (e : Fin 4) (px : Nat) (s : State) (hp : Off pt 0x40010534) : ∃ t, (execLocateTargetWrite dt m e px s) = .next t ∧ Keeps pt (s.pass dt) t := by
  unfold execLocateTargetWrite
  exact hostCommand_keeps _ _ _ _ _ _ (hp.sub rfl) (opLocate_keeps _ (hp.sub rfl))

theorem State.fitFrameRate_keeps {s : State} (h : Keeps pt s0 s) (hp : Off pt 0x34) : Keeps pt s0 (s.fitFrameRate) := by
  unfold State.fitFrameRate
  repeat' first
    | with_reducible assumption
    | exact hp.sub rfl
    | with_reducible first | apply State.ownClamp_keeps | apply Keeps.wr | apply Keeps.ite

theorem State.lanternWritten_keeps {s : State} (h : Keeps pt s0 s) (hp : Off pt 0x10034) (sub : Nat) : Keeps pt s0 (s.lanternWritten sub) := by
  unfold State.lanternWritten
  repeat' first
    | with_reducible assumption
    | exact hp.sub rfl
    | with_reducible first | apply State.lanternGate_keeps | apply State.probeIfOn_keeps | apply State.fitFrameRate_keeps | apply Keeps.ite

/-! ## FrontEnd -/

theorem State.updFe_keeps {s : State} (h : Keeps pt s0 s) (hp : Off pt 0x800) (n : Nat) (f : FrontEnd → FrontEnd) : Keeps pt s0 (s.updFe n f) := by
  unfold State.updFe
  repeat' first
    | with_reducible assumption
    | exact hp.sub rfl
    | with_reducible first | apply hf
    | with_reducible (refine Keeps.mk' hp ?_; first | assumption | apply hf)

theorem State.checked_keeps {s : State} (h : Keeps pt s0 s) (hp : Off pt 0x800008a4) (n : Nat) (fails : Bool) : Keeps pt s0 (s.checked n fails) := by
  unfold State.checked
  repeat' first
    | with_reducible assumption
    | exact hp.sub rfl
    | with_reducible first | apply State.updFe_keeps | apply State.raise1_keeps | apply State.updService_keeps | apply State.serviceChange_keeps | apply Keeps.bump | apply Keeps.ite

theorem State.loopLine_keeps {s : State} (h : Keeps pt s0 s) (hp : Off pt 0x804) (n : Nat) (codes : List Int) (b : Int) (fails : Bool) : Keeps pt s0 (s.loopLine n codes b fails) := by
  unfold State.loopLine
  repeat' first
    | with_reducible assumption
    | exact hp.sub rfl
    | with_reducible first | apply State.updFe_keeps | apply Keeps.wr | apply Keeps.bump | apply Keeps.ite

theorem State.loopSum_keeps {s : State} (h : Keeps pt s0 s) (hp : Off pt 0x800) (n : Nat) (codes : List Int) (b : Int) : Keeps pt s0 (s.loopSum n codes b) := by
  unfold State.loopSum
  repeat' first
    | with_reducible assumption
    | exact hp.sub rfl
    | with_reducible first | apply State.updFe_keeps

theorem State.resetPhase_keeps {s : State} (h : Keeps pt s0 s) (hp : Off pt 0x834) (n : Nat) : Keeps pt s0 (s.resetPhase n) := by
  unfold State.resetPhase
  repeat' first
    | with_reducible assumption
    | exact hp.sub rfl
    | with_reducible first | apply State.updFe_keeps | apply State.ownClamp_keeps | apply Keeps.ite

theorem State.updReading_keeps {s : State} (h : Keeps pt s0 s) (hp : Off pt 0x800) (n : Nat) (old : Bool) (f : Reading → Reading) : Keeps pt s0 (s.updReading n old f) := by
  unfold State.updReading
  repeat' first
    | with_reducible assumption
    | exact hp.sub rfl
    | with_reducible first | apply State.updFe_keeps | apply hf | apply Keeps.ite

theorem execBlackPixelsEnd_keeps (dt : Nat) (n : Fin 64) (codes : List Int) (s : State) (hp : Off pt 0x800008b4) : ∃ t, (execBlackPixelsEnd dt n codes s) = .next t ∧ Keeps pt (s.pass dt) t := by
  unfold execBlackPixelsEnd
  refine event_keeps _ _ _ ?_
  repeat' first
    | with_reducible assumption
    | exact hp.sub rfl
    | intro _
    | with_reducible first | apply State.updReading_keeps | apply State.loopLine_keeps | apply State.loopSum_keeps | apply State.checked_keeps | apply State.resetPhase_keeps | apply Keeps.ite
    | split

theorem execSignalAutoRecovery_keeps (dt : Nat) (n : Fin 64) (s : State) (hp : Off pt 0x80000884) : ∃ t, (execSignalAutoRecovery dt n s) = .next t ∧ Keeps pt (s.pass dt) t := by
  unfold execSignalAutoRecovery
  refine event_keeps _ _ _ ?_
  repeat' first
    | with_reducible assumption
    | exact hp.sub rfl
    | intro _
    | with_reducible first | apply State.updService_keeps | apply State.updFe_keeps | apply Keeps.wr | apply Keeps.bump

theorem execBlackLevelResult_keeps (dt : Nat) (n : Fin 64) (s : State) (hp : Off pt 0x814) : ∃ t, (execBlackLevelResult dt n s) = .next t ∧ Keeps pt (s.pass dt) t := by
  unfold execBlackLevelResult
  refine event_keeps _ _ _ ?_
  repeat' first
    | with_reducible assumption
    | exact hp.sub rfl
    | intro _
    | with_reducible first | apply State.publish_keeps | apply State.updFe_keeps

theorem execChannelLineStart_keeps (dt : Nat) (n : Fin 64) (bad : List Nat) (s : State) (hp : Off pt 0x1a01019a4) : ∃ t, (execChannelLineStart dt n bad s) = .next t ∧ Keeps pt (s.pass dt) t := by
  unfold execChannelLineStart
  refine event_keeps _ _ _ ?_
  repeat' first
    | with_reducible assumption
    | exact hp.sub rfl
    | intro _
    | with_reducible first | apply State.settleService_keeps | apply State.updBank_keeps | apply State.updReading_keeps | apply State.updExpo_keeps | apply State.updLineQ_keeps | apply State.raise1_keeps | apply State.wrBit_keeps | apply Keeps.bump | apply Keeps.ite
    | (extract_lets +onlyGivenNames -underBinder a; fail_if_success (have : Keeps pt s0 a := by with_reducible assumption); with_reducible first | refine Keeps.use a ?_ fun _ => ?_)
    | split

theorem State.countMoved_keeps {s : State} (h : Keeps pt s0 s) (hp : Off pt 0x24) (n : Nat) (before : Nat) : Keeps pt s0 (s.countMoved n before) := by
  unfold State.countMoved
  repeat' first
    | with_reducible assumption
    | exact hp.sub rfl
    | with_reducible first | apply State.raise1_keeps | apply State.wrBit_keeps | apply Keeps.wr | apply Keeps.bump | apply Keeps.ite

theorem State.closeFrame_keeps {s : State} (h : Keeps pt s0 s) (hp : Off pt 0x20000124) (n : Nat) (rec_ : Nat) (words : List Nat) : Keeps pt s0 (s.closeFrame n rec_ words) := by
  unfold State.closeFrame
  repeat' first
    | with_reducible assumption
    | exact hp.sub rfl
    | with_reducible first | apply State.countMoved_keeps | apply State.updLineQ_keeps

theorem State.countOver_keeps {s : State} (h : Keeps pt s0 s) (hp : Off pt 0x24) (n : Nat) (beyond : Nat) : Keeps pt s0 (s.countOver n beyond) := by
  unfold State.countOver
  repeat' first
    | with_reducible assumption
    | exact hp.sub rfl
    | with_reducible first | apply State.raiseIf_keeps | apply Keeps.bump | apply Keeps.ite

theorem State.countParity_keeps {s : State} (h : Keeps pt s0 s) (hp : Off pt 0x1024) (n : Nat) (errs : Nat) : Keeps pt s0 (s.countParity n errs) := by
  unfold State.countParity
  repeat' first
    | with_reducible assumption
    | exact hp.sub rfl
    | with_reducible first | apply State.raise1_keeps | apply State.raiseIf_keeps | apply Keeps.bump | apply Keeps.ite
    | with_reducible (refine Keeps.mk' hp ?_; first | assumption | apply State.raise1_keeps | apply State.raiseIf_keeps | apply Keeps.bump | apply Keeps.ite)

theorem State.laneLine_keeps {s : State} (h : Keeps pt s0 s) (hp : Off pt 0x20001124) (n : Nat) (r : Reading) (xs : List Int) (beyond : Nat) (line : Nat) (plane : Nat) : Keeps pt s0 (s.laneLine n r xs beyond line plane) := by
  unfold State.laneLine
  repeat' first
    | with_reducible assumption
    | exact hp.sub rfl
    | with_reducible first | apply State.countParity_keeps | apply State.closeFrame_keeps | apply Keeps.bump | apply Keeps.ite

theorem State.captureLine_keeps {s : State} (h : Keeps pt s0 s) (hp : Off pt 0x1000) (c : Capture) (n : Nat) (lost : Bool) (plane : Nat) (xs : List Int) (beyond : List Nat) : Keeps pt s0 (s.captureLine c n lost plane xs beyond) := by
  unfold State.captureLine
  repeat' first
    | with_reducible assumption
    | exact hp.sub rfl
    | with_reducible first | apply Keeps.ite
    | with_reducible (refine Keeps.mk' hp ?_; first | assumption | apply Keeps.ite)

theorem State.measureLine_keeps {s : State} (h : Keeps pt s0 s) (hp : Off pt 0x2000) (m : Measure) (n : Nat) (lost : Bool) (xs : List Int) (beyond : List Nat) : Keeps pt s0 (s.measureLine m n lost xs beyond) := by
  unfold State.measureLine
  repeat' first
    | with_reducible assumption
    | exact hp.sub rfl
    | with_reducible first | apply Keeps.ite
    | with_reducible (refine Keeps.mk' hp ?_; first | assumption | apply Keeps.ite)

theorem execChannelLineEnd_keeps (dt : Nat) (n : Fin 64) (codes : List Int) (s : State) (hp : Off pt 0x20003924) : ∃ t, (execChannelLineEnd dt n codes s) = .next t ∧ Keeps pt (s.pass dt) t := by
  unfold execChannelLineEnd
  refine event_keeps _ _ _ ?_
  repeat' first
    | with_reducible assumption
    | exact hp.sub rfl
    | intro _
    | with_reducible first | apply State.updReading_keeps | apply State.updFe_keeps | apply State.countOver_keeps | apply State.laneLine_keeps | apply State.captureLine_keeps | apply State.measureLine_keeps | apply Keeps.ite
    | split

theorem opClearPeaks_keeps (hp : Off pt 0x4) : OpKeeps pt s0 opClearPeaks := by
  intro v s h
  unfold opClearPeaks
  repeat' first
    | with_reducible assumption
    | exact hp.sub rfl
    | intro _
    | with_reducible first | apply Keeps.wr | apply Keeps.each

theorem execClearPeaks_keeps (dt : Nat) (m : Fin 17) (s : State) (hp : Off pt 0x40000534) : ∃ t, (execClearPeaks dt m s) = .next t ∧ Keeps pt (s.pass dt) t := by
  unfold execClearPeaks
  exact hostCommand_keeps _ _ _ _ _ _ (hp.sub rfl) (opClearPeaks_keeps (hp.sub rfl))

theorem opClearBits_keeps (hp : Off pt 0x4) : OpKeeps pt s0 opClearBits := by
  intro v s h
  unfold opClearBits
  repeat' first
    | with_reducible assumption
    | exact hp.sub rfl
    | with_reducible first | apply Keeps.wr

theorem execClearChannelBits_keeps (dt : Nat) (m : Fin 17) (s : State) (hp : Off pt 0x40000534) : ∃ t, (execClearChannelBits dt m s) = .next t ∧ Keeps pt (s.pass dt) t := by
  unfold execClearChannelBits
  exact hostCommand_keeps _ _ _ _ _ _ (hp.sub rfl) (opClearBits_keeps (hp.sub rfl))

end Sys2Proof.Machine
end

