-- ==== Sys2Proof/Laws/KeepsLines.lean ====
section
/-!
SUPPORT. The law of `Laws/Keeps.lean` for Ridge, Guyline, ring memory and the streams: one lemma per operation and
one per command, which says that the command gives a next state.
-/
set_option Elab.async false
namespace Sys2Proof.Machine

variable {pt : Part} {s0 : State}

/-! ## Ridge -/

theorem State.queueParity_keeps {s : State} (h : Keeps pt s0 s) (hp : Off pt 0x24) (n : Nat) (count : Nat) : Keeps pt s0 (s.queueParity n count) := by
  unfold State.queueParity
  repeat' first
    | with_reducible assumption
    | exact hp.sub rfl
    | with_reducible first | apply State.raise1_keeps | apply Keeps.bump | apply Keeps.ite

theorem State.setExpo_keeps {s : State} (h : Keeps pt s0 s) (hp : Off pt 0x100000) (i : Nat) (f : Expo → Expo) : Keeps pt s0 (s.setExpo i f) := by
  unfold State.setExpo
  repeat' first
    | with_reducible assumption
    | exact hp.sub rfl
    | with_reducible first | apply hf | apply Keeps.ite
    | with_reducible (refine Keeps.mk' hp ?_; first | assumption | apply hf | apply Keeps.ite)

theorem State.readFrame_keeps {s : State} (h : Keeps pt s0 s) (hp : Off pt 0x20100124) (n : Nat) (bad : List Nat) : Keeps pt s0 (s.readFrame n bad) := by
  unfold State.readFrame
  repeat' first
    | with_reducible assumption
    | exact hp.sub rfl
    | with_reducible first | apply State.updLineQ_keeps | apply State.queueParity_keeps | apply State.setExpo_keeps | apply Keeps.ite
    | (extract_lets +onlyGivenNames -underBinder a; fail_if_success (have : Keeps pt s0 a := by with_reducible assumption); with_reducible first | refine Keeps.use a ?_ fun _ => ?_)
    | split

theorem State.readQueue_keeps (n : Nat) (x1 : Nat) (x2 : List Nat) {x3 : State} (hx3 : Keeps pt s0 x3) (hp : Off pt 0x20100124) : Keeps pt s0 (State.readQueue n x1 x2 x3) := by
  induction x1 generalizing x3 x2 with
  | zero =>
    unfold State.readQueue
    repeat' first
      | with_reducible assumption
      | exact hp.sub rfl
      | with_reducible first | apply State.readFrame_keeps | apply Keeps.ite
  | succ n ih =>
    unfold State.readQueue
    repeat' first
      | with_reducible assumption
      | exact hp.sub rfl
      | with_reducible first | apply State.readFrame_keeps | apply ih | apply Keeps.ite

theorem State.readQueues_keeps {s : State} (h : Keeps pt s0 s) (hp : Off pt 0x20100124) (bad : List (Nat × Nat)) : Keeps pt s0 (s.readQueues bad) := by
  unfold State.readQueues
  repeat' first
    | with_reducible assumption
    | exact hp.sub rfl
    | intro _
    | with_reducible first | apply State.readQueue_keeps | apply Keeps.each | apply Keeps.ite

theorem State.finalise_keeps {s : State} (h : Keeps pt s0 s) (hp : Off pt 0x100004) (i : Nat) : Keeps pt s0 (s.finalise i) := by
  unfold State.finalise
  repeat' first
    | with_reducible assumption
    | exact hp.sub rfl
    | with_reducible first | apply State.setExpo_keeps | apply Keeps.bump | apply Keeps.ite
    | split

theorem State.finaliseAll_keeps {s : State} (h : Keeps pt s0 s) (hp : Off pt 0x100004) : Keeps pt s0 (s.finaliseAll) := by
  unfold State.finaliseAll
  repeat' first
    | with_reducible assumption
    | exact hp.sub rfl
    | intro _
    | with_reducible first | apply State.finalise_keeps | apply Keeps.each

theorem State.anchorGrids_keeps {s : State} (h : Keeps pt s0 s) (hp : Off pt 0x100000) : Keeps pt s0 (s.anchorGrids) := by
  unfold State.anchorGrids
  repeat' first
    | with_reducible assumption
    | exact hp.sub rfl
    | with_reducible first | apply Keeps.ite
    | with_reducible (refine Keeps.mk' hp ?_; first | assumption | apply Keeps.ite)

theorem State.absorbSwitches_keeps {s : State} (h : Keeps pt s0 s) (hp : Off pt 0x102000) : Keeps pt s0 (s.absorbSwitches) := by
  unfold State.absorbSwitches
  repeat' first
    | with_reducible assumption
    | exact hp.sub rfl
    | with_reducible (refine Keeps.mk' hp ?_; first | assumption)

theorem State.advanceGrid_keeps {s : State} (h : Keeps pt s0 s) (hp : Off pt 0x100000) : Keeps pt s0 (s.advanceGrid) := by
  unfold State.advanceGrid
  repeat' first
    | with_reducible assumption
    | exact hp.sub rfl
    | with_reducible first | apply Keeps.ite
    | with_reducible (refine Keeps.mk' hp ?_; first | assumption | apply Keeps.ite)
    | split

theorem State.geometryClamps_keeps {s : State} (h : Keeps pt s0 s) (hp : Off pt 0x34) : Keeps pt s0 (s.geometryClamps) := by
  unfold State.geometryClamps
  repeat' first
    | with_reducible assumption
    | exact hp.sub rfl
    | intro _
    | with_reducible first | apply State.ownClamp_keeps | apply Keeps.each | apply Keeps.eachOf | apply Keeps.ite

theorem State.ridgeEntry_keeps {s : State} (h : Keeps pt s0 s) (hp : Off pt 0x20100134) : Keeps pt s0 (s.ridgeEntry) := by
  unfold State.ridgeEntry
  repeat' first
    | with_reducible assumption
    | exact hp.sub rfl
    | intro _
    | with_reducible first | apply State.geometryClamps_keeps | apply State.showGrid_keeps | apply Keeps.wr | apply Keeps.each | apply Keeps.ite
    | with_reducible (refine Keeps.mk' hp ?_; first | assumption | apply State.geometryClamps_keeps | apply State.showGrid_keeps | apply Keeps.wr | apply Keeps.each | apply Keeps.ite)
    | dsimp only

/-! ## Guyline -/

theorem State.updSeam_keeps {s : State} (h : Keeps pt s0 s) (hp : Off pt 0x100000) (i : Nat) (f : Seam → Seam) : Keeps pt s0 (s.updSeam i f) := by
  unfold State.updSeam
  repeat' first
    | with_reducible assumption
    | exact hp.sub rfl
    | with_reducible first | apply hf
    | with_reducible (refine Keeps.mk' hp ?_; first | assumption | apply hf)

theorem State.windowLine_keeps {s : State} (h : Keeps pt s0 s) (hp : Off pt 0x100000) (d : SeamData) (overlap : Nat) : Keeps pt s0 (s.windowLine d overlap) := by
  unfold State.windowLine
  repeat' first
    | with_reducible assumption
    | exact hp.sub rfl
    | with_reducible first | apply State.updSeam_keeps | apply Keeps.ite

theorem State.windowEnd_keeps {s : State} (h : Keeps pt s0 s) (hp : Off pt 0x100034) (i : Nat) (ratio : Rat) (cut : Bool) : Keeps pt s0 (s.windowEnd i ratio cut) := by
  unfold State.windowEnd
  repeat' first
    | with_reducible assumption
    | exact hp.sub rfl
    | with_reducible first | apply State.updSeam_keeps | apply State.raiseIf_keeps | apply State.publish_keeps | apply Keeps.ite

theorem State.settleWindows_keeps {s : State} (h : Keeps pt s0 s) (hp : Off pt 0x100034) : Keeps pt s0 (s.settleWindows) := by
  unfold State.settleWindows
  repeat' first
    | with_reducible assumption
    | exact hp.sub rfl
    | intro _
    | with_reducible first | apply State.windowEnd_keeps | apply Keeps.each | apply Keeps.ite

theorem State.cutWindows_keeps {s : State} (h : Keeps pt s0 s) (hp : Off pt 0x100034) : Keeps pt s0 (s.cutWindows) := by
  unfold State.cutWindows
  repeat' first
    | with_reducible assumption
    | exact hp.sub rfl
    | intro _
    | with_reducible first | apply State.windowEnd_keeps | apply Keeps.each | apply Keeps.ite

theorem execGuylineWindowEnd_keeps (dt : Nat) (s : State) (hp : Off pt 0x100034) : ∃ t, (execGuylineWindowEnd dt s) = .next t ∧ Keeps pt (s.pass dt) t := by
  unfold execGuylineWindowEnd
  refine event_keeps _ _ _ ?_
  repeat' first
    | with_reducible assumption
    | exact hp.sub rfl
    | intro _
    | with_reducible first | apply State.settleWindows_keeps

theorem State.settleSlew_keeps {s : State} (h : Keeps pt s0 s) (hp : Off pt 0x100000) : Keeps pt s0 (s.settleSlew) := by
  unfold State.settleSlew
  repeat' first
    | with_reducible assumption
    | exact hp.sub rfl
    | intro _
    | with_reducible first | apply State.updSeam_keeps | apply Keeps.eachOf | apply Keeps.ite
    | with_reducible (refine Keeps.mk' hp ?_; first | assumption | apply State.updSeam_keeps | apply Keeps.eachOf | apply Keeps.ite)

theorem execGuylineSlewStep_keeps (dt : Nat) (s : State) (hp : Off pt 0x100000) : ∃ t, (execGuylineSlewStep dt s) = .next t ∧ Keeps pt (s.pass dt) t := by
  unfold execGuylineSlewStep
  refine event_keeps _ _ _ ?_
  repeat' first
    | with_reducible assumption
    | exact hp.sub rfl
    | intro _
    | with_reducible first | apply State.settleSlew_keeps

theorem execSeamFreezeEnd_keeps (dt : Nat) (s : State) (hp : Off pt 0x100000) : ∃ t, (execSeamFreezeEnd dt s) = .next t ∧ Keeps pt (s.pass dt) t := by
  unfold execSeamFreezeEnd
  refine event_keeps _ _ _ ?_
  repeat' first
    | with_reducible assumption
    | exact hp.sub rfl
    | intro _
    | with_reducible first | apply State.updSeam_keeps | apply Keeps.each | apply Keeps.ite
    | split

theorem opResetEstimates_keeps (hp : Off pt 0x100000) : OpKeeps pt s0 opResetEstimates := by
  intro v s h
  unfold opResetEstimates
  repeat' first
    | with_reducible assumption
    | exact hp.sub rfl
    | intro _
    | with_reducible first | apply State.updSeam_keeps | apply Keeps.each | apply Keeps.ite

theorem execResetEstimates_keeps (dt : Nat) (m : Fin 17) (s : State) (hp : Off pt 0x40100534) : ∃ t, (execResetEstimates dt m s) = .next t ∧ Keeps pt (s.pass dt) t := by
  unfold execResetEstimates
  exact hostCommand_keeps _ _ _ _ _ _ (hp.sub rfl) (opResetEstimates_keeps (hp.sub rfl))

theorem State.lineMade_keeps {s : State} (h : Keeps pt s0 s) (hp : Off pt 0x100024) (l : OutLine) (seams : List SeamData) (gap : Bool) : Keeps pt s0 (s.lineMade l seams gap) := by
  unfold State.lineMade
  repeat' first
    | with_reducible assumption
    | exact hp.sub rfl
    | intro _
    | with_reducible first | apply State.raiseIf_keeps | apply State.windowLine_keeps | apply Keeps.bump | apply Keeps.eachOf | apply Keeps.ite
    | with_reducible (refine Keeps.mk' hp ?_; first | assumption | apply State.raiseIf_keeps | apply State.windowLine_keeps | apply Keeps.bump | apply Keeps.eachOf | apply Keeps.ite)

theorem State.ridgeReady_keeps {s : State} (h : Keeps pt s0 s) (hp : Off pt 0x20102134) (bad : List (Nat × Nat)) : Keeps pt s0 (s.ridgeReady bad) := by
  unfold State.ridgeReady
  repeat' first
    | with_reducible assumption
    | exact hp.sub rfl
    | with_reducible first | apply State.settleSlew_keeps | apply State.settleWindows_keeps | apply State.anchorGrids_keeps | apply State.finaliseAll_keeps | apply State.absorbSwitches_keeps | apply State.readQueues_keeps | apply State.advanceGrid_keeps | apply State.cutWindows_keeps | apply Keeps.ite
    | with_reducible (refine Keeps.mk' hp ?_; first | assumption | apply State.settleSlew_keeps | apply State.settleWindows_keeps | apply State.anchorGrids_keeps | apply State.finaliseAll_keeps | apply State.absorbSwitches_keeps | apply State.readQueues_keeps | apply State.advanceGrid_keeps | apply State.cutWindows_keeps | apply Keeps.ite)

theorem State.ridgeLine_keeps {s : State} (h : Keeps pt s0 s) (hp : Off pt 0x100024) {force : Bool} {r : State × List OutLine}
    (hr : s.ridgeLine force = some r) : Keeps pt s0 r.1 := by
  have hk : ∀ (t : State) (x : RidgeSt), Keeps pt s0 t → Keeps pt s0 { t with rdg := x } := fun t x ht => by
    refine ⟨fun y => (ht.sound y).of rfl rfl rfl rfl rfl rfl rfl, ht.pend, ht.same.trans ?_⟩
    cases pt <;> first | rfl | exact absurd rfl (hp.ne rfl)
  unfold State.ridgeLine at hr
  split at hr
  · contradiction
  · split at hr
    · contradiction
    · extract_lets j c kinds rs b a at hr
      have ha : Keeps pt s0 a := hk _ _ h
      split at hr
      · contradiction
      · split at hr
        · obtain rfl := Option.some.inj hr
          exact hk _ _ (State.raiseIf_keeps ha (hp.sub rfl) _ _ _)
        · obtain rfl := Option.some.inj hr
          refine Keeps.foldl1 (fun acc b hb => ?_) _ ha
          split
          · exact State.lineMade_keeps hb (hp.sub rfl) _ _ _
          · exact hb

/-! ## RingMem -/

theorem State.ringPut_keeps {s : State} (h : Keeps pt s0 s) (hp : Off pt 0x800200) (o : Nat) (w : Nat) : Keeps pt s0 (s.ringPut o w) := by
  unfold State.ringPut
  repeat' first
    | with_reducible assumption
    | exact hp.sub rfl
    | with_reducible first | apply Keeps.ringStore

theorem opRing_keeps (o : Nat) (hp : Off pt 0x800200) : OpKeeps pt s0 (opRing o) := by
  intro v s h
  unfold opRing
  repeat' first
    | with_reducible assumption
    | exact hp.sub rfl
    | with_reducible first | apply State.ringPut_keeps | apply Keeps.ite
    | split

theorem State.ringWrite_keeps {s : State} (h : Keeps pt s0 s) (hp : Off pt 0x40800734) (n : Nat) (o : Nat) (w : Nat) : Keeps pt s0 (s.ringWrite n o w) := by
  unfold State.ringWrite
  repeat' first
    | with_reducible assumption
    | exact hp.sub rfl
    | with_reducible first | apply State.answer_keeps | apply opRing_keeps | apply Keeps.ite

theorem execRingMemoryWrite_keeps (dt : Nat) (n : Fin 16) (addr : Nat) (w : BitVec 32) (s : State) (hp : Off pt 0x40800734) : ∃ t, (execRingMemoryWrite dt n addr w s) = .next t ∧ Keeps pt (s.pass dt) t := by
  unfold execRingMemoryWrite
  refine ⟨_, rfl, ?_⟩
  repeat' first
    | with_reducible assumption
    | exact Keeps.refl _ _
    | exact hp.sub rfl
    | with_reducible first | apply State.ringWrite_keeps | apply State.answer_keeps | apply Keeps.ite
    | split

/-! ## Streams -/

theorem State.setRing_keeps {s : State} (h : Keeps pt s0 s) (hp : Off pt 0x4) (k : Nat) (r : Nat) (v : Nat) : Keeps pt s0 (s.setRing k r v) := by
  unfold State.setRing
  repeat' first
    | with_reducible assumption
    | exact hp.sub rfl
    | with_reducible first | apply Keeps.wr

theorem State.showLoads_keeps {s : State} (h : Keeps pt s0 s) (hp : Off pt 0x4) : Keeps pt s0 (s.showLoads) := by
  unfold State.showLoads
  repeat' first
    | with_reducible assumption
    | exact hp.sub rfl
    | intro _
    | with_reducible first | apply Keeps.wr | apply Keeps.each

theorem State.writeBack_keeps {s : State} (h : Keeps pt s0 s) (hp : Off pt 0x800200) (k : Nat) (r : Nat) (at_ : Nat) (status : Nat) (words : List (List Nat)) (served : Nat) (first : Nat) (lost : Nat) : Keeps pt s0 (s.writeBack k r at_ status words served first lost) := by
  unfold State.writeBack
  repeat' first
    | with_reducible assumption
    | exact hp.sub rfl
    | intro _
    | with_reducible first | apply State.ringPut_keeps | apply Keeps.foldl

theorem State.moveHead_keeps {s : State} (h : Keeps pt s0 s) (hp : Off pt 0x4) (k : Nat) (r : Nat) (n : Nat) : Keeps pt s0 (s.moveHead k r n) := by
  unfold State.moveHead
  repeat' first
    | with_reducible assumption
    | exact hp.sub rfl
    | with_reducible first | apply Keeps.wr

theorem State.fetch_keeps (k : Nat) (r : Nat) (x2 : Nat) {x3 : State} (hx3 : Keeps pt s0 x3) (hp : Off pt 0x800224) : Keeps pt s0 (State.fetch k r x2 x3) := by
  induction x2 generalizing x3 with
  | zero =>
    unfold State.fetch
    repeat' first
      | with_reducible assumption
      | exact hp.sub rfl
      | with_reducible first | apply State.updRing_keeps | apply State.setRing_keeps | apply State.writeBack_keeps | apply State.moveHead_keeps | apply State.raise1_keeps | apply State.showLoads_keeps | apply Keeps.wr | apply Keeps.bump | apply Keeps.ite
  | succ n ih =>
    unfold State.fetch
    repeat' first
      | with_reducible assumption
      | exact hp.sub rfl
      | with_reducible first | apply State.updRing_keeps | apply State.setRing_keeps | apply State.writeBack_keeps | apply State.moveHead_keeps | apply State.raise1_keeps | apply State.showLoads_keeps | apply Keeps.wr | apply Keeps.bump | apply ih | apply Keeps.ite

theorem State.fetchRing_keeps {s : State} (h : Keeps pt s0 s) (hp : Off pt 0x800224) (k : Nat) (r : Nat) : Keeps pt s0 (s.fetchRing k r) := by
  unfold State.fetchRing
  repeat' first
    | with_reducible assumption
    | exact hp.sub rfl
    | with_reducible first | apply State.fetch_keeps | apply Keeps.ite

theorem opDoorbell_keeps (k : Nat) (r : Nat) (hp : Off pt 0x800224) : OpKeeps pt s0 (opDoorbell k r) := by
  intro v s h
  unfold opDoorbell
  repeat' first
    | with_reducible assumption
    | exact hp.sub rfl
    | with_reducible first | apply State.updRing_keeps | apply State.fetchRing_keeps | apply Keeps.ite
    | split

theorem execDoorbell_keeps (dt : Nat) (m : Fin 17) (k : Fin 8) (r : Fin 3) (s : State) (hp : Off pt 0x40800734) : ∃ t, (execDoorbell dt m k r s) = .next t ∧ Keeps pt (s.pass dt) t := by
  unfold execDoorbell
  exact hostCommand_keeps _ _ _ _ _ _ (hp.sub rfl) (opDoorbell_keeps _ _ (hp.sub rfl))

theorem State.endChain_keeps {s : State} (h : Keeps pt s0 s) (hp : Off pt 0x800204) (k : Nat) (r : Nat) (status : Nat) (move : Bool) : Keeps pt s0 (s.endChain k r status move) := by
  unfold State.endChain
  repeat' first
    | with_reducible assumption
    | exact hp.sub rfl
    | with_reducible first | apply State.writeBack_keeps | apply State.moveHead_keeps | apply State.showLoads_keeps | apply State.updRing_keeps | apply Keeps.ite
    | split

theorem State.completeChain_keeps {s : State} (h : Keeps pt s0 s) (hp : Off pt 0x800224) (k : Nat) (r : Nat) : Keeps pt s0 (s.completeChain k r) := by
  unfold State.completeChain
  repeat' first
    | with_reducible assumption
    | exact hp.sub rfl
    | with_reducible first | apply State.endChain_keeps | apply State.fetchRing_keeps | apply State.raiseIf_keeps | apply Keeps.bump
    | split

theorem execChainComplete_keeps (dt : Nat) (k : Fin 8) (r : Fin 4) (s : State) (hp : Off pt 0x800224) : ∃ t, (execChainComplete dt k r s) = .next t ∧ Keeps pt (s.pass dt) t := by
  unfold execChainComplete
  refine event_keeps _ _ _ ?_
  repeat' first
    | with_reducible assumption
    | exact hp.sub rfl
    | intro _
    | with_reducible first | apply State.completeChain_keeps

theorem opStopRing_keeps (k : Nat) (r : Nat) (hp : Off pt 0x800224) : OpKeeps pt s0 (opStopRing k r) := by
  intro v s h
  unfold opStopRing
  repeat' first
    | with_reducible assumption
    | exact hp.sub rfl
    | with_reducible first | apply State.completeChain_keeps | apply State.updRing_keeps | apply State.endChain_keeps | apply State.raise1_keeps | apply State.setRing_keeps | apply Keeps.ite
    | split

theorem execStopRing_keeps (dt : Nat) (m : Fin 17) (k : Fin 8) (r : Fin 3) (s : State) (hp : Off pt 0x40800734) : ∃ t, (execStopRing dt m k r s) = .next t ∧ Keeps pt (s.pass dt) t := by
  unfold execStopRing
  exact hostCommand_keeps _ _ _ _ _ _ (hp.sub rfl) (opStopRing_keeps _ _ (hp.sub rfl))

theorem opResetHead_keeps (k : Nat) (r : Nat) (hp : Off pt 0x204) : OpKeeps pt s0 (opResetHead k r) := by
  intro v s h
  unfold opResetHead
  repeat' first
    | with_reducible assumption
    | exact hp.sub rfl
    | with_reducible first | apply State.updRing_keeps | apply Keeps.wr | apply Keeps.ite
    | split

theorem execResetHead_keeps (dt : Nat) (m : Fin 17) (k : Fin 8) (r : Fin 3) (s : State) (hp : Off pt 0x40000734) : ∃ t, (execResetHead dt m k r s) = .next t ∧ Keeps pt (s.pass dt) t := by
  unfold execResetHead
  exact hostCommand_keeps _ _ _ _ _ _ (hp.sub rfl) (opResetHead_keeps _ _ (hp.sub rfl))

theorem State.putMarker_keeps {s : State} (h : Keeps pt s0 s) (hp : Off pt 0x40000524) (st : Nat) (m : Marker) : Keeps pt s0 (s.putMarker st m) := by
  unfold State.putMarker
  repeat' first
    | with_reducible assumption
    | exact hp.sub rfl
    | with_reducible first | apply State.pushOrHold_keeps

theorem State.flushRun_keeps {s : State} (h : Keeps pt s0 s) (hp : Off pt 0x40000724) (st : Nat) : Keeps pt s0 (s.flushRun st) := by
  unfold State.flushRun
  repeat' first
    | with_reducible assumption
    | exact hp.sub rfl
    | with_reducible first | apply State.updStream_keeps | apply State.putMarker_keeps
    | split

theorem State.addRun_keeps {s : State} (h : Keeps pt s0 s) (hp : Off pt 0x40000724) (st : Nat) (first : Nat) (count : Nat) (cause : Nat) (pos : Int) (time : Nat) : Keeps pt s0 (s.addRun st first count cause pos time) := by
  unfold State.addRun
  repeat' first
    | with_reducible assumption
    | exact hp.sub rfl
    | with_reducible first | apply State.updStream_keeps | apply State.flushRun_keeps | apply Keeps.ite
    | split

theorem State.growCredits_keeps {s : State} (h : Keeps pt s0 s) (hp : Off pt 0x200) : Keeps pt s0 (s.growCredits) := by
  unfold State.growCredits
  repeat' first
    | with_reducible assumption
    | exact hp.sub rfl
    | with_reducible first | apply Keeps.foldl
    | with_reducible (refine Keeps.mk' hp ?_; first | assumption | apply Keeps.foldl)

theorem State.pushAll_keeps {s : State} (h : Keeps pt s0 s) (hp : Off pt 0x40000524) (l : List (Nat × Packet)) : Keeps pt s0 (s.pushAll l) := by
  unfold State.pushAll
  repeat' first
    | with_reducible assumption
    | exact hp.sub rfl
    | intro _
    | with_reducible first | apply State.startLinks_keeps | apply State.push_keeps | apply Keeps.eachOf | apply Keeps.ite

theorem State.dropLine_keeps {s : State} (h : Keeps pt s0 s) (hp : Off pt 0x40000724) (l : OutLine) (st : Nat) (cause : Nat) (parts : List (Nat × List Packet)) : Keeps pt s0 (s.dropLine l st cause parts) := by
  unfold State.dropLine
  repeat' first
    | with_reducible assumption
    | exact hp.sub rfl
    | intro _
    | with_reducible first | apply State.raiseIf_keeps | apply State.addRun_keeps | apply Keeps.bump | apply Keeps.eachOf

theorem State.sendStream_keeps {s : State} (h : Keeps pt s0 s) (hp : Off pt 0x40000724) (l : OutLine) (st : Nat) (peg : Bool) (parts : List (Nat × List Desc)) : Keeps pt s0 (s.sendStream l st peg parts).1 := by
  unfold State.sendStream
  repeat' first
    | with_reducible assumption
    | exact hp.sub rfl
    | intro _
    | with_reducible first | apply State.growCredits_keeps | apply State.dropLine_keeps | apply State.flushRun_keeps | apply State.pushAll_keeps | apply State.updStream_keeps | apply Keeps.bump | apply Keeps.eachOf | apply Keeps.ite
    | (extract_lets +onlyGivenNames -underBinder a; fail_if_success (have : Keeps pt s0 a := by with_reducible assumption); fail_if_success (have : Keeps pt s0 a.1 := by with_reducible assumption); with_reducible first | refine Keeps.use a ?_ fun _ => ?_ | refine Keeps.use1 a ?_ fun _ => ?_)
    | with_reducible (refine Keeps.mk' hp ?_; first | assumption | apply State.growCredits_keeps | apply State.dropLine_keeps | apply State.flushRun_keeps | apply State.pushAll_keeps | apply State.updStream_keeps | apply Keeps.bump | apply Keeps.eachOf | apply Keeps.ite)
    | split

theorem State.countServed_keeps {s : State} (h : Keeps pt s0 s) (hp : Off pt 0x200) (j : Nat) (dropped : List Nat) : Keeps pt s0 (s.countServed j dropped) := by
  unfold State.countServed
  repeat' first
    | with_reducible assumption
    | exact hp.sub rfl
    | intro _
    | with_reducible first | apply State.updRing_keeps | apply Keeps.eachOf | apply Keeps.ite

theorem State.jobMarker_keeps {s : State} (h : Keeps pt s0 s) (hp : Off pt 0x40000524) (l : OutLine) : Keeps pt s0 (s.jobMarker l) := by
  unfold State.jobMarker
  repeat' first
    | with_reducible assumption
    | exact hp.sub rfl
    | intro _
    | with_reducible first | apply State.putMarker_keeps | apply Keeps.eachOf
    | split

theorem State.omittedMarker_keeps {s : State} (h : Keeps pt s0 s) (hp : Off pt 0x40100724) : Keeps pt s0 (s.omittedMarker) := by
  unfold State.omittedMarker
  repeat' first
    | with_reducible assumption
    | exact hp.sub rfl
    | intro _
    | with_reducible first | apply State.addRun_keeps | apply Keeps.eachOf
    | with_reducible (refine Keeps.mk' hp ?_; first | assumption | apply State.addRun_keeps | apply Keeps.eachOf)
    | split

theorem State.ringZeroSwitch_keeps {s : State} (h : Keeps pt s0 s) (hp : Off pt 0x800204) (l : OutLine) : Keeps pt s0 (s.ringZeroSwitch l) := by
  unfold State.ringZeroSwitch
  repeat' first
    | with_reducible assumption
    | exact hp.sub rfl
    | intro _
    | with_reducible first | apply State.showLoads_keeps | apply State.ringPut_keeps | apply State.updRing_keeps | apply Keeps.wr | apply Keeps.eachOf

theorem State.deliverNative_keeps {s : State} (h : Keeps pt s0 s) (hp : Off pt 0x40900724) (l : OutLine) : Keeps pt s0 (s.deliverNative l) := by
  unfold State.deliverNative
  repeat' first
    | with_reducible assumption
    | exact hp.sub rfl
    | intro _
    | with_reducible first | apply State.jobMarker_keeps | apply State.omittedMarker_keeps | apply State.ringZeroSwitch_keeps | apply State.addRun_keeps | apply State.sendStream_keeps | apply State.countServed_keeps | apply Keeps.eachOf | apply Keeps.foldl | apply Keeps.foldl1 | apply Keeps.ite

theorem State.beginCompat_keeps {s : State} (h : Keeps pt s0 s) (hp : Off pt 0x204) (repeating : Bool) : Keeps pt s0 (s.beginCompat repeating) := by
  unfold State.beginCompat
  repeat' first
    | with_reducible assumption
    | exact hp.sub rfl
    | with_reducible first | apply Keeps.wr
    | with_reducible (refine Keeps.mk' hp ?_; first | assumption | apply Keeps.wr)

theorem opCompat_keeps (hp : Off pt 0x224) : OpKeeps pt s0 opCompat := by
  intro v s h
  unfold opCompat
  repeat' first
    | with_reducible assumption
    | exact hp.sub rfl
    | with_reducible first | apply State.raise1_keeps | apply State.report_keeps | apply State.beginCompat_keeps | apply Keeps.wr | apply Keeps.ite
    | (extract_lets +onlyGivenNames -underBinder a; fail_if_success (have : Keeps pt s0 a := by with_reducible assumption); with_reducible first | refine Keeps.use a ?_ fun _ => ?_)
    | with_reducible (refine Keeps.mk' hp ?_; first | assumption | apply State.raise1_keeps | apply State.report_keeps | apply State.beginCompat_keeps | apply Keeps.wr | apply Keeps.ite)
    | split

theorem execStartCompatTransfer_keeps (dt : Nat) (m : Fin 17) (s : State) (hp : Off pt 0x40000734) : ∃ t, (execStartCompatTransfer dt m s) = .next t ∧ Keeps pt (s.pass dt) t := by
  unfold execStartCompatTransfer
  exact hostCommand_keeps _ _ _ _ _ _ (hp.sub rfl) (opCompat_keeps (hp.sub rfl))

theorem execStopCompatTransfer_keeps (dt : Nat) (m : Fin 17) (s : State) (hp : Off pt 0x40000734) : ∃ t, (execStopCompatTransfer dt m s) = .next t ∧ Keeps pt (s.pass dt) t := by
  unfold execStopCompatTransfer
  exact hostCommand_keeps _ _ _ _ _ _ (hp.sub rfl) (opCompat_keeps (hp.sub rfl))

theorem State.compatDone_keeps {s : State} (h : Keeps pt s0 s) (hp : Off pt 0x224) : Keeps pt s0 (s.compatDone) := by
  unfold State.compatDone
  repeat' first
    | with_reducible assumption
    | exact hp.sub rfl
    | with_reducible first | apply State.raise1_keeps | apply State.beginCompat_keeps | apply Keeps.wr | apply Keeps.bump | apply Keeps.ite
    | with_reducible (refine Keeps.mk' hp ?_; first | assumption | apply State.raise1_keeps | apply State.beginCompat_keeps | apply Keeps.wr | apply Keeps.bump | apply Keeps.ite)
    | split

theorem execCompatTransferComplete_keeps (dt : Nat) (s : State) (hp : Off pt 0x224) : ∃ t, (execCompatTransferComplete dt s) = .next t ∧ Keeps pt (s.pass dt) t := by
  unfold execCompatTransferComplete
  refine event_keeps _ _ _ ?_
  repeat' first
    | with_reducible assumption
    | exact hp.sub rfl
    | intro _
    | with_reducible first | apply State.compatDone_keeps

theorem State.compatAbort_keeps {s : State} (h : Keeps pt s0 s) (hp : Off pt 0x224) : Keeps pt s0 (s.compatAbort) := by
  unfold State.compatAbort
  repeat' first
    | with_reducible assumption
    | exact hp.sub rfl
    | with_reducible first | apply State.raise1_keeps | apply Keeps.wr | apply Keeps.ite
    | with_reducible (refine Keeps.mk' hp ?_; first | assumption | apply State.raise1_keeps | apply Keeps.wr | apply Keeps.ite)
    | split

theorem State.deliverCompat_keeps {s : State} (h : Keeps pt s0 s) (hp : Off pt 0x40000724) (l : OutLine) : Keeps pt s0 (s.deliverCompat l) := by
  unfold State.deliverCompat
  repeat' first
    | with_reducible assumption
    | exact hp.sub rfl
    | with_reducible first | apply State.compatDone_keeps | apply State.sendStream_keeps | apply State.flushRun_keeps | apply State.startLinks_keeps | apply State.push_keeps | apply Keeps.wr | apply Keeps.bump | apply Keeps.ite
    | (extract_lets +onlyGivenNames -underBinder a; fail_if_success (have : Keeps pt s0 a := by with_reducible assumption); fail_if_success (have : Keeps pt s0 a.1 := by with_reducible assumption); with_reducible first | refine Keeps.use a ?_ fun _ => ?_ | refine Keeps.use1 a ?_ fun _ => ?_)
    | with_reducible (refine Keeps.mk' hp ?_; first | assumption | apply State.compatDone_keeps | apply State.sendStream_keeps | apply State.flushRun_keeps | apply State.startLinks_keeps | apply State.push_keeps | apply Keeps.wr | apply Keeps.bump | apply Keeps.ite)
    | split

theorem State.deliverLine_keeps {s : State} (h : Keeps pt s0 s) (hp : Off pt 0x40900724) (l : OutLine) : Keeps pt s0 (s.deliverLine l) := by
  unfold State.deliverLine
  repeat' first
    | with_reducible assumption
    | exact hp.sub rfl
    | with_reducible first | apply State.deliverCompat_keeps | apply State.deliverNative_keeps | apply Keeps.ite

theorem State.admitLines_keeps (x0 : Nat) {x1 : State} (hx1 : Keeps pt s0 x1) (hp : Off pt 0x40000724) : Keeps pt s0 (State.admitLines x0 x1) := by
  induction x0 generalizing x1 with
  | zero =>
    unfold State.admitLines
    repeat' first
      | with_reducible assumption
      | exact hp.sub rfl
      | with_reducible first | apply State.pushAll_keeps | apply Keeps.ite
      | with_reducible (refine Keeps.mk' hp ?_; first | assumption | apply State.pushAll_keeps | apply Keeps.ite)
      | split
  | succ n ih =>
    unfold State.admitLines
    repeat' first
      | with_reducible assumption
      | exact hp.sub rfl
      | with_reducible first | apply State.pushAll_keeps | apply ih | apply Keeps.ite
      | with_reducible (refine Keeps.mk' hp ?_; first | assumption | apply State.pushAll_keeps | apply ih | apply Keeps.ite)
      | split

theorem State.spaceFreed_keeps {s : State} (h : Keeps pt s0 s) (hp : Off pt 0x40000724) (k : Nat) : Keeps pt s0 (s.spaceFreed k) := by
  unfold State.spaceFreed
  repeat' first
    | with_reducible assumption
    | exact hp.sub rfl
    | with_reducible first | apply State.startLinks_keeps | apply State.admitHeld_keeps | apply State.admitLines_keeps

theorem execEgressSpaceFreed_keeps (dt : Nat) (k : Fin 8) (s : State) (hp : Off pt 0x40000724) : ∃ t, (execEgressSpaceFreed dt k s) = .next t ∧ Keeps pt (s.pass dt) t := by
  unfold execEgressSpaceFreed
  refine event_keeps _ _ _ ?_
  repeat' first
    | with_reducible assumption
    | exact hp.sub rfl
    | intro _
    | with_reducible first | apply State.spaceFreed_keeps

theorem State.pegLeft_keeps {s : State} (h : Keeps pt s0 s) (hp : Off pt 0x200024) : Keeps pt s0 (s.pegLeft) := by
  unfold State.pegLeft
  repeat' first
    | with_reducible assumption
    | exact hp.sub rfl
    | with_reducible first | apply State.raise1_keeps | apply Keeps.ite
    | with_reducible (refine Keeps.mk' hp ?_; first | assumption | apply State.raise1_keeps | apply Keeps.ite)

theorem State.deliverLines_keeps {s : State} (h : Keeps pt s0 s) (hp : Off pt 0x40b00724) (ls : List OutLine) : Keeps pt s0 (s.deliverLines ls) := by
  unfold State.deliverLines
  repeat' first
    | with_reducible assumption
    | exact hp.sub rfl
    | intro _
    | with_reducible first | apply State.pegLeft_keeps | apply State.deliverLine_keeps | apply Keeps.eachOf

theorem State.pegMarker_keeps {s : State} (h : Keeps pt s0 s) (hp : Off pt 0x40000524) (j : Nat) (cause : Nat) : Keeps pt s0 (s.pegMarker j cause) := by
  unfold State.pegMarker
  repeat' first
    | with_reducible assumption
    | exact hp.sub rfl
    | intro _
    | with_reducible first | apply State.putMarker_keeps | apply Keeps.eachOf

theorem State.fixPeg_keeps {s : State} (h : Keeps pt s0 s) (hp : Off pt 0x40200524) : Keeps pt s0 (s.fixPeg) := by
  unfold State.fixPeg
  repeat' first
    | with_reducible assumption
    | exact hp.sub rfl
    | with_reducible first | apply State.raise1_keeps | apply State.pegMarker_keeps | apply Keeps.wr | apply Keeps.bump
    | with_reducible (refine Keeps.mk' hp ?_; first | assumption | apply State.raise1_keeps | apply State.pegMarker_keeps | apply Keeps.wr | apply Keeps.bump)
    | split

theorem State.produceLine_keeps {s : State} (h : Keeps pt s0 s) (hp : Off pt 0x60b02734) (bad : List (Nat × Nat)) : Keeps pt s0 (s.produceLine bad) := by
  have h1 := State.ridgeReady_keeps h (hp.sub rfl) bad
  unfold State.produceLine
  dsimp only
  split
  · exact Keeps.ite (State.fixPeg_keeps h1 (hp.sub rfl)) h1
  · next t ls e => exact State.deliverLines_keeps (State.ridgeLine_keeps h1 (hp.sub rfl) e) (hp.sub rfl) ls

theorem State.nextLine_keeps {s : State} (h : Keeps pt s0 s) (hp : Off pt 0x60b02734) (force : Bool) {rest : State → State}
    (hr : ∀ t, Keeps pt s0 t → Keeps pt s0 (rest t)) : Keeps pt s0 (State.nextLine force rest s) := by
  have h1 := State.ridgeReady_keeps h (hp.sub rfl) []
  unfold State.nextLine
  dsimp only
  split
  · exact h1
  · next t ls e => exact hr _ (State.deliverLines_keeps (State.ridgeLine_keeps h1 (hp.sub rfl) e) (hp.sub rfl) ls)

theorem State.allLines_keeps {s : State} (h : Keeps pt s0 s) (hp : Off pt 0x60b02734) (force : Bool) (n : Nat) :
    Keeps pt s0 (State.allLines force n s) := by
  induction n generalizing s with
  | zero => exact h
  | succ n ih => exact State.nextLine_keeps h (hp.sub rfl) force fun _ ht => ih ht

theorem execOutputLineProduced_keeps (dt : Nat) (bad : List (Nat × Nat)) (s : State) (hp : Off pt 0x60b02734) : ∃ t, (execOutputLineProduced dt bad s) = .next t ∧ Keeps pt (s.pass dt) t := by
  unfold execOutputLineProduced
  refine event_keeps _ _ _ ?_
  repeat' first
    | with_reducible assumption
    | exact hp.sub rfl
    | intro _
    | with_reducible first | apply State.produceLine_keeps

theorem State.streamsEntry_keeps {s : State} (h : Keeps pt s0 s) (hp : Off pt 0x800224) : Keeps pt s0 (s.streamsEntry) := by
  unfold State.streamsEntry
  repeat' first
    | with_reducible assumption
    | exact hp.sub rfl
    | intro _
    | with_reducible first | apply State.setRing_keeps | apply State.updRing_keeps | apply State.fetchRing_keeps | apply State.showLoads_keeps | apply Keeps.wr | apply Keeps.each | apply Keeps.ringStore | apply Keeps.foldl | apply Keeps.ite
    | with_reducible (refine Keeps.mk' hp ?_; first | assumption | apply State.setRing_keeps | apply State.updRing_keeps | apply State.fetchRing_keeps | apply State.showLoads_keeps | apply Keeps.wr | apply Keeps.each | apply Keeps.ringStore | apply Keeps.foldl | apply Keeps.ite)
    | dsimp only

theorem State.streamsExit_keeps {s : State} (h : Keeps pt s0 s) (hp : Off pt 0x60b02734) (finish : Bool) : Keeps pt s0 (s.streamsExit finish) := by
  unfold State.streamsExit
  repeat' first
    | with_reducible assumption
    | exact hp.sub rfl
    | intro _
    | with_reducible first | apply State.allLines_keeps | apply State.ridgeReady_keeps | apply State.cutWindows_keeps | apply State.omittedMarker_keeps | apply State.addRun_keeps | apply State.flushRun_keeps | apply State.endChain_keeps | apply State.compatAbort_keeps | apply Keeps.wr | apply Keeps.each | apply Keeps.eachOf | apply Keeps.ite
    | with_reducible (refine Keeps.mk' hp ?_; first | assumption | apply State.allLines_keeps | apply State.ridgeReady_keeps | apply State.cutWindows_keeps | apply State.omittedMarker_keeps | apply State.addRun_keeps | apply State.flushRun_keeps | apply State.endChain_keeps | apply State.compatAbort_keeps | apply Keeps.wr | apply Keeps.each | apply Keeps.eachOf | apply Keeps.ite)

/-! ## DevBase -/

theorem State.toState_keeps {s : State} (h : Keeps pt s0 s) (hp : Off pt 0xc) (d : DevState) : Keeps pt s0 (s.toState d) := by
  unfold State.toState
  repeat' first
    | with_reducible assumption
    | exact hp.sub rfl
    | with_reducible first | apply Keeps.bump
    | with_reducible (refine Keeps.mk' hp ?_; first | assumption | apply Keeps.bump)

theorem State.atBoundary_keeps {s : State} (h : Keeps pt s0 s) (hp : Off pt 0x8) (d : DevState) : Keeps pt s0 (s.atBoundary d) := by
  unfold State.atBoundary
  repeat' first
    | with_reducible assumption
    | exact hp.sub rfl
    | with_reducible (refine Keeps.mk' hp ?_; first | assumption)

theorem State.faultPause_keeps {s : State} (h : Keeps pt s0 s) (hp : Off pt 0x8) : Keeps pt s0 (s.faultPause) := by
  unfold State.faultPause
  repeat' first
    | with_reducible assumption
    | exact hp.sub rfl
    | with_reducible first | apply State.atBoundary_keeps | apply Keeps.ite

end Sys2Proof.Machine
end

