-- ==== Sys2Proof/Laws/KeepsSupply.lean ====
section
/-!
SUPPORT. The law of `Laws/Keeps.lean` for the transport, Casby, updates, trim, the links, the supply and Canteen: one lemma per operation and
one per command, which says that the command gives a next state.
-/
set_option Elab.async false
namespace Sys2Proof.Machine

variable {pt : Part} {s0 : State}

/-! ## Transport -/

theorem State.updTrn_keeps {s : State} (h : Keeps pt s0 s) (hp : Off pt 0x200000) (f : TransportSt → TransportSt) : Keeps pt s0 (s.updTrn f) := by
  unfold State.updTrn
  repeat' first
    | with_reducible assumption
    | exact hp.sub rfl
    | with_reducible first | apply hf
    | with_reducible (refine Keeps.mk' hp ?_; first | assumption | apply hf)

theorem State.divide_keeps {s : State} (h : Keeps pt s0 s) (hp : Off pt 0x6830a4) (t' : Nat) (p : Int) (origin : Nat) : Keeps pt s0 (s.divide t' p origin) := by
  unfold State.divide
  repeat' first
    | with_reducible assumption
    | exact hp.sub rfl
    | with_reducible first | apply State.updTrn_keeps | apply State.ownTrigger_keeps | apply Keeps.bump | apply Keeps.ite
    | split

theorem State.againstPress_keeps {s : State} (h : Keeps pt s0 s) (hp : Off pt 0x200024) (step : Int) : Keeps pt s0 (s.againstPress step) := by
  unfold State.againstPress
  repeat' first
    | with_reducible assumption
    | exact hp.sub rfl
    | with_reducible first | apply State.updTrn_keeps | apply State.raise1_keeps | apply State.wrBit_keeps | apply Keeps.ite
    | split

theorem State.againstCommand_keeps {s : State} (h : Keeps pt s0 s) (hp : Off pt 0x200024) (step : Int) : Keeps pt s0 (s.againstCommand step) := by
  unfold State.againstCommand
  repeat' first
    | with_reducible assumption
    | exact hp.sub rfl
    | with_reducible first | apply State.updTrn_keeps | apply State.raise1_keeps | apply State.wrBit_keeps | apply Keeps.ite

theorem State.encoderCount_keeps {s : State} (h : Keeps pt s0 s) (hp : Off pt 0x6830a4) (step : Int) : Keeps pt s0 (s.encoderCount step) := by
  unfold State.encoderCount
  repeat' first
    | with_reducible assumption
    | exact hp.sub rfl
    | with_reducible first | apply State.updTrn_keeps | apply State.againstCommand_keeps | apply State.againstPress_keeps | apply State.addEdge_keeps | apply State.divide_keeps | apply Keeps.ite

theorem State.illegalTransition_keeps {s : State} (h : Keeps pt s0 s) (hp : Off pt 0x200024) : Keeps pt s0 (s.illegalTransition) := by
  unfold State.illegalTransition
  repeat' first
    | with_reducible assumption
    | exact hp.sub rfl
    | with_reducible first | apply State.updTrn_keeps | apply State.raiseIf_keeps | apply Keeps.bump

theorem execEncoderEdge_keeps (dt : Nat) (a : Bool) (b : Bool) (s : State) (hp : Off pt 0x6830a4) : ∃ t, (execEncoderEdge dt a b s) = .next t ∧ Keeps pt (s.arrive dt) t := by
  unfold execEncoderEdge
  refine timed_keeps _ _ _ ?_
  repeat' first
    | with_reducible assumption
    | exact hp.sub rfl
    | intro _
    | with_reducible first | apply State.updTrn_keeps | apply State.illegalTransition_keeps | apply State.encoderCount_keeps | apply Keeps.ite

theorem execIllegalRunEnd_keeps (dt : Nat) (s : State) (hp : Off pt 0x200000) : ∃ t, (execIllegalRunEnd dt s) = .next t ∧ Keeps pt (s.pass dt) t := by
  unfold execIllegalRunEnd
  refine event_keeps _ _ _ ?_
  repeat' first
    | with_reducible assumption
    | exact hp.sub rfl
    | intro _
    | with_reducible first | apply State.updTrn_keeps

theorem execEncoderZEdge_keeps (dt : Nat) (s : State) (hp : Off pt 0x200024) : ∃ t, (execEncoderZEdge dt s) = .next t ∧ Keeps pt (s.arrive dt) t := by
  unfold execEncoderZEdge
  refine timed_keeps _ _ _ ?_
  repeat' first
    | with_reducible assumption
    | exact hp.sub rfl
    | intro _
    | with_reducible first | apply State.updTrn_keeps | apply State.raise1_keeps | apply Keeps.wr | apply Keeps.bump | apply Keeps.ite

theorem opZeroNext_keeps (hp : Off pt 0x200000) : OpKeeps pt s0 opZeroNext := by
  intro v s h
  unfold opZeroNext
  repeat' first
    | with_reducible assumption
    | exact hp.sub rfl
    | with_reducible first | apply State.updTrn_keeps

theorem execZeroAtNextZ_keeps (dt : Nat) (m : Fin 17) (s : State) (hp : Off pt 0x40200534) : ∃ t, (execZeroAtNextZ dt m s) = .next t ∧ Keeps pt (s.pass dt) t := by
  unfold execZeroAtNextZ
  exact hostCommand_keeps _ _ _ _ _ _ (hp.sub rfl) (opZeroNext_keeps (hp.sub rfl))

theorem execEncoderLineOpen_keeps (dt : Nat) (pair : Fin 3) (s : State) (hp : Off pt 0x24) : ∃ t, (execEncoderLineOpen dt pair s) = .next t ∧ Keeps pt (s.arrive dt) t := by
  unfold execEncoderLineOpen
  refine timed_keeps _ _ _ ?_
  repeat' first
    | with_reducible assumption
    | exact hp.sub rfl
    | intro _
    | with_reducible first | apply State.raise1_keeps | apply State.wrBit_keeps

theorem State.breakMarker_keeps {s : State} (h : Keeps pt s0 s) (hp : Off pt 0x40000724) : Keeps pt s0 (s.breakMarker) := by
  unfold State.breakMarker
  repeat' first
    | with_reducible assumption
    | exact hp.sub rfl
    | intro _
    | with_reducible first | apply State.updStream_keeps | apply State.putMarker_keeps | apply State.flushRun_keeps | apply Keeps.eachOf | apply Keeps.ite

theorem execEncoderLineRestored_keeps (dt : Nat) (pair : Fin 3) (s : State) (hp : Off pt 0x40000724) : ∃ t, (execEncoderLineRestored dt pair s) = .next t ∧ Keeps pt (s.arrive dt) t := by
  unfold execEncoderLineRestored
  refine timed_keeps _ _ _ ?_
  repeat' first
    | with_reducible assumption
    | exact hp.sub rfl
    | intro _
    | with_reducible first | apply State.wrBit_keeps | apply State.raise1_keeps | apply State.breakMarker_keeps | apply Keeps.ite

theorem execPressSpeedMismatch_keeps (dt : Nat) (s : State) (hp : Off pt 0x200024) : ∃ t, (execPressSpeedMismatch dt s) = .next t ∧ Keeps pt (s.pass dt) t := by
  unfold execPressSpeedMismatch
  refine event_keeps _ _ _ ?_
  repeat' first
    | with_reducible assumption
    | exact hp.sub rfl
    | intro _
    | with_reducible first | apply State.raise1_keeps | apply State.wrBit_keeps | apply State.updTrn_keeps | apply Keeps.ite

theorem execPressOverspeed_keeps (dt : Nat) (s : State) (hp : Off pt 0x200024) : ∃ t, (execPressOverspeed dt s) = .next t ∧ Keeps pt (s.pass dt) t := by
  unfold execPressOverspeed
  refine event_keeps _ _ _ ?_
  repeat' first
    | with_reducible assumption
    | exact hp.sub rfl
    | intro _
    | with_reducible first | apply State.updTrn_keeps | apply State.raise1_keeps

theorem execEncoderStatusClear_keeps (dt : Nat) (s : State) (hp : Off pt 0x4) : ∃ t, (execEncoderStatusClear dt s) = .next t ∧ Keeps pt (s.pass dt) t := by
  unfold execEncoderStatusClear
  refine event_keeps _ _ _ ?_
  repeat' first
    | with_reducible assumption
    | exact hp.sub rfl
    | intro _
    | with_reducible first | apply State.wrBit_keeps | apply Keeps.ite

theorem execTransportStopTimeout_keeps (dt : Nat) (s : State) (hp : Off pt 0x200000) : ∃ t, (execTransportStopTimeout dt s) = .next t ∧ Keeps pt (s.arrive dt) t := by
  unfold execTransportStopTimeout
  refine timed_keeps _ _ _ ?_
  repeat' first
    | with_reducible assumption
    | exact hp.sub rfl
    | intro _
    | with_reducible first | apply State.updTrn_keeps

theorem State.setPacing_keeps {s : State} (h : Keeps pt s0 s) (hp : Off pt 0x4) (v : Nat) : Keeps pt s0 (s.setPacing v) := by
  unfold State.setPacing
  repeat' first
    | with_reducible assumption
    | exact hp.sub rfl
    | with_reducible first | apply Keeps.wr

theorem State.updProf_keeps {s : State} (h : Keeps pt s0 s) (hp : Off pt 0x200000) (f : Profile → Profile) : Keeps pt s0 (s.updProf f) := by
  unfold State.updProf
  repeat' first
    | with_reducible assumption
    | exact hp.sub rfl
    | with_reducible first | apply State.updTrn_keeps | apply hf

theorem State.readyMotor_keeps {s : State} (h : Keeps pt s0 s) (hp : Off pt 0x200000) : Keeps pt s0 (s.readyMotor) := by
  unfold State.readyMotor
  repeat' first
    | with_reducible assumption
    | exact hp.sub rfl
    | with_reducible first | apply State.updTrn_keeps | apply State.updProf_keeps | apply Keeps.ite

theorem State.headFor_keeps {s : State} (h : Keeps pt s0 s) (hp : Off pt 0x200000) (v : Int) : Keeps pt s0 (s.headFor v) := by
  unfold State.headFor
  repeat' first
    | with_reducible assumption
    | exact hp.sub rfl
    | with_reducible first | apply State.updProf_keeps | apply Keeps.ite

theorem State.restTable_keeps {s : State} (h : Keeps pt s0 s) (hp : Off pt 0x200000) : Keeps pt s0 (s.restTable) := by
  unfold State.restTable
  repeat' first
    | with_reducible assumption
    | exact hp.sub rfl
    | with_reducible first | apply State.updTrn_keeps | apply State.updProf_keeps

theorem State.decideStop_keeps {s : State} (h : Keeps pt s0 s) (hp : Off pt 0x200084) (cause : Nat) : Keeps pt s0 (s.decideStop cause) := by
  unfold State.decideStop
  repeat' first
    | with_reducible assumption
    | exact hp.sub rfl
    | intro _
    | with_reducible first | apply State.updGroup_keeps | apply State.updTrn_keeps | apply Keeps.wr | apply Keeps.each

theorem State.pegStop_keeps {s : State} (h : Keeps pt s0 s) (hp : Off pt 0x200084) (cause : Nat) : Keeps pt s0 (s.pegStop cause) := by
  unfold State.pegStop
  repeat' first
    | with_reducible assumption
    | exact hp.sub rfl
    | with_reducible first | apply State.updProf_keeps | apply State.setPacing_keeps | apply State.decideStop_keeps | apply Keeps.wr | apply Keeps.ite

theorem State.motorStop_keeps {s : State} (h : Keeps pt s0 s) (hp : Off pt 0x20008c) : Keeps pt s0 (s.motorStop) := by
  unfold State.motorStop
  repeat' first
    | with_reducible assumption
    | exact hp.sub rfl
    | with_reducible first | apply State.decideStop_keeps | apply State.updTrn_keeps | apply State.restTable_keeps | apply State.faultPause_keeps | apply State.setPacing_keeps | apply Keeps.wr | apply Keeps.ite

theorem State.beginBacking_keeps {s : State} (h : Keeps pt s0 s) (hp : Off pt 0x200004) : Keeps pt s0 (s.beginBacking) := by
  unfold State.beginBacking
  repeat' first
    | with_reducible assumption
    | exact hp.sub rfl
    | with_reducible first | apply State.setPacing_keeps | apply State.readyMotor_keeps | apply State.headFor_keeps | apply State.updProf_keeps

theorem State.beginRestart_keeps {s : State} (h : Keeps pt s0 s) (hp : Off pt 0x200084) : Keeps pt s0 (s.beginRestart) := by
  unfold State.beginRestart
  repeat' first
    | with_reducible assumption
    | exact hp.sub rfl
    | intro _
    | with_reducible first | apply State.setPacing_keeps | apply State.readyMotor_keeps | apply State.headFor_keeps | apply State.updGroup_keeps | apply State.updTrn_keeps | apply Keeps.each

theorem State.resumePaced_keeps {s : State} (h : Keeps pt s0 s) (hp : Off pt 0x200084) : Keeps pt s0 (s.resumePaced).1 := by
  unfold State.resumePaced
  repeat' first
    | with_reducible assumption
    | exact hp.sub rfl
    | with_reducible first | apply State.beginRestart_keeps | apply State.updTrn_keeps | apply State.beginBacking_keeps | apply Keeps.ite
    | split

theorem execDecelerationDone_keeps (dt : Nat) (s : State) (hp : Off pt 0x60b02734) : ∃ t, (execDecelerationDone dt s) = .next t ∧ Keeps pt (s.arrive dt) t := by
  unfold execDecelerationDone
  refine timed_keeps _ _ _ ?_
  repeat' first
    | with_reducible assumption
    | exact hp.sub rfl
    | intro _
    | with_reducible first | apply State.updTrn_keeps | apply State.setPacing_keeps | apply State.fixPeg_keeps | apply State.allLines_keeps | apply State.beginBacking_keeps | apply Keeps.ite

theorem execBackingDone_keeps (dt : Nat) (s : State) (hp : Off pt 0x200084) : ∃ t, (execBackingDone dt s) = .next t ∧ Keeps pt (s.arrive dt) t := by
  unfold execBackingDone
  refine timed_keeps _ _ _ ?_
  repeat' first
    | with_reducible assumption
    | exact hp.sub rfl
    | intro _
    | with_reducible first | apply State.restTable_keeps | apply State.beginRestart_keeps | apply State.setPacing_keeps | apply Keeps.ite

theorem execMotorEnableHoldExpiry_keeps (dt : Nat) (s : State) (hp : Off pt 0x200000) : ∃ t, (execMotorEnableHoldExpiry dt s) = .next t ∧ Keeps pt (s.pass dt) t := by
  unfold execMotorEnableHoldExpiry
  refine event_keeps _ _ _ ?_
  repeat' first
    | with_reducible assumption
    | exact hp.sub rfl
    | intro _
    | with_reducible first | apply State.updTrn_keeps

theorem execMotorFault_keeps (dt : Nat) (s : State) (hp : Off pt 0x2000ac) : ∃ t, (execMotorFault dt s) = .next t ∧ Keeps pt (s.arrive dt) t := by
  unfold execMotorFault
  refine timed_keeps _ _ _ ?_
  repeat' first
    | with_reducible assumption
    | exact hp.sub rfl
    | intro _
    | with_reducible first | apply State.updTrn_keeps | apply State.raise1_keeps | apply State.motorStop_keeps | apply State.restTable_keeps | apply Keeps.ite

theorem State.checkFollowing_keeps {s : State} (h : Keeps pt s0 s) (hp : Off pt 0x2000ac) : Keeps pt s0 (s.checkFollowing) := by
  unfold State.checkFollowing
  repeat' first
    | with_reducible assumption
    | exact hp.sub rfl
    | with_reducible first | apply State.updTrn_keeps | apply State.faultPause_keeps | apply State.pegStop_keeps | apply State.raise1_keeps | apply Keeps.ite

theorem State.profilePeriod_keeps {s : State} (h : Keeps pt s0 s) (hp : Off pt 0x2000ac) : Keeps pt s0 (s.profilePeriod) := by
  unfold State.profilePeriod
  repeat' first
    | with_reducible assumption
    | exact hp.sub rfl
    | intro _
    | with_reducible first | apply State.updTrn_keeps | apply State.addEdge_keeps | apply State.checkFollowing_keeps | apply Keeps.wr | apply Keeps.eachOf | apply Keeps.ite

theorem execProfileUpdate_keeps (dt : Nat) (s : State) (hp : Off pt 0x2000ac) : ∃ t, (execProfileUpdate dt s) = .next t ∧ Keeps pt (s.arrive dt) t := by
  unfold execProfileUpdate
  refine timed_keeps _ _ _ ?_
  repeat' first
    | with_reducible assumption
    | exact hp.sub rfl
    | intro _
    | with_reducible first | apply State.updProf_keeps | apply State.profilePeriod_keeps | apply Keeps.ite

theorem execPacedGeneratorTrigger_keeps (dt : Nat) (s : State) (hp : Off pt 0x6830a4) : ∃ t, (execPacedGeneratorTrigger dt s) = .next t ∧ Keeps pt (s.arrive dt) t := by
  unfold execPacedGeneratorTrigger
  refine timed_keeps _ _ _ ?_
  repeat' first
    | with_reducible assumption
    | exact hp.sub rfl
    | intro _
    | with_reducible first | apply State.divide_keeps
    | split

theorem execPacingPeriod_keeps (dt : Nat) (s : State) (hp : Off pt 0x200084) : ∃ t, (execPacingPeriod dt s) = .next t ∧ Keeps pt (s.arrive dt) t := by
  unfold execPacingPeriod
  refine timed_keeps _ _ _ ?_
  repeat' first
    | with_reducible assumption
    | exact hp.sub rfl
    | intro _
    | with_reducible first | apply State.pegStop_keeps | apply State.updTrn_keeps | apply State.headFor_keeps | apply State.readyMotor_keeps | apply State.beginRestart_keeps | apply Keeps.wr | apply Keeps.foldl | apply Keeps.ite

theorem State.transportEntry_keeps {s : State} (h : Keeps pt s0 s) (hp : Off pt 0x600004) : Keeps pt s0 (s.transportEntry) := by
  unfold State.transportEntry
  repeat' first
    | with_reducible assumption
    | exact hp.sub rfl
    | with_reducible first | apply State.updTrn_keeps | apply State.setPacing_keeps | apply Keeps.wr | apply Keeps.ite
    | with_reducible (refine Keeps.mk' hp ?_; first | assumption | apply State.updTrn_keeps | apply State.setPacing_keeps | apply Keeps.wr | apply Keeps.ite)

theorem State.transportExit_keeps {s : State} (h : Keeps pt s0 s) (hp : Off pt 0x600004) (fatal : Bool) : Keeps pt s0 (s.transportExit fatal) := by
  unfold State.transportExit
  repeat' first
    | with_reducible assumption
    | exact hp.sub rfl
    | with_reducible first | apply State.updTrn_keeps | apply State.setPacing_keeps | apply Keeps.wr | apply Keeps.ite
    | with_reducible (refine Keeps.mk' hp ?_; first | assumption | apply State.updTrn_keeps | apply State.setPacing_keeps | apply Keeps.wr | apply Keeps.ite)

theorem State.transportSleep_keeps {s : State} (h : Keeps pt s0 s) (hp : Off pt 0x200004) : Keeps pt s0 (s.transportSleep) := by
  unfold State.transportSleep
  repeat' first
    | with_reducible assumption
    | exact hp.sub rfl
    | with_reducible first | apply State.setPacing_keeps | apply State.updTrn_keeps | apply State.restTable_keeps

theorem State.transportPause_keeps {s : State} (h : Keeps pt s0 s) (hp : Off pt 0x200084) : Keeps pt s0 (s.transportPause) := by
  unfold State.transportPause
  repeat' first
    | with_reducible assumption
    | exact hp.sub rfl
    | with_reducible first | apply State.pegStop_keeps | apply Keeps.ite

theorem State.clearReversal_keeps {s : State} (h : Keeps pt s0 s) (hp : Off pt 0x200004) : Keeps pt s0 (s.clearReversal) := by
  unfold State.clearReversal
  repeat' first
    | with_reducible assumption
    | exact hp.sub rfl
    | with_reducible first | apply State.updTrn_keeps | apply State.wrBit_keeps

/-! ## Casby -/

theorem State.updCsb_keeps {s : State} (h : Keeps pt s0 s) (hp : Off pt 0x400000) (f : CasbySt → CasbySt) : Keeps pt s0 (s.updCsb f) := by
  unfold State.updCsb
  repeat' first
    | with_reducible assumption
    | exact hp.sub rfl
    | with_reducible first | apply hf
    | with_reducible (refine Keeps.mk' hp ?_; first | assumption | apply hf)

theorem State.setCasby_keeps {s : State} (h : Keeps pt s0 s) (hp : Off pt 0x4) (v : Nat) : Keeps pt s0 (s.setCasby v) := by
  unfold State.setCasby
  repeat' first
    | with_reducible assumption
    | exact hp.sub rfl
    | with_reducible first | apply Keeps.wr

theorem State.casbyPower_keeps {s : State} (h : Keeps pt s0 s) (hp : Off pt 0x400004) : Keeps pt s0 (s.casbyPower) := by
  unfold State.casbyPower
  repeat' first
    | with_reducible assumption
    | exact hp.sub rfl
    | with_reducible first | apply State.updCsb_keeps | apply State.setCasby_keeps | apply Keeps.wr | apply Keeps.ite

theorem execCasbyPortLock_keeps (dt : Nat) (inverted : Bool) (s : State) (hp : Off pt 0x400024) : ∃ t, (execCasbyPortLock dt inverted s) = .next t ∧ Keeps pt (s.arrive dt) t := by
  unfold execCasbyPortLock
  refine timed_keeps _ _ _ ?_
  repeat' first
    | with_reducible assumption
    | exact hp.sub rfl
    | intro _
    | with_reducible first | apply State.raiseIf_keeps | apply State.setCasby_keeps | apply State.updCsb_keeps | apply Keeps.wr

theorem execCasbyPairSwapTry_keeps (dt : Nat) (s : State) (hp : Off pt 0x400000) : ∃ t, (execCasbyPairSwapTry dt s) = .next t ∧ Keeps pt (s.arrive dt) t := by
  unfold execCasbyPairSwapTry
  refine timed_keeps _ _ _ ?_
  repeat' first
    | with_reducible assumption
    | exact hp.sub rfl
    | intro _
    | with_reducible first | apply State.updCsb_keeps

theorem State.received_keeps {s : State} (h : Keeps pt s0 s) (hp : Off pt 0x24) (symbols : Bool) (bs : List Byte) (type_ : Nat) {act : Frame → State → State} (hact : ∀ a t, Keeps pt s0 t → Keeps pt s0 (act a t)) : Keeps pt s0 (s.received symbols bs type_ act) := by
  unfold State.received
  repeat' first
    | with_reducible assumption
    | exact hp.sub rfl
    | with_reducible first | apply State.raise1_keeps | apply Keeps.bump | apply hact | apply Keeps.ite
    | split

theorem State.sendElection_keeps {s : State} (h : Keeps pt s0 s) (hp : Off pt 0x400000) : Keeps pt s0 (s.sendElection) := by
  unfold State.sendElection
  repeat' first
    | with_reducible assumption
    | exact hp.sub rfl
    | with_reducible first | apply State.updCsb_keeps | apply State.sendFrame_keeps

theorem execCasbyElectionStart_keeps (dt : Nat) (s : State) (hp : Off pt 0x400004) : ∃ t, (execCasbyElectionStart dt s) = .next t ∧ Keeps pt (s.arrive dt) t := by
  unfold execCasbyElectionStart
  refine timed_keeps _ _ _ ?_
  repeat' first
    | with_reducible assumption
    | exact hp.sub rfl
    | intro _
    | with_reducible first | apply State.sendElection_keeps | apply State.updCsb_keeps | apply State.setCasby_keeps

theorem execCasbyElectionSend_keeps (dt : Nat) (s : State) (hp : Off pt 0x400000) : ∃ t, (execCasbyElectionSend dt s) = .next t ∧ Keeps pt (s.arrive dt) t := by
  unfold execCasbyElectionSend
  refine timed_keeps _ _ _ ?_
  repeat' first
    | with_reducible assumption
    | exact hp.sub rfl
    | intro _
    | with_reducible first | apply State.sendElection_keeps

theorem State.elected_keeps {s : State} (h : Keeps pt s0 s) (hp : Off pt 0x400024) (pos : Nat) (size : Nat) (master : Nat) : Keeps pt s0 (s.elected pos size master) := by
  unfold State.elected
  repeat' first
    | with_reducible assumption
    | exact hp.sub rfl
    | with_reducible first | apply State.updCsb_keeps | apply State.raise1_keeps | apply Keeps.wr | apply Keeps.bump

theorem State.raiseLead_keeps {s : State} (h : Keeps pt s0 s) (hp : Off pt 0x34) : Keeps pt s0 (s.raiseLead) := by
  unfold State.raiseLead
  repeat' first
    | with_reducible assumption
    | exact hp.sub rfl
    | with_reducible first | apply State.ownClamp_keeps | apply Keeps.wr | apply Keeps.ite

theorem State.winElection_keeps {s : State} (h : Keeps pt s0 s) (hp : Off pt 0x400034) (size : Nat) : Keeps pt s0 (s.winElection size) := by
  unfold State.winElection
  repeat' first
    | with_reducible assumption
    | exact hp.sub rfl
    | with_reducible first | apply State.updCsb_keeps | apply State.elected_keeps | apply State.setCasby_keeps | apply State.sendFrame_keeps | apply State.raiseLead_keeps | apply Keeps.wr

theorem State.forwardElection_keeps {s : State} (h : Keeps pt s0 s) (hp : Off pt 0x400000) (f : Frame) (hop : Nat) : Keeps pt s0 (s.forwardElection f hop) := by
  unfold State.forwardElection
  repeat' first
    | with_reducible assumption
    | exact hp.sub rfl
    | with_reducible first | apply State.putFrame_keeps

theorem State.electionFrame_keeps (f : Frame) {s : State} (h : Keeps pt s0 s) (hp : Off pt 0x400034) : Keeps pt s0 (State.electionFrame f s) := by
  unfold State.electionFrame
  repeat' first
    | with_reducible assumption
    | exact hp.sub rfl
    | with_reducible first | apply State.updCsb_keeps | apply State.elected_keeps | apply State.setCasby_keeps | apply State.forwardElection_keeps | apply State.raise1_keeps | apply State.winElection_keeps | apply State.sendFrame_keeps | apply Keeps.ite

theorem execCasbyElectionFrame_keeps (dt : Nat) (symbols : Bool) (bs : List Byte) (s : State) (hp : Off pt 0x400034) : ∃ t, (execCasbyElectionFrame dt symbols bs s) = .next t ∧ Keeps pt (s.arrive dt) t := by
  unfold execCasbyElectionFrame
  refine timed_keeps _ _ _ ?_
  repeat' first
    | with_reducible assumption
    | exact hp.sub rfl
    | intro _
    | with_reducible first | apply State.received_keeps | apply State.electionFrame_keeps

theorem State.measured__keeps {s : State} (h : Keeps pt s0 s) (hp : Off pt 0x400026) (off : Int) : Keeps pt s0 (s.measured_ off) := by
  unfold State.measured_
  repeat' first
    | with_reducible assumption
    | exact hp.sub rfl
    | with_reducible first | apply State.updCsb_keeps | apply State.raise1_keeps | apply State.raiseIf_keeps | apply Keeps.wr | apply Keeps.ite
    | with_reducible (refine Keeps.mk' hp ?_; first | assumption | apply State.updCsb_keeps | apply State.raise1_keeps | apply State.raiseIf_keeps | apply Keeps.wr | apply Keeps.ite)

theorem execCasbyTimeSend_keeps (dt : Nat) (s : State) (hp : Off pt 0x600024) : ∃ t, (execCasbyTimeSend dt s) = .next t ∧ Keeps pt (s.arrive dt) t := by
  unfold execCasbyTimeSend
  refine timed_keeps _ _ _ ?_
  repeat' first
    | with_reducible assumption
    | exact hp.sub rfl
    | intro _
    | with_reducible first | apply State.raiseIf_keeps | apply State.sendFrame_keeps | apply State.updCsb_keeps | apply State.casbySample_keeps | apply Keeps.ite

theorem State.casbyEdge_keeps {s : State} (h : Keeps pt s0 s) (hp : Off pt 0x6830a4) (t' : Nat) (p : Int) : Keeps pt s0 (s.casbyEdge t' p) := by
  unfold State.casbyEdge
  repeat' first
    | with_reducible assumption
    | exact hp.sub rfl
    | with_reducible first | apply State.casbySample_keeps | apply State.divide_keeps | apply Keeps.ite

theorem State.timeFrame_keeps (f : Frame) {s : State} (h : Keeps pt s0 s) (hp : Off pt 0x6830a6) : Keeps pt s0 (State.timeFrame f s) := by
  unfold State.timeFrame
  repeat' first
    | with_reducible assumption
    | exact hp.sub rfl
    | with_reducible first | apply State.updCsb_keeps | apply State.setCasby_keeps | apply State.measured__keeps | apply State.casbyEdge_keeps | apply Keeps.wr | apply Keeps.ite

theorem execCasbyTimeFrame_keeps (dt : Nat) (symbols : Bool) (bs : List Byte) (s : State) (hp : Off pt 0x6830a6) : ∃ t, (execCasbyTimeFrame dt symbols bs s) = .next t ∧ Keeps pt (s.arrive dt) t := by
  unfold execCasbyTimeFrame
  refine timed_keeps _ _ _ ?_
  repeat' first
    | with_reducible assumption
    | exact hp.sub rfl
    | intro _
    | with_reducible first | apply State.received_keeps | apply State.timeFrame_keeps

theorem State.missTrigger_keeps {s : State} (h : Keeps pt s0 s) (hp : Off pt 0xa4) : Keeps pt s0 (s.missTrigger) := by
  unfold State.missTrigger
  repeat' first
    | with_reducible assumption
    | exact hp.sub rfl
    | intro _
    | with_reducible first | apply State.raise1_keeps | apply State.dropTrigger_keeps | apply Keeps.bump | apply Keeps.each | apply Keeps.ite

theorem State.jobByte_keeps {s : State} (h : Keeps pt s0 s) (hp : Off pt 0x400024) (job : Nat) : Keeps pt s0 (s.jobByte job) := by
  unfold State.jobByte
  repeat' first
    | with_reducible assumption
    | exact hp.sub rfl
    | with_reducible first | apply State.raiseIf_keeps | apply State.updCsb_keeps | apply Keeps.ite

theorem State.triggerFrame_keeps (f : Frame) {s : State} (h : Keeps pt s0 s) (hp : Off pt 0x6830a4) : Keeps pt s0 (State.triggerFrame f s) := by
  unfold State.triggerFrame
  repeat' first
    | with_reducible assumption
    | exact hp.sub rfl
    | intro _
    | with_reducible first | apply State.missTrigger_keeps | apply State.jobByte_keeps | apply State.updCsb_keeps | apply State.casbyEdge_keeps | apply State.raiseIf_keeps | apply State.settleAhead_keeps | apply Keeps.each | apply Keeps.ite

theorem execCasbyTriggerFrame_keeps (dt : Nat) (symbols : Bool) (bs : List Byte) (s : State) (hp : Off pt 0x6830a4) : ∃ t, (execCasbyTriggerFrame dt symbols bs s) = .next t ∧ Keeps pt (s.arrive dt) t := by
  unfold execCasbyTriggerFrame
  refine timed_keeps _ _ _ ?_
  repeat' first
    | with_reducible assumption
    | exact hp.sub rfl
    | intro _
    | with_reducible first | apply State.received_keeps | apply State.triggerFrame_keeps

theorem State.jobFrame_keeps (f : Frame) {s : State} (h : Keeps pt s0 s) (hp : Off pt 0x2024) : Keeps pt s0 (State.jobFrame f s) := by
  unfold State.jobFrame
  repeat' first
    | with_reducible assumption
    | exact hp.sub rfl
    | with_reducible first | apply State.jobByCasby_keeps | apply Keeps.ite

theorem execCasbyJobSwitchFrame_keeps (dt : Nat) (symbols : Bool) (bs : List Byte) (s : State) (hp : Off pt 0x2024) : ∃ t, (execCasbyJobSwitchFrame dt symbols bs s) = .next t ∧ Keeps pt (s.arrive dt) t := by
  unfold execCasbyJobSwitchFrame
  refine timed_keeps _ _ _ ?_
  repeat' first
    | with_reducible assumption
    | exact hp.sub rfl
    | intro _
    | with_reducible first | apply State.received_keeps | apply State.jobFrame_keeps

theorem opSendJob_keeps (hp : Off pt 0x402024) : OpKeeps pt s0 opSendJob := by
  intro v s h
  unfold opSendJob
  repeat' first
    | with_reducible assumption
    | exact hp.sub rfl
    | with_reducible first | apply State.jobByCasby_keeps | apply State.sendJobFrame_keeps | apply Keeps.ite
    | split

theorem execSendJobSwitch_keeps (dt : Nat) (m : Fin 17) (job : Nat) (s : State) (hp : Off pt 0x40402534) : ∃ t, (execSendJobSwitch dt m job s) = .next t ∧ Keeps pt (s.pass dt) t := by
  unfold execSendJobSwitch
  exact hostCommand_keeps _ _ _ _ _ _ (hp.sub rfl) (opSendJob_keeps (hp.sub rfl))

theorem execCasbyHeartbeatSend_keeps (dt : Nat) (s : State) (hp : Off pt 0x400000) : ∃ t, (execCasbyHeartbeatSend dt s) = .next t ∧ Keeps pt (s.arrive dt) t := by
  unfold execCasbyHeartbeatSend
  refine timed_keeps _ _ _ ?_
  repeat' first
    | with_reducible assumption
    | exact hp.sub rfl
    | intro _
    | with_reducible first | apply State.sendFrame_keeps | apply State.updCsb_keeps

theorem State.heartbeat_keeps (f : Frame) {s : State} (h : Keeps pt s0 s) (hp : Off pt 0x400004) : Keeps pt s0 (State.heartbeat f s) := by
  unfold State.heartbeat
  repeat' first
    | with_reducible assumption
    | exact hp.sub rfl
    | with_reducible first | apply State.updCsb_keeps | apply Keeps.wr | apply Keeps.ite

theorem execCasbyHeartbeatFrame_keeps (dt : Nat) (symbols : Bool) (bs : List Byte) (s : State) (hp : Off pt 0x400024) : ∃ t, (execCasbyHeartbeatFrame dt symbols bs s) = .next t ∧ Keeps pt (s.arrive dt) t := by
  unfold execCasbyHeartbeatFrame
  refine timed_keeps _ _ _ ?_
  repeat' first
    | with_reducible assumption
    | exact hp.sub rfl
    | intro _
    | with_reducible first | apply State.received_keeps | apply State.heartbeat_keeps

theorem execCasbyRingOpen_keeps (dt : Nat) (s : State) (hp : Off pt 0x24) : ∃ t, (execCasbyRingOpen dt s) = .next t ∧ Keeps pt (s.arrive dt) t := by
  unfold execCasbyRingOpen
  refine timed_keeps _ _ _ ?_
  repeat' first
    | with_reducible assumption
    | exact hp.sub rfl
    | intro _
    | with_reducible first | apply State.raise1_keeps | apply State.setCasby_keeps

theorem execCasbyPeerLost_keeps (dt : Nat) (p : Fin 8) (s : State) (hp : Off pt 0x400024) : ∃ t, (execCasbyPeerLost dt p s) = .next t ∧ Keeps pt (s.arrive dt) t := by
  unfold execCasbyPeerLost
  refine timed_keeps _ _ _ ?_
  repeat' first
    | with_reducible assumption
    | exact hp.sub rfl
    | intro _
    | with_reducible first | apply State.updCsb_keeps | apply State.raise1_keeps

/-! ## Update -/

theorem State.updUpd_keeps {s : State} (h : Keeps pt s0 s) (hp : Off pt 0x40000) (f : UpdateSt → UpdateSt) : Keeps pt s0 (s.updUpd f) := by
  unfold State.updUpd
  repeat' first
    | with_reducible assumption
    | exact hp.sub rfl
    | with_reducible first | apply hf
    | with_reducible (refine Keeps.mk' hp ?_; first | assumption | apply hf)

theorem State.updFw_keeps {s : State} (h : Keeps pt s0 s) (hp : Off pt 0x40000) (b : Nat) (f : FwBank → FwBank) : Keeps pt s0 (s.updFw b f) := by
  unfold State.updFw
  repeat' first
    | with_reducible assumption
    | exact hp.sub rfl
    | with_reducible first | apply State.updUpd_keeps | apply hf

theorem State.setSession_keeps {s : State} (h : Keeps pt s0 s) (hp : Off pt 0x4) (v : Nat) (holder : Nat) : Keeps pt s0 (s.setSession v holder) := by
  unfold State.setSession
  repeat' first
    | with_reducible assumption
    | exact hp.sub rfl
    | with_reducible first | apply Keeps.wr

theorem State.spoilBank_keeps {s : State} (h : Keeps pt s0 s) (hp : Off pt 0x40000) : Keeps pt s0 (s.spoilBank) := by
  unfold State.spoilBank
  repeat' first
    | with_reducible assumption
    | exact hp.sub rfl
    | with_reducible first | apply State.updFw_keeps

theorem State.newSession_keeps {s : State} (h : Keeps pt s0 s) (hp : Off pt 0x40024) (m : Nat) (h' : List Byte) : Keeps pt s0 (s.newSession m h') := by
  unfold State.newSession
  repeat' first
    | with_reducible assumption
    | exact hp.sub rfl
    | with_reducible first | apply State.spoilBank_keeps | apply State.raise1_keeps | apply State.setSession_keeps | apply State.updUpd_keeps | apply State.updFw_keeps | apply Keeps.wr | apply Keeps.ite

theorem State.blockZero_keeps {s : State} (h : Keeps pt s0 s) (hp : Off pt 0x40024) (m : Nat) (h' : List Byte) : Keeps pt s0 (s.blockZero m h').1 := by
  unfold State.blockZero
  repeat' first
    | with_reducible assumption
    | exact hp.sub rfl
    | with_reducible first | apply State.raiseIf_keeps | apply State.updUpd_keeps | apply State.setSession_keeps | apply State.newSession_keeps | apply Keeps.wr | apply Keeps.ite
    | (extract_lets +onlyGivenNames -underBinder a; fail_if_success (have : Keeps pt s0 a := by with_reducible assumption); with_reducible first | refine Keeps.use a ?_ fun _ => ?_)
    | split

theorem State.takeBlock_keeps {s : State} (h : Keeps pt s0 s) (hp : Off pt 0x40004) (bs : List Byte) : Keeps pt s0 (s.takeBlock bs) := by
  unfold State.takeBlock
  repeat' first
    | with_reducible assumption
    | exact hp.sub rfl
    | with_reducible first | apply State.updUpd_keeps | apply Keeps.wr

theorem State.laterBlock_keeps {s : State} (h : Keeps pt s0 s) (hp : Off pt 0x40004) (m : Nat) (off : Nat) (bs : List Byte) : Keeps pt s0 (s.laterBlock m off bs).1 := by
  unfold State.laterBlock
  repeat' first
    | with_reducible assumption
    | exact hp.sub rfl
    | with_reducible first | apply State.updUpd_keeps | apply State.takeBlock_keeps | apply Keeps.ite
    | (extract_lets +onlyGivenNames -underBinder a; fail_if_success (have : Keeps pt s0 a := by with_reducible assumption); with_reducible first | refine Keeps.use a ?_ fun _ => ?_)
    | split

theorem State.stageAccess_keeps {s : State} (h : Keeps pt s0 s) (hp : Off pt 0x40024) (m : Nat) (off : Nat) (bs : List Byte) : Keeps pt s0 (s.stageAccess m off bs).1 := by
  unfold State.stageAccess
  repeat' first
    | with_reducible assumption
    | exact hp.sub rfl
    | with_reducible first | apply State.blockZero_keeps | apply State.laterBlock_keeps | apply Keeps.ite
    | split

theorem State.admitBlocks_keeps {s : State} (h : Keeps pt s0 s) (hp : Off pt 0x40040534) (x1 : Nat) : Keeps pt s0 (s.admitBlocks x1) := by
  induction x1 generalizing s with
  | zero =>
    unfold State.admitBlocks
    repeat' first
      | with_reducible assumption
      | exact hp.sub rfl
      | with_reducible first | apply State.updUpd_keeps | apply State.takeBlock_keeps | apply State.respond_keeps | apply Keeps.ite
      | split
  | succ n ih =>
    unfold State.admitBlocks
    repeat' first
      | with_reducible assumption
      | exact hp.sub rfl
      | with_reducible first | apply State.updUpd_keeps | apply State.takeBlock_keeps | apply State.respond_keeps | apply ih | apply Keeps.ite
      | split

theorem State.failSession_keeps {s : State} (h : Keeps pt s0 s) (hp : Off pt 0x40024) (code : Nat) : Keeps pt s0 (s.failSession code) := by
  unfold State.failSession
  repeat' first
    | with_reducible assumption
    | exact hp.sub rfl
    | with_reducible first | apply State.updUpd_keeps | apply State.raise1_keeps | apply State.spoilBank_keeps | apply State.setSession_keeps | apply Keeps.wr | apply Keeps.ite

theorem State.journalStep_keeps {s : State} (h : Keeps pt s0 s) (hp : Off pt 0x40040534) : Keeps pt s0 (s.journalStep) := by
  unfold State.journalStep
  repeat' first
    | with_reducible assumption
    | exact hp.sub rfl
    | with_reducible first | apply State.updUpd_keeps | apply State.admitBlocks_keeps | apply State.setSession_keeps | apply Keeps.wr | apply Keeps.ite

theorem execUpdateBlocksJournaled_keeps (dt : Nat) (good : Bool) (s : State) (hp : Off pt 0x40040534) : ∃ t, (execUpdateBlocksJournaled dt good s) = .next t ∧ Keeps pt (s.pass dt) t := by
  unfold execUpdateBlocksJournaled
  refine event_keeps _ _ _ ?_
  repeat' first
    | with_reducible assumption
    | exact hp.sub rfl
    | intro _
    | with_reducible first | apply State.journalStep_keeps | apply State.failSession_keeps | apply Keeps.ite

theorem execUpdateSessionSilence_keeps (dt : Nat) (s : State) (hp : Off pt 0x40024) : ∃ t, (execUpdateSessionSilence dt s) = .next t ∧ Keeps pt (s.pass dt) t := by
  unfold execUpdateSessionSilence
  refine event_keeps _ _ _ ?_
  repeat' first
    | with_reducible assumption
    | exact hp.sub rfl
    | intro _
    | with_reducible first | apply State.updUpd_keeps | apply State.raise1_keeps | apply State.setSession_keeps

theorem opAbortUpdate_keeps (hp : Off pt 0x40024) : OpKeeps pt s0 opAbortUpdate := by
  intro v s h
  unfold opAbortUpdate
  repeat' first
    | with_reducible assumption
    | exact hp.sub rfl
    | with_reducible first | apply State.spoilBank_keeps | apply State.updUpd_keeps | apply State.raise1_keeps | apply State.setSession_keeps | apply Keeps.wr | apply Keeps.ite
    | split

theorem execAbortUpdate_keeps (dt : Nat) (m : Fin 17) (s : State) (hp : Off pt 0x40040534) : ∃ t, (execAbortUpdate dt m s) = .next t ∧ Keeps pt (s.pass dt) t := by
  unfold execAbortUpdate
  exact hostCommand_keeps _ _ _ _ _ _ (hp.sub rfl) (opAbortUpdate_keeps (hp.sub rfl))

theorem State.fillBank_keeps {s : State} (h : Keeps pt s0 s) (hp : Off pt 0x40000) (c : List Byte) : Keeps pt s0 (s.fillBank c) := by
  unfold State.fillBank
  repeat' first
    | with_reducible assumption
    | exact hp.sub rfl
    | with_reducible first | apply State.updFw_keeps

theorem execUpdateApplyComplete_keeps (dt : Nat) (good : Bool) (s : State) (hp : Off pt 0x40024) : ∃ t, (execUpdateApplyComplete dt good s) = .next t ∧ Keeps pt (s.pass dt) t := by
  unfold execUpdateApplyComplete
  refine event_keeps _ _ _ ?_
  repeat' first
    | with_reducible assumption
    | exact hp.sub rfl
    | intro _
    | with_reducible first | apply State.failSession_keeps | apply State.setSession_keeps | apply State.fillBank_keeps | apply Keeps.wr | apply Keeps.ite
    | split

theorem State.stageImage_keeps {s : State} (h : Keeps pt s0 s) (hp : Off pt 0x40024) : Keeps pt s0 (s.stageImage) := by
  unfold State.stageImage
  repeat' first
    | with_reducible assumption
    | exact hp.sub rfl
    | with_reducible first | apply State.updFw_keeps | apply State.raise1_keeps | apply State.setSession_keeps | apply Keeps.wr

theorem State.fullContent_keeps {s : State} (h : Keeps pt s0 s) (hp : Off pt 0x40000) : Keeps pt s0 (s.fullContent) := by
  unfold State.fullContent
  repeat' first
    | with_reducible assumption
    | exact hp.sub rfl
    | with_reducible first | apply State.fillBank_keeps | apply Keeps.ite

theorem State.verify_keeps {s : State} (h : Keeps pt s0 s) (hp : Off pt 0x40024) (manifest : Bool) (good : Bool) : Keeps pt s0 (s.verify manifest good) := by
  unfold State.verify
  repeat' first
    | with_reducible assumption
    | exact hp.sub rfl
    | with_reducible first | apply State.failSession_keeps | apply State.fullContent_keeps | apply State.stageImage_keeps | apply Keeps.ite

theorem execUpdateVerifyComplete_keeps (dt : Nat) (manifest : Bool) (good : Bool) (s : State) (hp : Off pt 0x40024) : ∃ t, (execUpdateVerifyComplete dt manifest good s) = .next t ∧ Keeps pt (s.pass dt) t := by
  unfold execUpdateVerifyComplete
  refine event_keeps _ _ _ ?_
  repeat' first
    | with_reducible assumption
    | exact hp.sub rfl
    | intro _
    | with_reducible first | apply State.verify_keeps

theorem State.mailbox_keeps {s : State} (h : Keeps pt s0 s) (hp : Off pt 0x8000010) (code : Nat) : Keeps pt s0 (s.mailbox code) := by
  unfold State.mailbox
  repeat' first
    | with_reducible assumption
    | exact hp.sub rfl
    | with_reducible (refine Keeps.mk' hp ?_; first | assumption)

theorem State.foeBlocks_keeps {s : State} (h : Keeps pt s0 s) (hp : Off pt 0x8040014) (off : Nat) (x2 : List (List Byte)) : Keeps pt s0 (s.foeBlocks off x2) := by
  induction x2 generalizing s off with
  | nil =>
    unfold State.foeBlocks
    repeat' first
      | with_reducible assumption
      | exact hp.sub rfl
      | with_reducible first | apply State.mailbox_keeps | apply State.laterBlock_keeps
      | (extract_lets +onlyGivenNames -underBinder a; fail_if_success (have : Keeps pt s0 a := by with_reducible assumption); fail_if_success (have : Keeps pt s0 a.1 := by with_reducible assumption); with_reducible first | refine Keeps.use a ?_ fun _ => ?_ | refine Keeps.use1 a ?_ fun _ => ?_)
      | split
  | cons b r ih =>
    unfold State.foeBlocks
    repeat' first
      | with_reducible assumption
      | exact hp.sub rfl
      | with_reducible first | apply State.mailbox_keeps | apply State.laterBlock_keeps | apply ih
      | (extract_lets +onlyGivenNames -underBinder a; fail_if_success (have : Keeps pt s0 a := by with_reducible assumption); fail_if_success (have : Keeps pt s0 a.1 := by with_reducible assumption); with_reducible first | refine Keeps.use a ?_ fun _ => ?_ | refine Keeps.use1 a ?_ fun _ => ?_)
      | split

theorem State.foeWrite_keeps {s : State} (h : Keeps pt s0 s) (hp : Off pt 0x8040034) (name : List Byte) (bs : List Byte) : Keeps pt s0 (s.foeWrite name bs) := by
  unfold State.foeWrite
  repeat' first
    | with_reducible assumption
    | exact hp.sub rfl
    | with_reducible first | apply State.mailbox_keeps | apply State.blockZero_keeps | apply State.foeBlocks_keeps | apply Keeps.ite
    | split

theorem execFoeWriteRequest_keeps (dt : Nat) (name : List Byte) (bs : List Byte) (s : State) (hp : Off pt 0x8040034) : ∃ t, (execFoeWriteRequest dt name bs s) = .next t ∧ Keeps pt (s.pass dt) t := by
  unfold execFoeWriteRequest
  refine event_keeps _ _ _ ?_
  repeat' first
    | with_reducible assumption
    | exact hp.sub rfl
    | intro _
    | with_reducible first | apply State.foeWrite_keeps

theorem execFoeReadRequest_keeps (dt : Nat) (_name : List Byte) (s : State) (hp : Off pt 0x8000010) : ∃ t, (execFoeReadRequest dt _name s) = .next t ∧ Keeps pt (s.pass dt) t := by
  unfold execFoeReadRequest
  refine event_keeps _ _ _ ?_
  repeat' first
    | with_reducible assumption
    | exact hp.sub rfl
    | intro _
    | with_reducible first | apply State.mailbox_keeps

theorem State.schedule_keeps {s : State} (h : Keeps pt s0 s) (hp : Off pt 0x40024) : Keeps pt s0 (s.schedule) := by
  unfold State.schedule
  repeat' first
    | with_reducible assumption
    | exact hp.sub rfl
    | with_reducible first | apply State.updUpd_keeps | apply State.raise1_keeps | apply Keeps.wr

theorem State.sendActivation_keeps {s : State} (h : Keeps pt s0 s) (hp : Off pt 0x400000) : Keeps pt s0 (s.sendActivation) := by
  unfold State.sendActivation
  repeat' first
    | with_reducible assumption
    | exact hp.sub rfl
    | with_reducible first | apply State.sendFrame_keeps | apply State.updCsb_keeps | apply Keeps.ite

theorem opSchedule_keeps (hp : Off pt 0x440024) : OpKeeps pt s0 opSchedule := by
  intro v s h
  unfold opSchedule
  repeat' first
    | with_reducible assumption
    | exact hp.sub rfl
    | with_reducible first | apply State.sendActivation_keeps | apply State.schedule_keeps | apply Keeps.ite
    | split

theorem execScheduleActivationLocal_keeps (dt : Nat) (m : Fin 17) (s : State) (hp : Off pt 0x40440534) : ∃ t, (execScheduleActivationLocal dt m s) = .next t ∧ Keeps pt (s.pass dt) t := by
  unfold execScheduleActivationLocal
  exact hostCommand_keeps _ _ _ _ _ _ (hp.sub rfl) (opSchedule_keeps (hp.sub rfl))

theorem execScheduleActivationCasby_keeps (dt : Nat) (m : Fin 17) (s : State) (hp : Off pt 0x40440534) : ∃ t, (execScheduleActivationCasby dt m s) = .next t ∧ Keeps pt (s.pass dt) t := by
  unfold execScheduleActivationCasby
  exact hostCommand_keeps _ _ _ _ _ _ (hp.sub rfl) (opSchedule_keeps (hp.sub rfl))

theorem execActivationFrameRepeat_keeps (dt : Nat) (s : State) (hp : Off pt 0x400000) : ∃ t, (execActivationFrameRepeat dt s) = .next t ∧ Keeps pt (s.pass dt) t := by
  unfold execActivationFrameRepeat
  refine event_keeps _ _ _ ?_
  repeat' first
    | with_reducible assumption
    | exact hp.sub rfl
    | intro _
    | with_reducible first | apply State.updCsb_keeps | apply State.sendFrame_keeps | apply Keeps.ite
    | split

theorem State.activationFrame_keeps (f : Frame) {s : State} (h : Keeps pt s0 s) (hp : Off pt 0x440024) : Keeps pt s0 (State.activationFrame f s) := by
  unfold State.activationFrame
  repeat' first
    | with_reducible assumption
    | exact hp.sub rfl
    | with_reducible first | apply State.updCsb_keeps | apply State.schedule_keeps | apply State.raise1_keeps | apply Keeps.wr | apply Keeps.bump | apply Keeps.ite

theorem execCasbyActivationFrame_keeps (dt : Nat) (symbols : Bool) (bs : List Byte) (s : State) (hp : Off pt 0x440024) : ∃ t, (execCasbyActivationFrame dt symbols bs s) = .next t ∧ Keeps pt (s.arrive dt) t := by
  unfold execCasbyActivationFrame
  refine timed_keeps _ _ _ ?_
  repeat' first
    | with_reducible assumption
    | exact hp.sub rfl
    | intro _
    | with_reducible first | apply State.received_keeps | apply State.activationFrame_keeps

theorem State.unschedule_keeps {s : State} (h : Keeps pt s0 s) (hp : Off pt 0x40004) : Keeps pt s0 (s.unschedule) := by
  unfold State.unschedule
  repeat' first
    | with_reducible assumption
    | exact hp.sub rfl
    | with_reducible first | apply State.updUpd_keeps | apply Keeps.wr | apply Keeps.ite

theorem opCancelSchedule_keeps (hp : Off pt 0x40004) : OpKeeps pt s0 opCancelSchedule := by
  intro v s h
  unfold opCancelSchedule
  repeat' first
    | with_reducible assumption
    | exact hp.sub rfl
    | with_reducible first | apply State.unschedule_keeps | apply Keeps.ite
    | split

theorem execCancelSchedule_keeps (dt : Nat) (m : Fin 17) (s : State) (hp : Off pt 0x40040534) : ∃ t, (execCancelSchedule dt m s) = .next t ∧ Keeps pt (s.pass dt) t := by
  unfold execCancelSchedule
  exact hostCommand_keeps _ _ _ _ _ _ (hp.sub rfl) (opCancelSchedule_keeps (hp.sub rfl))

theorem State.beginSwitch_keeps {s : State} (h : Keeps pt s0 s) (hp : Off pt 0x4000c) : Keeps pt s0 (s.beginSwitch) := by
  unfold State.beginSwitch
  repeat' first
    | with_reducible assumption
    | exact hp.sub rfl
    | with_reducible first | apply State.atBoundary_keeps | apply State.updUpd_keeps | apply Keeps.wr | apply Keeps.ite

theorem execActivationTimeReached_keeps (dt : Nat) (s : State) (hp : Off pt 0x4002c) : ∃ t, (execActivationTimeReached dt s) = .next t ∧ Keeps pt (s.arrive dt) t := by
  unfold execActivationTimeReached
  refine timed_keeps _ _ _ ?_
  repeat' first
    | with_reducible assumption
    | exact hp.sub rfl
    | intro _
    | with_reducible first | apply State.beginSwitch_keeps | apply State.updUpd_keeps | apply State.raise1_keeps | apply Keeps.wr | apply Keeps.ite

theorem execDeferredActivationIdle_keeps (dt : Nat) (s : State) (hp : Off pt 0x4000c) : ∃ t, (execDeferredActivationIdle dt s) = .next t ∧ Keeps pt (s.arrive dt) t := by
  unfold execDeferredActivationIdle
  refine timed_keeps _ _ _ ?_
  repeat' first
    | with_reducible assumption
    | exact hp.sub rfl
    | intro _
    | with_reducible first | apply State.beginSwitch_keeps

theorem execActivationExpired_keeps (dt : Nat) (s : State) (hp : Off pt 0x40024) : ∃ t, (execActivationExpired dt s) = .next t ∧ Keeps pt (s.pass dt) t := by
  unfold execActivationExpired
  refine event_keeps _ _ _ ?_
  repeat' first
    | with_reducible assumption
    | exact hp.sub rfl
    | intro _
    | with_reducible first | apply State.raise1_keeps | apply State.unschedule_keeps

theorem opAcceptDefaults_keeps (hp : Off pt 0x40004) : OpKeeps pt s0 opAcceptDefaults := by
  intro v s h
  unfold opAcceptDefaults
  repeat' first
    | with_reducible assumption
    | exact hp.sub rfl
    | with_reducible first | apply State.updUpd_keeps | apply State.setSession_keeps | apply Keeps.wr | apply Keeps.ite
    | split

theorem execAcceptDefaults_keeps (dt : Nat) (m : Fin 17) (s : State) (hp : Off pt 0x40040534) : ∃ t, (execAcceptDefaults dt m s) = .next t ∧ Keeps pt (s.pass dt) t := by
  unfold execAcceptDefaults
  exact hostCommand_keeps _ _ _ _ _ _ (hp.sub rfl) (opAcceptDefaults_keeps (hp.sub rfl))

theorem opDiscardQuarantine_keeps (hp : Off pt 0x40004) : OpKeeps pt s0 opDiscardQuarantine := by
  intro v s h
  unfold opDiscardQuarantine
  repeat' first
    | with_reducible assumption
    | exact hp.sub rfl
    | intro _
    | with_reducible first | apply opDo_keeps | apply State.updUpd_keeps | apply Keeps.wr

theorem execDiscardQuarantine_keeps (dt : Nat) (m : Fin 17) (s : State) (hp : Off pt 0x40040534) : ∃ t, (execDiscardQuarantine dt m s) = .next t ∧ Keeps pt (s.pass dt) t := by
  unfold execDiscardQuarantine
  exact hostCommand_keeps _ _ _ _ _ _ (hp.sub rfl) (opDiscardQuarantine_keeps (hp.sub rfl))

/-! ## Trim -/

theorem State.updCluster_keeps {s : State} (h : Keeps pt s0 s) (hp : Off pt 0x80000) (k : Nat) (f : TrimCluster → TrimCluster) : Keeps pt s0 (s.updCluster k f) := by
  unfold State.updCluster
  repeat' first
    | with_reducible assumption
    | exact hp.sub rfl
    | with_reducible first | apply hf
    | with_reducible (refine Keeps.mk' hp ?_; first | assumption | apply hf)

theorem State.setCluster_keeps {s : State} (h : Keeps pt s0 s) (hp : Off pt 0x4) (k : Nat) (v : Nat) : Keeps pt s0 (s.setCluster k v) := by
  unfold State.setCluster
  repeat' first
    | with_reducible assumption
    | exact hp.sub rfl
    | with_reducible first | apply Keeps.wr

theorem State.showTrim_keeps {s : State} (h : Keeps pt s0 s) (hp : Off pt 0x4) (k : Nat) : Keeps pt s0 (s.showTrim k) := by
  unfold State.showTrim
  repeat' first
    | with_reducible assumption
    | exact hp.sub rfl
    | with_reducible first | apply Keeps.wr | apply Keeps.ite

theorem State.askTrim_keeps {s : State} (h : Keeps pt s0 s) (hp : Off pt 0x80024) (k : Nat) (forced : Bool) : Keeps pt s0 (s.askTrim k forced) := by
  unfold State.askTrim
  repeat' first
    | with_reducible assumption
    | exact hp.sub rfl
    | with_reducible first | apply State.showTrim_keeps | apply State.raiseIf_keeps | apply State.updCluster_keeps | apply Keeps.ite

theorem opRequestTrim_keeps (hp : Off pt 0x80024) : OpKeeps pt s0 opRequestTrim := by
  intro v s h
  unfold opRequestTrim
  repeat' first
    | with_reducible assumption
    | exact hp.sub rfl
    | intro _
    | with_reducible first | apply State.askTrim_keeps | apply State.updCluster_keeps | apply Keeps.each | apply Keeps.ite

theorem execRequestTrim_keeps (dt : Nat) (m : Fin 17) (mask : Nat) (s : State) (hp : Off pt 0x40080534) : ∃ t, (execRequestTrim dt m mask s) = .next t ∧ Keeps pt (s.pass dt) t := by
  unfold execRequestTrim
  exact hostCommand_keeps _ _ _ _ _ _ (hp.sub rfl) (opRequestTrim_keeps (hp.sub rfl))

theorem State.trimTick_keeps {s : State} (h : Keeps pt s0 s) (hp : Off pt 0x80024) (dies : List Int) (invalid : Nat) (k : Nat) : Keeps pt s0 (s.trimTick dies invalid k) := by
  unfold State.trimTick
  repeat' first
    | with_reducible assumption
    | exact hp.sub rfl
    | with_reducible first | apply State.raiseIf_keeps | apply State.updCluster_keeps | apply State.askTrim_keeps | apply Keeps.wr | apply Keeps.ite
    | (extract_lets +onlyGivenNames -underBinder a; fail_if_success (have : Keeps pt s0 a := by with_reducible assumption); with_reducible first | refine Keeps.use a ?_ fun _ => ?_)
    | split

theorem State.trimFirst_keeps {s : State} (h : Keeps pt s0 s) (hp : Off pt 0x80024) : Keeps pt s0 (s.trimFirst) := by
  unfold State.trimFirst
  repeat' first
    | with_reducible assumption
    | exact hp.sub rfl
    | intro _
    | with_reducible first | apply State.askTrim_keeps | apply Keeps.each | apply Keeps.ite

theorem State.startTrim_keeps {s : State} (h : Keeps pt s0 s) (hp : Off pt 0x80004) (k : Nat) (r : TrimReq) (window : Option (Int × Int)) : Keeps pt s0 (s.startTrim k r window) := by
  unfold State.startTrim
  repeat' first
    | with_reducible assumption
    | exact hp.sub rfl
    | with_reducible first | apply State.updCluster_keeps | apply State.showTrim_keeps | apply State.setCluster_keeps | apply Keeps.bump | apply Keeps.ite
    | with_reducible (refine Keeps.mk' hp ?_; first | assumption | apply State.updCluster_keeps | apply State.showTrim_keeps | apply State.setCluster_keeps | apply Keeps.bump | apply Keeps.ite)

theorem execSelfTrimStart_keeps (dt : Nat) (s : State) (hp : Off pt 0x80004) : ∃ t, (execSelfTrimStart dt s) = .next t ∧ Keeps pt (s.arrive dt) t := by
  unfold execSelfTrimStart
  refine timed_keeps _ _ _ ?_
  repeat' first
    | with_reducible assumption
    | exact hp.sub rfl
    | intro _
    | with_reducible first | apply State.startTrim_keeps | apply Keeps.foldl | apply Keeps.ite
    | split

theorem State.afterTrim_keeps {s : State} (h : Keeps pt s0 s) (hp : Off pt 0x4) (k : Nat) : Keeps pt s0 (s.afterTrim k) := by
  unfold State.afterTrim
  repeat' first
    | with_reducible assumption
    | exact hp.sub rfl
    | with_reducible first | apply State.setCluster_keeps | apply Keeps.ite

theorem State.endTrim_keeps {s : State} (h : Keeps pt s0 s) (hp : Off pt 0x80024) (t' : Trimming) : Keeps pt s0 (s.endTrim t') := by
  unfold State.endTrim
  repeat' first
    | with_reducible assumption
    | exact hp.sub rfl
    | with_reducible first | apply State.raise1_keeps | apply State.afterTrim_keeps | apply State.updCluster_keeps | apply Keeps.bump | apply Keeps.ite
    | with_reducible (refine Keeps.mk' hp ?_; first | assumption | apply State.raise1_keeps | apply State.afterTrim_keeps | apply State.updCluster_keeps | apply Keeps.bump | apply Keeps.ite)

theorem State.trimPassed_keeps {s : State} (h : Keeps pt s0 s) (hp : Off pt 0x80004) (k : Nat) : Keeps pt s0 (s.trimPassed k) := by
  unfold State.trimPassed
  repeat' first
    | with_reducible assumption
    | exact hp.sub rfl
    | with_reducible first | apply State.updCluster_keeps | apply State.wrBit_keeps | apply Keeps.wr | apply Keeps.bump

theorem State.trimFailed_keeps {s : State} (h : Keeps pt s0 s) (hp : Off pt 0x80024) (k : Nat) : Keeps pt s0 (s.trimFailed k) := by
  unfold State.trimFailed
  repeat' first
    | with_reducible assumption
    | exact hp.sub rfl
    | with_reducible first | apply State.updCluster_keeps | apply State.raise1_keeps | apply State.wrBit_keeps | apply Keeps.wr | apply Keeps.ite

theorem execSelfTrimEnd_keeps (dt : Nat) (bad : BitVec 8) (s : State) (hp : Off pt 0x80024) : ∃ t, (execSelfTrimEnd dt bad s) = .next t ∧ Keeps pt (s.arrive dt) t := by
  unfold execSelfTrimEnd
  refine timed_keeps _ _ _ ?_
  repeat' first
    | with_reducible assumption
    | exact hp.sub rfl
    | intro _
    | with_reducible first | apply State.endTrim_keeps | apply State.trimFailed_keeps | apply State.trimPassed_keeps | apply State.showTrim_keeps | apply Keeps.wr | apply Keeps.ite
    | split

theorem State.abandonTrim_keeps {s : State} (h : Keeps pt s0 s) (hp : Off pt 0x80024) : Keeps pt s0 (s.abandonTrim) := by
  unfold State.abandonTrim
  repeat' first
    | with_reducible assumption
    | exact hp.sub rfl
    | with_reducible first | apply State.endTrim_keeps | apply State.showTrim_keeps | apply State.updCluster_keeps | apply Keeps.bump
    | split

theorem execSelfTrimAbandoned_keeps (dt : Nat) (s : State) (hp : Off pt 0x80024) : ∃ t, (execSelfTrimAbandoned dt s) = .next t ∧ Keeps pt (s.pass dt) t := by
  unfold execSelfTrimAbandoned
  refine event_keeps _ _ _ ?_
  repeat' first
    | with_reducible assumption
    | exact hp.sub rfl
    | intro _
    | with_reducible first | apply State.abandonTrim_keeps

theorem execSelfTrimRetry_keeps (dt : Nat) (k : Fin 8) (s : State) (hp : Off pt 0x80024) : ∃ t, (execSelfTrimRetry dt k s) = .next t ∧ Keeps pt (s.pass dt) t := by
  unfold execSelfTrimRetry
  refine event_keeps _ _ _ ?_
  repeat' first
    | with_reducible assumption
    | exact hp.sub rfl
    | intro _
    | with_reducible first | apply State.askTrim_keeps

theorem execTrimRecordWritten_keeps (dt : Nat) (k : Fin 8) (good : Bool) (s : State) (hp : Off pt 0x80024) : ∃ t, (execTrimRecordWritten dt k good s) = .next t ∧ Keeps pt (s.pass dt) t := by
  unfold execTrimRecordWritten
  refine event_keeps _ _ _ ?_
  repeat' first
    | with_reducible assumption
    | exact hp.sub rfl
    | intro _
    | with_reducible first | apply State.updCluster_keeps | apply State.raise1_keeps | apply Keeps.ite
    | split

theorem State.applyTrim_keeps {s : State} (h : Keeps pt s0 s) (hp : Off pt 0x80024) : Keeps pt s0 (s.applyTrim) := by
  unfold State.applyTrim
  repeat' first
    | with_reducible assumption
    | exact hp.sub rfl
    | intro _
    | with_reducible first | apply State.wrBit_keeps | apply State.updCluster_keeps | apply State.raise1_keeps | apply State.showTrim_keeps | apply Keeps.wr | apply Keeps.each
    | split

/-! ## Links -/

theorem State.setLink_keeps {s : State} (h : Keeps pt s0 s) (hp : Off pt 0x4) (n : Nat) (v : Nat) : Keeps pt s0 (s.setLink n v) := by
  unfold State.setLink
  repeat' first
    | with_reducible assumption
    | exact hp.sub rfl
    | with_reducible first | apply Keeps.wr

theorem State.trained_keeps {s : State} (h : Keeps pt s0 s) (hp : Off pt 0x40000504) (n : Nat) (v : Nat) : Keeps pt s0 (s.trained n v) := by
  unfold State.trained
  repeat' first
    | with_reducible assumption
    | exact hp.sub rfl
    | with_reducible first | apply State.startLinks_keeps | apply State.wakeLink_keeps | apply State.updLink_keeps | apply State.setLink_keeps | apply Keeps.wr

theorem execDiscoveryRequest_keeps (dt : Nat) (n : Fin 16) (s : State) (hp : Off pt 0x40000534) : ∃ t, (execDiscoveryRequest dt n s) = .next t ∧ Keeps pt (s.arrive dt) t := by
  unfold execDiscoveryRequest
  refine timed_keeps _ _ _ ?_
  repeat' first
    | with_reducible assumption
    | exact hp.sub rfl
    | intro _
    | with_reducible first | apply State.updLink_keeps | apply State.trained_keeps | apply State.wakeLink_keeps | apply State.respond_keeps | apply Keeps.ite

theorem State.judgeGroup_keeps {s : State} (h : Keeps pt s0 s) (hp : Off pt 0x224) (m : Nat) (n : Nat) (lost : Bool) : Keeps pt s0 (s.judgeGroup m n lost) := by
  unfold State.judgeGroup
  repeat' first
    | with_reducible assumption
    | exact hp.sub rfl
    | with_reducible first | apply State.growCredits_keeps | apply Keeps.raise | apply Keeps.ite
    | with_reducible (refine Keeps.mk' hp ?_; first | assumption | apply State.growCredits_keeps | apply Keeps.raise | apply Keeps.ite)

theorem State.judgeLink_keeps {s : State} (h : Keeps pt s0 s) (hp : Off pt 0x224) (n : Nat) (lost : Bool) : Keeps pt s0 (s.judgeLink n lost) := by
  unfold State.judgeLink
  repeat' first
    | with_reducible assumption
    | exact hp.sub rfl
    | intro _
    | with_reducible first | apply State.judgeGroup_keeps | apply Keeps.eachOf

theorem State.returnPacket_keeps {s : State} (h : Keeps pt s0 s) (hp : Off pt 0x40000504) (n : Nat) : Keeps pt s0 (s.returnPacket n) := by
  unfold State.returnPacket
  repeat' first
    | with_reducible assumption
    | exact hp.sub rfl
    | with_reducible first | apply State.updLink_keeps | apply State.updEgress_keeps | apply Keeps.bump | apply Keeps.ite
    | (extract_lets +onlyGivenNames -underBinder a; fail_if_success (have : Keeps pt s0 a := by with_reducible assumption); with_reducible first | refine Keeps.use a ?_ fun _ => ?_)
    | split

theorem State.incompleteLines_keeps {s : State} (h : Keeps pt s0 s) (hp : Off pt 0x40000724) (n : Nat) : Keeps pt s0 (s.incompleteLines n) := by
  unfold State.incompleteLines
  repeat' first
    | with_reducible assumption
    | exact hp.sub rfl
    | intro _
    | with_reducible first | apply State.updStream_keeps | apply State.putMarker_keeps | apply Keeps.eachOf | apply Keeps.foldl | apply Keeps.ite

theorem State.declareLost_keeps {s : State} (h : Keeps pt s0 s) (hp : Off pt 0x40000734) (n : Nat) (named : Bool) : Keeps pt s0 (s.declareLost n named) := by
  unfold State.declareLost
  repeat' first
    | with_reducible assumption
    | exact hp.sub rfl
    | with_reducible first | apply State.updLink_keeps | apply State.incompleteLines_keeps | apply State.returnPacket_keeps | apply State.setLink_keeps | apply State.updMaster_keeps | apply State.startLinks_keeps | apply State.judgeLink_keeps | apply State.raise1_keeps | apply Keeps.wr | apply Keeps.bump | apply Keeps.ite

theorem State.loseLink_keeps {s : State} (h : Keeps pt s0 s) (hp : Off pt 0x40000734) (n : Nat) : Keeps pt s0 (s.loseLink n) := by
  unfold State.loseLink
  repeat' first
    | with_reducible assumption
    | exact hp.sub rfl
    | with_reducible first | apply State.updLink_keeps | apply State.declareLost_keeps

theorem execLinkLoss_keeps (dt : Nat) (n : Fin 16) (s : State) (hp : Off pt 0x40000734) : ∃ t, (execLinkLoss dt n s) = .next t ∧ Keeps pt (s.arrive dt) t := by
  unfold execLinkLoss
  refine timed_keeps _ _ _ ?_
  repeat' first
    | with_reducible assumption
    | exact hp.sub rfl
    | intro _
    | with_reducible first | apply State.loseLink_keeps

theorem execConnectionConfig_keeps (dt : Nat) (n : Fin 16) (speed : Nat) (count : Nat) (s : State) (hp : Off pt 0x40000734) : ∃ t, (execConnectionConfig dt n speed count s) = .next t ∧ Keeps pt (s.arrive dt) t := by
  unfold execConnectionConfig
  refine timed_keeps _ _ _ ?_
  repeat' first
    | with_reducible assumption
    | exact hp.sub rfl
    | intro _
    | with_reducible first | apply State.respond_keeps | apply State.updLink_keeps | apply State.setLink_keeps | apply State.declareLost_keeps | apply Keeps.eachOf | apply Keeps.ite

theorem execLinkTrained_keeps (dt : Nat) (n : Fin 16) (s : State) (hp : Off pt 0x40000504) : ∃ t, (execLinkTrained dt n s) = .next t ∧ Keeps pt (s.arrive dt) t := by
  unfold execLinkTrained
  refine timed_keeps _ _ _ ?_
  repeat' first
    | with_reducible assumption
    | exact hp.sub rfl
    | intro _
    | with_reducible first | apply State.trained_keeps

theorem execLinkReturn_keeps (dt : Nat) (n : Fin 16) (s : State) (hp : Off pt 0x40000724) : ∃ t, (execLinkReturn dt n s) = .next t ∧ Keeps pt (s.arrive dt) t := by
  unfold execLinkReturn
  refine timed_keeps _ _ _ ?_
  repeat' first
    | with_reducible assumption
    | exact hp.sub rfl
    | intro _
    | with_reducible first | apply State.updLink_keeps | apply State.trained_keeps | apply State.judgeLink_keeps | apply State.raise1_keeps | apply State.flushRun_keeps | apply Keeps.eachOf | apply Keeps.ite
    | split

theorem execTestModeWrite_keeps (dt : Nat) (n : Fin 16) (on : Bool) (s : State) (hp : Off pt 0x40000534) : ∃ t, (execTestModeWrite dt n on s) = .next t ∧ Keeps pt (s.arrive dt) t := by
  unfold execTestModeWrite
  refine timed_keeps _ _ _ ?_
  repeat' first
    | with_reducible assumption
    | exact hp.sub rfl
    | intro _
    | with_reducible first | apply State.respond_keeps | apply State.updLink_keeps | apply Keeps.ite

theorem execStreamPacketSizeWrite_keeps (dt : Nat) (n : Fin 16) (size : Nat) (s : State) (hp : Off pt 0x40000534) : ∃ t, (execStreamPacketSizeWrite dt n size s) = .next t ∧ Keeps pt (s.arrive dt) t := by
  unfold execStreamPacketSizeWrite
  refine timed_keeps _ _ _ ?_
  repeat' first
    | with_reducible assumption
    | exact hp.sub rfl
    | intro _
    | with_reducible first | apply State.respond_keeps | apply Keeps.wr | apply Keeps.ite

theorem execLinkWakeByCommand_keeps (dt : Nat) (n : Fin 16) (s : State) (hp : Off pt 0x404) : ∃ t, (execLinkWakeByCommand dt n s) = .next t ∧ Keeps pt (s.arrive dt) t := by
  unfold execLinkWakeByCommand
  refine timed_keeps _ _ _ ?_
  repeat' first
    | with_reducible assumption
    | exact hp.sub rfl
    | intro _
    | with_reducible first | apply State.wakeLink_keeps

theorem execLinkResuspend_keeps (dt : Nat) (n : Fin 16) (s : State) (hp : Off pt 0x4) : ∃ t, (execLinkResuspend dt n s) = .next t ∧ Keeps pt (s.arrive dt) t := by
  unfold execLinkResuspend
  refine timed_keeps _ _ _ ?_
  repeat' first
    | with_reducible assumption
    | exact hp.sub rfl
    | intro _
    | with_reducible first | apply State.setLink_keeps

theorem State.linksSleep_keeps {s : State} (h : Keeps pt s0 s) (hp : Off pt 0x40000704) : Keeps pt s0 (s.linksSleep) := by
  unfold State.linksSleep
  repeat' first
    | with_reducible assumption
    | exact hp.sub rfl
    | intro _
    | with_reducible first | apply State.updEgress_keeps | apply State.updLink_keeps | apply State.setLink_keeps | apply Keeps.bump | apply Keeps.each | apply Keeps.eachOf | apply Keeps.ite
    | with_reducible (refine Keeps.mk' hp ?_; first | assumption | apply State.updEgress_keeps | apply State.updLink_keeps | apply State.setLink_keeps | apply Keeps.bump | apply Keeps.each | apply Keeps.eachOf | apply Keeps.ite)

theorem State.linksRest_keeps {s : State} (h : Keeps pt s0 s) (hp : Off pt 0x4) : Keeps pt s0 (s.linksRest) := by
  unfold State.linksRest
  repeat' first
    | with_reducible assumption
    | exact hp.sub rfl
    | intro _
    | with_reducible first | apply State.setLink_keeps | apply Keeps.each | apply Keeps.ite

theorem State.linksWake_keeps {s : State} (h : Keeps pt s0 s) (hp : Off pt 0x4) : Keeps pt s0 (s.linksWake) := by
  unfold State.linksWake
  repeat' first
    | with_reducible assumption
    | exact hp.sub rfl
    | intro _
    | with_reducible first | apply State.setLink_keeps | apply Keeps.each | apply Keeps.ite

theorem opFlush_keeps (k : Nat) (hp : Off pt 0x40000104) : OpKeeps pt s0 (opFlush k) := by
  intro v s h
  unfold opFlush
  repeat' first
    | with_reducible assumption
    | exact hp.sub rfl
    | with_reducible first | apply State.updEgress_keeps | apply Keeps.wr | apply Keeps.ite
    | split

theorem execFlushImageLines_keeps (dt : Nat) (m : Fin 17) (k : Fin 8) (s : State) (hp : Off pt 0x40000534) : ∃ t, (execFlushImageLines dt m k s) = .next t ∧ Keeps pt (s.pass dt) t := by
  unfold execFlushImageLines
  exact hostCommand_keeps _ _ _ _ _ _ (hp.sub rfl) (opFlush_keeps _ (hp.sub rfl))

theorem execFlushStatistics_keeps (dt : Nat) (m : Fin 17) (k : Fin 8) (s : State) (hp : Off pt 0x40000534) : ∃ t, (execFlushStatistics dt m k s) = .next t ∧ Keeps pt (s.pass dt) t := by
  unfold execFlushStatistics
  exact hostCommand_keeps _ _ _ _ _ _ (hp.sub rfl) (opFlush_keeps _ (hp.sub rfl))

theorem State.flushMarker_keeps {s : State} (h : Keeps pt s0 s) (hp : Off pt 0x40000724) (gone : List Packet) (st : Nat) : Keeps pt s0 (s.flushMarker gone st) := by
  unfold State.flushMarker
  repeat' first
    | with_reducible assumption
    | exact hp.sub rfl
    | with_reducible first | apply State.updStream_keeps | apply State.putMarker_keeps | apply Keeps.foldl | apply Keeps.ite
    | (extract_lets +onlyGivenNames -underBinder a; fail_if_success (have : Keeps pt s0 a := by with_reducible assumption); with_reducible first | refine Keeps.use a ?_ fun _ => ?_)
    | split
    | unfold a

theorem State.flushNow_keeps {s : State} (h : Keeps pt s0 s) (hp : Off pt 0x40000724) (k : Nat) : Keeps pt s0 (s.flushNow k) := by
  unfold State.flushNow
  repeat' first
    | with_reducible assumption
    | exact hp.sub rfl
    | intro _
    | with_reducible first | apply State.updEgress_keeps | apply State.flushMarker_keeps | apply Keeps.eachOf | apply Keeps.ite

theorem execFlushComplete_keeps (dt : Nat) (k : Fin 8) (s : State) (hp : Off pt 0x40000724) : ∃ t, (execFlushComplete dt k s) = .next t ∧ Keeps pt (s.arrive dt) t := by
  unfold execFlushComplete
  refine timed_keeps _ _ _ ?_
  repeat' first
    | with_reducible assumption
    | exact hp.sub rfl
    | intro _
    | with_reducible first | apply State.flushNow_keeps | apply State.raise1_keeps | apply State.updEgress_keeps | apply Keeps.wr | apply Keeps.bump

theorem State.endPacket_keeps {s : State} (h : Keeps pt s0 s) (hp : Off pt 0x40000524) (n : Nat) (parityBad : Bool) : Keeps pt s0 (s.endPacket n parityBad) := by
  unfold State.endPacket
  repeat' first
    | with_reducible assumption
    | exact hp.sub rfl
    | with_reducible first | apply State.updLink_keeps | apply State.raise1_keeps | apply State.free_keeps | apply Keeps.bump | apply Keeps.ite
    | (extract_lets +onlyGivenNames -underBinder a; fail_if_success (have : Keeps pt s0 a := by with_reducible assumption); fail_if_success (have : Keeps pt s0 a.1 := by with_reducible assumption); with_reducible first | refine Keeps.use a ?_ fun _ => ?_ | refine Keeps.use1 a ?_ fun _ => ?_)
    | split

theorem execPacketTransmitEnd_keeps (dt : Nat) (n : Fin 16) (parityBad : Bool) (s : State) (hp : Off pt 0x40000724) : ∃ t, (execPacketTransmitEnd dt n parityBad s) = .next t ∧ Keeps pt (s.arrive dt) t := by
  unfold execPacketTransmitEnd
  refine timed_keeps _ _ _ ?_
  repeat' first
    | with_reducible assumption
    | exact hp.sub rfl
    | intro _
    | with_reducible first | apply State.startLinks_keeps | apply State.beginPacket_keeps | apply State.endPacket_keeps | apply State.flushNow_keeps | apply Keeps.each

theorem execTriggerPacket_keeps (dt : Nat) (n : Fin 16) (rising : Bool) (delay : Nat) (s : State) (hp : Off pt 0x6830a4) : ∃ t, (execTriggerPacket dt n rising delay s) = .next t ∧ Keeps pt (s.arrive dt) t := by
  unfold execTriggerPacket
  refine timed_keeps _ _ _ ?_
  repeat' first
    | with_reducible assumption
    | exact hp.sub rfl
    | intro _
    | with_reducible first | apply State.ownTrigger_keeps | apply Keeps.bump | apply Keeps.ite

theorem execUplinkPacketError_keeps (dt : Nat) (n : Fin 16) (s : State) (hp : Off pt 0x24) : ∃ t, (execUplinkPacketError dt n s) = .next t ∧ Keeps pt (s.arrive dt) t := by
  unfold execUplinkPacketError
  refine timed_keeps _ _ _ ?_
  repeat' first
    | with_reducible assumption
    | exact hp.sub rfl
    | intro _
    | with_reducible first | apply State.raiseIf_keeps | apply Keeps.bump

/-! ## Power -/

theorem State.setConn_keeps {s : State} (h : Keeps pt s0 s) (hp : Off pt 0x44) (n : Nat) (code : Nat) : Keeps pt s0 (s.setConn n code) := by
  unfold State.setConn
  repeat' first
    | with_reducible assumption
    | exact hp.sub rfl
    | with_reducible first | apply State.updConn_keeps | apply Keeps.wr

theorem State.enableConn_keeps {s : State} (h : Keeps pt s0 s) (hp : Off pt 0x44) (n : Nat) : Keeps pt s0 (s.enableConn n) := by
  unfold State.enableConn
  repeat' first
    | with_reducible assumption
    | exact hp.sub rfl
    | with_reducible first | apply State.setConn_keeps
    | with_reducible (refine Keeps.mk' hp ?_; first | assumption | apply State.setConn_keeps)

theorem State.shed_keeps {s : State} (h : Keeps pt s0 s) (hp : Off pt 0x64) (n : Nat) : Keeps pt s0 (s.shed n) := by
  unfold State.shed
  repeat' first
    | with_reducible assumption
    | exact hp.sub rfl
    | with_reducible first | apply State.raise1_keeps | apply State.updConn_keeps | apply State.setConn_keeps | apply Keeps.bump

theorem execConnectionPresent_keeps (dt : Nat) (n : Fin 16) (s : State) (hp : Off pt 0x44) : ∃ t, (execConnectionPresent dt n s) = .next t ∧ Keeps pt (s.pass dt) t := by
  unfold execConnectionPresent
  refine event_keeps _ _ _ ?_
  repeat' first
    | with_reducible assumption
    | exact hp.sub rfl
    | intro _
    | with_reducible first | apply State.updConn_keeps | apply State.setConn_keeps | apply Keeps.ite

theorem execConnectionEnable_keeps (dt : Nat) (s : State) (hp : Off pt 0x44) : ∃ t, (execConnectionEnable dt s) = .next t ∧ Keeps pt (s.pass dt) t := by
  unfold execConnectionEnable
  refine event_keeps _ _ _ ?_
  repeat' first
    | with_reducible assumption
    | exact hp.sub rfl
    | intro _
    | with_reducible first | apply State.enableConn_keeps
    | split

theorem execConnectionAdmissionCheck_keeps (dt : Nat) (n : Fin 16) (current : Nat) (s : State) (hp : Off pt 0x64) : ∃ t, (execConnectionAdmissionCheck dt n current s) = .next t ∧ Keeps pt (s.pass dt) t := by
  unfold execConnectionAdmissionCheck
  refine event_keeps _ _ _ ?_
  repeat' first
    | with_reducible assumption
    | exact hp.sub rfl
    | intro _
    | with_reducible first | apply State.updConn_keeps | apply State.setConn_keeps | apply State.shed_keeps | apply Keeps.ite

theorem execConnectionShedRetry_keeps (dt : Nat) (n : Fin 16) (s : State) (hp : Off pt 0x44) : ∃ t, (execConnectionShedRetry dt n s) = .next t ∧ Keeps pt (s.pass dt) t := by
  unfold execConnectionShedRetry
  refine event_keeps _ _ _ ?_
  repeat' first
    | with_reducible assumption
    | exact hp.sub rfl
    | intro _
    | with_reducible first | apply State.enableConn_keeps | apply State.setConn_keeps | apply Keeps.ite

theorem execConnectionOverload_keeps (dt : Nat) (n : Fin 16) (current : Nat) (s : State) (hp : Off pt 0x8024) : ∃ t, (execConnectionOverload dt n current s) = .next t ∧ Keeps pt (s.pass dt) t := by
  unfold execConnectionOverload
  refine event_keeps _ _ _ ?_
  repeat' first
    | with_reducible assumption
    | exact hp.sub rfl
    | intro _
    | with_reducible first | apply State.raise1_keeps | apply Keeps.bump
    | with_reducible (refine Keeps.mk' hp ?_; first | assumption | apply State.raise1_keeps | apply Keeps.bump)

theorem execConnectionShed_keeps (dt : Nat) (n : Fin 16) (current : Nat) (s : State) (hp : Off pt 0x64) : ∃ t, (execConnectionShed dt n current s) = .next t ∧ Keeps pt (s.pass dt) t := by
  unfold execConnectionShed
  refine event_keeps _ _ _ ?_
  repeat' first
    | with_reducible assumption
    | exact hp.sub rfl
    | intro _
    | with_reducible first | apply State.shed_keeps

theorem execConnectionPowerRemoved_keeps (dt : Nat) (n : Fin 16) (pres : BitVec 16) (s : State) (hp : Off pt 0x40000774) : ∃ t, (execConnectionPowerRemoved dt n pres s) = .next t ∧ Keeps pt (s.pass dt) t := by
  unfold execConnectionPowerRemoved
  refine event_keeps _ _ _ ?_
  repeat' first
    | with_reducible assumption
    | exact hp.sub rfl
    | intro _
    | with_reducible first | apply State.loseLink_keeps | apply State.setConn_keeps | apply State.enableConn_keeps | apply Keeps.ite
    | split

theorem execConnectionSenseFault_keeps (dt : Nat) (n : Fin 16) (s : State) (hp : Off pt 0x64) : ∃ t, (execConnectionSenseFault dt n s) = .next t ∧ Keeps pt (s.pass dt) t := by
  unfold execConnectionSenseFault
  refine event_keeps _ _ _ ?_
  repeat' first
    | with_reducible assumption
    | exact hp.sub rfl
    | intro _
    | with_reducible first | apply State.raise1_keeps | apply State.setConn_keeps

theorem execSenseFaultCleared_keeps (dt : Nat) (n : Fin 16) (pres : Bool) (s : State) (hp : Off pt 0x44) : ∃ t, (execSenseFaultCleared dt n pres s) = .next t ∧ Keeps pt (s.pass dt) t := by
  unfold execSenseFaultCleared
  refine event_keeps _ _ _ ?_
  repeat' first
    | with_reducible assumption
    | exact hp.sub rfl
    | intro _
    | with_reducible first | apply State.setConn_keeps

theorem execConnectionPresenceLost_keeps (dt : Nat) (n : Fin 16) (s : State) (hp : Off pt 0x44) : ∃ t, (execConnectionPresenceLost dt n s) = .next t ∧ Keeps pt (s.pass dt) t := by
  unfold execConnectionPresenceLost
  refine event_keeps _ _ _ ?_
  repeat' first
    | with_reducible assumption
    | exact hp.sub rfl
    | intro _
    | with_reducible first | apply State.setConn_keeps

theorem opAdmission_keeps (n : Nat) (hp : Off pt 0x44) : OpKeeps pt s0 (opAdmission n) := by
  intro v s h
  unfold opAdmission
  repeat' first
    | with_reducible assumption
    | exact hp.sub rfl
    | with_reducible first | apply State.setConn_keeps | apply State.updConn_keeps | apply Keeps.wr | apply Keeps.ite
    | split

theorem execAdmissionEnableWrite_keeps (dt : Nat) (m : Fin 17) (n : Fin 16) (v : Nat) (s : State) (hp : Off pt 0x40000574) : ∃ t, (execAdmissionEnableWrite dt m n v s) = .next t ∧ Keeps pt (s.pass dt) t := by
  unfold execAdmissionEnableWrite
  exact hostCommand_keeps _ _ _ _ _ _ (hp.sub rfl) (opAdmission_keeps _ (hp.sub rfl))

theorem execVauxReversed_keeps (dt : Nat) (s : State) (hp : Off pt 0x24) : ∃ t, (execVauxReversed dt s) = .next t ∧ Keeps pt (s.pass dt) t := by
  unfold execVauxReversed
  refine event_keeps _ _ _ ?_
  repeat' first
    | with_reducible assumption
    | exact hp.sub rfl
    | intro _
    | with_reducible first | apply State.raise1_keeps | apply Keeps.wr | apply Keeps.bump

theorem execVauxOutOfRange_keeps (dt : Nat) (mv : Nat) (s : State) (hp : Off pt 0x24) : ∃ t, (execVauxOutOfRange dt mv s) = .next t ∧ Keeps pt (s.pass dt) t := by
  unfold execVauxOutOfRange
  refine event_keeps _ _ _ ?_
  repeat' first
    | with_reducible assumption
    | exact hp.sub rfl
    | intro _
    | with_reducible first | apply State.raise1_keeps | apply Keeps.wr

theorem execAuxiliaryInputQualifying_keeps (dt : Nat) (mv : Nat) (s : State) (hp : Off pt 0x44) : ∃ t, (execAuxiliaryInputQualifying dt mv s) = .next t ∧ Keeps pt (s.pass dt) t := by
  unfold execAuxiliaryInputQualifying
  refine event_keeps _ _ _ ?_
  repeat' first
    | with_reducible assumption
    | exact hp.sub rfl
    | intro _
    | with_reducible first | apply Keeps.wr | apply Keeps.ite
    | with_reducible (refine Keeps.mk' hp ?_; first | assumption | apply Keeps.wr | apply Keeps.ite)

theorem execVauxQualified_keeps (dt : Nat) (s : State) (hp : Off pt 0x4) : ∃ t, (execVauxQualified dt s) = .next t ∧ Keeps pt (s.pass dt) t := by
  unfold execVauxQualified
  refine event_keeps _ _ _ ?_
  repeat' first
    | with_reducible assumption
    | exact hp.sub rfl
    | intro _
    | with_reducible first | apply Keeps.wr | apply Keeps.ite

theorem opVauxEnable_keeps (hp : Off pt 0x4) : OpKeeps pt s0 opVauxEnable := by
  intro v s h
  unfold opVauxEnable
  repeat' first
    | with_reducible assumption
    | exact hp.sub rfl
    | with_reducible first | apply Keeps.wr | apply Keeps.ite

theorem State.bootTo_keeps {s : State} (h : Keeps pt s0 s) (hp : Off pt 0x40) (b : Boot) : Keeps pt s0 (s.bootTo b) := by
  unfold State.bootTo
  repeat' first
    | with_reducible assumption
    | exact hp.sub rfl
    | with_reducible (refine Keeps.mk' hp ?_; first | assumption)

theorem execPowerOnFilterRelease_keeps (dt : Nat) (bootSel : Bool) (pres : BitVec 16) (s : State) (hp : Off pt 0x44) : ∃ t, (execPowerOnFilterRelease dt bootSel pres s) = .next t ∧ Keeps pt (s.pass dt) t := by
  unfold execPowerOnFilterRelease
  refine event_keeps _ _ _ ?_
  repeat' first
    | with_reducible assumption
    | exact hp.sub rfl
    | intro _
    | with_reducible first | apply State.enableConn_keeps
    | with_reducible (refine Keeps.mk' hp ?_; first | assumption | apply State.enableConn_keeps)
    | split

theorem execRailStepPowerGood_keeps (dt : Nat) (s : State) (hp : Off pt 0x44) : ∃ t, (execRailStepPowerGood dt s) = .next t ∧ Keeps pt (s.pass dt) t := by
  unfold execRailStepPowerGood
  refine event_keeps _ _ _ ?_
  repeat' first
    | with_reducible assumption
    | exact hp.sub rfl
    | intro _
    | with_reducible first | apply State.wrBit_keeps | apply Keeps.ite
    | with_reducible (refine Keeps.mk' hp ?_; first | assumption | apply State.wrBit_keeps | apply Keeps.ite)

theorem execCoreRelease_keeps (dt : Nat) (s : State) (hp : Off pt 0x40) : ∃ t, (execCoreRelease dt s) = .next t ∧ Keeps pt (s.pass dt) t := by
  unfold execCoreRelease
  refine event_keeps _ _ _ ?_
  repeat' first
    | with_reducible assumption
    | exact hp.sub rfl
    | intro _
    | with_reducible first | apply State.bootTo_keeps

/-! ## Canteen -/

theorem State.updCan_keeps {s : State} (h : Keeps pt s0 s) (hp : Off pt 0x8000) (f : CanteenSt → CanteenSt) : Keeps pt s0 (s.updCan f) := by
  unfold State.updCan
  repeat' first
    | with_reducible assumption
    | exact hp.sub rfl
    | with_reducible first | apply hf
    | with_reducible (refine Keeps.mk' hp ?_; first | assumption | apply hf)

theorem State.readInputs_keeps {s : State} (h : Keeps pt s0 s) (hp : Off pt 0x8024) (vb : Nat) (currents : List Nat) : Keeps pt s0 (s.readInputs vb currents) := by
  unfold State.readInputs
  repeat' first
    | with_reducible assumption
    | exact hp.sub rfl
    | intro _
    | with_reducible first | apply State.updCan_keeps | apply State.raiseIf_keeps | apply Keeps.wr | apply Keeps.each | apply Keeps.foldl | apply Keeps.ite

theorem State.canteenStart_keeps {s : State} (h : Keeps pt s0 s) (hp : Off pt 0x8004) : Keeps pt s0 (s.canteenStart) := by
  unfold State.canteenStart
  repeat' first
    | with_reducible assumption
    | exact hp.sub rfl
    | with_reducible first | apply State.updCan_keeps | apply Keeps.wr

theorem State.thermalFactor_keeps {s : State} (h : Keeps pt s0 s) (hp : Off pt 0x8004) (th : Nat) : Keeps pt s0 (s.thermalFactor th) := by
  unfold State.thermalFactor
  repeat' first
    | with_reducible assumption
    | exact hp.sub rfl
    | with_reducible first | apply State.updCan_keeps | apply Keeps.wr | apply Keeps.ite

theorem State.thermalStep_keeps {s : State} (h : Keeps pt s0 s) (hp : Off pt 0x18024) (dies : List Int) (invalid : Nat) : Keeps pt s0 (s.thermalStep dies invalid) := by
  unfold State.thermalStep
  repeat' first
    | with_reducible assumption
    | exact hp.sub rfl
    | intro _
    | with_reducible first | apply State.raiseIf_keeps | apply State.raise1_keeps | apply State.updCan_keeps | apply State.lanternGate_keeps | apply State.thermalFactor_keeps | apply Keeps.wr | apply Keeps.bump | apply Keeps.each | apply Keeps.foldl | apply Keeps.foldl1 | apply Keeps.ite

theorem State.giveGrant_keeps {s : State} (h : Keeps pt s0 s) (hp : Off pt 0x8004) (c : Nat) (was : Nat) (allowed : Nat) : Keeps pt s0 (s.giveGrant c was allowed) := by
  unfold State.giveGrant
  repeat' first
    | with_reducible assumption
    | exact hp.sub rfl
    | with_reducible first | apply State.updCan_keeps | apply Keeps.wr | apply Keeps.ite
    | split

theorem State.declare_keeps {s : State} (h : Keeps pt s0 s) (hp : Off pt 0x8024) : Keeps pt s0 (s.declare) := by
  unfold State.declare
  repeat' first
    | with_reducible assumption
    | exact hp.sub rfl
    | with_reducible first | apply State.updCan_keeps | apply State.raise1_keeps | apply Keeps.wr | apply Keeps.bump | apply Keeps.ite

theorem State.publishDuty_keeps {s : State} (h : Keeps pt s0 s) (hp : Off pt 0x4) : Keeps pt s0 (s.publishDuty) := by
  unfold State.publishDuty
  repeat' first
    | with_reducible assumption
    | exact hp.sub rfl
    | intro _
    | with_reducible first | apply Keeps.wr | apply Keeps.each | apply Keeps.ite

theorem State.publishGrants_keeps {s : State} (h : Keeps pt s0 s) (hp : Off pt 0x8024) : Keeps pt s0 (s.publishGrants) := by
  unfold State.publishGrants
  repeat' first
    | with_reducible assumption
    | exact hp.sub rfl
    | with_reducible first | apply State.publishDuty_keeps | apply State.declare_keeps | apply State.updCan_keeps | apply State.raiseIf_keeps | apply State.raise1_keeps | apply Keeps.wr | apply Keeps.ite

theorem State.budgetChange_keeps {s : State} (h : Keeps pt s0 s) (hp : Off pt 0x8024) : Keeps pt s0 (s.budgetChange) := by
  unfold State.budgetChange
  repeat' first
    | with_reducible assumption
    | exact hp.sub rfl
    | with_reducible first | apply State.raiseIf_keeps | apply State.updCan_keeps | apply Keeps.bump | apply Keeps.raise | apply Keeps.ite

theorem State.grantBlend_keeps {s : State} (h : Keeps pt s0 s) (hp : Off pt 0x8000) : Keeps pt s0 (s.grantBlend) := by
  unfold State.grantBlend
  repeat' first
    | with_reducible assumption
    | exact hp.sub rfl
    | with_reducible first | apply State.updCan_keeps | apply Keeps.ite
    | split

theorem State.setDram_keeps {s : State} (h : Keeps pt s0 s) (hp : Off pt 0x24) (v : Nat) : Keeps pt s0 (s.setDram v) := by
  unfold State.setDram
  repeat' first
    | with_reducible assumption
    | exact hp.sub rfl
    | with_reducible first | apply State.raise1_keeps | apply Keeps.wr | apply Keeps.ite

theorem State.chooseDram_keeps {s : State} (h : Keeps pt s0 s) (hp : Off pt 0x8024) : Keeps pt s0 (s.chooseDram) := by
  unfold State.chooseDram
  repeat' first
    | with_reducible assumption
    | exact hp.sub rfl
    | with_reducible first | apply State.updCan_keeps | apply State.setDram_keeps

theorem State.dramStep_keeps {s : State} (h : Keeps pt s0 s) (hp : Off pt 0x8024) : Keeps pt s0 (s.dramStep) := by
  unfold State.dramStep
  repeat' first
    | with_reducible assumption
    | exact hp.sub rfl
    | with_reducible first | apply State.updCan_keeps | apply State.setDram_keeps | apply Keeps.ite

theorem State.lampStep_keeps {s : State} (h : Keeps pt s0 s) (hp : Off pt 0x8000) (full : Bool) : Keeps pt s0 (s.lampStep full) := by
  unfold State.lampStep
  repeat' first
    | with_reducible assumption
    | exact hp.sub rfl
    | with_reducible first | apply State.updCan_keeps | apply Keeps.ite

theorem State.grantStepper_keeps {s : State} (h : Keeps pt s0 s) (hp : Off pt 0x208000) : Keeps pt s0 (s.grantStepper) := by
  unfold State.grantStepper
  repeat' first
    | with_reducible assumption
    | exact hp.sub rfl
    | with_reducible first | apply State.updCan_keeps | apply State.updTrn_keeps | apply Keeps.ite

theorem State.lampEntry_keeps {s : State} (h : Keeps pt s0 s) (hp : Off pt 0x8000) : Keeps pt s0 (s.lampEntry) := by
  unfold State.lampEntry
  repeat' first
    | with_reducible assumption
    | exact hp.sub rfl
    | with_reducible first | apply State.updCan_keeps | apply Keeps.ite

theorem State.canteenStandby_keeps {s : State} (h : Keeps pt s0 s) (hp : Off pt 0x208024) : Keeps pt s0 (s.canteenStandby) := by
  unfold State.canteenStandby
  repeat' first
    | with_reducible assumption
    | exact hp.sub rfl
    | with_reducible first | apply State.grantStepper_keeps | apply State.chooseDram_keeps

theorem State.canteenSleep_keeps {s : State} (h : Keeps pt s0 s) (hp : Off pt 0x208004) : Keeps pt s0 (s.canteenSleep) := by
  unfold State.canteenSleep
  repeat' first
    | with_reducible assumption
    | exact hp.sub rfl
    | intro _
    | with_reducible first | apply State.updTrn_keeps | apply State.updCan_keeps | apply Keeps.wr | apply Keeps.each

theorem execLampGrantWithdrawn_keeps (dt : Nat) (s : State) (hp : Off pt 0x2080a4) : ∃ t, (execLampGrantWithdrawn dt s) = .next t ∧ Keeps pt (s.arrive dt) t := by
  unfold execLampGrantWithdrawn
  refine timed_keeps _ _ _ ?_
  repeat' first
    | with_reducible assumption
    | exact hp.sub rfl
    | intro _
    | with_reducible first | apply State.raise1_keeps | apply State.updCan_keeps | apply State.pegStop_keeps | apply State.publishGrants_keeps | apply Keeps.wr | apply Keeps.ite

theorem execConsumptionAboveBudget_keeps (dt : Nat) (s : State) (hp : Off pt 0x8024) : ∃ t, (execConsumptionAboveBudget dt s) = .next t ∧ Keeps pt (s.pass dt) t := by
  unfold execConsumptionAboveBudget
  refine event_keeps _ _ _ ?_
  repeat' first
    | with_reducible assumption
    | exact hp.sub rfl
    | intro _
    | with_reducible first | apply State.updCan_keeps | apply State.raise1_keeps

theorem execGrantRestoreHoldExpiry_keeps (dt : Nat) (s : State) (hp : Off pt 0x8024) :
    ∃ t, execGrantRestoreHoldExpiry dt s = .next t ∧ Keeps pt (s.pass dt) t := by
  unfold execGrantRestoreHoldExpiry
  refine event_keeps _ _ _ fun t ht => State.publishGrants_keeps (ht.each fun c u hu => ?_) (hp.sub rfl)
  exact Keeps.ite (State.updCan_keeps (hu.wr (hp.sub rfl) _ _ _) (hp.sub rfl) _) hu

theorem State.planStep_keeps {s : State} (h : Keeps pt s0 s) (hp : Off pt 0x208024) : Keeps pt s0 (s.planStep) := by
  unfold State.planStep
  repeat' first
    | with_reducible assumption
    | exact hp.sub rfl
    | intro _
    | with_reducible first | apply State.budgetChange_keeps | apply State.lampStep_keeps | apply State.updCan_keeps | apply State.raiseIf_keeps | apply State.giveGrant_keeps | apply State.grantStepper_keeps | apply State.dramStep_keeps | apply State.grantBlend_keeps | apply State.publishGrants_keeps | apply Keeps.wrAll | apply Keeps.each

theorem State.showWaiting_keeps {s : State} (h : Keeps pt s0 s) (hp : Off pt 0x4) : Keeps pt s0 (s.showWaiting) := by
  unfold State.showWaiting
  repeat' first
    | with_reducible assumption
    | exact hp.sub rfl
    | with_reducible first | apply Keeps.wr | apply Keeps.foldl

theorem State.tick_keeps {s : State} (h : Keeps pt s0 s) (hp : Off pt 0x298024) (vb : Nat) (currents : List Nat) (dies : List Int) (invalid : Nat) : Keeps pt s0 (s.tick vb currents dies invalid) := by
  unfold State.tick
  repeat' first
    | with_reducible assumption
    | exact hp.sub rfl
    | intro _
    | with_reducible first | apply State.thermalStep_keeps | apply State.readInputs_keeps | apply State.planStep_keeps | apply State.showWaiting_keeps | apply State.trimTick_keeps | apply Keeps.each

theorem execCanteenTick_keeps (dt : Nat) (vb : Nat) (currents : List Nat) (dies : List Int) (invalid : BitVec 16) (s : State) (hp : Off pt 0x298024) : ∃ t, (execCanteenTick dt vb currents dies invalid s) = .next t ∧ Keeps pt (s.arrive dt) t := by
  unfold execCanteenTick
  refine timed_keeps _ _ _ ?_
  repeat' first
    | with_reducible assumption
    | exact hp.sub rfl
    | intro _
    | with_reducible first | apply State.tick_keeps

end Sys2Proof.Machine
end

