-- ==== Sys2Proof/Laws/KeepsDevice.lean ====
section
/-!
SUPPORT. The law of `Laws/Keeps.lean` for captures, the device state, entries, windows, doors, start and EtherCAT: one lemma per operation and
one per command, which says that the command gives a next state.
-/
set_option Elab.async false
namespace Sys2Proof.Machine

variable {pt : Part} {s0 : State}

/-! ## Capture -/

theorem State.captureRate_keeps {s : State} (h : Keeps pt s0 s) (hp : Off pt 0x34) (p : Nat) : Keeps pt s0 (s.captureRate p).1 := by
  unfold State.captureRate
  repeat' first
    | with_reducible assumption
    | exact hp.sub rfl
    | with_reducible first | apply State.ownClamp_keeps | apply Keeps.ite
    | (extract_lets +onlyGivenNames -underBinder a; fail_if_success (have : Keeps pt s0 a := by with_reducible assumption); with_reducible first | refine Keeps.use a ?_ fun _ => ?_)
    | split

theorem State.captureGroups_keeps {s : State} (h : Keeps pt s0 s) (hp : Off pt 0x1880) (r : Nat) : Keeps pt s0 (s.captureGroups r) := by
  unfold State.captureGroups
  repeat' first
    | with_reducible assumption
    | exact hp.sub rfl
    | intro _
    | with_reducible first | apply State.resetGroups_keeps | apply State.updGroup_keeps | apply Keeps.each

theorem State.captureOver_keeps {s : State} (h : Keeps pt s0 s) (hp : Off pt 0xb8bc) (begun : Nat) : Keeps pt s0 (s.captureOver begun) := by
  unfold State.captureOver
  repeat' first
    | with_reducible assumption
    | exact hp.sub rfl
    | with_reducible first | apply State.setClocks_keeps | apply State.resetGroups_keeps
    | with_reducible (refine Keeps.mk' hp ?_; first | assumption | apply State.setClocks_keeps | apply State.resetGroups_keeps)
    | dsimp only

theorem opCapture_keeps (kind : Nat) (hp : Off pt 0x18b4) : OpKeeps pt s0 (opCapture kind) := by
  intro v s h
  unfold opCapture
  repeat' first
    | with_reducible assumption
    | exact hp.sub rfl
    | with_reducible first | apply State.report_keeps | apply State.setClocks_keeps | apply State.captureRate_keeps | apply State.captureGroups_keeps | apply State.setBank_keeps | apply Keeps.wr | apply Keeps.ite
    | (extract_lets +onlyGivenNames -underBinder a; fail_if_success (have : Keeps pt s0 a := by with_reducible assumption); fail_if_success (have : Keeps pt s0 a.1 := by with_reducible assumption); with_reducible first | refine Keeps.use a ?_ fun _ => ?_ | refine Keeps.use1 a ?_ fun _ => ?_)
    | with_reducible (refine Keeps.mk' hp ?_; first | assumption | apply State.report_keeps | apply State.setClocks_keeps | apply State.captureRate_keeps | apply State.captureGroups_keeps | apply State.setBank_keeps | apply Keeps.wr | apply Keeps.ite)
    | split

theorem execStartDarkCapture_keeps (dt : Nat) (m : Fin 17) (s : State) (hp : Off pt 0x40001db4) : ∃ t, (execStartDarkCapture dt m s) = .next t ∧ Keeps pt (s.pass dt) t := by
  unfold execStartDarkCapture
  exact hostCommand_keeps _ _ _ _ _ _ (hp.sub rfl) (opCapture_keeps _ (hp.sub rfl))

theorem execStartWhiteCapture_keeps (dt : Nat) (m : Fin 17) (s : State) (hp : Off pt 0x40001db4) : ∃ t, (execStartWhiteCapture dt m s) = .next t ∧ Keeps pt (s.pass dt) t := by
  unfold execStartWhiteCapture
  exact hostCommand_keeps _ _ _ _ _ _ (hp.sub rfl) (opCapture_keeps _ (hp.sub rfl))

theorem execStartDarkWhiteCapture_keeps (dt : Nat) (m : Fin 17) (s : State) (hp : Off pt 0x40001db4) : ∃ t, (execStartDarkWhiteCapture dt m s) = .next t ∧ Keeps pt (s.pass dt) t := by
  unfold execStartDarkWhiteCapture
  exact hostCommand_keeps _ _ _ _ _ _ (hp.sub rfl) (opCapture_keeps _ (hp.sub rfl))

theorem State.captureEnd_keeps {s : State} (h : Keeps pt s0 s) (hp : Off pt 0xb8bc) (c : Capture) (status : Nat) (bank : Nat) : Keeps pt s0 (s.captureEnd c status bank) := by
  unfold State.captureEnd
  repeat' first
    | with_reducible assumption
    | exact hp.sub rfl
    | with_reducible first | apply State.raise1_keeps | apply State.captureOver_keeps | apply State.setBank_keeps | apply Keeps.wr | apply Keeps.ite

theorem State.captureAbort_keeps {s : State} (h : Keeps pt s0 s) (hp : Off pt 0xb8bc) : Keeps pt s0 (s.captureAbort) := by
  unfold State.captureAbort
  repeat' first
    | with_reducible assumption
    | exact hp.sub rfl
    | with_reducible first | apply State.captureEnd_keeps
    | split

theorem State.measureAbort_keeps {s : State} (h : Keeps pt s0 s) (hp : Off pt 0xb8bc) : Keeps pt s0 (s.measureAbort) := by
  unfold State.measureAbort
  repeat' first
    | with_reducible assumption
    | exact hp.sub rfl
    | with_reducible first | apply State.captureOver_keeps | apply Keeps.wr
    | split

theorem opAbortCapture_keeps (hp : Off pt 0xb8bc) : OpKeeps pt s0 opAbortCapture := by
  intro v s h
  unfold opAbortCapture
  repeat' first
    | with_reducible assumption
    | exact hp.sub rfl
    | with_reducible first | apply State.captureAbort_keeps | apply Keeps.ite
    | with_reducible (refine Keeps.mk' hp ?_; first | assumption | apply State.captureAbort_keeps | apply Keeps.ite)
    | split

theorem execAbortCapture_keeps (dt : Nat) (m : Fin 17) (s : State) (hp : Off pt 0x4000bdbc) : ∃ t, (execAbortCapture dt m s) = .next t ∧ Keeps pt (s.pass dt) t := by
  unfold execAbortCapture
  exact hostCommand_keeps _ _ _ _ _ _ (hp.sub rfl) (opAbortCapture_keeps (hp.sub rfl))

theorem opAbortMeasurement_keeps (hp : Off pt 0xb8bc) : OpKeeps pt s0 opAbortMeasurement := by
  intro v s h
  unfold opAbortMeasurement
  repeat' first
    | with_reducible assumption
    | exact hp.sub rfl
    | with_reducible first | apply State.measureAbort_keeps | apply Keeps.ite
    | with_reducible (refine Keeps.mk' hp ?_; first | assumption | apply State.measureAbort_keeps | apply Keeps.ite)
    | split

theorem execAbortMeasurement_keeps (dt : Nat) (m : Fin 17) (s : State) (hp : Off pt 0x4000bdbc) : ∃ t, (execAbortMeasurement dt m s) = .next t ∧ Keeps pt (s.pass dt) t := by
  unfold execAbortMeasurement
  exact hostCommand_keeps _ _ _ _ _ _ (hp.sub rfl) (opAbortMeasurement_keeps (hp.sub rfl))

theorem State.captureTrigger_keeps {s : State} (h : Keeps pt s0 s) (hp : Off pt 0xa4) : Keeps pt s0 (s.captureTrigger) := by
  unfold State.captureTrigger
  repeat' first
    | with_reducible assumption
    | exact hp.sub rfl
    | intro _
    | with_reducible first | apply State.deliver_keeps | apply Keeps.bump | apply Keeps.each | apply Keeps.ite

theorem execCaptureLineCycle_keeps (dt : Nat) (s : State) (hp : Off pt 0xb8bc) : ∃ t, (execCaptureLineCycle dt s) = .next t ∧ Keeps pt (s.pass dt) t := by
  unfold execCaptureLineCycle
  refine event_keeps _ _ _ ?_
  repeat' first
    | with_reducible assumption
    | exact hp.sub rfl
    | intro _
    | with_reducible first | apply State.captureAbort_keeps | apply State.captureTrigger_keeps | apply State.measureAbort_keeps | apply Keeps.ite
    | with_reducible (refine Keeps.mk' hp ?_; first | assumption | apply State.captureAbort_keeps | apply State.captureTrigger_keeps | apply State.measureAbort_keeps | apply Keeps.ite)
    | split

theorem execCaptureSettleDone_keeps (dt : Nat) (s : State) (hp : Off pt 0x3000) : ∃ t, (execCaptureSettleDone dt s) = .next t ∧ Keeps pt (s.pass dt) t := by
  unfold execCaptureSettleDone
  refine event_keeps _ _ _ ?_
  repeat' first
    | with_reducible assumption
    | exact hp.sub rfl
    | intro _
    | with_reducible first | apply Keeps.ite
    | with_reducible (refine Keeps.mk' hp ?_; first | assumption | apply Keeps.ite)
    | split

theorem State.askLamps_keeps {s : State} (h : Keeps pt s0 s) (hp : Off pt 0x8000) : Keeps pt s0 (s.askLamps) := by
  unfold State.askLamps
  repeat' first
    | with_reducible assumption
    | exact hp.sub rfl
    | with_reducible (refine Keeps.mk' hp ?_; first | assumption)

theorem execCaptureBaseDone_keeps (dt : Nat) (s : State) (hp : Off pt 0x100009004) : ∃ t, (execCaptureBaseDone dt s) = .next t ∧ Keeps pt (s.pass dt) t := by
  unfold execCaptureBaseDone
  refine event_keeps _ _ _ ?_
  repeat' first
    | with_reducible assumption
    | exact hp.sub rfl
    | intro _
    | with_reducible first | apply State.updBank_keeps | apply State.askLamps_keeps | apply Keeps.wr | apply Keeps.ite
    | with_reducible (refine Keeps.mk' hp ?_; first | assumption | apply State.updBank_keeps | apply State.askLamps_keeps | apply Keeps.wr | apply Keeps.ite)
    | split

theorem execCaptureAveragingDone_keeps (dt : Nat) (s : State) (hp : Off pt 0x1004) : ∃ t, (execCaptureAveragingDone dt s) = .next t ∧ Keeps pt (s.pass dt) t := by
  unfold execCaptureAveragingDone
  refine event_keeps _ _ _ ?_
  repeat' first
    | with_reducible assumption
    | exact hp.sub rfl
    | intro _
    | with_reducible first | apply Keeps.wr | apply Keeps.ite
    | with_reducible (refine Keeps.mk' hp ?_; first | assumption | apply Keeps.wr | apply Keeps.ite)
    | split

theorem execCaptureLampGrant_keeps (dt : Nat) (s : State) (hp : Off pt 0x3004) : ∃ t, (execCaptureLampGrant dt s) = .next t ∧ Keeps pt (s.pass dt) t := by
  unfold execCaptureLampGrant
  refine event_keeps _ _ _ ?_
  repeat' first
    | with_reducible assumption
    | exact hp.sub rfl
    | intro _
    | with_reducible first | apply Keeps.wr | apply Keeps.ite
    | with_reducible (refine Keeps.mk' hp ?_; first | assumption | apply Keeps.wr | apply Keeps.ite)
    | split

theorem State.captureResult_keeps {s : State} (h : Keeps pt s0 s) (hp : Off pt 0x10000b8bc) (c : Capture) : Keeps pt s0 (s.captureResult c) := by
  unfold State.captureResult
  repeat' first
    | with_reducible assumption
    | exact hp.sub rfl
    | with_reducible first | apply State.captureEnd_keeps | apply State.updBank_keeps | apply Keeps.wr | apply Keeps.foldl | apply Keeps.foldl1 | apply Keeps.ite
    | with_reducible (refine Keeps.mk' hp ?_; first | assumption | apply State.captureEnd_keeps | apply State.updBank_keeps | apply Keeps.wr | apply Keeps.foldl | apply Keeps.foldl1 | apply Keeps.ite)

theorem State.captureNoGrant_keeps {s : State} (h : Keeps pt s0 s) (hp : Off pt 0xb8bc) (c : Capture) : Keeps pt s0 (s.captureNoGrant c) := by
  unfold State.captureNoGrant
  repeat' first
    | with_reducible assumption
    | exact hp.sub rfl
    | with_reducible first | apply State.captureEnd_keeps | apply Keeps.wr | apply Keeps.ite
    | with_reducible (refine Keeps.mk' hp ?_; first | assumption | apply State.captureEnd_keeps | apply Keeps.wr | apply Keeps.ite)

theorem execCaptureComputeDone_keeps (dt : Nat) (s : State) (hp : Off pt 0x10000b8bc) : ∃ t, (execCaptureComputeDone dt s) = .next t ∧ Keeps pt (s.pass dt) t := by
  unfold execCaptureComputeDone
  refine event_keeps _ _ _ ?_
  repeat' first
    | with_reducible assumption
    | exact hp.sub rfl
    | intro _
    | with_reducible first | apply State.askLamps_keeps | apply State.captureResult_keeps | apply Keeps.wr | apply Keeps.ite
    | with_reducible (refine Keeps.mk' hp ?_; first | assumption | apply State.askLamps_keeps | apply State.captureResult_keeps | apply Keeps.wr | apply Keeps.ite)
    | split

theorem opMeasure_keeps (k : Nat) (hp : Off pt 0x38b4) : OpKeeps pt s0 (opMeasure k) := by
  intro v s h
  unfold opMeasure
  repeat' first
    | with_reducible assumption
    | exact hp.sub rfl
    | with_reducible first | apply State.report_keeps | apply State.setClocks_keeps | apply State.captureRate_keeps | apply State.captureGroups_keeps | apply Keeps.wr | apply Keeps.ite
    | (extract_lets +onlyGivenNames -underBinder a; fail_if_success (have : Keeps pt s0 a := by with_reducible assumption); fail_if_success (have : Keeps pt s0 a.1 := by with_reducible assumption); with_reducible first | refine Keeps.use a ?_ fun _ => ?_ | refine Keeps.use1 a ?_ fun _ => ?_)
    | with_reducible (refine Keeps.mk' hp ?_; first | assumption | apply State.report_keeps | apply State.setClocks_keeps | apply State.captureRate_keeps | apply State.captureGroups_keeps | apply Keeps.wr | apply Keeps.ite)
    | split

theorem execStartMeasurement_keeps (dt : Nat) (m : Fin 17) (k : Fin 8) (s : State) (hp : Off pt 0x40003db4) : ∃ t, (execStartMeasurement dt m k s) = .next t ∧ Keeps pt (s.pass dt) t := by
  unfold execStartMeasurement
  exact hostCommand_keeps _ _ _ _ _ _ (hp.sub rfl) (opMeasure_keeps _ (hp.sub rfl))

theorem execMeasurementPhaseDone_keeps (dt : Nat) (s : State) (hp : Off pt 0xa004) : ∃ t, (execMeasurementPhaseDone dt s) = .next t ∧ Keeps pt (s.pass dt) t := by
  unfold execMeasurementPhaseDone
  refine event_keeps _ _ _ ?_
  repeat' first
    | with_reducible assumption
    | exact hp.sub rfl
    | intro _
    | with_reducible first | apply State.askLamps_keeps | apply Keeps.wr | apply Keeps.ite
    | with_reducible (refine Keeps.mk' hp ?_; first | assumption | apply State.askLamps_keeps | apply Keeps.wr | apply Keeps.ite)
    | split

theorem State.measureFail_keeps {s : State} (h : Keeps pt s0 s) (hp : Off pt 0xb8bc) (m : Measure) : Keeps pt s0 (s.measureFail m) := by
  unfold State.measureFail
  repeat' first
    | with_reducible assumption
    | exact hp.sub rfl
    | with_reducible first | apply State.raise1_keeps | apply State.captureOver_keeps | apply Keeps.wr

theorem execMeasurementComplete_keeps (dt : Nat) (s : State) (hp : Off pt 0x20000b8bc) : ∃ t, (execMeasurementComplete dt s) = .next t ∧ Keeps pt (s.pass dt) t := by
  unfold execMeasurementComplete
  refine event_keeps _ _ _ ?_
  repeat' first
    | with_reducible assumption
    | exact hp.sub rfl
    | intro _
    | with_reducible first | apply State.measureFail_keeps | apply State.takeBasis_keeps | apply State.raise1_keeps | apply State.captureOver_keeps | apply Keeps.wr | apply Keeps.ite
    | split

theorem execCaptureLampGrantTimeout_keeps (dt : Nat) (s : State) (hp : Off pt 0xb8bc) : ∃ t, (execCaptureLampGrantTimeout dt s) = .next t ∧ Keeps pt (s.pass dt) t := by
  unfold execCaptureLampGrantTimeout
  refine event_keeps _ _ _ ?_
  repeat' first
    | with_reducible assumption
    | exact hp.sub rfl
    | intro _
    | with_reducible first | apply State.captureNoGrant_keeps | apply State.measureFail_keeps | apply Keeps.ite
    | split

theorem opImport_keeps (hp : Off pt 0x2004) : OpKeeps pt s0 opImport := by
  intro v s h
  unfold opImport
  repeat' first
    | with_reducible assumption
    | exact hp.sub rfl
    | with_reducible first | apply Keeps.wr | apply Keeps.ite
    | (extract_lets +onlyGivenNames -underBinder a; fail_if_success (have : Keeps pt s0 a := by with_reducible assumption); with_reducible first | refine Keeps.use a ?_ fun _ => ?_)
    | with_reducible (refine Keeps.mk' hp ?_; first | assumption | apply Keeps.wr | apply Keeps.ite)
    | split

theorem execImportCapturePlane_keeps (dt : Nat) (m : Fin 17) (v : Nat) (s : State) (hp : Off pt 0x40002534) : ∃ t, (execImportCapturePlane dt m v s) = .next t ∧ Keeps pt (s.pass dt) t := by
  unfold execImportCapturePlane
  exact hostCommand_keeps _ _ _ _ _ _ (hp.sub rfl) (opImport_keeps (hp.sub rfl))

theorem execImportComplete_keeps (dt : Nat) (s : State) (hp : Off pt 0x200002004) : ∃ t, (execImportComplete dt s) = .next t ∧ Keeps pt (s.pass dt) t := by
  unfold execImportComplete
  refine event_keeps _ _ _ ?_
  repeat' first
    | with_reducible assumption
    | exact hp.sub rfl
    | intro _
    | with_reducible first | apply State.takeBasis_keeps | apply Keeps.wr
    | with_reducible (refine Keeps.mk' hp ?_; first | assumption | apply State.takeBasis_keeps | apply Keeps.wr)
    | split

/-! ## Device -/

theorem State.showClusters_keeps {s : State} (h : Keeps pt s0 s) (hp : Off pt 0x4) : Keeps pt s0 (s.showClusters) := by
  unfold State.showClusters
  repeat' first
    | with_reducible assumption
    | exact hp.sub rfl
    | intro _
    | with_reducible first | apply State.setCluster_keeps | apply Keeps.each | apply Keeps.ite

theorem State.standbyEntry_keeps {s : State} (h : Keeps pt s0 s) (hp : Off pt 0x28a0bc) : Keeps pt s0 (s.standbyEntry) := by
  unfold State.standbyEntry
  repeat' first
    | with_reducible assumption
    | exact hp.sub rfl
    | with_reducible first | apply State.showClusters_keeps | apply State.toState_keeps | apply State.tellLost_keeps | apply State.setClocks_keeps | apply State.canteenStandby_keeps | apply State.trimFirst_keeps | apply Keeps.ite
    | with_reducible (refine Keeps.mk' hp ?_; first | assumption | apply State.showClusters_keeps | apply State.toState_keeps | apply State.tellLost_keeps | apply State.setClocks_keeps | apply State.canteenStandby_keeps | apply State.trimFirst_keeps | apply Keeps.ite)

theorem State.exitScanning_keeps {s : State} (h : Keeps pt s0 s) (hp : Off pt 0x60fef7bc) (fatal : Bool) : Keeps pt s0 (s.exitScanning fatal) := by
  unfold State.exitScanning
  repeat' first
    | with_reducible assumption
    | exact hp.sub rfl
    | with_reducible first | apply State.lampsExit_keeps | apply State.leaveGroups_keeps | apply State.transportExit_keeps | apply State.streamsExit_keeps | apply State.updCan_keeps | apply State.fatalArmed_keeps | apply State.switchAtStandby_keeps | apply State.swapNow_keeps | apply State.auxStandby_keeps | apply State.standbyEntry_keeps | apply State.updUpd_keeps | apply Keeps.wr | apply Keeps.ite
    | with_reducible (refine Keeps.mk' hp ?_; first | assumption | apply State.lampsExit_keeps | apply State.leaveGroups_keeps | apply State.transportExit_keeps | apply State.streamsExit_keeps | apply State.updCan_keeps | apply State.fatalArmed_keeps | apply State.switchAtStandby_keeps | apply State.swapNow_keeps | apply State.auxStandby_keeps | apply State.standbyEntry_keeps | apply State.updUpd_keeps | apply Keeps.wr | apply Keeps.ite)

theorem State.beginEntering_keeps {s : State} (h : Keeps pt s0 s) (hp : Off pt 0xb800c) : Keeps pt s0 (s.beginEntering) := by
  unfold State.beginEntering
  repeat' first
    | with_reducible assumption
    | exact hp.sub rfl
    | with_reducible first | apply State.lanternOff_keeps | apply State.updCan_keeps
    | with_reducible (refine Keeps.mk' hp ?_; first | assumption | apply State.lanternOff_keeps | apply State.updCan_keeps)

theorem State.beginWaking_keeps {s : State} (h : Keeps pt s0 s) (hp : Off pt 0x48) (goTo : DevState) : Keeps pt s0 (s.beginWaking goTo) := by
  unfold State.beginWaking
  repeat' first
    | with_reducible assumption
    | exact hp.sub rfl
    | with_reducible (refine Keeps.mk' hp ?_; first | assumption)

theorem State.enterScanning_keeps {s : State} (h : Keeps pt s0 s) (hp : Off pt 0x20f0dbbc) : Keeps pt s0 (s.enterScanning) := by
  unfold State.enterScanning
  repeat' first
    | with_reducible assumption
    | exact hp.sub rfl
    | with_reducible first | apply State.clampStrobes_keeps | apply State.showRates_keeps | apply State.setClocks_keeps | apply State.chooseDram_keeps | apply State.showClusters_keeps | apply State.toState_keeps | apply State.streamsEntry_keeps | apply State.ridgeEntry_keeps | apply State.matchAtEntry_keeps | apply State.resetGroups_keeps | apply State.transportEntry_keeps | apply State.lampEntry_keeps | apply Keeps.wr
    | with_reducible (refine Keeps.mk' hp ?_; first | assumption | apply State.clampStrobes_keeps | apply State.showRates_keeps | apply State.setClocks_keeps | apply State.chooseDram_keeps | apply State.showClusters_keeps | apply State.toState_keeps | apply State.streamsEntry_keeps | apply State.ridgeEntry_keeps | apply State.matchAtEntry_keeps | apply State.resetGroups_keeps | apply State.transportEntry_keeps | apply State.lampEntry_keeps | apply Keeps.wr)

theorem State.scanFromStandby_keeps {s : State} (h : Keeps pt s0 s) (hp : Off pt 0x20f0dbbc) : Keeps pt s0 (s.scanFromStandby).1 := by
  unfold State.scanFromStandby
  repeat' first
    | with_reducible assumption
    | exact hp.sub rfl
    | with_reducible first | apply State.combinationCheck_keeps | apply State.enterScanning_keeps | apply Keeps.ite
    | (extract_lets +onlyGivenNames -underBinder a; fail_if_success (have : Keeps pt s0 a := by with_reducible assumption); fail_if_success (have : Keeps pt s0 a.1 := by with_reducible assumption); with_reducible first | refine Keeps.use a ?_ fun _ => ?_ | refine Keeps.use1 a ?_ fun _ => ?_)
    | split

theorem State.release_keeps {s : State} (h : Keeps pt s0 s) (hp : Off pt 0x4000053c) (code : Nat) : Keeps pt s0 (s.release code) := by
  unfold State.release
  repeat' first
    | with_reducible assumption
    | exact hp.sub rfl
    | with_reducible first | apply State.answer_keeps
    | with_reducible (refine Keeps.mk' hp ?_; first | assumption | apply State.answer_keeps)
    | split

theorem State.answerHeld_keeps {s : State} (h : Keeps pt s0 s) (hp : Off pt 0x60f0dfbc) : Keeps pt s0 (s.answerHeld) := by
  unfold State.answerHeld
  repeat' first
    | with_reducible assumption
    | exact hp.sub rfl
    | with_reducible first | apply State.scanFromStandby_keeps | apply State.answer_keeps | apply Keeps.wr | apply Keeps.ite
    | with_reducible (refine Keeps.mk' hp ?_; first | assumption | apply State.scanFromStandby_keeps | apply State.answer_keeps | apply Keeps.wr | apply Keeps.ite)
    | split

theorem State.withdraw_keeps {s : State} (h : Keeps pt s0 s) (hp : Off pt 0x8) : Keeps pt s0 (s.withdraw) := by
  unfold State.withdraw
  repeat' first
    | with_reducible assumption
    | exact hp.sub rfl
    | with_reducible first | apply Keeps.ite
    | with_reducible (refine Keeps.mk' hp ?_; first | assumption | apply Keeps.ite)
    | split

theorem opRequest_keeps (hp : Off pt 0x60fbdfbc) : OpKeeps pt s0 opRequest := by
  intro v s h
  unfold opRequest
  repeat' first
    | with_reducible assumption
    | exact hp.sub rfl
    | with_reducible first | apply State.release_keeps | apply State.beginEntering_keeps | apply State.scanFromStandby_keeps | apply State.atBoundary_keeps | apply State.withdraw_keeps | apply State.resumePaced_keeps | apply State.showClusters_keeps | apply State.toState_keeps | apply Keeps.wr | apply Keeps.ite
    | (extract_lets +onlyGivenNames -underBinder a; fail_if_success (have : Keeps pt s0 a := by with_reducible assumption); fail_if_success (have : Keeps pt s0 a.1 := by with_reducible assumption); fail_if_success (have : ∀ t, Keeps pt s0 t → Keeps pt s0 (a t) := by with_reducible assumption); fail_if_success (have : ∀ i t, Keeps pt s0 t → Keeps pt s0 (a i t) := by with_reducible assumption); with_reducible first | refine Keeps.use a ?_ fun _ => ?_ | refine Keeps.use1 a ?_ fun _ => ?_ | refine Keeps.useF a ?_ fun _ => ?_ | refine Keeps.useG a ?_ fun _ => ?_)
    | with_reducible (refine Keeps.mk' hp ?_; first | assumption | apply State.release_keeps | apply State.beginEntering_keeps | apply State.scanFromStandby_keeps | apply State.atBoundary_keeps | apply State.withdraw_keeps | apply State.resumePaced_keeps | apply State.showClusters_keeps | apply State.toState_keeps | apply Keeps.wr | apply Keeps.ite)
    | split

theorem State.requestState_keeps {s : State} (h : Keeps pt s0 s) (hp : Off pt 0x60fbdffc) (m : Nat) (v : Int) : Keeps pt s0 (s.requestState m v) := by
  unfold State.requestState
  repeat' first
    | with_reducible assumption
    | exact hp.sub rfl
    | with_reducible first | apply State.release_keeps | apply State.wakeLink_keeps | apply State.beginWaking_keeps | apply State.owe_keeps | apply State.command_keeps | apply opRequest_keeps | apply Keeps.ite
    | with_reducible (refine Keeps.mk' hp ?_; first | assumption | apply State.release_keeps | apply State.wakeLink_keeps | apply State.beginWaking_keeps | apply State.owe_keeps | apply State.command_keeps | apply opRequest_keeps | apply Keeps.ite)

theorem execRequestBivouac_keeps (dt : Nat) (m : Fin 17) (s : State) (hp : Off pt 0x60fbdffc) : ∃ t, (execRequestBivouac dt m s) = .next t ∧ Keeps pt (s.arrive dt) t := by
  unfold execRequestBivouac
  refine ⟨_, rfl, ?_⟩
  repeat' first
    | with_reducible assumption
    | exact Keeps.arrived
    | exact hp.sub rfl
    | with_reducible first | apply State.requestState_keeps

theorem execRequestStandby_keeps (dt : Nat) (m : Fin 17) (s : State) (hp : Off pt 0x60fbdffc) : ∃ t, (execRequestStandby dt m s) = .next t ∧ Keeps pt (s.arrive dt) t := by
  unfold execRequestStandby
  refine ⟨_, rfl, ?_⟩
  repeat' first
    | with_reducible assumption
    | exact Keeps.arrived
    | exact hp.sub rfl
    | with_reducible first | apply State.requestState_keeps

theorem execRequestScanning_keeps (dt : Nat) (m : Fin 17) (s : State) (hp : Off pt 0x60fbdffc) : ∃ t, (execRequestScanning dt m s) = .next t ∧ Keeps pt (s.arrive dt) t := by
  unfold execRequestScanning
  refine ⟨_, rfl, ?_⟩
  repeat' first
    | with_reducible assumption
    | exact Keeps.arrived
    | exact hp.sub rfl
    | with_reducible first | apply State.requestState_keeps

theorem execRequestPaused_keeps (dt : Nat) (m : Fin 17) (s : State) (hp : Off pt 0x60fbdffc) : ∃ t, (execRequestPaused dt m s) = .next t ∧ Keeps pt (s.arrive dt) t := by
  unfold execRequestPaused
  refine ⟨_, rfl, ?_⟩
  repeat' first
    | with_reducible assumption
    | exact Keeps.arrived
    | exact hp.sub rfl
    | with_reducible first | apply State.requestState_keeps

theorem State.proceed_keeps {s : State} (h : Keeps pt s0 s) (hp : Off pt 0x60fbdfbc) : Keeps pt s0 (s.proceed) := by
  unfold State.proceed
  repeat' first
    | with_reducible assumption
    | exact hp.sub rfl
    | with_reducible first | apply State.answerHeld_keeps | apply State.beginEntering_keeps | apply Keeps.ite

theorem execStateChangeAtLineBoundary_keeps (dt : Nat) (s : State) (hp : Off pt 0x60fff7bc) : ∃ t, (execStateChangeAtLineBoundary dt s) = .next t ∧ Keeps pt (s.arrive dt) t := by
  unfold execStateChangeAtLineBoundary
  refine timed_keeps _ _ _ ?_
  repeat' first
    | with_reducible assumption
    | exact hp.sub rfl
    | intro _
    | with_reducible first | apply State.showClusters_keeps | apply State.toState_keeps | apply State.transportPause_keeps | apply State.exitScanning_keeps | apply State.beginEntering_keeps | apply Keeps.ite
    | split

theorem execBivouacIdleTimeout_keeps (dt : Nat) (s : State) (hp : Off pt 0xb800c) : ∃ t, (execBivouacIdleTimeout dt s) = .next t ∧ Keeps pt (s.arrive dt) t := by
  unfold execBivouacIdleTimeout
  refine timed_keeps _ _ _ ?_
  repeat' first
    | with_reducible assumption
    | exact hp.sub rfl
    | intro _
    | with_reducible first | apply State.beginEntering_keeps

theorem execFatalClassStop_keeps (dt : Nat) (s : State) (hp : Off pt 0x64feffbc) : ∃ t, (execFatalClassStop dt s) = .next t ∧ Keeps pt (s.arrive dt) t := by
  unfold execFatalClassStop
  refine timed_keeps _ _ _ ?_
  repeat' first
    | with_reducible assumption
    | exact hp.sub rfl
    | intro _
    | with_reducible first | apply State.release_keeps | apply opAbortMeasurement_keeps | apply State.captureAbort_keeps | apply State.exitScanning_keeps | apply State.fatalArmed_keeps | apply Keeps.wr | apply Keeps.ite
    | with_reducible (refine Keeps.mk' hp ?_; first | assumption | apply State.release_keeps | apply opAbortMeasurement_keeps | apply State.captureAbort_keeps | apply State.exitScanning_keeps | apply State.fatalArmed_keeps | apply Keeps.wr | apply Keeps.ite)

theorem execBivouacEntryComplete_keeps (dt : Nat) (s : State) (hp : Off pt 0xe06a9fec) : ∃ t, (execBivouacEntryComplete dt s) = .next t ∧ Keeps pt (s.arrive dt) t := by
  unfold execBivouacEntryComplete
  refine timed_keeps _ _ _ ?_
  repeat' first
    | with_reducible assumption
    | exact hp.sub rfl
    | intro _
    | with_reducible first | apply State.canteenSleep_keeps | apply State.transportSleep_keeps | apply State.auxSleep_keeps | apply State.linksSleep_keeps | apply State.abandonTrim_keeps | apply State.wrBit_keeps | apply State.casbyPower_keeps | apply State.showClusters_keeps | apply State.toState_keeps | apply State.raise1_keeps | apply State.requestedService_keeps | apply State.resetGroups_keeps | apply State.beginWaking_keeps | apply Keeps.ite
    | with_reducible (refine Keeps.mk' hp ?_; first | assumption | apply State.canteenSleep_keeps | apply State.transportSleep_keeps | apply State.auxSleep_keeps | apply State.linksSleep_keeps | apply State.abandonTrim_keeps | apply State.wrBit_keeps | apply State.casbyPower_keeps | apply State.showClusters_keeps | apply State.toState_keeps | apply State.raise1_keeps | apply State.requestedService_keeps | apply State.resetGroups_keeps | apply State.beginWaking_keeps | apply Keeps.ite)

theorem execWakeComplete_keeps (dt : Nat) (s : State) (hp : Off pt 0x60fbffbc) : ∃ t, (execWakeComplete dt s) = .next t ∧ Keeps pt (s.arrive dt) t := by
  unfold execWakeComplete
  refine timed_keeps _ _ _ ?_
  repeat' first
    | with_reducible assumption
    | exact hp.sub rfl
    | intro _
    | with_reducible first | apply State.proceed_keeps | apply State.raise1_keeps | apply State.auxWake_keeps | apply State.casbyPower_keeps | apply State.standbyEntry_keeps | apply State.linksWake_keeps | apply State.flushEvents_keeps | apply State.lanternGate_keeps | apply Keeps.ite
    | with_reducible (refine Keeps.mk' hp ?_; first | assumption | apply State.proceed_keeps | apply State.raise1_keeps | apply State.auxWake_keeps | apply State.casbyPower_keeps | apply State.standbyEntry_keeps | apply State.linksWake_keeps | apply State.flushEvents_keeps | apply State.lanternGate_keeps | apply Keeps.ite)

theorem execThermalBivouacRequest_keeps (dt : Nat) (s : State) (hp : Off pt 0xb800c) : ∃ t, (execThermalBivouacRequest dt s) = .next t ∧ Keeps pt (s.arrive dt) t := by
  unfold execThermalBivouacRequest
  refine timed_keeps _ _ _ ?_
  repeat' first
    | with_reducible assumption
    | exact hp.sub rfl
    | intro _
    | with_reducible first | apply State.atBoundary_keeps | apply State.beginEntering_keeps | apply Keeps.ite
    | with_reducible (refine Keeps.mk' hp ?_; first | assumption | apply State.atBoundary_keeps | apply State.beginEntering_keeps | apply Keeps.ite)

/-! ## Entries -/

theorem State.reclock_keeps {was : State} (hwas : Keeps pt s0 was) (hp : Off pt 0xb4) {s : State} (h : Keeps pt s0 s) : Keeps pt s0 (was.reclock s) := by
  unfold State.reclock
  repeat' first
    | with_reducible assumption
    | exact hp.sub rfl
    | intro _
    | with_reducible first | apply State.setClock_keeps | apply Keeps.wr | apply Keeps.each | apply Keeps.ite

theorem State.fitTableSpeed_keeps {s : State} (h : Keeps pt s0 s) (hp : Off pt 0x34) : Keeps pt s0 (s.fitTableSpeed) := by
  unfold State.fitTableSpeed
  repeat' first
    | with_reducible assumption
    | exact hp.sub rfl
    | with_reducible first | apply State.ownClamp_keeps | apply Keeps.wr | apply Keeps.ite

theorem State.afterWrite_keeps {was : State} (hwas : Keeps pt s0 was) (hp : Off pt 0x6308b4) {s : State} (h : Keeps pt s0 s) (idx : Nat) (sub : Nat) : Keeps pt s0 (was.afterWrite s idx sub) := by
  unfold State.afterWrite
  repeat' first
    | with_reducible assumption
    | exact hp.sub rfl
    | with_reducible first | apply State.showClusters_keeps | apply State.reclock_keeps | apply State.updFe_keeps | apply State.clearReversal_keeps | apply State.fitTableSpeed_keeps | apply State.casbyPower_keeps | apply State.refreshLamps_keeps | apply State.lanternWritten_keeps | apply State.auxFromNow_keeps | apply State.updSlot_keeps | apply State.outWritten_keeps | apply State.outFail_keeps | apply Keeps.ite

theorem commandTable_keeps (hp : Off pt 0x160ffffbc) : ∀ e ∈ commandTable, OpKeeps pt s0 e.2.2 := by
  simp only [commandTable, List.forall_mem_cons]
  exact ⟨opRequest_keeps (hp.sub rfl),
    opSoftwareTrigger_keeps (hp.sub rfl),
    opClearClamps_keeps (hp.sub rfl),
    opAbortUpdate_keeps (hp.sub rfl),
    opSchedule_keeps (hp.sub rfl),
    opCancelSchedule_keeps (hp.sub rfl),
    opAcceptDefaults_keeps (hp.sub rfl),
    opDiscardQuarantine_keeps (hp.sub rfl),
    opRequestTrim_keeps (hp.sub rfl),
    opSwap_keeps (hp.sub rfl),
    opCopy_keeps (hp.sub rfl),
    opClearShadow_keeps (hp.sub rfl),
    fun v s h => opCapture_keeps _ (hp.sub rfl) v s h,
    opAbortCapture_keeps (hp.sub rfl),
    fun v s h => opMeasure_keeps _ (hp.sub rfl) v s h,
    opAbortMeasurement_keeps (hp.sub rfl),
    opImport_keeps (hp.sub rfl),
    opArm_keeps (hp.sub rfl),
    opDisarm_keeps (hp.sub rfl),
    opSwitchNow_keeps (hp.sub rfl),
    opResetEstimates_keeps (hp.sub rfl),
    opZeroNext_keeps (hp.sub rfl),
    opSendJob_keeps (hp.sub rfl),
    opProbeNow_keeps (hp.sub rfl),
    opAuxTrigger_keeps (hp.sub rfl),
    opUrgent_keeps (hp.sub rfl),
    opCompat_keeps (hp.sub rfl),
    opClearPeaks_keeps (hp.sub rfl),
    opClearBits_keeps (hp.sub rfl),
    opVauxEnable_keeps (hp.sub rfl),
    opClearClasses_keeps (hp.sub rfl),
    fun v _ h => opRaiseHost_keeps v h (hp.sub rfl),
    fun _ h => nomatch h⟩

theorem commandOf_keeps {idx sub : Nat} {op : Op} (h : commandOf idx sub = some op) (hp : Off pt 0x1e0fffffc) : OpKeeps pt s0 op := by
  unfold commandOf at h
  split at h
  · next e he =>
    obtain rfl := Option.some.inj h
    exact commandTable_keeps (hp.sub rfl) e (List.mem_of_find?_eq_some he)
  · repeat' split at h
    all_goals first
      | contradiction
      | obtain rfl := Option.some.inj h
        with_reducible first
        | exact opPlaneScale_keeps _ (hp.sub rfl)
        | exact opService_keeps _ (hp.sub rfl)
        | exact opClearGroup_keeps _ (hp.sub rfl)
        | exact opLocate_keeps _ (hp.sub rfl)
        | exact opEngineStart_keeps _ (hp.sub rfl)
        | exact opEngineStop_keeps _ (hp.sub rfl)
        | exact opDoorbell_keeps _ _ (hp.sub rfl)
        | exact opStopRing_keeps _ _ (hp.sub rfl)
        | exact opResetHead_keeps _ _ (hp.sub rfl)
        | exact opFlush_keeps _ (hp.sub rfl)
        | exact opAdmission_keeps _ (hp.sub rfl)

theorem opEntry_keeps (idx sub : Nat) (hp : Off pt 0x1e0fffffc) : OpKeeps pt s0 (opEntry idx sub) := by
  intro v s h
  unfold opEntry
  split
  · exact h
  · split
    · next op e => exact commandOf_keeps e (hp.sub rfl) v s h
    · dsimp only
      split
      · exact h
      · exact State.afterWrite_keeps h (hp.sub rfl) (h.wr (hp.sub rfl) _ _ _) _ _

/-! ## Windows -/

theorem State.updWindow_keeps {s : State} (h : Keeps pt s0 s) (hp : Off pt 0x10) (w : Nat) (f : Window → Window) : Keeps pt s0 (s.updWindow w f) := by
  unfold State.updWindow
  repeat' first
    | with_reducible assumption
    | exact hp.sub rfl
    | with_reducible first | apply hf
    | with_reducible (refine Keeps.mk' hp ?_; first | assumption | apply hf)

theorem State.winClosed_keeps {s : State} (h : Keeps pt s0 s) (hp : Off pt 0x14) (w : Nat) (status : Nat) : Keeps pt s0 (s.winClosed w status) := by
  unfold State.winClosed
  repeat' first
    | with_reducible assumption
    | exact hp.sub rfl
    | with_reducible first | apply State.updWindow_keeps | apply Keeps.wr

theorem State.winBusy_keeps {s : State} (h : Keeps pt s0 s) (hp : Off pt 0x4) (w : Nat) (holder : Nat) : Keeps pt s0 (s.winBusy w holder) := by
  unfold State.winBusy
  repeat' first
    | with_reducible assumption
    | exact hp.sub rfl
    | with_reducible first | apply Keeps.wr

theorem State.winOpened_keeps {s : State} (h : Keeps pt s0 s) (hp : Off pt 0x14) (m : Nat) (w : Nat) (mode : Nat) (len : Nat) : Keeps pt s0 (s.winOpened m w mode len) := by
  unfold State.winOpened
  repeat' first
    | with_reducible assumption
    | exact hp.sub rfl
    | with_reducible first | apply State.updWindow_keeps | apply Keeps.wr

theorem State.openRead_keeps {s : State} (h : Keeps pt s0 s) (hp : Off pt 0x14) (m : Nat) (w : Nat) : Keeps pt s0 (s.openRead m w).1 := by
  unfold State.openRead
  repeat' first
    | with_reducible assumption
    | exact hp.sub rfl
    | with_reducible first | apply State.winOpened_keeps | apply Keeps.ite
    | split

theorem State.openWrite_keeps {s : State} (h : Keeps pt s0 s) (hp : Off pt 0x14) (m : Nat) (w : Nat) : Keeps pt s0 (s.openWrite m w).1 := by
  unfold State.openWrite
  repeat' first
    | with_reducible assumption
    | exact hp.sub rfl
    | with_reducible first | apply State.winOpened_keeps | apply State.winBusy_keeps | apply State.setBank_keeps | apply Keeps.ite
    | (extract_lets +onlyGivenNames -underBinder a; fail_if_success (have : Keeps pt s0 a := by with_reducible assumption); with_reducible first | refine Keeps.use a ?_ fun _ => ?_)
    | split

theorem State.closeLantern_keeps {s : State} (h : Keeps pt s0 s) (hp : Off pt 0x10000) (idx : Nat) (len : Nat) (buf : List Byte) : Keeps pt s0 (s.closeLantern idx len buf).1 := by
  unfold State.closeLantern
  repeat' first
    | with_reducible assumption
    | exact hp.sub rfl
    | with_reducible first | apply Keeps.ite
    | with_reducible (refine Keeps.mk' hp ?_; first | assumption | apply Keeps.ite)
    | split

theorem State.commitTarget_keeps {s : State} (h : Keeps pt s0 s) (hp : Off pt 0x3000130b4) (idx : Nat) (len : Nat) (buf : List Byte) : Keeps pt s0 (s.commitTarget idx len buf).1 := by
  unfold State.commitTarget
  repeat' first
    | with_reducible assumption
    | exact hp.sub rfl
    | with_reducible first | apply State.closeBank_keeps | apply State.updBank_keeps | apply State.closeBasis_keeps | apply State.closeRecipe_keeps | apply State.reclock_keeps | apply State.closeLantern_keeps | apply Keeps.ite
    | split

theorem State.closeWindow_keeps {s : State} (h : Keeps pt s0 s) (hp : Off pt 0x3000130b4) (w : Nat) : Keeps pt s0 (s.closeWindow w) := by
  unfold State.closeWindow
  repeat' first
    | with_reducible assumption
    | exact hp.sub rfl
    | with_reducible first | apply State.winClosed_keeps | apply State.commitTarget_keeps | apply Keeps.ite

theorem opWindow_keeps (m : Nat) (w : Nat) (sub : Nat) (hp : Off pt 0x3000130b4) : OpKeeps pt s0 (opWindow m w sub) := by
  intro v s h
  unfold opWindow
  repeat' first
    | with_reducible assumption
    | exact hp.sub rfl
    | with_reducible first | apply State.closeWindow_keeps | apply State.openRead_keeps | apply State.openWrite_keeps | apply Keeps.wr | apply Keeps.ite
    | split

theorem execOpenReadWindow_keeps (dt : Nat) (m : Fin 17) (w : Fin 4) (s : State) (hp : Off pt 0x3400135b4) : ∃ t, (execOpenReadWindow dt m w s) = .next t ∧ Keeps pt (s.pass dt) t := by
  unfold execOpenReadWindow
  exact hostCommand_keeps _ _ _ _ _ _ (hp.sub rfl) (opWindow_keeps _ _ _ (hp.sub rfl))

theorem execOpenWriteWindow_keeps (dt : Nat) (m : Fin 17) (w : Fin 4) (s : State) (hp : Off pt 0x3400135b4) : ∃ t, (execOpenWriteWindow dt m w s) = .next t ∧ Keeps pt (s.pass dt) t := by
  unfold execOpenWriteWindow
  exact hostCommand_keeps _ _ _ _ _ _ (hp.sub rfl) (opWindow_keeps _ _ _ (hp.sub rfl))

theorem execCloseWindow_keeps (dt : Nat) (m : Fin 17) (w : Fin 4) (s : State) (hp : Off pt 0x3400135b4) : ∃ t, (execCloseWindow dt m w s) = .next t ∧ Keeps pt (s.pass dt) t := by
  unfold execCloseWindow
  exact hostCommand_keeps _ _ _ _ _ _ (hp.sub rfl) (opWindow_keeps _ _ _ (hp.sub rfl))

theorem State.advance_keeps {s : State} (h : Keeps pt s0 s) (hp : Off pt 0x14) (w : Nat) (n : Nat) : Keeps pt s0 (s.advance w n) := by
  unfold State.advance
  repeat' first
    | with_reducible assumption
    | exact hp.sub rfl
    | with_reducible first | apply State.updWindow_keeps | apply Keeps.wr

theorem State.windowRead_keeps {s : State} (h : Keeps pt s0 s) (hp : Off pt 0x14) (m : Nat) (w : Nat) (a : Nat) (n : Nat) : Keeps pt s0 (s.windowRead m w a n).1 := by
  unfold State.windowRead
  repeat' first
    | with_reducible assumption
    | exact hp.sub rfl
    | with_reducible first | apply State.advance_keeps | apply Keeps.ite
    | (extract_lets +onlyGivenNames -underBinder a; fail_if_success (have : Keeps pt s0 a := by with_reducible assumption); with_reducible first | refine Keeps.use a ?_ fun _ => ?_)
    | split

theorem State.putContent_keeps {s : State} (h : Keeps pt s0 s) (hp : Off pt 0x100011014) (w : Nat) (o : Nat) (bs : List Byte) : Keeps pt s0 (s.putContent w o bs) := by
  unfold State.putContent
  repeat' first
    | with_reducible assumption
    | exact hp.sub rfl
    | with_reducible first | apply State.updBank_keeps | apply State.updWindow_keeps | apply Keeps.wr | apply Keeps.ite
    | with_reducible (refine Keeps.mk' hp ?_; first | assumption | apply State.updBank_keeps | apply State.updWindow_keeps | apply Keeps.wr | apply Keeps.ite)

theorem State.windowWrite_keeps {s : State} (h : Keeps pt s0 s) (hp : Off pt 0x100851234) (m : Nat) (w : Nat) (a : Nat) (bs : List Byte) : Keeps pt s0 (s.windowWrite m w a bs).1 := by
  unfold State.windowWrite
  repeat' first
    | with_reducible assumption
    | exact hp.sub rfl
    | with_reducible first | apply State.stageAccess_keeps | apply State.advance_keeps | apply State.putContent_keeps | apply Keeps.ringStore | apply Keeps.ite
    | (extract_lets +onlyGivenNames -underBinder a; fail_if_success (have : Keeps pt s0 a := by with_reducible assumption); fail_if_success (have : Keeps pt s0 a.1 := by with_reducible assumption); with_reducible first | refine Keeps.use a ?_ fun _ => ?_ | refine Keeps.use1 a ?_ fun _ => ?_)
    | split

theorem State.dataRead_keeps {s : State} (h : Keeps pt s0 s) (hp : Off pt 0x40000534) (m : Nat) (w : Nat) (a : Nat) (n : Nat) : Keeps pt s0 (s.dataRead m w a n) := by
  unfold State.dataRead
  repeat' first
    | with_reducible assumption
    | exact hp.sub rfl
    | with_reducible first | apply State.answer_keeps | apply State.windowRead_keeps | apply Keeps.ite

theorem State.dataWrite_keeps {s : State} (h : Keeps pt s0 s) (hp : Off pt 0x140851734) (m : Nat) (w : Nat) (a : Nat) (bs : List Byte) : Keeps pt s0 (s.dataWrite m w a bs) := by
  unfold State.dataWrite
  repeat' first
    | with_reducible assumption
    | exact hp.sub rfl
    | with_reducible first | apply State.answer_keeps | apply State.windowWrite_keeps | apply State.owe_keeps | apply State.record_keeps | apply Keeps.ite
    | (extract_lets +onlyGivenNames -underBinder a; fail_if_success (have : Keeps pt s0 a := by with_reducible assumption); fail_if_success (have : Keeps pt s0 a.1 := by with_reducible assumption); with_reducible first | refine Keeps.use a ?_ fun _ => ?_ | refine Keeps.use1 a ?_ fun _ => ?_)
    | split

theorem execWindowDataRead_keeps (dt : Nat) (m : Fin 17) (w : Fin 4) (a : Nat) (n : Nat) (s : State) (hp : Off pt 0x40000534) : ∃ t, (execWindowDataRead dt m w a n s) = .next t ∧ Keeps pt (s.pass dt) t := by
  unfold execWindowDataRead
  refine ⟨_, rfl, ?_⟩
  repeat' first
    | with_reducible assumption
    | exact Keeps.refl _ _
    | exact hp.sub rfl
    | with_reducible first | apply State.dataRead_keeps

theorem execWindowDataWrite_keeps (dt : Nat) (m : Fin 17) (w : Fin 4) (a : Nat) (bs : List Byte) (s : State) (hp : Off pt 0x140851734) : ∃ t, (execWindowDataWrite dt m w a bs s) = .next t ∧ Keeps pt (s.pass dt) t := by
  unfold execWindowDataWrite
  refine ⟨_, rfl, ?_⟩
  repeat' first
    | with_reducible assumption
    | exact Keeps.refl _ _
    | exact hp.sub rfl
    | with_reducible first | apply State.dataWrite_keeps

theorem execUpdateBlockZero_keeps (dt : Nat) (m : Fin 17) (w : Fin 4) (bs : List Byte) (s : State) (hp : Off pt 0x140851734) : ∃ t, (execUpdateBlockZero dt m w bs s) = .next t ∧ Keeps pt (s.pass dt) t := by
  unfold execUpdateBlockZero
  refine ⟨_, rfl, ?_⟩
  repeat' first
    | with_reducible assumption
    | exact Keeps.refl _ _
    | exact hp.sub rfl
    | with_reducible first | apply State.dataWrite_keeps

theorem execUpdateBlock_keeps (dt : Nat) (m : Fin 17) (w : Fin 4) (a : Nat) (bs : List Byte) (s : State) (hp : Off pt 0x140851734) : ∃ t, (execUpdateBlock dt m w a bs s) = .next t ∧ Keeps pt (s.pass dt) t := by
  unfold execUpdateBlock
  refine ⟨_, rfl, ?_⟩
  repeat' first
    | with_reducible assumption
    | exact Keeps.refl _ _
    | exact hp.sub rfl
    | with_reducible first | apply State.dataWrite_keeps

theorem execWindowTimeout_keeps (dt : Nat) (w : Fin 4) (s : State) (hp : Off pt 0x34) : ∃ t, (execWindowTimeout dt w s) = .next t ∧ Keeps pt (s.pass dt) t := by
  unfold execWindowTimeout
  refine event_keeps _ _ _ ?_
  repeat' first
    | with_reducible assumption
    | exact hp.sub rfl
    | intro _
    | with_reducible first | apply State.setBank_keeps | apply State.raise1_keeps | apply State.winClosed_keeps | apply Keeps.ite

/-! ## Layers -/

theorem State.updUser_keeps {s : State} (h : Keeps pt s0 s) (hp : Off pt 0x10000010) (i : Nat) (f : UserSlot → UserSlot) : Keeps pt s0 (s.updUser i f) := by
  unfold State.updUser
  repeat' first
    | with_reducible assumption
    | exact hp.sub rfl
    | with_reducible first | apply hf
    | with_reducible (refine Keeps.mk' hp ?_; first | assumption | apply hf)

theorem State.writeImage_keeps {s : State} (h : Keeps pt s0 s) (hp : Off pt 0x10000010) (recs : List UserRec) (n : Nat) (whole : Bool) : Keeps pt s0 (s.writeImage recs n whole) := by
  unfold State.writeImage
  repeat' first
    | with_reducible assumption
    | exact hp.sub rfl
    | with_reducible first | apply State.updUser_keeps

theorem State.tearSave_keeps {s : State} (h : Keeps pt s0 s) (hp : Off pt 0x10000010) (n : Nat) : Keeps pt s0 (s.tearSave n) := by
  unfold State.tearSave
  repeat' first
    | with_reducible assumption
    | exact hp.sub rfl
    | with_reducible first | apply State.writeImage_keeps
    | with_reducible (refine Keeps.mk' hp ?_; first | assumption | apply State.writeImage_keeps)
    | split

theorem opSave_keeps (hp : Off pt 0x14) : OpKeeps pt s0 opSave := by
  intro v s h
  unfold opSave
  repeat' first
    | with_reducible assumption
    | exact hp.sub rfl
    | with_reducible first | apply Keeps.wr | apply Keeps.ite
    | with_reducible (refine Keeps.mk' hp ?_; first | assumption | apply Keeps.wr | apply Keeps.ite)
    | split

theorem execSaveUserImage_keeps (dt : Nat) (m : Fin 17) (s : State) (hp : Off pt 0x40000534) : ∃ t, (execSaveUserImage dt m s) = .next t ∧ Keeps pt (s.pass dt) t := by
  unfold execSaveUserImage
  exact hostCommand_keeps _ _ _ _ _ _ (hp.sub rfl) (opSave_keeps (hp.sub rfl))

theorem execSaveComplete_keeps (dt : Nat) (good : Bool) (written : Nat) (s : State) (hp : Off pt 0x10000014) : ∃ t, (execSaveComplete dt good written s) = .next t ∧ Keeps pt (s.pass dt) t := by
  unfold execSaveComplete
  refine event_keeps _ _ _ ?_
  repeat' first
    | with_reducible assumption
    | exact hp.sub rfl
    | intro _
    | with_reducible first | apply State.writeImage_keeps | apply State.tearSave_keeps | apply Keeps.wr | apply Keeps.ite
    | with_reducible (refine Keeps.mk' hp ?_; first | assumption | apply State.writeImage_keeps | apply State.tearSave_keeps | apply Keeps.wr | apply Keeps.ite)
    | split

theorem opDiscard_keeps (hp : Off pt 0x14) : OpKeeps pt s0 opDiscard := by
  intro v s h
  unfold opDiscard
  repeat' first
    | with_reducible assumption
    | exact hp.sub rfl
    | with_reducible first | apply Keeps.wr
    | with_reducible (refine Keeps.mk' hp ?_; first | assumption | apply Keeps.wr)

theorem execDiscardUserImage_keeps (dt : Nat) (m : Fin 17) (s : State) (hp : Off pt 0x40000534) : ∃ t, (execDiscardUserImage dt m s) = .next t ∧ Keeps pt (s.pass dt) t := by
  unfold execDiscardUserImage
  exact hostCommand_keeps _ _ _ _ _ _ (hp.sub rfl) (opDiscard_keeps (hp.sub rfl))

theorem State.layerClamp_keeps {s : State} (h : Keeps pt s0 s) (hp : Off pt 0x34) (idx : Nat) (sub : Nat) (reason : Nat) (offered : Int) (applied : Int) : Keeps pt s0 (s.layerClamp idx sub reason offered applied) := by
  unfold State.layerClamp
  repeat' first
    | with_reducible assumption
    | exact hp.sub rfl
    | with_reducible first | apply State.reportClamp_keeps

theorem State.applyRecord_keeps {s : State} (h : Keeps pt s0 s) (hp : Off pt 0x34) (r : UserRec) : Keeps pt s0 (s.applyRecord r) := by
  unfold State.applyRecord
  repeat' first
    | with_reducible assumption
    | exact hp.sub rfl
    | with_reducible first | apply State.layerClamp_keeps | apply Keeps.wr | apply Keeps.ite
    | split

theorem State.settleLimits_keeps {s : State} (h : Keeps pt s0 s) (hp : Off pt 0x34) : Keeps pt s0 (s.settleLimits) := by
  unfold State.settleLimits
  repeat' first
    | with_reducible assumption
    | exact hp.sub rfl
    | intro _
    | with_reducible first | apply State.layerClamp_keeps | apply Keeps.wr | apply Keeps.eachOf
    | split

theorem State.applySlots_keeps {s : State} (h : Keeps pt s0 s) (hp : Off pt 0x34) (slots : List Nat) (recs : List UserRec) : Keeps pt s0 (s.applySlots slots recs) := by
  unfold State.applySlots
  repeat' first
    | with_reducible assumption
    | exact hp.sub rfl
    | intro _
    | with_reducible first | apply State.applyRecord_keeps | apply State.raiseIf_keeps | apply Keeps.wr | apply Keeps.eachOf

theorem State.migrationFails_keeps {s : State} (h : Keeps pt s0 s) (hp : Off pt 0x10040010) : Keeps pt s0 (s.migrationFails) := by
  unfold State.migrationFails
  repeat' first
    | with_reducible assumption
    | exact hp.sub rfl
    | with_reducible first | apply State.updUpd_keeps | apply Keeps.ite
    | with_reducible (refine Keeps.mk' hp ?_; first | assumption | apply State.updUpd_keeps | apply Keeps.ite)
    | split

theorem State.applyLayers_keeps {s : State} (h : Keeps pt s0 s) (hp : Off pt 0x10040034) : Keeps pt s0 (s.applyLayers) := by
  unfold State.applyLayers
  repeat' first
    | with_reducible assumption
    | exact hp.sub rfl
    | with_reducible first | apply State.updUpd_keeps | apply State.raise1_keeps | apply State.migrationFails_keeps | apply State.applySlots_keeps | apply State.settleLimits_keeps | apply Keeps.wr | apply Keeps.ite
    | with_reducible (refine Keeps.mk' hp ?_; first | assumption | apply State.updUpd_keeps | apply State.raise1_keeps | apply State.migrationFails_keeps | apply State.applySlots_keeps | apply State.settleLimits_keeps | apply Keeps.wr | apply Keeps.ite)
    | split

/-! ## Doors -/

theorem opOf_keeps (m : Nat) (idx : Nat) (sub : Nat) (hp : Off pt 0x3e0fffffc) : OpKeeps pt s0 (opOf m idx sub) := by
  intro v s h
  unfold opOf
  repeat' first
    | with_reducible assumption
    | exact hp.sub rfl
    | with_reducible first | apply opWindow_keeps | apply opSave_keeps | apply opDiscard_keeps | apply opEntry_keeps | apply Keeps.ite
    | split

theorem State.writeEntry_keeps {s : State} (h : Keeps pt s0 s) (hp : Off pt 0x3e0fffffc) (m : Nat) (idx : Nat) (sub : Nat) (v : Int) : Keeps pt s0 (s.writeEntry m idx sub v) := by
  unfold State.writeEntry
  repeat' first
    | with_reducible assumption
    | exact hp.sub rfl
    | with_reducible first | apply State.requestState_keeps | apply State.grant_keeps | apply opOf_keeps | apply Keeps.ite

theorem State.deny_keeps {s : State} (h : Keeps pt s0 s) (hp : Off pt 0x40000534) (m : Nat) (idx : Nat) (sub : Nat) (c : Nat) : Keeps pt s0 (s.deny m idx sub c) := by
  unfold State.deny
  repeat' first
    | with_reducible assumption
    | exact hp.sub rfl
    | with_reducible first | apply State.answer_keeps | apply Keeps.ite

theorem State.sdoWrite_keeps {s : State} (h : Keeps pt s0 s) (hp : Off pt 0x3e0fffffc) (idx : Nat) (sub : Nat) (len : Nat) (raw : Nat) : Keeps pt s0 (s.sdoWrite idx sub len raw) := by
  unfold State.sdoWrite
  repeat' first
    | with_reducible assumption
    | exact hp.sub rfl
    | with_reducible first | apply State.dataWrite_keeps | apply State.deny_keeps | apply State.writeEntry_keeps | apply Keeps.ite
    | split

theorem State.scalarWrite_keeps {s : State} (h : Keeps pt s0 s) (hp : Off pt 0x3e0fffffc) (m : Nat) (idx : Nat) (sub : Nat) (w : Nat) : Keeps pt s0 (s.scalarWrite m idx sub w) := by
  unfold State.scalarWrite
  repeat' first
    | with_reducible assumption
    | exact hp.sub rfl
    | with_reducible first | apply State.deny_keeps | apply State.writeEntry_keeps | apply Keeps.ite
    | split

theorem State.wideLow_keeps {s : State} (h : Keeps pt s0 s) (hp : Off pt 0x40000534) (m : Nat) (idx : Nat) (sub : Nat) (w : Nat) : Keeps pt s0 (s.wideLow m idx sub w) := by
  unfold State.wideLow
  repeat' first
    | with_reducible assumption
    | exact hp.sub rfl
    | with_reducible first | apply State.answer_keeps | apply State.updMaster_keeps | apply Keeps.ite

theorem State.wideHigh_keeps {s : State} (h : Keeps pt s0 s) (hp : Off pt 0x3e0fffffc) (m : Nat) (idx : Nat) (sub : Nat) (w : Nat) : Keeps pt s0 (s.wideHigh m idx sub w) := by
  unfold State.wideHigh
  repeat' first
    | with_reducible assumption
    | exact hp.sub rfl
    | with_reducible first | apply State.answer_keeps | apply State.updMaster_keeps | apply State.writeEntry_keeps | apply Keeps.ite
    | split

theorem State.wideRead_keeps {s : State} (h : Keeps pt s0 s) (hp : Off pt 0x40000534) (m : Nat) (idx : Nat) (sub : Nat) (high : Bool) : Keeps pt s0 (s.wideRead m idx sub high) := by
  unfold State.wideRead
  repeat' first
    | with_reducible assumption
    | exact hp.sub rfl
    | with_reducible first | apply State.answer_keeps | apply State.updMaster_keeps | apply Keeps.ite
    | split

theorem wideAccess_keeps (dt l addr : Nat) (high : Bool) (s : State) (hp : Off pt 0x40000534) {act : Nat → Nat → State → State}
    (hact : ∀ i j t, Keeps pt (s.arrive dt) t → Keeps pt (s.arrive dt) (act i j t)) :
    ∃ t, wideAccess dt l addr high s act = .next t ∧ Keeps pt (s.arrive dt) t := by
  have h1 : Keeps pt (s.arrive dt) (s.pass dt).settleAhead := .arrived
  refine ⟨_, rfl, ?_⟩
  split
  · exact Keeps.ite (hact _ _ _ h1) (State.deny_keeps h1 (hp.sub rfl) _ _ _ _)
  · exact State.deny_keeps h1 (hp.sub rfl) _ _ _ _

theorem execWideLowWordRead_keeps (dt : Nat) (l : Fin 16) (addr : Nat) (s : State) (hp : Off pt 0x40000534) : ∃ t, execWideLowWordRead dt l addr s = .next t ∧ Keeps pt (s.arrive dt) t :=
  wideAccess_keeps _ _ _ _ _ (hp.sub rfl) fun _ _ _ ht => State.wideRead_keeps ht (hp.sub rfl) _ _ _ _

theorem execWideHighWordRead_keeps (dt : Nat) (l : Fin 16) (addr : Nat) (s : State) (hp : Off pt 0x40000534) : ∃ t, execWideHighWordRead dt l addr s = .next t ∧ Keeps pt (s.arrive dt) t :=
  wideAccess_keeps _ _ _ _ _ (hp.sub rfl) fun _ _ _ ht => State.wideRead_keeps ht (hp.sub rfl) _ _ _ _

theorem execWideLowWordWrite_keeps (dt : Nat) (l : Fin 16) (addr : Nat) (w : BitVec 32) (s : State) (hp : Off pt 0x40000534) : ∃ t, execWideLowWordWrite dt l addr w s = .next t ∧ Keeps pt (s.arrive dt) t :=
  wideAccess_keeps _ _ _ _ _ (hp.sub rfl) fun _ _ _ ht => State.wideLow_keeps ht (hp.sub rfl) _ _ _ _

theorem execWideHighWordWrite_keeps (dt : Nat) (l : Fin 16) (addr : Nat) (w : BitVec 32) (s : State) (hp : Off pt 0x3e0fffffc) : ∃ t, execWideHighWordWrite dt l addr w s = .next t ∧ Keeps pt (s.arrive dt) t :=
  wideAccess_keeps _ _ _ _ _ (hp.sub rfl) fun _ _ _ ht => State.wideHigh_keeps ht (hp.sub rfl) _ _ _ _

theorem State.controlWrite_keeps {s : State} (h : Keeps pt s0 s) (hp : Off pt 0x3e0fffffc) (l : Nat) (addr : Nat) (w : BitVec 32) : Keeps pt s0 (s.controlWrite l addr w) := by
  unfold State.controlWrite
  repeat' first
    | with_reducible assumption
    | exact hp.sub rfl
    | with_reducible first | apply State.scalarWrite_keeps | apply State.wideLow_keeps | apply State.wideHigh_keeps | apply State.ringWrite_keeps | apply State.dataWrite_keeps | apply State.deny_keeps
    | split

theorem State.registerWrite_keeps {s : State} (h : Keeps pt s0 s) (hp : Off pt 0x3e0fffffc) (m : Nat) (x2 : Access) : Keeps pt s0 (s.registerWrite m x2) := by
  unfold State.registerWrite
  repeat' first
    | with_reducible assumption
    | exact hp.sub rfl
    | with_reducible first | apply State.sdoWrite_keeps | apply State.controlWrite_keeps | apply Keeps.ite
    | split

theorem execRegisterWrite_keeps (dt : Nat) (m : Fin 17) (a : Access) (s : State) (hp : Off pt 0x3e0fffffc) : ∃ t, (execRegisterWrite dt m a s) = .next t ∧ Keeps pt (s.arrive dt) t := by
  unfold execRegisterWrite
  refine ⟨_, rfl, ?_⟩
  repeat' first
    | with_reducible assumption
    | exact Keeps.arrived
    | exact hp.sub rfl
    | with_reducible first | apply State.registerWrite_keeps

theorem State.notFresh_keeps {s : State} (h : Keeps pt s0 s) (hp : Off pt 0x10) (m : Nat) (idx : Nat) : Keeps pt s0 (s.notFresh m idx) := by
  unfold State.notFresh
  repeat' first
    | with_reducible assumption
    | exact hp.sub rfl
    | with_reducible (refine Keeps.mk' hp ?_; first | assumption)
    | split

theorem State.statusRead_keeps {s : State} (h : Keeps pt s0 s) (hp : Off pt 0x40000534) (m : Nat) (idx : Nat) : Keeps pt s0 (s.statusRead m idx) := by
  unfold State.statusRead
  repeat' first
    | with_reducible assumption
    | exact hp.sub rfl
    | with_reducible first | apply State.answer_keeps | apply State.notFresh_keeps | apply State.updMaster_keeps | apply Keeps.ite

theorem execResultStatusRead_keeps (dt : Nat) (m : Fin 17) (obj : Nat) (s : State) (hp : Off pt 0x40000534) : ∃ t, (execResultStatusRead dt m obj s) = .next t ∧ Keeps pt (s.arrive dt) t := by
  unfold execResultStatusRead
  refine ⟨_, rfl, ?_⟩
  repeat' first
    | with_reducible assumption
    | exact Keeps.arrived
    | exact hp.sub rfl
    | with_reducible first | apply State.statusRead_keeps

theorem State.completeRead_keeps {s : State} (h : Keeps pt s0 s) (hp : Off pt 0x40000534) (idx : Nat) (from0 : Bool) : Keeps pt s0 (s.completeRead idx from0) := by
  unfold State.completeRead
  repeat' first
    | with_reducible assumption
    | exact hp.sub rfl
    | with_reducible first | apply State.answer_keeps | apply State.notFresh_keeps | apply Keeps.ite
    | split

theorem execCompleteAccessRead_keeps (dt : Nat) (idx : Nat) (from0 : Bool) (s : State) (hp : Off pt 0x40000534) : ∃ t, (execCompleteAccessRead dt idx from0 s) = .next t ∧ Keeps pt (s.arrive dt) t := by
  unfold execCompleteAccessRead
  refine ⟨_, rfl, ?_⟩
  repeat' first
    | with_reducible assumption
    | exact Keeps.arrived
    | exact hp.sub rfl
    | with_reducible first | apply State.completeRead_keeps

theorem State.reportPlan_keeps {s : State} (h : Keeps pt s0 s) (hp : Off pt 0x34) (idx : Nat) (l : List Planned) : Keeps pt s0 (s.reportPlan idx l) := by
  unfold State.reportPlan
  repeat' first
    | with_reducible assumption
    | exact hp.sub rfl
    | intro _
    | with_reducible first | apply State.reportClamp_keeps | apply Keeps.eachOf
    | split

theorem State.runCommands_keeps {s t : State} (h : Keeps pt s0 s) (hp : Off pt 0x3e0fffffc) (idx : Nat) {l : List Planned}
    (e : s.runCommands idx l = .ok t) : Keeps pt s0 t := by
  induction l generalizing s with
  | nil => cases e; exact h
  | cons p r ih =>
    unfold State.runCommands at e
    dsimp only at e
    split at e
    · cases e
    · exact ih (opOf_keeps _ _ _ (hp.sub rfl) _ _ h) e

theorem State.commitPlan_keeps {s t : State} (h : Keeps pt s0 s) (hp : Off pt 0x3e0fffffc) (idx : Nat) {l : List Planned}
    (e : s.commitPlan idx l = .ok t) : Keeps pt s0 t := by
  unfold State.commitPlan at e
  dsimp only at e
  split at e
  · cases e
  · refine State.runCommands_keeps ?_ (hp.sub rfl) _ e
    have h1 := h.eachOf (l := l.filter (fun p => !actsOnWrite idx p.sub)) (f := fun p t => t.wr idx p.sub p.value)
      fun p u hu => hu.wr (hp.sub rfl) _ _ _
    exact h1.eachOf fun p u hu => State.afterWrite_keeps h (hp.sub rfl) hu _ _

theorem State.completeWrite_keeps {s : State} (h : Keeps pt s0 s) (hp : Off pt 0x3e0fffffc) (idx : Nat) (from0 : Bool) (vals : List Int) :
    Keeps pt s0 (s.completeWrite idx from0 vals) := by
  unfold State.completeWrite
  repeat' first
    | with_reducible assumption
    | exact hp.sub rfl
    | with_reducible first | apply State.answer_keeps | apply State.reportPlan_keeps | apply Keeps.ite
    | exact State.commitPlan_keeps h (hp.sub rfl) _ (by assumption)
    | split

theorem execCompleteAccessWrite_keeps (dt : Nat) (idx : Nat) (from0 : Bool) (vals : List Int) (s : State) (hp : Off pt 0x3e0fffffc) : ∃ t, (execCompleteAccessWrite dt idx from0 vals s) = .next t ∧ Keeps pt (s.arrive dt) t := by
  unfold execCompleteAccessWrite
  refine ⟨_, rfl, ?_⟩
  repeat' first
    | with_reducible assumption
    | exact Keeps.arrived
    | exact hp.sub rfl
    | with_reducible first | apply State.completeWrite_keeps

theorem execControlWaitAck_keeps (dt : Nat) (l : Fin 16) (s : State) (hp : Off pt 0x10) : ∃ t, (execControlWaitAck dt l s) = .next t ∧ Keeps pt (s.pass dt) t := by
  unfold execControlWaitAck
  refine event_keeps _ _ _ ?_
  repeat' first
    | with_reducible assumption
    | exact hp.sub rfl
    | intro _
    | with_reducible first | apply State.updMaster_keeps

/-! ## Start -/

theorem State.kept_keeps {s : State} (h : Keeps pt s0 s) (hp : Off pt 0x3ffffffff) : Keeps pt s0 s.kept := by
  refine ⟨fun _ => ⟨⟨List.Pairwise.nil, fun _ hp => nomatch hp⟩, rfl, List.Pairwise.nil, Nat.zero_le _, List.Pairwise.nil,
    List.Pairwise.nil, Nat.zero_le _⟩, h.pend, h.same.trans ?_⟩
  cases pt <;> first | rfl | exact absurd rfl (hp.ne rfl)

theorem State.setAl_keeps {s : State} (h : Keeps pt s0 s) (hp : Off pt 0x8000010) (code : Nat) : Keeps pt s0 (s.setAl code) := by
  unfold State.setAl
  repeat' first
    | with_reducible assumption
    | exact hp.sub rfl
    | with_reducible (refine Keeps.mk' hp ?_; first | assumption)

theorem State.restarted_keeps {s : State} (h : Keeps pt s0 s) (hp : Off pt 0x3ffffffff) (kind : Nat) : Keeps pt s0 (s.restarted kind) := by
  unfold State.restarted
  refine State.setAl_keeps ?_ (hp.sub rfl) _
  refine ⟨fun x => ?_, h.pend, h.same.trans ?_⟩
  · have x := h.sound x
    exact ⟨⟨x.1.1.filter _, fun p hp => x.1.2 p (List.mem_filter.mp hp).1⟩, rfl, x.2.2.1, x.2.2.2.1, x.2.2.2.2.1,
      List.Pairwise.nil, Nat.zero_le _⟩
  · cases pt <;> first | rfl | exact absurd rfl (hp.ne rfl)

theorem State.keepTrims_keeps {s : State} (h : Keeps pt s0 s) (hp : Off pt 0x80024) {t' : State} (ht' : Keeps pt s0 t') : Keeps pt s0 (s.keepTrims t') := by
  unfold State.keepTrims
  repeat' first
    | with_reducible assumption
    | exact hp.sub rfl
    | intro _
    | with_reducible first | apply State.abandonTrim_keeps | apply State.updCluster_keeps | apply Keeps.wr | apply Keeps.each

theorem State.warmStart_keeps {s : State} (h : Keeps pt s0 s) (hp : Off pt 0x3ffffffff) (kind : Nat) : Keeps pt s0 (s.warmStart kind) := by
  unfold State.warmStart
  repeat' first
    | with_reducible assumption
    | exact hp.sub rfl
    | with_reducible first | apply State.keepTrims_keeps | apply State.wrBit_keeps | apply State.restarted_keeps

theorem State.railsFrom_keeps {s : State} (h : Keeps pt s0 s) (hp : Off pt 0x44) (attempt : Nat) (at_ : Option Nat) : Keeps pt s0 (s.railsFrom attempt at_) := by
  unfold State.railsFrom
  repeat' first
    | with_reducible assumption
    | exact hp.sub rfl
    | with_reducible first | apply Keeps.wr
    | with_reducible (refine Keeps.mk' hp ?_; first | assumption | apply Keeps.wr)

theorem execLossOfPower_keeps (dt : Nat) (written : Nat) (s : State) (hp : Off pt 0x3ffffffff) : ∃ t, (execLossOfPower dt written s) = .next t ∧ Keeps pt (s.pass dt) t := by
  unfold execLossOfPower
  refine event_keeps _ _ _ ?_
  repeat' first
    | with_reducible assumption
    | exact hp.sub rfl
    | intro _
    | with_reducible first | apply State.bootTo_keeps | apply State.kept_keeps | apply State.tearSave_keeps

theorem execColdStart_keeps (dt : Nat) (s : State) (hp : Off pt 0x3ffffffff) : ∃ t, (execColdStart dt s) = .next t ∧ Keeps pt (s.pass dt) t := by
  unfold execColdStart
  refine event_keeps _ _ _ ?_
  repeat' first
    | with_reducible assumption
    | exact hp.sub rfl
    | intro _
    | with_reducible first | apply State.bootTo_keeps | apply State.kept_keeps
    | with_reducible (refine Keeps.mk' hp ?_; first | assumption | apply State.bootTo_keeps | apply State.kept_keeps)

theorem execNreset_keeps (dt : Nat) (low : Nat) (written : Nat) (s : State) (hp : Off pt 0x3ffffffff) : ∃ t, (execNreset dt low written s) = .next t ∧ Keeps pt (s.pass dt) t := by
  unfold execNreset
  refine event_keeps _ _ _ ?_
  repeat' first
    | with_reducible assumption
    | exact hp.sub rfl
    | intro _
    | with_reducible first | apply State.setAl_keeps | apply State.railsFrom_keeps | apply State.warmStart_keeps | apply State.tearSave_keeps | apply Keeps.ite

theorem execWatchdogRestart_keeps (dt : Nat) (written : Nat) (s : State) (hp : Off pt 0x3ffffffff) : ∃ t, (execWatchdogRestart dt written s) = .next t ∧ Keeps pt (s.pass dt) t := by
  unfold execWatchdogRestart
  refine event_keeps _ _ _ ?_
  repeat' first
    | with_reducible assumption
    | exact hp.sub rfl
    | intro _
    | with_reducible first | apply State.raise1_keeps | apply State.warmStart_keeps | apply State.tearSave_keeps

theorem State.railFault_keeps {s : State} (h : Keeps pt s0 s) (hp : Off pt 0x3ffffffff) (k : Nat) : Keeps pt s0 (s.railFault k) := by
  unfold State.railFault
  repeat' first
    | with_reducible assumption
    | exact hp.sub rfl
    | with_reducible first | apply State.restarted_keeps | apply State.raise1_keeps | apply State.railsFrom_keeps | apply State.setAl_keeps | apply Keeps.wr | apply Keeps.ite
    | with_reducible (refine Keeps.mk' hp ?_; first | assumption | apply State.restarted_keeps | apply State.raise1_keeps | apply State.railsFrom_keeps | apply State.setAl_keeps | apply Keeps.wr | apply Keeps.ite)

theorem State.converterFault_keeps {s : State} (h : Keeps pt s0 s) (hp : Off pt 0x4000057c) (k : Nat) : Keeps pt s0 (s.converterFault k) := by
  unfold State.converterFault
  repeat' first
    | with_reducible assumption
    | exact hp.sub rfl
    | with_reducible first | apply State.raise1_keeps | apply State.wrBit_keeps | apply State.release_keeps | apply Keeps.ite
    | with_reducible (refine Keeps.mk' hp ?_; first | assumption | apply State.raise1_keeps | apply State.wrBit_keeps | apply State.release_keeps | apply Keeps.ite)
    | dsimp only

theorem execRailFault_keeps (dt : Nat) (step : Fin 7) (fell : Bool) (s : State) (hp : Off pt 0x3ffffffff) : ∃ t, (execRailFault dt step fell s) = .next t ∧ Keeps pt (s.pass dt) t := by
  unfold execRailFault
  refine event_keeps _ _ _ ?_
  repeat' first
    | with_reducible assumption
    | exact hp.sub rfl
    | intro _
    | with_reducible first | apply State.railFault_keeps | apply State.converterFault_keeps | apply Keeps.ite

theorem execEthercatPortsOpen_keeps (dt : Nat) (s : State) (hp : Off pt 0x200040) : ∃ t, (execEthercatPortsOpen dt s) = .next t ∧ Keeps pt (s.pass dt) t := by
  unfold execEthercatPortsOpen
  refine event_keeps _ _ _ ?_
  repeat' first
    | with_reducible assumption
    | exact hp.sub rfl
    | intro _
    | with_reducible first | apply State.updTrn_keeps | apply State.bootTo_keeps

theorem execBootResponderStart_keeps (dt : Nat) (locked : BitVec 16) (s : State) (hp : Off pt 0x444) : ∃ t, (execBootResponderStart dt locked s) = .next t ∧ Keeps pt (s.pass dt) t := by
  unfold execBootResponderStart
  refine event_keeps _ _ _ ?_
  repeat' first
    | with_reducible assumption
    | exact hp.sub rfl
    | intro _
    | with_reducible first | apply State.bootTo_keeps | apply State.updLink_keeps | apply State.setLink_keeps | apply Keeps.each | apply Keeps.ite

theorem State.trialLost_keeps {s : State} (h : Keeps pt s0 s) (hp : Off pt 0x40024) (b : Nat) : Keeps pt s0 (s.trialLost b) := by
  unfold State.trialLost
  repeat' first
    | with_reducible assumption
    | exact hp.sub rfl
    | with_reducible first | apply State.raise1_keeps | apply State.updUpd_keeps | apply State.updFw_keeps

theorem State.wantedBank_keeps {s : State} (h : Keeps pt s0 s) (hp : Off pt 0x40064) : Keeps pt s0 (s.wantedBank).1 := by
  unfold State.wantedBank
  repeat' first
    | with_reducible assumption
    | exact hp.sub rfl
    | with_reducible first | apply State.trialLost_keeps | apply Keeps.ite
    | with_reducible (refine Keeps.mk' hp ?_; first | assumption | apply State.trialLost_keeps | apply Keeps.ite)
    | split

theorem State.runBank_keeps {s : State} (h : Keeps pt s0 s) (hp : Off pt 0x40064) (b : Nat) (why : Nat) : Keeps pt s0 (s.runBank b why) := by
  unfold State.runBank
  repeat' first
    | with_reducible assumption
    | exact hp.sub rfl
    | with_reducible first | apply State.trialLost_keeps | apply Keeps.ite
    | (extract_lets +onlyGivenNames -underBinder a; fail_if_success (have : Keeps pt s0 a := by with_reducible assumption); with_reducible first | refine Keeps.use a ?_ fun _ => ?_)
    | with_reducible (refine Keeps.mk' hp ?_; first | assumption | apply State.trialLost_keeps | apply Keeps.ite)
    | split

theorem State.journalLost_keeps {s : State} (h : Keeps pt s0 s) (hp : Off pt 0x40024) (b : Nat) : Keeps pt s0 (s.journalLost b) := by
  unfold State.journalLost
  repeat' first
    | with_reducible assumption
    | exact hp.sub rfl
    | with_reducible first | apply State.updFw_keeps | apply State.raise1_keeps | apply State.updUpd_keeps

theorem State.selectBank_keeps {s : State} (h : Keeps pt s0 s) (hp : Off pt 0x18040074) (good : Nat → Bool) (journal : Bool) : Keeps pt s0 (s.selectBank good journal) := by
  unfold State.selectBank
  repeat' first
    | with_reducible assumption
    | exact hp.sub rfl
    | with_reducible first | apply State.wantedBank_keeps | apply State.applyLayers_keeps | apply State.runBank_keeps | apply State.journalLost_keeps | apply State.setAl_keeps | apply State.bootTo_keeps | apply hgood | apply Keeps.ite
    | split

theorem execBankSelect_keeps (dt : Nat) (goodA : Bool) (goodB : Bool) (journal : Bool) (s : State) (hp : Off pt 0x18040074) : ∃ t, (execBankSelect dt goodA goodB journal s) = .next t ∧ Keeps pt (s.pass dt) t := by
  unfold execBankSelect
  refine event_keeps _ _ _ ?_
  repeat' first
    | with_reducible assumption
    | exact hp.sub rfl
    | intro _
    | with_reducible first | apply State.selectBank_keeps | apply Keeps.ite

theorem execSubprocessorReload_keeps (dt : Nat) (first : BitVec 5) (second : BitVec 5) (s : State) (hp : Off pt 0x3ffffffff) : ∃ t, (execSubprocessorReload dt first second s) = .next t ∧ Keeps pt (s.pass dt) t := by
  unfold execSubprocessorReload
  refine event_keeps _ _ _ ?_
  repeat' first
    | with_reducible assumption
    | exact hp.sub rfl
    | intro _
    | with_reducible first | apply State.warmStart_keeps | apply Keeps.ite
    | with_reducible (refine Keeps.mk' hp ?_; first | assumption | apply State.warmStart_keeps | apply Keeps.ite)

theorem State.bootRecord_keeps {s : State} (h : Keeps pt s0 s) (hp : Off pt 0x4) : Keeps pt s0 (s.bootRecord) := by
  unfold State.bootRecord
  repeat' first
    | with_reducible assumption
    | exact hp.sub rfl
    | with_reducible first | apply Keeps.wr

theorem State.resumeSession_keeps {s : State} (h : Keeps pt s0 s) (hp : Off pt 0x40024) : Keeps pt s0 (s.resumeSession) := by
  unfold State.resumeSession
  repeat' first
    | with_reducible assumption
    | exact hp.sub rfl
    | with_reducible first | apply State.setSession_keeps | apply State.updUpd_keeps | apply State.raiseIf_keeps | apply Keeps.wr | apply Keeps.ite

theorem State.confirmTrial_keeps {s : State} (h : Keeps pt s0 s) (hp : Off pt 0x10040034) : Keeps pt s0 (s.confirmTrial) := by
  unfold State.confirmTrial
  repeat' first
    | with_reducible assumption
    | exact hp.sub rfl
    | with_reducible first | apply State.updFw_keeps | apply State.raise1_keeps | apply State.writeImage_keeps | apply State.raiseIf_keeps | apply State.updUpd_keeps | apply Keeps.wr | apply Keeps.ite
    | split

theorem State.tellFallback_keeps {s : State} (h : Keeps pt s0 s) (hp : Off pt 0x40024) : Keeps pt s0 (s.tellFallback) := by
  unfold State.tellFallback
  repeat' first
    | with_reducible assumption
    | exact hp.sub rfl
    | with_reducible first | apply State.updUpd_keeps | apply State.raise1_keeps | apply Keeps.wr | apply Keeps.ite

theorem State.storedSets_keeps {s : State} (h : Keeps pt s0 s) (hp : Off pt 0x4) : Keeps pt s0 (s.storedSets) := by
  unfold State.storedSets
  repeat' first
    | with_reducible assumption
    | exact hp.sub rfl
    | intro _
    | with_reducible first | apply State.setBasis_keeps | apply State.showBasisFree_keeps | apply Keeps.wr | apply Keeps.each | apply Keeps.ite

theorem State.startupActive_keeps {s : State} (h : Keeps pt s0 s) (hp : Off pt 0x4) : Keeps pt s0 (s.startupActive) := by
  unfold State.startupActive
  repeat' first
    | with_reducible assumption
    | exact hp.sub rfl
    | with_reducible first | apply Keeps.wr | apply Keeps.ite

theorem State.bootSummary_keeps {s : State} (h : Keeps pt s0 s) (hp : Off pt 0x4000024) : Keeps pt s0 (s.bootSummary) := by
  unfold State.bootSummary
  repeat' first
    | with_reducible assumption
    | exact hp.sub rfl
    | with_reducible first | apply Keeps.raise
    | with_reducible (refine Keeps.mk' hp ?_; first | assumption | apply Keeps.raise)

theorem execReady_keeps (dt : Nat) (s : State) (hp : Off pt 0xdd0e85fc) : ∃ t, (execReady dt s) = .next t ∧ Keeps pt (s.pass dt) t := by
  unfold execReady
  refine event_keeps _ _ _ ?_
  repeat' first
    | with_reducible assumption
    | exact hp.sub rfl
    | intro _
    | with_reducible first | apply State.startupActive_keeps | apply State.storedSets_keeps | apply State.tellFallback_keeps | apply State.confirmTrial_keeps | apply State.resumeSession_keeps | apply State.applyTrim_keeps | apply State.requestedService_keeps | apply State.bootRecord_keeps | apply State.stamp_keeps | apply State.setAl_keeps | apply State.toState_keeps | apply State.bootSummary_keeps | apply State.auxSleep_keeps | apply State.canteenStart_keeps | apply State.refreshLamps_keeps | apply State.linksRest_keeps
    | with_reducible (refine Keeps.mk' hp ?_; first | assumption | apply State.startupActive_keeps | apply State.storedSets_keeps | apply State.tellFallback_keeps | apply State.confirmTrial_keeps | apply State.resumeSession_keeps | apply State.applyTrim_keeps | apply State.requestedService_keeps | apply State.bootRecord_keeps | apply State.stamp_keeps | apply State.setAl_keeps | apply State.toState_keeps | apply State.bootSummary_keeps | apply State.auxSleep_keeps | apply State.canteenStart_keeps | apply State.refreshLamps_keeps | apply State.linksRest_keeps)

theorem State.finishWrites_keeps {s : State} (h : Keeps pt s0 s) (hp : Off pt 0x210002010) : Keeps pt s0 (s.finishWrites) := by
  unfold State.finishWrites
  repeat' first
    | with_reducible assumption
    | exact hp.sub rfl
    | intro _
    | with_reducible first | apply State.writeImage_keeps | apply State.updBasis_keeps | apply Keeps.each | apply Keeps.ite
    | with_reducible (refine Keeps.mk' hp ?_; first | assumption | apply State.writeImage_keeps | apply State.updBasis_keeps | apply Keeps.each | apply Keeps.ite)
    | split

theorem execBankSwitch_keeps (dt : Nat) (s : State) (hp : Off pt 0x3ffffffff) : ∃ t, (execBankSwitch dt s) = .next t ∧ Keeps pt (s.pass dt) t := by
  unfold execBankSwitch
  refine event_keeps _ _ _ ?_
  repeat' first
    | with_reducible assumption
    | exact hp.sub rfl
    | intro _
    | with_reducible first | apply State.finishWrites_keeps | apply State.warmStart_keeps | apply State.updFw_keeps | apply State.updUpd_keeps | apply Keeps.ite

theorem execMigrationFallback_keeps (dt : Nat) (s : State) (hp : Off pt 0x3ffffffff) : ∃ t, (execMigrationFallback dt s) = .next t ∧ Keeps pt (s.pass dt) t := by
  unfold execMigrationFallback
  refine event_keeps _ _ _ ?_
  repeat' first
    | with_reducible assumption
    | exact hp.sub rfl
    | intro _
    | with_reducible first | apply State.updFw_keeps | apply State.warmStart_keeps | apply State.updUpd_keeps

theorem State.bootstrapImage_keeps {s : State} (h : Keeps pt s0 s) (hp : Off pt 0x3ffffffff) (bs : List Byte) (manifest : Bool) (good : Bool) : Keeps pt s0 (s.bootstrapImage bs manifest good) := by
  unfold State.bootstrapImage
  repeat' first
    | with_reducible assumption
    | exact hp.sub rfl
    | with_reducible first | apply State.raiseIf_keeps | apply State.mailbox_keeps | apply State.updFw_keeps | apply State.warmStart_keeps | apply State.updUpd_keeps | apply Keeps.ite

theorem execBootstrapImageWrite_keeps (dt : Nat) (bs : List Byte) (manifest : Bool) (good : Bool) (s : State) (hp : Off pt 0x3ffffffff) : ∃ t, (execBootstrapImageWrite dt bs manifest good s) = .next t ∧ Keeps pt (s.pass dt) t := by
  unfold execBootstrapImageWrite
  refine event_keeps _ _ _ ?_
  repeat' first
    | with_reducible assumption
    | exact hp.sub rfl
    | intro _
    | with_reducible first | apply State.bootstrapImage_keeps

/-! ## EtherCat -/

theorem State.updEc_keeps {s : State} (h : Keeps pt s0 s) (hp : Off pt 0x8000010) (f : EtherCat → EtherCat) : Keeps pt s0 (s.updEc f) := by
  unfold State.updEc
  repeat' first
    | with_reducible assumption
    | exact hp.sub rfl
    | with_reducible first | apply hf
    | with_reducible (refine Keeps.mk' hp ?_; first | assumption | apply hf)

theorem State.toEc_keeps {s : State} (h : Keeps pt s0 s) (hp : Off pt 0x8002010) (st : EcState) : Keeps pt s0 (s.toEc st) := by
  unfold State.toEc
  repeat' first
    | with_reducible assumption
    | exact hp.sub rfl
    | with_reducible first | apply State.updEc_keeps | apply Keeps.ite
    | with_reducible (refine Keeps.mk' hp ?_; first | assumption | apply State.updEc_keeps | apply Keeps.ite)

theorem State.earlyRequest_keeps {s : State} (h : Keeps pt s0 s) (hp : Off pt 0x8002010) (st : EcState) : Keeps pt s0 (s.earlyRequest st) := by
  unfold State.earlyRequest
  repeat' first
    | with_reducible assumption
    | exact hp.sub rfl
    | with_reducible first | apply State.toEc_keeps | apply State.setAl_keeps | apply Keeps.ite

theorem execEthercatStateRequest_keeps (dt : Nat) (goTo : Fin 5) (s : State) (hp : Off pt 0x8002010) : ∃ t, (execEthercatStateRequest dt goTo s) = .next t ∧ Keeps pt (s.pass dt) t := by
  unfold execEthercatStateRequest
  refine event_keeps _ _ _ ?_
  repeat' first
    | with_reducible assumption
    | exact hp.sub rfl
    | intro _
    | with_reducible first | apply State.earlyRequest_keeps | apply State.setAl_keeps | apply State.toEc_keeps | apply Keeps.ite

theorem State.latchTx_keeps {s : State} (h : Keeps pt s0 s) (hp : Off pt 0x4) : Keeps pt s0 (s.latchTx) := by
  unfold State.latchTx
  repeat' first
    | with_reducible assumption
    | exact hp.sub rfl
    | with_reducible first | apply Keeps.wr

theorem State.actRx_keeps {s : State} (h : Keeps pt s0 s) (hp : Off pt 0x8002034) (pos : Nat) (speed : Int) (job : Nat) : Keeps pt s0 (s.actRx pos speed job) := by
  unfold State.actRx
  repeat' first
    | with_reducible assumption
    | exact hp.sub rfl
    | with_reducible first | apply State.jobCommitted_keeps | apply State.updEc_keeps

theorem State.pressOffset_keeps {s : State} (h : Keeps pt s0 s) (hp : Off pt 0x4) : Keeps pt s0 (s.pressOffset) := by
  unfold State.pressOffset
  repeat' first
    | with_reducible assumption
    | exact hp.sub rfl
    | with_reducible first | apply Keeps.wr

theorem State.commitSpeed_keeps {s : State} (h : Keeps pt s0 s) (hp : Off pt 0x34) (v : Int) : Keeps pt s0 (s.commitSpeed v).1 := by
  unfold State.commitSpeed
  repeat' first
    | with_reducible assumption
    | exact hp.sub rfl
    | with_reducible first | apply State.reportClamp_keeps
    | split

theorem execRxpdoCommit_keeps (dt : Nat) (fcsOk : Bool) (pos : BitVec 32) (speed : BitVec 32) (job : BitVec 16) (s : State) (hp : Off pt 0x8002034) : ∃ t, (execRxpdoCommit dt fcsOk pos speed job s) = .next t ∧ Keeps pt (s.arrive dt) t := by
  unfold execRxpdoCommit
  refine timed_keeps _ _ _ ?_
  repeat' first
    | with_reducible assumption
    | exact hp.sub rfl
    | intro _
    | with_reducible first | apply State.latchTx_keeps | apply State.commitSpeed_keeps | apply State.pressOffset_keeps | apply State.actRx_keeps | apply State.updEc_keeps | apply Keeps.wr | apply Keeps.ite

theorem execSync0Event_keeps (dt : Nat) (dcTime : BitVec 64) (s : State) (hp : Off pt 0x8402036) : ∃ t, (execSync0Event dt dcTime s) = .next t ∧ Keeps pt (s.arrive dt) t := by
  unfold execSync0Event
  refine timed_keeps _ _ _ ?_
  repeat' first
    | with_reducible assumption
    | exact hp.sub rfl
    | intro _
    | with_reducible first | apply State.latchTx_keeps | apply State.pressOffset_keeps | apply State.actRx_keeps | apply State.measured__keeps | apply Keeps.ite
    | split

theorem execPdoWatchdogExpiry_keeps (dt : Nat) (s : State) (hp : Off pt 0x8002034) : ∃ t, (execPdoWatchdogExpiry dt s) = .next t ∧ Keeps pt (s.arrive dt) t := by
  unfold execPdoWatchdogExpiry
  refine timed_keeps _ _ _ ?_
  repeat' first
    | with_reducible assumption
    | exact hp.sub rfl
    | intro _
    | with_reducible first | apply State.raise1_keeps | apply State.setAl_keeps | apply State.toEc_keeps

theorem execMailboxUnsupported_keeps (dt : Nat) (protocol : Nat) (s : State) (hp : Off pt 0x8000010) : ∃ t, (execMailboxUnsupported dt protocol s) = .next t ∧ Keeps pt (s.pass dt) t := by
  unfold execMailboxUnsupported
  refine event_keeps _ _ _ ?_
  repeat' first
    | with_reducible assumption
    | exact hp.sub rfl
    | intro _
    | with_reducible first | apply State.mailbox_keeps

end Sys2Proof.Machine
end

