-- ==== Sys2Proof/WellFormed.lean ====
section
/-!
DEFINITION. WellFormed: what the operands of a command may be on the doors and inputs that carry it. A command that is not well formed
cannot arrive; a value that the block itself checks (an object's range, an unaligned address, a header) is well formed and is answered
by its outcome code.
-/
namespace Sys2Proof

/-- R41, R46, R51: master 0 writes by SDO, masters 1 to 16 by 32-bit control accesses. -/
def Access.onDoor (a : Access) (m : Fin 17) : Bool :=
  match a with
  | .sdo _ _ _ _ => decide (m = 0)
  | .cxp _ _ => decide (m ≠ 0)

/-- R33, R46, R51: an SDO names an index and a subindex and carries one to 4,096 bytes of data; a control address has 32 bits. -/
def Access.wellFormed (a : Access) : Bool :=
  match a with
  | .sdo idx sub len raw => decide (idx < 2 ^ 16 ∧ sub < 2 ^ 8 ∧ 1 ≤ len ∧ len ≤ 4096 ∧ raw < 2 ^ (8 * len))
  | .cxp addr _ => decide (addr < 2 ^ 32)

/-- R51, R54: an address of the wide area: 8 bytes an entry, the low word at offset 0, the high word at offset 4. -/
def wideAddress (addr half : Nat) : Bool := decide (0x44000000 ≤ addr ∧ addr < 0x4C000000 ∧ addr % 8 = half)

/-- R93: a code of the 14-bit converter, unsigned in single-ended and signed in differential mode. -/
def converterCode (c : Int) : Bool := decide (-8192 ≤ c ∧ c ≤ 16383)

/-- R331: the auxiliary filter's output, 24 bits and 16 below them. -/
def filterCode (c : Int) : Bool := decide (-2 ^ 39 ≤ c ∧ c < 2 ^ 39)

/-- What a command's operands may be. -/
def Instr.wellFormed (i : Instr) : Bool :=
  match i with
  | .nreset _ low _ => decide (0 < low)
  | .registerWrite _ m a => a.onDoor m && a.wellFormed
  | .completeAccessRead _ idx _ => decide (idx < 2 ^ 16)
  | .completeAccessWrite _ idx _ vals => decide (idx < 2 ^ 16) && !vals.isEmpty && decide (vals.length ≤ 256)
  | .wideLowWordRead _ _ addr => wideAddress addr 0
  | .wideHighWordRead _ _ addr => wideAddress addr 4
  | .wideLowWordWrite _ _ addr _ => wideAddress addr 0
  | .wideHighWordWrite _ _ addr _ => wideAddress addr 4
  | .resultStatusRead _ _ obj => decide (obj < 2 ^ 16)
  | .mailboxUnsupported _ protocol => decide (protocol ≤ 15)
  | .foeWriteRequest _ _ bs => decide (bs.length % 4096 = 0)
  | .channelLineStart _ _ bad => bad.all (fun p => decide (p < 16384))
  | .blackPixelsEnd _ _ codes => codes.all converterCode
  | .channelLineEnd _ _ codes => codes.all converterCode
  | .setActivePlaneScale _ _ _ v => decide (v < 2 ^ 16)
  | .importCapturePlane _ _ v => decide (v < 2 ^ 16)
  | .outputLineProduced _ bad => bad.all (fun p => decide (p.1 < 64))
  | .sendJobSwitch _ _ job => decide (job < 2 ^ 16)
  | .connectionConfig _ _ speed count => decide (speed < 2 ^ 32 ∧ count < 2 ^ 32)
  | .triggerPacket _ _ _ delay => decide (delay < 256)
  | .lampPowerReport _ _ out => decide (out.length = 8)
  | .locateTargetWrite _ _ _ px => decide (px < 2 ^ 32)
  | .auxVisitEnd _ raw _ _ _ _ _ _ => filterCode raw
  | .bivouacConversion _ raw _ _ _ => filterCode raw
  | .admissionEnableWrite _ _ _ v => decide (v < 2 ^ 8)
  | .canteenTick _ _ currents dies _ => decide (currents.length = 16 ∧ dies.length = 16) && dies.all (fun t => decide (-2 ^ 15 ≤ t ∧ t < 2 ^ 15))
  | .requestTrim _ _ mask => decide (mask < 2 ^ 8)
  | .updateBlockZero _ _ _ bs => decide (bs.length = 4096)
  | .updateBlock _ _ _ _ bs => decide (bs.length = 4096)
  | .clearLatchesByClass _ _ mask => decide (mask < 2 ^ 8)
  | .ringMemoryWrite _ _ addr _ => decide (addr < 2 ^ 32)
  | .streamPacketSizeWrite _ _ size => decide (size < 2 ^ 32)
  | .requestBivouac _ _ | .requestStandby _ _ | .requestScanning _ _ | .requestPaused _ _ | .stateChangeAtLineBoundary _
  | .bivouacIdleTimeout _ | .fatalClassStop _ | .bivouacEntryComplete _ | .wakeComplete _ | .coldStart _ | .watchdogRestart _ _
  | .powerOnFilterRelease _ _ _ | .railStepPowerGood _ | .railFault _ _ _ | .coreRelease _ | .ethercatPortsOpen _
  | .bootResponderStart _ _ | .bankSelect _ _ _ _ | .subprocessorReload _ _ _ | .ready _ | .controlWaitAck _ _ | .saveUserImage _ _
  | .saveComplete _ _ _ | .discardUserImage _ _ | .clearClampReport _ _ | .openReadWindow _ _ _ | .openWriteWindow _ _ _
  | .closeWindow _ _ _ | .windowDataRead _ _ _ _ _ | .windowDataWrite _ _ _ _ _ | .windowTimeout _ _ | .ethercatStateRequest _ _
  | .rxpdoCommit _ _ _ _ _ | .sync0Event _ _ | .pdoWatchdogExpiry _ | .foeReadRequest _ _ | .softwareTrigger _ _
  | .exposureCycleStart _ _ | .exposureCycleEnd _ _ | .serviceRequestOut _ _ _ | .serviceRequestReturn _ _ _
  | .channelLeavesService _ _ | .channelReentry _ _ | .warmingEnd _ _ | .channelSignalLost _ _ | .signalAutoRecovery _ _
  | .blackLevelResult _ _ | .thermistorStale _ _ | .swapRequest _ _ | .copyActiveToShadow _ _ | .copyComplete _ | .clearShadow _ _
  | .startDarkCapture _ _ | .startWhiteCapture _ _ | .startDarkWhiteCapture _ _ | .captureLineCycle _ | .captureBaseDone _
  | .captureSettleDone _ | .captureAveragingDone _ | .captureLampGrant _ | .captureLampGrantTimeout _ | .captureComputeDone _
  | .abortCapture _ _ | .startMeasurement _ _ _ | .measurementPhaseDone _ | .measurementComplete _ | .abortMeasurement _ _
  | .importComplete _ | .basisNorWriteDone _ _ | .basisSetLoadDone _ _ _ | .armSwitch _ _ | .disarmSwitch _ _ | .switchNow _ _
  | .blendStart _ | .blendComplete _ | .recipeSwitch _ | .startupBuild _ | .guylineWindowEnd _ | .guylineSlewStep _
  | .seamFreezeEnd _ | .resetEstimates _ _ | .encoderEdge _ _ _ | .illegalRunEnd _ | .encoderZEdge _ | .zeroAtNextZ _ _
  | .encoderLineOpen _ _ | .encoderLineRestored _ _ | .pressSpeedMismatch _ | .pressOverspeed _ | .transportStopTimeout _
  | .pacedGeneratorTrigger _ | .profileUpdate _ | .pacingPeriod _ | .decelerationDone _ | .backingDone _ | .motorFault _
  | .motorEnableHoldExpiry _ | .casbyPortLock _ _ | .casbyPairSwapTry _ | .casbyElectionStart _ | .casbyElectionSend _
  | .casbyElectionFrame _ _ _ | .casbyTimeSend _ | .casbyTimeFrame _ _ _ | .casbyTriggerFrame _ _ _ | .casbyJobSwitchFrame _ _ _
  | .casbyActivationFrame _ _ _ | .casbyHeartbeatSend _ | .casbyHeartbeatFrame _ _ _ | .casbyRingOpen _ | .casbyPeerLost _ _
  | .clearPeaks _ _ | .clearChannelBits _ _ | .egressSpaceFreed _ _ | .packetTransmitEnd _ _ _ | .flushImageLines _ _ _
  | .flushStatistics _ _ _ | .flushComplete _ _ | .doorbell _ _ _ _ | .chainComplete _ _ _ | .stopRing _ _ _ _ | .resetHead _ _ _ _
  | .startCompatTransfer _ _ | .stopCompatTransfer _ _ | .compatTransferComplete _ | .discoveryRequest _ _ | .linkTrained _ _
  | .testModeWrite _ _ _ | .linkWakeByCommand _ _ | .linkResuspend _ _ | .linkLoss _ _ | .linkReturn _ _ | .uplinkPacketError _ _
  | .stringCheck _ _ _ _ | .lampOvercurrent _ _ | .clearGroup _ _ _ | .bulkFloorReached _ | .bulkFloorClear _ _ | .lanternFrame _ _
  | .lanternProbeNow _ _ | .lanternPeriodicProbe _ | .lanternProbeComplete _ _ | .lanternOutputShort _ | .lanternShortRetry _
  | .lanternEngineStart _ _ _ | .lanternEngineStop _ _ _ | .lanternEngineRunEnd _ _ | .auxPassStart _ | .auxSoftwareTrigger _ _
  | .auxPeriodicTrigger _ | .auxUrgentRequest _ _ _ | .auxVisitStart _ | .auxExcitationRetry _ _ | .blankStuck _ | .aoStale _ _
  | .aoShort _ _ | .aoShortRetry _ _ _ | .refaOutOfRange _ | .refaRestored _ | .connectionPresent _ _ | .connectionEnable _
  | .connectionAdmissionCheck _ _ _ | .connectionShedRetry _ _ | .connectionOverload _ _ _ | .connectionShed _ _ _
  | .connectionPowerRemoved _ _ _ | .connectionSenseFault _ _ | .vauxReversed _ | .vauxOutOfRange _ _ | .vauxQualified _
  | .grantRestoreHoldExpiry _ | .lampGrantWithdrawn _ | .consumptionAboveBudget _ | .thermalBivouacRequest _ | .selfTrimStart _
  | .selfTrimEnd _ _ | .selfTrimAbandoned _ | .selfTrimRetry _ _ | .trimRecordWritten _ _ _ | .updateBlocksJournaled _ _
  | .updateSessionSilence _ | .abortUpdate _ _ | .updateApplyComplete _ _ | .updateVerifyComplete _ _ _
  | .scheduleActivationLocal _ _ | .scheduleActivationCasby _ _ | .cancelSchedule _ _ | .activationTimeReached _
  | .deferredActivationIdle _ | .activationExpired _ | .bankSwitch _ | .migrationFallback _ | .acceptDefaults _ _
  | .discardQuarantine _ _ | .bootstrapImageWrite _ _ _ _ | .eventStamp _ | .emergencySend _ | .archiveCopy _ | .latchClear _ _ _
  | .raiseHostEvent _ _ _ | .gpPulseEnd _ _ | .tgOutputShort _ _ | .tgOutputRetry _ _ _ | .senseFaultCleared _ _ _
  | .connectionPresenceLost _ _ | .auxiliaryInputQualifying _ _ | .lossOfPower _ _ | .recipeNorWriteDone _ _ | .blankInputReleased _
  | .encoderStatusClear _ | .activationFrameRepeat _ => true

end Sys2Proof
end

