-- ==== Sys2Proof/Tests/Slice0.lean ====
section
/-!
SUPPORT. Tests: ill-formed commands that the check refuses; worked examples and tables of the spec; and for the statements, concrete
states and operands that meet their hypotheses, clause by clause.
-/
namespace Sys2Proof.Tests
open Machine
set_option Elab.async false

/-! ## Well-formedness -/

theorem test_wf_door : (Instr.registerWrite 0 1 (.sdo 0x2000 5 4 0)).wellFormed = false := by decide
theorem test_wf_door_cxp : (Instr.registerWrite 0 0 (.cxp 0x40800014 0)).wellFormed = false := by decide
theorem test_wf_sdo_index : (Instr.registerWrite 0 0 (.sdo 0x10000 5 4 0)).wellFormed = false := by decide
theorem test_wf_sdo_sub : (Instr.registerWrite 0 0 (.sdo 0x2000 256 4 0)).wellFormed = false := by decide
theorem test_wf_sdo_empty : (Instr.registerWrite 0 0 (.sdo 0x2000 5 0 0)).wellFormed = false := by decide
theorem test_wf_sdo_long : (Instr.registerWrite 0 0 (.sdo 0x2000 5 4097 0)).wellFormed = false := by decide
theorem test_wf_sdo_value : (Instr.registerWrite 0 0 (.sdo 0x2000 5 1 256)).wellFormed = false := by decide
theorem test_wf_cxp_address : (Instr.registerWrite 0 1 (.cxp 0x100000000 0)).wellFormed = false := by decide
theorem test_wf_complete_index : (Instr.completeAccessRead 0 0x10000 false).wellFormed = false := by decide
theorem test_wf_complete_empty : (Instr.completeAccessWrite 0 0x2000 false []).wellFormed = false := by decide
theorem test_wf_complete_write_index : (Instr.completeAccessWrite 0 0x10000 false [0]).wellFormed = false := by decide
theorem test_wf_complete_long : (Instr.completeAccessWrite 0 0x2000 false (List.replicate 257 0)).wellFormed = false := by decide +kernel
theorem test_wf_wide_low : (Instr.wideLowWordRead 0 0 0x45000034).wellFormed = false := by decide
theorem test_wf_wide_high : (Instr.wideHighWordRead 0 0 0x45000030).wellFormed = false := by decide
theorem test_wf_wide_area : (Instr.wideLowWordWrite 0 0 0x4C000000 0).wellFormed = false := by decide
theorem test_wf_wide_below : (Instr.wideHighWordWrite 0 0 0x43FFFFFC 0).wellFormed = false := by decide
theorem test_wf_result : (Instr.resultStatusRead 0 0 0x10000).wellFormed = false := by decide
theorem test_wf_mailbox : (Instr.mailboxUnsupported 0 16).wellFormed = false := by decide
theorem test_wf_foe : (Instr.foeWriteRequest 0 [] [0]).wellFormed = false := by decide
theorem test_wf_pixel : (Instr.channelLineStart 0 0 [16384]).wellFormed = false := by decide
theorem test_wf_code_low : (Instr.blackPixelsEnd 0 0 [-8193]).wellFormed = false := by decide
theorem test_wf_code_high : (Instr.channelLineEnd 0 0 [16384]).wellFormed = false := by decide
theorem test_wf_scale : (Instr.setActivePlaneScale 0 0 0 0x10000).wellFormed = false := by decide
theorem test_wf_import : (Instr.importCapturePlane 0 0 0x10000).wellFormed = false := by decide
theorem test_wf_lane : (Instr.outputLineProduced 0 [(64, 0)]).wellFormed = false := by decide
theorem test_wf_job : (Instr.sendJobSwitch 0 0 0x10000).wellFormed = false := by decide
theorem test_wf_connection : (Instr.connectionConfig 0 0 0x100000000 1).wellFormed = false := by decide
theorem test_wf_connection_count : (Instr.connectionConfig 0 0 1250 0x100000000).wellFormed = false := by decide
theorem test_wf_delay : (Instr.triggerPacket 0 0 true 256).wellFormed = false := by decide
theorem test_wf_lamp_groups : (Instr.lampPowerReport 0 48000 [1, 2]).wellFormed = false := by decide
theorem test_wf_locate : (Instr.locateTargetWrite 0 0 0 0x100000000).wellFormed = false := by decide
theorem test_wf_filter : (Instr.auxVisitEnd 0 (2 ^ 39) false false false 0 0 0).wellFormed = false := by decide
theorem test_wf_filter_low : (Instr.bivouacConversion 0 (-2 ^ 39 - 1) false false false).wellFormed = false := by decide
theorem test_wf_admission : (Instr.admissionEnableWrite 0 0 0 256).wellFormed = false := by decide
theorem test_wf_currents : (Instr.canteenTick 0 48000 [1] (List.replicate 16 400) 0).wellFormed = false := by decide
theorem test_wf_dies : (Instr.canteenTick 0 48000 (List.replicate 16 0) [400] 0).wellFormed = false := by decide
theorem test_wf_die_range : (Instr.canteenTick 0 48000 (List.replicate 16 0) (List.replicate 16 (2 ^ 15)) 0).wellFormed = false := by decide
theorem test_wf_trim : (Instr.requestTrim 0 0 256).wellFormed = false := by decide
theorem test_wf_block_zero : (Instr.updateBlockZero 0 0 0 []).wellFormed = false := by decide
theorem test_wf_block : (Instr.updateBlock 0 0 0 4096 [0]).wellFormed = false := by decide
theorem test_wf_classes : (Instr.clearLatchesByClass 0 0 256).wellFormed = false := by decide
theorem test_wf_ring : (Instr.ringMemoryWrite 0 0 0x100000000 0).wellFormed = false := by decide
theorem test_wf_packet : (Instr.streamPacketSizeWrite 0 0 0x100000000).wellFormed = false := by decide
theorem test_wf_nreset : (Instr.nreset 0 0 0).wellFormed = false := by decide
theorem test_wf_good : (Instr.registerWrite 0 0 (.sdo 0x2000 5 4 1000)).wellFormed = true ∧
    (Instr.registerWrite 0 1 (.cxp 0x40800014 1000)).wellFormed = true ∧ (Instr.wideHighWordRead 0 0 0x45000034).wellFormed = true := by decide

/-! ## States that the witnesses start from -/

/-- A state with entries written. -/
def put (s : State) (l : List (Nat × Nat × Int)) : State := l.foldl (fun s e => s.wr e.1 e.2.1 e.2.2) s

/-- Ready and at rest in Standby: all rails on, link 0 trained, EtherCAT in Op. -/
def rest : State :=
  let s : State := { State.reset with
    dev := { State.reset.dev with st := .standby, ready := true }
    pow := { State.reset.pow with boot := .done }
    door := { State.reset.door with ec := { State.reset.door.ec with st := .op } }
    trn := { State.reset.trn with counting := true } }
  put s [(0x5892, 1, 127), (0x5800, 1, 3)]

/-- The same device in another state. -/
def inState (d : DevState) : State := { rest with dev := { rest.dev with st := d } }

/-- The same device with a move under way. -/
def moving (d : DevState) (v : Move) (goal : DevState) : State := { inState d with dev := { (inState d).dev with move := v, goal := goal } }

/-- Before Ready, with this boot stage. -/
def booting (b : Boot) : State := { State.reset with pow := { State.reset.pow with boot := b } }

/-- A scanning device whose group 0 runs a cycle. -/
def cycling (c : Cycle) : State := (inState .scanning).updGroup 0 (fun q => { q with running := some c, clock := 2 ^ 24 })

/-! ## The machine as a whole; chapters 1 and 2 -/

/-- Hypotheses of StepTakesTheFrontCommand. -/
theorem witness_empty_queue : rest.pending = [] ∧ rest.powered = true := by decide +kernel
/-- Hypotheses of StepTakesTheFrontCommand and EveryCommandEnds. -/
theorem witness_unpowered : (booting .unpowered).pending = [] ∧ (booting .unpowered).powered = false := by decide +kernel
/-- Hypotheses of EveryStepKeepsTheStateSound. The reset state is sound, and a step from it gives a next state. -/
theorem witness_sound_step : State.reset.Sound ∧ step State.reset = .next (State.reset.pass 40) := ⟨by decide +kernel, by rfl⟩
/-- Hypotheses of OnlyTheseParts. A clear of the clamp report changes no lamp state, and that part is not among those it may change. -/
theorem witness_frame : Part.lamp ∉ (Instr.clearClampReport 0 0).mayChange ∧ ∃ t, exec (.clearClampReport 0 0) rest = .next t :=
  ⟨by decide, _, rfl⟩
/-- Hypotheses of StoresReadAsWritten. -/
theorem witness_entry_bounds : (0xFF : Nat) < 256 ∧ (rest.wr 0x2000 5 1000).rd 0x2000 5 = 1000 := by decide +kernel
/-- Hypotheses of AnswerOfAnAccess. -/
theorem witness_answer : (0xFFFF : Nat) < 2 ^ 16 ∧ (0xFF : Nat) < 2 ^ 8 ∧ (11 : Nat) ≤ 11 ∧
    ((rest.answer 0 0xFFFF 0xFF 11).master 0).reply.code = 11 := by decide +kernel
/-- Hypotheses of StoresReadAsWritten. -/
theorem witness_ring_memory : ringSize - 4 + 4 ≤ ringSize ∧ 0xFFFFFFFF < 2 ^ 32 := by decide

/-- Hypotheses of RequestForScanning. -/
theorem witness_scan_busy :
    let s : State := { rest with rcp := { rest.rcp with measure := some default } }
    (s.arrive 0).dev.ready = true ∧ (s.arrive 0).masterPresent 1 = true ∧ (s.arrive 0).dev.st = .standby ∧ (s.arrive 0).dev.move = .none ∧
      (s.arrive 0).converterRails = true ∧ (s.arrive 0).calibrating = true := by decide +kernel
/-- Hypotheses of RequestForScanning. -/
theorem witness_scan_no_recipe : (rest.arrive 0).dev.ready = true ∧ (rest.arrive 0).masterPresent 0 = true ∧ (rest.arrive 0).dev.st = .standby ∧
    (rest.arrive 0).dev.move = .none ∧ (rest.arrive 0).converterRails = true ∧ (rest.arrive 0).calibrating = false ∧
    32 ≤ (rest.arrive 0).activeRecipe := by decide +kernel
/-- Hypotheses of RequestForScanning. -/
theorem witness_scan_fails : let u := (put rest [(0x4210, 1, 0)]).arrive 0
    u.dev.ready = true ∧ u.masterPresent 0 = true ∧ u.dev.st = .standby ∧ u.dev.move = .none ∧ u.converterRails = true ∧
      u.calibrating = false ∧ u.activeRecipe < 32 ∧ u.can.shutAt = none ∧ u.combinationCheck.2 = false := by decide +kernel
/-- Hypotheses of RequestForScanning. -/
theorem witness_scan_passes : let u := (put rest [(0x4210, 1, 31), (0x58A0, 1, 3), (0x58A1, 1, 3)]).arrive 0
    u.dev.ready = true ∧ u.masterPresent 0 = true ∧ u.dev.st = .standby ∧ u.dev.move = .none ∧ u.converterRails = true ∧
      u.calibrating = false ∧ u.activeRecipe < 32 ∧ u.can.shutAt = none ∧ u.combinationCheck.2 = true := by decide +kernel

/-- Hypotheses of RequestsForPausedStandbyBivouac. -/
theorem witness_requests :
    (((inState .scanning).arrive 0).dev.ready = true ∧ ((inState .scanning).arrive 0).masterPresent 1 = true ∧
      ((inState .scanning).arrive 0).dev.st = .scanning ∧ ((inState .scanning).arrive 0).ownMove = false) ∧
    (((inState .paused).arrive 0).dev.ready = true ∧ ((inState .paused).arrive 0).masterPresent 1 = true ∧
      ((inState .paused).arrive 0).dev.st = .paused) ∧
    ((rest.arrive 0).dev.ready = true ∧ (rest.arrive 0).masterPresent 0 = true ∧ (rest.arrive 0).dev.st = .standby ∧
      (rest.arrive 0).dev.move = .none ∧ (rest.arrive 0).calibrating = false) ∧
    (((inState .bivouac).arrive 0).dev.ready = true ∧ ((inState .bivouac).arrive 0).masterPresent 1 = true ∧
      ((inState .bivouac).arrive 0).dev.st = .bivouac ∧ ((inState .bivouac).arrive 0).dev.move = .none) := by decide +kernel

/-- Hypotheses of MovesWithoutARequest. -/
theorem witness_boundary :
    (let u := (moving .scanning (.boundary .paused) .paused).arrive 0; u.live = true ∧ u.dev.move = .boundary .paused) ∧
    (let u := (moving .paused (.boundary .scanning) .scanning).arrive 0; u.live = true ∧ u.dev.move = .boundary .scanning) ∧
    (let u := (moving .scanning (.boundary .standby) .standby).arrive 0
     u.live = true ∧ u.dev.move = .boundary .standby ∧ u.dev.goal = .standby) := by decide +kernel
/-- Hypotheses of MovesWithoutARequest. -/
theorem witness_idle_timeout : let u := (put rest [(0x2000, 5, 1000)]).arrive 1000000000
    u.dev.st = .standby ∧ u.dev.move = .none ∧ u.rd 0x2000 5 ≠ 0 ∧ u.calibrating = false ∧
      u.dev.standbySince + u.rdN 0x2000 5 * 1000000 ≤ u.now := by decide +kernel
/-- Hypotheses of MovesWithoutARequest. -/
theorem witness_thermal_bivouac : let s := put { rest with can := { rest.can with shutAt := some 0 } } [(0x5A01, 4, 1680)]
    let u := s.arrive 100000000
    u.can.shutAt = some 0 ∧ 0 + 100000000 ≤ u.now ∧ 1680 ≤ u.rd 0x5A01 4 ∧ u.dev.st = .standby ∧ u.calibrating = false ∧
      u.dev.move ≠ .entering := by decide +kernel
/-- Hypotheses of MovesWithoutARequest. -/
theorem witness_fatal : let s : State := { inState .scanning with ev := { rest.ev with fatal := true } }
    (s.arrive 0).ev.fatal = true ∧ (s.arrive 0).dev.ready = true ∧ (s.arrive 0).live = true := by decide +kernel
/-- Hypotheses of MovesWithoutARequest. -/
theorem witness_entry_complete : let u := (moving .standby .entering .bivouac).arrive 0
    u.dev.move = .entering ∧ u.dev.goal = .bivouac := by decide +kernel
/-- Hypotheses of MovesWithoutARequest. -/
theorem witness_wake_complete : let u := (moving .bivouac .waking .standby).arrive 0
    u.dev.move = .waking ∧ u.pow.step = 0 ∧ u.converterRails = true ∧ u.dev.st = .bivouac ∧ u.dev.goal = .standby ∧ u.dev.held = none := by
  decide +kernel

/-- Hypotheses of SdoDownload. SDO downloads: no master; before Ready; no entry; a read-only entry; a wrong length; a state that the row does not allow; a value outside
the range; a value in range; a clamped one (the idle timeout of R26 clamps 1 to 1,000). -/
theorem witness_sdo :
    ((0x2000 < 0x2024 ∨ 0x2028 ≤ 0x2000) ∧ ¬ (0x2000 = 0x2000 ∧ 5 = 2) ∧ ((booting .done).arrive 0).masterPresent 0 = false) ∧
    (let s : State := { rest with dev := { rest.dev with ready := false } }
     (s.arrive 0).masterPresent 0 = true ∧ (s.arrive 0).dev.ready = false) ∧
    ((rest.arrive 0).masterPresent 0 = true ∧ (rest.arrive 0).dev.ready = true ∧ lookup 0x2001 1 = none) ∧
    (∃ e, lookup 0x2000 1 = some e ∧ e.row.acc = .ro) ∧
    (∃ e, lookup 0x2000 5 = some e ∧ e.row.acc ≠ .ro ∧ e.row.ty.bits ≠ 8 * 2) ∧
    (∃ e, lookup 0x2000 4 = some e ∧ e.row.acc ≠ .ro ∧ e.row.ty.bits = 8 * 1 ∧ e.row.when = .standby ∧
      ((inState .scanning).arrive 0).live = true ∧ (rest.arrive 0).rowRefusal 0x2000 4 = 0 ∧
      e.row.range.apply e.row.ty (rawValue e.row.ty (0 % 2 ^ 8)) = .refused) ∧
    (∃ e, lookup 0x2000 5 = some e ∧ e.row.ty.bits = 8 * 4 ∧ (rest.arrive 0).rowRefusal 0x2000 5 = 0 ∧ actsOnWrite 0x2000 5 = false ∧
      e.row.range.apply e.row.ty (rawValue e.row.ty (86400000 % 2 ^ 32)) = .keep 86400000 ∧
      depOf 0x2000 5 (rest.arrive 0) 86400000 = .keep 86400000 ∧ rangeBad 0x2000 5 86400000 = false ∧
      (rest.arrive 0).refusedBy ((rest.arrive 0).wr 0x2000 5 86400000) 0x2000 5 = 0) ∧
    (∃ e, lookup 0x2000 5 = some e ∧
      (match e.row.range.apply e.row.ty (rawValue e.row.ty (1 % 2 ^ 32)) with | .clamped w _ => decide (w = 1000) | _ => false) = true ∧
      depOf 0x2000 5 (rest.arrive 0) 1000 = .keep 1000 ∧ rangeBad 0x2000 5 1000 = false ∧
      (rest.arrive 0).refusedBy ((rest.arrive 0).wr 0x2000 5 1000) 0x2000 5 = 0) := by
  refine ⟨by decide +kernel, by decide +kernel, by decide +kernel, ⟨_, rfl, by decide +kernel⟩, ⟨_, rfl, by decide +kernel⟩,
    ⟨_, rfl, by decide +kernel⟩, ⟨_, rfl, by decide +kernel⟩, ⟨_, rfl, by decide +kernel⟩⟩

/-- Hypotheses of CompleteAccess. Complete access: no such index, a domain, a readable object, a write refused at its first subindex, a write that goes through. -/
theorem witness_complete : let u := rest.arrive 0
    u.masterPresent 0 = true ∧ u.dev.ready = true ∧ subsOf 0x2001 = [] ∧ (subsOf 0x2111 ≠ [] ∧ holdsDomain 0x2111 = true) ∧
      (subsOf 0x2402 ≠ [] ∧ holdsDomain 0x2402 = false ∧ resultObject 0x2402 = false ∧
        (∀ k ∈ covered 0x2402 false, ((lookup 0x2402 k).map (fun e => decide (e.row.acc ≠ .wo))).getD true = true)) ∧
      ([0].length ≤ (covered 0x2402 false).length ∧
        (match u.planAll 0x2402 ((covered 0x2402 false).zip [0]) with | .error p => decide (p = (1, 3)) | .ok _ => false) = true) ∧
      ([500].length ≤ (covered 0x4046 false).length ∧ (match u.planAll 0x4046 ((covered 0x4046 false).zip [500]) with
        | .error _ => false
        | .ok l => l.all (fun p => p.why.isNone) && (match u.commitPlan 0x4046 l with | .ok _ => true | .error _ => false)) = true) := by decide +kernel

/-- Hypotheses of WideEntries. 64-bit entries: Compass time 0x2000:06, whose words lie at 0x4500_0030 and 0x4500_0034 (R52's example), and the activation time. -/
theorem witness_wide : let u := rest.arrive 0
    isWide 0x2000 6 = true ∧ wideAddr 0x2000 6 = 0x45000030 ∧ u.masterPresent (0 + 1) = true ∧ u.dev.ready = true ∧
      ((lookup 0x2000 6).map (fun e => decide (e.row.acc ≠ .wo))).getD false = true ∧ (u.master 1).shadow = none ∧
      ((rest.updMaster 1 (fun q => { q with shadow := some (key 0x2000 6, 7) })).arrive 0 |>.master 1).shadow = some (key 0x2000 6, 7) ∧
      isWide 0x2202 2 = true ∧ u.rowRefusal 0x2202 2 ≠ 3 ∧ (0x2202 : Nat) ≠ 0x2000 ∧ (u.master 1).wbuf = none ∧
      ((rest.updMaster 1 (fun q => { q with wbuf := some (key 0x2202 2, 7) })).arrive 0 |>.master 1).wbuf = some (key 0x2202 2, 7) := by
  decide +kernel
/-- Hypotheses of ResultsAndWaits. -/
theorem witness_results : (rest.arrive 0).masterPresent 1 = true ∧ (rest.arrive 0).dev.ready = true ∧ resultObject 0x50BF = false ∧
    resultObject 0x509F = true ∧ (lookup 0x509F 1).isSome = true := by decide +kernel
/-- Hypotheses of ResultsAndWaits. -/
theorem witness_wait_ack : let s : State := { moving .bivouac .waking .standby with dev := { (inState .bivouac).dev with held := some 1 } }
    (s.pass 10000000).owesAnswer 0 = true ∧ ((s.pass 10000000).master 1).asked + 10000000 * (((s.pass 10000000).master 1).waits + 1) ≤
      (s.pass 10000000).now := by decide +kernel

/-- Hypotheses of BulkWindows. A bulk window: a closed one whose target can be read or written, a second writer, an open one of another master, an open one of this
master for reading and for writing, one without an access for 10 s. -/
theorem witness_windows :
    (let u := (put rest [(0x2023, 1, 0x4E110000)]).pass 0
     u.masterPresent 1 = true ∧ u.dev.ready = true ∧ u.winOpen 3 = false ∧ u.winTarget 3 = 0x4E11 ∧
       ((lookup (u.winTarget 3) (u.rdN (0x2020 + 3) 1 / 2 ^ 8 % 256)).map (fun e => decide (e.row.acc ≠ .wo ∧ e.row.acc ≠ .ro))) = some true ∧
       u.writerOf 0x4E11 = none) ∧
    (let u := (put rest [(0x2023, 1, 0x4E110000), (0x2020, 1, 0x4E110000), (0x2020, 5, 1), (0x2020, 4, 2)]).pass 0
     u.writerOf (u.winTarget 3) = some 0 ∧ u.winOpen 3 = false ∧ u.winTarget 3 ≠ 0x2201) ∧
    (let u := (put rest [(0x2020, 5, 1), (0x2020, 4, 1), (0x2020, 6, 2)]).pass 0; u.winOpen 0 = true ∧ u.winOwner 0 ≠ 1) ∧
    (let u := (put rest [(0x2020, 1, 0x4E110000), (0x2020, 5, 1), (0x2020, 4, 1), (0x2020, 6, 1), (0x2020, 3, 512)]).pass 0
     u.winOpen 0 = true ∧ u.winOwner 0 = 1 ∧ u.winMode 0 = 1 ∧ accessCode 1 508 4 = 0 ∧ u.winOffset 0 + 508 + 4 ≤ u.winLength 0) ∧
    (let u := (put rest [(0x2020, 1, 0x4E110000), (0x2020, 5, 1), (0x2020, 4, 2), (0x2020, 6, 1), (0x2020, 3, 508)]).pass 0
     accessCode 1 508 4 = 0 ∧ u.winOpen 0 = true ∧ u.winOwner 0 = 1 ∧ u.winMode 0 = 2 ∧ u.winTarget 0 = 0x4E11 ∧
       u.winOffset 0 + 508 ≤ u.winLength 0 ∧ u.winLength 0 ≤ 512 ∧ u.winOffset 0 + 508 + 4 ≤ 512) ∧
    (let u := (put rest [(0x2020, 5, 1)]).pass 10000000000; u.winOpen 0 = true ∧ (u.window 0).last + 10000000000 ≤ u.now) := by
  decide +kernel

/-- Hypotheses of UserImage. -/
theorem witness_user_image :
    ((rest.pass 0).masterPresent 1 = true ∧ (rest.pass 0).dev.ready = true ∧ (rest.pass 0).door.saving = none ∧
      (rest.pass 0).journalActive = false) ∧
    ((put rest [(0x2200, 1, 4)]).pass 0).journalActive = true ∧
    (({ rest with door := { rest.door with saving := some [default] } } : State).pass 0).door.saving = some [default] := by decide +kernel

/-- Hypotheses of EtherCatSlave. -/
theorem witness_ethercat :
    ((rest.pass 0).pow.boot = .done ∧ (rest.pass 0).dev.ready = true ∧ (rest.pass 0).masterPresent 0 = true ∧ (5 : Nat) ≠ 3 ∧ (5 : Nat) ≠ 4 ∧
      foeOffset [] = none) ∧
    (let ec := fun st => ({ rest with door := { rest.door with ec := { rest.door.ec with st := st, inSync := 2 } } } : State)
     ((ec .init).pass 0).door.ec.st = .init ∧ ((ec .preOp).pass 0).door.ec.st = .preOp ∧ ((ec .safeOp).pass 0).door.ec.st = .safeOp ∧
       ((ec .safeOp).arrive 0).door.ec.st = .safeOp ∧ ((ec .safeOp).arrive 0).door.ec.inSync = 2 ∧ ((ec .safeOp).arrive 0).pow.boot = .done ∧
       ((ec .safeOp).arrive 0).rd 0x4880 3 ≠ 1) ∧
    ((-20000000 : Int) ≤ (BitVec.ofInt 32 (-20000000)).toInt ∧ (BitVec.ofInt 32 20000000).toInt ≤ 20000000) ∧
    (((booting .banked).pass 0).pow.boot = .banked ∧ ((booting .banked).pass 0).dev.ready = false ∧ (4 : Fin 5) ≠ 0) := by decide +kernel
/-- Hypotheses of ProcessDataWatchdog. -/
theorem witness_watchdog : (rest.arrive 0).door.ec.st = .op := by decide +kernel
/-! ## Chapters 3 and 4 -/

/-- Hypotheses of TriggersAndCycles. -/
theorem witness_triggers :
    ((rest.pass 0).masterPresent 1 = true ∧ (rest.pass 0).dev.ready = true ∧ (rest.pass 0).live = false) ∧
    (((inState .scanning).pass 0).masterPresent 1 = true ∧ ((inState .scanning).pass 0).live = true ∧ ((inState .scanning).pass 0).rd 0x2050 1 ≠ 4) ∧
    (((put (inState .paused) [(0x2050, 1, 4)]).pass 0).live = true ∧ ((put (inState .paused) [(0x2050, 1, 4)]).pass 0).rd 0x2050 1 = 4) ∧
    (let u := (inState .scanning).arrive 0
     (u.group 15).running = none ∧ (u.group 15).due = none ∧ (u.group 15).priming = false) ∧
    (((cycling default).arrive 0).group 0).running.isSome = true ∧ (((cycling default).arrive 0).group 0).latch = none ∧
    ((((cycling default).updGroup 0 (fun q => { q with latch := some default })).arrive 0).group 0).latch.isSome = true ∧
    (let u := ((inState .scanning).updGroup 0 (fun q => { q with due := some ⟨0, 7, 3, 0⟩ })).arrive 20
     (u.group 0).running = none ∧ (u.group 0).priming = false ∧ (u.group 0).due = some ⟨0, 7, 3, 0⟩ ∧ u.mayStart 0 = true ∧
       u.cycling = true ∧ 0 + 20 ≤ u.fine ∧ 3 ≤ 3) := by decide +kernel
/-- Hypotheses of TriggersAndCycles. -/
theorem witness_cycle_end :
    (let u := (cycling default).arrive 30000
     (u.group 0).running = some default ∧ 0 + u.clocksNs 0 (u.cycleLen 0) ≤ u.now ∧ (u.group 0).selfTimed = 0 ∧ (u.group 0).latch = none) ∧
    (let u := ((cycling default).updGroup 0 (fun q => { q with latch := some ⟨5, 7, 3, 0⟩ })).arrive 30000
     (u.group 0).running = some default ∧ 0 + u.clocksNs 0 (u.cycleLen 0) ≤ u.now ∧ (u.group 0).selfTimed = 0 ∧
       (u.group 0).latch = some ⟨5, 7, 3, 0⟩ ∧ u.mayStart 0 = true ∧ u.cycling = true) := by decide +kernel

/-- Hypotheses of ChannelService. -/
theorem witness_service :
    (let u := (put rest [(chIdx 63, 7, 1)]).pass 0
     u.masterPresent 1 = true ∧ u.dev.ready = true ∧ u.rd (chIdx 63) 7 = 1) ∧
    (let u := (inState .scanning).pass 0
     u.rd (chIdx 63) 7 ≠ 1 ∧ u.queuesRun = true ∧ u.status 63 ≠ 1 ∧ u.status 63 ≠ 3) ∧
    (let u := (put rest [(chIdx 63, 7, 1), (chIdx 63, 8, 2)]).pass 0
     u.rd (chIdx 63) 7 ≠ 0 ∧ u.queuesRun = true ∧ (u.svc 63).leaving = false ∧ u.status 63 = 2) ∧
    (let u := ((cycling { (default : Cycle) with start := 9 }).updService 0 (fun q => { q with leaving := true, losing := true, asked := 9 })).pass 0
     (u.group (u.groupOf 0)).running = some { (default : Cycle) with start := 9 } ∧ (u.svc 0).leaving = true ∧ (u.svc 0).losing = true ∧
       (u.svc 0).asked ≤ 9) ∧
    (let u := (put (cycling { (default : Cycle) with start := 80000 }) [(chIdx 0, 8, 3)]).pass 80000
     (u.group (u.groupOf 0)).running = some { (default : Cycle) with start := 80000 } ∧ u.status 0 = 3 ∧ (u.svc 0).returned + 80000 ≤ 80000) ∧
    (let u := ((put rest [(chIdx 0, 8, 4)]).updService 0 (fun q => { q with warmed := 5 })).pass 0
     u.status 0 = 4 ∧ 5 ≤ (u.svc 0).warmed) ∧
    (let u := ((put rest [(chIdx 0, 8, 2)]).updFe 0 (fun q => { q with passes := 65535 })).pass 0
     u.status 0 = 2 ∧ u.rd (chIdx 0 + 2) 7 = 0 ∧ (u.svc 0).leaving = false ∧ u.rdN (chIdx 0 + 2) 8 ≤ (vget u.fe 0).passes) := by decide +kernel

/-- Hypotheses of BlackLevelLoop. Black pixels of a channel in service: in range with the loop on, and with a check that they fail. -/
theorem witness_black :
    ((0 : Int) ≤ 0 ∧ (1023 : Int) ≤ 1023 ∧ (16 * 2048 : Int) = 16 * 2048 ∧ -128 ≤ (-128 : Int) ∧ (127 : Int) < 128) ∧
    (let u := (put ((cycling default).updFe 0 (fun q => { q with cur := some default })) [(chIdx 0 + 2, 5, 0)]).pass 0
     let codes := List.replicate 32 1
     (u.blackReadout 0).isSome = true ∧ codes.length = u.blackPx 0 ∧ 4 ≤ codes.length ∧ (∀ c ∈ codes, u.codeLow 0 < c ∧ c < u.codeHigh 0) ∧
       u.status 0 = 0 ∧ u.rd (chIdx 0 + 2) 1 = 1 ∧ u.rd (chIdx 0 + 2) 5 ≠ 1 ∧ (vget u.fe 0).written = false ∧
       0 ≤ u.rd (chIdx 0 + 1) 8 ∧ u.rd (chIdx 0 + 1) 8 ≤ 1023) ∧
    (let u := ((cycling default).updFe 0 (fun q => { q with cur := some default })).pass 0
     let codes := List.replicate 32 16382
     (∀ c ∈ codes, u.codeLow 0 < c ∧ c < u.codeHigh 0) ∧ u.status 0 = 0 ∧ u.rd (chIdx 0 + 2) 1 = 1 ∧ u.rd (chIdx 0 + 2) 5 = 1 ∧
       16 * u.rd (chIdx 0 + 2) 6 < (blackMean codes 0 - 16 * u.target 0).natAbs) := by decide +kernel

/-- Hypotheses of ChannelLines. -/
theorem witness_lines :
    (let r : Reading := { (default : Reading) with pix := some (7, 0) }
     let s := (cycling default).updFe 0 (fun q => { q with cur := some r })
     let u := s.pass 0
     (u.group (u.groupOf 0)).running.isSome = true ∧ u.named 0 = true ∧ u.trimFree 0 = true ∧ u.live = true ∧ u.status 0 = 0 ∧
       (u.svc 0).leaving = false ∧ (u.svc 0).losing = false ∧ (vget u.fe 0).cur = some r ∧ u.activePx 0 + 4 ≤ (u.lineQ 0).free ∧
       ((s.updLineQ 0 (fun q => { q with credit := 32768 })).pass 0 |>.lineQ 0).free < u.activePx 0 + 4) ∧
    (let s := (cycling default).updFe 0 (fun q => { q with cur := some default })
     (((s.pass 0).lineReadout 0).map (fun p => p.2.pix)) = some none ∧ (List.replicate 512 (0 : Int)).length = (s.pass 0).activePx 0) ∧
    (let r : Reading := { (default : Reading) with pix := some (7, 0), framed := true }
     let s := (cycling default).updFe 0 (fun q => { q with cur := some r })
     (s.pass 0).lineReadout 0 = some (false, r)) ∧
    (let s := rest.updFe 0 (fun q => { q with lines := 1024 })
     (s.pass 0).status 0 ≠ 1 ∧ (s.pass 0).rdN (chIdx 0 + 2) 9 ≤ (vget (s.pass 0).fe 0).lines) := by decide +kernel
/-! ## Chapter 5 -/

/-- Hypotheses of ShadingArithmetic. -/
theorem witness_shading_arithmetic :
    (laneY 0 0 0 0 ≤ 0) ∧ (0 ≤ laneY 5 0 0x4000 0x1000 ) ∧ 0 < 1 ∧ 1 < scaleFor 40000 20000 ∧ scaleFor 40000 20000 < 0xFFFF ∧
    0 < 0x4000 * 0x1000 ∧ importResp 40000 0x4000 0x1000 < 65535 := by decide +kernel

/-- A device at rest whose map names one channel of two active pixels; its shadow is ready with the identity content of one plane. -/
def narrow : State :=
  let s := put rest ((List.range 31).map (fun g => (0x4401 + g, 1, (0 : Int))) ++ [(0x4400, 1, 1), (0x4400, 2, 0), (chIdx 0, 3, 2)])
  (put s [(0x4000, 5, 2)]).updBank 1 (fun _ => ⟨s.captureBase { (default : Capture) with planes := 1, recipe := 255 }, []⟩)

/-- A capture of kind `k` in phase `p`. -/
def capturing (k : Nat) (p : Phase) : State :=
  { rest with sh := { rest.sh with capture := some { (default : Capture) with kind := k, phase := p } } }

/-- Hypotheses of ShadingBanks. -/
theorem witness_shading_banks :
    ((rest.pass 0).activeBank ≤ 1 ∧ (rest.pass 0).masterPresent 1 = true ∧ (rest.pass 0).dev.ready = true ∧ (rest.pass 0).rcp.armed = none ∧
      (rest.pass 0).bankHolder (rest.pass 0).shadow = 0 ∧ (rest.pass 0).bankState (rest.pass 0).shadow ≠ 2 ∧
      (rest.pass 0).bankState (rest.pass 0).activeBank = 0) ∧
    (({ rest with sh := { rest.sh with swapAt := some 5 } } : State).pass 0).sh.swapAt = some 5 ∧
    ((put rest [(0x4000, 7, 2)]).pass 0).bankHolder ((put rest [(0x4000, 7, 2)]).pass 0).shadow ≠ 0 ∧
    (let u := (put (inState .scanning) [(0x4000, 5, 2)]).pass 0
     u.bankHolder u.shadow = 0 ∧ u.rcp.armed = none ∧ u.bankState u.shadow = 2 ∧ u.live = true ∧ u.shadowMatches = false) ∧
    (let u := ({ narrow with dev := { narrow.dev with st := .scanning } } : State).pass 0
     u.bankHolder u.shadow = 0 ∧ u.rcp.armed = none ∧ u.bankState u.shadow = 2 ∧ u.live = true ∧ u.shadowMatches = true) ∧
    (let u := (put rest [(0x4000, 5, 2)]).pass 0
     u.bankHolder u.shadow = 0 ∧ u.rcp.armed = none ∧ u.bankState u.shadow = 2 ∧ u.live = false) ∧
    ((put rest [(0x4000, 4, 2)]).pass 0).bankState ((put rest [(0x4000, 4, 2)]).pass 0).activeBank ≠ 0 ∧
    (let u := ({ rest with sh := { rest.sh with copying := true } } : State).pass 0
     u.sh.copying = true ∧ u.activeBank ≤ 1) ∧
    (let u := ({ put rest [(0x4043, 1, 1), (0x4045, 1, 0)] with sh := { rest.sh with th := vupd rest.sh.th 0 (fun t => { t with usable := true }) } } : State).pass 2000000001
     (vget u.sh.th 0).usable = true ∧ (vget u.sh.th 0).time + u.rdN 0x4046 1 * 1000000 < u.now ∧ bit (u.rdN 0x4043 1) 0 = true ∧
       u.rd 0x4045 1 = 0) := by decide +kernel

/-- Hypotheses of ShadingCapture. -/
theorem witness_shading_capture :
    (let u := rest.pass 0
     u.masterPresent 1 = true ∧ u.dev.ready = true ∧ u.dev.st = .standby ∧ u.shadowHeld = false ∧ u.rcp.measure = none ∧ u.rd 0x4030 8 = 0 ∧
       (firstFailed [u.item1, u.item3 (u.rateFor (u.planesOf u.activeRecipe)) converterLimit, none]).code = 0 ∧
       (firstFailed [u.item1, u.item3 (u.rateFor (u.planesOf u.activeRecipe)) converterLimit, u.item6 (u.recipe u.activeRecipe)]).code = 0) ∧
    ((put rest [(0x4030, 8, 1)]).pass 0).rd 0x4030 8 ≠ 0 ∧
    (firstFailed [((put rest [(0x5800, 1, 0)]).pass 0).item1]).code ≠ 0 ∧
    ((inState .paused).pass 0).dev.st ≠ .standby ∧
    ((put rest [(0x4000, 7, 2)]).pass 0).shadowHeld = true ∧
    (let u := (capturing 1 .base).pass 0
     (u.sh.capture.map (fun c => (c.kind, c.phase))) = some (1, .base) ∧ u.groupsIdle = true ∧ u.masterPresent 1 = true ∧ u.activeBank ≤ 1) ∧
    (((cycling default).pass 0).groupsIdle = false) ∧
    (let u := (capturing 2 .base).pass 0
     (u.sh.capture.map (fun c => (c.kind, c.phase))) = some (2, .base)) ∧
    (let c := { (default : Capture) with kind := 1, phase := .darkAverage, par := { (default : CapPar) with lines := 8 }, rate := 1000 }
     let u := ({ rest with sh := { rest.sh with capture := some c } } : State).pass 1000000
     u.sh.capture = some c ∧ cycleDue u c.par c.phase c.done c.rate c.since c.aborting = true ∧ c.aborting = false) ∧
    (let u := (capturing 3 .darkSettle).pass 0
     u.groupsIdle = true ∧ (u.sh.capture.map (fun c => decide (c.par.settle ≤ c.done ∧ c.par.lines ≤ c.done))) = some true) ∧
    (let u := (capturing 1 .waitLamp).pass 100000000
     u.can.lamp = false ∧ (u.sh.capture.map (fun c => u.elapsed c.since 100000000)) = some true ∧ u.activeBank ≤ 1) ∧
    (({ capturing 1 .waitLamp with can := { rest.can with lamp := true } } : State).pass 0).can.lamp = true := by decide +kernel

/-- Hypotheses of ShadingCapture. The two ends of a capture's computation: a channel beyond its defect maximum, and none. -/
theorem witness_capture_result :
    (let c := { (default : Capture) with kind := 1, phase := .computing, darkBad := [0] }
     let u := ({ narrow with sh := { narrow.sh with capture := some c } } : State).pass 0
     let d := { c with skipped := union c.skipped u.outNow }
     ∃ q ∈ d.records u (u.bank u.shadow).bytes default false, q.2.1 = 2 ∨ q.2.1 = 3) ∧
    (let c := { (default : Capture) with kind := 1, phase := .computing }
     let u := ({ narrow with sh := { narrow.sh with capture := some c } } : State).pass 0
     let d := { c with skipped := union c.skipped u.outNow }
     ∀ q ∈ d.records u (u.bank u.shadow).bytes default false, q.2.1 ≠ 2 ∧ q.2.1 ≠ 3) := by decide +kernel
/-! ## Chapter 6 -/

/-- A measurement in phase `p`. -/
def measuring (p : Phase) (f : Measure → Measure) : State :=
  { rest with rcp := { rest.rcp with measure := some (f { (default : Measure) with phase := p, tables := 1 }) } }

/-- A recipe of one plane lit by lamp group 0, with reference level `l`. -/
def onePlane (l : Nat) : List Byte := overlay (overlay (List.replicate 72 0) 6 [1]) 25 [1] |>.take 56 |> (· ++ le 2 l ++ List.replicate 14 0)

/-- A device whose recipe 0 is that, stored. -/
def withRecipe (l : Nat) : State :=
  { put rest [(0x4240, 1, 1)] with rcp := { rest.rcp with recipes := vupd rest.rcp.recipes 0 (fun _ => onePlane l) } }

/-- A device with a switch armed. -/
def armedIn (s : State) (f : Armed → Armed) : State := s.setArmed (some (f (freshArmed 0 7 0 0 false)))

/-- A blend under way, with the reference level `l`. -/
def blending (l : Nat) : State := (put (armedIn (withRecipe l) (fun a => { a with phase := 2, minWhite := 1 })) [(0x4202, 1, 2)]).pass 0

/-- A shadow that a capture under recipe 0 made. -/
def captured : State :=
  { narrow with
    rcp := { narrow.rcp with recipes := vupd narrow.rcp.recipes 0 (fun _ => onePlane 0) }
    sh := { narrow.sh with banks := vupd narrow.sh.banks 1 (fun b => { b with bytes := overlay b.bytes 12 [2, 0] }) } }

/-- Hypotheses of BasisSets. -/
theorem witness_basis_sets :
    (let u := rest.pass 0
     let bad := firstFailed [u.item1, u.item3 (u.rateFor 1) converterLimit, u.tablesOff ((List.range (u.rdN 0x4201 1)).map (fun i => u.rdN 0x4201 (2 + i)))]
     u.masterPresent 1 = true ∧ u.dev.ready = true ∧ u.dev.st = .standby ∧
       (u.shadowHeld || u.sh.capture.isSome || u.rcp.measure.isSome || u.basisBusy 7) = false ∧ bad.code = 0) ∧
    ((inState .scanning).pass 0).dev.st ≠ .standby ∧ ((put rest [(0x4000, 7, 2)]).pass 0).shadowHeld = true ∧
    (firstFailed [((put rest [(0x5800, 1, 0)]).pass 0).item1]).code ≠ 0 ∧
    (let u := (measuring .darkAverage id).pass 0
     (u.rcp.measure.map (fun q => (q.phase, decide (q.par.lines ≤ q.done)))) = some (.darkAverage, true) ∧ u.groupsIdle = true ∧
       u.masterPresent 1 = true ∧ u.dev.ready = true ∧ u.sh.capture = none) ∧
    (let u := ({ cycling default with rcp := (measuring .darkAverage id).rcp } : State).pass 0
     u.rcp.measure.isSome = true ∧ u.groupsIdle = false) ∧
    (((measuring .darkSettle (fun q => { q with aborting := true })).pass 0).rcp.measure.map (fun q => q.aborting)) = some true ∧
    (((measuring .whiteAverage id).pass 0).rcp.measure.map (fun q =>
      (q.phase, decide (q.par.lines ≤ q.done), decide (q.tables ≤ q.table + 1)))) = some (.whiteAverage, true, true) ∧
    (((measuring .whiteAverage (fun q => { q with tables := 2 })).pass 0).rcp.measure.map (fun q => decide (q.table + 1 < q.tables))) = some true ∧
    (let u := ({ narrow with rcp := (measuring .computing id).rcp } : State).pass 0
     (u.rcp.measure.map (fun q =>
       let d := { q with skipped := union q.skipped u.outNow }
       (q.phase, decide (q.set < 8), u.mapSlices.any (fun (n, o, len) => !d.skipped.contains n && (List.range d.tables).any (d.fails o len))))) =
       some (.computing, true, false)) ∧
    (let u := ({ narrow with rcp := (measuring .computing (fun q => { q with darkBad := [0] })).rcp } : State).pass 0
     (u.rcp.measure.map (fun q =>
       let d := { q with skipped := union q.skipped u.outNow }
       u.mapSlices.any (fun (n, o, len) => !d.skipped.contains n && (List.range d.tables).any (d.fails o len)))) = some true) ∧
    (let u := rest.pass 0
     u.basisBusy 7 = false ∧ u.importSet 7 5 3 = none ∧ (8 ≤ 255 ∨ 6 ≤ 15 ∨ 4 ≤ 15)) ∧
    ((put rest [(0x4202, 8, 1)]).pass 0).basisBusy 7 = true ∧
    (let u := captured.pass 0
     u.basisBusy 7 = false ∧ (u.importSet 7 0 0).isSome = true) ∧
    (({ rest with rcp := { rest.rcp with importing := some 7 } } : State).pass 0).rcp.importing = some 7 ∧
    ((put rest [(0x4202, 8, 3)]).pass 0).basisState 7 = 3 ∧
    (let u := ({ put rest [(0x4202, 8, 1)] with rcp := { rest.rcp with stood := true } } : State).pass 0
     u.rcp.stood = true ∧ u.loadOrder.head? = some 7) ∧
    (bit (({ rest with rcp := { rest.rcp with writing := 2 ^ 31 } } : State).pass 0).rcp.writing 31 = true ∧
      ((put rest [(0x4240, 32, 2)]).pass 0).rd 0x4240 32 = 2 ∧ (rest.pass 0).rd 0x4240 32 ≠ 2) := by decide +kernel

/-- Hypotheses of RecipeSwitches. -/
theorem witness_recipe_switches :
    (let u := rest.pass 0
     ¬ (u.dev.st = .trailhead ∨ u.dev.st = .bivouac ∨ (u.rdN 0x4210 5 = 1 ∧ u.rd 0x2050 1 ≠ 1 ∧ u.rd 0x2050 1 ≠ 2)) ∧
       ¬ (u.rcp.armed.isSome = true ∨ u.shadowHeld = true ∨ u.sh.capture.isSome = true ∨ u.rcp.measure.isSome = true) ∧
       u.masterPresent 1 = true ∧ u.dev.ready = true ∧ u.rd 0x4240 (u.rdN 0x4210 3 + 1) ≠ 1 ∧ u.rcp.armed = none) ∧
    ((inState .bivouac).pass 0).dev.st = .bivouac ∧
    (let u := (withRecipe 0).pass 0
     u.rd 0x4240 (u.rdN 0x4210 3 + 1) = 1 ∧ u.item6 (u.recipe (u.rdN 0x4210 3)) = none) ∧
    (let u := (put (withRecipe 0) [(0x4C10, 10, 3)]).pass 0
     u.rd 0x4240 (u.rdN 0x4210 3 + 1) = 1 ∧ (u.item6 (u.recipe (u.rdN 0x4210 3))).isSome = true) := by decide +kernel
/-- Hypotheses of RecipeSwitches. -/
theorem witness_switches_armed :
    (∀ ph ∈ [1, 2, 3, 4], ((((armedIn rest (fun a => { a with phase := ph })).pass 0).rcp.armed.map (fun a =>
      (a.phase, a.cond, decide (a.fixed = false ∧ a.source = 0 ∧ a.startup = false ∧ a.due = none ∧ a.recipe < 256 ∧ a.job < 65536))))) =
        some (ph, none, true)) ∧
    (((armedIn rest (fun a => { a with due := some (5, 6, 7) })).pass 0).rcp.armed.map (fun a => (a.due.isSome, a.fixed))) = some (true, true) ∧
    (((armedIn rest (fun a => { a with source := 1 })).pass 0).rcp.armed.map (fun a => a.source)) = some 1 ∧
    (let u := (armedIn rest (fun a => { a with cond := some 5, phase := 3 })).pass 0
     u.dev.st = .standby ∧ (u.rcp.armed.map (fun a => (a.phase, a.cond))) = some (3, some 5)) ∧
    (let u := ({ put (armedIn rest id) [(0x4202, 1, 2)] with can := { rest.can with blendOk := true } } : State).pass 0
     u.can.blendOk = true ∧ (u.rcp.armed.map (fun a => (a.phase, u.basisState (rBasis (u.recipe a.recipe))))) = some (1, 2)) ∧
    ((((armedIn rest (fun a => { a with phase := 2 })).pass 0).rcp.armed.map (fun a =>
      (((armedIn rest (fun a => { a with phase := 2 })).pass 0).basisBytes (rBasis (((armedIn rest (fun a => { a with phase := 2 })).pass 0).recipe a.recipe))))) =
        some none) ∧
    (∀ l ∈ [0, 1], ((blending l).rcp.armed.map (fun a => (a.phase, (blending l).basisBytes (rBasis ((blending l).recipe a.recipe)),
       match blend ((blending l).recipe a.recipe) [] a.recipe a.minWhite a.maxDef none with | .error c => c | .ok _ => 1))) =
         some (2, some [], 2 - l)) ∧
    (let u := (put ({ withRecipe 0 with rcp := { (withRecipe 0).rcp with startupDue := true } } : State) [(0x4210, 1, 0), (0x4202, 1, 2)]).pass 0
     u.startupReady = true) := by decide +kernel
/-! ## Chapter 7 -/

/-- A scanning device with a narrow map whose grid lies at 0, one count a line. -/
def gridded (b : List Byte) : State :=
  let g : Grid := { (default : Grid) with recipe := 255, bytes := b, anchor := some 0, pitch := 2 ^ 24 }
  { narrow with dev := { narrow.dev with st := .scanning }, rdg := { narrow.rdg with grids := [g] } }

/-- The same with two exposures around line 0 whose channel line is gone, in a forced trim of the channel's cluster. -/
def omitting : State :=
  let s := gridded (onePlane 0)
  let e : Expo := { (default : Expo) with recipe := 255, pos := some (-2 ^ 24), gone := [0] }
  { s with rdg := { s.rdg with expos := [e, { e with line := 1, pos := some (2 ^ 25) }] }
           trm := { s.trm with clusters := vupd s.trm.clusters 0 (fun q => { q with omits := some (0, none) }) } }

/-- Hypotheses of OutputLines. -/
theorem witness_output_lines :
    (rest.pass 0).live = false ∧
    (let u := (gridded (onePlane 0)).pass 0
     u.live = true ∧ u.stalled = false ∧ (u.ridgeReady []).ridgeLine false = none ∧ (u.ridgeReady []).trn.pegOwed = none) ∧
    (let s := gridded (onePlane 0)
     let u := ({ s with trn := { s.trn with pegOwed := some 1 } } : State).pass 0
     u.live = true ∧ u.stalled = false ∧ (u.ridgeReady []).ridgeLine false = none ∧ (u.ridgeReady []).trn.pegOwed.isSome = true ∧
       (u.ridgeReady []).exposuresDone = true) := by
  refine ⟨by decide +kernel, ?_, ?_⟩
  · exact ⟨by decide +kernel, by decide +kernel, Option.isNone_iff_eq_none.mp (by decide +kernel), by decide +kernel⟩
  · exact ⟨by decide +kernel, by decide +kernel, Option.isNone_iff_eq_none.mp (by decide +kernel), by decide +kernel, by decide +kernel⟩

/-- Hypotheses of OutputLines. Line 0 is made, and line 0 is omitted. -/
theorem witness_line_made :
    (∃ p, ((gridded []).pass 0 |>.ridgeReady []).ridgeLine false = some p ∧ ((gridded []).pass 0 |>.ridgeReady []).rdg.grids.length = 1) ∧
    (∃ t, (omitting.pass 0 |>.ridgeReady []).ridgeLine true = some (t, []) ∧ (omitting.pass 0 |>.ridgeReady []).rdg.grids.length = 1 ∧
      (omitting.pass 0 |>.ridgeReady []).rdg.omitted = none) := by
  refine ⟨⟨_, (Option.some_get (by decide +kernel)).symm, by decide +kernel⟩, ?_⟩
  have h : ((omitting.pass 0 |>.ridgeReady []).ridgeLine true).map (fun p => p.2.length) = some 0 := by decide +kernel
  generalize he : (omitting.pass 0 |>.ridgeReady []).ridgeLine true = o at h
  match o, h with
  | some (t, []), _ => exact ⟨t, rfl, by decide +kernel, by decide +kernel⟩

/-- Hypotheses of GuyLine. -/
theorem witness_guy_line :
    (let c : Corr := ⟨100, 100, 100⟩
     let q := { (rest.seam 30) with lines := 1024, used := 512, near := [c], far := [c] }
     let u := (rest.updSeam 30 (fun _ => q)).pass 0
     512 ≤ (u.seam 30).used ∧ ((u.seam 30).par.threshold : Int) ≤ min (peakOf (u.seam 30).near).1 (peakOf (u.seam 30).far).1) ∧
    (let q := { (rest.seam 30) with used := 512, par := { (rest.seam 30).par with threshold := 256 } }
     let u := (rest.updSeam 30 (fun _ => q)).pass 0
     min (peakOf (u.seam 30).near).1 (peakOf (u.seam 30).far).1 < (u.seam 30).par.threshold ∧ (u.seam 30).lowTold = false) ∧
    ((rest.pass 0).seam 30).used < 512 ∧
    (rest.pass 0).rdg.count < (rest.pass 0).rdg.slewed + 64 ∧
    (let u := ({ rest with rdg := { rest.rdg with count := 64 } } : State).pass 0
     u.rdg.slewed + 64 ≤ u.rdg.count) ∧
    (((rest.updSeam 30 (fun q => { q with freeze := some 7 })).pass 0).seam 30).freeze = some 7 ∧
    (rest.pass 0).dev.st = .standby ∧ (inState .paused).dev.st ≠ .standby ∧ (2 : Nat) ≤ 131072 := by decide +kernel
/-! ## Chapter 8 -/

/-- Transport fields changed in the device at rest. -/
def encoder (f : TransportSt → TransportSt) : State := rest.updTrn f

/-- Hypotheses of EncoderInputs. -/
theorem witness_encoder_edges :
    ((encoder (fun x => { x with counting := false })).arrive 0).trn.counting = false ∧
    (let u := (put rest [(0x4801, 8, 1)]).arrive 0
     u.trn.counting = true ∧ u.encBit 0 = true) ∧
    (let u := (put rest [(0x4801, 8, 2)]).arrive 0
     u.trn.counting = true ∧ u.encBit 1 = true) ∧
    (let u := rest.arrive 0
     u.trn.counting = true ∧ u.encBit 0 = false ∧ u.encBit 1 = false ∧ true ≠ u.trn.encA ∧ true ≠ u.trn.encB ∧ u.trn.illegal = none ∧
       ((true ≠ u.trn.encA ↔ false = u.trn.encB)) ∧ ((false ≠ u.trn.encA ↔ true = u.trn.encB))) ∧
    (((encoder (fun x => { x with illegal := some 0 })).arrive 999999).trn.illegal = some 0 ∧
      ((encoder (fun x => { x with illegal := some 0 })).arrive 999999).now < 0 + 1000000) ∧
    (((encoder (fun x => { x with illegal := some 0 })).pass 1000000).trn.illegal = some 0 ∧
      0 + 1000000 ≤ ((encoder (fun x => { x with illegal := some 0 })).pass 1000000).now) := by decide +kernel

/-- Hypotheses of EncoderInputs. -/
theorem witness_encoder_z :
    (let u := (put (encoder (fun x => { x with lastZ := some 0, zeroNext := false })) [(0x4801, 4, 5)]).arrive 0
     u.trn.counting = true ∧ u.rd 0x4801 3 = 1 ∧ u.encBit 2 = false ∧ u.trn.zeroNext = false ∧ u.trn.lastZ = some 0 ∧ u.rd 0x4801 4 ≠ 0 ∧
       4 < (((Ty.i32.wrap ((u.reported : Int) - 0)).natAbs : Int) - u.rd 0x4801 4).natAbs) ∧
    (let u := (put (encoder (fun x => { x with lastZ := some 0, zeroNext := false })) [(0x4801, 4, 4)]).arrive 0
     u.rd 0x4801 4 ≠ 0 ∧ (((Ty.i32.wrap ((u.reported : Int) - 0)).natAbs : Int) - u.rd 0x4801 4).natAbs ≤ 4) ∧
    ((encoder (fun x => { x with zeroNext := true })).arrive 0).trn.zeroNext = true ∧
    (rest.pass 0).masterPresent 1 = true ∧ (rest.pass 0).dev.ready = true ∧
    ((rest.arrive 0).trn.counting = true ∧ (rest.arrive 0).encBit 2 = false) ∧
    (let u := (put rest [(0x4801, 8, 2)]).arrive 0
     u.encBit 1 = true ∧ u.encBit (1 - 1) = false ∧ u.paced = false ∧ u.casbyPosition = false) ∧
    (let u := (put rest [(0x4801, 8, 4)]).arrive 0
     u.encBit 2 = true) := by decide +kernel

/-- Hypotheses of EncoderInputs. -/
theorem witness_encoder_speed :
    (let u := ({ rest with door := { rest.door with ec := { rest.door.ec with actSpeed := 1000 } } } : State).pass 0
     u.pressMismatch = true) ∧
    (let u := (put (encoder (fun x => { x with encEdges := [(400000, 1000), (0, 0)] })) [(0x4800, 5, 1)]).pass 1000000
     u.paced = false ∧ u.trn.overTold = false ∧ u.rd 0x4800 5 < u.encoderSpeed) ∧
    ((put rest [(0x4801, 8, 8)]).pass 0).encBit 3 = true ∧
    (let u := (encoder (fun x => { x with edges := [(0, 5)] })).arrive 1000000
     u.trn.stopped = false ∧ u.trn.edges = [(0, 5)] ∧ 0 + u.tStop ≤ u.fine) := by decide +kernel

/-- A paced device that scans, its table in pacing state `p`, one count a line. -/
def pacedIn (p : Int) (f : TransportSt → TransportSt) : State :=
  let s := put ((inState .scanning).updTrn f) [(0x4800, 1, 1), (0x2050, 1, 2), (0x4804, 5, p), (0x5A00, 0xD, 100000)]
  { s with rdg := { s.rdg with grids := [{ (default : Grid) with pitch := 2 ^ 24 }] } }

/-- Hypotheses of PacedTable. -/
theorem witness_paced_table :
    ((pacedIn 1 (fun x => { x with nextPoint := some 300 })).arrive 0).trn.nextPoint = some 300 ∧ (1 * 2 ^ 8 < (300 : Int)) ∧ ((300 : Int) ≤ 2 * 2 ^ 8) ∧
    (let u := (pacedIn 1 (fun x => { x with nextPoint := some 0, edges := [(7, 5)] })).arrive 0
     u.drivesStep = true ∧ u.dev.st = .scanning ∧ u.rd 0x2050 1 = 2 ∧ u.pacing = 1 ∧ u.pointEdge = some (7, 5)) ∧
    (let u := (pacedIn 1 id).arrive 10000
     u.paced = true ∧ u.drivesStep = true ∧ u.trn.prof.upTo + 10000 ≤ u.now ∧ u.trn.prof.v = 0 ∧ u.trn.prof.a = 0 ∧ u.trn.prof.target = 0) ∧
    ((pacedIn 1 (fun x => { x with prof := { x.prof with v := 5 } })).arrive 10000).trn.prof.v ≠ 0 ∧
    (let u := (put (pacedIn 1 id) [(0x4804, 2, 0)]).arrive 0
     u.live = true ∧ u.drivesStep = true ∧ u.pacing = 1 ∧ u.dev.st = .scanning ∧
       u.rdN 0x4804 2 ≤ (u.pacedPeers.map (·.fill)).foldl max u.ownFill) ∧
    (let u := (pacedIn 1 (fun x => { x with slow := 199 })).arrive 0
     let f := (u.pacedPeers.map (·.fill)).foldl max u.ownFill
     let ld := (u.pacedPeers.map (·.drain)).foldl min u.drainLines
     let v := limit 0 u.vLim (u.rateSpeed ld u.cNow + u.vLim * u.rdN 0x4804 4 * ((u.rdN 0x4804 1 : Int) - f) / (256 * 1000))
     f < u.rdN 0x4804 2 ∧ fmps (u.rdN 0x4803 9) ≤ v) ∧
    (let u := (put (pacedIn 1 (fun x => { x with slow := 199 })) [(0x4804, 1, 0), (0x4804, 4, 65535)]).arrive 0
     let f := (u.pacedPeers.map (·.fill)).foldl max u.ownFill
     let ld := (u.pacedPeers.map (·.drain)).foldl min u.drainLines
     let v := limit 0 u.vLim (u.rateSpeed ld u.cNow + u.vLim * u.rdN 0x4804 4 * ((u.rdN 0x4804 1 : Int) - f) / (256 * 1000))
     f < u.rdN 0x4804 2 ∧ v < fmps (u.rdN 0x4803 9) ∧ 199 ≤ u.trn.slow) := by decide +kernel

/-- Hypotheses of PacedTable. -/
theorem witness_paced_stops :
    (let u := (pacedIn 4 id).arrive 0
     u.pacing = 4 ∧ u.restartDue ((u.pacedPeers.map (·.fill)).foldl max u.ownFill) = true) ∧
    (let u := (put (pacedIn 4 id) [(0x4800, 6, 0)]).arrive 0
     u.pacing = 4 ∧ u.restartDue ((u.pacedPeers.map (·.fill)).foldl max u.ownFill) = false) ∧
    ((pacedIn 0 id).arrive 0).pacing = 0 ∧ ((pacedIn 6 id).arrive 0).pacing = 6 ∧
    (let u := (pacedIn 2 id).arrive 0
     u.pacing = 2 ∧ u.trn.prof.v = 0 ∧ u.trn.prof.a = 0 ∧ u.trn.prof.target = 0 ∧ u.live = true) ∧
    (let s := pacedIn 2 id
     (({ s with dev := { s.dev with st := .standby } } : State).arrive 0).live = false) ∧
    (let u := (pacedIn 3 (fun x => { x with prof := { x.prof with stopAt := some 0 } })).arrive 0
     u.pacing = 3 ∧ u.trn.prof.v = 0 ∧ u.trn.prof.stopAt = some u.trn.prof.travel ∧ u.trn.restart = false ∧ u.drivesStep = true) ∧
    ((pacedIn 3 (fun x => { x with restart := true })).arrive 0).trn.restart = true ∧
    (let u := (put (pacedIn 0 (fun x => { x with men := true, restAt := some 0 })) [(0x4803, 4, 3)]).pass 3000000
     u.trn.men = true ∧ u.rd 0x4803 4 ≠ 0 ∧ u.trn.prof.v = 0 ∧ u.trn.restAt = some 0 ∧ 0 + u.rdN 0x4803 4 * 1000000 ≤ u.now) := by decide +kernel

/-- A device whose Casby port is in state `c`. -/
def ringing (c : Int) (f : CasbySt → CasbySt) : State := put (rest.updCsb f) [(0x4880, 8, c)]

/-- An election frame that passes the checks, whatever its payload. -/
theorem election_frame (p : List Byte) (hp : p.length = 11) : frameOf true (Frame.bytes ⟨0, 0, 0, p⟩) = some ⟨0, 0, 0, p⟩ := by
  match p, hp with
  | [a, b, c, d, e, f, g, h, i, j, k], _ =>
    have hc := crc16_lt [0#8, 0#8, a, b, c, d, e, f, g, h, i, j, k]
    have hb : Frame.bytes ⟨0, 0, 0, [a, b, c, d, e, f, g, h, i, j, k]⟩ =
      [0, 0, a, b, c, d, e, f, g, h, i, j, k] ++ [BitVec.ofNat 8 (crc16 [0, 0, a, b, c, d, e, f, g, h, i, j, k]),
        BitVec.ofNat 8 (crc16 [0, 0, a, b, c, d, e, f, g, h, i, j, k] / 256)] := rfl
    rw [hb]
    simp only [frameOf, fieldAt, slice, payloadLength, List.cons_append, List.nil_append, List.length_cons, List.length_nil,
      List.drop_succ_cons, List.drop_zero, List.take_succ_cons, List.take_zero]
    simp [unle]
    omega

/-- The unique ID in an election frame's payload. -/
theorem election_uid (n : Nat) (h : n < 2 ^ 64) (q : List Byte) : fieldAt (le 1 0 ++ le 8 n ++ q) 1 8 = n := by
  have e := slice_append (le 1 0) (le 8 n) q
  rw [le_length, le_length] at e
  rw [fieldAt, e, unle_le]
  exact Nat.mod_eq_of_lt h

/-- Hypotheses of CasbyRing. -/
theorem witness_election (n : Nat) (h : n < 2 ^ 64) (hop flags : Fin 8) :
    let p := le 1 0 ++ le 8 n ++ [BitVec.ofNat 8 hop, BitVec.ofNat 8 flags]
    ∃ f : Frame, frameOf true (Frame.bytes ⟨0, 0, 0, p⟩) = some f ∧ f.type_ = 0 ∧ fieldAt f.payload 1 8 = n ∧
      fieldAt f.payload 9 1 = hop ∧ fieldAt f.payload 10 1 = flags := by
  refine ⟨_, election_frame _ (by simp [le_length]), rfl, election_uid n h _, ?_, ?_⟩
  · simp only [fieldAt]
    rw [show le 1 0 ++ le 8 n ++ [BitVec.ofNat 8 hop, BitVec.ofNat 8 flags] =
      (le 1 0 ++ le 8 n) ++ [BitVec.ofNat 8 hop] ++ [BitVec.ofNat 8 flags] by simp]
    have e := slice_append (le 1 0 ++ le 8 n) [BitVec.ofNat 8 hop] [BitVec.ofNat 8 flags]
    rw [List.length_append, le_length, le_length] at e
    exact (congrArg unle e).trans (by simp [unle]; omega)
  · simp only [fieldAt]
    rw [show le 1 0 ++ le 8 n ++ [BitVec.ofNat 8 hop, BitVec.ofNat 8 flags] =
      (le 1 0 ++ le 8 n ++ [BitVec.ofNat 8 hop]) ++ [BitVec.ofNat 8 flags] ++ [] by simp]
    have e := slice_append (le 1 0 ++ le 8 n ++ [BitVec.ofNat 8 hop]) [BitVec.ofNat 8 flags] []
    rw [List.length_append, List.length_append, le_length, le_length] at e
    exact (congrArg unle e).trans (by simp [unle]; omega)

/-- Hypotheses of CasbyRing. With those frames: this device's unique ID, another one, states 3, 4 and 5. -/
theorem witness_election_states :
    Config.uniqueId < 2 ^ 64 ∧ (∃ n, n < 2 ^ 64 ∧ n ≠ Config.uniqueId) ∧
    (let u := (ringing 3 id).arrive 0
     u.casbyState = 3 ∧ u.onRing = true ∧ u.now - u.csb.electAt + 3300 < 2 ^ 32 ∧ u.csb.beaten = false) ∧
    ((ringing 3 id).arrive 1000000).csb.electAt + 1000000 ≤ ((ringing 3 id).arrive 1000000).now ∧
    ((ringing 4 id).arrive 0).casbyState = 4 ∧ ((ringing 5 id).arrive 0).casbyState = 5 ∧
    (frameOf true (Frame.bytes ⟨0, 0, 0, le 9 0 ++ [8, 0]⟩)).map (fun f => fieldAt f.payload 9 1) = some 8 := by
  refine ⟨Config.uniqueIdBits.isLt, ?_, by decide +kernel, by decide +kernel, by decide +kernel, by decide +kernel, by decide +kernel⟩
  by_cases h : Config.uniqueId = 0
  · exact ⟨1, by decide, by rw [h]; decide⟩
  · exact ⟨0, by decide, fun e => h e.symm⟩

/-- Hypotheses of CasbyRing. -/
theorem witness_casby_ring :
    ((ringing 1 id).arrive 0).casbyState = 1 ∧ ((ringing 1 id).arrive 0).csb.tryAt ≤ ((ringing 1 id).arrive 0).now ∧
    (rest.arrive 0).onRing = false ∧ ((ringing 2 id).arrive 0).onRing = true ∧ frameOf true [] = none ∧
    (let u := (ringing 2 id).arrive 10000000
     u.casbyState = 2 ∧ max u.csb.lockedAt (u.csb.heardTime.getD 0) + 10000000 ≤ u.now) ∧
    (let u := (ringing 5 (fun c => { c with unreturned := 3 })).arrive 100000
     u.casbyState = 5 ∧ u.csb.timeAt + 100000 ≤ u.now ∧ u.csb.unreturned = 3) ∧
    (∀ t ∈ [1, 2, 3, 4, 5], (frameOf true (Frame.bytes ⟨t, 0, 0, List.replicate (payloadLength t) 0⟩)).map (fun f => (f.type_, f.origin)) =
      some (t, 0)) ∧
    ((ringing 5 id).arrive 0).rdN 0x4880 0xA = 0 ∧
    (let u := ((inState .scanning).updCsb (fun c => { c with near := 63 })).arrive 0
     u.live = true ∧ 63 ≤ u.csb.near ∧ (2 : Int).natAbs ≤ 2) ∧
    (let u := (ringing 4 (fun c => { c with far := 3 })).arrive 0
     u.live = false ∧ 3 ≤ u.csb.far ∧ 10000 < (10001 : Int).natAbs) ∧
    (let u := (ringing 4 (fun c => { c with trigIn := some 65530 })).arrive 0
     u.csb.trigIn = some 65530 ∧ (0 + 65536 - 65530 - 1) % 65536 < 32768 ∧ (0 + 65536 - 65530 - 1) % 65536 ≠ 0) ∧
    ((ringing 4 (fun c => { c with passed := [0] })).arrive 0).csb.passed.contains 0 = true ∧
    (let u := (put (ringing 4 id) [(0x2200, 1, 5), (0x2202, 1, 0)]).arrive 0
     u.csb.passed.contains 0 = false ∧ 0 = u.rdN 0x2202 1 ∧ u.session = 5) ∧
    ((ringing 4 id).arrive 0).session ≠ 5 ∧
    (let u := (put (ringing 4 id) [(0x4880, 0xA, 1)]).arrive 0
     0 ≠ u.rdN 0x4880 0xA) ∧
    (let u := (ringing 4 id).arrive 1000000
     u.onRing = true ∧ u.csb.beatAt + 1000000 ≤ u.now ∧ u.csb.heardTime.getD 0 + 300000 ≤ u.now) ∧
    (let u := (ringing 4 (fun c => { c with peers := vupd c.peers 7 (fun q => { q with known := true }) })).arrive 3000000
     (vget u.csb.peers 7).known = true ∧ (vget u.csb.peers 7).lostTold = false ∧ (vget u.csb.peers 7).heard + 3000000 ≤ u.now) ∧
    (let w := (ringing 5 (fun c => { c with again := some ([], 1, 0) })).pass 1000000
     w.masterPresent 1 = true ∧ w.dev.ready = true ∧ w.casbyState = 5 ∧ w.csb.again = some ([], 1, 0) ∧ 0 + 1000000 ≤ w.now) := by
  decide +kernel
/-! ## Chapters 9 to 11 -/

/-- Queue 7 changed in the device at rest. -/
def queued (f : Egress → Egress) : State := rest.updEgress 7 f

/-- Hypotheses of EgressQueues. -/
theorem witness_egress_queues :
    ((rest.pass 0).masterPresent 1 = true ∧ (rest.pass 0).dev.ready = true ∧ ((rest.pass 0).eq 7).flush = 0 ∧ (rest.pass 0).queuesRun = true ∧
      ((rest.pass 0).eq 7).held = [] ∧ (rest.pass 0).dma.waiting = [] ∧ (rest.pass 0).startLinks.dma.waiting = []) ∧
    (let u := (queued (fun q => { q with flush := 12 })).pass 0
     (u.eq 7).flush ≠ 0 ∧ (u.eq 7).flushed = false ∧ (u.eq 7).flush = 12) ∧
    (let w := (queued (fun q => { q with flush := 4, flushed := true })).arrive 0
     (w.eq 7).flush ≠ 0 ∧ (w.eq 7).flushed = true) ∧
    (let u := (queued (fun q => { q with held := [{ (default : Packet) with blocks := 4097 }] })).pass 0
     (u.eq 7).held = [{ (default : Packet) with blocks := 4097 }] ∧ (u.eq 7).admits 0 4097 = false) ∧
    (let u := (queued (fun q => { q with held := [{ (default : Packet) with blocks := 4096 }] })).pass 0
     (u.eq 7).held = [{ (default : Packet) with blocks := 4096 }] ∧ (u.eq 7).admits 0 4096 = true) ∧
    (let w := rest.arrive 0
     w.queuesRun = true ∧ w.linkState 0 = 3 ∧ (w.link 0).tx = none) ∧
    (let w := ((queued (fun q => { q with pkts := [{ (default : Packet) with id := 9, sending := some 0 }] })).updLink 0
       (fun l => { l with tx := some (7, 9) })).arrive 0
     w.queuesRun = true ∧ w.linkState 0 = 3 ∧ (w.link 0).tx = some (7, 9) ∧ (w.packet 7 9).isSome = true) := by decide +kernel

/-- A scanning device whose ring 1 of engine 7 begins with one descriptor that is also its chain's last: word 7 is OWN, LAST, stream 1,
class 2 and the bits `b`. -/
def described (b : Nat) : State :=
  put (((inState .scanning).ringPut (descAddr 7 1 0 7) (2 ^ 31 + 2 ^ 30 + 2 ^ 16 + 2 * 2 ^ 14 + b)).ringPut (descAddr 7 1 0 3) (8 * 2 ^ 11))
    [(0x5411, 1, 1), (0x5411, 3, 65535)]

/-- Hypotheses of DmaEngines. -/
theorem witness_chains :
    (let u := (inState .scanning).pass 0
     u.chainAt 7 1 (u.ringLen 7 1) (u.ringHead 7 1) = []) ∧
    (let u := (described 16).pass 0
     let ds := u.chainAt 7 1 (u.ringLen 7 1) (u.ringHead 7 1)
     ds ≠ [] ∧ u.chainCheck 7 ds = 0) ∧
    (let u := (described 0).pass 0
     let ds := u.chainAt 7 1 (u.ringLen 7 1) (u.ringHead 7 1)
     ds ≠ [] ∧ u.chainCheck 7 ds ≠ 0) ∧
    (1023 % (rest.pass 0).ringLen 7 1 < 1024 ∧ 5 % (rest.pass 0).ringLen 7 0 < 1024) := by decide +kernel

/-- A chain of one descriptor of one line with an interrupt, with `n` lines served. -/
def chained (k r n : Nat) (s : State) : State :=
  s.updRing k r (fun q => { q with run := some { (default : Chain) with descs := [[0, 0, 0, 0, 0, 0, 1, 2 ^ 29]], served := n } })

/-- Hypotheses of DmaEngines. -/
theorem witness_rings :
    (let u := (put rest [(0x5400, 1, 1)]).pass 0
     u.compatEngine 1 = true ∧ u.masterPresent 1 = true ∧ u.dev.ready = true) ∧
    (let u := rest.pass 0
     u.compatEngine 7 = false ∧ u.ringState 7 3 ≠ 2 ∧ u.ringState 7 3 ≠ 1 ∧ (u.ring 7 3).run = none) ∧
    (((put rest [(0x5447, 0xC, 128)]).pass 0).ringState 7 3 = 2 ∧ ((put rest [(0x5447, 0xC, 64)]).pass 0).ringState 7 3 = 1) ∧
    ((((chained 7 3 1 rest).pass 0).ring 7 3).run.map (fun c => (c.full, c.list.any (·.irq)))) = some (true, true) ∧
    ((((chained 7 3 0 rest).pass 0).ring 7 3).run.map (fun c => c.full)) = some false ∧
    (0x30007FFC = 0x30000000 + 0x7FFC ∧ 0x7FFC % 4 = 0 ∧ 0x7FFC < 0x100000 ∧ 0x7FFC % 0x20000 < 0x8000 ∧
      0x8000 % 4 = 0 ∧ 0x8000 ≤ 0x8000 % 0x20000 ∧ (0x30000001 % 4 ≠ 0)) := by decide +kernel

/-- Compatibility mode with the transfer object's parameters. -/
def compatible (mask : Int) : State :=
  { put rest [(0x5400, 1, 1), (0x5460, 1, 0), (0x5460, 2, 1), (0x5460, 4, mask), (0x4210, 1, 0), (0x4240, 1, 1)] with
    rcp := { rest.rcp with recipes := vupd rest.rcp.recipes 0 (fun _ => overlay (List.replicate 72 0) 14 (le 2 300)) } }

/-- Hypotheses of DmaEngines. -/
theorem witness_compat_transfer :
    (rest.pass 0).compatMode = false ∧
    (let u := ({ compatible 1 with dma := { rest.dma with compat := some { (default : Compat) with ended := true } } } : State).pass 0
     u.compatMode = true ∧ u.dma.compat = some { (default : Compat) with ended := true }) ∧
    (let u := ({ compatible 1 with dma := { rest.dma with compat := some { (default : Compat) with ended := true, repeating := true } } } : State).pass 0
     u.dma.compat = some { (default : Compat) with ended := true, repeating := true }) ∧
    (let u := (compatible 0).pass 0
     u.compatMode = true ∧ u.dma.compat = none ∧ u.rdN 0x5460 4 = 0) ∧
    (let u := (put (compatible 1) [(0x5800, 6, 960)]).pass 0
     u.compatMode = true ∧ u.dma.compat = none ∧
       ¬ (u.compatWidth < u.rdN 0x5460 1 + u.rdN 0x5460 2 ∨ u.rdN 0x5460 4 = 0 ∨ 15 < u.rdN 0x5460 4) ∧
       u.lMax * u.rdN 0x5460 2 * max 1 (rP (u.recipe u.activeRecipe)) * (if u.rd 0x5460 5 = 1 then 16 else 8) ≤
         u.budget (u.rdN 0x5460 4) * 1000000) ∧
    (let u := (put (compatible 1) [(0x5800, 6, 0)]).pass 0
     u.compatMode = true ∧ u.dma.compat = none ∧ u.paced = false ∧
       ¬ (u.compatWidth < u.rdN 0x5460 1 + u.rdN 0x5460 2 ∨ u.rdN 0x5460 4 = 0 ∨ 15 < u.rdN 0x5460 4) ∧
       u.budget (u.rdN 0x5460 4) * 1000000 <
         u.lMax * u.rdN 0x5460 2 * max 1 (rP (u.recipe u.activeRecipe)) * (if u.rd 0x5460 5 = 1 then 16 else 8)) := by decide +kernel
/-! ## Chapter 12 -/

/-- The links beyond the first: link 15 in state `v`. -/
def linked (v : Int) (f : Link → Link) : State := (put rest [(0x580F, 1, v)]).updLink 15 f

/-- Hypotheses of LinkLoss and LinkTraining. -/
theorem witness_links :
    (∀ v ∈ [0, 1, 2, 3, 4, 5], ((linked v id).arrive 0).linkState 15 = v.toNat) ∧
    (let u := (linked 1 id).arrive 0
     u.pow.boot = .done ∧ u.linkState 15 ≤ 1 ∧ u.dev.st ≠ .bivouac) ∧
    (let u := ({ put State.reset [(0x5800, 1, 3)] with pow := { State.reset.pow with boot := .banked } } : State).arrive 0
     u.linkUp 0 = true ∧ u.dev.ready = false) ∧
    (let u := rest.arrive 0
     u.linkUp 0 = true ∧ u.dev.ready = true ∧ 1 ∉ speeds) ∧
    (let u := (put rest [(0x5800, 3, 12500)]).arrive 0
     u.linkUp 0 = true ∧ u.dev.ready = true ∧ u.configRefused 0 12500 1 = false ∧ u.dev.st = .standby ∧ u.linkState 0 ≠ 4 ∧
       0 ∈ (linksIn (u.groupOfLink 0)).take 1) ∧
    (let u := (linked 2 (fun l => { l with train := some 12500 })).arrive 0
     12500 ∈ speeds ∧ u.linkState 15 = 2 ∧ (u.link 15).train = some 12500) ∧
    (let u := (linked 4 (fun l => { l with train := some 1250 })).arrive 0
     1250 ∈ speeds ∧ u.linkState 15 = 4 ∧ (u.link 15).train = some 1250) := by decide +kernel

/-- Hypotheses of LinkCommands. -/
theorem witness_link_commands :
    (let u := rest.arrive 0
     u.linkUp 0 = true ∧ u.dev.ready = true ∧ u.dev.st = .standby ∧ u.rd 0x2050 1 ≠ 4) ∧
    (let u := (put (inState .bivouac) [(0x580F, 1, 5)]).arrive 0
     u.dev.st = .bivouac ∧ u.linkState 15 = 5) ∧
    (let u := (put (inState .bivouac) [(0x580F, 1, 3)]).arrive 1000000000
     u.dev.st = .bivouac ∧ u.linkState 15 = 3 ∧ (u.link 15).lastCommand + 1000000000 ≤ u.now) ∧
    (let u := (put rest [(0x2050, 1, 4), (0x580F, 1, 3), (0x580F, 5, 1)]).arrive 0
     u.linkUp 15 = true ∧ u.dev.ready = true ∧ u.rd 0x2050 1 = 4 ∧ u.rd 0x580F 5 ≠ 0) ∧
    (((linked 3 (fun l => { l with locked := true })).arrive 0).link 15).locked = true ∧
    ((put rest [(0x2800 + 447, 1, 1)]).arrive 0).rd (0x2800 + (387 + 4 * 15)) 1 = 1 := by decide +kernel
/-! ## Chapters 12 and 13 -/

/-- A scanning device whose lamp group 0 is lit continuously by recipe 0. -/
def lit : State :=
  { put (withRecipe 0) [(0x4210, 1, 0), (0x4C00, 1, 1), (0x4C00, 4, 60000)] with
    dev := (inState .scanning).dev, can := { rest.can with lamp := true } }

/-- Lamp group 7 with thermistor 15 on it, at temperature `t`. -/
def heated (t : Int) (l : List (Nat × Nat × Int)) : State :=
  let s := put rest ([(0x4C17, 5, 2 ^ 15)] ++ l)
  { s with sh := { s.sh with th := vupd s.sh.th 15 (fun q => { q with usable := true, temp := t }) } }

/-- Hypotheses of LampStrings. -/
theorem witness_lamps :
    (let u := lit.arrive 0
     u.litSteady 0 = true ∧ (u.checkable 3).isSome = true ∧ u.rdN 0x4C43 1 = 0 ∧ u.groupOff 0 = false ∧ u.lamp.bulkLow = false) ∧
    (let u := (put rest [(0x4C17, 0xA, 3)]).arrive 0
     u.groupOff 7 = true ∧ u.rd 0x4C17 5 = 0) ∧
    (-200 < (850 : Int) ∧ (0 : Int) ≤ 1000 ∧ (-300 : Int) ≤ -200 ∧ (850 : Int) ≤ 900) ∧
    (let u := (heated 1360 []).arrive 0
     u.rd 0x4C17 5 ≠ 0 ∧ u.lampTemp 7 = some 1360 ∧ u.rd 0x4C17 9 ≤ 1360 ∧ u.groupOff 7 = false ∧ u.groupUsed 7 = true) ∧
    (let u := (heated 1359 []).arrive 0
     u.lampTemp 7 = some 1359 ∧ 1359 < u.rd 0x4C17 9) ∧
    (let w := (heated 1359 []).pass 0
     w.masterPresent 1 = true ∧ w.dev.ready = true ∧ w.lampTemp 7 = some 1359 ∧ w.rd 0x4C17 7 ≤ 1359) ∧
    (let w := (heated 0 [(0x4C17, 0xA, 4)]).pass 0
     w.lampTemp 7 = some 0 ∧ 0 < w.rd 0x4C17 7 ∧ w.groupOff 7 = true) ∧
    (rest.pass 0).groupOff 7 = false ∧ (rest.pass 0).powered = true ∧
    (let s : State := { lit with lamp := { lit.lamp with bulkLow := true } }
     (s.arrive 0).lamp.bulkLow = true ∧ (s.arrive 0).litSteady 0 = true ∧ (s.arrive 0).rdN 0x4C00 2 + 1000 < 80000) := by decide +kernel

/-- The strip in state `v`. -/
def strip (v : Int) (f : LanternSt → LanternSt) : State := (put rest [(0x4E00, 0xD, v)]).updLan f

/-- Hypotheses of LanternStrip. -/
theorem witness_strip :
    (8 = 8 ∧ 65535 ≤ 65535 ∧ 1000 ≤ 1000 ∧ (List.replicate 6 65535).length = 3 * 2) ∧
    (let u := (strip 2 (fun l => { l with errors := 1 })).pass 1000000000
     u.queuesRun = true ∧ u.dev.ready = true ∧ u.elapsed u.lan.frameAt (1000000000 / u.rdN 0x4E00 6) = true ∧ u.lanState = 2 ∧
       u.lan.skip = false ∧ 1 ≤ u.lan.errors ∧ u.masterPresent 1 = true ∧ u.lan.shown.all (· = 0) = true ∧ u.lan.probeAt + 250000000 ≤ u.now) ∧
    (let u := (strip 4 id).pass 250000000
     u.lanState = 4 ∧ u.lan.probeAt + 250000000 ≤ u.now) ∧
    (let u := (strip 5 id).pass 1000000000
     u.lanState = 5 ∧ u.lan.shortAt + 1000000000 ≤ u.now) ∧
    (∀ o ∈ [0, 4, 5], let u := (strip 1 (fun l => { l with origin := o })).pass 0
      u.lanState = 1 ∧ u.lan.origin = o ∧ 24576 = u.rdN 0x4E00 2 * (3 * u.wordBits) ∧ 24640 ≠ u.rdN 0x4E00 2 * (3 * u.wordBits)) ∧
    ((strip 3 id).pass 0).lanState ≠ 2 ∧
    ((strip 0 id).pass 0).locatePixel 1048575 = none ∧
    (let u := ({ put (strip 3 (fun l => { l with engines := vupd l.engines 3 (fun q => { q with run := 5 }) })) [(0x4E23, 0x15, 1)] with
        compassOff := 5 } : State).pass 0
     u.rd 0x4E23 0x15 ≠ 0 ∧ (u.engine 3).run ≠ 0 ∧ (u.engine 3).run ≤ u.tau 3) := by decide +kernel

/-- A device whose active recipe has a pitch of 300 dpi: output pixels before, in and beyond the range of engine 3. -/
def pitched : State :=
  { put rest [(0x4210, 1, 0), (0x4240, 1, 1), (0x4E23, 2, 1), (0x4E23, 3, 2)] with
    rcp := { rest.rcp with recipes := vupd rest.rcp.recipes 0 (fun _ => overlay (List.replicate 72 0) 12 (le 2 300)) } }

/-- Hypotheses of LanternStrip. -/
theorem witness_locate :
    (pitched.pass 0).masterPresent 1 = true ∧ (pitched.pass 0).dev.ready = true ∧
    (pitched.pass 0).locatePixel 0 = some 0 ∧ (pitched.pass 0).locatePixel 16 = some 1 ∧ (pitched.pass 0).locatePixel 32 = some 2 ∧
    (pitched.pass 0).locatePixel 48 = some 3 ∧ (pitched.pass 0).engRange 3 = (1, 2) := by decide +kernel
/-! ## Chapter 14 -/

/-- The auxiliary block in sequence mode `m`. -/
def auxiliary (m : Int) (f : AuxSt → AuxSt) : State := (put rest [(0x5000, 1, m)]).updAux f

/-- Hypotheses of AuxiliarySequence. -/
theorem witness_aux_sequence :
    (let u := (auxiliary 1 id).pass 0
     u.queuesRun = true ∧ u.passFree = true ∧ u.seqMode = 1 ∧ u.aux.latch = false ∧ u.aux.visit = none ∧ u.aux.urgent = [] ∧ u.aux.pass = none ∧
       u.masterPresent 1 = true ∧ u.dev.ready = true) ∧
    (let u := (auxiliary 2 (fun a => { a with latch := true })).pass 0
     u.passFree = true ∧ 2 ≤ u.seqMode ∧ u.aux.latch = true) ∧
    ((auxiliary 1 (fun a => { a with after := 5 })).pass 4).passFree = false ∧
    (let u := ({ auxiliary 3 id with compassOff := 10 ^ 10 } : State).pass 0
     u.queuesRun = true ∧ u.seqMode = 3 ∧ u.aux.multiple < u.fine / (u.rdN 0x5000 4 * 1000000)) ∧
    ((({ auxiliary 2 id with dev := { rest.dev with st := .bivouac } } : State).pass 0).queuesRun = false) ∧
    (let u := (put (auxiliary 1 id) [(0x5010 + 31, 1, 0)]).pass 0
     bit (2 ^ 31) 31 = true ∧ u.slotUsed 31 = true) ∧
    ((auxiliary 1 (fun a => { a with urgent := [(31, 0)] })).pass 0).aux.urgent = [(31, 0)] ∧
    ((auxiliary 1 (fun a => { a with pass := some ⟨[31], 0, 0, 0⟩ })).pass 0).aux.pass = some ⟨[31], 0, 0, 0⟩ ∧
    ((auxiliary 1 (fun a => { a with pass := some ⟨[], 0, 0, 0⟩ })).pass 0).aux.pass = some ⟨[], 0, 0, 0⟩ := by decide +kernel

/-- Hypotheses of AuxiliaryResults. -/
theorem witness_aux_results :
    (let v : Visit := { (default : Visit) with slot := 31 }
     let u := (put (auxiliary 1 (fun a => { a with visit := some v })) [(0x5010 + 31, 0xD, 1)]).pass 10000000000
     u.aux.visit = some v ∧ v.slot < 32 ∧ v.start + v.time ≤ u.now ∧ v.dark = false ∧ u.rd (0x5010 + v.slot) 0xD ≠ 0 ∧
       (u.slot v.slot).isOpen = false) ∧
    (let u := (auxiliary 1 (fun a => { a with slots := vupd a.slots 31 (fun q => { q with faulted := true }), blankOff := true, refaBad := true })).pass 0
     (u.slot 31).faulted = true ∧ (u.slot 31).retryAt ≤ u.now ∧ u.aux.blankOff = true ∧ u.aux.refaBad = true) ∧
    ((rest.pass 0).queuesRun = true ∧ (rest.pass 0).aux.blankOff = false ∧ (rest.pass 0).aux.refaBad = false) ∧
    (let s : State := { auxiliary 1 (fun a => { a with sleeping := [31] }) with dev := { rest.dev with st := .bivouac } }
     (s.pass 0).dev.st = .bivouac ∧ (s.pass 0).aux.sleeping = [31] ∧ ((inState .bivouac).pass 0).aux.sleeping = [] ∧
       ((inState .bivouac).pass 0).aux.period ≤ ((inState .bivouac).pass 0).now) ∧
    (let u := (put rest [(0x5103, 1, 1), (0x5103, 8, 1)]).pass 100000000000
     u.queuesRun = true ∧ u.rd 0x5103 1 = 1 ∧ u.rd 0x5103 8 = 1 ∧ (vget u.aux.outs 3).last + u.rdN 0x5103 0xA * 1000000 ≤ u.now) ∧
    (∀ f ∈ [0, 1, 2], ((put rest [(0x5103, 6, f)]).pass 0).rd 0x5103 6 = f) ∧
    (let u := (put rest [(0x5103, 8, 3)]).pass 0
     u.rd 0x5103 8 = 3 ∧ (vget u.aux.outs 3).retryAt ≤ u.now) ∧
    platinumTemp 1 = .value 0 ∧ platinumTemp 0 = .saturated (-200000) := by decide +kernel

/-- Hypotheses of AuxiliaryResults. A thermocouple voltage gives a value or the end of the range, whatever the table holds. -/
theorem witness_couple : ∃ v, coupleTemp 1 0 0 = .value v ∨ coupleTemp 1 0 0 = .saturated v := by
  unfold coupleTemp
  dsimp only
  split
  · exact ⟨_, .inr rfl⟩
  · split
    · exact ⟨_, .inr rfl⟩
    · exact ⟨_, .inl rfl⟩
/-! ## Chapter 15 -/

/-- Hypotheses of PowerOnAndOff. -/
theorem witness_power_on_off :
    ((booting .unpowered).pass 0).powered = false ∧ (rest.pass 0).powered = true ∧ (rest.pass 0).door.saving = none := by decide +kernel

/-- Hypotheses of WarmStarts and FirstMilliseconds. -/
theorem witness_starts :
    (let u := rest.pass 0
     u.pow.boot ≠ .unpowered ∧ u.pow.boot ≠ .filter ∧ u.pow.boot ≠ .rails ∧ u.pow.boot ≠ .haltRail) ∧
    ((booting .rails).pass 0).pow.boot = .rails ∧ ((booting .haltRail).pass 0).pow.boot = .haltRail ∧
    (let u := (booting .filter).pass 2000000
     u.pow.boot = .filter ∧ u.pow.begun + 2000000 ≤ u.now ∧ (0x8000#16).getLsbD (15 : Fin 16) = true ∧ ∀ k < 15, (0x8000#16).getLsbD k = false) ∧
    (∀ st ∈ [1, 5, 7], let u := ({ booting .rails with pow := { (booting .rails).pow with step := st, retryAt := some 0 } } : State).pass 0
      u.pow.step = st ∧ u.pow.step ≠ 0 ∧ u.pow.retryAt = some 0) ∧
    (let u := (put (booting .rails) [(0x5892, 1, 31)]).pass 12000000
     u.pow.boot = .rails ∧ u.pow.step = 0 ∧ u.rdN 0x5892 1 % 32 = 31 ∧ 12000000 ≤ u.timeline) ∧
    (((booting .core).pass 14000000).pow.boot = .core ∧ 14000000 ≤ ((booting .core).pass 14000000).timeline) ∧
    (((booting .ports).pass 20000000).pow.boot = .ports ∧ 20000000 ≤ ((booting .ports).pass 20000000).timeline) := by decide +kernel

/-- A start whose rail step `st` runs for the attempt `a`. -/
def railing (st a : Nat) : State := { booting .rails with pow := { (booting .rails).pow with step := st, attempt := a } }

/-- Hypotheses of RailFaults. -/
theorem witness_rail_faults :
    (let u := (railing 5 2).pass 0
     u.railDue (4 + 1) false = true ∧ u.pow.boot = .rails ∧ u.pow.attempt < 3 ∧ (∀ p ∈ u.ev.pres, p.src ≠ 675)) ∧
    (let u := (railing 1 3).pass 0
     u.railDue (0 + 1) false = true ∧ u.pow.boot = .rails ∧ 3 ≤ u.pow.attempt) ∧
    (rest.pass 0).railDue (6 + 1) true = true ∧ (rest.pass 0).dev.move ≠ .waking ∧
    (let s := moving .bivouac .waking .standby
     let u := ({ s with dev := { s.dev with held := some 1 } } : State).pass 0
     u.railDue (5 + 1) true = true ∧ u.dev.move = .waking ∧ u.dev.held = some 1) := by decide +kernel

/-- Hypotheses of BankAndReload and ReadyEndsTrailhead. -/
theorem witness_bank_and_reload :
    (let u := (booting .responder).pass 40000000
     u.pow.boot = .responder ∧ 40000000 ≤ u.timeline ∧ u.upd.trial = none ∧ u.pow.failed = 0) ∧
    (((booting .banked).pass 0).pow.boot = .banked ∧ ((booting .banked).pass 0).upd.failing = false ∧
      (1#5) &&& (2#5) = 0 ∧ (3#5) &&& (2#5) ≠ 0) ∧
    (((booting .loaded).pass 0).pow.boot = .loaded ∧ ((booting .loaded).pass 0).upd.failing = false) ∧
    (let s := booting .haltBank
     let u := ({ s with door := { s.door with ec := { s.door.ec with st := .boot } } } : State).pass 0
     u.pow.boot = .haltBank ∧ u.door.ec.st = .boot) ∧
    headerFormatBad [] = true := by decide +kernel

/-- The header of a full image of no content for the vendor `v`, without its last word. -/
def headerTail : List Byte :=
  le 4 0x6400 ++ le 4 0x20000 ++ List.replicate 24 0 ++ le 4 4096 ++ le 4 0 ++ List.replicate 4 0 ++ sha256 [] ++ sha256 [] ++ List.replicate 3972 0

def headerWords (v : Nat) : List Byte := le 4 0x4B455653 ++ le 2 1 ++ [1, 0] ++ (le 4 v ++ headerTail)

def imageHeader (v : Nat) : List Byte := headerWords v ++ le 4 (crc32 (headerWords v))

theorem headerTail_length : headerTail.length = 4080 := by decide +kernel

theorem headerWords_length (v : Nat) : (headerWords v).length = 4092 := by
  simp only [headerWords, List.length_append, le_length, headerTail_length]; rfl

/-- Before the vendor, and behind it. -/
theorem header_before (v o n : Nat) (h : o + n ≤ 8) :
    slice (imageHeader v) o n = slice (le 4 0x4B455653 ++ le 2 1 ++ [1, 0]) o n := by
  have e : (le 4 0x4B455653 ++ le 2 1 ++ [1, 0] : List Byte).length = 8 := rfl
  rw [imageHeader, slice_left _ _ _ _ (by rw [headerWords_length]; omega), headerWords, slice_left _ _ _ _ (by omega)]

theorem header_behind (v o n : Nat) (h : o + n ≤ 4080) : slice (imageHeader v) (12 + o) n = slice headerTail o n := by
  have e : (le 4 0x4B455653 ++ le 2 1 ++ [1, 0] : List Byte).length = 8 := rfl
  rw [imageHeader, slice_left _ _ _ _ (by rw [headerWords_length]; omega), headerWords,
    show 12 + o = (le 4 0x4B455653 ++ le 2 1 ++ [1, 0] : List Byte).length + ((le 4 v).length + o) by rw [e, le_length]; omega,
    slice_right, slice_right]

theorem header_vendor (v : Nat) (h : v < 2 ^ 32) : fieldAt (imageHeader v) 8 4 = v := by
  have e := slice_append (le 4 0x4B455653 ++ le 2 1 ++ [1, 0]) (le 4 v) (headerTail ++ le 4 (crc32 (headerWords v)))
  have l : (le 4 0x4B455653 ++ le 2 1 ++ [1, 0] : List Byte).length = 8 := rfl
  rw [l, le_length] at e
  have f : imageHeader v = le 4 0x4B455653 ++ le 2 1 ++ [1, 0] ++ le 4 v ++ (headerTail ++ le 4 (crc32 (headerWords v))) := by
    rw [imageHeader, headerWords]; simp only [List.append_assoc]
  rw [fieldAt, f, e, unle_le]
  exact Nat.mod_eq_of_lt h

theorem header_length (v : Nat) : (imageHeader v).length = 4096 := by
  rw [imageHeader, List.length_append, headerWords_length, le_length]

theorem header_format (v : Nat) : headerFormatBad (imageHeader v) = false := by
  have e4 : fieldAt (imageHeader v) 4092 4 = crc32 (headerWords v) := by
    have e := slice_append (headerWords v) (le 4 (crc32 (headerWords v))) []
    rw [List.append_nil, headerWords_length, le_length] at e
    rw [fieldAt, imageHeader, e, unle_le]
    exact Nat.mod_eq_of_lt (crc32_lt _)
  have e5 : (imageHeader v).take 4092 = headerWords v := by
    rw [imageHeader, List.take_left' (headerWords_length v)]
  have e20 : slice (imageHeader v) 20 4 = slice headerTail 8 4 := header_behind v 8 4 (by decide)
  have e216 : slice (imageHeader v) 216 3876 = slice headerTail 204 3876 := header_behind v 204 3876 (by decide)
  unfold headerFormatBad
  rw [e4, e5, header_length]
  unfold allZero fieldAt
  rw [e20, e216, header_before v 0 4 (by decide), header_before v 4 2 (by decide), header_before v 7 1 (by decide)]
  have h1 : (slice headerTail 8 4).all (· = 0) = true := by decide +kernel
  have h2 : (slice headerTail 204 3876).all (· = 0) = true := by decide +kernel
  rw [h1, h2]
  simp
  decide +kernel

/-- Hypotheses of BankAndReload. An image that Bootstrap accepts, whatever this device's vendor ID is. -/
theorem witness_bootstrap_image : ∃ bs : List Byte,
    headerFormatBad (bs.take 4096) = false ∧ fieldAt (bs.take 4096) 8 4 = Config.vendorId ∧ fieldAt (bs.take 4096) 12 4 = 0x6400 ∧
    fieldAt (bs.take 4096) 16 4 = 0x20000 ∧ bit (fieldAt (bs.take 4096) 7 1) 0 = false ∧ headerLimitsBad (bs.take 4096) = false ∧
    hKind (bs.take 4096) ≠ 2 ∧ hLength (bs.take 4096) = bs.length ∧ sha256 (bs.drop 4096) = slice (bs.take 4096) 88 32 ∧
    sha256 ((bs.drop 4096).take (hResult (bs.take 4096))) = hDigest (bs.take 4096) := by
  refine ⟨imageHeader Config.vendorId, ?_⟩
  rw [List.take_of_length_le (Nat.le_of_eq (header_length _)), List.drop_of_length_le (Nat.le_of_eq (header_length _)), header_length]
  unfold headerLimitsBad hKind hLength hResult hDigest fieldAt
  rw [header_before _ 6 1 (by decide), header_before _ 7 1 (by decide), header_behind _ 0 4 (by decide),
    header_behind _ 4 4 (by decide), header_behind _ 32 4 (by decide), header_behind _ 36 4 (by decide), header_behind _ 44 32 (by decide),
    header_behind _ 76 32 (by decide)]
  refine ⟨header_format _, header_vendor _ Config.vendorIdBits.isLt, ?_⟩
  decide +kernel

/-- Connection 15 in state `v`. -/
def conned (v : Int) : State := put rest [(0x58AF, 1, v)]

/-- Hypotheses of ConnectionAdmission. -/
theorem witness_connections :
    (∀ v ∈ [0, 1, 2, 3, 4, 5, 6], let u := (conned v).pass 2000000000
      u.connState 15 = v.toNat ∧ u.powered = true ∧ u.dev.ready = true ∧ (∀ k < 15, u.connState k ≠ 1) ∧
        u.pow.lastPen + u.rdN 0x5890 5 * 1000000 ≤ u.now ∧ (u.conn 15).since + 1000000000 ≤ u.now ∧ (u.conn 15).since + 10000000 ≤ u.now) ∧
    (let u := rest.pass 0
     499 * u.rdN 0x5890 1 < 12000000 ∧ 12000000 < 501 * u.rdN 0x5890 1 ∧ 12000000 * 5 < 626 * u.rdN 0x5890 1 * 4 ∧ 12000000 ≤ 500 * u.rdN 0x5890 1 ∧
       u.masterPresent 1 = true) := by decide +kernel

/-- Hypotheses of PowerInputs. -/
theorem witness_power_inputs :
    (let u := (put rest [(0x58A0, 1, 3), (0x58AF, 1, 1)]).pass 0
     u.connState 0 = 3 ∧ (∀ i : Fin 16, i ≠ 0 → u.connState i ≠ 3) ∧ (0x8000#16).getLsbD 15 = true ∧ u.connState 15 ≤ 1 ∧
       (∀ i < 15, i ≠ 0 → (0x8000#16).getLsbD i = false)) ∧
    (let u := (put rest [(0x58A0, 1, 3), (0x58AF, 1, 3)]).pass 0
     u.connState 0 = 3 ∧ u.connState 15 = 3) ∧
    ((rest.pass 0).powered = true ∧ (rest.pass 0).vaux = 0) ∧
    (let u := (put rest [(0x5891, 3, 3)]).pass 100000000
     u.vaux = 3 ∧ u.pow.vauxSince + 100000000 ≤ u.now ∧ u.dev.ready = true) := by decide +kernel
/-! ## Chapters 16 and 17 -/

/-- Hypotheses of CanteenTick. -/
theorem witness_canteen_tick :
    (let u := ({ rest with compassOff := 10 ^ 6 } : State).arrive 0
     u.dev.ready = true ∧ u.fine / 1000000 ≠ u.can.tickAt / 1000000) ∧
    (rest.arrive 0).fine / 1000000 = (rest.arrive 0).can.tickAt / 1000000 ∧
    (let t := ((put rest [(0x4C00, 5, 1)]).pass 0).readInputs 48000 []
     t.bankEnergy (t.rdN 0x4C00 4) < 2 ^ 32 ∧ t.rd 0x5A00 2 < t.reserve ∧ (rest.pass 0).can.reserveTold = false) ∧
    (let u := rest.pass 0
     (1760 : Int) ≤ 1760 ∧ u.rd 0x5A01 2 ≤ 1759 ∧ (1600 : Int) < 1760 ∧ 1519 < u.rd 0x5A01 1 ∧ 1519 < u.rd 0x5A01 2 ∧ u.boardAt = false ∧
       u.can.shutAt = none) := by decide +kernel

/-- Hypotheses of CanteenGrants. -/
theorem witness_canteen_grants :
    (List.replicate 10 1000).length = 10 ∧
    (let u := (put rest [(0x5A11, 10, 5)]).pass 0
     4 ≤ u.rdN 0x5A11 (9 + 1) ∧ u.rdN 0x5A11 (9 + 1) < 6 ∧ u.rdN 0x5A11 (9 + 1) < 7 ∧ vget u.can.riseFrom 9 = none) ∧
    (let u := ({ rest with can := { rest.can with riseFrom := vupd rest.can.riseFrom 9 (fun _ => some 0) } } : State).pass 100000000
     u.dev.ready = true ∧ vget u.can.riseFrom 9 = some 0 ∧ 0 + u.rdN 0x5A00 0xC * 1000000 ≤ u.now) ∧
    (let u := ({ put rest [(0x4C00, 4, 41000)] with can := { rest.can with lampAsked := true } } : State).pass 0
     u.can.lamp = false ∧ u.can.lampAsked = true ∧ u.dev.ready = true ∧ u.rd 0x5A01 6 < 3 ∧ u.bankReady = true) ∧
    (let v := ({ rest with can := { rest.can with lamp := true, floorTicks := 10 } } : State).arrive 0
     v.can.lamp = true ∧ 10 ≤ v.can.floorTicks ∧ v.paced = false ∧ v.live = false) ∧
    (let v := ({ put (inState .scanning) [(0x4800, 1, 1)] with can := { rest.can with lamp := true, shutAt := some 0 } } : State).arrive 0
     v.can.lamp = true ∧ v.can.shutAt ≠ none ∧ v.paced = true ∧ v.live = true) ∧
    ((inState .scanning).arrive 0).paced = false ∧
    (let u := ({ rest with can := { rest.can with overTicks := 10 } } : State).pass 0
     10 ≤ u.can.overTicks ∧ u.can.overTold = false) ∧
    (let u := rest.pass 0
     u.rdN 0x5A00 1 ≠ u.publishGrants.energyState) := by decide +kernel

/-- A device at rest with cluster 7's self-trim changed. -/
def trimming (f : TrimCluster → TrimCluster) (g : TrimSt → TrimSt) : State :=
  let t := { rest.trm with clusters := vupd rest.trm.clusters 7 f }
  { rest with trm := g t }

/-- Hypotheses of SelfTrim. -/
theorem witness_self_trim :
    (let u := rest.pass 0
     u.masterPresent 1 = true ∧ u.dev.ready = true ∧ u.trimRuns 7 = false ∧ (u.cluster 7).req = none ∧ bit 255 7 = true ∧ bit 1 7 = false) ∧
    (let u := (trimming (fun c => { c with req := some ⟨true, 0, 0⟩ }) id).pass 0
     (u.cluster 7).req = some ⟨true, 0, 0⟩ ∧ ∀ i < 7, (u.cluster i).req = none) ∧
    (let v := ({ trimming (fun c => { c with req := some ⟨true, 0, 0⟩ }) id with can := { rest.can with tickNow := 1 } } : State).arrive 0
     v.queuesRun = true ∧ v.dev.move ≠ .entering ∧ v.trm.running = none ∧ v.sh.capture = none ∧ v.rcp.measure = none ∧
       v.nextTrim = some (7, ⟨true, 0, 0⟩) ∧ v.afeCool 7 = true ∧ 0 < v.can.tickNow ∧ (∀ i < 8, (v.cluster i).endAt < v.can.tickNow)) ∧
    (let s := trimming (fun c => { c with req := some ⟨false, 0, 0⟩ }) id
     let v := ({ put s [(0x5A00, 2, 720)] with can := { rest.can with tickNow := 1 } } : State).arrive 0
     v.nextTrim = some (7, ⟨false, 0, 0⟩) ∧ v.quiet 7 = some none ∧ v.affords 720 = true ∧ 0 < v.can.tickNow) ∧
    (let s := trimming (fun c => { c with req := some ⟨false, 0, 0⟩ }) id
     let v := ({ put s [(0x5A30, 5, 0)] with can := { rest.can with tickNow := 1 } } : State).arrive 0
     v.nextTrim = some (7, ⟨false, 0, 0⟩) ∧ v.quiet 7 = none ∧ v.queuesRun = true ∧ v.afeCool 7 = true ∧ v.trm.running = none) ∧
    (let x : Trimming := ⟨7, 0, false, 0, none⟩
     let v := (trimming (fun c => { c with reads := [5] }) (fun t => { t with running := some x, abandon := true })).arrive 0
     v.trm.running = some x ∧ (v.cluster 7).req = none ∧ (∀ i ∈ v.trimmed 7, (0#8).getLsbD i = false) ∧
       (∃ i ∈ v.trimmed 7, (128#8).getLsbD i = true) ∧ v.clusterTemp 7 = some 5 ∧ v.trm.abandon = true) ∧
    (let u := (trimming (fun c => { c with result := 2, write := some 9 }) id).pass 0
     u.rd 0x2400 1 = 1 ∧ (u.cluster 7).result = 2 ∧ (u.cluster 7).req = none ∧ u.trimRuns 7 = false ∧ (u.cluster 7).retryAt ≤ u.now ∧
       (u.cluster 7).write = some 9 ∧ u.journalActive = false ∧ (u.cluster 7).newest = none) ∧
    ((trimming (fun c => { c with recs := vupd c.recs 1 (fun _ => some ⟨4, 7⟩) }) id).pass 0 |>.cluster 7).newest = some (1, ⟨4, 7⟩) := by
  decide +kernel

/-! ## Chapter 18 -/

/-- A device at rest whose session is in state `v`. -/
def updating (v : Int) (f : UpdateSt → UpdateSt) : State := (put rest [(0x2200, 1, v), (0x2200, 2, 1)]).updUpd f

/-- Window 3 open for master 1 on the staging domain, at offset `o`. -/
def staging (s : State) (o : Int) : State :=
  put s [(0x2023, 1, 0x2201 * 2 ^ 16), (0x2023, 2, o), (0x2023, 4, 2), (0x2023, 5, 1), (0x2023, 6, 1)]

/-- Hypotheses of AbortUpdate and UpdateDelivery. -/
theorem witness_sessions :
    (∀ v ∈ [0, 1, 2, 3, 4, 5, 6, 7, 8, 9], ((updating v id).pass 0).session = v.toNat) ∧
    (let u := (staging (updating 0 id) 0).pass 0
     u.masterPresent 1 = true ∧ u.dev.ready = true ∧ u.winOpen 3 = true ∧ u.winOwner 3 = 1 ∧ u.winMode 3 = 2 ∧ u.winTarget 3 = 0x2201 ∧
       u.winOffset 3 = 0 ∧ u.headerResult 1 (List.replicate 4096 0) = 2 ∧ (List.replicate 4096 (0 : Byte)).length = 4096) ∧
    (accessCode 1 4096 4096 = 0 ∧ accessCode 1 0 4096 = 0 ∧ 0 + 4096 ≠ 0 ∧ (0 + 4096) % 4096 = 0) ∧
    (let u := (put (staging (updating 1 id) 0) [(0x2200, 7, 4096), (0x2200, 8, 8192)]).pass 0
     u.session = 1 ∧ u.rdN 0x2200 2 = 1 ∧ u.rdN 0x2200 2 ≠ 2 ∧ u.upd.wait = [] ∧ 0 + 4096 = u.rdN 0x2200 7 ∧ 0 + 4096 < u.rdN 0x2200 8 ∧
       u.bufferFull = false ∧ u.rdN 0x2200 7 < 8192) ∧
    (let u := (put (staging (updating 1 id) 4194304) [(0x2200, 7, 4194304), (0x2200, 8, 8388608)]).pass 0
     u.winOffset 3 + 0 = u.rdN 0x2200 7 ∧ u.winOffset 3 + 0 < u.rdN 0x2200 8 ∧ u.bufferFull = true ∧ u.winOffset 3 + 0 ≠ 0) ∧
    (let u := (put (updating 1 id) [(0x2200, 7, 4096), (0x2200, 8, 4096)]).pass 30000000000
     u.session = 1 ∧ min (u.upd.journaled + 65536) (u.rdN 0x2200 8) ≤ u.rdN 0x2200 7 ∧ u.upd.wait = [] ∧
       u.rdN 0x2200 8 ≤ u.upd.journaled + 65536 ∧ u.upd.last + 30000000000 ≤ u.now) := by decide +kernel

/-- Hypotheses of UpdateDelivery. What block 0 can be to a session, whatever this device's vendor ID is: the same image again, a new one, and the staged one. -/
theorem witness_block_zero :
    let h := imageHeader Config.vendorId
    let has := fun (u : UpdateSt) => { u with banks := vupd u.banks 0 (fun b => { b with content := some ([], []) }), header := h }
    h.length = 4096 ∧ ((updating 0 has).pass 0).headerResult 1 h = 1 ∧ h ≠ [] ∧ ((updating 1 has).pass 0).headerResult 1 h = 1 ∧
      ((updating 1 has).pass 0).upd.header = h ∧ ((updating 5 has).pass 0).headerResult 1 h = 8 := by
  intro h has
  have hv : fieldAt h 8 4 = Config.vendorId := header_vendor _ Config.vendorIdBits.isLt
  have hm : fieldAt h 12 4 = 0x6400 := by unfold fieldAt; rw [header_behind _ 0 4 (by decide)]; decide +kernel
  have hb : fieldAt h 16 4 = 0x20000 := by unfold fieldAt; rw [header_behind _ 4 4 (by decide)]; decide +kernel
  have hu : bit (fieldAt h 7 1) 0 = false := by unfold fieldAt; rw [header_before _ 7 1 (by decide)]; decide +kernel
  have hl : headerLimitsBad h = false := by
    unfold headerLimitsBad hKind hLength hResult fieldAt
    rw [header_before _ 6 1 (by decide), header_behind _ 32 4 (by decide), header_behind _ 36 4 (by decide)]; decide +kernel
  have hk : hKind h = 1 := by unfold hKind fieldAt; rw [header_before _ 6 1 (by decide)]; decide +kernel
  have hd : hDigest h = sha256 [] := by unfold hDigest; rw [header_behind _ 44 32 (by decide)]; decide +kernel
  have hn : h ≠ [] := fun e => by have := congrArg List.length e; rw [header_length] at this; exact absurd this (by decide)
  have ht : ∀ v : Int, (((updating v has).pass 0).fw ((updating v has).pass 0).pow.bank).digest = [] := fun v => rfl
  have ht' : ∀ v : Int, (((updating v has).pass 0).fw (updating v has).pow.bank).digest = [] := fun v => rfl
  have hf : headerFormatBad h = false := header_format _
  have he : ∀ v : Int, ((updating v has).pass 0).upd.header = h := fun v => rfl
  have he' : ∀ v : Int, (updating v has).upd.header = h := fun v => rfl
  have hs : sha256 [] ≠ [] := by decide +kernel
  have s0 : ((updating 0 has).pass 0).session = 0 := by decide +kernel
  have s1 : ((updating 1 has).pass 0).session = 1 ∧ ((updating 1 has).pass 0).rdN 0x2200 2 = 1 := by decide +kernel
  have s5 : ((updating 5 has).pass 0).session = 5 := by decide +kernel
  refine ⟨header_length _, ?_, hn, ?_, rfl, ?_⟩ <;> unfold State.headerResult <;>
    simp [hf, hv, hm, hb, hu, hl, hk, hd, ht, ht', he, he', hs, s0, s1, s5]

/-- A session whose image is the header above with no content, its digest or the image's wrong or right. -/
def imaged (v : Int) (h : List Byte) : State := updating v (fun u => { u with header := h })

/-- Hypotheses of UpdateDelivery. -/
theorem witness_apply_and_verify :
    (let u := (imaged 3 []).pass 0
     u.session = 3 ∧ u.bodyGood = false) ∧
    (let u := (imaged 3 (imageHeader 0)).pass 0
     u.bodyGood = true ∧ u.deltaResult = some []) ∧
    (let u := (imaged 3 (overlay (imageHeader 0) 52 [1])).pass 0
     u.bodyGood = true ∧ u.deltaResult = none) ∧
    (let u := (imaged 4 (imageHeader 0)).pass 0
     u.session = 4 ∧ u.bodyGood = true ∧ (u.fullContent.fw u.otherBank).digest = hDigest u.upd.header) ∧
    (let u := (imaged 4 (overlay (imageHeader 0) 56 [1])).pass 0
     u.bodyGood = true ∧ (u.fullContent.fw u.otherBank).digest ≠ hDigest u.upd.header) := by decide +kernel

/-- Hypotheses of ActivationAndMigration. -/
theorem witness_activation :
    (let u := (put (updating 5 id) [(0x2202, 1, 9)]).pass 0
     u.masterPresent 1 = true ∧ u.dev.ready = true ∧ u.session = 5 ∧ u.rd 0x2202 1 ≠ 0 ∧ u.casbyState ≠ 4 ∧ u.casbyState ≠ 5 ∧
       (∀ b < 2, (u.fw b).code ≠ 6)) ∧
    ((updating 5 id).pass 0).rd 0x2202 1 = 0 ∧ ((ringing 5 id).pass 0).casbyState = 5 ∧
    (let u := (updating 9 (fun x => { x with banks := vupd x.banks 1 (fun b => { b with code := 6 }) })).pass 0
     (u.fw 1).code = 6 ∧ (u.fw 0).code ≠ 6 ∧ u.session = 9) ∧
    (let v := (put (updating 6 id) [(0x2202, 5, 0)]).arrive 0
     v.upd.leaving = false ∧ v.session = 6 ∧ v.upd.at_ ≤ v.fine ∧ v.idleNow = false) ∧
    (let v := (updating 6 id).arrive 0
     bit (v.rdN 0x2202 5) 0 = true ∧ v.restIdle = true) ∧
    (let s := updating 7 id
     let v := ({ put s [(0x2202, 5, 4)] with dev := (inState .scanning).dev } : State).arrive 0
     v.session = 7 ∧ v.restIdle = false ∧ v.liveIdle = true) ∧
    (let v := (put (updating 7 id) [(0x2202, 5, 0), (0x2202, 6, 3)]).arrive 3000000000
     v.session = 7 ∧ v.idleNow = false ∧ v.rd 0x2202 6 ≠ 0 ∧ v.upd.since + v.rdN 0x2202 6 * 1000000000 ≤ v.now) ∧
    (let u := (updating 8 id).pass 0
     u.session = 8 ∧ u.dev.ready = true ∧ u.upd.accept = none ∧ u.pow.bank ≤ 1) ∧
    (let s := booting .banked
     let u := (s.updUpd (fun x => { x with failing := true })).pass 0
     u.upd.failing = true ∧ u.pow.boot = .banked ∧ u.pow.bank ≤ 1) := by decide +kernel
/-! ## Chapter 19 -/

/-- One event presented, and nothing else waiting. -/
def presented (l : List (Nat × Nat × Int)) : State := { put rest l with ev := { rest.ev with pres := [⟨1023, .narrow 5⟩] } }

/-- Hypotheses of RaisingASource. -/
theorem witness_raises : (∀ p ∈ rest.ev.pres, p.src ≠ 1023) ∧ (1023 : Nat) < 1024 := by decide +kernel

/-- Hypotheses of ArbiterCycle. -/
theorem witness_arbiter :
    (presented []).Sound ∧
    ((presented []).powered = true ∧ (presented []).ev.pres = [⟨1023, .narrow 5⟩] ∧ (presented []).rd (0x2800 + 1023) 2 = 1 ∧
      (presented []).rd (0x2800 + 1023) 1 ≠ 1) ∧
    ((presented [(0x2BFF, 1, 1), (0x2BFF, 7, 1)]).rd (0x2800 + 1023) 1 = 1 ∧ (presented [(0x2BFF, 1, 1), (0x2BFF, 7, 1)]).rd (0x2800 + 1023) 7 = 1) ∧
    (presented [(0x2BFF, 2, 0)]).rd (0x2800 + 1023) 2 ≠ 1 ∧
    ((presented [(0x2BFF, 1, 1), (0x2BFF, 7, 0)]).rd (0x2800 + 1023) 1 = 1 ∧ (presented [(0x2BFF, 1, 1), (0x2BFF, 7, 0)]).rd (0x2800 + 1023) 7 ≠ 1) := by
  decide +kernel

/-- Hypotheses of EmergencyArchivePulse. -/
theorem witness_emergency_archive_pulse :
    (rest.masterPresent 0 = true ∧ ({ rest.ev with emergencies := [(default, 0)] } : EventSt).emergencies = [(default, 0)]) ∧
    (let r : LogRec := { (default : LogRec) with seq := 9 }
     let s : State := { rest with ev := { rest.ev with log := [r], unarchived := [9] } }
     s.queuesRun = true ∧ s.ev.unarchived = [9] ∧ s.ev.log.find? (fun e => e.seq = 9) = some r) ∧
    (let s : State := { rest with ev := { rest.ev with pulse := vupd rest.ev.pulse 15 (fun _ => some 10000000) } }
     s.ev.pulse[15] = some 10000000 ∧ 10000000 ≤ s.now + 10000000) := by decide +kernel

/-- Hypotheses of EventWrites. -/
theorem witness_event_writes :
    rest.masterPresent 16 = false ∧ rest.masterPresent 1 = true ∧ rest.dev.ready = true ∧ 1 ≤ 15 ∧ 991 < 1024 ∧ 65535 < 2 ^ 16 := by decide +kernel

/-- Hypotheses of TimingOutputShort. -/
theorem witness_output_shorts :
    rest.groupRuns 0 = true ∧ (inState .scanning).groupRuns 0 = true ∧
    (let s := put rest [(0x5C20, 16, 1)]
     s.rd 0x5C20 (15 + 1) ≠ 0 ∧ (s.group 15).retryAt ≤ s.now + 0) ∧
    (let s := put rest [(0x5C20, 16, 2), (0x2800 + 935, 1, 1)]
     s.rd 0x5C20 (15 + 1) ≠ 0 ∧ s.rd (0x2800 + (920 + 15)) 1 = 1) := by decide +kernel
/-! ## Worked examples of the spec -/

/-- The example under R102: code 10,089 with F = +2.5 LSB is the word 0x9D9A; the raw black 258.5 is left to the loop's mean. -/
theorem test_adc_word : rest.word 21 40 10089 = 0x9D9A ∧ blackMean [258, 259] 40 = 256 * 16 := by decide +kernel

/-- The example under R116, with its temperature term and at T_ref. -/
theorem test_lane :
    laneMult (-1573) (some 52) 4915 = 5008422 ∧ laneClamp (laneY 0x9D9A 1030 15604 5008422) = 0xAEA8 ∧
    laneMult (-1573) (some 0) 4915 = 5032960 ∧ laneClamp (laneY 0x9D9A 1030 15604 5032960) = 44931 := by decide +kernel

/-- The examples under R133 and R153: a gain and a plane scale. -/
theorem test_gain_and_scale : blendGain 50000 52500 = 15604 ∧ scaleFor 60000 50000 = 4915 := by decide +kernel

/-- R250: four 10-bit values in five bytes. -/
theorem test_packing : packBits 10 [0x3FF, 0x001, 0x200, 0x155] = [0xFF, 0x07, 0x00, 0x60, 0x55] := by decide +kernel

/-- The example under R52: 0x2000:05 is no wide entry's word, and Compass has its two. -/
theorem test_addresses : wideAddress 0x40800014 0 = false ∧ wideAddress 0x45000030 0 = true ∧ wideAddress 0x45000034 4 = true := by decide +kernel

/-- The example under R378, configuration L inline, with 15, 14 and 13 connections left: the lamps' grants. -/
theorem test_grants :
    let s (n : Nat) : State := { put rest ((List.range n).map (fun i => (0x58A0 + i, 1, (3 : Int)))) with
      aux := { rest.aux with lastEnergy := 985200000000, lastUs := 24630 } }
    let res (path : Nat) : List Nat := [4000, path, 0, 139464, 0, 0, 7341, 60, 40, 8000]
    (((s 15).plan (res 10327) false).grants = res 10327) ∧
    (((s 14).plan (res 10156) false).grants = [4000, 10156, 0, 139464, 0, 0, 145442 - 139464, 0, 2, 0]) ∧
    (((s 13).plan (res 9986) false).grants = [4000, 9986, 0, 134212, 0, 0, 0, 0, 2, 0]) := by decide +kernel

/-- R373: with the default bank A_max is 704,000 µJ and the reserve a quarter of it. -/
theorem test_bank_energy : rest.bankEnergy 48000 = 704000 ∧ rest.bankEnergy 48000 * rest.rdN 0x5A00 7 / 1000 = 176000 := by decide +kernel

/-- The examples under R238 and R277: 6,144 bytes of pixels take 25 blocks, and CL3's portion of the line begins at pixel 12,288. -/
theorem test_blocks_and_portion : blocksFor 6144 = 25 ∧ portion 32768 8 3 = (12288, 12288 + 4096) := by decide +kernel

/-- The example under R88: L_g is 568 with A = 512 and B = 32. -/
theorem test_line_length : rest.lineLen 21 = 568 := by decide +kernel

/-- The example under R320: a strip of 512 pixels with 16-bit words takes 24,576 bits a frame. -/
theorem test_frame_bits : (frameBits 16 (List.replicate 1536 0)).length = 24576 := by decide +kernel

end Sys2Proof.Tests
end

section
/-! ## 64-bit entries over CoaXPress (O13) -/

namespace Sys2Proof.Machine

/-- R52: the words of a 64-bit entry stand at its address and four bytes on, the high half at the second. -/
theorem addressed_wideAddr_add {idx sub o : Nat} (hi : idx < 2 ^ 16) (hs : sub < 2 ^ 8) (ho : o = 0 ∨ o = 4) :
    addressed (wideAddr idx sub + o) = .wide idx sub (o = 4) := by
  have haddr : wideAddr idx sub + o = 0x44000000 + (idx * 0x800 + sub * 8 + o) := by unfold wideAddr; omega
  have hidx : (idx * 0x800 + sub * 8 + o) / 0x800 = idx := by omega
  have hsub : (idx * 0x800 + sub * 8 + o) % 0x800 / 8 = sub := by omega
  have hhalf : (idx * 0x800 + sub * 8 + o) % 8 = o := by omega
  rw [haddr, addressed, if_neg (by omega), if_neg (by omega), if_neg (by omega), if_neg (by omega), if_pos (by omega)]
  simp only [Nat.add_sub_cancel_left, hidx, hsub, hhalf]

theorem addressed_wideAddr {idx sub : Nat} (hi : idx < 2 ^ 16) (hs : sub < 2 ^ 8) :
    addressed (wideAddr idx sub) = .wide idx sub false :=
  addressed_wideAddr_add hi hs (.inl rfl)

theorem addressed_wideAddr_high {idx sub : Nat} (hi : idx < 2 ^ 16) (hs : sub < 2 ^ 8) :
    addressed (wideAddr idx sub + 4) = .wide idx sub true :=
  addressed_wideAddr_add hi hs (.inr rfl)

/-- A two-half access at an address of its own half acts on that entry, in the state of arrival. -/
theorem wideAccess_of_addressed {addr idx sub : Nat} {high : Bool} (h : addressed addr = .wide idx sub high) (dt l : Nat) (s : State)
    (act : Nat → Nat → State → State) : wideAccess dt l addr high s act = .next (act idx sub (s.arrive dt)) := by
  simp [wideAccess, h, State.arrive]

section
variable (s : State) (dt : Nat) (l : Fin 16) {idx sub : Nat} (hi : idx < 2 ^ 16) (hs : sub < 2 ^ 8)
include hi hs

theorem exec_wideLowWordRead :
    exec (.wideLowWordRead dt l (wideAddr idx sub)) s = .next ((s.arrive dt).wideRead (l + 1) idx sub false) :=
  wideAccess_of_addressed (addressed_wideAddr hi hs) dt l s (fun i j t => t.wideRead (l + 1) i j false)

theorem exec_wideHighWordRead :
    exec (.wideHighWordRead dt l (wideAddr idx sub + 4)) s = .next ((s.arrive dt).wideRead (l + 1) idx sub true) :=
  wideAccess_of_addressed (addressed_wideAddr_high hi hs) dt l s (fun i j t => t.wideRead (l + 1) i j true)

theorem exec_wideLowWordWrite (w : BitVec 32) :
    exec (.wideLowWordWrite dt l (wideAddr idx sub) w) s = .next ((s.arrive dt).wideLow (l + 1) idx sub w.toNat) :=
  wideAccess_of_addressed (addressed_wideAddr hi hs) dt l s (fun i j t => t.wideLow (l + 1) i j w.toNat)

theorem exec_wideHighWordWrite (w : BitVec 32) :
    exec (.wideHighWordWrite dt l (wideAddr idx sub + 4) w) s = .next ((s.arrive dt).wideHigh (l + 1) idx sub w.toNat) :=
  wideAccess_of_addressed (addressed_wideAddr_high hi hs) dt l s (fun i j t => t.wideHigh (l + 1) i j w.toNat)

end

/-- An entry of 64 bits stands in the tables with a type of 64 bits. -/
theorem lookup_of_isWide {idx sub : Nat} (h : isWide idx sub = true) : ∃ e, lookup idx sub = some e ∧ e.row.ty.bits = 64 := by
  unfold isWide at h
  split at h
  · next e he => exact ⟨e, he, by simpa using h⟩
  · cases h

section
variable {s : State} {m idx sub : Nat} (hw : isWide idx sub = true) (hm : s.masterPresent m = true) (hr : s.dev.ready = true)
include hw hm hr

/-- R54: a read of the low word latches the live value in the master's shadow and returns its low half. -/
theorem State.wideRead_low (ha : ∀ e, lookup idx sub = some e → e.row.acc ≠ .wo) :
    s.wideRead m idx sub false = (s.updMaster m (fun q => { q with shadow := some (key idx sub, (s.get idx sub % 2 ^ 64).toNat) })).answer
      m idx sub 0 [((s.get idx sub % 2 ^ 64).toNat % 2 ^ 32 : Nat)] := by
  obtain ⟨e, he, hb⟩ := lookup_of_isWide hw
  simp [State.wideRead, hm, hr, he, hb, ha e he]

/-- R54: a read of the high word is served from the shadow while it holds that entry. -/
theorem State.wideRead_high_shadowed (ha : ∀ e, lookup idx sub = some e → e.row.acc ≠ .wo) {x : Nat}
    (hx : (s.master m).shadow = some (key idx sub, x)) :
    s.wideRead m idx sub true = s.answer m idx sub 0 [(x / 2 ^ 32 : Nat)] := by
  obtain ⟨e, he, hb⟩ := lookup_of_isWide hw
  simp [State.wideRead, hm, hr, he, hb, ha e he, hx]

/-- R54: without the entry in the shadow a read of the high word returns the live high half. -/
theorem State.wideRead_high_live (ha : ∀ e, lookup idx sub = some e → e.row.acc ≠ .wo)
    (hx : ∀ k x, (s.master m).shadow = some (k, x) → k ≠ key idx sub) :
    s.wideRead m idx sub true = s.answer m idx sub 0 [((s.get idx sub % 2 ^ 64).toNat / 2 ^ 32 : Nat)] := by
  obtain ⟨e, he, hb⟩ := lookup_of_isWide hw
  cases hsh : (s.master m).shadow with
  | none => simp [State.wideRead, hm, hr, he, hb, ha e he, hsh]
  | some p =>
    have hk : p.1 ≠ key idx sub := hx p.1 p.2 hsh
    simp [State.wideRead, hm, hr, he, hb, ha e he, hsh, hk]

/-- R55: a low word for a writable entry waits in the master's write buffer. -/
theorem State.wideLow_buffered (w : Nat) (hc : s.rowRefusal idx sub ≠ 3) :
    s.wideLow m idx sub w = (s.updMaster m (fun q => { q with wbuf := some (key idx sub, w) })).answer m idx sub 0 := by
  simp [State.wideLow, hm, hr, hw, hc]

/-- R55: the high word of the entry whose low word waits commits both as one write, the buffer empty. -/
theorem State.wideHigh_commits (w : Nat) {low : Nat} (hb : (s.master m).wbuf = some (key idx sub, low)) :
    s.wideHigh m idx sub w =
      (s.updMaster m (fun q => { q with wbuf := none })).writeEntry m idx sub (rawValue (tyAt idx sub) (w * 2 ^ 32 + low)) := by
  simp [State.wideHigh, hm, hr, hw, hb]

/-- R55: a high word without its own low word waiting is answered with code 9 and empties the buffer. -/
theorem State.wideHigh_unmatched (w : Nat) (hb : ∀ k x, (s.master m).wbuf = some (k, x) → k ≠ key idx sub) :
    s.wideHigh m idx sub w = (s.updMaster m (fun q => { q with wbuf := none })).answer m idx sub 9 := by
  cases hbuf : (s.master m).wbuf with
  | none => simp [State.wideHigh, hm, hr, hw, hbuf]
  | some p =>
    have hk : p.1 ≠ key idx sub := hb p.1 p.2 hbuf
    simp [State.wideHigh, hm, hr, hw, hbuf, hk]

end

/-- A write of any object but 0x2000 is a grant with that entry's limits and operation. -/
theorem State.writeEntry_eq_grant (s : State) (m : Nat) {idx : Nat} (sub : Nat) (v : Int) (h : idx ≠ 0x2000) :
    s.writeEntry m idx sub v = s.grant m idx sub v (depOf idx sub) (opOf m idx sub) :=
  if_neg (fun e => h e.1)

end Sys2Proof.Machine

namespace Sys2Proof
open Machine

/-- Settles O13: each command's address names its entry and half, and each half's access is one of the cases of R54 and R55. -/
theorem wideEntries : Obligations.WideEntries := by
  intro s dt l idx sub u hi hs hw hm hr
  refine ⟨fun ha => ⟨?lowRead, fun x hx => ?shadowed, fun hx => ?live⟩, fun w hc => ?lowWrite, fun w low hb h2000 => ?commit,
    fun w hb => ?unmatched⟩
  case lowRead => rw [exec_wideLowWordRead s dt l hi hs, State.wideRead_low hw hm hr ha]
  case shadowed => rw [exec_wideHighWordRead s dt l hi hs, State.wideRead_high_shadowed hw hm hr ha hx]
  case live => rw [exec_wideHighWordRead s dt l hi hs, State.wideRead_high_live hw hm hr ha hx]
  case lowWrite => rw [exec_wideLowWordWrite s dt l hi hs, State.wideLow_buffered hw hm hr w.toNat hc]
  case commit =>
    rw [exec_wideHighWordWrite s dt l hi hs, State.wideHigh_commits hw hm hr w.toNat hb, State.writeEntry_eq_grant _ _ _ _ h2000]
  case unmatched => rw [exec_wideHighWordWrite s dt l hi hs, State.wideHigh_unmatched hw hm hr w.toNat hb]

end Sys2Proof
end

section
/-! ## The SM2 watchdog (O18) -/

namespace Sys2Proof.Machine

/-- Triggers whose execution time has come leave the dictionary's doors alone. -/
theorem State.arrive_door (s : State) (dt : Nat) : (s.arrive dt).door = s.door :=
  (State.settleAhead_keeps (pt := .door) (s0 := s.pass dt) (.refl _ _) rfl).same

/-- R43: from Op down to Safe-Op only the slave's own part changes; values that wait for SYNC0 are dropped. -/
theorem State.toEc_safeOp_of_op {s : State} (h : s.door.ec.st = .op) :
    s.toEc .safeOp = s.updEc (fun e => { e with st := .safeOp, al := 0, committed := none }) := by
  simp [State.toEc, h]

/-! ### The expiry -/

/-- R50: what becomes of a slave in Op whose watchdog has expired. -/
def State.watchdogExpired (s : State) : State :=
  (s.updEc (fun e => { e with st := .safeOp, al := 0x001B, committed := none })).raise1 838 0

theorem exec_pdoWatchdogExpiry_of_op {s : State} {dt : Nat} (h : (s.arrive dt).door.ec.st = .op) :
    exec (.pdoWatchdogExpiry dt) s = .next (s.arrive dt).watchdogExpired := by
  show execPdoWatchdogExpiry dt s = _
  rw [execPdoWatchdogExpiry, timed_due (by simpa using h), State.toEc_safeOp_of_op h]
  rfl

section
variable (s : State)

@[simp] theorem State.watchdogExpired_ec :
    s.watchdogExpired.door.ec = { s.door.ec with st := .safeOp, al := 0x001B, committed := none } := by
  rw [State.watchdogExpired, State.raise1_door]; rfl

/-- R50: only EV0838's own entries change. -/
theorem State.watchdogExpired_rd {i j : Nat} (hj : j < 256) (hi : i ≠ 0x2800 + 838) : s.watchdogExpired.rd i j = s.rd i j :=
  (s.updEc _).rd_raise 838 _ hj (fun e => hi e.1)

theorem State.watchdogExpired_presents : ∃ p ∈ s.watchdogExpired.ev.pres, p.src = 838 := by
  rw [State.watchdogExpired, State.raise1, State.raise_pres]
  exact present_src

@[simp] theorem State.watchdogExpired_rcp : s.watchdogExpired.rcp = s.rcp := by simp [State.watchdogExpired]
@[simp] theorem State.watchdogExpired_dev : s.watchdogExpired.dev = s.dev := by simp [State.watchdogExpired]
@[simp] theorem State.watchdogExpired_tim : s.watchdogExpired.tim = s.tim := by simp [State.watchdogExpired]
@[simp] theorem State.watchdogExpired_que : s.watchdogExpired.que = s.que := by simp [State.watchdogExpired]

end

/-! ### A frame in Safe-Op -/

/-- R48, R49: the three values of a frame stand in 0x2030, the speed clamped. -/
def State.commitRx (s : State) (pos speed : BitVec 32) (job : BitVec 16) : State :=
  let r := s.commitSpeed speed.toInt
  ((r.1.wr 0x2030 1 pos.toNat).wr 0x2030 2 r.2).wr 0x2030 3 job.toNat

/-- The TxPDO latched where the input sync mode latches it with the frame (R49). -/
def State.latchedAtFrame (s : State) : State := if s.door.ec.inSync = 0 then s.latchTx else s

section
variable {pt : Part} {s0 s : State} (h : Keeps pt s0 s)
include h

theorem State.commitRx_keeps (hp : Off pt 0x34) (pos speed : BitVec 32) (job : BitVec 16) :
    Keeps pt s0 (s.commitRx pos speed job) := by
  have hd : Off pt 0x4 := hp.sub rfl
  exact (((State.commitSpeed_keeps h hp _).wr hd _ _ _).wr hd _ _ _).wr hd _ _ _

theorem State.latchedAtFrame_keeps (hp : Off pt 0x4) : Keeps pt s0 s.latchedAtFrame :=
  .ite (State.latchTx_keeps h hp) h

end

/-- R49: in Safe-Op a frame's values are committed to 0x2030 and nothing acts on them. -/
theorem exec_rxpdoCommit_of_safeOp {s : State} {dt : Nat} (h : (s.arrive dt).door.ec.st = .safeOp) (pos speed : BitVec 32)
    (job : BitVec 16) :
    exec (.rxpdoCommit dt true pos speed job) s = .next ((s.arrive dt).latchedAtFrame.commitRx pos speed job) := by
  have hec : ((s.arrive dt).latchedAtFrame.commitRx pos speed job).door.ec = (s.arrive dt).door.ec :=
    (State.commitRx_keeps (State.latchedAtFrame_keeps (.refl .ec _) rfl) rfl pos speed job).same
  have hst : ((s.arrive dt).latchedAtFrame.commitRx pos speed job).door.ec.st ≠ .op := by simp [hec, h]
  show execRxpdoCommit dt true pos speed job s = _
  rw [execRxpdoCommit, timed_due (by simp [h])]
  exact congrArg _ (if_pos hst)

/-- R50, R155: a frame in Safe-Op leaves the recipes alone: its job number is no switch-line source. -/
theorem rcp_of_rxpdoCommit_safeOp {s r : State} {dt : Nat} (h : s.door.ec.st = .safeOp) {pos speed : BitVec 32} {job : BitVec 16}
    (hr : exec (.rxpdoCommit dt true pos speed job) s = .next r) : r.rcp = (s.arrive dt).rcp := by
  rw [exec_rxpdoCommit_of_safeOp (by rw [State.arrive_door, h])] at hr
  cases hr
  exact (State.commitRx_keeps (State.latchedAtFrame_keeps (.refl .rcp _) rfl) rfl pos speed job).same

end Sys2Proof.Machine

namespace Sys2Proof
open Machine

/-- Settles O18: the expiry changes the slave's part and raises EV0838, and a later frame finds the slave in Safe-Op. -/
theorem processDataWatchdog : Obligations.ProcessDataWatchdog := by
  intro s dt u hop
  refine ⟨u.watchdogExpired, exec_pdoWatchdogExpiry_of_op hop, by simp, by simp, by simp, ?stays, by simp, by simp, by simp, by simp,
    u.watchdogExpired_presents, ?later⟩
  case stays => exact fun j hj => u.watchdogExpired_rd hj (by decide)
  case later => exact fun pos speed job r hr => rcp_of_rxpdoCommit_safeOp (by simp) hr

end Sys2Proof
end

section
/-! ## Aborting an update session (O53) -/

namespace Sys2Proof.Machine

/-! ### The session's entries and the banks -/

/-- R427: the session's state, holder and last failure are bytes. -/
theorem keyTy_sessionState : keyTy (key 0x2200 1) = .u8 :=
  keyTy_of (show rowShape 0x2200 1 = some (.ro, .always, .any, .u8) from rfl) (by decide)

theorem keyTy_sessionHolder : keyTy (key 0x2200 2) = .u8 :=
  keyTy_of (show rowShape 0x2200 2 = some (.ro, .always, .any, .u8) from rfl) (by decide)

theorem keyTy_lastFailure : keyTy (key 0x2200 0xC) = .u8 :=
  keyTy_of (show rowShape 0x2200 0xC = some (.ro, .always, .any, .u8) from rfl) (by decide)

/-- A bank reads as changed if it is the one changed, and as before otherwise. -/
theorem State.fw_updFw (s : State) {b : Nat} (hb : b < 2) (f : FwBank → FwBank) (c : Nat) :
    (s.updFw b f).fw c = if b = c then f (s.fw c) else s.fw c := by
  show vget (vupd s.upd.banks b f) c = _
  simp [vget_vupd, hb, State.fw]

/-- R411: the inactive bank is one of the two. -/
theorem State.otherBank_lt (s : State) : s.otherBank < 2 := by unfold State.otherBank; omega

/-! ### The inactive bank -/

/-- R416: the inactive bank, invalid if anything was written to it. -/
def State.dropWritten (s : State) : State :=
  if (s.fw s.otherBank).code = 3 ∨ (s.fw s.otherBank).code = 4 then s.spoilBank else s

section
variable (s : State)

theorem State.dropWritten_upd : s.dropWritten.upd = { s.upd with banks := s.dropWritten.upd.banks } := by
  unfold State.dropWritten
  split
  case isTrue => rfl
  case isFalse => rfl

theorem State.dropWritten_fw_inactive : s.dropWritten.fw s.otherBank = { s.fw s.otherBank with
    code := if (s.fw s.otherBank).code = 3 ∨ (s.fw s.otherBank).code = 4 then 0 else (s.fw s.otherBank).code } := by
  unfold State.dropWritten
  split
  case isTrue => rw [State.spoilBank, s.fw_updFw s.otherBank_lt, if_pos rfl]
  case isFalse => rfl

theorem State.dropWritten_fw_running : s.dropWritten.fw (1 - s.otherBank) = s.fw (1 - s.otherBank) := by
  have hne : s.otherBank ≠ 1 - s.otherBank := by omega
  unfold State.dropWritten
  split
  case isTrue => rw [State.spoilBank, s.fw_updFw s.otherBank_lt, if_neg hne]
  case isFalse => rfl

/-! ### The abort -/

/-- R416: the entries of an aborted session, and its event. -/
def State.showAborted : State := ((s.setSession 0 0xFF).wr 0x2200 0xC 6).raise1 772 0

/-- R416: what an abort makes of a session. -/
def State.sessionAborted : State :=
  s.dropWritten.showAborted.updUpd (fun u => { u with header := [], body := [], wait := [], accept := none, leaving := false })

@[simp] theorem State.showAborted_upd : s.showAborted.upd = s.upd := by simp [State.showAborted, State.setSession]

/-- The entries of the session stand as an abort writes them; EV0772 touches none of them. -/
theorem State.sessionAborted_rd {j : Nat} (hj : j < 256) :
    s.sessionAborted.rd 0x2200 j = ((s.dropWritten.setSession 0 0xFF).wr 0x2200 0xC 6).rd 0x2200 j := by
  rw [State.sessionAborted, State.updUpd_rd, State.showAborted, State.raise1, State.rd_raise _ 772 _ hj (fun h => absurd h.1 (by decide))]

theorem State.sessionAborted_session : s.sessionAborted.session = 0 := by
  have hrd : s.sessionAborted.rd 0x2200 1 = Ty.u8.wrap (0 : Nat) := by
    rw [State.sessionAborted_rd _ (by decide), State.rd_wr_ne _ _ _ _ (by decide), State.setSession, State.rd_wr_ne _ _ _ _ (by decide),
      State.rd_wr_same, keyTy_sessionState]
  rw [State.session, State.rdN, hrd]
  decide

theorem State.sessionAborted_holder : s.sessionAborted.rd 0x2200 2 = 0xFF := by
  rw [State.sessionAborted_rd _ (by decide), State.rd_wr_ne _ _ _ _ (by decide), State.setSession, State.rd_wr_same, keyTy_sessionHolder]
  decide

theorem State.sessionAborted_failure : s.sessionAborted.rd 0x2200 0xC = 6 := by
  rw [State.sessionAborted_rd _ (by decide), State.rd_wr_same, keyTy_lastFailure]
  decide

theorem State.sessionAborted_presents : ∃ p ∈ s.sessionAborted.ev.pres, p.src = 772 := by
  rw [State.sessionAborted, State.updUpd_ev, State.showAborted, State.raise1, State.raise_pres]
  exact present_src

/-- An abort drops the image, the blocks that wait and the activation; of the rest of the update only the banks can change. -/
theorem State.sessionAborted_upd : s.sessionAborted.upd =
    { s.upd with header := [], body := [], wait := [], accept := none, leaving := false, banks := s.sessionAborted.upd.banks } := by
  simp only [State.sessionAborted, State.updUpd, State.showAborted_upd]
  rw [s.dropWritten_upd]

/-- The banks of an aborted session are those left once the inactive one is dropped. -/
theorem State.sessionAborted_fw (b : Nat) : s.sessionAborted.fw b = s.dropWritten.fw b := by
  simp only [State.sessionAborted, State.updUpd, State.fw, State.showAborted_upd]

end

/-! ### The command -/

/-- A present master's write of 1 after Ready is always granted, and answered with what the abort answers. -/
theorem exec_abortUpdate {s : State} {dt : Nat} {m : Fin 17} (hm : (s.pass dt).masterPresent m = true)
    (hr : (s.pass dt).dev.ready = true) : exec (.abortUpdate dt m) s =
      .next ((opAbortUpdate 1 (s.pass dt)).1.answer m 0x2200 0xB (opAbortUpdate 1 (s.pass dt)).2) := by
  have hrow : rowShape 0x2200 0xB = some (.wo, .always, .only [(1, 1)], .u8) := rfl
  show execAbortUpdate dt m s = _
  rw [execAbortUpdate, hostCommand, State.command_keep hm hr (State.rowRefusal_always hrow (by decide) (by decide))
    (by rw [verdict_of hrow]; rfl)]

theorem opAbortUpdate_of_switching {s : State} (h : s.session = 8) (v : Int) : opAbortUpdate v s = (s, 8) := by
  rw [opAbortUpdate, if_pos h]

theorem opAbortUpdate_of_session {s : State} (h0 : s.session ≠ 0) (h8 : s.session ≠ 8) (v : Int) :
    opAbortUpdate v s = (s.sessionAborted, 0) := by
  rw [opAbortUpdate, if_neg h8, if_neg h0]
  rfl

end Sys2Proof.Machine

namespace Sys2Proof
open Machine

/-- Settles O53: the write is granted; in state 8 it is refused, and in any other session state it ends the session. -/
theorem abortUpdate : Obligations.AbortUpdate := by
  intro s dt m u hm hr
  refine ⟨fun h8 => ?refused, fun h0 h8 => ⟨u.sessionAborted, ?granted, u.sessionAborted_session, u.sessionAborted_holder,
    u.sessionAborted_failure, u.sessionAborted_presents, u.sessionAborted_upd, ?inactive, ?running, ?journal⟩⟩
  case refused => rw [exec_abortUpdate hm hr, opAbortUpdate_of_switching h8]
  case granted => rw [exec_abortUpdate hm hr, opAbortUpdate_of_session h0 h8]
  case inactive => rw [State.sessionAborted_fw, State.dropWritten_fw_inactive]
  case running => rw [State.sessionAborted_fw, State.dropWritten_fw_running]
  case journal => rw [State.sessionAborted_session]; rfl

end Sys2Proof
end

section
/-! ## The machine as a whole (O1 to O4) -/

set_option Elab.async false
namespace Sys2Proof.Machine

/-! ### Every command, part by part -/

/-- The parts of the state. -/
def Part.all : List Part :=
  [.now, .compassOff, .dict, .dev, .door, .ev, .pow, .tim, .que, .dma, .lnk, .fe, .sh, .rcp, .lamp, .can, .lan, .aux, .upd, .trm, .rdg,
    .trn, .csb, .ringMem, .log, .archive, .fatal, .ec, .slots, .lines, .egress, .service, .shBanks, .basis]

theorem Part.mem_all (p : Part) : p ∈ Part.all := by cases p <;> decide

/-- Every part in the set `m` is one of `l`. -/
def Part.within (m : Nat) (l : List Part) : Bool := Part.all.all (fun q => l.contains q || q.bit &&& m == 0)

/-- A part that a command is not listed to change lies off the set that its operations touch. -/
theorem Off.of_not_mem {p : Part} {m : Nat} {l : List Part} (h : Part.within m l = true) (hp : p ∉ l) : Off p m := by
  have hq := List.all_eq_true.mp h p p.mem_all
  simpa [hp, Off] using hq

/-- What each command gives: a next state that keeps every part the command is not listed to change. -/
theorem exec_keeps (c : Instr) (s : State) {p : Part} (h : p ∉ c.mayChange) : ∃ t, exec c s = .next t ∧ Keeps p (c.found s) t := by
  cases c with
  | requestBivouac => exact execRequestBivouac_keeps _ _ s (.of_not_mem rfl h)
  | requestStandby => exact execRequestStandby_keeps _ _ s (.of_not_mem rfl h)
  | requestScanning => exact execRequestScanning_keeps _ _ s (.of_not_mem rfl h)
  | requestPaused => exact execRequestPaused_keeps _ _ s (.of_not_mem rfl h)
  | stateChangeAtLineBoundary => exact execStateChangeAtLineBoundary_keeps _ s (.of_not_mem rfl h)
  | bivouacIdleTimeout => exact execBivouacIdleTimeout_keeps _ s (.of_not_mem rfl h)
  | fatalClassStop => exact execFatalClassStop_keeps _ s (.of_not_mem rfl h)
  | bivouacEntryComplete => exact execBivouacEntryComplete_keeps _ s (.of_not_mem rfl h)
  | wakeComplete => exact execWakeComplete_keeps _ s (.of_not_mem rfl h)
  | coldStart => exact execColdStart_keeps _ s (.of_not_mem rfl h)
  | nreset => exact execNreset_keeps _ _ _ s (.of_not_mem rfl h)
  | watchdogRestart => exact execWatchdogRestart_keeps _ _ s (.of_not_mem rfl h)
  | powerOnFilterRelease => exact execPowerOnFilterRelease_keeps _ _ _ s (.of_not_mem rfl h)
  | railStepPowerGood => exact execRailStepPowerGood_keeps _ s (.of_not_mem rfl h)
  | railFault => exact execRailFault_keeps _ _ _ s (.of_not_mem rfl h)
  | coreRelease => exact execCoreRelease_keeps _ s (.of_not_mem rfl h)
  | ethercatPortsOpen => exact execEthercatPortsOpen_keeps _ s (.of_not_mem rfl h)
  | bootResponderStart => exact execBootResponderStart_keeps _ _ s (.of_not_mem rfl h)
  | bankSelect => exact execBankSelect_keeps _ _ _ _ s (.of_not_mem rfl h)
  | subprocessorReload => exact execSubprocessorReload_keeps _ _ _ s (.of_not_mem rfl h)
  | ready => exact execReady_keeps _ s (.of_not_mem rfl h)
  | registerWrite => exact execRegisterWrite_keeps _ _ _ s (.of_not_mem rfl h)
  | completeAccessRead => exact execCompleteAccessRead_keeps _ _ _ s (.of_not_mem rfl h)
  | completeAccessWrite => exact execCompleteAccessWrite_keeps _ _ _ _ s (.of_not_mem rfl h)
  | wideLowWordRead => exact execWideLowWordRead_keeps _ _ _ s (.of_not_mem rfl h)
  | wideHighWordRead => exact execWideHighWordRead_keeps _ _ _ s (.of_not_mem rfl h)
  | wideLowWordWrite => exact execWideLowWordWrite_keeps _ _ _ _ s (.of_not_mem rfl h)
  | wideHighWordWrite => exact execWideHighWordWrite_keeps _ _ _ _ s (.of_not_mem rfl h)
  | resultStatusRead => exact execResultStatusRead_keeps _ _ _ s (.of_not_mem rfl h)
  | controlWaitAck => exact execControlWaitAck_keeps _ _ s (.of_not_mem rfl h)
  | saveUserImage => exact execSaveUserImage_keeps _ _ s (.of_not_mem rfl h)
  | saveComplete => exact execSaveComplete_keeps _ _ _ s (.of_not_mem rfl h)
  | discardUserImage => exact execDiscardUserImage_keeps _ _ s (.of_not_mem rfl h)
  | clearClampReport => exact execClearClampReport_keeps _ _ s (.of_not_mem rfl h)
  | openReadWindow => exact execOpenReadWindow_keeps _ _ _ s (.of_not_mem rfl h)
  | openWriteWindow => exact execOpenWriteWindow_keeps _ _ _ s (.of_not_mem rfl h)
  | closeWindow => exact execCloseWindow_keeps _ _ _ s (.of_not_mem rfl h)
  | windowDataRead => exact execWindowDataRead_keeps _ _ _ _ _ s (.of_not_mem rfl h)
  | windowDataWrite => exact execWindowDataWrite_keeps _ _ _ _ _ s (.of_not_mem rfl h)
  | windowTimeout => exact execWindowTimeout_keeps _ _ s (.of_not_mem rfl h)
  | ethercatStateRequest => exact execEthercatStateRequest_keeps _ _ s (.of_not_mem rfl h)
  | rxpdoCommit => exact execRxpdoCommit_keeps _ _ _ _ _ s (.of_not_mem rfl h)
  | sync0Event => exact execSync0Event_keeps _ _ s (.of_not_mem rfl h)
  | pdoWatchdogExpiry => exact execPdoWatchdogExpiry_keeps _ s (.of_not_mem rfl h)
  | mailboxUnsupported => exact execMailboxUnsupported_keeps _ _ s (.of_not_mem rfl h)
  | foeWriteRequest => exact execFoeWriteRequest_keeps _ _ _ s (.of_not_mem rfl h)
  | foeReadRequest dt name => exact execFoeReadRequest_keeps dt name s (.of_not_mem rfl h)
  | softwareTrigger => exact execSoftwareTrigger_keeps _ _ s (.of_not_mem rfl h)
  | exposureCycleStart => exact execExposureCycleStart_keeps _ _ s (.of_not_mem rfl h)
  | exposureCycleEnd => exact execExposureCycleEnd_keeps _ _ s (.of_not_mem rfl h)
  | serviceRequestOut => exact execServiceRequestOut_keeps _ _ _ s (.of_not_mem rfl h)
  | serviceRequestReturn => exact execServiceRequestReturn_keeps _ _ _ s (.of_not_mem rfl h)
  | channelLeavesService => exact execChannelLeavesService_keeps _ _ s (.of_not_mem rfl h)
  | channelReentry => exact execChannelReentry_keeps _ _ s (.of_not_mem rfl h)
  | warmingEnd => exact execWarmingEnd_keeps _ _ s (.of_not_mem rfl h)
  | channelLineStart => exact execChannelLineStart_keeps _ _ _ s (.of_not_mem rfl h)
  | blackPixelsEnd => exact execBlackPixelsEnd_keeps _ _ _ s (.of_not_mem rfl h)
  | channelSignalLost => exact execChannelSignalLost_keeps _ _ s (.of_not_mem rfl h)
  | signalAutoRecovery => exact execSignalAutoRecovery_keeps _ _ s (.of_not_mem rfl h)
  | channelLineEnd => exact execChannelLineEnd_keeps _ _ _ s (.of_not_mem rfl h)
  | blackLevelResult => exact execBlackLevelResult_keeps _ _ s (.of_not_mem rfl h)
  | thermistorStale => exact execThermistorStale_keeps _ _ s (.of_not_mem rfl h)
  | swapRequest => exact execSwapRequest_keeps _ _ s (.of_not_mem rfl h)
  | copyActiveToShadow => exact execCopyActiveToShadow_keeps _ _ s (.of_not_mem rfl h)
  | copyComplete => exact execCopyComplete_keeps _ s (.of_not_mem rfl h)
  | clearShadow => exact execClearShadow_keeps _ _ s (.of_not_mem rfl h)
  | setActivePlaneScale => exact execSetActivePlaneScale_keeps _ _ _ _ s (.of_not_mem rfl h)
  | startDarkCapture => exact execStartDarkCapture_keeps _ _ s (.of_not_mem rfl h)
  | startWhiteCapture => exact execStartWhiteCapture_keeps _ _ s (.of_not_mem rfl h)
  | startDarkWhiteCapture => exact execStartDarkWhiteCapture_keeps _ _ s (.of_not_mem rfl h)
  | captureLineCycle => exact execCaptureLineCycle_keeps _ s (.of_not_mem rfl h)
  | captureBaseDone => exact execCaptureBaseDone_keeps _ s (.of_not_mem rfl h)
  | captureSettleDone => exact execCaptureSettleDone_keeps _ s (.of_not_mem rfl h)
  | captureAveragingDone => exact execCaptureAveragingDone_keeps _ s (.of_not_mem rfl h)
  | captureLampGrant => exact execCaptureLampGrant_keeps _ s (.of_not_mem rfl h)
  | captureLampGrantTimeout => exact execCaptureLampGrantTimeout_keeps _ s (.of_not_mem rfl h)
  | captureComputeDone => exact execCaptureComputeDone_keeps _ s (.of_not_mem rfl h)
  | abortCapture => exact execAbortCapture_keeps _ _ s (.of_not_mem rfl h)
  | startMeasurement => exact execStartMeasurement_keeps _ _ _ s (.of_not_mem rfl h)
  | measurementPhaseDone => exact execMeasurementPhaseDone_keeps _ s (.of_not_mem rfl h)
  | measurementComplete => exact execMeasurementComplete_keeps _ s (.of_not_mem rfl h)
  | abortMeasurement => exact execAbortMeasurement_keeps _ _ s (.of_not_mem rfl h)
  | importCapturePlane => exact execImportCapturePlane_keeps _ _ _ s (.of_not_mem rfl h)
  | importComplete => exact execImportComplete_keeps _ s (.of_not_mem rfl h)
  | basisNorWriteDone => exact execBasisNorWriteDone_keeps _ _ s (.of_not_mem rfl h)
  | basisSetLoadDone => exact execBasisSetLoadDone_keeps _ _ _ s (.of_not_mem rfl h)
  | armSwitch => exact execArmSwitch_keeps _ _ s (.of_not_mem rfl h)
  | disarmSwitch => exact execDisarmSwitch_keeps _ _ s (.of_not_mem rfl h)
  | switchNow => exact execSwitchNow_keeps _ _ s (.of_not_mem rfl h)
  | blendStart => exact execBlendStart_keeps _ s (.of_not_mem rfl h)
  | blendComplete => exact execBlendComplete_keeps _ s (.of_not_mem rfl h)
  | recipeSwitch => exact execRecipeSwitch_keeps _ s (.of_not_mem rfl h)
  | startupBuild => exact execStartupBuild_keeps _ s (.of_not_mem rfl h)
  | outputLineProduced => exact execOutputLineProduced_keeps _ _ s (.of_not_mem rfl h)
  | guylineWindowEnd => exact execGuylineWindowEnd_keeps _ s (.of_not_mem rfl h)
  | guylineSlewStep => exact execGuylineSlewStep_keeps _ s (.of_not_mem rfl h)
  | seamFreezeEnd => exact execSeamFreezeEnd_keeps _ s (.of_not_mem rfl h)
  | resetEstimates => exact execResetEstimates_keeps _ _ s (.of_not_mem rfl h)
  | encoderEdge => exact execEncoderEdge_keeps _ _ _ s (.of_not_mem rfl h)
  | illegalRunEnd => exact execIllegalRunEnd_keeps _ s (.of_not_mem rfl h)
  | encoderZEdge => exact execEncoderZEdge_keeps _ s (.of_not_mem rfl h)
  | zeroAtNextZ => exact execZeroAtNextZ_keeps _ _ s (.of_not_mem rfl h)
  | encoderLineOpen => exact execEncoderLineOpen_keeps _ _ s (.of_not_mem rfl h)
  | encoderLineRestored => exact execEncoderLineRestored_keeps _ _ s (.of_not_mem rfl h)
  | pressSpeedMismatch => exact execPressSpeedMismatch_keeps _ s (.of_not_mem rfl h)
  | pressOverspeed => exact execPressOverspeed_keeps _ s (.of_not_mem rfl h)
  | transportStopTimeout => exact execTransportStopTimeout_keeps _ s (.of_not_mem rfl h)
  | pacedGeneratorTrigger => exact execPacedGeneratorTrigger_keeps _ s (.of_not_mem rfl h)
  | profileUpdate => exact execProfileUpdate_keeps _ s (.of_not_mem rfl h)
  | pacingPeriod => exact execPacingPeriod_keeps _ s (.of_not_mem rfl h)
  | decelerationDone => exact execDecelerationDone_keeps _ s (.of_not_mem rfl h)
  | backingDone => exact execBackingDone_keeps _ s (.of_not_mem rfl h)
  | motorFault => exact execMotorFault_keeps _ s (.of_not_mem rfl h)
  | motorEnableHoldExpiry => exact execMotorEnableHoldExpiry_keeps _ s (.of_not_mem rfl h)
  | casbyPortLock => exact execCasbyPortLock_keeps _ _ s (.of_not_mem rfl h)
  | casbyPairSwapTry => exact execCasbyPairSwapTry_keeps _ s (.of_not_mem rfl h)
  | casbyElectionStart => exact execCasbyElectionStart_keeps _ s (.of_not_mem rfl h)
  | casbyElectionSend => exact execCasbyElectionSend_keeps _ s (.of_not_mem rfl h)
  | casbyElectionFrame => exact execCasbyElectionFrame_keeps _ _ _ s (.of_not_mem rfl h)
  | casbyTimeSend => exact execCasbyTimeSend_keeps _ s (.of_not_mem rfl h)
  | casbyTimeFrame => exact execCasbyTimeFrame_keeps _ _ _ s (.of_not_mem rfl h)
  | casbyTriggerFrame => exact execCasbyTriggerFrame_keeps _ _ _ s (.of_not_mem rfl h)
  | casbyJobSwitchFrame => exact execCasbyJobSwitchFrame_keeps _ _ _ s (.of_not_mem rfl h)
  | casbyActivationFrame => exact execCasbyActivationFrame_keeps _ _ _ s (.of_not_mem rfl h)
  | casbyHeartbeatSend => exact execCasbyHeartbeatSend_keeps _ s (.of_not_mem rfl h)
  | casbyHeartbeatFrame => exact execCasbyHeartbeatFrame_keeps _ _ _ s (.of_not_mem rfl h)
  | casbyRingOpen => exact execCasbyRingOpen_keeps _ s (.of_not_mem rfl h)
  | casbyPeerLost => exact execCasbyPeerLost_keeps _ _ s (.of_not_mem rfl h)
  | sendJobSwitch => exact execSendJobSwitch_keeps _ _ _ s (.of_not_mem rfl h)
  | clearPeaks => exact execClearPeaks_keeps _ _ s (.of_not_mem rfl h)
  | clearChannelBits => exact execClearChannelBits_keeps _ _ s (.of_not_mem rfl h)
  | egressSpaceFreed => exact execEgressSpaceFreed_keeps _ _ s (.of_not_mem rfl h)
  | packetTransmitEnd => exact execPacketTransmitEnd_keeps _ _ _ s (.of_not_mem rfl h)
  | flushImageLines => exact execFlushImageLines_keeps _ _ _ s (.of_not_mem rfl h)
  | flushStatistics => exact execFlushStatistics_keeps _ _ _ s (.of_not_mem rfl h)
  | flushComplete => exact execFlushComplete_keeps _ _ s (.of_not_mem rfl h)
  | doorbell => exact execDoorbell_keeps _ _ _ _ s (.of_not_mem rfl h)
  | chainComplete => exact execChainComplete_keeps _ _ _ s (.of_not_mem rfl h)
  | stopRing => exact execStopRing_keeps _ _ _ _ s (.of_not_mem rfl h)
  | resetHead => exact execResetHead_keeps _ _ _ _ s (.of_not_mem rfl h)
  | startCompatTransfer => exact execStartCompatTransfer_keeps _ _ s (.of_not_mem rfl h)
  | stopCompatTransfer => exact execStopCompatTransfer_keeps _ _ s (.of_not_mem rfl h)
  | compatTransferComplete => exact execCompatTransferComplete_keeps _ s (.of_not_mem rfl h)
  | discoveryRequest => exact execDiscoveryRequest_keeps _ _ s (.of_not_mem rfl h)
  | connectionConfig => exact execConnectionConfig_keeps _ _ _ _ s (.of_not_mem rfl h)
  | linkTrained => exact execLinkTrained_keeps _ _ s (.of_not_mem rfl h)
  | testModeWrite => exact execTestModeWrite_keeps _ _ _ s (.of_not_mem rfl h)
  | linkWakeByCommand => exact execLinkWakeByCommand_keeps _ _ s (.of_not_mem rfl h)
  | linkResuspend => exact execLinkResuspend_keeps _ _ s (.of_not_mem rfl h)
  | triggerPacket => exact execTriggerPacket_keeps _ _ _ _ s (.of_not_mem rfl h)
  | linkLoss => exact execLinkLoss_keeps _ _ s (.of_not_mem rfl h)
  | linkReturn => exact execLinkReturn_keeps _ _ s (.of_not_mem rfl h)
  | uplinkPacketError => exact execUplinkPacketError_keeps _ _ s (.of_not_mem rfl h)
  | stringCheck => exact execStringCheck_keeps _ _ _ _ s (.of_not_mem rfl h)
  | lampOvercurrent => exact execLampOvercurrent_keeps _ _ s (.of_not_mem rfl h)
  | clearGroup => exact execClearGroup_keeps _ _ _ s (.of_not_mem rfl h)
  | bulkFloorReached => exact execBulkFloorReached_keeps _ s (.of_not_mem rfl h)
  | bulkFloorClear => exact execBulkFloorClear_keeps _ _ s (.of_not_mem rfl h)
  | lampPowerReport => exact execLampPowerReport_keeps _ _ _ s (.of_not_mem rfl h)
  | lanternFrame => exact execLanternFrame_keeps _ _ s (.of_not_mem rfl h)
  | lanternProbeNow => exact execLanternProbeNow_keeps _ _ s (.of_not_mem rfl h)
  | lanternPeriodicProbe => exact execLanternPeriodicProbe_keeps _ s (.of_not_mem rfl h)
  | lanternProbeComplete => exact execLanternProbeComplete_keeps _ _ s (.of_not_mem rfl h)
  | lanternOutputShort => exact execLanternOutputShort_keeps _ s (.of_not_mem rfl h)
  | lanternShortRetry => exact execLanternShortRetry_keeps _ s (.of_not_mem rfl h)
  | lanternEngineStart => exact execLanternEngineStart_keeps _ _ _ s (.of_not_mem rfl h)
  | lanternEngineStop => exact execLanternEngineStop_keeps _ _ _ s (.of_not_mem rfl h)
  | lanternEngineRunEnd => exact execLanternEngineRunEnd_keeps _ _ s (.of_not_mem rfl h)
  | locateTargetWrite => exact execLocateTargetWrite_keeps _ _ _ _ s (.of_not_mem rfl h)
  | auxPassStart => exact execAuxPassStart_keeps _ s (.of_not_mem rfl h)
  | auxSoftwareTrigger => exact execAuxSoftwareTrigger_keeps _ _ s (.of_not_mem rfl h)
  | auxPeriodicTrigger => exact execAuxPeriodicTrigger_keeps _ s (.of_not_mem rfl h)
  | auxUrgentRequest => exact execAuxUrgentRequest_keeps _ _ _ s (.of_not_mem rfl h)
  | auxVisitStart => exact execAuxVisitStart_keeps _ s (.of_not_mem rfl h)
  | auxVisitEnd => exact execAuxVisitEnd_keeps _ _ _ _ _ _ _ _ s (.of_not_mem rfl h)
  | auxExcitationRetry => exact execAuxExcitationRetry_keeps _ _ s (.of_not_mem rfl h)
  | blankStuck => exact execBlankStuck_keeps _ s (.of_not_mem rfl h)
  | bivouacConversion => exact execBivouacConversion_keeps _ _ _ _ _ s (.of_not_mem rfl h)
  | aoStale => exact execAoStale_keeps _ _ s (.of_not_mem rfl h)
  | aoShort => exact execAoShort_keeps _ _ s (.of_not_mem rfl h)
  | aoShortRetry => exact execAoShortRetry_keeps _ _ _ s (.of_not_mem rfl h)
  | refaOutOfRange => exact execRefaOutOfRange_keeps _ s (.of_not_mem rfl h)
  | refaRestored => exact execRefaRestored_keeps _ s (.of_not_mem rfl h)
  | connectionPresent => exact execConnectionPresent_keeps _ _ s (.of_not_mem rfl h)
  | connectionEnable => exact execConnectionEnable_keeps _ s (.of_not_mem rfl h)
  | connectionAdmissionCheck => exact execConnectionAdmissionCheck_keeps _ _ _ s (.of_not_mem rfl h)
  | connectionShedRetry => exact execConnectionShedRetry_keeps _ _ s (.of_not_mem rfl h)
  | connectionOverload => exact execConnectionOverload_keeps _ _ _ s (.of_not_mem rfl h)
  | connectionShed => exact execConnectionShed_keeps _ _ _ s (.of_not_mem rfl h)
  | connectionPowerRemoved => exact execConnectionPowerRemoved_keeps _ _ _ s (.of_not_mem rfl h)
  | connectionSenseFault => exact execConnectionSenseFault_keeps _ _ s (.of_not_mem rfl h)
  | admissionEnableWrite => exact execAdmissionEnableWrite_keeps _ _ _ _ s (.of_not_mem rfl h)
  | vauxReversed => exact execVauxReversed_keeps _ s (.of_not_mem rfl h)
  | vauxOutOfRange => exact execVauxOutOfRange_keeps _ _ s (.of_not_mem rfl h)
  | vauxQualified => exact execVauxQualified_keeps _ s (.of_not_mem rfl h)
  | canteenTick => exact execCanteenTick_keeps _ _ _ _ _ s (.of_not_mem rfl h)
  | grantRestoreHoldExpiry => exact execGrantRestoreHoldExpiry_keeps _ s (.of_not_mem rfl h)
  | lampGrantWithdrawn => exact execLampGrantWithdrawn_keeps _ s (.of_not_mem rfl h)
  | consumptionAboveBudget => exact execConsumptionAboveBudget_keeps _ s (.of_not_mem rfl h)
  | thermalBivouacRequest => exact execThermalBivouacRequest_keeps _ s (.of_not_mem rfl h)
  | requestTrim => exact execRequestTrim_keeps _ _ _ s (.of_not_mem rfl h)
  | selfTrimStart => exact execSelfTrimStart_keeps _ s (.of_not_mem rfl h)
  | selfTrimEnd => exact execSelfTrimEnd_keeps _ _ s (.of_not_mem rfl h)
  | selfTrimAbandoned => exact execSelfTrimAbandoned_keeps _ s (.of_not_mem rfl h)
  | selfTrimRetry => exact execSelfTrimRetry_keeps _ _ s (.of_not_mem rfl h)
  | trimRecordWritten => exact execTrimRecordWritten_keeps _ _ _ s (.of_not_mem rfl h)
  | updateBlockZero => exact execUpdateBlockZero_keeps _ _ _ _ s (.of_not_mem rfl h)
  | updateBlock => exact execUpdateBlock_keeps _ _ _ _ _ s (.of_not_mem rfl h)
  | updateBlocksJournaled => exact execUpdateBlocksJournaled_keeps _ _ s (.of_not_mem rfl h)
  | updateSessionSilence => exact execUpdateSessionSilence_keeps _ s (.of_not_mem rfl h)
  | abortUpdate => exact execAbortUpdate_keeps _ _ s (.of_not_mem rfl h)
  | updateApplyComplete => exact execUpdateApplyComplete_keeps _ _ s (.of_not_mem rfl h)
  | updateVerifyComplete => exact execUpdateVerifyComplete_keeps _ _ _ s (.of_not_mem rfl h)
  | scheduleActivationLocal => exact execScheduleActivationLocal_keeps _ _ s (.of_not_mem rfl h)
  | scheduleActivationCasby => exact execScheduleActivationCasby_keeps _ _ s (.of_not_mem rfl h)
  | cancelSchedule => exact execCancelSchedule_keeps _ _ s (.of_not_mem rfl h)
  | activationTimeReached => exact execActivationTimeReached_keeps _ s (.of_not_mem rfl h)
  | deferredActivationIdle => exact execDeferredActivationIdle_keeps _ s (.of_not_mem rfl h)
  | activationExpired => exact execActivationExpired_keeps _ s (.of_not_mem rfl h)
  | bankSwitch => exact execBankSwitch_keeps _ s (.of_not_mem rfl h)
  | migrationFallback => exact execMigrationFallback_keeps _ s (.of_not_mem rfl h)
  | acceptDefaults => exact execAcceptDefaults_keeps _ _ s (.of_not_mem rfl h)
  | discardQuarantine => exact execDiscardQuarantine_keeps _ _ s (.of_not_mem rfl h)
  | bootstrapImageWrite => exact execBootstrapImageWrite_keeps _ _ _ _ s (.of_not_mem rfl h)
  | eventStamp => exact execEventStamp_keeps _ s (.of_not_mem rfl h)
  | emergencySend => exact execEmergencySend_keeps _ s (.of_not_mem rfl h)
  | archiveCopy => exact execArchiveCopy_keeps _ s (.of_not_mem rfl h)
  | latchClear => exact execLatchClear_keeps _ _ _ s (.of_not_mem rfl h)
  | clearLatchesByClass => exact execClearLatchesByClass_keeps _ _ _ s (.of_not_mem rfl h)
  | raiseHostEvent => exact execRaiseHostEvent_keeps _ _ _ s (.of_not_mem rfl h)
  | gpPulseEnd => exact execGpPulseEnd_keeps _ _ s (.of_not_mem rfl h)
  | tgOutputShort => exact execTgOutputShort_keeps _ _ s (.of_not_mem rfl h)
  | tgOutputRetry => exact execTgOutputRetry_keeps _ _ _ s (.of_not_mem rfl h)
  | senseFaultCleared => exact execSenseFaultCleared_keeps _ _ _ s (.of_not_mem rfl h)
  | connectionPresenceLost => exact execConnectionPresenceLost_keeps _ _ s (.of_not_mem rfl h)
  | auxiliaryInputQualifying => exact execAuxiliaryInputQualifying_keeps _ _ s (.of_not_mem rfl h)
  | lossOfPower => exact execLossOfPower_keeps _ _ s (.of_not_mem rfl h)
  | ringMemoryWrite => exact execRingMemoryWrite_keeps _ _ _ _ s (.of_not_mem rfl h)
  | streamPacketSizeWrite => exact execStreamPacketSizeWrite_keeps _ _ _ s (.of_not_mem rfl h)
  | recipeNorWriteDone => exact execRecipeNorWriteDone_keeps _ _ s (.of_not_mem rfl h)
  | blankInputReleased => exact execBlankInputReleased_keeps _ s (.of_not_mem rfl h)
  | encoderStatusClear => exact execEncoderStatusClear_keeps _ s (.of_not_mem rfl h)
  | activationFrameRepeat => exact execActivationFrameRepeat_keeps _ s (.of_not_mem rfl h)
/-! ### Soundness through a start -/

/-- What every command does with soundness and with the commands that wait. -/
structure StaysSound (s0 s : State) : Prop where
  sound : s0.Sound → s.Sound
  pend : s.pending = s0.pending

namespace StaysSound

variable {s0 s t : State}

theorem refl (s : State) : StaysSound s s := ⟨id, rfl⟩

theorem trans (h : StaysSound s0 s) (g : StaysSound s t) : StaysSound s0 t := ⟨fun x => g.sound (h.sound x), g.pend.trans h.pend⟩

theorem of_keeps {p : Part} (h : Keeps p s0 s) : StaysSound s0 s := ⟨h.sound, h.pend⟩

/-- An operation that leaves the clock alone keeps soundness by its law. -/
theorem step (h : StaysSound s0 s) (g : Keeps .now s s → Keeps .now s t) : StaysSound s0 t := h.trans (of_keeps (g (.refl _ _)))

theorem ite {c : Prop} [Decidable c] {a b : State} (ha : c → StaysSound s0 a) (hb : ¬ c → StaysSound s0 b) :
    StaysSound s0 (if c then a else b) := by
  split
  · exact ha ‹_›
  · exact hb ‹_›

/-- Soundness speaks of the two stores, the arbiter's lists and the clamp report alone. -/
theorem same (h : StaysSound s0 s) (hp : t.pending = s.pending) (hd : t.dict = s.dict) (hm : t.dma.ringMem = s.dma.ringMem)
    (he : t.ev.pres = s.ev.pres) (hq : t.ev.emergencies = s.ev.emergencies) (hl : t.ev.log = s.ev.log)
    (ha : t.ev.archive = s.ev.archive) (hc : t.door.clamps = s.door.clamps) : StaysSound s0 t :=
  h.trans ⟨fun x => x.of hd hm he hq hl ha hc, hp⟩

theorem setPow (h : StaysSound s0 s) (p : PowerSt) : StaysSound s0 { s with pow := p } := h.same rfl rfl rfl rfl rfl rfl rfl rfl

theorem kept (h : StaysSound s0 s) : StaysSound s0 s.kept :=
  ⟨fun _ => ⟨⟨.nil, fun _ hp => nomatch hp⟩, rfl, .nil, Nat.zero_le _, .nil, .nil, Nat.zero_le _⟩, h.pend⟩

/-- A part of the dictionary is in canonical form as the whole is; the live log stays, the archive and the clamp report are emptied. -/
theorem restarted (h : StaysSound s0 s) (kind : Nat) : StaysSound s0 (s.restarted kind) := by
  refine ⟨fun x => ?_, h.pend⟩
  obtain ⟨⟨hord, hval⟩, -, hpres, hem, hlog, -, -⟩ := h.sound x
  exact ⟨⟨hord.filter _, fun p hp => hval p (List.mem_filter.mp hp).1⟩, rfl, hpres, hem, hlog, .nil, Nat.zero_le _⟩

theorem keepTrims (h : StaysSound s0 t) (s : State) : StaysSound s0 (s.keepTrims t) :=
  h.step (fun k => (k.each (fun _ _ k => State.updCluster_keeps k rfl _ _)).wr rfl _ _ _)

theorem warmStart (h : StaysSound s0 s) (kind : Nat) : StaysSound s0 (s.warmStart kind) :=
  ((h.restarted kind).step (fun k => State.wrBit_keeps (State.wrBit_keeps k rfl _ _ _ _) rfl _ _ _ _)).keepTrims s

theorem tearSave (h : StaysSound s0 s) (n : Nat) : StaysSound s0 (s.tearSave n) := h.step (fun k => State.tearSave_keeps k rfl n)

theorem railFault (h : StaysSound s0 s) (k : Nat) : StaysSound s0 (s.railFault k) := by
  unfold State.railFault
  extract_lets first attempt wait a b p c d
  have ha : StaysSound s0 a := ite (fun _ => h.restarted 0) (fun _ => h)
  have hc : StaysSound s0 c := (ha.step (t := b) (fun k => State.raise1_keeps k rfl _ _)).setPow _
  refine ite (fun _ => hc.step (fun k => State.railsFrom_keeps k rfl _ _)) (fun _ => ?_)
  exact ((hc.step (t := d) (fun k => k.wr rfl _ _ _)).setPow _).step (fun k => State.setAl_keeps k rfl _)

theorem updFw (h : StaysSound s0 s) (b : Nat) (f : FwBank → FwBank) : StaysSound s0 (s.updFw b f) :=
  h.step (fun k => State.updFw_keeps k rfl b f)

theorem updUpd (h : StaysSound s0 s) (f : UpdateSt → UpdateSt) : StaysSound s0 (s.updUpd f) :=
  h.step (fun k => State.updUpd_keeps k rfl f)

theorem mailbox (h : StaysSound s0 s) (code : Nat) : StaysSound s0 (s.mailbox code) :=
  h.step (fun k => State.mailbox_keeps k rfl code)

theorem bootstrapImage (h : StaysSound s0 s) (bs : List Byte) (manifest good : Bool) : StaysSound s0 (s.bootstrapImage bs manifest good) := by
  unfold State.bootstrapImage
  extract_lets hd body code a content b c
  have ha : StaysSound s0 a := h.step (fun k => State.raiseIf_keeps k rfl _ _ _)
  refine ite (fun _ => ha.mailbox _) (fun _ => ite (fun _ => ha.mailbox _) (fun _ => ite (fun _ => ?_) (fun _ => ?_)))
  · exact ((ha.updFw 0 _).step (fun k => State.raiseIf_keeps k rfl _ _ _)).mailbox _
  · exact ((((ha.updFw 0 _).updFw 1 _).mailbox 0).updUpd _).warmStart 3

/-- An event command keeps soundness if its event does. -/
theorem event {dt : Nat} {due : State → Bool} {act : State → State} (h : ∀ t, StaysSound s t → StaysSound s (act t)) :
    ∃ t, Machine.event dt s due act = .next t ∧ StaysSound s t := by
  have hp : StaysSound s (s.pass dt) := (refl s).same rfl rfl rfl rfl rfl rfl rfl rfl
  exact ⟨_, rfl, ite (fun _ => h _ hp) (fun _ => hp)⟩

theorem arrive (s : State) (dt : Nat) : StaysSound s (s.arrive dt) :=
  ((refl s).same (t := s.pass dt) rfl rfl rfl rfl rfl rfl rfl rfl).step (fun k => State.settleAhead_keeps k rfl)

end StaysSound

/-- The state a command finds is the time's passing, with or without the triggers that are due. -/
theorem found_staysSound (c : Instr) (s : State) : StaysSound s (c.found s) := by
  have hpass (dt : Nat) : StaysSound s (s.pass dt) := (StaysSound.refl s).same rfl rfl rfl rfl rfl rfl rfl rfl
  unfold Instr.found
  split
  all_goals first | exact StaysSound.arrive s _ | exact hpass _

/-- Every command gives a sound state. The starts and the power triggers touch every part; all others leave the clock alone. -/
theorem exec_staysSound (c : Instr) (s : State) : ∃ t, exec c s = .next t ∧ StaysSound s t := by
  have timeless (h : .now ∉ c.mayChange) : ∃ t, exec c s = .next t ∧ StaysSound s t := by
    obtain ⟨t, ht, hk⟩ := exec_keeps c s h
    exact ⟨t, ht, (found_staysSound c s).trans (.of_keeps hk)⟩
  cases c
  case coldStart dt =>
    show ∃ t, execColdStart dt s = _ ∧ _
    unfold execColdStart
    exact StaysSound.event (fun t h => h.kept.same rfl rfl rfl rfl rfl rfl rfl rfl)
  case lossOfPower dt n =>
    show ∃ t, execLossOfPower dt n s = _ ∧ _
    unfold execLossOfPower
    exact StaysSound.event (fun t h => (h.tearSave n).kept.step (fun k => State.bootTo_keeps k rfl _))
  case nreset dt low n =>
    show ∃ t, execNreset dt low n s = _ ∧ _
    unfold execNreset
    exact StaysSound.event (fun t h => .ite (fun _ => h) (fun _ => .ite
      (fun _ => h.step (fun k => State.setAl_keeps (State.railsFrom_keeps k rfl _ _) rfl _)) (fun _ => (h.tearSave n).warmStart 1)))
  case watchdogRestart dt n =>
    show ∃ t, execWatchdogRestart dt n s = _ ∧ _
    unfold execWatchdogRestart
    exact StaysSound.event (fun t h => ((h.tearSave n).warmStart 2).step (fun k => State.raise1_keeps k rfl _ _))
  case railFault dt k fell =>
    show ∃ t, execRailFault dt k fell s = _ ∧ _
    unfold execRailFault
    exact StaysSound.event (fun t h => .ite (fun _ => h.railFault _) (fun _ => h.step (fun g => State.converterFault_keeps g rfl _)))
  case subprocessorReload dt first second =>
    show ∃ t, execSubprocessorReload dt first second s = _ ∧ _
    unfold execSubprocessorReload
    exact StaysSound.event (fun t h => .ite (fun _ => (h.warmStart 4).setPow _) (fun _ => h.setPow _))
  case bankSwitch dt =>
    show ∃ t, execBankSwitch dt s = _ ∧ _
    unfold execBankSwitch
    exact StaysSound.event (fun t h => (((h.step (fun k => State.finishWrites_keeps k rfl)).updFw _ _).warmStart 3).updUpd _)
  case migrationFallback dt =>
    show ∃ t, execMigrationFallback dt s = _ ∧ _
    unfold execMigrationFallback
    exact StaysSound.event (fun t h => ((h.updFw _ _).warmStart 4).updUpd _)
  case bootstrapImageWrite dt bs manifest good =>
    show ∃ t, execBootstrapImageWrite dt bs manifest good s = _ ∧ _
    unfold execBootstrapImageWrite
    exact StaysSound.event (fun t h => h.bootstrapImage bs manifest good)
  all_goals exact timeless (of_decide_eq_false rfl)

end Sys2Proof.Machine

namespace Sys2Proof
open Machine

/-- Settles O1: by the two cases of the queue; Compass advances because the model's clock does, by one whole cycle. -/
theorem stepTakesTheFrontCommand : Obligations.StepTakesTheFrontCommand := by
  refine ⟨fun s c rest => rfl, fun s hq => ⟨fun hpow => ⟨?_, ?_⟩, fun hpow => ?_⟩⟩
  · have hb : s.pow.boot ≠ .unpowered := by simpa [State.powered] using hpow
    simp [step, hq, State.idle, hb, State.pass]
  · simp only [State.compass]
    omega
  · have hb : s.pow.boot = .unpowered := by simpa [State.powered] using hpow
    simp [step, hq, State.idle, hb]

/-- Settles O2: each command keeps what it is not listed to change. -/
theorem onlyTheseParts : Obligations.OnlyTheseParts := by
  intro c s t p he hp
  obtain ⟨r, hr, hk⟩ := exec_keeps c s hp
  rw [hr] at he
  cases he
  exact hk.same

/-- Settles O4: every command gives a sound next state with the same commands waiting. -/
theorem everyCommandEnds : Obligations.EveryCommandEnds := by
  intro c s hs
  obtain ⟨t, ht, hk⟩ := exec_staysSound c s
  exact ⟨t, ht, hk.sound hs, hk.pend⟩

/-- Settles O3: a step is its front command's `exec` on the rest of the queue, or one idle cycle. -/
theorem everyStepKeepsTheStateSound : Obligations.EveryStepKeepsTheStateSound := by
  intro s t hs he
  unfold step at he
  split at he
  case h_1 hq =>
    cases he
    have hi : StaysSound s s.idle := .ite (fun _ => .refl s) (fun _ => (StaysSound.refl s).same rfl rfl rfl rfl rfl rfl rfl rfl)
    exact ⟨hi.sound hs, by rw [hi.pend, hq]; rfl⟩
  case h_2 c rest hq =>
    obtain ⟨r, hr, hk⟩ := exec_staysSound c { s with pending := rest }
    rw [hr] at he
    cases he
    exact ⟨hk.sound hs, by rw [hk.pend, hq]; rfl⟩

end Sys2Proof
end

section
/-! ## Entries, answers and the two stores (O5 to O7) -/

set_option Elab.async false
namespace Sys2Proof.Machine

/-! ### Entries -/

theorem keyTy_key {i j : Nat} (hj : j < 256) : keyTy (key i j) = tyAt i j := by
  have hi : key i j / 256 = i := by unfold key; omega
  have hs : key i j % 256 = j := by unfold key; omega
  rw [keyTy, hi, hs]

theorem keyDflt_key {i j : Nat} (hj : j < 256) : keyDflt (key i j) = dfltAt i j := by
  have hi : key i j / 256 = i := by unfold key; omega
  have hs : key i j % 256 = j := by unfold key; omega
  rw [keyDflt, hi, hs]

/-- R32: what an entry reads as after a write, by index and subindex. -/
theorem State.rd_wr_at (s : State) (v : Int) {i j i' j' : Nat} (hj : j < 256) (hj' : j' < 256) :
    (s.wr i j v).rd i' j' = if i = i' ∧ j = j' then (tyAt i j).wrap v else s.rd i' j' := by
  rw [State.rd_wr, keyTy_key hj]
  exact if_congr (key_inj hj hj') rfl rfl

theorem State.rd_wr_self (s : State) (v : Int) {i j : Nat} (hj : j < 256) : (s.wr i j v).rd i j = (tyAt i j).wrap v := by
  rw [State.rd_wr_at s v hj hj, if_pos ⟨rfl, rfl⟩]

theorem State.rd_bump_at (s : State) (n : Nat) {i j i' j' : Nat} (hj : j < 256) (hj' : j' < 256) :
    (s.bump i j n).rd i' j' = if i = i' ∧ j = j' then (tyAt i j).wrap (s.rd i j + n) else s.rd i' j' := State.rd_wr_at s _ hj hj'

/-- What entry `i:j` of a dictionary reads as. -/
def rdIn (d : List (Nat × Int)) (i j : Nat) : Int := (Store.find d (key i j)).getD (keyDflt (key i j))

@[simp] theorem rdIn_dict (s : State) (i j : Nat) : rdIn s.dict i j = s.rd i j := rfl

/-- An entry of a state written out whole depends on its dictionary alone. -/
@[simp] theorem State.rd_mk (pending now compassOff dict dev door ev pow tim que dma lnk fe sh rcp lamp can lan aux upd trm rdg trn csb)
    (i j : Nat) : (State.mk pending now compassOff dict dev door ev pow tim que dma lnk fe sh rcp lamp can lan aux upd trm rdg trn csb).rd i j =
      rdIn dict i j := rfl

@[simp] theorem Ty.wrap_u8 (v : Int) : Ty.u8.wrap v = v % 2 ^ 8 := rfl
@[simp] theorem Ty.wrap_u16 (v : Int) : Ty.u16.wrap v = v % 2 ^ 16 := rfl
@[simp] theorem Ty.wrap_u32 (v : Int) : Ty.u32.wrap v = v % 2 ^ 32 := rfl
@[simp] theorem Ty.wrap_u64 (v : Int) : Ty.u64.wrap v = v % 2 ^ 64 := rfl

theorem State.reset_rd {i j : Nat} (hj : j < 256) : State.reset.rd i j = dfltAt i j := keyDflt_key hj

/-! ### Ring memory -/

/-- Bytes written are read back, every other byte is what it was. -/
theorem Memory.get_setAll (bs : List Byte) (m : List Host.Cell) (k a : Nat) :
    Memory.get (Memory.setAll m k bs) a = if k ≤ a ∧ a < k + bs.length then bs.getD (a - k) 0 else Memory.get m a := by
  induction bs generalizing m k with
  | nil => simp [Memory.setAll, show ¬ (k ≤ a ∧ a < k) by omega]
  | cons b r ih =>
    rw [Memory.setAll, ih, Memory.get_set, List.length_cons]
    by_cases hk : k = a
    · subst hk
      simp
    · by_cases hr : k + 1 ≤ a ∧ a < k + 1 + r.length
      · have hs : a - k = a - (k + 1) + 1 := by omega
        rw [if_pos hr, if_pos (by omega), hs, List.getD_cons_succ]
      · rw [if_neg hr, if_neg hk, if_neg (by omega)]

/-- A range just written holds the bytes written. -/
theorem Memory.bytes_setAll (m : List Host.Cell) (k : Nat) (bs : List Byte) : Memory.bytes (Memory.setAll m k bs) k bs.length = bs := by
  refine List.ext_getElem (by simp [Memory.bytes]) (fun i hi _ => ?_)
  have hlen : i < bs.length := by simpa [Memory.bytes] using hi
  simp [Memory.bytes, Memory.get_setAll, hlen]

section
variable (s : State) {o : Nat} (w : Nat) (ho : o + 4 ≤ ringSize)
include ho

theorem State.ringPut_ringMem : (s.ringPut o w).dma.ringMem = Memory.setAll s.dma.ringMem o (le 4 w) := by
  show Memory.setAll s.dma.ringMem o ((le 4 w).take (ringSize - o)) = _
  rw [List.take_of_length_le (by rw [le_length]; omega)]

theorem State.ringWord_ringPut : (s.ringPut o w).ringWord o = w % 2 ^ 32 := by
  have hb := Memory.bytes_setAll s.dma.ringMem o (le 4 w)
  rw [le_length] at hb
  rw [State.ringWord, State.ringPut_ringMem s w ho, hb, unle_le]

theorem State.ringPut_get {a : Nat} (ha : ¬ (o ≤ a ∧ a < o + 4)) :
    Memory.get (s.ringPut o w).dma.ringMem a = Memory.get s.dma.ringMem a := by
  rw [State.ringPut_ringMem s w ho, Memory.get_setAll, le_length, if_neg ha]

theorem State.ringPut_wf (h : Memory.wf s.dma.ringMem = true) : Memory.wf (s.ringPut o w).dma.ringMem = true := by
  rw [State.ringPut_ringMem s w ho]
  exact Memory.wf_setAll h o _ (by rw [le_length]; exact ho)

end

/-! ### Answering an access -/

/-- What a reply may write on its way out (R238, R273): nothing of 0x2010 and 0x2014. -/
def replyEntry (m i j : Nat) : Prop :=
  m ≠ 0 ∧ ((i = 0x5800 + (m - 1) ∧ j = 1) ∨ egressEntry ((m - 1) / 2) i j)

theorem Touch.wakeLink (s : State) {m : Nat} (hm : m ≠ 0) : Touch (replyEntry m) s (s.wakeLink (m - 1)) := by
  unfold State.wakeLink
  exact .ite (.refl _ s) (.trans (.ite (.wr s _ (by omega) ⟨hm, .inl ⟨rfl, rfl⟩⟩) (.refl _ s)) (.of_dict rfl))

theorem Touch.respond (s : State) (m code : Nat) (vals : List Int) (data : List Byte) :
    Touch (replyEntry m) s (s.respond m code vals data) := by
  unfold State.respond
  extract_lets a b c
  have hb : Touch (replyEntry m) s b := by
    by_cases hm : m = 0
    · exact .of_dict (by simp [b, a, hm, State.updMaster])
    · exact .trans (t := a) (by simpa [a, hm] using Touch.wakeLink s hm) (.of_dict rfl)
  split
  · exact hb
  · next hm =>
    have hm0 : m ≠ 0 := fun h => hm (.inl h)
    have hc : Touch (replyEntry m) s c := hb.trans (Touch.pushControl b _ _ (fun i j h => ⟨hm0, .inr h⟩))
    exact .ite hc (hc.trans (.of_dict rfl))

/-- An entry of the access counters or the last results reads after an answer as the record of the access left it. -/
theorem State.answer_rd (s : State) (m idx sub code : Nat) (vals : List Int) (data : List Byte) {i j : Nat} (hi : i = 0x2010 ∨ i = 0x2014)
    (hj : j < 256) (hm : m < 17) : (s.answer m idx sub code vals data).rd i j = (s.record m idx sub code).rd i j := by
  refine Touch.respond _ m code vals data i j hj (fun h => ?_)
  obtain ⟨-, ⟨h, -⟩ | ⟨h, -⟩ | ⟨h, -⟩⟩ := h <;> omega

/-- R39, R42: the access counters and the last results of the seventeen masters have 32 bits. -/
theorem tyAt_accesses : tyAt 0x2010 2 = .u32 ∧ tyAt 0x2010 3 = .u32 ∧ tyAt 0x2010 4 = .u32 := by decide +kernel

theorem tyAt_lastResult : ∀ m : Fin 17, tyAt 0x2014 (m + 1) = .u32 := by decide +kernel

section
variable (s : State) (m : Fin 17) (idx sub : Nat)

theorem State.record_granted (code : Nat) : (s.record m idx sub code).rd 0x2010 2 = (s.rd 0x2010 2 + 1) % 2 ^ 32 := by
  have hm := m.isLt
  unfold State.record
  split <;> split <;> split <;> simp (disch := omega) [State.rd_bump_at, State.rd_wr_at, tyAt_accesses]

theorem State.record_refused {code : Nat} (h : 2 ≤ code) : (s.record m idx sub code).rd 0x2010 3 = (s.rd 0x2010 3 + 1) % 2 ^ 32 ∧
    (s.record m idx sub code).rd 0x2010 4 = s.rd 0x2010 4 := by
  have hm := m.isLt
  simp (disch := omega) [State.record, h, show code ≠ 1 by omega, show code ≠ 0 by omega, State.rd_bump_at, State.rd_wr_at, tyAt_accesses]

theorem State.record_clamped : (s.record m idx sub 1).rd 0x2010 4 = (s.rd 0x2010 4 + 1) % 2 ^ 32 ∧
    (s.record m idx sub 1).rd 0x2010 3 = s.rd 0x2010 3 := by
  have hm := m.isLt
  simp (disch := omega) [State.record, State.rd_bump_at, State.rd_wr_at, tyAt_accesses]

theorem State.record_done : (s.record m idx sub 0).rd 0x2010 3 = s.rd 0x2010 3 ∧ (s.record m idx sub 0).rd 0x2010 4 = s.rd 0x2010 4 ∧
    (s.record m idx sub 0).rd 0x2014 (m + 1) = s.rd 0x2014 (m + 1) := by
  have hm := m.isLt
  simp (disch := omega) [State.record, State.rd_bump_at]

theorem State.record_lastResult {code : Nat} (hc : code ≠ 0) (hc' : code ≤ 11) (hi : idx < 2 ^ 16) (hs : sub < 2 ^ 8) :
    (s.record m idx sub code).rd 0x2014 (m + 1) = code * 2 ^ 24 + sub * 2 ^ 16 + idx := by
  have hm := m.isLt
  rw [State.record]
  simp (disch := omega) only [hc, if_false, State.rd_wr_self, tyAt_lastResult, Ty.wrap_u32]
  omega

end

end Sys2Proof.Machine

namespace Sys2Proof
open Machine

/-- Settles O5: the reset state lists nothing, so every entry reads its default. -/
theorem resetState : Obligations.ResetState := by
  refine ⟨by decide +kernel, rfl, rfl, rfl, rfl, rfl, rfl, rfl, ?_, by decide +kernel, fun i j hj => State.reset_rd hj, fun o => rfl⟩
  rw [State.reset_rd (by decide)]
  decide +kernel

/-- Settles O6: the record of the access counts it, and the reply writes none of the entries that count. -/
theorem answerOfAnAccess : Obligations.AnswerOfAnAccess := by
  intro s m i j code vals data hi hj hc
  have hm := m.isLt
  have hrd (i' j' : Nat) (h : i' = 0x2010 ∨ i' = 0x2014) (hj' : j' < 256) := s.answer_rd m i j code vals data h hj' hm
  refine ⟨s.answer_reply hm i j code vals data, .answer s m i j code vals data hm, ?granted, fun h2 => ?refused, fun h1 => ?clamped,
    fun h0 => ?done, fun hne => ?last⟩
  case granted => rw [hrd _ _ (.inl rfl) (by omega), State.record_granted]
  case refused =>
    rw [hrd _ _ (.inl rfl) (by omega), hrd _ _ (.inl rfl) (by omega)]
    exact s.record_refused m i j h2
  case clamped =>
    subst h1
    rw [hrd _ _ (.inl rfl) (by omega), hrd _ _ (.inl rfl) (by omega)]
    exact s.record_clamped m i j
  case done =>
    subst h0
    rw [hrd _ _ (.inl rfl) (by omega), hrd _ _ (.inl rfl) (by omega), hrd _ _ (.inr rfl) (by omega)]
    exact s.record_done m i j
  case last => rw [hrd _ _ (.inr rfl) (by omega), State.record_lastResult s m i j hne hc hi hj]

/-- Settles O7: a write changes the one entry, a word the four bytes. -/
theorem storesReadAsWritten : Obligations.StoresReadAsWritten := by
  refine ⟨fun s i j v hj => ⟨State.rd_wr_self s v hj, .wr s v hj ⟨rfl, rfl⟩, rfl⟩, fun s o w ho hw => ⟨?word, ?bytes, rfl, ?form⟩⟩
  case word => rw [State.ringWord_ringPut s w ho, Nat.mod_eq_of_lt hw]
  case bytes => exact fun a ha => s.ringPut_get w ho ha
  case form => exact s.ringPut_wf w ho

end Sys2Proof
end

section
/-! ## Events (O56 to O60) -/

set_option Elab.async false
namespace Sys2Proof.Machine

/-! ### Presentations -/

/-- Source `k` is presented to the arbiter. -/
def State.Presents (s : State) (k : Nat) : Prop := ∃ p ∈ s.ev.pres, p.src = k

section
variable {s t : State} {k : Nat}

theorem State.presents_raise (s : State) (k : Nat) (d : Detail) : (s.raise k d).Presents k := by
  unfold State.Presents
  rw [State.raise_pres]
  exact present_src

theorem State.presents_raise1 (s : State) (k d : Nat) : (s.raise1 k d).Presents k := s.presents_raise k _

theorem State.Presents.of_pres (h : s.Presents k) (e : t.ev.pres = s.ev.pres) : t.Presents k := by
  unfold State.Presents
  rw [e]
  exact h

theorem State.Presents.raise (h : s.Presents k) (j : Nat) (d : Detail) : (s.raise j d).Presents k := by
  obtain ⟨p, hp, hk⟩ := h
  refine ⟨p, ?_, hk⟩
  rw [State.raise_pres]
  exact mem_present hp

theorem State.Presents.raise1 (h : s.Presents k) (j d : Nat) : (s.raise1 j d).Presents k := h.raise j _

theorem State.Presents.raiseIf (h : s.Presents k) (c : Bool) (j d : Nat) : (s.raiseIf c j d).Presents k := by
  unfold State.raiseIf
  split
  · exact h.raise1 j d
  · exact h

theorem State.Presents.wr (h : s.Presents k) (i j : Nat) (v : Int) : (s.wr i j v).Presents k := h

theorem State.Presents.foldl {α : Type} {f : State → α → State} (hf : ∀ s a, s.Presents k → (f s a).Presents k) :
    ∀ (l : List α) {s : State}, s.Presents k → (l.foldl f s).Presents k
  | [], _, h => h
  | a :: l, _, h => State.Presents.foldl hf l (hf _ a h)

theorem State.Presents.each (h : s.Presents k) {n : Nat} {f : Nat → State → State} (hf : ∀ i t, t.Presents k → (f i t).Presents k) :
    (s.each n f).Presents k :=
  State.Presents.foldl (fun s a => hf a s) _ h

end

/-- A state whose parts are those of another one but for the dictionary, the arbiter, the doors, the queues and the links. -/
theorem State.eq_of_eventParts {s t : State} (hp : t.pending = s.pending)
    (h : ∀ p : Part, p ∉ [.dict, .ev, .door, .que, .lnk, .log, .archive, .fatal, .ec, .slots, .lines, .egress] → p.Same s t) :
    t = { s with dict := t.dict, ev := t.ev, door := t.door, que := t.que, lnk := t.lnk } := by
  have h1 : t.now = s.now := h .now (by decide)
  have h2 : t.compassOff = s.compassOff := h .compassOff (by decide)
  have h3 : t.dev = s.dev := h .dev (by decide)
  have h4 : t.pow = s.pow := h .pow (by decide)
  have h5 : t.tim = s.tim := h .tim (by decide)
  have h6 : t.dma = s.dma := h .dma (by decide)
  have h7 : t.fe = s.fe := h .fe (by decide)
  have h8 : t.sh = s.sh := h .sh (by decide)
  have h9 : t.rcp = s.rcp := h .rcp (by decide)
  have h10 : t.lamp = s.lamp := h .lamp (by decide)
  have h11 : t.can = s.can := h .can (by decide)
  have h12 : t.lan = s.lan := h .lan (by decide)
  have h13 : t.aux = s.aux := h .aux (by decide)
  have h14 : t.upd = s.upd := h .upd (by decide)
  have h15 : t.trm = s.trm := h .trm (by decide)
  have h16 : t.rdg = s.rdg := h .rdg (by decide)
  have h17 : t.trn = s.trn := h .trn (by decide)
  have h18 : t.csb = s.csb := h .csb (by decide)
  rw [← h1, ← h2, ← h3, ← h4, ← h5, ← h6, ← h7, ← h8, ← h9, ← h10, ← h11, ← h12, ← h13, ← h14, ← h15, ← h16, ← h17, ← h18, ← hp]

/-! ### The arbiter -/

/-- The entries that routing an event may write beside the source's own: the occurrence and detail of what it raises in turn, the counts of
lost and dropped entries, and the egress queues' counts. -/
def routeEntry (i j : Nat) : Prop :=
  (0x2800 ≤ i ∧ i < 0x2C00 ∧ (j = 8 ∨ j = 0xB ∨ j = 0xC)) ∨ (i = 0x5C00 ∧ (j = 4 ∨ j = 7)) ∨ (0x5610 ≤ i ∧ i < 0x5618)

theorem routeEntry_raise {k : Nat} (hk : k < 1024) (j : Nat) (h : j = 8 ∨ j = 0xB ∨ j = 0xC) : routeEntry (0x2800 + k) j :=
  .inl ⟨by omega, by omega, h⟩

theorem routeEntry_egress {k i j : Nat} (hk : k < 8) (h : egressEntry k i j) : routeEntry i j := by
  unfold egressEntry at h
  unfold routeEntry
  omega

theorem Touch.queueEmergency (s : State) (r : LogRec) : Touch routeEntry s (s.queueEmergency r) := by
  unfold State.queueEmergency
  refine .ite (.of_dict rfl) ((Touch.bump s _ (by omega) ?_).trans (.raiseIf _ _ _ _ (routeEntry_raise (by omega))))
  exact .inr (.inl ⟨rfl, .inr rfl⟩)

theorem Touch.startPulse (P : Nat → Nat → Prop) (s : State) (p : Nat) : Touch P s (s.startPulse p) := .ite (.of_dict rfl) (.refl _ _)

theorem Touch.queueEventPackets (P : Nat → Nat → Prop) (s : State) (r : LogRec) : Touch P s (s.queueEventPackets r) :=
  .eachOf (f := fun n s => s.updLink n _) (fun _ _ _ => .of_dict rfl) s

theorem Touch.route (s : State) (r : LogRec) : Touch routeEntry s (s.route r) := by
  unfold State.route
  extract_lets m a b e c
  have ha : Touch routeEntry s a := .ite (.queueEmergency s r) (.refl _ s)
  have hb : Touch routeEntry s b := ha.trans (.ite (.queueEventPackets _ a r) (.refl _ a))
  have hc : Touch routeEntry s c := hb.trans (.ite (.of_dict rfl) (.refl _ b))
  exact .ite (.refl _ s) (hc.trans (.ite (.startPulse _ c _) (.refl _ c)))

theorem Touch.sendEvents {n : Nat} (hn : n < 16) : ∀ (fuel : Nat) (s : State), Touch routeEntry s (s.sendEvents n fuel)
  | 0, s => .refl _ s
  | fuel + 1, s => by
    unfold State.sendEvents
    split
    · exact .refl _ s
    · extract_lets a
      have ha : Touch routeEntry s a := (Touch.pushControl s n _ (fun i j => routeEntry_egress (by omega))).trans (.of_dict rfl)
      exact ha.trans (.sendEvents hn fuel a)

theorem Touch.flushEvents (s : State) : Touch routeEntry s s.flushEvents := by
  unfold State.flushEvents
  exact .ite (.refl _ s) (.each (fun n hn t => .trans (t := t.updLink n _) (.of_dict rfl) (.sendEvents hn _ _)) s)

theorem Touch.logEntry (s : State) (r : LogRec) : Touch routeEntry s (s.logEntry r) := by
  unfold State.logEntry
  extract_lets old lost a
  have ha : Touch routeEntry s a := .ite (.refl _ s) (.bump s _ (by omega) (.inr (.inl ⟨rfl, .inl rfl⟩)))
  exact ha.trans (.of_dict rfl)

/-- A sound state's entry reads as a value of its type, if its default is one. -/
theorem State.Sound.wrap_rd {s : State} (h : s.Sound) {i j : Nat} (hj : j < 256) (hd : (tyAt i j).wrap (dfltAt i j) = dfltAt i j) :
    (tyAt i j).wrap (s.rd i j) = s.rd i j := by
  have listed : ∀ (d : List (Nat × Int)) (k : Nat) (v : Int), Store.find d k = some v → (k, v) ∈ d := by
    intro d k v hf
    induction d with
    | nil => cases hf
    | cons p r ih =>
      obtain ⟨a, b⟩ := p
      rw [Store.find] at hf
      split at hf
      · next ha => cases hf; subst ha; exact .head _
      · exact .tail _ (ih hf)
  rw [State.rd, keyDflt_key hj]
  cases hf : Store.find s.dict (key i j) with
  | none => exact hd
  | some v =>
    obtain ⟨-, hv⟩ := h.1.2 _ (listed _ _ _ hf)
    rwa [keyTy_key hj] at hv

/-! ### One stamped event -/

/-- The log entry that stamping a presented event makes (R437, R438, R441). -/
def State.entryOf (s : State) (p : Present) : LogRec where
  seq := s.rdN 0x5C00 1
  time := s.compass
  src := p.src
  cls := s.evClassOf p.src
  wide := match p.detail with | .narrow _ => false | .wide _ _ => true
  boot := s.dev.st = .trailhead
  rep := s.rd (0x2800 + p.src) 1 = 1
  detail := match p.detail with | .narrow d => d | .wide _ _ => 0
  a := match p.detail with | .narrow _ => 0 | .wide a _ => a
  b := match p.detail with | .narrow _ => 0 | .wide _ b => b

/-- The entries that stamping source `src` writes (R433, R438). -/
def State.markStamped (s : State) (src : Nat) : State :=
  (((s.wr (0x2800 + src) 1 1).wr (0x2800 + src) 9 (s.rdN 0x5C00 1)).wr (0x2800 + src) 0xA s.compass).wr 0x5C00 1 (nextSeq (s.rdN 0x5C00 1))

/-- What an entry of the log leaves in the boot record and in the fatal flag (R367). -/
def State.noteClass (s : State) (r : LogRec) : State :=
  let t := if r.boot then { s with ev := { s.ev with bootCount := s.ev.bootCount + 1, bootClass := max s.ev.bootClass r.cls } } else s
  if r.cls = 3 then { t with ev := { t.ev with fatal := true } } else t

/-- A stamped event in the log, before it is routed. -/
def State.logged (s : State) (p : Present) : State :=
  let t := (s.markStamped p.src).logEntry (s.entryOf p)
  (if p.src = 832 then t.tellClamps (s.rdN 0x5C00 1) else t).noteClass (s.entryOf p)

theorem State.stampOne_of_live {s : State} {p : Present} (he : s.rd (0x2800 + p.src) 2 = 1)
    (hl : s.rd (0x2800 + p.src) 1 ≠ 1 ∨ s.rd (0x2800 + p.src) 7 = 1) : s.stampOne p = (s.logged p).route (s.entryOf p) := by
  have hs : ¬ (s.rd (0x2800 + p.src) 2 ≠ 1 ∨ (s.rd (0x2800 + p.src) 1 = 1 ∧ s.rd (0x2800 + p.src) 7 ≠ 1)) := by
    rintro (h | ⟨h1, h7⟩)
    · exact h he
    · exact hl.elim (· h1) h7
  exact if_neg hs

theorem State.stampOne_of_silent {s : State} {p : Present}
    (h : s.rd (0x2800 + p.src) 2 ≠ 1 ∨ (s.rd (0x2800 + p.src) 1 = 1 ∧ s.rd (0x2800 + p.src) 7 ≠ 1)) :
    s.stampOne p = if p.src = 832 then s.tellClamps 0 else s :=
  if_pos h

section
variable (s : State) (r : LogRec) (p : Present)

theorem State.logEntry_log : (s.logEntry r).ev.log = r :: s.ev.log.filter (fun e => e.seq % 4096 ≠ r.seq % 4096) := by
  unfold State.logEntry
  extract_lets old lost a
  have ha : a.ev = s.ev := by simp only [a]; split <;> rfl
  show r :: a.ev.log.filter _ = _
  rw [ha]

theorem State.noteClass_log : (s.noteClass r).ev.log = s.ev.log := by
  unfold State.noteClass
  split <;> split <;> rfl

theorem State.noteClass_fatal : (s.noteClass r).ev.fatal = true ↔ s.ev.fatal = true ∨ r.cls = 3 := by
  unfold State.noteClass
  split <;> split <;> simp_all

theorem State.noteClass_dict : (s.noteClass r).dict = s.dict := by
  unfold State.noteClass
  split <;> split <;> rfl

theorem State.logged_log : (s.logged p).ev.log =
    s.entryOf p :: s.ev.log.filter (fun e => e.seq % 4096 ≠ (s.entryOf p).seq % 4096) := by
  have ht := (s.markStamped p.src).logEntry_log (s.entryOf p)
  rw [State.logged, State.noteClass_log]
  split <;> exact ht

theorem State.logged_fatal : (s.logged p).ev.fatal = true ↔ s.ev.fatal = true ∨ s.rdN (0x2800 + p.src) 3 = 3 := by
  have ht : ((s.markStamped p.src).logEntry (s.entryOf p)).ev.fatal = s.ev.fatal := by
    unfold State.logEntry
    dsimp only
    split <;> rfl
  rw [State.logged, State.noteClass_fatal]
  split <;> simp only [State.tellClamps, ht] <;> rfl

theorem Touch.logged : Touch routeEntry (s.markStamped p.src) (s.logged p) := by
  refine (Touch.logEntry _ (s.entryOf p)).trans (.of_dict ?_)
  rw [State.logged, State.noteClass_dict]
  split <;> rfl

end

theorem tyAt_sequence : tyAt 0x5C00 1 = .u32 := by decide +kernel

section
variable (s : State) {src : Nat} (h : src < 1024)
include h

/-- What stamping leaves in the source's entries and in the sequence number. -/
theorem State.markStamped_latch : (s.markStamped src).rd (0x2800 + src) 1 = 1 := by
  have hty := (evTy ⟨src, h⟩).1
  rw [keyTy_key (by omega)] at hty
  simp (disch := omega) [State.markStamped, State.rd_wr_at, hty, show ¬ (0x5C00 = 0x2800 + src) by omega]

theorem State.markStamped_time : (s.markStamped src).rd (0x2800 + src) 0xA = s.compass := by
  have hty := (evTy ⟨src, h⟩).2.2.2.2.2.2.1
  rw [keyTy_key (by omega)] at hty
  have hc : s.compass < 2 ^ 64 := Nat.mod_lt _ (by decide)
  simp (disch := omega) only [State.markStamped, State.rd_wr_at, hty, show ¬ (0x5C00 = 0x2800 + src) by omega, Ty.wrap_u64, false_and, true_and,
    if_true, if_false]
  omega

theorem State.markStamped_stamp (hw : (tyAt 0x5C00 1).wrap (s.rd 0x5C00 1) = s.rd 0x5C00 1) :
    (s.markStamped src).rd (0x2800 + src) 9 = s.rd 0x5C00 1 := by
  have hty := (evTy ⟨src, h⟩).2.2.2.2.2.1
  rw [keyTy_key (by omega)] at hty
  rw [tyAt_sequence, Ty.wrap_u32] at hw
  have hq : ((s.rdN 0x5C00 1 : Nat) : Int) = s.rd 0x5C00 1 := Int.toNat_of_nonneg (by omega)
  simp (disch := omega) [State.markStamped, State.rd_wr_at, hty, show ¬ (0x5C00 = 0x2800 + src) by omega, hq]
  omega

omit h in
theorem State.markStamped_next (src : Nat) (hw : (tyAt 0x5C00 1).wrap (s.rd 0x5C00 1) = s.rd 0x5C00 1) :
    (s.markStamped src).rd 0x5C00 1 = if s.rd 0x5C00 1 = 0xFFFFFFFF then 1 else s.rd 0x5C00 1 + 1 := by
  rw [tyAt_sequence, Ty.wrap_u32] at hw
  have hq : ((s.rdN 0x5C00 1 : Nat) : Int) = s.rd 0x5C00 1 := Int.toNat_of_nonneg (by omega)
  rw [State.markStamped, State.rd_wr_self _ _ (by omega), tyAt_sequence, Ty.wrap_u32, nextSeq]
  split <;> split <;> omega

end

/-- Stamping writes entries of the sources and the sequence number only. -/
theorem Touch.markStamped (s : State) {src : Nat} (h : src < 1024) :
    Touch (fun i _ => (0x2800 ≤ i ∧ i < 0x2C00) ∨ i = 0x5C00) s (s.markStamped src) :=
  (((Touch.wr s _ (by omega) (.inl (by omega))).trans (.wr _ _ (by omega) (.inl (by omega)))).trans
    (.wr _ _ (by omega) (.inl (by omega)))).trans (.wr _ _ (by omega) (.inr rfl))

/-! ### The arbiter's cycle -/

/-- The state that a cycle stamps: its time has passed, nothing is presented. -/
def State.taken (s : State) (dt : Nat) : State := { s.pass dt with ev := { s.ev with pres := [] } }

theorem exec_eventStamp_one {s : State} {dt : Nat} {p : Present} (hpow : s.powered = true) (hp : s.ev.pres = [p]) :
    exec (.eventStamp dt) s = .next (((s.taken dt).stampOne p).flushEvents) := by
  have hl : (s.pass dt).ev.pres = [p] := hp
  refine (event_due (act := State.stamp) hpow).trans ?_
  unfold State.stamp
  dsimp only
  rw [hl]
  rfl

/-- A cycle leaves of the state what no stamped event reaches. -/
theorem eventStamp_frame {s t : State} {dt : Nat} (h : exec (.eventStamp dt) s = .next t) :
    t = { s with now := s.now + dt, dict := t.dict, ev := t.ev, door := t.door, que := t.que, lnk := t.lnk } := by
  have hpend : t.pending = (s.pass dt).pending := by
    obtain ⟨r, hr, hk⟩ := exec_staysSound (.eventStamp dt) s
    rw [hr] at h
    cases h
    exact hk.pend
  refine State.eq_of_eventParts (s := s.pass dt) hpend (fun p hp => ?_)
  obtain ⟨r, hr, hk⟩ := exec_keeps (.eventStamp dt) s (p := p) (fun hm => hp (by
    simp only [Instr.mayChange, List.mem_cons] at hm ⊢
    tauto))
  rw [hr] at h
  cases h
  exact hk.same

end Sys2Proof.Machine

namespace Sys2Proof
open Machine

/-- Settles O56: by the laws of `State.raise`. -/
theorem raisingASource : Obligations.RaisingASource := by
  intro s src d h
  refine ⟨s.raise_occurrences d h, s.raise_detailA d h, s.raise_detailB d h, s.presents_raise src d, fun p hp => ?kept, fun hn => ?new, ?frame,
    .raise s src d (fun j hj => ⟨rfl, hj⟩)⟩
  case kept => rw [State.raise_pres]; exact mem_present hp
  case new => rw [State.raise_pres]; exact present_new hn
  case frame => rw [State.raise_pres]; exact s.raise_eq src d

/-- Settles O57: a cycle with one event presented stamps it, routes its entry and sends what waits; the last two leave the log alone. -/
theorem arbiterCycle : Obligations.ArbiterCycle := by
  constructor
  · intro s dt src d hs hpow hsrc hp he hl
    have hx := exec_eventStamp_one (dt := dt) hpow hp
    generalize hu : s.taken dt = u at hx
    have hrd (i j : Nat) : u.rd i j = s.rd i j := by subst hu; rfl
    have hone : u.stampOne ⟨src, d⟩ = (u.logged ⟨src, d⟩).route (u.entryOf ⟨src, d⟩) :=
      State.stampOne_of_live (by rw [hrd]; exact he) (by rw [hrd, hrd]; exact hl)
    rw [hone] at hx
    have hw : (tyAt 0x5C00 1).wrap (u.rd 0x5C00 1) = u.rd 0x5C00 1 := by
      rw [hrd]; exact hs.wrap_rd (by omega) (by decide +kernel)
    have htouch : Touch routeEntry (u.markStamped src) ((u.logged ⟨src, d⟩).route (u.entryOf ⟨src, d⟩)).flushEvents :=
      ((Touch.logged u ⟨src, d⟩).trans (.route _ _)).trans (.flushEvents _)
    have hlog : ((u.logged ⟨src, d⟩).route (u.entryOf ⟨src, d⟩)).flushEvents.ev.log = (u.logged ⟨src, d⟩).ev.log :=
      (State.flushEvents_keeps (State.route_keeps (.refl .log _) rfl _) rfl).same
    have hfatal : ((u.logged ⟨src, d⟩).route (u.entryOf ⟨src, d⟩)).flushEvents.ev.fatal = (u.logged ⟨src, d⟩).ev.fatal :=
      (State.flushEvents_keeps (State.route_keeps (.refl .fatal _) rfl _) rfl).same
    have off {i j : Nat} (h : ¬ routeEntry i j) (hj : j < 256) := htouch i j hj h
    refine ⟨_, u.entryOf ⟨src, d⟩, hx, ?_, ?_, rfl, ?_, ?_, ?_, ?_, ?_, ?_, ?_, ?_, ?_, ?_, eventStamp_frame hx, ?_⟩
    · rw [hlog, State.logged_log]; subst hu; rfl
    · exact congrArg Int.toNat (hrd _ _)
    · exact congrArg Int.toNat (hrd _ _)
    · subst hu; rfl
    · simp [State.entryOf, hrd]
    · subst hu; rfl
    · cases d <;> simp [State.entryOf]
    · rw [off (by unfold routeEntry; omega) (by omega), u.markStamped_latch hsrc]
    · rw [off (by unfold routeEntry; omega) (by omega), u.markStamped_stamp hsrc hw, hrd]
    · rw [off (by unfold routeEntry; omega) (by omega), u.markStamped_time hsrc]; rfl
    · rw [off (by unfold routeEntry; omega) (by omega), u.markStamped_next src hw, hrd]
    · rw [hfatal, State.logged_fatal, State.rdN, hrd]; subst hu; rfl
    · refine .trans (t := u) (.of_dict (by subst hu; rfl)) (.trans ((Touch.markStamped u hsrc).mono ?_) (htouch.mono ?_))
      · intro i j h; omega
      · intro i j h; unfold routeEntry at h; omega
  · intro s dt src d hpow hsrc hp hoff
    refine ⟨_, exec_eventStamp_one hpow hp, ?_, ?_, ?_⟩
    all_goals rw [State.stampOne_of_silent (by simpa [State.taken] using hoff)]
    · refine Eq.trans (State.flushEvents_keeps (.refl .log _) rfl).same ?_
      split <;> rfl
    · rw [Touch.flushEvents _ _ _ (by omega) (by unfold routeEntry; omega)]
      split <;> rfl
    · rw [Touch.flushEvents _ _ _ (by omega) (by unfold routeEntry; omega)]
      split <;> rfl

end Sys2Proof
end

section
/-! ## Emergencies, host writes to the events, shorts (O58 to O60) -/

set_option Elab.async false
namespace Sys2Proof.Machine

@[simp] theorem State.masterPresent_pass (s : State) (dt m : Nat) : (s.pass dt).masterPresent m = s.masterPresent m := rfl

/-! ### Emergencies and pulses -/

theorem emergencyBytes_fields (r : LogRec) (err : Nat) : (emergencyBytes r err).length = 8 ∧
    unle ((emergencyBytes r err).take 2) = (0xFF00 + r.cls) % 2 ^ 16 ∧ unle (((emergencyBytes r err).drop 2).take 1) = err % 2 ^ 8 ∧
    unle (((emergencyBytes r err).drop 3).take 2) = r.src % 2 ^ 16 ∧ unle ((emergencyBytes r err).drop 5) = r.seq % 2 ^ 24 := by
  have field (n v : Nat) := unle_le n v
  refine ⟨by simp [emergencyBytes, le_length], ?_, ?_, ?_, ?_⟩
  · rw [← field 2]; rfl
  · rw [← field 1]; rfl
  · rw [← field 2]; rfl
  · rw [← field 3]; rfl

theorem vget_eq {α : Type} [Inhabited α] {n : Nat} (v : Vector α n) (i : Fin n) : vget v i = v[i] := by
  simp [vget]

theorem vupd_get {α : Type} {n : Nat} (v : Vector α n) (i k : Fin n) (f : α → α) : (vupd v i f)[k] = if k = i then f v[k] else v[k] := by
  by_cases h : k = i
  · subst h; simp [vupd]
  · have hne : (i : Nat) ≠ k := fun e => h (Fin.ext e.symm)
    simp [vupd, h, hne]

/-! ### Rows that are written at any time -/

/-- Entry `i:j` may be written in every state. -/
def rowOpen (i j : Nat) : Bool :=
  match lookup i j with
  | none => false
  | some e => e.row.acc != .ro && e.row.when == .always && !(i == 0x5410 && j == 3)

theorem State.rowRefusal_of_open (s : State) {i j : Nat} (h : rowOpen i j = true) : s.rowRefusal i j = 0 := by
  unfold rowOpen at h
  unfold State.rowRefusal
  split at h
  · cases h
  · next e he =>
    simp only [Bool.and_eq_true, bne_iff_ne, beq_iff_eq, Bool.not_eq_true', Bool.and_eq_false_iff, beq_eq_false_iff_ne] at h
    obtain ⟨⟨ha, hw⟩, hij⟩ := h
    simp only [he, ha, hw, false_or]
    exact if_neg (by omega)

/-- A present master's write after Ready of a value in range to such an entry is answered with what the entry's operation answers. -/
theorem State.command_open {s : State} {m i j : Nat} {v : Int} {op : Op} (hm : s.masterPresent m = true) (hr : s.dev.ready = true)
    (ho : rowOpen i j = true) (hv : verdict i j v = .keep v) : s.command m i j v op = (op v s).1.answer m i j (op v s).2 :=
  State.command_keep hm hr (s.rowRefusal_of_open ho) hv

/-- The same of a command of the host. -/
theorem hostCommand_open {s : State} {dt i j : Nat} {m : Fin 17} {v : Int} {op : Op} (hm : s.masterPresent m = true) (hr : s.dev.ready = true)
    (ho : rowOpen i j = true) (hv : verdict i j v = .keep v) :
    hostCommand dt m i j v op s = .next ((op v (s.pass dt)).1.answer m i j (op v (s.pass dt)).2) :=
  congrArg _ (State.command_open (s := s.pass dt) hm hr ho hv)

/-! ### Latches -/

/-- R435: a latch is an entry that 0 may be written to at any time. -/
theorem latch_row : ∀ k : Fin 1024, rowOpen (0x2800 + k) 1 = true ∧ verdict (0x2800 + k) 1 0 = .keep 0 ∧
    tyAt (0x2800 + k) 1 = .u8 ∧ dfltAt (0x2800 + k) 1 = 0 := by decide +kernel

/-- What a clear by class does with one latched source (R450). -/
def clearIfClass (mask k : Nat) (s : State) : State := if bit mask (s.evClassOf k) then s.wr (0x2800 + k) 1 0 else s

section
variable (mask : Nat)

theorem clearIfClass_eq (k : Nat) (s : State) (d : List (Nat × Int)) :
    { clearIfClass mask k s with dict := d } = { s with dict := d } := by
  unfold clearIfClass
  split <;> rfl

theorem Touch.clearIfClass (k : Nat) (s : State) : Touch (fun i j => i = 0x2800 + k ∧ j = 1) s (clearIfClass mask k s) :=
  .ite (.wr s _ (by omega) ⟨rfl, rfl⟩) (.refl _ s)

theorem clearIfClass_class (k h : Nat) (s : State) : (clearIfClass mask k s).evClassOf h = s.evClassOf h :=
  congrArg Int.toNat (Touch.clearIfClass mask k s _ _ (by omega) (by omega))

theorem clearIfClass_latch {k h : Nat} (hk : k < 1024) (s : State) : (clearIfClass mask k s).rd (0x2800 + h) 1 =
    if k = h ∧ bit mask (s.evClassOf h) = true then 0 else s.rd (0x2800 + h) 1 := by
  unfold clearIfClass
  by_cases e : k = h
  · subst e
    split
    · rw [State.rd_wr_self _ _ (by omega), (latch_row ⟨k, hk⟩).2.2.1]
      simp_all
    · simp_all
  · split
    · rw [State.rd_wr_at _ _ (by omega) (by omega)]
      simp [e]
    · simp [e]

theorem clearEach_eq : ∀ (l : List Nat) (s : State), s.eachOf l (clearIfClass mask) = { s with dict := (s.eachOf l (clearIfClass mask)).dict }
  | [], _ => rfl
  | k :: l, s => by
    refine (clearEach_eq l (clearIfClass mask k s)).trans ?_
    exact clearIfClass_eq mask k s _

/-- A clear over a list of sources clears the latches of those of the classes. -/
theorem clearEach_latch (h : Nat) : ∀ (l : List Nat) (_ : ∀ k ∈ l, k < 1024) (s : State), (s.eachOf l (clearIfClass mask)).rd (0x2800 + h) 1 =
    if h ∈ l ∧ bit mask (s.evClassOf h) = true then 0 else s.rd (0x2800 + h) 1
  | [], _, s => by simp [State.eachOf]
  | k :: l, hl, s => by
    have ih := clearEach_latch h l (fun k hk => hl k (.tail _ hk)) (clearIfClass mask k s)
    rw [clearIfClass_class, clearIfClass_latch mask (hl k (.head _))] at ih
    refine Eq.trans ih ?_
    by_cases hb : bit mask (s.evClassOf h) = true
    · by_cases hkh : k = h
      · simp [hb, hkh]
      · simp [hb, hkh, Ne.symm hkh]
    · simp [hb]

end

section
variable (s : State)

theorem State.latchedSources_lt {k : Nat} (h : k ∈ s.latchedSources) : k < 1024 := by
  simp only [State.latchedSources, List.mem_map, List.mem_filter, decide_eq_true_eq] at h
  obtain ⟨p, ⟨-, h⟩, rfl⟩ := h
  omega

theorem Store.find_none : ∀ {l : List (Nat × Int)} {k : Nat}, (∀ p ∈ l, p.1 ≠ k) → Store.find l k = none
  | [], _, _ => rfl
  | p :: l, k, h => by
    obtain ⟨a, b⟩ := p
    rw [Store.find, if_neg (h (a, b) (.head _)), Store.find_none (fun p hp => h p (.tail _ hp))]

/-- A source that is not listed has a clear latch. -/
theorem State.latch_of_not_mem {k : Nat} (hk : k < 1024) (h : k ∉ s.latchedSources) : s.rd (0x2800 + k) 1 = 0 := by
  have hn : Store.find s.dict (key (0x2800 + k) 1) = none := by
    refine Store.find_none (fun p hp e => h ?_)
    simp only [State.latchedSources, List.mem_map, List.mem_filter, decide_eq_true_eq]
    refine ⟨p, ⟨hp, ?_⟩, ?_⟩ <;> rw [e] <;> unfold key <;> omega
  rw [State.rd, hn, keyDflt_key (by omega)]
  exact (latch_row ⟨k, hk⟩).2.2.2

theorem State.clearClasses_latch (mask : Nat) {k : Nat} (hk : k < 1024) : (s.clearClasses mask).rd (0x2800 + k) 1 =
    if bit mask (s.evClassOf k) = true then 0 else s.rd (0x2800 + k) 1 := by
  refine (clearEach_latch mask k s.latchedSources (fun _ h => s.latchedSources_lt h) s).trans ?_
  by_cases h : k ∈ s.latchedSources
  · simp [h]
  · simp [h, s.latch_of_not_mem hk h]

theorem Touch.clearClasses (mask : Nat) : Touch (fun i j => 0x2800 ≤ i ∧ i < 0x2C00 ∧ j = 1) s (s.clearClasses mask) :=
  .eachOf (fun k hk t => (Touch.clearIfClass mask k t).mono (fun i j h => by have := s.latchedSources_lt hk; omega)) s

end

/-! ### Host events -/

/-- R451: the fields of a write to 0x5C00:06. -/
theorem opRaiseHost_fields {src detail : Nat} (hd : detail < 2 ^ 16) (s : State) :
    opRaiseHost ((src * 2 ^ 22 + detail : Nat) : Int) s = if 960 ≤ src % 1024 ∧ src % 1024 ≤ 991 then (s.raise1 (src % 1024) detail, 0) else (s, 5) := by
  have hs : field (src * 2 ^ 22 + detail) 31 22 = src % 1024 := by unfold field; omega
  have hz : field (src * 2 ^ 22 + detail) 21 16 = 0 := by unfold field; omega
  have hl : (src * 2 ^ 22 + detail) % 65536 = detail := by omega
  rw [opRaiseHost, Int.toNat_natCast, hs, hz, hl]
  simp

/-! ### Shorts -/

theorem tyAt_short : ∀ g : Fin 16, tyAt 0x5C20 (g + 1) = .u8 ∧ tyAt 0x5C21 (g + 1) = .u32 := by decide +kernel

/-- What a short leaves of a group (R453). -/
def Group.shorted (q : Group) (now : Nat) : Group :=
  { q with running := none, due := none, latch := none, selfTimed := 0, retryAt := now + 100000000 }

/-- R453: a short before the group's channels break off. -/
def State.shortTold (s : State) (g : Nat) : State := ((s.wr 0x5C20 (g + 1) 1).bump 0x5C21 (g + 1)).raise1 (920 + g) 0

/-- R453: the readouts of the group's channels break off. -/
def State.shortDropped (s : State) (g : Nat) : State := (s.shortTold g).eachOf ((s.shortTold g).channelsOf g) (fun n s => s.dropReadings n)

theorem State.shortDropped_same (s : State) (g : Nat) {p : Part} (hp : Off p 0x20100900) : p.Same (s.shortTold g) (s.shortDropped g) :=
  (Keeps.eachOf (.refl p _) (fun n _ h => State.dropReadings_keeps h hp n)).same

theorem exec_tgOutputShort {s : State} {dt : Nat} {g : Fin 16} (h : (s.pass dt).groupRuns g = true) : exec (.tgOutputShort dt g) s =
    .next (((s.pass dt).shortDropped g).updGroup g (fun q => q.shorted ((s.pass dt).shortDropped g).now)) :=
  (event_due h : execTgOutputShort dt g s = _)

section
variable (s : State) (g : Fin 16)

theorem Touch.shortTold : Touch (fun i j => (i = 0x5C20 ∨ i = 0x5C21) ∧ j = g + 1 ∨ i = 0x2800 + (920 + g)) s (s.shortTold g) :=
  ((Touch.wr s _ (by omega) (.inl ⟨.inl rfl, rfl⟩)).trans (.bump _ _ (by omega) (.inl ⟨.inr rfl, rfl⟩))).trans
    (.raise1 _ _ _ (fun _ _ => .inr rfl))

theorem State.shortTold_status : (s.shortTold g).rd 0x5C20 (g + 1) = 1 := by
  have hg := g.isLt
  rw [State.shortTold, State.raise1, State.rd_raise _ _ _ (by omega) (by omega), State.rd_bump_at _ _ (by omega) (by omega), if_neg (by omega),
    State.rd_wr_self _ _ (by omega), (tyAt_short g).1]
  rfl

theorem State.shortTold_count : (s.shortTold g).rd 0x5C21 (g + 1) = (s.rd 0x5C21 (g + 1) + 1) % 2 ^ 32 := by
  have hg := g.isLt
  rw [State.shortTold, State.raise1, State.rd_raise _ _ _ (by omega) (by omega), State.rd_bump_at _ _ (by omega) (by omega), if_pos ⟨rfl, rfl⟩,
    State.rd_wr_at _ _ (by omega) (by omega), if_neg (by omega), (tyAt_short g).2]
  rfl

end

theorem State.group_updGroup (s : State) {g : Nat} (hg : g < 16) (f : Group → Group) (h : Nat) :
    (s.updGroup g f).group h = if g = h then f (s.group h) else s.group h := by
  show vget (vupd s.tim.groups g f) h = _
  simp [vget_vupd, hg, State.group]

end Sys2Proof.Machine

namespace Sys2Proof
open Machine

/-- Settles O58: each command does the one thing that is due; an emergency's fields are read back from its bytes. -/
theorem emergencyArchivePulse : Obligations.EmergencyArchivePulse := by
  refine ⟨fun s dt r err rest hm he => ⟨_, (event_due (by simpa [he] using hm) : execEmergencySend dt s = _), ?_⟩, fun s dt q rest r hq hu hf => ?_, fun s dt p e hp he => ?_⟩
  · have hu : (s.pass dt).ev.emergencies = (r, err) :: rest := he
    rw [hu]
    exact ⟨rfl, emergencyBytes_fields r err⟩
  · refine (event_due hq : execArchiveCopy dt s = _).trans ?_
    unfold State.archiveOne
    simp [hu, hf]
  · refine ⟨_, (event_due (by simp [vget_eq, hp, he]) : execGpPulseEnd dt p s = _), rfl, ?_, fun k hk => ?_⟩
    · exact (vupd_get _ p p _).trans (if_pos rfl)
    · exact (vupd_get _ p k _).trans (if_neg hk)

/-- Settles O59: each write is granted; the clear by class walks the latched sources. -/
theorem eventWrites : Obligations.EventWrites := by
  refine ⟨fun s dt m k hm hr => ?latch, fun s dt m mask hm hr h1 h15 => ⟨(s.pass dt).clearClasses mask, ?_, ?_, fun k hk => ?_, ?_⟩,
    fun s dt m src detail hm hr hs hd => ?host⟩
  case latch =>
    obtain ⟨ho, hv, -⟩ := latch_row k
    exact (hostCommand_open hm hr ho hv : execLatchClear dt m k s = _)
  case host =>
    have hv : (BitVec.ofNat 32 (src * 2 ^ 22 + detail)).toNat = src * 2 ^ 22 + detail := by
      rw [BitVec.toNat_ofNat, Nat.mod_eq_of_lt (by omega)]
    have hk : verdict 0x5C00 6 ((src * 2 ^ 22 + detail : Nat) : Int) = .keep ((src * 2 ^ 22 + detail : Nat) : Int) := by
      rw [verdict_of (show rowShape 0x5C00 6 = some (.wo, .always, .any, .u32) from rfl)]
      refine if_pos ?_
      simp [Ty.fits]
      omega
    show hostCommand dt m 0x5C00 6 (BitVec.ofNat 32 (src * 2 ^ 22 + detail)).toNat opRaiseHost s = _
    rw [hv, hostCommand_open hm hr rfl hk, opRaiseHost_fields hd, Nat.mod_eq_of_lt hs]
    split <;> rfl
  · have hk : verdict 0x5C00 5 (mask : Int) = .keep (mask : Int) := by
      rw [verdict_of (show rowShape 0x5C00 5 = some (.wo, .always, .only [(1, 15)], .u8) from rfl)]
      simp [Range.apply]
      omega
    exact (hostCommand_open hm hr rfl hk : execClearLatchesByClass dt m mask s = _)
  · exact clearEach_eq mask _ _
  · refine ((s.pass dt).clearClasses_latch mask hk).trans (if_congr ?_ rfl rfl)
    exact decide_eq_true_iff
  · exact .trans (t := s.pass dt) (.of_dict rfl) (Touch.clearClasses _ mask)

/-- Settles O60: the broken-off readouts touch neither the dictionary, the arbiter, nor the groups. -/
theorem timingOutputShort : Obligations.TimingOutputShort := by
  constructor
  · intro s dt g hg
    have hlt := g.isLt
    generalize hu : s.pass dt = u
    have hdict : (u.shortDropped g).dict = (u.shortTold g).dict := u.shortDropped_same g (p := .dict) rfl
    have hev : (u.shortDropped g).ev = (u.shortTold g).ev := u.shortDropped_same g (p := .ev) rfl
    have htim : (u.shortDropped g).tim = (u.shortTold g).tim := u.shortDropped_same g (p := .tim) rfl
    have hnow : (u.shortDropped g).now = (u.shortTold g).now := u.shortDropped_same g (p := .now) rfl
    have hgroup (h : Nat) : (u.shortDropped g).group h = s.group h := by
      rw [State.group, htim]; simp [State.shortTold, ← hu, State.group]
    have hstatus : (u.shortDropped g).rd 0x5C20 (g + 1) = 1 := (State.rd_congr hdict _ _).trans (u.shortTold_status g)
    refine ⟨(u.shortDropped g).updGroup g (fun q => q.shorted (u.shortDropped g).now), hu ▸ exec_tgOutputShort hg, ?_⟩
    refine ⟨hstatus, ?count, ?_, ?_, ?_, ?retry, ?stops, fun h hh => ?others, ?told, ?frame⟩
    case count => exact (State.rd_congr hdict _ _).trans (by rw [u.shortTold_count, ← hu]; rfl)
    case retry =>
      rw [State.group_updGroup _ hlt, if_pos rfl, hnow]
      simp [Group.shorted, State.shortTold, ← hu]
    case stops => simp [State.groupRuns, hstatus]
    case others =>
      rw [State.group_updGroup _ hlt, if_neg (fun e => hh (Fin.ext e.symm)), hgroup]
    case told => exact (State.presents_raise1 _ (920 + g) 0).of_pres (congrArg EventSt.pres hev)
    case frame => exact .trans (t := u) (.of_dict (by rw [← hu]; rfl)) ((Touch.shortTold u g).trans (.of_dict hdict))
    all_goals rw [State.group_updGroup _ hlt, if_pos rfl]; rfl
  · intro s dt g matched h0 hat
    refine (event_due (Bool.and_eq_true_iff.mpr ⟨decide_eq_true h0, decide_eq_true hat⟩) : execTgOutputRetry dt g matched s = _).trans (congrArg _ ?_)
    have hraise (t : State) : t.raiseIf (!(s.pass dt).latched (920 + g)) (920 + g) 0 =
        if s.rd (0x2800 + (920 + g)) 1 = 1 then t else t.raise1 (920 + g) 0 := by
      by_cases hl : s.rd (0x2800 + (920 + g)) 1 = 1 <;> simp [State.raiseIf, State.latched, hl]
    simp only [State.pass_rd, State.pass_now, hraise]

end Sys2Proof
end

section
/-! ## What is written and presented -/

set_option Elab.async false
namespace Sys2Proof.Machine

/-- From `s` to `t` at most the entries of `P` are written, and what was presented to the arbiter still is. -/
structure Writes (P : Nat → Nat → Prop) (s t : State) : Prop where
  touch : Touch P s t
  pres : ∀ p ∈ s.ev.pres, p ∈ t.ev.pres

section
variable {P Q : Nat → Nat → Prop} {s t u : State}

theorem Writes.refl (P : Nat → Nat → Prop) (s : State) : Writes P s s := ⟨.refl P s, fun _ h => h⟩

theorem Writes.trans (h : Writes P s t) (g : Writes P t u) : Writes P s u := ⟨h.touch.trans g.touch, fun p hp => g.pres p (h.pres p hp)⟩

theorem Writes.mono (h : Writes P s t) (hq : ∀ i j, P i j → Q i j) : Writes Q s t := ⟨h.touch.mono hq, h.pres⟩

theorem Writes.of_touch (h : Touch P s t) (e : t.ev = s.ev) : Writes P s t := ⟨h, fun _ hp => by rwa [e]⟩

/-- An update of other parts. -/
theorem Writes.eq (h : Writes P s t) (hd : u.dict = t.dict) (he : u.ev.pres = t.ev.pres) : Writes P s u :=
  ⟨h.touch.trans (.of_dict hd), fun p hp => by rw [he]; exact h.pres p hp⟩

theorem Writes.wr (h : Writes P s t) {i j : Nat} {v : Int} (hj : j < 256) (hp : P i j) : Writes P s (t.wr i j v) :=
  ⟨h.touch.trans (.wr t v hj hp), h.pres⟩

theorem Writes.bump (h : Writes P s t) {i j n : Nat} (hj : j < 256) (hp : P i j) : Writes P s (t.bump i j n) := h.wr hj hp

theorem Writes.wrBit (h : Writes P s t) {i j n : Nat} {b : Bool} (hj : j < 256) (hp : P i j) : Writes P s (t.wrBit i j n b) := h.wr hj hp

theorem Writes.raise (h : Writes P s t) {k : Nat} {d : Detail} (hp : ∀ j, P (0x2800 + k) j) : Writes P s (t.raise k d) :=
  ⟨h.touch.trans (.raise t k d (fun j _ => hp j)), fun p hm => by rw [State.raise_pres]; exact mem_present (h.pres p hm)⟩

theorem Writes.raise1 (h : Writes P s t) {k d : Nat} (hp : ∀ j, P (0x2800 + k) j) : Writes P s (t.raise1 k d) := h.raise hp

theorem Writes.raiseIf (h : Writes P s t) {c : Bool} {k d : Nat} (hp : ∀ j, P (0x2800 + k) j) : Writes P s (t.raiseIf c k d) := by
  unfold State.raiseIf
  split
  · exact h.raise1 hp
  · exact h

theorem Writes.ite {c : Prop} [Decidable c] (ht : Writes P s t) (hu : Writes P s u) : Writes P s (if c then t else u) := by
  split <;> assumption

theorem Writes.foldl {α : Type} {f : State → α → State} : ∀ {l : List α} {t : State} (_ : Writes P s t)
    (_ : ∀ a ∈ l, ∀ t, Writes P s t → Writes P s (f t a)), Writes P s (l.foldl f t)
  | [], _, h, _ => h
  | a :: l, t, h, hf => Writes.foldl (l := l) (hf a (by simp) t h) (fun b hb => hf b (by simp [hb]))

theorem Writes.each (h : Writes P s t) {n : Nat} {f : Nat → State → State} (hf : ∀ i < n, ∀ t, Writes P s t → Writes P s (f i t)) :
    Writes P s (t.each n f) :=
  .foldl h (fun i hi => hf i (List.mem_range.mp hi))

theorem Writes.eachOf {α : Type} (h : Writes P s t) {l : List α} {f : α → State → State}
    (hf : ∀ a ∈ l, ∀ t, Writes P s t → Writes P s (f a t)) : Writes P s (t.eachOf l f) := .foldl h hf

theorem Writes.updGroup (h : Writes P s t) {g : Nat} {f : Group → Group} : Writes P s (t.updGroup g f) := h.eq rfl rfl
theorem Writes.updService (h : Writes P s t) {n : Nat} {f : Service → Service} : Writes P s (t.updService n f) := h.eq rfl rfl
theorem Writes.updLineQ (h : Writes P s t) {n : Nat} {f : LineQueue → LineQueue} : Writes P s (t.updLineQ n f) := h.eq rfl rfl
theorem Writes.updEgress (h : Writes P s t) {k : Nat} {f : Egress → Egress} : Writes P s (t.updEgress k f) := h.eq rfl rfl
theorem Writes.updLink (h : Writes P s t) {n : Nat} {f : Link → Link} : Writes P s (t.updLink n f) := h.eq rfl rfl
theorem Writes.updRing (h : Writes P s t) {k r : Nat} {f : Ring → Ring} : Writes P s (t.updRing k r f) := h.eq rfl rfl
theorem Writes.updStream (h : Writes P s t) {n : Nat} {f : Stream → Stream} : Writes P s (t.updStream n f) := h.eq rfl rfl
theorem Writes.updMaster (h : Writes P s t) {m : Nat} {f : Master → Master} : Writes P s (t.updMaster m f) := h.eq rfl rfl
theorem Writes.updConn (h : Writes P s t) {n : Nat} {f : Conn → Conn} : Writes P s (t.updConn n f) := h.eq rfl rfl

theorem Writes.updCan (h : Writes P s t) {f : CanteenSt → CanteenSt} : Writes P s (t.updCan f) := h.eq rfl rfl
theorem Writes.updCsb (h : Writes P s t) {f : CasbySt → CasbySt} : Writes P s (t.updCsb f) := h.eq rfl rfl
theorem Writes.updAux (h : Writes P s t) {f : AuxSt → AuxSt} : Writes P s (t.updAux f) := h.eq rfl rfl
theorem Writes.updLan (h : Writes P s t) {f : LanternSt → LanternSt} : Writes P s (t.updLan f) := h.eq rfl rfl
theorem Writes.updTrn (h : Writes P s t) {f : TransportSt → TransportSt} : Writes P s (t.updTrn f) := h.eq rfl rfl
theorem Writes.updUpd (h : Writes P s t) {f : UpdateSt → UpdateSt} : Writes P s (t.updUpd f) := h.eq rfl rfl
theorem Writes.updEc (h : Writes P s t) {f : EtherCat → EtherCat} : Writes P s (t.updEc f) := h.eq rfl rfl

/-- Entries that are not written read as before. -/
theorem Writes.rd (h : Writes P s t) {i j : Nat} (hj : j < 256) (hn : ¬ P i j) : t.rd i j = s.rd i j := h.touch i j hj hn

theorem Writes.presents (h : Writes P s t) {k : Nat} (hk : s.Presents k) : t.Presents k := by
  obtain ⟨p, hp, e⟩ := hk
  exact ⟨p, h.pres p hp, e⟩

end

/-! ### Egress queues -/

/-- The entries of the egress queues and their level events (R238). -/
def queueEntry (i j : Nat) : Prop := (0x5610 ≤ i ∧ i < 0x5618 ∧ (j = 8 ∨ j = 0x10)) ∨ (0x2910 ≤ i ∧ i < 0x2918)

section
variable {P : Nat → Nat → Prop} {s t : State}

theorem Writes.fillMoved (h : Writes P s t) (hq : ∀ i j, queueEntry i j → P i j) {k b : Nat} (hk : k < 8) : Writes P s (t.fillMoved k b) := by
  have hp (j : Nat) (hj : j = 8 ∨ j = 0x10) : P (0x5610 + k) j := hq _ _ (by unfold queueEntry; omega)
  have he (j : Nat) : P (0x2800 + (272 + k)) j := hq _ _ (by unfold queueEntry; omega)
  unfold State.fillMoved
  extract_lets f level a
  have ha : Writes P s a := .ite ((h.bump (by omega) (hp _ (.inl rfl))).raise1 he) h
  exact .ite (ha.wr (by omega) (hp _ (.inr rfl))) ha

theorem State.startLinks_dict (s : State) : s.startLinks.dict = s.dict := State.startRounds_dict 16 s

theorem State.startLinks_ev (s : State) : s.startLinks.ev = s.ev := (State.startLinks_keeps (.refl .ev s) rfl).same

theorem Writes.startLinks (h : Writes P s t) : Writes P s t.startLinks := h.eq t.startLinks_dict (congrArg _ t.startLinks_ev)

theorem Writes.push (h : Writes P s t) (hq : ∀ i j, queueEntry i j → P i j) {k : Nat} {p : Packet} (hk : k < 8) : Writes P s (t.push k p) :=
  h.updEgress.fillMoved hq hk

theorem Writes.pushOrHold (h : Writes P s t) (hq : ∀ i j, queueEntry i j → P i j) {k : Nat} {p : Packet} (hk : k < 8) :
    Writes P s (t.pushOrHold k p) := .ite (h.push hq hk).startLinks h.updEgress

theorem Writes.pushControl (h : Writes P s t) (hq : ∀ i j, queueEntry i j → P i j) {n : Nat} {bytes : List Byte} (hn : n < 16) :
    Writes P s (t.pushControl n bytes) := h.pushOrHold hq (by omega)

theorem carriers_head (s : State) (b : Bool) : (s.carriers b).headD 0 < 8 := by
  rcases h : s.carriers b with _ | ⟨a, l⟩
  · decide
  · have ha : a ∈ s.carriers b := h ▸ .head _
    exact List.mem_range.mp (List.mem_filter.mp ha).1

theorem State.chains_engine {s : State} {x : Nat × Nat × Chain} (h : x ∈ s.chains) : x.1 < 8 := by
  simp only [State.chains, List.mem_flatMap, List.mem_filterMap, List.mem_range, Option.map_eq_some_iff] at h
  obtain ⟨k, hk, r, -, c, -, rfl⟩ := h
  exact hk

theorem State.markerEngine_lt (s : State) (st : Nat) : s.markerEngine st < 8 := by
  unfold State.markerEngine
  extract_lets first
  have hf : first < 8 := carriers_head s false
  split
  · exact carriers_head s true
  · split
    · exact hf
    · generalize h : s.chains.filter _ = l
      rcases l with _ | ⟨a, l⟩
      · exact hf
      · have ha : a ∈ a :: l := List.mem_cons_self
        rw [← h] at ha
        exact State.chains_engine (List.mem_filter.mp ha).1

theorem Writes.putMarker (h : Writes P s t) (hq : ∀ i j, queueEntry i j → P i j) {st : Nat} {m : Marker} : Writes P s (t.putMarker st m) :=
  h.pushOrHold hq (t.markerEngine_lt st)

theorem Writes.flushRun (h : Writes P s t) (hq : ∀ i j, queueEntry i j → P i j) {st : Nat} : Writes P s (t.flushRun st) := by
  unfold State.flushRun
  split
  · exact h
  · exact (h.putMarker hq).updStream

end

/-! ### Links -/

section
variable {P : Nat → Nat → Prop} {s t : State} {n : Nat}

theorem Writes.wakeLink (h : Writes P s t) (hp : P (0x5800 + n) 1) : Writes P s (t.wakeLink n) := by
  unfold State.wakeLink
  exact .ite h (Writes.ite (h.wr (by omega) hp) h).updLink

theorem State.wakeLink_awake (h : s.dev.st ≠ .bivouac) : s.wakeLink n = s := if_pos h

/-- Outside Bivouac an answer over CoaXPress writes entries of an egress queue alone. -/
theorem Writes.respond_awake (h : Writes P s t) (hq : ∀ i j, queueEntry i j → P i j) {m code : Nat} {vals : List Int} {data : List Byte}
    (hd : t.dev.st ≠ .bivouac) (hm : m < 17) : Writes P s (t.respond m code vals data) := by
  unfold State.respond
  extract_lets a b c
  have ha : a = t := by simp [a, State.wakeLink_awake hd]
  have hb : Writes P s b := h.eq (by rw [← ha]; rfl) (by rw [← ha]; rfl)
  split
  · exact hb
  · next hc =>
    have hc : Writes P s c := hb.pushControl hq (by omega)
    exact .ite hc (hc.eq rfl rfl)

theorem Writes.trained (h : Writes P s t) (hp : ∀ j, P (0x5800 + n) j) {v : Nat} : Writes P s (t.trained n v) :=
  ((((h.wr (by omega) (hp 1)).wr (by omega) (hp 2)).wr (by omega) (hp 6)).updLink.wakeLink (hp 1)).startLinks

/-- R31: what judging a group may write: the event of a lost link. -/
theorem Writes.judgeLink (h : Writes P s t) {lost : Bool} (he : ∀ j, P (0x2800 + (386 + 4 * n)) j) : Writes P s (t.judgeLink n lost) := by
  refine h.eachOf (fun m _ t h => ?_)
  unfold State.judgeGroup
  extract_lets need have_ short a d b
  have hb : Writes P s b := h.eq rfl rfl
  exact .ite (hb.raise he) hb

theorem Writes.incompleteLines (h : Writes P s t) (hq : ∀ i j, queueEntry i j → P i j) : Writes P s (t.incompleteLines n) :=
  .ite h (h.eachOf (fun _ _ _ h => (h.putMarker hq).updStream))

theorem Writes.returnPacket (h : Writes P s t) (hp : P (0x5800 + n) 9) : Writes P s (t.returnPacket n) := by
  unfold State.returnPacket
  split
  · exact h
  · extract_lets a
    have ha : Writes P s a := h.updLink
    split
    · exact ha
    · extract_lets src back
      exact ha.updEgress.bump (by omega) hp

/-- The entries that the loss of link `n` may write: the link's own, its events and those of the queues that the markers take. -/
def lossEntry (n i j : Nat) : Prop := i = 0x5800 + n ∨ i = 0x2800 + (384 + 4 * n) ∨ i = 0x2800 + (386 + 4 * n) ∨ queueEntry i j

/-- R285, R287: what a link leaves behind before it counts as lost. -/
def State.lossBegun (s : State) (n : Nat) : State := (s.incompleteLines n).returnPacket n

/-- R285: the link's own entries and state at its loss; `v`: the speed at which it is to be trained again. -/
def State.lossShown (s : State) (n : Nat) (named : Bool) (v : Nat) : State :=
  (((((((s.setLink n 4).wr (0x5800 + n) 2 0).wr (0x5800 + n) 6 0).bump (0x5800 + n) 0xA).wr (0x5800 + n) 0xF s.compass).updLink n (fun l =>
    { l with train := if named then some v else none, named := named, testMode := false, recent := [] })).updMaster (n + 1) (fun q =>
      { q with shadow := none, wbuf := none })).raise1 (384 + 4 * n) 0

/-- R285: the speed at which a link that is lost is to be trained again. -/
def State.lossSpeed (s : State) (n : Nat) : Nat := if s.linkState n = 2 then (s.link n).train.getD 1250 else s.rdN (0x5800 + n) 2

theorem State.declareLost_eq (named : Bool) (h : s.linkState n = 2 ∨ s.linkState n = 3 ∨ s.linkState n = 5) :
    s.declareLost n named = (((s.lossBegun n).lossShown n named (s.lossSpeed n)).judgeLink n true).startLinks := by
  unfold State.declareLost
  rw [if_neg (by omega)]
  rfl

theorem State.declareLost_idle (named : Bool) (h : ¬ (s.linkState n = 2 ∨ s.linkState n = 3 ∨ s.linkState n = 5)) :
    s.declareLost n named = s.updLink n (fun l => { l with named := named, train := none }) := by
  unfold State.declareLost
  rw [if_pos (by omega)]

theorem Writes.lossBegun (h : Writes P s t) (hp : ∀ i j, lossEntry n i j → P i j) : Writes P s (t.lossBegun n) :=
  .returnPacket (h.incompleteLines (fun i j hq => hp i j (.inr (.inr (.inr hq))))) (hp _ _ (.inl rfl))

theorem Writes.lossShown (h : Writes P s t) (hp : ∀ i j, lossEntry n i j → P i j) {named : Bool} {v : Nat} :
    Writes P s (t.lossShown n named v) := by
  have hl (j : Nat) : P (0x5800 + n) j := hp _ _ (.inl rfl)
  have h4 := (((h.wr (v := 4) (by omega) (hl 1)).wr (v := 0) (by omega) (hl 2)).wr (v := 0) (by omega) (hl 6)).bump (n := 1) (by omega) (hl 10)
  exact (h4.wr (by omega) (hl 15)).updLink.updMaster.raise1 (fun j => hp _ j (.inr (.inl rfl)))

theorem Writes.declareLost (h : Writes P s t) (hp : ∀ i j, lossEntry n i j → P i j) {named : Bool} : Writes P s (t.declareLost n named) := by
  by_cases hs : t.linkState n = 2 ∨ t.linkState n = 3 ∨ t.linkState n = 5
  · rw [t.declareLost_eq named hs]
    exact (((h.lossBegun hp).lossShown hp).judgeLink (fun j => hp _ j (.inr (.inr (.inl rfl))))).startLinks
  · rw [t.declareLost_idle named hs]
    exact h.updLink

theorem Writes.loseLink (h : Writes P s t) (hp : ∀ i j, lossEntry n i j → P i j) : Writes P s (t.loseLink n) :=
  (h.declareLost hp).updLink

end

end Sys2Proof.Machine
end

section
/-! ## Links (O35 to O37) -/

set_option Elab.async false
namespace Sys2Proof.Machine

theorem tyAt_link : ∀ n : Fin 16, tyAt (0x5800 + n) 1 = .u8 ∧ tyAt (0x5800 + n) 2 = .u16 ∧ tyAt (0x5800 + n) 6 = .u16 ∧
    tyAt (0x5800 + n) 0xA = .u32 ∧ tyAt (0x5800 + n) 0xF = .u64 := by decide +kernel

theorem State.link_updLink (s : State) {n : Nat} (hn : n < 16) (f : Link → Link) (k : Nat) :
    (s.updLink n f).link k = if n = k then f (s.link k) else s.link k := by
  show vget (vupd s.lnk.links n f) k = _
  simp [vget_vupd, hn, State.link]

theorem State.master_updMaster (s : State) {m : Nat} (hm : m < 17) (f : Master → Master) (k : Nat) :
    (s.updMaster m f).master k = if m = k then f (s.master k) else s.master k := by
  show vget (vupd s.door.masters m f) k = _
  simp [vget_vupd, hm, State.master]

theorem State.linkState_of_rd {s : State} {n v : Nat} (h : s.rd (0x5800 + n) 1 = v) : s.linkState n = v := by
  rw [State.linkState, State.rdN, h, Int.toNat_natCast]

theorem Writes.linkState {P : Nat → Nat → Prop} {s t : State} {n : Nat} (h : Writes P s t) (hn : ¬ P (0x5800 + n) 1) :
    t.linkState n = s.linkState n := congrArg Int.toNat (h.rd (by omega) hn)

theorem State.setLink_linkState (s : State) (n k : Fin 16) {v : Nat} (hv : v < 256) :
    (s.setLink n v).linkState k = if n = k then v else s.linkState k := by
  rw [State.linkState, State.rdN, State.setLink, State.rd_wr_at _ _ (by omega) (by omega), (tyAt_link n).1]
  by_cases h : n = k
  · subst h
    simp only [and_self, if_true, Ty.wrap_u8]
    omega
  · have hne : ¬ (0x5800 + n.val = 0x5800 + k.val ∧ 1 = 1) := by omega
    rw [if_neg hne, if_neg h]
    rfl

/-! ### Links that take packets -/

/-- From `s` to `t` links at most begin a packet, and only those that are trained. -/
structure OnlyTx (s t : State) : Prop where
  state : ∀ n, t.linkState n = s.linkState n
  link : ∀ n, t.link n = { s.link n with tx := (t.link n).tx }
  idle : ∀ n, s.linkState n ≠ 3 → t.link n = s.link n

section
variable {s t u : State}

theorem OnlyTx.refl (s : State) : OnlyTx s s := ⟨fun _ => rfl, fun _ => rfl, fun _ _ => rfl⟩

theorem OnlyTx.trans (h : OnlyTx s t) (g : OnlyTx t u) : OnlyTx s u where
  state n := (g.state n).trans (h.state n)
  link n := by rw [g.link n, h.link n]
  idle n hn := (g.idle n (by rwa [h.state])).trans (h.idle n hn)

theorem OnlyTx.beginPacket (s : State) {n : Nat} (hn : n < 16) : OnlyTx s (s.beginPacket n) := by
  refine ⟨fun k => congrArg Int.toNat (State.rd_congr (s.beginPacket_dict n) _ _), fun k => ?_, fun k hk => ?_⟩ <;>
    unfold State.beginPacket <;> split
  · rfl
  · split
    · rfl
    · next q p _ =>
      extract_lets a b
      have hb : b.link k = if n = k then { s.link k with tx := some (q, p.id) } else s.link k :=
        a.link_updLink hn (fun l => { l with tx := some (q, p.id) }) k
      split <;> · show b.link k = { s.link k with tx := (b.link k).tx }; rw [hb]; split <;> rfl
  · rfl
  · next hs =>
    have hne : n ≠ k := fun e => hs (.inl (e ▸ hk))
    split
    · rfl
    · next q p _ =>
      extract_lets a b
      have hb : b.link k = if n = k then { s.link k with tx := some (q, p.id) } else s.link k :=
        a.link_updLink hn (fun l => { l with tx := some (q, p.id) }) k
      rw [if_neg hne] at hb
      split <;> exact hb

theorem OnlyTx.round : ∀ (l : List Nat) (_ : ∀ n ∈ l, n < 16) (s : State), OnlyTx s (l.foldl (fun s n => s.beginPacket n) s)
  | [], _, s => .refl s
  | n :: l, hl, s => (OnlyTx.beginPacket s (hl n (by simp))).trans (OnlyTx.round l (fun n hn => hl n (by simp [hn])) _)

theorem OnlyTx.startRounds : ∀ (r : Nat) (s : State), OnlyTx s (State.startRounds r s)
  | 0, s => .refl s
  | r + 1, s => by
    unfold State.startRounds
    split
    · exact (OnlyTx.round _ (fun n hn => List.mem_range.mp hn) s).trans (OnlyTx.startRounds r _)
    · exact .refl s

theorem OnlyTx.startLinks (s : State) : OnlyTx s s.startLinks := .startRounds 16 s

end

theorem State.judgeLink_lnk (s : State) (n : Nat) (lost : Bool) : (s.judgeLink n lost).lnk = s.lnk :=
  (State.judgeLink_keeps (.refl .lnk s) rfl n lost).same

theorem State.lossShown_link (s : State) {n : Nat} (hn : n < 16) (named : Bool) (v k : Nat) : (s.lossShown n named v).link k =
    if n = k then { s.link k with train := if named then some v else none, named := named, testMode := false, recent := [] }
    else s.link k := by
  rw [State.lossShown, State.link, State.raise1, State.raise_lnk]
  exact State.link_updLink _ hn _ k

/-! ### What a link is to be trained to -/

/-- Link `k` is to be trained to the same speed in `t` as in `s`. -/
def SameTrain (k : Nat) (s t : State) : Prop := (t.link k).train = (s.link k).train

section
variable {s t : State} {k : Nat}

theorem SameTrain.of_lnk {u : State} (h : SameTrain k s t) (e : u.lnk = t.lnk) : SameTrain k s u := by
  unfold SameTrain State.link
  rw [e]
  exact h

theorem SameTrain.startLinks (h : SameTrain k s t) : SameTrain k s t.startLinks :=
  (congrArg Link.train ((OnlyTx.startLinks t).link k)).trans h

theorem SameTrain.push (h : SameTrain k s t) (q : Nat) (p : Packet) : SameTrain k s (t.push q p) :=
  h.of_lnk (State.push_keeps (.refl .lnk t) rfl q p).same

theorem SameTrain.pushOrHold (h : SameTrain k s t) (q : Nat) (p : Packet) : SameTrain k s (t.pushOrHold q p) := by
  unfold State.pushOrHold
  split
  · exact (h.push q p).startLinks
  · exact h.of_lnk rfl

theorem SameTrain.incompleteLines (h : SameTrain k s t) (n : Nat) : SameTrain k s (t.incompleteLines n) := by
  have hf : ∀ (l : List Nat) (f : Nat → State → Marker) (t : State) (_ : SameTrain k s t),
      SameTrain k s (t.eachOf l (fun st t => (t.putMarker st (f st t)).updStream st (fun x => { x with afterGap := true }))) := by
    intro l f
    induction l with
    | nil => exact fun _ h => h
    | cons a l ih => exact fun t h => ih _ ((h.pushOrHold _ _).of_lnk rfl)
  unfold State.incompleteLines
  extract_lets span l
  split
  · exact h
  · exact hf _ _ _ h

theorem SameTrain.updLink (h : SameTrain k s t) {n : Nat} (hn : n < 16) (hk : n ≠ k) (f : Link → Link) : SameTrain k s (t.updLink n f) := by
  unfold SameTrain
  rw [State.link_updLink t hn, if_neg hk]
  exact h

theorem SameTrain.returnPacket (h : SameTrain k s t) {n : Nat} (hn : n < 16) (hk : n ≠ k) : SameTrain k s (t.returnPacket n) := by
  unfold State.returnPacket
  split
  · exact h
  · extract_lets a
    have ha : SameTrain k s a := h.updLink hn hk _
    split
    · exact ha
    · exact ha.of_lnk rfl

theorem SameTrain.declareLost (h : SameTrain k s t) {n : Nat} (hn : n < 16) (hk : n ≠ k) (named : Bool) :
    SameTrain k s (t.declareLost n named) := by
  by_cases hs : t.linkState n = 2 ∨ t.linkState n = 3 ∨ t.linkState n = 5
  · rw [t.declareLost_eq named hs]
    have hb : SameTrain k s (t.lossBegun n) := (h.incompleteLines n).returnPacket hn hk
    have hw : SameTrain k s ((t.lossBegun n).lossShown n named (t.lossSpeed n)) := by
      unfold SameTrain
      rw [State.lossShown_link _ hn, if_neg hk]
      exact hb
    exact (hw.of_lnk (State.judgeLink_lnk _ n true)).startLinks
  · rw [t.declareLost_idle named hs]
    exact h.updLink hn hk _

end

/-! ### ConnectionConfig -/

/-- R272: a link that ConnectionConfig names is to be trained; a lost one keeps its state until it returns. -/
def toTrain (speed i : Nat) (s : State) : State :=
  let s := s.updLink i (fun l => { l with train := some speed, named := true })
  if s.linkState i = 4 then s else s.setLink i 2

section
variable (speed : Nat)

theorem toTrain_train (s : State) {i : Nat} (hi : i < 16) (k : Nat) :
    ((toTrain speed i s).link k).train = if i = k then some speed else (s.link k).train := by
  have h : ((s.updLink i (fun l => { l with train := some speed, named := true })).link k).train =
      if i = k then some speed else (s.link k).train := by
    rw [State.link_updLink s hi]
    split <;> rfl
  unfold toTrain
  extract_lets a
  split <;> exact h

theorem toTrain_state (s : State) (i k : Fin 16) : (toTrain speed i s).linkState k =
    if i = k ∧ s.linkState k ≠ 4 then 2 else s.linkState k := by
  unfold toTrain
  extract_lets a
  have ha : a.linkState k = s.linkState k := rfl
  split
  · next h4 => rw [if_neg (fun h => h.2 (h.1 ▸ h4)), ha]
  · next h4 =>
    rw [State.setLink_linkState a i k (by decide), ha]
    by_cases hik : i = k
    · subst hik
      rw [if_pos rfl, if_pos ⟨rfl, h4⟩]
    · rw [if_neg hik, if_neg (fun h => hik h.1)]

theorem trainEach_train (k : Nat) : ∀ (l : List Nat) (_ : ∀ i ∈ l, i < 16) (s : State),
    ((s.eachOf l (toTrain speed)).link k).train = if k ∈ l then some speed else (s.link k).train
  | [], _, s => by simp [State.eachOf]
  | i :: l, hl, s => by
    refine (trainEach_train k l (fun i hi => hl i (by simp [hi])) (toTrain speed i s)).trans ?_
    rw [toTrain_train speed s (hl i (by simp))]
    by_cases hk : k ∈ l
    · simp [hk]
    · simp [hk, eq_comm]

theorem trainEach_state (k : Fin 16) : ∀ (l : List Nat) (_ : ∀ i ∈ l, i < 16) (s : State),
    (s.eachOf l (toTrain speed)).linkState k = if k.val ∈ l ∧ s.linkState k ≠ 4 then 2 else s.linkState k
  | [], _, s => by simp [State.eachOf]
  | i :: l, hl, s => by
    refine (trainEach_state k l (fun i hi => hl i (by simp [hi])) (toTrain speed i s)).trans ?_
    rw [toTrain_state speed s ⟨i, hl i (by simp)⟩]
    by_cases hk : k.val = i
    · subst hk
      by_cases h4 : s.linkState k = 4 <;> simp [h4]
    · have hne : ¬ (⟨i, hl i (by simp)⟩ : Fin 16) = k := fun e => hk (congrArg Fin.val e).symm
      simp [hne, hk]

end

theorem linksIn_lt {m i : Nat} (h : i ∈ linksIn m) : i < 16 := List.mem_range.mp (List.mem_filter.mp h).1

theorem linksIn_nodup (m : Nat) : (linksIn m).Nodup := List.nodup_range.filter _

/-! ### The master of a lost link -/

theorem State.judgeLink_door (s : State) (n : Nat) (lost : Bool) : (s.judgeLink n lost).door = s.door :=
  (State.judgeLink_keeps (.refl .door s) rfl n lost).same

theorem State.startLinks_door (s : State) : s.startLinks.door = s.door := (State.startLinks_keeps (.refl .door s) rfl).same

theorem State.lossBegun_door (s : State) (n : Nat) : (s.lossBegun n).door = s.door :=
  (State.returnPacket_keeps (State.incompleteLines_keeps (.refl .door s) rfl n) rfl n).same

theorem State.lossShown_master (s : State) {n : Nat} (hn : n < 16) (named : Bool) (v m : Nat) : (s.lossShown n named v).master m =
    if n + 1 = m then { s.master m with shadow := none, wbuf := none } else s.master m := by
  have h : ∀ (a : State) (d : Detail), (a.raise (384 + 4 * n) d).master m = a.master m := fun a d => by
    rw [State.master, State.raise_door, State.master]
  rw [State.lossShown, State.raise1, h, State.master_updMaster _ (by omega)]
  simp only [State.master, State.setLink, State.updLink_door, State.wr_door, State.bump_door]

/-- A link that is lost empties its master's shadow and write buffer, and touches no other master (R61). -/
theorem State.declareLost_master (s : State) {n : Nat} (hn : n < 16) (named : Bool) (m : Nat)
    (h : s.linkState n = 2 ∨ s.linkState n = 3 ∨ s.linkState n = 5) : (s.declareLost n named).master m =
    if n + 1 = m then { s.master m with shadow := none, wbuf := none } else s.master m := by
  rw [s.declareLost_eq named h, State.master, State.startLinks_door, State.judgeLink_door]
  refine (State.lossShown_master _ hn named _ m).trans ?_
  rw [State.master, State.lossBegun_door]
  rfl

theorem State.declareLost_reply (s : State) {n : Nat} (hn : n < 16) (named : Bool) (m : Nat) :
    ((s.declareLost n named).master m).reply = (s.master m).reply := by
  by_cases h : s.linkState n = 2 ∨ s.linkState n = 3 ∨ s.linkState n = 5
  · rw [s.declareLost_master hn named m h]
    split <;> rfl
  · rw [s.declareLost_idle named h]
    rfl

end Sys2Proof.Machine
end

section
set_option Elab.async false
namespace Sys2Proof.Machine

/-! ### The loss of a link (R285) -/

section
variable (s : State) (n : Fin 16)

theorem State.returnPacket_tx : ((s.returnPacket n).link n).tx = none := by
  unfold State.returnPacket
  split
  · assumption
  · extract_lets a
    have ha : (a.link n).tx = none := by
      rw [State.link_updLink s n.isLt, if_pos rfl]
    split
    · exact ha
    · exact ha

/-- What the loss of a link shows in its own entries. -/
theorem State.lossShown_rd (named : Bool) (v : Nat) : let t := s.lossShown n named v;
    t.linkState n = 4 ∧ t.rd (0x5800 + n) 2 = 0 ∧ t.rd (0x5800 + n) 6 = 0 ∧
      t.rd (0x5800 + n) 0xA = (s.rd (0x5800 + n) 0xA + 1) % 2 ^ 32 ∧ t.rd (0x5800 + n) 0xF = s.compass := by
  obtain ⟨h1, h2, h6, ha, hf⟩ := tyAt_link n
  have hc : (s.compass : Int) % 18446744073709551616 = s.compass := by
    have : s.compass < 2 ^ 64 := Nat.mod_lt _ (by decide)
    omega
  have hrd (j : Nat) (hj : j < 256) : (s.lossShown n named v).rd (0x5800 + n) j =
      (((((s.setLink n 4).wr (0x5800 + n) 2 0).wr (0x5800 + n) 6 0).bump (0x5800 + n) 0xA).wr (0x5800 + n) 0xF s.compass).rd (0x5800 + n) j := by
    rw [State.lossShown, State.raise1, State.rd_raise _ _ _ hj (by omega)]
    exact State.rd_congr (by simp only [State.updMaster_dict, State.updLink_dict]) _ _
  refine ⟨State.linkState_of_rd (v := 4) ?_, ?_, ?_, ?_, ?_⟩ <;> rw [hrd _ (by decide)] <;>
    simp (disch := omega) [State.rd_wr_at, State.rd_bump_at, State.setLink, h1, h2, h6, ha, hf, hc]

theorem lossEntry_other {n k : Fin 16} (h : k ≠ n) (j : Nat) : ¬ lossEntry n (0x5800 + k) j := by
  have := n.isLt
  unfold lossEntry queueEntry
  omega

/-- The loss of link `n` leaves the state of every other link (R285). -/
theorem State.declareLost_others (named : Bool) (k : Fin 16) (hk : k ≠ n) : (s.declareLost n named).linkState k = s.linkState k := by
  have h : Writes (lossEntry n) s (s.declareLost n named) := (Writes.refl _ s).declareLost (fun _ _ h => h)
  exact h.linkState (lossEntry_other hk 1)

/-- R285: a link that was trained or in training is lost. -/
theorem State.declareLost_lost (named : Bool) (h : s.linkState n = 2 ∨ s.linkState n = 3 ∨ s.linkState n = 5) :
    let t := s.declareLost n named;
    t.linkState n = 4 ∧ t.rd (0x5800 + n) 2 = 0 ∧ t.rd (0x5800 + n) 6 = 0 ∧
      t.rd (0x5800 + n) 0xA = (s.rd (0x5800 + n) 0xA + 1) % 2 ^ 32 ∧ t.rd (0x5800 + n) 0xF = s.compass ∧
      t.Presents (384 + 4 * n) ∧ (t.link n).tx = none := by
  have hn := n.isLt
  generalize hb : s.lossBegun n = b
  generalize hw : b.lossShown n named (s.lossSpeed n) = w
  have hd : s.declareLost n named = (w.judgeLink n true).startLinks := by rw [s.declareLost_eq named h, hb, hw]
  obtain ⟨h4, h2, h6, ha, hf⟩ := hw ▸ b.lossShown_rd n named (s.lossSpeed n)
  have hrest : Writes (fun i _ => i = 0x2800 + (386 + 4 * n)) w (w.judgeLink n true).startLinks :=
    ((Writes.refl _ w).judgeLink (fun _ => rfl)).startLinks
  have hrd (j : Nat) (hj : j < 256) : (w.judgeLink n true).startLinks.rd (0x5800 + n) j = w.rd (0x5800 + n) j := hrest.rd hj (by omega)
  have hcount : b.rd (0x5800 + n) 0xA = s.rd (0x5800 + n) 0xA := by
    have hbegun : Writes (fun i j => (i = 0x5800 + n ∧ j = 9) ∨ queueEntry i j) s b :=
      hb ▸ .returnPacket (.incompleteLines (.refl _ s) (fun _ _ hq => .inr hq)) (.inl ⟨rfl, rfl⟩)
    exact hbegun.rd (by omega) (by unfold queueEntry; omega)
  have hcompass : b.compass = s.compass := by
    have hnow : b.now = s.now := hb ▸ (State.returnPacket_keeps (State.incompleteLines_keeps (.refl .now s) rfl n) rfl n).same
    have hoff : b.compassOff = s.compassOff := hb ▸ (State.returnPacket_keeps (State.incompleteLines_keeps (.refl .compassOff s) rfl n) rfl n).same
    rw [State.compass, State.compass, hnow, hoff]
  have hstate : (w.judgeLink n true).linkState n = 4 := h4 ▸ ((Writes.refl _ w).judgeLink (fun _ => rfl)).linkState (P := fun i _ =>
    i = 0x2800 + (386 + 4 * n)) (by omega)
  have hlink : ((w.judgeLink n true).startLinks.link n).tx = none := by
    rw [(OnlyTx.startLinks _).idle n (by omega), State.link, State.judgeLink_lnk]
    show (w.link n).tx = none
    rw [← hw, State.lossShown_link _ hn, if_pos rfl, ← hb]
    exact (s.incompleteLines n).returnPacket_tx n
  have hpres : w.Presents (384 + 4 * n) := hw ▸ State.presents_raise1 _ _ _
  simp only [hd]
  refine ⟨(congrArg Int.toNat (hrd 1 (by decide))).trans h4, (hrd 2 (by decide)).trans h2, (hrd 6 (by decide)).trans h6,
    (hrd 10 (by decide)).trans (ha.trans (by rw [hcount])), (hrd 15 (by decide)).trans (hf.trans (by rw [hcompass])), hrest.presents hpres, hlink⟩

end

/-- R39: what a reply puts at the door of master `m`. -/
theorem State.respond_reply (s : State) {m : Nat} (hm : m < 17) (code : Nat) (vals : List Int) (data : List Byte) :
    ((s.respond m code vals data).master m).reply = ⟨code, vals, data⟩ := by
  unfold State.respond
  extract_lets a b c
  have hb : (b.master m).reply = ⟨code, vals, data⟩ := by rw [State.master_updMaster a hm, if_pos rfl]
  have hc : (c.master m).reply = ⟨code, vals, data⟩ := by
    rw [State.master, State.pushControl_door]
    exact hb
  split
  · exact hb
  · split
    · exact hc
    · rw [State.owe, State.master_updMaster c hm, if_pos rfl]
      exact hc

/-! ### Training (R271, R272, R288) -/

theorem speeds_le : ∀ v ∈ speeds, v ≤ 12500 := by decide

section
variable (s : State) (n : Fin 16)

theorem State.trained_rd {v : Nat} (hv : v ≤ 12500) : let t := s.trained n v;
    t.linkState n = 3 ∧ t.rd (0x5800 + n) 2 = v ∧ t.rd (0x5800 + n) 6 = v * 96 / 125 := by
  obtain ⟨h1, h2, h6, -⟩ := tyAt_link n
  generalize hu : (((s.setLink n 3).wr (0x5800 + n) 2 v).wr (0x5800 + n) 6 (budgetOf v)).updLink n (fun l => { l with
    train := none, locked := true, named := true }) = u
  have ht : s.trained n v = (u.wakeLink n).startLinks := hu ▸ rfl
  have hrd (j : Nat) : u.rd (0x5800 + n) j = (((s.setLink n 3).wr (0x5800 + n) 2 v).wr (0x5800 + n) 6 (budgetOf v)).rd (0x5800 + n) j :=
    hu ▸ State.rd_congr (by simp only [State.updLink_dict]) _ _
  have hu1 : u.rd (0x5800 + n) 1 = 3 := by
    rw [hrd]
    simp (disch := omega) [State.rd_wr_at, State.setLink, h1]
  have hwake : (u.wakeLink n).dict = u.dict := by
    unfold State.wakeLink
    split
    · rfl
    · rw [hu1]
      rfl
  have hdict : (s.trained n v).dict = u.dict := by rw [ht, State.startLinks_dict, hwake]
  have h (j : Nat) : (s.trained n v).rd (0x5800 + n) j = u.rd (0x5800 + n) j := State.rd_congr hdict _ _
  refine ⟨State.linkState_of_rd (v := 3) ((h 1).trans hu1), (h 2).trans ?_, (h 6).trans ?_⟩ <;> rw [hrd] <;>
    simp (disch := omega) [State.rd_wr_at, State.setLink, h2, h6, budgetOf] <;> omega

theorem State.trained_others {v : Nat} (k : Fin 16) (hk : k ≠ n) : (s.trained n v).linkState k = s.linkState k := by
  have h : Writes (fun i _ => i = 0x5800 + n) s (s.trained n v) := (Writes.refl _ s).trained (fun _ => rfl)
  exact h.linkState (by omega)

theorem State.wakeLink_link (k : Nat) : ((s.wakeLink n).link k).train = (s.link k).train := by
  unfold State.wakeLink
  split
  · rfl
  · extract_lets a
    have ha : a.link k = s.link k := by
      show (if s.rd (0x5800 + n) 1 = 5 then s.wr (0x5800 + n) 1 3 else s).link k = s.link k
      split <;> rfl
    rw [State.link_updLink _ n.isLt]
    split <;> rw [ha]

theorem State.trained_train (v : Nat) : ((s.trained n v).link n).train = none := by
  refine (SameTrain.startLinks (s := State.wakeLink _ n) rfl).trans ((State.wakeLink_link _ n n).trans ?_)
  rw [State.link_updLink _ n.isLt, if_pos rfl]

end

/-- The entries that the return of link `n` may write beside the link's own (R288). -/
def returnEntry (n i j : Nat) : Prop := i = 0x2800 + (385 + 4 * n) ∨ i = 0x2800 + (386 + 4 * n) ∨ queueEntry i j

theorem returnEntry_link (n : Fin 16) (j : Nat) : ¬ returnEntry n (0x5800 + n) j := by
  unfold returnEntry queueEntry
  omega

end Sys2Proof.Machine

namespace Sys2Proof
open Machine

/-- Settles O35: `loseLink` is the declaration of the loss, and then the receiver out of lock. -/
theorem linkLoss : Obligations.LinkLoss := by
  intro s dt n u
  have hn := n.isLt
  refine ⟨fun h => ⟨u.loseLink n, ?_, ?_⟩, fun h => ?_⟩
  · exact (timed_due (by simpa [or_assoc] using h) : execLinkLoss dt n s = _)
  · obtain ⟨h4, h2, h6, ha, hf, hp, htx⟩ := u.declareLost_lost n true h
    have hlink : (u.loseLink n).link n = { (u.declareLost n true).link n with locked := false } := by
      rw [State.loseLink, State.link_updLink _ hn, if_pos rfl]
    have hmaster : (u.loseLink n).master (n + 1) = { u.master (n + 1) with shadow := none, wbuf := none } := by
      refine (u.declareLost_master hn true (n + 1) h).trans (if_pos rfl)
    refine ⟨h4, h2, h6, ha, hf, hp, by rw [hlink], by rw [hlink]; exact htx, by rw [hmaster], by rw [hmaster], fun k hk => ?_⟩
    exact u.declareLost_others n true k hk
  · refine (timed_idle ?_ : execLinkLoss dt n s = _)
    have : u.linkState n ≠ 2 ∧ u.linkState n ≠ 3 ∧ u.linkState n ≠ 5 := by omega
    simpa [and_assoc] using this


/-- Settles O36: a training ends with `trained`; a configuration names its links one after the other. -/
theorem linkTraining : Obligations.LinkTraining := by
  intro s dt n u
  have hn := n.isLt
  refine ⟨fun hb hl hd => ?discovery, fun speed count hu hr => ?notReady, fun speed count hu hr hc => ?refused,
    fun speed count hu hr hc hst => ?config, fun v hv hl ht => ?trained, fun v hv hl ht => ?back⟩
  case notReady =>
    refine (timed_due hu : execConnectionConfig dt n speed count s = _).trans ?_
    simp [show (s.arrive dt).dev.ready = false from hr, u]
  case refused =>
    have href : u.configRefused n speed count = true := by
      unfold State.configRefused
      obtain h | h | h | h | h := hc <;> simp [h]
    refine (timed_due hu : execConnectionConfig dt n speed count s = _).trans ?_
    simp [show (s.arrive dt).dev.ready = true from hr, show (s.arrive dt).configRefused n speed count = true from href, u]
  case discovery =>
    generalize ha : u.updLink n (fun l => { l with locked := true }) = a
    obtain ⟨h3, h2, h6⟩ := a.trained_rd n (v := 1250) (by decide)
    refine ⟨a.trained n 1250, ?_, h3, h2, h6⟩
    refine (timed_due (by simp [show (s.arrive dt).pow.boot = .done from hb]) : execDiscoveryRequest dt n s = _).trans ?_
    have hidle : a.linkState n = 0 ∨ a.linkState n = 1 := by
      have : a.linkState n = u.linkState n := ha ▸ rfl
      omega
    have hup : (a.trained n 1250).linkUp n = true := by
      have : (a.trained n 1250).rd (0x5800 + n) 1 = 3 := by
        unfold State.linkState State.rdN at h3
        omega
      simp [State.linkUp, this]
    show ok _ = _
    simp only [show (s.arrive dt).updLink n (fun l => { l with locked := true }) = a from ha, if_pos hidle, if_pos hup]
  case config =>
    generalize hg : linksIn (u.groupOfLink n) = g
    have hlt (l : List Nat) (hs : l.Sublist g) : ∀ i ∈ l, i < 16 := fun i hi => linksIn_lt (hg ▸ hs.subset hi)
    generalize hv : u.respond (n + 1) 0 [] [] = v
    generalize hw : v.eachOf (g.take count) (toTrain speed) = w
    refine ⟨w.eachOf (g.drop count) (fun i t => t.declareLost i false), ?_, ?_, fun k hk h4 => ?_⟩
    · refine (timed_due hu : execConnectionConfig dt n speed count s = _).trans ?_
      rw [← hw, ← hv, ← hg]
      simp [show (s.arrive dt).dev.ready = true from hr, show (s.arrive dt).configRefused n speed count = false from hc, u]
      rfl
    · have hreply (l : List Nat) (hl : ∀ i ∈ l, i < 16) : ∀ t : State,
          ((t.eachOf l (fun i t => t.declareLost i false)).master (n + 1)).reply = (t.master (n + 1)).reply := by
        induction l with
        | nil => exact fun _ => rfl
        | cons i l ih =>
          exact fun t => (ih (fun i hi => hl i (by simp [hi])) _).trans (t.declareLost_reply (hl i (by simp)) false _)
      have hdoor : w.door = v.door := by
        refine hw ▸ (Keeps.eachOf (.refl .door v) (fun i t h => ?_)).same
        exact .ite (State.updLink_keeps h rfl _ _) (State.setLink_keeps (State.updLink_keeps h rfl _ _) rfl _ _)
      rw [hreply _ (hlt _ (List.drop_sublist _ _)), State.master, hdoor]
      exact congrArg Reply.code (hv ▸ u.respond_reply (m := n + 1) (by omega) 0 [] [])
    · have hstate : w.linkState k = 2 := by
        have hvk : v.linkState k = u.linkState k := by
          have h : Writes queueEntry u v := hv ▸ (Writes.refl _ u).respond_awake (fun _ _ h => h) (by simp [hst]) (by omega)
          exact h.linkState (by unfold queueEntry; omega)
        rw [← hw, trainEach_state speed k _ (hlt _ (List.take_sublist _ _)), if_pos ⟨hk, by rwa [hvk]⟩]
      have htrain : (w.link k).train = some speed := by
        rw [← hw, trainEach_train speed k _ (hlt _ (List.take_sublist _ _)), if_pos hk]
      have hne : ∀ i ∈ g.drop count, i ≠ k := fun i hi e =>
        List.disjoint_take_drop (hg ▸ linksIn_nodup _) (le_refl count) hk (e ▸ hi)
      have hrest (l : List Nat) (hl : ∀ i ∈ l, i < 16) (hk : ∀ i ∈ l, i ≠ k) : ∀ t : State,
          (t.eachOf l (fun i t => t.declareLost i false)).linkState k = t.linkState k ∧
            SameTrain k t (t.eachOf l (fun i t => t.declareLost i false)) := by
        induction l with
        | nil => exact fun _ => ⟨rfl, rfl⟩
        | cons i l ih =>
          intro t
          obtain ⟨hs, hT⟩ := ih (fun i hi => hl i (by simp [hi])) (fun i hi => hk i (by simp [hi])) (t.declareLost i false)
          have hi := hl i (by simp)
          have hik := hk i (by simp)
          exact ⟨hs.trans (t.declareLost_others ⟨i, hi⟩ false k (fun e => hik (congrArg Fin.val e).symm)),
            hT.trans (SameTrain.declareLost (s := t) rfl hi hik false)⟩
      obtain ⟨h1, h2⟩ := hrest _ (hlt _ (List.drop_sublist _ _)) hne w
      exact ⟨h1.trans hstate, h2.trans htrain⟩
  case trained =>
    obtain ⟨h3, h2, h6⟩ := u.trained_rd n (speeds_le v hv)
    refine ⟨u.trained n v, ?_, h3, h2, h6, u.trained_train n v, fun k hk => u.trained_others n k hk⟩
    refine (timed_due (by simpa using hl) : execLinkTrained dt n s = _).trans ?_
    simp [show ((s.arrive dt).link n).train = some v from ht, u]
  case back =>
    generalize ha : u.updLink n (fun l => { l with skip := u.begunLines }) = a
    obtain ⟨h3, h2, h6⟩ := a.trained_rd n (speeds_le v hv)
    have hsp : (a.link n).train = some v := by
      rw [← ha, State.link_updLink u hn, if_pos rfl]
      exact ht
    have hback : ∃ t : State, execLinkReturn dt n s = .next t ∧ Writes (returnEntry n) (a.trained n v) t ∧ t.Presents (385 + 4 * n) := by
      refine ⟨_, timed_due (by simp [show (s.arrive dt).linkState n = 4 from hl, show ((s.arrive dt).link n).train = some v from ht]), ?_⟩
      have hx : (s.arrive dt).updLink n (fun l => { l with skip := (s.arrive dt).begunLines }) = a := ha
      rw [hx]
      dsimp only
      rw [hsp, Option.getD_some]
      have hraised : Writes (returnEntry n) (a.trained n v) ((a.trained n v).raise1 (385 + 4 * n) 0) := (Writes.refl _ _).raise1 (fun _ => .inl rfl)
      have hpres := (a.trained n v).presents_raise1 (385 + 4 * n) 0
      generalize (a.trained n v).raise1 (385 + 4 * n) 0 = b at hraised hpres
      have hrest (l : List Nat) : Writes (returnEntry n) b ((b.judgeLink n false).eachOf l (fun st s =>
          match (s.stream st).run with
          | some r => if r.cause = 1 then s.flushRun st else s
          | none => s)) := by
        refine ((Writes.refl _ b).judgeLink (fun _ => .inr (.inl rfl))).eachOf (fun st _ t h => ?_)
        split
        · exact .ite (h.flushRun (fun _ _ hq => .inr (.inr hq))) h
        · exact h
      exact ⟨hraised.trans (hrest _), (hrest _).presents hpres⟩
    obtain ⟨t, he, hw, hp⟩ := hback
    exact ⟨t, he, (hw.linkState (returnEntry_link n 1)).trans h3, (hw.rd (by omega) (returnEntry_link n 2)).trans h2,
      (hw.rd (by omega) (returnEntry_link n 6)).trans h6, hp⟩

/-- Settles O37: each command does the one thing that is due on arrival. -/
theorem linkCommands : Obligations.LinkCommands := by
  intro s dt n u
  have hrd {v : Nat} (h : u.linkState n = v) (hv : 0 < v) : u.rd (0x5800 + n) 1 = v := by
    unfold State.linkState State.rdN at h
    omega
  refine ⟨fun on hu => ?_, fun size hu hr => ?_, fun hd hl => ?_, fun hd hl hc => ?_, fun rising delay hr hu h => ?_,
    fun delay hr hu h4 he => ?_, fun hl => ?_⟩
  · refine (timed_due hu : execTestModeWrite dt n on s = _).trans (congrArg _ (if_congr ?_ rfl rfl))
    simp [u]
  · refine (timed_due hu : execStreamPacketSizeWrite dt n size s = _).trans (congrArg _ ?_)
    exact if_neg (by simp [show (s.arrive dt).dev.ready = true from hr])
  · refine (timed_due (by simpa using ⟨hd, hl⟩) : execLinkWakeByCommand dt n s = _).trans (congrArg _ ?_)
    show State.wakeLink u n = _
    unfold State.wakeLink
    have h5 : u.rd (0x5800 + n) 1 = 5 := hrd hl (by decide)
    rw [if_neg (by simp [hd]), if_pos h5]
    rfl
  · exact (timed_due (by simpa [State.elapsed, and_assoc] using ⟨hd, hl, hc⟩) : execLinkResuspend dt n s = _)
  · refine (timed_due (by simpa using ⟨hr, hu⟩) : execTriggerPacket dt n rising delay s = _).trans (congrArg _ (if_pos ?_))
    simpa using h
  · refine (timed_due (by simpa using ⟨hr, hu⟩) : execTriggerPacket dt n true delay s = _).trans (congrArg _ (if_neg ?_))
    simpa using ⟨h4, he⟩
  · refine (timed_due hl : execUplinkPacketError dt n s = _).trans (congrArg _ ?_)
    show (u.bump _ _).raiseIf (!decide (u.rd (0x2800 + (387 + 4 * n)) 1 = 1)) _ _ = _
    unfold State.raiseIf
    by_cases h : u.rd (0x2800 + (387 + 4 * n)) 1 = 1 <;> simp [h]

end Sys2Proof
end

section
/-! ## Connections, rails and the first milliseconds (O44, O45, O47, O49) -/

set_option Elab.async false
namespace Sys2Proof.Machine

theorem tyAt_conn : ∀ n : Fin 16, tyAt (0x58A0 + n) 1 = .u8 ∧ tyAt (0x58A0 + n) 2 = .u32 ∧ tyAt (0x58A0 + n) 3 = .u32 ∧
    tyAt (0x5880 + n) 1 = .u8 ∧ tyAt (0x5880 + n) 4 = .u8 := by decide +kernel

theorem State.conn_updConn (s : State) {n : Nat} (hn : n < 16) (f : Conn → Conn) (k : Nat) :
    (s.updConn n f).conn k = if n = k then f (s.conn k) else s.conn k := by
  show vget (vupd s.pow.conns n f) k = _
  simp [vget_vupd, hn, State.conn]

/-! ### Connections (R354) -/

/-- The entries that a connection's state stands in. -/
def connEntry (n i j : Nat) : Prop := (i = 0x58A0 + n ∨ i = 0x5880 + n) ∧ j = 1

section
variable (s : State) (n : Fin 16)

theorem Writes.setConn {P : Nat → Nat → Prop} {s t : State} {n code : Nat} (h : Writes P s t) (hp : ∀ i j, connEntry n i j → P i j) :
    Writes P s (t.setConn n code) :=
  ((h.wr (by omega) (hp _ _ ⟨.inl rfl, rfl⟩)).wr (by omega) (hp _ _ ⟨.inr rfl, rfl⟩)).updConn

theorem State.setConn_rd (code : Nat) {i j : Nat} (hj : j < 256) : (s.setConn n code).rd i j =
    if 0x5880 + n.val = i ∧ 1 = j then (b2n (code = 3) : Int) else if 0x58A0 + n.val = i ∧ 1 = j then (code : Int) % 2 ^ 8 else s.rd i j := by
  obtain ⟨h1, -, -, h5, -⟩ := tyAt_conn n
  have hb : (b2n (code = 3) : Int) % 2 ^ 8 = b2n (code = 3) := by unfold b2n; split <;> rfl
  have hw : (s.setConn n code).dict = ((s.wr (0x58A0 + n) 1 code).wr (0x5880 + n) 1 (b2n (code = 3))).dict := by
    simp only [State.setConn, State.updConn_dict]
  rw [State.rd_congr hw, State.rd_wr_at _ _ (by omega) hj, State.rd_wr_at _ _ (by omega) hj, h1, h5, Ty.wrap_u8, Ty.wrap_u8, hb]

theorem State.setConn_connState {code : Nat} (hc : code ≤ 6) (k : Fin 16) :
    (s.setConn n code).connState k = if n = k then code else s.connState k := by
  have hn := n.isLt
  have hk := k.isLt
  rw [State.connState, State.rdN, State.setConn_rd s n code (by omega), if_neg (by omega)]
  by_cases h : n = k
  · subst h
    rw [if_pos ⟨rfl, rfl⟩, if_pos rfl]
    omega
  · rw [if_neg (by omega), if_neg h]
    rfl

theorem State.setConn_conn (code k : Nat) : (s.setConn n code).conn k = if n.val = k then { s.conn k with since := s.now } else s.conn k :=
  State.conn_updConn _ n.isLt (fun c => { c with since := s.now }) k

/-- R354: what entering a state of a connection does. -/
theorem State.setConn_spec {code : Nat} (hc : code ≤ 6) : let t := s.setConn n code;
    t.connState n = code ∧ t.rd (0x5880 + n) 1 = (if code = 3 then 1 else 0) ∧ (t.conn n).since = s.now ∧
      (t.conn n).attempts = (s.conn n).attempts ∧ (∀ k : Fin 16, k ≠ n → t.conn k = s.conn k) ∧
      t = { s with dict := t.dict, pow := { s.pow with conns := t.pow.conns } } ∧
      Touch (fun i j => (i = 0x58A0 + n ∨ i = 0x5880 + n) ∧ j = 1) s t := by
  refine ⟨(s.setConn_connState n hc n).trans (if_pos rfl), ?_, ?_, ?_, fun k hk => ?_, rfl, (Writes.setConn (.refl _ s) (fun _ _ h => h)).touch⟩
  · rw [State.setConn_rd s n code (by omega), if_pos ⟨rfl, rfl⟩]
    by_cases h : code = 3 <;> simp [b2n, h]
  · rw [State.setConn_conn, if_pos rfl]
  · rw [State.setConn_conn, if_pos rfl]
  · rw [State.setConn_conn, if_neg (fun e => hk (Fin.ext e.symm))]

/-- R356: what a shed of a connection does. -/
theorem State.shed_spec : let t := s.shed n;
    t.connState n = 4 ∧ t.rd (0x5880 + n) 1 = 0 ∧ (t.conn n).attempts = (s.conn n).attempts + 1 ∧
      t.rd (0x58A0 + n) 2 = (s.rd (0x58A0 + n) 2 + 1) % 2 ^ 32 ∧ t.lnk = s.lnk ∧
      ((∀ p ∈ s.ev.pres, p.src ≠ 656 + n) → (⟨656 + n, .narrow 2⟩ : Present) ∈ t.ev.pres) := by
  have hn := n.isLt
  obtain ⟨h1, h2, -, h5, -⟩ := tyAt_conn n
  have hrd (i j : Nat) (hj : j < 256) (hi : i = 0x58A0 + n ∨ i = 0x5880 + n) : (s.shed n).rd i j =
      ((s.setConn n 4).bump (0x58A0 + n) 2).rd i j := by
    rw [State.shed, State.raise1, State.rd_raise _ _ _ hj (by omega)]
    rfl
  refine ⟨?_, ?_, ?_, ?_, ?_, fun hp => ?_⟩
  · have h : (s.shed n).rd (0x58A0 + n) 1 = 4 := by
      rw [hrd _ _ (by omega) (.inl rfl), State.rd_bump_at _ _ (by omega) (by omega), if_neg (by omega), State.setConn_rd _ _ _ (by omega),
        if_neg (by omega), if_pos ⟨rfl, rfl⟩]
      rfl
    rw [State.connState, State.rdN, h]
    rfl
  · rw [hrd _ _ (by omega) (.inr rfl), State.rd_bump_at _ _ (by omega) (by omega), if_neg (by omega), State.setConn_rd _ _ _ (by omega),
      if_pos ⟨rfl, rfl⟩]
    rfl
  · have h : (s.shed n).conn n = ((s.setConn n 4).updConn n (fun c => { c with attempts := c.attempts + 1 })).conn n := by
      rw [State.conn, State.shed, State.raise1, State.raise_pow]
      rfl
    rw [h, State.conn_updConn _ hn, if_pos rfl, State.setConn_conn, if_pos rfl]
  · rw [hrd _ _ (by omega) (.inl rfl), State.rd_bump_at _ _ (by omega) (by omega), if_pos ⟨rfl, rfl⟩, h2, State.setConn_rd _ _ _ (by omega),
      if_neg (by omega), if_neg (by omega)]
    rfl
  · rw [State.shed, State.raise1, State.raise_lnk]
    rfl
  · rw [State.shed, State.raise1, State.raise_pres]
    exact present_new hp

/-- R356: an overload is counted and reported; the connection stays admitted. -/
theorem State.overload_spec (h : s.connState n = 3) : let w := (s.bump (0x58A0 + n) 3).raise1 (656 + n) 1;
    let t := w.updCan (fun c => { c with overload := setBit c.overload n true });
    t.connState n = 3 ∧ t.pow = s.pow ∧ t.rd (0x58A0 + n) 3 = (s.rd (0x58A0 + n) 3 + 1) % 2 ^ 32 ∧ t.Presents (656 + n) ∧ t.lnk = s.lnk := by
  intro w t
  have hrd (j : Nat) (hj : j < 256) : t.rd (0x58A0 + n) j = (s.bump (0x58A0 + n) 3).rd (0x58A0 + n) j :=
    (State.rd_congr (w.updCan_dict _) _ _).trans (State.rd_raise _ _ _ hj (by omega))
  have h1 : t.rd (0x58A0 + n) 1 = s.rd (0x58A0 + n) 1 := by
    rw [hrd 1 (by omega), State.rd_bump_at _ _ (by omega) (by omega), if_neg (by omega)]
  have h3 : t.rd (0x58A0 + n) 3 = (s.rd (0x58A0 + n) 3 + 1) % 2 ^ 32 := by
    rw [hrd 3 (by omega), State.rd_bump_at _ _ (by omega) (by omega), if_pos ⟨rfl, rfl⟩, (tyAt_conn n).2.2.1]
    rfl
  refine ⟨(congrArg Int.toNat h1).trans h, ?_, h3, ?_, ?_⟩
  · rw [State.updCan_pow]
    exact State.raise_pow _ _ _
  · exact (State.presents_raise1 (s.bump (0x58A0 + n) 3) _ _).of_pres (congrArg _ (w.updCan_ev _))
  · rw [State.updCan_lnk]
    exact State.raise_lnk _ _ _

theorem State.connState_wr_admission (v : Int) : (s.wr (0x5880 + n) 4 v).connState n = s.connState n := by
  rw [State.connState, State.rdN, State.rd_wr_at _ _ (by omega) (by omega), if_neg (by omega)]
  rfl

/-- R354: a write of 0 disables a connection that is present or shed. -/
theorem opAdmission_zero : opAdmission n 0 s =
    (if s.connState n = 1 ∨ s.connState n = 4 then (s.wr (0x5880 + n) 4 0).setConn n 5 else s.wr (0x5880 + n) 4 0, 0) := by
  rw [opAdmission, if_pos rfl, State.connState_wr_admission]

/-- R354: a write of 1 takes a connection out of state 5. -/
theorem opAdmission_one : opAdmission n 1 s =
    (if s.connState n = 5 then ((s.wr (0x5880 + n) 4 1).setConn n 1).updConn n (fun c => { c with attempts := 0 })
      else s.wr (0x5880 + n) 4 1, 0) := by
  rw [opAdmission, if_neg (by decide), State.connState_wr_admission]

end

/-- The first of a mask is the lowest connection in it. -/
theorem lowestOf_eq {p : Nat → Bool} {n : Nat} (hn : n < 16) (h : p n = true) (hk : ∀ k < n, p k = false) : lowestOf p = some n := by
  rw [lowestOf, List.find?_range_eq_some]
  exact ⟨h, List.mem_range.mpr hn, fun k hkn => by simp [hk k hkn]⟩

theorem lowestOf_none {p : Nat → Bool} (h : ∀ n < 16, p n = false) : lowestOf p = none := by
  rw [lowestOf, List.find?_range_eq_none]
  exact fun n hn => by simp [h n hn]

/-- R354: admission is written at any time. -/
theorem admission_row : ∀ n : Fin 16, rowOpen (0x5880 + n) 4 = true ∧ verdict (0x5880 + n) 4 0 = .keep 0 ∧
    verdict (0x5880 + n) 4 1 = .keep 1 := by decide +kernel

end Sys2Proof.Machine

namespace Sys2Proof
open Machine

/-- Settles O49: each command does the one thing that is due; a write of the admission enters or leaves state 5. -/
theorem connectionAdmission : Obligations.ConnectionAdmission := by
  intro s dt n u
  have hn := n.isLt
  refine ⟨fun code hc => u.setConn_spec n hc, u.shed_spec n, fun hp h0 => ?present, fun h => ?gone, fun hp h6 => ?fault, fun p h6 => ?clear,
    fun hr hl h1 hk => ?enable, fun c h2 ht hlim => ?passes, fun c h2 ht hlim => ?shed, fun h4 ht => ?retry, fun c h3 hlim => ?overload,
    fun c h3 hlim => ?shed2, fun m hm hr => ?write⟩
  case present => exact (event_due (by simp [show (s.pass dt).powered = true from hp, show (s.pass dt).connState n = 0 from h0]) :
    execConnectionPresent dt n s = _)
  case gone => exact (event_due (by simpa [or_assoc] using h) : execConnectionPresenceLost dt n s = _)
  case fault => exact (event_due (by simpa using ⟨hp, h6⟩) : execConnectionSenseFault dt n s = _)
  case clear =>
    refine (event_due (by simpa using h6) : execSenseFaultCleared dt n p s = _).trans ?_
    cases p <;> rfl
  case enable =>
    refine (event_due (Bool.and_eq_true_iff.mpr ⟨hr, decide_eq_true hl⟩) : execConnectionEnable dt s = _).trans ?_
    rw [lowestOf_eq (p := fun n => decide ((s.pass dt).connState n = 1)) hn (by simpa using h1) (fun k h => by simpa using hk k h)]
    rfl
  case passes =>
    refine (event_due (Bool.and_eq_true_iff.mpr ⟨decide_eq_true h2, decide_eq_true ht⟩) : execConnectionAdmissionCheck dt n c s = _).trans (congrArg _ (if_pos hlim))
  case shed =>
    refine (event_due (Bool.and_eq_true_iff.mpr ⟨decide_eq_true h2, decide_eq_true ht⟩) : execConnectionAdmissionCheck dt n c s = _).trans (congrArg _ (if_neg ?_))
    exact Nat.not_lt.mpr hlim
  case retry => exact (event_due (Bool.and_eq_true_iff.mpr ⟨decide_eq_true h4, decide_eq_true ht⟩) : execConnectionShedRetry dt n s = _)
  case overload =>
    have hlim' : u.overLimit c 1 1 = true := decide_eq_true (by omega)
    refine ⟨_, (event_due (Bool.and_eq_true_iff.mpr ⟨decide_eq_true h3, hlim'⟩) : execConnectionOverload dt n c s = _), ?_⟩
    exact u.overload_spec n h3
  case shed2 => exact (event_due (Bool.and_eq_true_iff.mpr ⟨decide_eq_true h3, decide_eq_true hlim⟩) : execConnectionShed dt n c s = _)
  case write =>
    obtain ⟨ho, h0, h1⟩ := admission_row n
    constructor
    · refine (hostCommand_open hm hr ho h0 : execAdmissionEnableWrite dt m n 0 s = _).trans ?_
      rw [Nat.cast_zero, opAdmission_zero]
    · refine (hostCommand_open hm hr ho h1 : execAdmissionEnableWrite dt m n 1 s = _).trans ?_
      rw [Nat.cast_one, opAdmission_one]

end Sys2Proof
end

section
/-! ## Masks, and folds that treat each index once -/

set_option Elab.async false
namespace Sys2Proof.Machine

theorem bit_eq_testBit (m i : Nat) : bit m i = m.testBit i := Nat.testBit_eq_decide_div_mod_eq.symm

/-- A mask with bit `i` set, in the parts above and below that bit. -/
theorem setBit_eq (m i : Nat) (b : Bool) : setBit m i b = 2 ^ i * (2 * (m / 2 ^ i / 2) + (if b then 1 else 0)) + m % 2 ^ i := by
  have h1 := Nat.div_add_mod m (2 ^ i)
  have h2 := Nat.div_add_mod (m / 2 ^ i) 2
  unfold setBit
  generalize m / 2 ^ i = q at *
  generalize m % 2 ^ i = r at *
  generalize 2 ^ i = p at *
  have h3 : p * q = p * (2 * (q / 2)) + q % 2 * p := by rw [mul_comm (q % 2) p, ← mul_add, h2]
  rw [mul_add]
  cases b
  · simp only [Bool.false_eq_true, if_false]
    omega
  · simp only [if_true, mul_one]
    omega

theorem bit_setBit (m i j : Nat) (b : Bool) : bit (setBit m i b) j = if i = j then b else bit m j := by
  have hr : m % 2 ^ i < 2 ^ i := Nat.mod_lt _ (Nat.two_pow_pos i)
  have hm : m.testBit j = if j < i then (m % 2 ^ i).testBit j else (m / 2 ^ i).testBit (j - i) := by
    conv_lhs => rw [← Nat.div_add_mod m (2 ^ i)]
    exact Nat.testBit_two_pow_mul_add _ hr j
  rw [bit_eq_testBit, bit_eq_testBit, setBit_eq, Nat.testBit_two_pow_mul_add _ hr, hm]
  by_cases hj : j < i
  · rw [if_pos hj, if_pos hj, if_neg (by omega)]
  · rw [if_neg hj, if_neg hj]
    by_cases hi : i = j
    · subst hi
      cases b <;> simp
    · obtain ⟨k, hk⟩ : ∃ k, j - i = k + 1 := ⟨j - i - 1, by omega⟩
      have hq : (2 * (m / 2 ^ i / 2) + if b = true then 1 else 0) / 2 = m / 2 ^ i / 2 := by split <;> omega
      rw [if_neg hi, hk, Nat.testBit_succ, Nat.testBit_succ, hq]

theorem bit_mod (m : Nat) {k j : Nat} (h : j < k) : bit (m % 2 ^ k) j = bit m j := by
  rw [bit_eq_testBit, bit_eq_testBit, Nat.testBit_mod_two_pow, decide_eq_true h, Bool.true_and]

/-- A bit of a mask of eight bits after a bit of it has been written. -/
theorem State.bit_wrBit (s : State) {i j : Nat} (hj : j < 256) (ht : tyAt i j = .u8) (n : Nat) (b : Bool) {k : Nat} (hk : k < 8) :
    bit ((s.wrBit i j n b).rdN i j) k = if n = k then b else bit (s.rdN i j) k := by
  have h : (s.wrBit i j n b).rdN i j = setBit (s.rdN i j) n b % 2 ^ 8 := by
    rw [State.rdN, State.wrBit, State.rd_wr_self _ _ hj, ht, Ty.wrap_u8]
    omega
  rw [h, bit_mod _ hk, bit_setBit]

/-- A fold that leaves a quantity alone. -/
theorem State.eachOf_off {α β : Type} {l : List β} {f : β → State → State} (g : State → α) (h : ∀ a ∈ l, ∀ s, g (f a s) = g s) :
    ∀ s : State, g (s.eachOf l f) = g s := by
  induction l with
  | nil => exact fun _ => rfl
  | cons a l ih => exact fun s => (ih (fun a ha => h a (by simp [ha])) (f a s)).trans (h a (by simp) s)

/-- A fold over different members, of which only `b` changes a quantity. -/
theorem State.eachOf_at {α β : Type} {l : List β} {f : β → State → State} {b : β} (g : State → α) (e : α → α) (hl : l.Nodup) (hb : b ∈ l)
    (hat : ∀ s, g (f b s) = e (g s)) (hoff : ∀ a ∈ l, a ≠ b → ∀ s, g (f a s) = g s) : ∀ s : State, g (s.eachOf l f) = e (g s) := by
  induction l with
  | nil => simp at hb
  | cons a l ih =>
    intro s
    obtain ⟨ha, hl⟩ := List.nodup_cons.mp hl
    by_cases hab : a = b
    · subst hab
      refine (State.eachOf_off g (fun c hc => hoff c (by simp [hc]) (fun e => ha (e ▸ hc))) (f a s)).trans (hat s)
    · have hb' : b ∈ l := by simpa [Ne.symm hab] using hb
      rw [← hoff a (by simp) hab s]
      exact ih hl hb' (fun c hc => hoff c (by simp [hc])) (f a s)

theorem State.each_off {α : Type} {n : Nat} {f : Nat → State → State} (g : State → α) (h : ∀ i < n, ∀ s, g (f i s) = g s) (s : State) :
    g (s.each n f) = g s :=
  State.eachOf_off g (fun i hi => h i (List.mem_range.mp hi)) s

theorem State.each_at {α : Type} {n k : Nat} {f : Nat → State → State} (g : State → α) (e : α → α) (hk : k < n)
    (hat : ∀ s, g (f k s) = e (g s)) (hoff : ∀ i < n, i ≠ k → ∀ s, g (f i s) = g s) (s : State) : g (s.each n f) = e (g s) :=
  State.eachOf_at g e List.nodup_range (List.mem_range.mpr hk) hat (fun i hi => hoff i (List.mem_range.mp hi)) s

/-- R363: link `n` where its uplink has locked, and its state. -/
def lockLink (locked : BitVec 16) (n : Nat) (s : State) : State :=
  if locked.getLsbD n then (s.setLink n 1).updLink n (fun l => { l with locked := true }) else s

theorem lockLink_off (locked : BitVec 16) (n i : Fin 16) (h : i ≠ n) (s : State) :
    (lockLink locked i s).rd (0x5800 + n) 1 = s.rd (0x5800 + n) 1 ∧ (lockLink locked i s).link n = s.link n := by
  unfold lockLink
  split
  · refine ⟨?_, ?_⟩
    · rw [State.rd_congr (State.updLink_dict _ _ _), State.setLink, State.rd_wr_at _ _ (by omega) (by omega), if_neg (by omega)]
    · rw [State.link_updLink _ i.isLt, if_neg (Fin.val_inj.not.mpr h)]
      rfl
  · exact ⟨rfl, rfl⟩

theorem lockLink_on (locked : BitVec 16) (n : Fin 16) (h : locked.getLsbD n = true) (s : State) :
    (lockLink locked n s).rd (0x5800 + n) 1 = 1 ∧ ((lockLink locked n s).link n).locked = true := by
  rw [lockLink, if_pos h]
  refine ⟨?_, ?_⟩
  · rw [State.rd_congr (State.updLink_dict _ _ _), State.setLink, State.rd_wr_self _ _ (by decide), (tyAt_link n).1]
    rfl
  · rw [State.link_updLink _ n.isLt, if_pos rfl]

/-- R363: the boot responder stands on every link whose uplink locks. -/
theorem lockLinks (locked : BitVec 16) (s : State) (n : Fin 16) : let t := s.each 16 (lockLink locked);
    if locked.getLsbD n then t.rd (0x5800 + n) 1 = 1 ∧ (t.link n).locked = true
    else t.rd (0x5800 + n) 1 = s.rd (0x5800 + n) 1 ∧ t.link n = s.link n := by
  intro t
  have hoff (i : Nat) (hi : i < 16) (hne : i ≠ n) (s : State) := lockLink_off locked n ⟨i, hi⟩ (fun e => hne (congrArg Fin.val e)) s
  by_cases hlk : locked.getLsbD n = true
  · rw [if_pos hlk]
    have h := State.each_at (f := lockLink locked) (fun t : State => (t.rd (0x5800 + n) 1, (t.link n).locked)) (fun _ => (1, true)) n.isLt
      (fun s => Prod.ext (lockLink_on locked n hlk s).1 (lockLink_on locked n hlk s).2)
      (fun i hi hne s => Prod.ext (hoff i hi hne s).1 (congrArg Link.locked (hoff i hi hne s).2)) s
    exact ⟨congrArg Prod.fst h, congrArg Prod.snd h⟩
  · rw [if_neg hlk]
    have h := State.each_off (n := 16) (f := lockLink locked) (fun t : State => (t.rd (0x5800 + n) 1, t.link n)) (fun i hi s => ?_) s
    · exact ⟨congrArg Prod.fst h, congrArg Prod.snd h⟩
    · by_cases hne : i = n
      · rw [hne, lockLink, if_neg hlk]
      · exact Prod.ext (hoff i hi hne s).1 (hoff i hi hne s).2

end Sys2Proof.Machine

namespace Sys2Proof
open Machine

/-- Settles O47: the loss of the link leaves the connections alone, so the lowest other one is found as it stood before. -/
theorem powerInputs : Obligations.PowerInputs := by
  intro s dt u
  refine ⟨fun n k pres h3 ho hk hp h1 hl => ?only, fun n k pres hk h3 hk3 => ?another, fun hp h => ?rev, fun mv hp h hlo hr => ?range,
    fun mv hp h => ?gone, fun mv hp hlo hhi h => ?qualifying, fun h ht hr => ?qualified⟩
  case rev => exact (event_due (Bool.and_eq_true_iff.mpr ⟨hp, decide_eq_true h⟩) : execVauxReversed dt s = _)
  case range =>
    exact (event_due (Bool.and_eq_true_iff.mpr ⟨Bool.and_eq_true_iff.mpr ⟨hp, decide_eq_true h⟩, decide_eq_true ⟨hlo, hr⟩⟩) :
      execVauxOutOfRange dt mv s = _)
  case gone => exact (event_due hp : execAuxiliaryInputQualifying dt mv s = _).trans (congrArg _ (if_pos h))
  case qualifying =>
    refine ⟨_, (event_due hp : execAuxiliaryInputQualifying dt mv s = _).trans
      (congrArg _ ((if_neg (by omega)).trans (if_pos ⟨hlo, hhi, h⟩))), ?_, rfl, .trans (t := u.wr 0x5891 3 3) ?_ (.of_dict rfl)⟩
    · show ((u.wr 0x5891 3 3).rd 0x5891 3).toNat = 3
      rw [State.rd_wr_self _ _ (by decide), show tyAt 0x5891 3 = .u8 by decide +kernel]
      rfl
    · exact .wr u _ (by decide) ⟨rfl, rfl⟩
  case qualified =>
    exact (event_due (Bool.and_eq_true_iff.mpr ⟨Bool.and_eq_true_iff.mpr ⟨decide_eq_true h, decide_eq_true ht⟩,
      Bool.or_eq_true_iff.mpr (.inl hr)⟩) : execVauxQualified dt s = _)
  all_goals
    have hn := n.isLt
    have hlost (i : Fin 16) : ((u.setConn n 0).loseLink n).connState i = if n = i then 0 else u.connState i := by
      have hw : Writes (lossEntry n) (u.setConn n 0) ((u.setConn n 0).loseLink n) := (Writes.refl _ _).loseLink (fun _ _ h => h)
      refine (congrArg Int.toNat (hw.rd (by omega) ?_)).trans (u.setConn_connState n (by decide) i)
      unfold lossEntry queueEntry
      omega
    refine (event_due (Bool.or_eq_true_iff.mpr (.inr (decide_eq_true h3))) : execConnectionPowerRemoved dt n pres s = _).trans (congrArg _ ?_)
    show (if u.connState n = 3 ∧ _ then _ else _) = _
  case only =>
    have hnone : lowestOf (fun i => decide (((u.setConn n 0).loseLink n).connState i = 3)) = none := by
      refine lowestOf_none (fun i hi => decide_eq_false ?_)
      rw [hlost ⟨i, hi⟩]
      split
      · decide
      · next hne => exact ho ⟨i, hi⟩ (Ne.symm hne)
    have hsome : lowestOf (fun i => decide (i ≠ n.val) && pres.getLsbD i && (decide (((u.setConn n 0).loseLink n).connState i = 0) ||
        decide (((u.setConn n 0).loseLink n).connState i = 1))) = some k.val := by
      refine lowestOf_eq k.isLt ?_ (fun i hi => ?_)
      · rw [hlost k, if_neg (Ne.symm hk), hp]
        simp only [ne_eq, Fin.val_inj.not.mpr hk, not_false_eq_true, decide_true, Bool.true_and, Bool.or_eq_true, decide_eq_true_eq]
        omega
      · by_cases hin : i = n.val
        · simp [hin]
        · simp [hl i hi hin]
    rw [if_pos ⟨h3, hnone⟩, hsome]
  case another =>
    have hsome : lowestOf (fun i => decide (((u.setConn n 0).loseLink n).connState i = 3)) ≠ none := by
      intro hno
      rw [lowestOf, List.find?_eq_none] at hno
      have h0 := hno k (List.mem_range.mpr k.isLt)
      rw [hlost k, if_neg (Ne.symm hk)] at h0
      exact h0 (decide_eq_true hk3)
    exact if_neg (fun h => hsome h.2)

/-- Settles O44: each stage of the start follows the one before it. -/
theorem firstMilliseconds : Obligations.FirstMilliseconds := by
  intro s dt u
  refine ⟨fun bootSel pres n hf ht hp hk => ?filter, fun bootSel hf => ?nobody, fun h0 hx => ?good, fun hb h0 hr ht => ?core,
    fun hb ht => ?ports, fun locked hb ht => ?responder⟩
  case filter =>
    refine (event_due (Bool.and_eq_true_iff.mpr ⟨decide_eq_true hf, decide_eq_true ht⟩) : execPowerOnFilterRelease dt bootSel pres s = _).trans ?_
    rw [lowestOf_eq n.isLt hp hk]
    rfl
  case nobody =>
    show ok (if _ then _ else _) = _
    rw [lowestOf_none (fun k _ => by simp)]
    simp [u]
  case good =>
    refine (event_due (Bool.and_eq_true_iff.mpr ⟨decide_eq_true h0, ?_⟩) : execRailStepPowerGood dt s = _)
    split
    · rfl
    · next x hr => exact decide_eq_true (hx x hr)
  case core =>
    exact (event_due (Bool.and_eq_true_iff.mpr ⟨Bool.and_eq_true_iff.mpr ⟨Bool.and_eq_true_iff.mpr ⟨decide_eq_true hb, decide_eq_true h0⟩,
      decide_eq_true hr⟩, decide_eq_true ht⟩) : execCoreRelease dt s = _)
  case ports => exact (event_due (Bool.and_eq_true_iff.mpr ⟨decide_eq_true hb, decide_eq_true ht⟩) : execEthercatPortsOpen dt s = _)
  case responder =>
    refine ⟨_, (event_due (Bool.and_eq_true_iff.mpr ⟨decide_eq_true hb, decide_eq_true ht⟩) : execBootResponderStart dt locked s = _),
      State.each_off State.pow (fun i _ t => by split <;> rfl) _, lockLinks locked (u.bootTo .responder)⟩

end Sys2Proof
end

section
/-! ## Starts (O42, O43, O45) -/

set_option Elab.async false
namespace Sys2Proof.Machine

theorem tyAt_rails : tyAt 0x5892 1 = .u8 := by decide +kernel

/-- A change of the power part alone. -/
def State.onPow (s : State) (f : PowerSt → PowerSt) : State := { s with pow := f s.pow }

section
variable (s : State) (f : PowerSt → PowerSt)

@[simp] theorem State.onPow_pow : (s.onPow f).pow = f s.pow := rfl
@[simp] theorem State.onPow_dict : (s.onPow f).dict = s.dict := rfl
@[simp] theorem State.onPow_ev : (s.onPow f).ev = s.ev := rfl
@[simp] theorem State.onPow_now : (s.onPow f).now = s.now := rfl
@[simp] theorem State.onPow_dev : (s.onPow f).dev = s.dev := rfl

theorem Writes.onPow {P : Nat → Nat → Prop} {s t : State} (h : Writes P s t) {f : PowerSt → PowerSt} : Writes P s (t.onPow f) := h.eq rfl rfl

end

section
variable (s : State)

theorem State.railsFrom_rails (attempt : Nat) (at_ : Option Nat) : (s.railsFrom attempt at_).rd 0x5892 1 = 0 := by
  show (s.wr 0x5892 1 0).rd 0x5892 1 = 0
  rw [State.rd_wr_self _ _ (by decide), tyAt_rails]
  rfl

theorem State.railsFrom_pow (attempt : Nat) (at_ : Option Nat) : (s.railsFrom attempt at_).pow =
    { s.pow with boot := .rails, step := 1, attempt := attempt, retryAt := at_ } := rfl

theorem State.railsFrom_ev (attempt : Nat) (at_ : Option Nat) : (s.railsFrom attempt at_).ev = s.ev := rfl

@[simp] theorem State.setAl_dict (code : Nat) : (s.setAl code).dict = s.dict := rfl
@[simp] theorem State.setAl_ev (code : Nat) : (s.setAl code).ev = s.ev := rfl

theorem Writes.railsFrom {P : Nat → Nat → Prop} {s t : State} (h : Writes P s t) (hp : P 0x5892 1) {attempt : Nat} {at_ : Option Nat} :
    Writes P s (t.railsFrom attempt at_) := (h.wr (v := 0) (by decide) hp).eq rfl rfl

/-- R361: what a fault of step `k` leaves before the sequence goes on or halts. -/
def State.railTold (s : State) (k : Nat) : State := (s.raise1 675 (k * 256 + s.pow.attempt)).onPow (fun p => { p with warm := false })

theorem State.railFault_again (k : Nat) (hb : s.pow.boot = .rails) (ha : s.pow.attempt < 3) :
    s.railFault k = (s.railTold k).railsFrom (s.pow.attempt + 1) (some ((s.railTold k).now + ((s.railsOn - 1) * 1000000 + 100000000))) := by
  unfold State.railFault State.railTold
  simp only [hb, decide_true, Bool.not_true, Bool.false_eq_true, if_false, if_pos ha]
  generalize s.raise1 675 (k * 256 + s.pow.attempt) = a
  rfl

theorem State.railFault_halt (k : Nat) (hb : s.pow.boot = .rails) (ha : 3 ≤ s.pow.attempt) : s.railFault k =
    (((s.railTold k).wr 0x5892 1 0).onPow (fun p => { p with boot := .haltRail, step := 0, retryAt := none })).setAl 0x8002 := by
  unfold State.railFault State.railTold
  simp only [hb, decide_true, Bool.not_true, Bool.false_eq_true, if_false, if_neg (Nat.not_lt.mpr ha)]
  generalize s.raise1 675 (k * 256 + s.pow.attempt) = a
  rfl

theorem State.railTold_now (k : Nat) : (s.railTold k).now = s.now := by rw [State.railTold, State.onPow_now, State.raise1, State.raise_now]

theorem State.railTold_pow (k : Nat) : (s.railTold k).pow = { s.pow with warm := false } := by
  rw [State.railTold, State.onPow_pow, State.raise1, State.raise_pow]

theorem State.railTold_pres (k : Nat) : (s.railTold k).ev.pres = present ⟨675, .narrow (k * 256 + s.pow.attempt)⟩ s.ev.pres := by
  rw [State.railTold, State.onPow_ev, State.raise1, State.raise_pres]

theorem State.railTold_writes (k : Nat) : Writes (fun i j => (i = 0x5892 ∧ j = 1) ∨ i = 0x2800 + 675) s (s.railTold k) :=
  ((Writes.refl _ s).raise1 (fun _ => .inr rfl)).onPow

/-- R361: both converter rails are off after a fault of one of them. -/
def State.convertersOff (s : State) : State := (s.wrBit 0x5892 1 6 false).wrBit 0x5892 1 5 false

theorem State.convertersOff_bit {k : Nat} (hk : k < 8) : bit (s.convertersOff.rdN 0x5892 1) k =
    if 5 = k ∨ 6 = k then false else bit (s.rdN 0x5892 1) k := by
  rw [State.convertersOff, State.bit_wrBit _ (by decide) tyAt_rails _ _ hk, State.bit_wrBit _ (by decide) tyAt_rails _ _ hk]
  by_cases h5 : 5 = k <;> by_cases h6 : 6 = k <;> simp [h5, h6]

/-- R361: a fault of a converter rail `k`. -/
theorem State.converterFault_eq (k : Nat) : s.converterFault k =
    let t := (s.convertersOff.raise1 675 k).onPow (fun p => { p with step := 0, retryAt := none });
    if s.dev.move = .waking then ({ t with dev := { t.dev with move := .none, goal := t.dev.st } } : State).release 7 else t := by
  have hdev : (s.convertersOff.raise1 675 k).dev = s.dev := State.raise_dev _ _ _
  unfold State.converterFault
  rw [show ((s.wrBit 0x5892 1 6 false).wrBit 0x5892 1 5 false).raise1 675 k = s.convertersOff.raise1 675 k from rfl]
  rw [← hdev]
  generalize s.convertersOff.raise1 675 k = a
  rfl

end

/-- Raising a source leaves the arbiter's state but for what is presented. -/
theorem State.raise_ev (s : State) (k : Nat) (d : Detail) : (s.raise k d).ev = { s.ev with pres := present ⟨k, d⟩ s.ev.pres } :=
  congrArg State.ev (s.raise_eq k d)

/-! ### Warm starts (R362) -/

theorem watchdog_due {b : Boot} (h1 : b ≠ .unpowered) (h2 : b ≠ .filter) (h3 : b ≠ .rails) (h4 : b ≠ .haltRail) :
    (!([Boot.unpowered, .filter, .rails, .haltRail].contains b)) = true := by
  simp [h1, h2, h3, h4]

theorem Store.find_filter (f : Nat → Bool) (k : Nat) : ∀ l : List (Nat × Int),
    Store.find (l.filter (fun p => f p.1)) k = if f k then Store.find l k else none
  | [] => by simp [Store.find]
  | (a, v) :: l => by
    have ih := Store.find_filter f k l
    by_cases ha : f a = true
    · rw [List.filter_cons_of_pos (p := fun p : Nat × Int => f p.1) ha, Store.find, Store.find, ih]
      by_cases hk : a = k
      · subst hk
        simp [ha]
      · simp [hk]
    · rw [List.filter_cons_of_neg (p := fun p : Nat × Int => f p.1) ha, ih, Store.find]
      by_cases hk : a = k
      · subst hk
        simp [ha]
      · simp [hk]

/-- Latches, connection states and the rails are kept by the always-on domain. -/
theorem alwaysOn_kept : (∀ k : Fin 1024, alwaysOn (key (0x2800 + k) 1) = true) ∧ (∀ n : Fin 16, alwaysOn (key (0x58A0 + n) 1) = true) ∧
    alwaysOn (key 0x5892 1) = true := by decide +kernel

section
variable (s : State) (kind : Nat)

/-- The state of a warm start before the trims that were pending are asked for again. -/
def State.rejoined (s : State) (kind : Nat) : State := (s.restarted kind).convertersOff

/-- R403: asking for the trims again changes the trims and a count. -/
theorem State.keepTrims_eq (t : State) : s.keepTrims t = { t with dict := (s.keepTrims t).dict, trm := (s.keepTrims t).trm } := by
  have h := State.each_off (n := 8) (f := fun k t => t.updCluster k (fun c => { c with req := (s.abandonTrim.cluster k).req }))
    (fun t : State => { t with trm := default }) (fun _ _ _ => rfl) t
  unfold State.keepTrims
  extract_lets a
  generalize t.each 8 _ = w at *
  have e : w = { t with trm := w.trm } := congrArg (fun x : State => { x with trm := w.trm }) h
  generalize w.trm = m at e
  subst e
  rfl

theorem State.keepTrims_rd (t : State) {i j : Nat} (hj : j < 256) (h : ¬ (i = 0x2400 ∧ j = 8)) : (s.keepTrims t).rd i j = t.rd i j := by
  have hd : Touch (fun i j => i = 0x2400 ∧ j = 8) t (s.keepTrims t) := by
    unfold State.keepTrims
    extract_lets a
    have he : Touch (fun i j => i = 0x2400 ∧ j = 8) t (t.each 8 (fun k t => t.updCluster k (fun c => { c with req := (a.cluster k).req }))) := by
      refine .each (fun _ _ _ => ?_) t
      exact .of_dict rfl
    exact he.trans (.wr _ _ (by decide) ⟨rfl, rfl⟩)
  exact hd i j hj h

theorem State.restarted_rd {i j : Nat} (h : alwaysOn (key i j) = true) : (s.restarted kind).rd i j = s.rd i j := by
  show (Store.find (s.dict.filter (fun p => alwaysOn p.1)) (key i j)).getD _ = _
  rw [Store.find_filter, if_pos h]
  rfl

/-- What the always-on domain keeps reads after a warm start as before it. -/
theorem State.warmStart_rd {i j : Nat} (hj : j < 256) (h : alwaysOn (key i j) = true) (h1 : ¬ (i = 0x2400 ∧ j = 8)) (h2 : ¬ (i = 0x5892 ∧ j = 1)) :
    (s.warmStart kind).rd i j = s.rd i j := by
  have hd : Touch (fun i j => i = 0x5892 ∧ j = 1) (s.restarted kind) (s.rejoined kind) :=
    (Touch.wrBit _ _ _ (by decide) ⟨rfl, rfl⟩).trans (.wrBit _ _ _ (by decide) ⟨rfl, rfl⟩)
  exact ((s.keepTrims_rd (s.rejoined kind) hj h1).trans (hd i j hj h2)).trans (s.restarted_rd kind h)

/-- R362: rails 6 and 7 are off after a warm start, and the others as before. -/
theorem State.warmStart_rails {k : Nat} (hk : k < 8) :
    bit ((s.warmStart kind).rdN 0x5892 1) k = if 5 = k ∨ 6 = k then false else bit (s.rdN 0x5892 1) k := by
  have h1 : (s.warmStart kind).rdN 0x5892 1 = (s.rejoined kind).rdN 0x5892 1 :=
    congrArg Int.toNat (s.keepTrims_rd (s.rejoined kind) (by decide) (by decide))
  have h2 : (s.restarted kind).rdN 0x5892 1 = s.rdN 0x5892 1 := congrArg Int.toNat (s.restarted_rd kind alwaysOn_kept.2.2)
  rw [h1, State.rejoined, State.convertersOff_bit _ hk, h2]

/-- A warm start but for the entries and the trims. -/
theorem State.warmStart_eq : s.warmStart kind =
    { s.restarted kind with dict := (s.warmStart kind).dict, trm := (s.warmStart kind).trm } := s.keepTrims_eq (s.rejoined kind)

theorem State.tearSave_same (written : Nat) {p : Part} (hp : Off p 0x10000010) : p.Same s (s.tearSave written) :=
  (State.tearSave_keeps (.refl p s) hp written).same

/-- R20, R362: what a warm start of the device in state `s` leaves; `v`: the state once a save has been torn. -/
theorem State.warmStart_spec {u v : State} (hsame : ∀ p : Part, Off p 0x10000010 → p.Same u v) (kind : Nat) : let t := v.warmStart kind;
    t.dev = State.reset.dev ∧ t.compass = u.compass ∧ t.now = u.now ∧
      t.pow.boot = .core ∧ t.pow.begun = u.now ∧ t.pow.warm = true ∧ t.pow.kind = kind ∧ t.pow.conns = u.pow.conns ∧
      t.ev.log = u.ev.log ∧ t.ev.archive = [] ∧ t.door.ec.st = .init ∧ t.door.ec.al = 0x8001 ∧
      t.trn.enc = u.trn.enc ∧ t.trn.steps = u.trn.steps ∧ t.trn.counting = u.trn.counting ∧
      (∀ n : Fin 16, t.connState n = u.connState n) ∧
      (∀ k : Nat, k < 1024 → t.rd (0x2800 + k) 1 = u.rd (0x2800 + k) 1) ∧
      (∀ k < 5, bit (t.rdN 0x5892 1) k = bit (u.rdN 0x5892 1) k) ∧ bit (t.rdN 0x5892 1) 5 = false ∧ bit (t.rdN 0x5892 1) 6 = false := by
  intro t
  have hnow : v.now = u.now := hsame .now rfl
  have hoff : v.compassOff = u.compassOff := hsame .compassOff rfl
  have hdict : v.dict = u.dict := hsame .dict rfl
  have hpow : v.pow = u.pow := hsame .pow rfl
  have hev : v.ev = u.ev := hsame .ev rfl
  have htrn : v.trn = u.trn := hsame .trn rfl
  have ht : t = { v.restarted kind with dict := t.dict, trm := t.trm } := v.warmStart_eq kind
  have hcompass : t.compass = u.compass := by
    rw [ht, State.compass, State.compass, ← hnow, ← hoff]
    rfl
  have hrd (i j : Nat) : v.rd i j = u.rd i j := State.rd_congr hdict i j
  have hrails (k : Nat) (hk : k < 8) : bit (t.rdN 0x5892 1) k = if 5 = k ∨ 6 = k then false else bit (u.rdN 0x5892 1) k := by
    rw [v.warmStart_rails kind hk, State.rdN, hrd]
    rfl
  refine ⟨?_, hcompass, ?_, ?_, ?_, ?_, ?_, ?_, ?_, ?_, ?_, ?_, ?_, ?_, ?_, fun n => ?conns, fun k hk => ?latches, fun k hk => ?rails,
    hrails 5 (by decide), hrails 6 (by decide)⟩
  case conns =>
    refine congrArg Int.toNat ((v.warmStart_rd kind (by decide) (alwaysOn_kept.2.1 n) ?_ ?_).trans (hrd _ _)) <;> omega
  case latches =>
    refine (v.warmStart_rd kind (by decide) (alwaysOn_kept.1 ⟨k, hk⟩) ?_ ?_).trans (hrd _ _) <;> omega
  case rails => rw [hrails k (by omega), if_neg (by omega)]
  all_goals
    rw [ht]
    simp only [← hnow, ← hpow, ← hev, ← htrn]
    rfl

end

end Sys2Proof.Machine

namespace Sys2Proof
open Machine

/-- Settles O45: the sequence begins again, or halts; a fault of a converter rail ends a wake. -/
theorem railFaults : Obligations.RailFaults := by
  intro s dt k fell u hdue
  have hexec : exec (.railFault dt k fell) s = .next (if k.val < 5 then u.railFault (k + 1) else u.converterFault (k + 1)) :=
    (event_due hdue : execRailFault dt k fell s = _)
  rw [hexec]
  refine ⟨fun hk hb ha => ?again, fun hk hb ha => ?halt, fun hk hm => ?off, fun hk hm m hh => ?wake⟩
  case again =>
    rw [if_pos hk, u.railFault_again _ hb ha]
    refine ⟨_, rfl, State.railsFrom_rails _ _ _, ?_, fun hp => ?_, ((u.railTold_writes _).railsFrom (.inl ⟨rfl, rfl⟩)).touch⟩
    · rw [State.railsFrom_pow, u.railTold_pow, u.railTold_now]
    · rw [State.railsFrom_ev, u.railTold_pres]
      exact present_new hp
  case halt =>
    rw [if_pos hk, u.railFault_halt _ hb ha]
    refine ⟨_, rfl, ?_, rfl, rfl, rfl, ?_⟩
    · rw [State.rd_congr (State.setAl_dict _ _), State.rd_congr (State.onPow_dict _ _), State.rd_wr_self _ _ (by decide), tyAt_rails]
      rfl
    · rw [State.setAl_ev, State.onPow_ev, State.wr_ev, u.railTold_pres]
      exact present_src
  case off =>
    rw [if_neg (by omega), u.converterFault_eq, if_neg hm]
    have hpow : (u.convertersOff.raise1 675 (k + 1)).pow = u.pow := State.raise_pow _ _ _
    rw [← hpow, ← State.convertersOff]
    generalize u.convertersOff.raise1 675 (k + 1) = a
    rfl
  case wake =>
    rw [if_neg (by omega), u.converterFault_eq, if_pos hm]
    generalize hw : (u.convertersOff.raise1 675 (k + 1)).onPow (fun p => { p with step := 0, retryAt := none }) = w
    have hdev : w.dev = u.dev := by rw [← hw, State.onPow_dev, State.raise1, State.raise_dev]; rfl
    have hrails (j : Nat) (hj : j < 8) : bit (w.rdN 0x5892 1) j = if 5 = j ∨ 6 = j then false else bit (u.rdN 0x5892 1) j := by
      have hrd : w.rd 0x5892 1 = u.convertersOff.rd 0x5892 1 := by
        rw [← hw, State.rd_congr (State.onPow_dict _ _), State.raise1, State.rd_raise _ _ _ (by decide) (by decide)]
      rw [← u.convertersOff_bit hj, State.rdN, hrd]
      rfl
    dsimp only
    rw [State.release, hdev, hh]
    refine ⟨_, rfl, rfl, ?_, ?_⟩
    · exact (hrails 5 (by decide))
    · exact (hrails 6 (by decide))

/-- Settles O42: a rise of VDD_AON, and the collapse of the bus, leave what every start keeps. -/
theorem powerOnAndOff : Obligations.PowerOnAndOff := by
  intro s dt written u
  refine ⟨fun hp => ⟨_, (event_due (by simpa using hp) : execColdStart dt s = _), ?_⟩,
    fun hp hs => ⟨(u.kept).bootTo .unpowered, ?_, ?_⟩⟩
  · exact ⟨rfl, rfl, (by decide : (0 / 40 * 40 + 0) % 2 ^ 64 = 0), rfl, rfl, rfl, rfl, rfl, rfl, rfl, rfl, rfl, rfl, rfl⟩
  · refine (event_due hp : execLossOfPower dt written s = _).trans ?_
    have h : u.tearSave written = u := by
      unfold State.tearSave
      rw [hs]
    exact congrArg (fun v : State => Host.Outcome.next (v.kept.bootTo .unpowered)) h
  · exact ⟨rfl, rfl, rfl, rfl, rfl, rfl, rfl, rfl, rfl, rfl⟩

/-- Settles O43: the warm start is the same for both triggers, but for its kind and the watchdog's event. -/
theorem warmStarts : Obligations.WarmStarts := by
  intro s dt written low u
  have htear (p : Part) (hp : Off p 0x10000010) : p.Same u (u.tearSave written) := u.tearSave_same written hp
  refine ⟨fun h1 h2 h3 h4 c kind hc => ?_, fun h hl => ?_, fun hf => ?_⟩
  · have hspec := State.warmStart_spec htear kind
    have hp : u.powered = true := decide_eq_true h1
    obtain ⟨rfl, hl, rfl⟩ | ⟨rfl, rfl⟩ := hc
    · refine ⟨(u.tearSave written).warmStart 1, ?_, ?_⟩
      · refine (event_due (Bool.and_eq_true_iff.mpr ⟨hp, decide_eq_true hl⟩) : execNreset dt low written s = _).trans (congrArg _ ?_)
        exact (if_neg h2).trans (if_neg (fun h => h.elim h3 h4))
      · obtain ⟨a1, a2, a3, a4, a5, a6, a7, a8, a9, a10, a11, a12, a13, a14, a15, a16, a17, a18, a19, a20⟩ := hspec
        exact ⟨a1, a2, a3, a4, a5, a6, a7, a8, a9, a10, a11, a12, a13, a14, a15, a16, a17, a18, a19, a20, fun h => absurd h (by decide)⟩
    · generalize hw : (u.tearSave written).warmStart 2 = w at hspec
      obtain ⟨a1, a2, a3, a4, a5, a6, a7, a8, a9, a10, a11, a12, a13, a14, a15, a16, a17, a18, a19, a20⟩ := hspec
      refine ⟨w.raise1 994 0, ?_, ?_⟩
      · exact (event_due (watchdog_due h1 h2 h3 h4) : execWatchdogRestart dt written s = _).trans (hw ▸ rfl)
      · have hrd (i : Nat) : (w.raise1 994 0).rd i 1 = w.rd i 1 := State.rd_raise _ _ _ (by decide) (by omega)
        have hN (i : Nat) : (w.raise1 994 0).rdN i 1 = w.rdN i 1 := congrArg Int.toNat (hrd i)
        have hev : (w.raise1 994 0).ev = { w.ev with pres := present ⟨994, .narrow 0⟩ w.ev.pres } := w.raise_ev 994 _
        have hpow : (w.raise1 994 0).pow = w.pow := State.raise_pow _ _ _
        have hdoor : (w.raise1 994 0).door = w.door := State.raise_door _ _ _
        have htrn : (w.raise1 994 0).trn = w.trn := State.raise_trn _ _ _
        have hcompass : (w.raise1 994 0).compass = w.compass := by
          rw [State.compass, State.compass, State.raise1, State.raise_now, State.raise_compassOff]
        rw [hpow, hdoor, htrn, hev, hcompass, hN]
        exact ⟨(State.raise_dev _ _ _).trans a1, a2, (State.raise_now _ _ _).trans a3, a4, a5, a6, a7, a8, a9, a10, a11, a12, a13, a14, a15,
          fun n => (hN _).trans (a16 n), fun k hk => (hrd _).trans (a17 k hk), a18, a19, a20,
          fun _ => hev ▸ State.presents_raise1 w 994 0⟩
  · refine ⟨(u.railsFrom 1 none).setAl 0, ?_, rfl, ?_, ?_⟩
    · have hp : u.powered = true := decide_eq_true (by obtain h | h := h <;> simp [h])
      refine (event_due (Bool.and_eq_true_iff.mpr ⟨hp, decide_eq_true hl⟩) : execNreset dt low written s = _).trans (congrArg _ ?_)
      refine (if_neg (fun e : u.pow.boot = .filter => ?_)).trans (if_pos h)
      obtain h | h := h <;> exact absurd (h.symm.trans e) (by decide)
    · exact u.railsFrom_rails 1 none
    · exact (((Writes.refl _ u).railsFrom (attempt := 1) (at_ := none) ⟨rfl, rfl⟩).touch).trans (.of_dict rfl)
  · show ok (if _ then (if u.pow.boot = Boot.filter then _ else _) else _) = _
    rw [if_pos hf, ite_self]

end Sys2Proof
end

section
/-! ## The bank, the reload and Ready (O46, O48) -/

set_option Elab.async false
namespace Sys2Proof.Machine

/-! ### Ready -/

section
variable (s : State)

/-- R363: what precedes the boot record at Ready. -/
def State.readyMade (s : State) : State :=
  s.requestedService.applyTrim.resumeSession.confirmTrial.tellFallback.storedSets.startupActive.stamp

/-- R363: the device enters Bivouac. -/
def State.readyEntered (s : State) : State :=
  let s := (s.toState .bivouac).setAl 0
  { s with dev := { s.dev with ready := true, goal := .bivouac }, pow := { s.pow with boot := .done, failed := 0, lastPen := s.now } }

/-- R363: what Ready begins. -/
def State.readyBegun (s : State) : State := s.linksRest.refreshLamps.canteenStart.auxSleep

theorem State.readyMade_same {p : Part} (hp : Off p 0xd50c05b4) : p.Same s s.readyMade := by
  have h := State.stamp_keeps (State.startupActive_keeps (State.storedSets_keeps (State.tellFallback_keeps (State.confirmTrial_keeps
    (State.resumeSession_keeps (State.applyTrim_keeps (State.requestedService_keeps (.refl p s) (hp.sub rfl)) (hp.sub rfl)) (hp.sub rfl))
    (hp.sub rfl)) (hp.sub rfl)) (hp.sub rfl)) (hp.sub rfl)) (hp.sub rfl)
  exact h.same

theorem State.readyBegun_same {p : Part} (hp : Off p 0x28004) : p.Same s s.readyBegun := by
  have h := State.auxSleep_keeps (State.canteenStart_keeps (State.refreshLamps_keeps (State.linksRest_keeps (.refl p s) (hp.sub rfl))
    (hp.sub rfl)) (hp.sub rfl)) (hp.sub rfl)
  exact h.same

/-- R368: the boot record shows the start. -/
theorem State.bootRecord_rd : let t := s.bootRecord;
    t.rd 0x2060 1 = (s.pow.kind : Int) % 2 ^ 8 ∧ t.rd 0x2060 2 = (s.pow.bank : Int) % 2 ^ 8 ∧ t.rd 0x2060 3 = (s.pow.reason : Int) % 2 ^ 8 ∧
      t.rd 0x2060 4 = (s.pow.attempt : Int) % 2 ^ 8 ∧ t.rd 0x2060 5 = ((s.now - s.pow.begun) / 1000 : Nat) % 2 ^ 32 ∧
      t.rd 0x2060 6 = (s.pow.firstConn : Int) % 2 ^ 8 ∧ t.rd 0x2060 8 = (s.pow.reload : Int) % 2 ^ 16 := by
  have ht : tyAt 0x2060 1 = .u8 ∧ tyAt 0x2060 2 = .u8 ∧ tyAt 0x2060 3 = .u8 ∧ tyAt 0x2060 4 = .u8 ∧ tyAt 0x2060 5 = .u32 ∧
      tyAt 0x2060 6 = .u8 ∧ tyAt 0x2060 8 = .u16 := by decide +kernel
  obtain ⟨h1, h2, h3, h4, h5, h6, h8⟩ := ht
  refine ⟨?_, ?_, ?_, ?_, ?_, ?_, ?_⟩ <;> unfold State.bootRecord <;> simp (disch := omega) [State.rd_wr_at, h1, h2, h3, h4, h5, h6, h8]

/-- The entries that Ready writes once the boot record stands. -/
def readyEntry (i _ : Nat) : Prop :=
  i = 0x2000 ∨ (0x5800 ≤ i ∧ i < 0x5810) ∨ (0x4C10 ≤ i ∧ i < 0x4C60) ∨ i = 0x5A00 ∨ (0x5100 ≤ i ∧ i < 0x5104) ∨ i = 0x2800 + 676

end

section
variable {s t : State}

theorem Writes.linksRest (h : Writes readyEntry s t) : Writes readyEntry s t.linksRest :=
  h.each (fun n hn _ h => .ite (h.wr (by decide) (by unfold readyEntry; omega)) h)

theorem Writes.refreshLamps (h : Writes readyEntry s t) : Writes readyEntry s t.refreshLamps := by
  unfold State.refreshLamps
  refine .each (.each h (fun i hi t h => ?_)) (fun j hj t h => ?_)
  · exact .ite (h.wr (by decide) (by unfold readyEntry; omega)) (.ite (h.wr (by decide) (by unfold readyEntry; omega)) h)
  · exact .ite (h.wr (by decide) (by unfold readyEntry; omega)) (.ite (h.wr (by decide) (by unfold readyEntry; omega)) h)

theorem Writes.canteenStart (h : Writes readyEntry s t) : Writes readyEntry s t.canteenStart := by
  have hp (j : Nat) : readyEntry 0x5A00 j := by unfold readyEntry; omega
  unfold State.canteenStart
  extract_lets top
  exact ((h.wr (by decide) (hp 3)).wr (by decide) (hp 2)).updCan

theorem Writes.auxSleep (h : Writes readyEntry s t) : Writes readyEntry s t.auxSleep := by
  unfold State.auxSleep
  extract_lets a
  have ha : Writes readyEntry s a := h.eq rfl rfl
  have he : Writes readyEntry s (a.endExcitation []) := ha.each (fun q _ t h => .ite h (h.eq rfl rfl))
  exact he.each (fun k hk _ h => h.wr (by decide) (by unfold readyEntry; omega))

theorem Writes.readyBegun (h : Writes readyEntry s t) : Writes readyEntry s t.readyBegun := h.linksRest.refreshLamps.canteenStart.auxSleep

theorem Writes.readyEntered (h : Writes readyEntry s t) : Writes readyEntry s t.readyEntered :=
  (h.bump (i := 0x2000) (j := 7) (n := 1) (by decide) (.inl rfl)).eq rfl rfl

theorem Writes.bootSummary (h : Writes readyEntry s t) : Writes readyEntry s t.bootSummary := by
  unfold State.bootSummary
  extract_lets a
  have ha : Writes readyEntry s a := h.raise (fun _ => by unfold readyEntry; omega)
  clear_value a
  exact ha.eq rfl rfl

theorem execReady_due {s : State} {dt : Nat} (h : ((s.pass dt).pow.boot = .loaded && !(s.pass dt).upd.failing) = true) :
    execReady dt s = .next (s.pass dt).readyMade.bootRecord.readyEntered.readyBegun.bootSummary := by
  refine (event_due h).trans (congrArg _ ?_)
  dsimp only [State.readyMade, State.readyEntered, State.readyBegun]

end

end Sys2Proof.Machine

namespace Sys2Proof
open Machine

/-- Settles O46: after the boot record Ready writes other entries only. -/
theorem readyEndsTrailhead : Obligations.ReadyEndsTrailhead := by
  intro s dt u hb hf
  generalize hm : u.readyMade = m
  generalize he : m.bootRecord.readyEntered = e
  generalize hg : e.readyBegun = g
  have hpow : m.pow = u.pow := hm ▸ u.readyMade_same (p := .pow) rfl
  have hnow : m.now = u.now := hm ▸ u.readyMade_same (p := .now) rfl
  have hdev : g.dev = e.dev := hg ▸ e.readyBegun_same (p := .dev) rfl
  have hgpow : g.pow = e.pow := hg ▸ e.readyBegun_same (p := .pow) rfl
  have hec : g.door.ec = e.door.ec := hg ▸ e.readyBegun_same (p := .ec) rfl
  have hw : Writes readyEntry m.bootRecord g.bootSummary := hg ▸ he ▸ (Writes.refl _ m.bootRecord).readyEntered.readyBegun.bootSummary
  have hrd (j : Nat) (hj : j < 256) : g.bootSummary.rd 0x2060 j = m.bootRecord.rd 0x2060 j := hw.rd hj (by unfold readyEntry; omega)
  have hsame {p : Part} (hp : Off p 0x4000024) : p.Same g g.bootSummary := (State.bootSummary_keeps (.refl p g) hp).same
  have hdev' : g.bootSummary.dev = g.dev := hsame (p := .dev) rfl
  have hpow' : g.bootSummary.pow = g.pow := hsame (p := .pow) rfl
  have hec' : g.bootSummary.door.ec = g.door.ec := hsame (p := .ec) rfl
  have hedev : e.dev = { m.dev with st := .bivouac, move := .none, ready := true, goal := .bivouac } := he ▸ rfl
  obtain ⟨r1, r2, r3, r4, r5, r6, r8⟩ := m.bootRecord_rd
  rw [hpow, hnow] at r5
  rw [hpow] at r1 r2 r3 r4 r6 r8
  refine ⟨g.bootSummary, ?_, ?_, ?_, ?_, ?_, ?_, ?_, rfl, ?_, (hrd _ (by decide)).trans r1, (hrd _ (by decide)).trans r2,
    (hrd _ (by decide)).trans r3, (hrd _ (by decide)).trans r4, (hrd _ (by decide)).trans r5, (hrd _ (by decide)).trans r6,
    (hrd _ (by decide)).trans r8⟩
  · have hdue : (u.pow.boot = .loaded && !u.upd.failing) = true := by simp only [hb, hf]; rfl
    refine (execReady_due hdue).trans ?_
    rw [show (s.pass dt).readyMade = m from hm, he, hg]
  · rw [hdev', hdev, hedev]
  · rw [hdev', hdev, hedev]
  · rw [hdev', hdev, hedev]
  · rw [hdev', hdev, hedev]
  · rw [hpow', hgpow, ← he]
    rfl
  · rw [hec', hec, ← he]
    rfl
  · exact g.presents_raise 676 (.wide g.ev.bootCount g.ev.bootClass)

end Sys2Proof
end

section
set_option Elab.async false
namespace Sys2Proof.Machine

/-! ### The choice of the bank (R364) and the image in the halt (R426) -/

theorem bit_zero (k : Nat) : bit 0 k = false := by simp [bit]

section
variable (s : State)

theorem State.markedActive_le : s.markedActive ≤ 1 := by
  unfold State.markedActive
  split <;> decide

theorem State.applyLayers_pow : s.applyLayers.pow = s.pow := (State.applyLayers_keeps (.refl .pow s) rfl).same

/-- R364: without a trial, the bank marked active is wanted, or with BOOT_SEL the other one. -/
theorem State.wantedBank_plain (h : s.upd.trial = none) :
    s.wantedBank = (s, if s.pow.bootSel then 1 - s.markedActive else s.markedActive, b2n s.pow.bootSel) := by
  unfold State.wantedBank
  rw [h]
  cases s.pow.bootSel <;> rfl

/-- R364: without a trial the bank taken runs. -/
theorem State.runBank_plain (h : s.upd.trial = none) (b why : Nat) :
    s.runBank b why = s.onPow (fun p => { p with bank := b, reason := why, boot := .banked }) := by
  unfold State.runBank
  simp only [h]
  rfl

section
variable {s} (h : s.upd.trial = none) {good : Nat → Bool}
include h

theorem State.selectBank_wanted {b : Nat} (hb : (if s.pow.bootSel then 1 - s.markedActive else s.markedActive) = b) (hg : good b = true) :
    (s.selectBank good true).pow = { s.pow with bank := b, reason := b2n s.pow.bootSel, boot := .banked } := by
  unfold State.selectBank
  simp only [s.wantedBank_plain h, hb, if_true, hg]
  rw [State.applyLayers_pow, s.runBank_plain h]
  rfl

theorem State.selectBank_other {b : Nat} (hb : (if s.pow.bootSel then 1 - s.markedActive else s.markedActive) = b) (hg : good b = false)
    (hg' : good (1 - b) = true) : (s.selectBank good true).pow = { s.pow with bank := 1 - b, reason := 2, boot := .banked } := by
  unfold State.selectBank
  simp only [s.wantedBank_plain h, hb, if_true, hg, hg', Bool.false_eq_true, if_false]
  rw [State.applyLayers_pow, s.runBank_plain h]
  rfl

theorem State.selectBank_none (h0 : good 0 = false) (h1 : good 1 = false) : s.selectBank good true = (s.bootTo .haltBank).setAl 0x8003 := by
  have hb : ∀ b ≤ 1, good b = false := fun b hb => by interval_cases b <;> assumption
  have hm := s.markedActive_le
  have hw : (if s.pow.bootSel = true then 1 - s.markedActive else s.markedActive) ≤ 1 := by split <;> omega
  unfold State.selectBank
  simp only [s.wantedBank_plain h, if_true, hb _ hw, hb _ (Nat.sub_le 1 _), Bool.false_eq_true, if_false]

end

/-- What the image of the blocks `bs` puts into bank A (R426). -/
def imageBank (bs : List Byte) : FwBank where
  code := 1
  version := fieldAt (bs.take 4096) 32 4
  fmt := fieldAt (bs.take 4096) 40 2
  oldest := fieldAt (bs.take 4096) 42 2
  content := some ((bs.drop 4096).take (hResult (bs.take 4096)), sha256 ((bs.drop 4096).take (hResult (bs.take 4096))))

/-- R426: an image that is of this device and matches its digests. -/
theorem State.bootstrapImage_taken {bs : List Byte} {manifest : Bool} (h1 : headerFormatBad (bs.take 4096) = false)
    (h2 : fieldAt (bs.take 4096) 8 4 = Config.vendorId) (h3 : fieldAt (bs.take 4096) 12 4 = 0x6400) (h4 : fieldAt (bs.take 4096) 16 4 = 0x20000)
    (h5 : bit (fieldAt (bs.take 4096) 7 1) 0 = false) (h6 : headerLimitsBad (bs.take 4096) = false) (h7 : hKind (bs.take 4096) ≠ 2)
    (h8 : hLength (bs.take 4096) = bs.length) (h9 : sha256 (bs.drop 4096) = slice (bs.take 4096) 88 32)
    (h10 : sha256 ((bs.drop 4096).take (hResult (bs.take 4096))) = hDigest (bs.take 4096)) (h11 : manifest = true) :
    s.bootstrapImage bs manifest true = ((((s.updFw 0 (fun _ => imageBank bs)).updFw 1 (fun q =>
      { q with code := if q.code = 1 then 0 else q.code })).mailbox 0).updUpd (fun u => { u with trial := none, trying := false })).warmStart 3 := by
  unfold State.bootstrapImage
  simp only [h1, h2, h3, h4, h5, h6, h7, h8, h9, h10, h11]
  simp [State.raiseIf, imageBank, h10]

theorem State.bootstrapImage_format {bs : List Byte} {manifest good : Bool} (h : headerFormatBad (bs.take 4096) = true) :
    s.bootstrapImage bs manifest good = (s.raise1 768 0).mailbox 0x8004 := by
  unfold State.bootstrapImage
  simp [h, State.raiseIf]

theorem State.fw_updFw_at (s : State) {b : Nat} (hb : b < 2) (f : FwBank → FwBank) (k : Nat) :
    (s.updFw b f).fw k = if b = k then f (s.fw k) else s.fw k := by
  show vget (vupd s.upd.banks b f) k = _
  simp [vget_vupd, hb, State.fw]

/-- R426: the image accepted in the halt is in bank A, active, and bank B is not. -/
theorem State.imageTaken_fw (q : FwBank) : let v := (((s.updFw 0 (fun _ => q)).updFw 1 (fun q =>
      { q with code := if q.code = 1 then 0 else q.code })).mailbox 0).updUpd (fun u => { u with trial := none, trying := false });
    v.fw 0 = q ∧ (v.fw 1).code ≠ 1 ∧ v.upd.trial = none := by
  have h (w : State) (k : Nat) : ((w.mailbox 0).updUpd (fun u => { u with trial := none, trying := false })).fw k = w.fw k := rfl
  refine ⟨?_, ?_, rfl⟩
  · rw [h, State.fw_updFw_at _ (by decide), if_neg (by decide), State.fw_updFw_at _ (by decide), if_pos rfl]
  · rw [h, State.fw_updFw_at _ (by decide), if_pos rfl]
    dsimp only
    split <;> omega

theorem State.warmStart_fw (kind b : Nat) : (s.warmStart kind).fw b = s.fw b := by
  rw [State.fw, s.warmStart_eq kind]
  rfl

end

end Sys2Proof.Machine

namespace Sys2Proof
open Machine

/-- Settles O48: the choice runs through the banks; a reload that fails and an accepted image begin a warm start. -/
theorem bankAndReload : Obligations.BankAndReload := by
  intro s dt u
  refine ⟨fun hb ht htr hfail good => ?_, fun hb hf first second => ⟨fun h => ?_, fun h => ?_⟩, fun bs manifest hb hst => ⟨fun h => ?_,
    fun h1 h2 h3 h4 h5 h6 h7 h8 h9 h10 h11 => ?_⟩⟩
  · have hdue : (u.pow.boot = .responder && decide (40000000 ≤ u.timeline)) = true :=
      Bool.and_eq_true_iff.mpr ⟨decide_eq_true hb, decide_eq_true ht⟩
    have hexec : exec (.bankSelect dt (good 0) (good 1) true) s =
        .next (u.selectBank (fun b => (if b = 0 then good 0 else good 1) && !bit u.pow.failed b) true) :=
      (event_due hdue : execBankSelect dt (good 0) (good 1) true s = _)
    have hgood (b : Fin 2) : ((if b.val = 0 then good 0 else good 1) && !bit u.pow.failed b) = good b := by
      rw [hfail, bit_zero]
      match b with
      | 0 => simp
      | 1 => simp
    rw [hexec]
    refine ⟨fun b hbw hg => ⟨_, rfl, ?_⟩, fun b hbw hg hg' => ⟨_, rfl, ?_⟩, fun h0 h1 => congrArg _ ?_⟩
    · refine State.selectBank_wanted htr rfl ?_
      exact hbw ▸ (hgood b).trans hg
    · refine State.selectBank_other htr rfl (hbw ▸ (hgood b).trans hg) ?_
      have : (1 - b : Fin 2).val = 1 - b.val := (by decide : ∀ b : Fin 2, (1 - b).val = 1 - b.val) b
      exact hbw ▸ this ▸ (hgood (1 - b)).trans hg'
    · exact State.selectBank_none htr ((hgood 0).trans h0) ((hgood 1).trans h1)
  · refine (event_due (Bool.and_eq_true_iff.mpr ⟨decide_eq_true hb, ?_⟩) : execSubprocessorReload dt first second s = _).trans
      (congrArg _ (if_neg (not_not_intro h)))
    exact (Bool.not_eq_true' _).mpr hf
  · obtain ⟨hdev, -, -, hboot, -, hwarm, hkind, -⟩ := State.warmStart_spec (u := u) (v := u) (fun p _ => .refl p u) 4
    refine ⟨(u.warmStart 4).onPow (fun p => { p with failed := setBit u.pow.failed u.pow.bank true }), ?_, ?_⟩
    · refine (event_due (Bool.and_eq_true_iff.mpr ⟨decide_eq_true hb, (Bool.not_eq_true' _).mpr hf⟩) :
        execSubprocessorReload dt first second s = _).trans (congrArg _ ((if_pos h).trans ?_))
      exact rfl
    · rw [State.onPow_pow, State.onPow_dev]
      exact ⟨hboot, hwarm, hkind, (bit_setBit _ _ _ _).trans (if_pos rfl), hdev⟩
  · refine (event_due (Bool.and_eq_true_iff.mpr ⟨decide_eq_true hb, decide_eq_true hst⟩) : execBootstrapImageWrite dt bs manifest true s = _).trans
      (congrArg _ ?_)
    exact u.bootstrapImage_format h
  · refine ⟨u.bootstrapImage bs manifest true, (event_due (Bool.and_eq_true_iff.mpr ⟨decide_eq_true hb, decide_eq_true hst⟩) :
      execBootstrapImageWrite dt bs manifest true s = _), ?_⟩
    rw [u.bootstrapImage_taken h1 h2 h3 h4 h5 h6 h7 h8 h9 h10 h11]
    have hfw := u.imageTaken_fw (imageBank bs)
    generalize State.updUpd _ _ = v at hfw
    obtain ⟨-, -, -, hboot, -, hwarm, -⟩ := State.warmStart_spec (u := v) (v := v) (fun p _ => .refl p v) 3
    obtain ⟨h0, h1, htr⟩ := hfw
    have htrial : (v.warmStart 3).upd.trial = v.upd.trial := by rw [v.warmStart_eq 3]; rfl
    rw [htrial, v.warmStart_fw, v.warmStart_fw, h0]
    exact ⟨hboot, hwarm, rfl, rfl, h1, htr⟩

end Sys2Proof
end

section
/-! ## The device's state (O8 to O10) -/

set_option Elab.async false
namespace Sys2Proof.Machine

/-- Requests for a state may be written at any time (R24). -/
theorem request_row : rowOpen 0x2000 2 = true ∧ verdict 0x2000 2 1 = .keep 1 ∧ verdict 0x2000 2 2 = .keep 2 ∧
    verdict 0x2000 2 3 = .keep 3 ∧ verdict 0x2000 2 4 = .keep 4 := by decide +kernel

theorem tyAt_request : tyAt 0x2000 2 = .u8 := by decide +kernel

section
variable {s : State}

/-- A request that is not held for a wake is a command of the row 0x2000:02. -/
theorem State.requestState_command {m : Nat} {v : Int} (hm : s.masterPresent m = true) (hr : s.dev.ready = true)
    (hv : verdict 0x2000 2 v = .keep v) (hw : (v = 2 ∨ v = 3) → s.holdsWake = false) :
    s.requestState m v = (opRequest v s).1.answer m 0x2000 2 (opRequest v s).2 := by
  have hc : ((v = 2 || v = 3) && s.holdsWake && s.masterPresent m) = false := by
    by_cases h : v = 2 ∨ v = 3
    · rw [hw h, Bool.and_false, Bool.false_and]
    · have : (decide (v = 2) || decide (v = 3)) = false := by simpa using h
      rw [this, Bool.false_and, Bool.false_and]
  unfold State.requestState
  rw [hc, if_neg (by decide)]
  exact State.command_open hm hr request_row.1 hv

theorem State.holdsWake_live (h : s.live = true) : s.holdsWake = false := by
  unfold State.live at h
  unfold State.holdsWake
  cases hs : s.dev.st <;> simp [hs] at h ⊢

theorem State.holdsWake_rest (hs : s.dev.st = .standby) (hm : s.dev.move = .none) (hc : s.converterRails = true) : s.holdsWake = false := by
  simp [State.holdsWake, hs, hm, hc]

theorem opRequest_scan (hs : s.dev.st = .standby) (hm : s.dev.move = .none) :
    opRequest 3 s = (if s.scanFromStandby.2 = 0 then s.scanFromStandby.1.wr 0x2000 2 3 else s.scanFromStandby.1, s.scanFromStandby.2) := by
  simp [opRequest, hs, hm]

theorem opRequest_pause (hs : s.dev.st = .scanning) (ho : s.ownMove = false) :
    opRequest 4 s = (((s.atBoundary .paused).release 0).wr 0x2000 2 4, 0) := by
  simp [opRequest, hs, ho]

theorem opRequest_noPause (hs : s.dev.st = .bivouac ∨ s.dev.st = .standby) : opRequest 4 s = (s, 7) := by
  obtain h | h := hs <;> cases hm : s.dev.move <;> simp [opRequest, h, hm]

theorem opRequest_stop (hs : s.dev.st = .scanning ∨ s.dev.st = .paused) :
    opRequest 2 s = (((s.atBoundary .standby).release 0).wr 0x2000 2 2, 0) := by
  obtain h | h := hs <;> simp [opRequest, h]

theorem opRequest_sleep (hs : s.dev.st = .scanning ∨ s.dev.st = .paused) :
    opRequest 1 s = ((({ s.atBoundary .standby with dev := { (s.atBoundary .standby).dev with goal := .bivouac } } : State).release
      0).wr 0x2000 2 1, 0) := by
  obtain h | h := hs <;> simp [opRequest, h]

theorem State.scanFromStandby_busy (h : s.calibrating = true) : s.scanFromStandby = (s, 8) := if_pos h

theorem State.scanFromStandby_none (h : s.calibrating = false) (ha : 32 ≤ s.activeRecipe) : s.scanFromStandby = (s, 7) := by
  simp [State.scanFromStandby, h, ha]

theorem State.scanFromStandby_checked (h : s.calibrating = false) (ha : s.activeRecipe < 32) (hs : s.can.shutAt = none) :
    s.scanFromStandby = if s.combinationCheck.2 then (s.combinationCheck.1.enterScanning, 0) else (s.combinationCheck.1, 10) := by
  simp [State.scanFromStandby, h, hs, Nat.not_le.mpr ha]

end

/-! ### The combination check and the entry to Scanning -/

section
variable (s : State)

/-- The entries that the combination check of a request writes (R28, R150). -/
def checkEntry (i j : Nat) : Prop := (i = 0x2000 ∧ 0x10 ≤ j) ∨ i = 0x4240 ∨ i = 0x4241 ∨ i = 0x2800 + 847

theorem Touch.report (c : CheckResult) : Touch checkEntry s (s.report c) :=
  .wrAll (fun k _ => .inl ⟨rfl, by omega⟩) (by simp) s

theorem Touch.recheck {num : Nat} (hn : num < 32) : Touch checkEntry s (s.recheck num) := by
  have h0 (j : Nat) : checkEntry 0x4240 j := .inr (.inl rfl)
  have h1 (j : Nat) : checkEntry 0x4241 j := .inr (.inr (.inl rfl))
  unfold State.recheck
  split
  · exact .refl _ s
  · extract_lets c was a
    have ha : Touch checkEntry s a := .wr s _ (by omega) (h1 _)
    split
    · exact ha.trans (.wr a _ (by omega) (h0 _))
    · exact ha.trans ((Touch.wr a _ (by omega) (h0 _)).trans (.raiseIf _ _ _ _ (fun _ _ => .inr (.inr (.inr rfl)))))

theorem Touch.combinationCheck : Touch checkEntry s s.combinationCheck.1 := by
  unfold State.combinationCheck
  extract_lets first a
  have ha : Touch checkEntry s a := .each (fun i hi t => Touch.recheck t hi) s
  split
  · exact .report s _
  · split
    · exact ha.trans (.report a _)
    · exact ha.trans (.report a _)

theorem State.enterScanning_dev : s.enterScanning.dev = { s.dev with st := .scanning, move := .none, running := s.rdN 0x2000 4 } := by
  unfold State.enterScanning
  extract_lets d a b c e
  have hb : Keeps .dev (a.toState .scanning) b := State.clampStrobes_keeps (State.showRates_keeps (State.setClocks_keeps
    (State.chooseDram_keeps (State.showClusters_keeps (.refl .dev (a.toState .scanning)) rfl) rfl) rfl _) rfl) rfl
  have hc : Keeps .dev b c := State.streamsEntry_keeps (State.ridgeEntry_keeps (State.matchAtEntry_keeps (.refl .dev b) rfl) rfl) rfl
  have he : Keeps .dev c e := State.resetGroups_keeps (State.transportEntry_keeps (.refl .dev c) rfl) rfl true
  clear_value e c b
  have hf : Keeps .dev e (e.wr 0x5A00 0xD e.lineLimit).lampEntry := State.lampEntry_keeps (Keeps.wr (.refl .dev e) rfl _ _ _) rfl
  have hdev : (e.wr 0x5A00 0xD e.lineLimit).lampEntry.dev = (a.toState .scanning).dev := ((hb.same.trans hc.same).trans he.same).trans hf.same
  rw [hdev]
  rfl

theorem State.release_same {s : State} {p : Part} (hp : Off p 0x4000053c) (code : Nat) : p.Same s (s.release code) :=
  (State.release_keeps (.refl p s) hp code).same

/-- A write that is answered leaves the device's state but for who waits. -/
theorem State.release_dev (code : Nat) : (s.release code).dev = { s.dev with held := none } := by
  unfold State.release
  split
  · next h => rw [← h]
  · exact (State.answer_keeps (.refl .dev _) rfl _ _ _ _).same

theorem State.beginEntering_spec : let t := s.beginEntering;
    t.dev = { s.dev with move := .entering, goal := .bivouac } ∧ t.can.lamp = false ∧ t.aux.visit = none ∧
      t.trm.abandon = s.trm.running.isSome := by
  have hdev : (s.lanternOff 0).dev = s.dev := (State.lanternOff_keeps (.refl .dev s) rfl 0).same
  have htrm : (s.lanternOff 0).trm = s.trm := (State.lanternOff_keeps (.refl .trm s) rfl 0).same
  unfold State.beginEntering
  generalize s.lanternOff 0 = a at hdev htrm
  rw [← hdev, ← htrm]
  exact ⟨rfl, rfl, rfl, rfl⟩

/-- R360, R370: a write of 2 or 3 in Bivouac at rest is held, and the wake begins. -/
theorem State.requestState_wake {m : Nat} {v : Int} (hm : s.masterPresent m = true) (hr : s.dev.ready = true) (hst : s.dev.st = .bivouac)
    (hmove : s.dev.move = .none) (hv : v = 2 ∨ v = 3) : let t := s.requestState m v;
    t.dev.st = .bivouac ∧ t.dev.move = .waking ∧ t.dev.goal = (if v = 3 then .scanning else .standby) ∧ t.dev.held = some m ∧ t.pow.step = 6 := by
  have hc : ((v = 2 || v = 3) && s.holdsWake && s.masterPresent m) = true := by
    obtain rfl | rfl := hv <;> simp [State.holdsWake, hr, hst, hm]
  have hwoken : (if m = 0 then s else s.wakeLink (m - 1)).dev = s.dev := by
    split
    · rfl
    · exact (State.wakeLink_keeps (.refl .dev s) rfl _).same
  unfold State.requestState
  rw [if_pos hc]
  generalize (if m = 0 then s else s.wakeLink (m - 1)) = w at hwoken
  have hrel : (w.release 0).dev = { s.dev with held := none } := by rw [w.release_dev, hwoken]
  generalize w.release 0 = a at hrel
  have hmove' : a.dev.move = .none := by rw [hrel]; exact hmove
  have hst' : a.dev.st = .bivouac := by rw [hrel]; exact hst
  simp only [if_pos hmove']
  split
  · exact ⟨hst', rfl, rfl, rfl, rfl⟩
  · exact ⟨hst', rfl, rfl, rfl, rfl⟩

end

end Sys2Proof.Machine

namespace Sys2Proof
open Machine

/-- Settles O8: the request's checks in their order, then the entry to Scanning. -/
theorem requestForScanning : Obligations.RequestForScanning := by
  intro s dt m hr hm hst hmove hrails u
  have hexec : exec (.requestScanning dt m) s = .next ((opRequest 3 u).1.answer m 0x2000 2 (opRequest 3 u).2) :=
    congrArg _ (State.requestState_command hm hr request_row.2.2.2.1 (fun _ => State.holdsWake_rest hst hmove hrails))
  rw [hexec, opRequest_scan hst hmove]
  refine ⟨fun h => ?_, fun h ha => ?_, fun h ha hs hc => ?_, fun h ha hs hc => ?_⟩
  · rw [State.scanFromStandby_busy h]
    rfl
  · rw [State.scanFromStandby_none h ha]
    rfl
  · rw [State.scanFromStandby_checked h ha hs, hc]
    refine ⟨u.combinationCheck.1, rfl, (State.combinationCheck_keeps (.refl .dev u) rfl).same, ?_⟩
    exact Touch.combinationCheck u 0x2000 2 (by decide) (by unfold checkEntry; omega)
  · rw [State.scanFromStandby_checked h ha hs, hc]
    have hdev : u.combinationCheck.1.dev = u.dev := (State.combinationCheck_keeps (.refl .dev u) rfl).same
    have hset : u.combinationCheck.1.rdN 0x2000 4 = u.rdN 0x2000 4 :=
      congrArg Int.toNat (Touch.combinationCheck u 0x2000 4 (by decide) (by unfold checkEntry; omega))
    refine ⟨u.combinationCheck.1.enterScanning.wr 0x2000 2 3, rfl, ?_⟩
    rw [State.wr_dev, State.enterScanning_dev, State.rd_wr_self _ _ (by decide), tyAt_request]
    exact ⟨rfl, rfl, hset, rfl⟩

/-- Settles O9: each request is a command that does what its state gives, or is held for the wake. -/
theorem requestsForPausedStandbyBivouac : Obligations.RequestsForPausedStandbyBivouac := by
  intro s dt m hr hm u
  obtain ⟨-, h1, h2, h3, h4⟩ := request_row
  have hlive (h : u.dev.st = .scanning ∨ u.dev.st = .paused) : u.holdsWake = false :=
    State.holdsWake_live (by obtain h | h := h <;> simp [State.live, h])
  have bivouac (hw : _) := State.requestState_command (s := u) hm hr h1 hw
  have standby (hw : _) := State.requestState_command (s := u) hm hr h2 hw
  have paused := State.requestState_command (s := u) hm hr h4 (fun h => absurd h (by decide))
  refine ⟨fun hst ho => ?_, fun hst => ?_, fun hst => ?_, fun hst => ?_, fun hst hmove hc => ?_, fun hst hmove => ⟨?_, ?_⟩⟩
  · refine congrArg Host.Outcome.next (paused.trans ?_)
    rw [opRequest_pause hst ho]
    rfl
  · refine congrArg Host.Outcome.next (paused.trans ?_)
    rw [opRequest_noPause hst]
  · refine congrArg Host.Outcome.next ((standby (fun _ => hlive hst)).trans ?_)
    rw [opRequest_stop hst]
    rfl
  · refine congrArg Host.Outcome.next ((bivouac (fun h => absurd h (by decide))).trans ?_)
    rw [opRequest_sleep hst]
    rfl
  · refine ⟨u.beginEntering, congrArg Host.Outcome.next ((bivouac (fun h => absurd h (by decide))).trans ?_), u.beginEntering_spec⟩
    simp [opRequest, hst, hmove, hc]
  · exact ⟨u.requestState m 2, rfl, u.requestState_wake hm hr hst hmove (.inl rfl)⟩
  · exact ⟨u.requestState m 3, rfl, u.requestState_wake hm hr hst hmove (.inr rfl)⟩

end Sys2Proof
end

section
set_option Elab.async false
namespace Sys2Proof.Machine

/-! ### Exits and entries (R23, R369, R370) -/

theorem Writes.sendEvents {P : Nat → Nat → Prop} {s : State} (hq : ∀ i j, queueEntry i j → P i j) {n : Nat} (hn : n < 16) :
    ∀ (fuel : Nat) {t : State} (_ : Writes P s t), Writes P s (t.sendEvents n fuel)
  | 0, _, h => h
  | fuel + 1, _, h => by
    unfold State.sendEvents
    split
    · exact h
    · exact Writes.sendEvents hq hn fuel (h.pushControl hq hn).updLink

theorem Writes.flushEvents {P : Nat → Nat → Prop} {s t : State} (h : Writes P s t) (hq : ∀ i j, queueEntry i j → P i j) :
    Writes P s t.flushEvents := .ite h (h.each (fun _ hn _ h => .sendEvents hq hn _ h.updLink))

section
variable (s : State)

/-- R386: what the Canteen does at entry to Standby leaves the lamp grant. -/
theorem State.canteenStandby_lamp : s.canteenStandby.can.lamp = s.can.lamp := by
  have hg (t : State) : t.grantStepper.can.lamp = t.can.lamp := by
    unfold State.grantStepper
    split <;> rfl
  have hd (v : Nat) : (s.setDram v).can = s.can := (State.setDram_keeps (.refl .can s) rfl v).same
  rw [State.canteenStandby, hg, State.chooseDram, State.updCan, hd]

/-- R23: entry to Standby up to what the Canteen does. -/
def State.atStandby (s : State) : State :=
  let s := (s.toState .standby).showClusters
  { s with dev := { s.dev with standbySince := s.now } }

/-- The rest of an entry to Standby. -/
def State.standbyRest (s : State) : State :=
  if s.rcp.stood then s
  else
    let s : State := { s with rcp := { s.rcp with stood := true, startupDue := true } }
    s.trimFirst

theorem State.standbyEntry_eq :
    s.standbyEntry = ((s.atStandby.canteenStandby.setClocks s.atStandby.eMax).tellLost).standbyRest := by
  unfold State.standbyEntry
  extract_lets a d b c
  have hb : s.atStandby = b := by unfold State.atStandby; rfl
  rw [hb]
  change _ = c.standbyRest
  clear_value c
  rw [State.standbyRest]

theorem State.standbyRest_same {p : Part} (hp : Off p 0x82024) : p.Same s s.standbyRest := by
  unfold State.standbyRest
  exact (Keeps.ite (.refl p s) (State.trimFirst_keeps (Keeps.mk' hp (.refl p s)) (hp.sub rfl))).same

theorem State.atStandby_same {p : Part} (hp : Off p 0xc) : p.Same s s.atStandby := by
  unfold State.atStandby
  exact (Keeps.mk' hp (State.showClusters_keeps (State.toState_keeps (.refl p s) hp .standby) (hp.sub rfl))).same

theorem State.atStandby_dev : s.atStandby.dev = { s.dev with st := .standby, move := .none, standbySince := s.now } := by
  have hd : (s.toState .standby).showClusters.dev = { s.dev with st := .standby, move := .none } :=
    (State.showClusters_keeps (.refl .dev (s.toState .standby)) rfl).same
  have hn : (s.toState .standby).showClusters.now = s.now :=
    (State.showClusters_keeps (State.toState_keeps (.refl .now s) rfl .standby) rfl).same
  rw [State.atStandby, hd, hn]

/-- What follows the Canteen's part of an entry to Standby leaves every part but these alone. -/
theorem State.standbyEnd_same {p : Part} (e : Nat) (hp : Off p 0x820b4) : p.Same s ((s.setClocks e).tellLost).standbyRest :=
  (State.tellLost_keeps (State.setClocks_keeps (.refl p s) (hp.sub (by decide)) _) (hp.sub (by decide))).same.trans
    (State.standbyRest_same _ (hp.sub (by decide)))

theorem State.standbyEntry_lamp : s.standbyEntry.can.lamp = s.can.lamp := by
  have ha : s.atStandby.can = s.can := s.atStandby_same (p := .can) rfl
  have he := s.atStandby.canteenStandby.standbyEnd_same (p := .can) s.atStandby.eMax rfl
  rw [s.standbyEntry_eq, ← ha, ← s.atStandby.canteenStandby_lamp]
  exact congrArg _ he

theorem State.standbyEntry_dev : s.standbyEntry.dev = { s.dev with st := .standby, move := .none, standbySince := s.now } := by
  have hc : s.atStandby.canteenStandby.dev = s.atStandby.dev := (State.canteenStandby_keeps (.refl .dev s.atStandby) rfl).same
  rw [s.standbyEntry_eq, ← s.atStandby_dev, ← hc]
  exact s.atStandby.canteenStandby.standbyEnd_same (p := .dev) _ rfl

/-- R23: what an exit from Scanning or Paused stops at once. -/
def State.exitOff (s : State) (fatal : Bool) : State :=
  let s := ((s.streamsExit (!fatal)).transportExit fatal).leaveGroups.lampsExit
  s.updCan (fun c => { c with lamp := false, lampAsked := false, lampTick := false })

/-- R127, R161: what an exit makes of a swap and a switch that wait. -/
def State.exitSwaps (s : State) (fatal : Bool) : State :=
  if fatal then
    let s := if s.sh.swapAt.isSome then (s.wr 0x4000 3 0).wr 0x4000 (6 + s.shadow) 0 else s
    ({ s with sh := { s.sh with swapAt := none } } : State).fatalArmed
  else (if s.sh.swapAt.isSome then s.swapNow s.activeRecipe else s).switchAtStandby

/-- R421: a firmware switch that waits for Standby. -/
def State.leaveFor (s : State) : State :=
  if s.upd.leaving then (s.wr 0x2200 1 8).updUpd (fun u => { u with leaving := false }) else s

theorem State.exitScanning_eq (fatal : Bool) :
    s.exitScanning fatal = ((s.exitOff fatal).exitSwaps fatal).standbyEntry.auxStandby.leaveFor := by
  dsimp only [State.exitScanning, State.exitOff, State.exitSwaps, State.leaveFor]

theorem State.exitOff_same {p : Part} (fatal : Bool) (hp : Off p 0x60f0e7b4) : p.Same s (s.exitOff fatal) := by
  have h1 := State.transportExit_keeps (State.streamsExit_keeps (.refl p s) (hp.sub rfl) (!fatal)) (hp.sub rfl) fatal
  have h2 := State.lampsExit_keeps (State.leaveGroups_keeps h1 (hp.sub rfl)) (hp.sub rfl)
  exact (State.updCan_keeps h2 (hp.sub rfl) _).same

theorem State.exitOff_lamp (fatal : Bool) : (s.exitOff fatal).can.lamp = false := rfl

theorem State.exitSwaps_same {p : Part} (fatal : Bool) (hp : Off p 0x830a4) : p.Same s (s.exitSwaps fatal) := by
  have h := Keeps.refl p s
  cases fatal with
  | true =>
    have hs : Keeps p s (if s.sh.swapAt.isSome then (s.wr 0x4000 3 0).wr 0x4000 (6 + s.shadow) 0 else s) :=
      .ite (.wr (h.wr (hp.sub rfl) _ _ _) (hp.sub rfl) _ _ _) h
    exact (State.fatalArmed_keeps (Keeps.mk' hp hs) (hp.sub rfl)).same
  | false => exact (State.switchAtStandby_keeps (.ite (State.swapNow_keeps h (hp.sub rfl) _) h) (hp.sub rfl)).same

theorem State.leaveFor_same {p : Part} (hp : Off p 0x40004) : p.Same s s.leaveFor := by
  have h := Keeps.refl p s
  exact (Keeps.ite (State.updUpd_keeps (h.wr (hp.sub rfl) 0x2200 1 8) (hp.sub rfl) _) h).same

/-- What follows the entry to Standby at an exit leaves every part but these alone. -/
theorem State.exitEnd_same {p : Part} (hp : Off p 0x60004) : p.Same s s.auxStandby.leaveFor :=
  (State.auxStandby_keeps (.refl p s) (hp.sub rfl)).same.trans (State.leaveFor_same _ (hp.sub rfl))

theorem State.exitScanning_dev (fatal : Bool) :
    (s.exitScanning fatal).dev = { s.dev with st := .standby, move := .none, standbySince := s.now } := by
  have he : (s.exitScanning fatal).dev = ((s.exitOff fatal).exitSwaps fatal).standbyEntry.dev :=
    (congrArg _ (s.exitScanning_eq fatal)).trans (((s.exitOff fatal).exitSwaps fatal).standbyEntry.exitEnd_same (p := .dev) rfl)
  have hd : ((s.exitOff fatal).exitSwaps fatal).dev = s.dev :=
    (s.exitOff_same (p := .dev) fatal rfl).trans ((s.exitOff fatal).exitSwaps_same fatal rfl)
  have hn : ((s.exitOff fatal).exitSwaps fatal).now = s.now :=
    (s.exitOff_same (p := .now) fatal rfl).trans ((s.exitOff fatal).exitSwaps_same fatal rfl)
  rw [he, State.standbyEntry_dev, hd, hn]

theorem State.exitScanning_lamp (fatal : Bool) : (s.exitScanning fatal).can.lamp = false := by
  have he : (s.exitScanning fatal).can = ((s.exitOff fatal).exitSwaps fatal).standbyEntry.can :=
    (congrArg _ (s.exitScanning_eq fatal)).trans (((s.exitOff fatal).exitSwaps fatal).standbyEntry.exitEnd_same (p := .can) rfl)
  have hs : ((s.exitOff fatal).exitSwaps fatal).can = (s.exitOff fatal).can := (s.exitOff fatal).exitSwaps_same (p := .can) fatal rfl
  rw [he, State.standbyEntry_lamp, hs, s.exitOff_lamp]

/-! ### Aborts (R134, R144) -/

/-- R134, R144: an abort of a capture or a measurement moves only the time from which the device stands in Standby. -/
theorem State.captureOver_dev (begun : Nat) : ∃ n, (s.captureOver begun).dev = { s.dev with standbySince := n } :=
  ⟨_, (State.setClocks_keeps (State.resetGroups_keeps (.refl .dev _) rfl _) rfl _).same⟩

theorem State.captureAbort_dev : ∃ n, s.captureAbort.dev = { s.dev with standbySince := n } := by
  unfold State.captureAbort
  split
  · exact ⟨_, rfl⟩
  · next c _ =>
    have h : ((s.wr 0x4030 3 9).setBank s.shadow 3 0).dev = s.dev :=
      (State.setBank_keeps (.wr (.refl .dev s) rfl 0x4030 3 9) rfl _ _ _).same
    have hr (t : State) : (t.raise1 841 0).dev = t.dev := (State.raise1_keeps (.refl .dev t) rfl 841 0).same
    rw [State.captureEnd, if_neg (by decide), hr, ← h]
    exact State.captureOver_dev _ _

theorem State.measureAbort_dev : ∃ n, s.measureAbort.dev = { s.dev with standbySince := n } := by
  unfold State.measureAbort
  split
  · exact ⟨_, rfl⟩
  · next m _ => exact State.captureOver_dev (s.wr 0x4200 5 8) m.begun

theorem opAbortMeasurement_dev (v : Int) : ∃ n, (opAbortMeasurement v s).1.dev = { s.dev with standbySince := n } := by
  unfold opAbortMeasurement
  split
  · exact ⟨_, rfl⟩
  · next m _ =>
    by_cases hg : s.groupsIdle
    · rw [if_pos hg]
      exact s.measureAbort_dev
    · rw [if_neg hg]
      exact ⟨_, rfl⟩

theorem opAbortMeasurement_same {p : Part} (v : Int) (hp : Off p 0xb8bc) : p.Same s (opAbortMeasurement v s).1 := by
  unfold opAbortMeasurement
  split
  · exact .refl p s
  · next m _ =>
    by_cases hg : s.groupsIdle
    · rw [if_pos hg]
      exact (State.measureAbort_keeps (.refl p s) hp).same
    · rw [if_neg hg]
      exact (Keeps.mk' (hp.sub (b := 0x2000) rfl) (.refl p s)).same

end

/-! ### The moves -/

section
variable {s u : State} {dt : Nat} (e : s.arrive dt = u)
include e

theorem execStateChange_paused (hm : u.dev.move = .boundary .paused) (hl : u.live = true) :
    let t := (u.toState .paused).showClusters
    execStateChangeAtLineBoundary dt s = .next (if t.trn.following ∨ t.trn.faultAt.isSome then t else t.transportPause) := by
  rw [execStateChangeAtLineBoundary, timed_at e (by rw [hm]; exact hl)]
  refine congrArg _ ?_
  rw [hm]

theorem execStateChange_scanning (hm : u.dev.move = .boundary .scanning) (hl : u.live = true) :
    execStateChangeAtLineBoundary dt s = .next (u.toState .scanning).showClusters := by
  rw [execStateChangeAtLineBoundary, timed_at e (by rw [hm]; exact hl)]
  refine congrArg _ ?_
  rw [hm]

theorem execStateChange_standby (hm : u.dev.move = .boundary .standby) (hl : u.live = true)
    (hg : u.dev.goal ≠ .bivouac) :
    execStateChangeAtLineBoundary dt s = .next (u.exitScanning false) := by
  rw [execStateChangeAtLineBoundary, timed_at e (by rw [hm]; exact hl)]
  refine congrArg _ ?_
  rw [hm]
  exact if_neg (fun h => hg h.1)

end

section
variable (s : State)

theorem State.toState_dev (d : DevState) : (s.toState d).dev = { s.dev with st := d, move := .none } := rfl

theorem State.showClusters_dev : s.showClusters.dev = s.dev := (State.showClusters_keeps (.refl .dev s) rfl).same

/-- R24: with no write held and Standby the goal the device stays where it is. -/
theorem State.proceed_stays (hh : s.dev.held = none) (hg : s.dev.goal ≠ .bivouac) : s.proceed = s := by
  rw [State.proceed, hh, if_neg (by simp), if_neg hg]

/-- R23, R24: the fatal-class stop up to the exit from Scanning or Paused. -/
def State.fatalTaken (s : State) : State :=
  let s : State := { s with
    ev := { s.ev with fatal := false }
    trm := { s.trm with abandon := s.trm.running.isSome } }
  (s.wr 0x2000 2 2).release 7

theorem State.fatalTaken_dev : s.fatalTaken.dev = { s.dev with held := none } := State.release_dev _ 7

theorem State.fatalTaken_fatal : s.fatalTaken.ev.fatal = false :=
  State.release_same (p := .fatal) rfl 7

/-- R23, R134, R144: requests are discarded, a capture and a measurement are aborted. -/
def State.fatalAborts (s : State) : State := (opAbortMeasurement 1 s.fatalTaken.captureAbort).1

theorem State.fatalAborts_dev : ∃ n, s.fatalAborts.dev = { s.dev with held := none, standbySince := n } := by
  obtain ⟨a, ha⟩ := s.fatalTaken.captureAbort_dev
  obtain ⟨b, hb⟩ := opAbortMeasurement_dev s.fatalTaken.captureAbort 1
  refine ⟨b, ?_⟩
  rw [State.fatalAborts, hb, ha, s.fatalTaken_dev]

theorem State.fatalAborts_fatal : s.fatalAborts.ev.fatal = false := by
  have hc : s.fatalTaken.captureAbort.ev.fatal = s.fatalTaken.ev.fatal :=
    (State.captureAbort_keeps (.refl .fatal s.fatalTaken) rfl).same
  have hm : s.fatalAborts.ev.fatal = s.fatalTaken.captureAbort.ev.fatal :=
    opAbortMeasurement_same (p := .fatal) _ 1 rfl
  rw [hm, hc, s.fatalTaken_fatal]

end

theorem execFatalClassStop_live {s u : State} {dt : Nat} (e : s.arrive dt = u) (h : (u.ev.fatal && u.dev.ready) = true)
    (hl : u.fatalAborts.live = true) :
    execFatalClassStop dt s =
      .next { u.fatalAborts.exitScanning true with
        dev := { (u.fatalAborts.exitScanning true).dev with goal := .standby } } := by
  rw [execFatalClassStop, timed_at e h]
  refine congrArg _ ?_
  dsimp only [State.fatalAborts, State.fatalTaken] at hl ⊢
  rw [if_pos hl]

section
variable (s : State)

/-- R369, R20, R273: everything asleep, the rails 7 and 6 off. -/
def State.asleep (s : State) : State :=
  let s := s.abandonTrim.linksSleep.auxSleep.transportSleep.canteenSleep
  (s.wrBit 0x5892 1 6 false).wrBit 0x5892 1 5 false

/-- R369: the device in Bivouac, before its service requests. -/
def State.bivouacReached (s : State) : State :=
  let s := (s.asleep.toState .bivouac).showClusters.casbyPower
  { s with que := { s.que with lines := default } }

theorem State.asleep_same {p : Part} (hp : Off p 0x402a8724) : p.Same s s.asleep := by
  have h1 := State.auxSleep_keeps (State.linksSleep_keeps (State.abandonTrim_keeps (.refl p s) (hp.sub (by decide)))
    (hp.sub (by decide))) (hp.sub (by decide))
  have h2 := State.canteenSleep_keeps (State.transportSleep_keeps h1 (hp.sub (by decide))) (hp.sub (by decide))
  exact (State.wrBit_keeps (State.wrBit_keeps h2 (hp.sub (by decide)) 0x5892 1 6 false) (hp.sub (by decide)) 0x5892 1 5 false).same

theorem State.bivouacReached_same {p : Part} (hp : Off p 0x606a872c) : p.Same s s.bivouacReached := by
  have h := State.casbyPower_keeps (State.showClusters_keeps (State.toState_keeps (.refl p s.asleep) (hp.sub (by decide)) .bivouac)
    (hp.sub (by decide))) (hp.sub (by decide))
  unfold State.bivouacReached
  exact (s.asleep_same (hp.sub (by decide))).trans (Keeps.mk' hp h).same

theorem State.bivouacReached_dev : s.bivouacReached.dev = { s.dev with st := .bivouac, move := .none } := by
  have hb : s.asleep.dev = s.dev := s.asleep_same (p := .dev) rfl
  have ht : (s.asleep.toState .bivouac).showClusters.casbyPower.dev = (s.asleep.toState .bivouac).dev :=
    (State.casbyPower_keeps (State.showClusters_keeps (.refl .dev (s.asleep.toState .bivouac)) rfl) rfl).same
  rw [← hb, ← State.toState_dev]
  dsimp only [State.bivouacReached]
  exact ht

theorem State.bivouacReached_lines : s.bivouacReached.que.lines = default := rfl

end

theorem execBivouacEntryComplete_due {s u : State} {dt : Nat} (e : s.arrive dt = u) (hm : u.dev.move = .entering) (hg : u.dev.goal = .bivouac) :
    execBivouacEntryComplete dt s = .next ((u.bivouacReached.resetGroups false).requestedService.raise1 677 0) := by
  rw [execBivouacEntryComplete, timed_at e (decide_eq_true hm)]
  refine congrArg _ ?_
  dsimp only [State.bivouacReached, State.asleep]
  rw [if_pos hg]

/-- R370: the device in Standby, its links awake, before what waited for the links is sent. -/
def State.woken (s : State) : State := (s.linksWake.standbyEntry.casbyPower.auxWake).raise1 678 0

theorem State.woken_dev (s : State) : s.woken.dev = { s.dev with st := .standby, move := .none, standbySince := s.now } := by
  have hl : s.linksWake.dev = s.dev := (State.linksWake_keeps (.refl .dev s) rfl).same
  have hn : s.linksWake.now = s.now := (State.linksWake_keeps (.refl .now s) rfl).same
  have hw : s.woken.dev = s.linksWake.standbyEntry.dev :=
    (State.raise1_keeps (State.auxWake_keeps (State.casbyPower_keeps (.refl .dev s.linksWake.standbyEntry) rfl) rfl) rfl 678 0).same
  rw [hw, State.standbyEntry_dev, hl, hn]

theorem execWakeComplete_bivouac {s u : State} {dt : Nat} (e : s.arrive dt = u)
    (h : (u.dev.move = .waking && u.pow.step = 0 && u.converterRails) = true)
    (hs : u.dev.st ≠ .standby) :
    execWakeComplete dt s = .next u.woken.lanternGate.flushEvents.proceed := by
  rw [execWakeComplete, timed_at e h]
  exact congrArg _ (if_neg hs)

end Sys2Proof.Machine

namespace Sys2Proof
open Machine

/-- Settles O10: an exit passes through the entry to Standby, and what follows a move leaves the device's state. -/
theorem movesWithoutARequest : Obligations.MovesWithoutARequest := by
  intro s dt u
  have e : s.arrive dt = u := rfl
  clear_value u
  refine ⟨fun hl hm => ?paused, fun hl hm => ?scanning, fun hl hm hg => ?standby, fun hs hm h5 hc ht => ?idle, fun at_ ha ht h4 hs hc hm => ?hot,
    fun hf hr hl => ?fatal, fun hm hg => ?sleep, fun hm hp hc hs hg hh => ?wake⟩
  case paused =>
    have hd : (u.toState .paused).showClusters.dev = { u.dev with st := .paused, move := .none } := State.showClusters_dev _
    refine ⟨_, execStateChange_paused e hm hl, ?_⟩
    generalize (u.toState .paused).showClusters = t at hd
    have ht : (if t.trn.following ∨ t.trn.faultAt.isSome then t else t.transportPause).dev = t.dev :=
      (Keeps.ite (.refl .dev t) (State.transportPause_keeps (.refl .dev t) rfl)).same
    rw [ht, hd]
    exact ⟨rfl, rfl⟩
  case scanning =>
    have hd : (u.toState .scanning).showClusters.dev = { u.dev with st := .scanning, move := .none } := State.showClusters_dev _
    refine ⟨_, execStateChange_scanning e hm hl, ?_⟩
    rw [hd]
    exact ⟨rfl, rfl⟩
  case standby =>
    refine ⟨_, execStateChange_standby e hm hl (by rw [hg]; decide), ?_⟩
    rw [State.exitScanning_dev]
    exact ⟨rfl, rfl, State.exitScanning_lamp _ _⟩
  case idle =>
    have hdue : (u.dev.st = .standby && u.dev.move = .none && u.rd 0x2000 5 ≠ 0 && !u.calibrating &&
        u.elapsed u.dev.standbySince (u.rdN 0x2000 5 * 1000000)) = true := by
      simp [hs, hm, h5, hc, State.elapsed, ht]
    exact ⟨u.beginEntering, (timed_at e hdue : execBivouacIdleTimeout dt s = _), u.beginEntering_spec.1⟩
  case hot =>
    have hdue : ((match u.can.shutAt with | some t => u.elapsed t 100000000 | none => false) &&
        decide (1680 ≤ u.rd 0x5A01 4) && u.queuesRun && !u.calibrating && u.dev.move ≠ .entering) = true := by
      rw [ha]
      simp [State.elapsed, ht, h4, State.queuesRun, hs, hc, hm]
    have hl : u.live = false := by simp [State.live, hs]
    refine ⟨u.beginEntering, (timed_at e hdue : execThermalBivouacRequest dt s = _).trans (congrArg _ ?_), u.beginEntering_spec.1⟩
    rw [hl, if_neg (by decide)]
  case fatal =>
    obtain ⟨n, hd⟩ := u.fatalAborts_dev
    have hlive : u.fatalAborts.live = true := by
      unfold State.live at hl ⊢
      rw [hd]
      exact hl
    have hft : (u.fatalAborts.exitScanning true).ev.fatal = u.fatalAborts.ev.fatal :=
      (State.exitScanning_keeps (.refl .fatal u.fatalAborts) rfl true).same
    have hde := u.fatalAborts.exitScanning_dev true
    have hla := u.fatalAborts.exitScanning_lamp true
    have hdue : (u.ev.fatal && u.dev.ready) = true := by rw [hf, hr, Bool.and_self]
    rw [hd] at hde
    rw [u.fatalAborts_fatal] at hft
    refine ⟨_, execFatalClassStop_live e hdue hlive, ?_⟩
    generalize u.fatalAborts.exitScanning true = x at hft hde hla ⊢
    refine ⟨?_, rfl, hft, ?_, hla⟩
    · rw [hde]
    · rw [hde]
  case sleep =>
    have hr {p : Part} (hp : Off p 0x800018a4) (r : State) : p.Same r ((r.resetGroups false).requestedService.raise1 677 0) :=
      (State.raise1_keeps (State.requestedService_keeps (State.resetGroups_keeps (.refl p r) (hp.sub (by decide)) false)
        (hp.sub (by decide))) (hp.sub (by decide)) 677 0).same
    have hd := u.bivouacReached_dev
    have hlines := u.bivouacReached_lines
    have hmem : u.bivouacReached.dma.ringMem = u.dma.ringMem := u.bivouacReached_same (p := .ringMem) rfl
    have hlog : u.bivouacReached.ev.log = u.ev.log := u.bivouacReached_same (p := .log) rfl
    have hbanks : u.bivouacReached.sh.banks = u.sh.banks := u.bivouacReached_same (p := .shBanks) rfl
    refine ⟨_, execBivouacEntryComplete_due e hm hg, ?_⟩
    generalize u.bivouacReached = b at hd hlines hmem hlog hbanks ⊢
    have hdev' : ((b.resetGroups false).requestedService.raise1 677 0).dev = b.dev := hr (p := .dev) rfl b
    refine ⟨by rw [hdev', hd], by rw [hdev', hd], ?_, ?_, ?_, ?_, State.presents_raise1 _ 677 0⟩
    · exact Eq.trans (hr (p := .lines) rfl b) hlines
    · exact Eq.trans (hr (p := .ringMem) rfl b) hmem
    · exact Eq.trans (hr (p := .log) rfl b) hlog
    · exact Eq.trans (hr (p := .shBanks) rfl b) hbanks
  case wake =>
    have hdue : (u.dev.move = .waking && u.pow.step = 0 && u.converterRails) = true := by simp [hm, hp, hc]
    have hst : u.dev.st ≠ .standby := by rw [hs]; decide
    have hd := u.woken_dev
    have hgate : u.woken.lanternGate.dev = u.woken.dev := (State.lanternGate_keeps (.refl .dev u.woken) rfl).same
    have hfl : u.woken.lanternGate.flushEvents.dev = u.woken.lanternGate.dev :=
      (State.flushEvents_keeps (.refl .dev u.woken.lanternGate) rfl).same
    rw [hgate, hd] at hfl
    refine ⟨_, execWakeComplete_bivouac e hdue hst, ?_⟩
    rw [State.proceed_stays _ (by rw [hfl]; exact hh) (by rw [hfl]; exact fun h => by simp [hg] at h)]
    refine ⟨by rw [hfl], ?_⟩
    have hp0 : u.woken.Presents 678 := State.presents_raise1 _ 678 0
    have hev : u.woken.lanternGate.ev = u.woken.ev := (State.lanternGate_keeps (.refl .ev u.woken) rfl).same
    have hp1 : u.woken.lanternGate.Presents 678 := hp0.of_pres (congrArg _ hev)
    exact ((Writes.refl (P := fun _ _ => True) _).flushEvents (fun _ _ _ => trivial)).presents hp1

end Sys2Proof
end

section
set_option Elab.async false
namespace Sys2Proof.Machine

/-! ### SDO downloads (R44) -/

section
variable {s : State} {i j len raw : Nat} {e : Entry}

theorem State.deny_absent {m c : Nat} (h : s.masterPresent m = false) : s.deny m i j c = s := by simp [State.deny, h]

theorem State.deny_present {m c : Nat} (h : s.masterPresent m = true) : s.deny m i j c = s.answer m i j (if s.dev.ready then c else 7) := by
  simp [State.deny, h]

/-- The entry is no data register of a window (R58). -/
def noWindowData (i : Nat) : Prop := i < 0x2024 ∨ 0x2028 ≤ i

theorem State.sdoWrite_none (hi : noWindowData i) (hl : lookup i j = none) : s.sdoWrite i j len raw = s.deny 0 i j 2 := by
  unfold noWindowData at hi
  rw [State.sdoWrite, if_neg (by omega), hl]

/-- The refusals that the entry's row and the length decide; the write is granted otherwise. -/
theorem State.sdoWrite_some (hi : noWindowData i) (h2 : ¬ (i = 0x2000 ∧ j = 2)) (hl : lookup i j = some e) :
    s.sdoWrite i j len raw =
      if e.row.acc = .ro then s.deny 0 i j 3
      else if e.row.ty.bits = 0 ∨ e.row.ty.bits ≠ 8 * len then s.deny 0 i j 6
      else s.grant 0 i j (rawValue e.row.ty (raw % 2 ^ e.row.ty.bits)) (depOf i j) (opOf 0 i j) := by
  unfold noWindowData at hi
  rw [State.sdoWrite, if_neg (by omega), hl]
  unfold State.writeEntry
  simp only [if_neg h2]

theorem State.sdoWrite_absent (hi : noWindowData i) (h2 : ¬ (i = 0x2000 ∧ j = 2)) (hm : s.masterPresent 0 = false) :
    s.sdoWrite i j len raw = s := by
  cases hl : lookup i j with
  | none => rw [State.sdoWrite_none hi hl, State.deny_absent hm]
  | some e => simp only [State.sdoWrite_some hi h2 hl, State.deny_absent hm, State.grant_absent hm, ite_self]

theorem State.sdoWrite_early (hi : noWindowData i) (h2 : ¬ (i = 0x2000 ∧ j = 2)) (hm : s.masterPresent 0 = true) (hr : s.dev.ready = false) :
    s.sdoWrite i j len raw = s.answer 0 i j 7 := by
  cases hl : lookup i j with
  | none => rw [State.sdoWrite_none hi hl, State.deny_present hm, hr, if_neg (by decide)]
  | some e =>
    simp only [State.sdoWrite_some hi h2 hl, State.deny_present hm, State.grant_early hm hr, hr, Bool.false_eq_true, if_false, ite_self]

/-- R35: a row whose state the device is not in refuses with its code. -/
theorem State.grant_row {m c : Nat} {v : Int} {dep : State → Int → Verdict} {op : Op} (hm : s.masterPresent m = true)
    (hr : s.dev.ready = true) (hc : s.rowRefusal i j = c) (h0 : c ≠ 0) : s.grant m i j v dep op = s.answer m i j c := by
  simp [State.grant, hm, hr, hc, h0]

theorem State.grant_refused {m : Nat} {v : Int} {dep : State → Int → Verdict} {op : Op} (hm : s.masterPresent m = true)
    (hr : s.dev.ready = true) (hc : s.rowRefusal i j = 0) (hv : (verdict i j v).andThen (dep s) = .refused) :
    s.grant m i j v dep op = s.answer m i j 5 := by
  simp [State.grant, hm, hr, hc, hv]

/-- R67: a clamped value that is taken is reported. -/
theorem State.grant_clamped {m why : Nat} {v w : Int} {dep : State → Int → Verdict} {op : Op} (hm : s.masterPresent m = true)
    (hr : s.dev.ready = true) (hc : s.rowRefusal i j = 0) (hv : (verdict i j v).andThen (dep s) = .clamped w why)
    (ho : (op w s).2 = 0) : s.grant m i j v dep op = ((op w s).1.reportClamp (clampOf m i j why v w)).answer m i j 1 := by
  simp [State.grant, hm, hr, hc, hv, ho]

/-- An entry that is no command takes the value, and what it sets off follows. -/
theorem opOf_stores {m : Nat} {v : Int} (ha : actsOnWrite i j = false) (hb : rangeBad i j v = false)
    (hf : s.refusedBy (s.wr i j v) i j = 0) : opOf m i j v s = (s.afterWrite (s.wr i j v) i j, 0) := by
  simp only [actsOnWrite, Bool.or_eq_false_iff, decide_eq_false_iff_not, Option.isSome_eq_false_iff, Option.isNone_iff_eq_none] at ha
  obtain ⟨⟨hw, hu⟩, hc⟩ := ha
  have h1 : ¬ (i = 0x2100 ∧ j = 1) := fun h => by simp [h.1, h.2] at hu
  have h2 : ¬ (i = 0x2100 ∧ j = 2) := fun h => by simp [h.1, h.2] at hu
  rw [opOf, if_neg hw, if_neg h1, if_neg h2, opEntry, hb, if_neg (by decide), hc]
  exact if_neg (not_not.mpr hf)

end

end Sys2Proof.Machine

namespace Sys2Proof
open Machine

/-- Settles O11: the download ends at a refusal of its row, its length or its range, or is granted as any write is. -/
theorem sdoDownload : Obligations.SdoDownload := by
  intro s dt i j len raw u hi h2 c
  have he : exec c s = .next (u.sdoWrite i j len raw) := rfl
  rw [he]
  refine ⟨fun hm => by rw [State.sdoWrite_absent hi h2 hm], fun hm hr => by rw [State.sdoWrite_early hi h2 hm hr], fun hm hr =>
    ⟨fun hl => by rw [State.sdoWrite_none hi hl, State.deny_present hm, if_pos hr], fun e hl => ?_⟩⟩
  have hsome := State.sdoWrite_some (s := u) (len := len) (raw := raw) hi h2 hl
  refine ⟨fun ha => by rw [hsome, if_pos ha, State.deny_present hm, if_pos hr],
    fun ha hb => by rw [hsome, if_neg ha, if_pos (.inr hb), State.deny_present hm, if_pos hr], fun ha hb hlen => ?_⟩
  have hverd (v : Int) : verdict i j v = e.row.range.apply e.row.ty v := by rw [verdict, hl]
  rw [hsome, if_neg ha, if_neg (by omega), hb]
  refine ⟨fun h5 hw hlive => ?_, fun hc hv => ?_, fun hc ha hv hd hbad hf => ?_, fun w why hc ha hv hd hbad hf => ?_⟩
  · rw [State.grant_row hm hr (c := 7) _ (by decide)]
    simp [State.rowRefusal, hl, ha, h5, hw, hlive]
  · rw [State.grant_refused hm hr hc (by rw [hverd, hv]; rfl)]
  · rw [State.grant_keep hm hr hc (by rw [hverd, hv]; exact hd), opOf_stores ha hbad hf]
  · have hop := opOf_stores (m := 0) ha hbad hf
    rw [State.grant_clamped hm hr hc (by rw [hverd, hv, Verdict.andThen, hd]) (by rw [hop]), hop]

end Sys2Proof
end

section
set_option Elab.async false
namespace Sys2Proof.Machine

/-! ### Result objects (R63, R64) -/

section
variable (s : State) {m : Nat} (idx : Nat)

theorem State.notFresh_masters : (s.notFresh m idx).door.masters = s.door.masters := by
  unfold State.notFresh
  split <;> rfl

theorem State.notFresh_eq : s.notFresh m idx = { s with door := { s.door with fresh := (s.notFresh m idx).door.fresh } } := by
  unfold State.notFresh
  split <;> rfl

/-- R64: a status read clears the reader's bit of that object, and no other bit. -/
theorem State.isFresh_notFresh (k i : Nat) :
    (s.notFresh m idx).isFresh k i = if i = idx ∧ k = m then false else s.isFresh k i := by
  unfold State.notFresh State.isFresh
  split
  · next h =>
    split
    · next he =>
      rw [he.1, h]
      exact bit_zero k
    · rfl
  · next v h =>
    rw [Store.find_put]
    by_cases hi : idx = i
    · subst hi
      rw [if_pos rfl, h, Option.getD_some, Option.getD_some, Int.toNat_natCast, bit_setBit]
      exact if_congr ⟨fun e => ⟨rfl, e.symm⟩, fun e => e.2.symm⟩ rfl rfl
    · rw [if_neg hi, if_neg (fun e => hi e.1.symm)]

/-- R64: the object is shadowed for the reader, and its fresh bit is clear for the reader. -/
def State.statusTaken (s : State) (m idx : Nat) : State :=
  (s.updMaster m (fun q => { q with res := some (idx, s.resultValues idx) })).notFresh m idx

theorem State.statusTaken_master (hm : m < 17) (k : Nat) :
    (s.statusTaken m idx).master k = if m = k then { s.master k with res := some (idx, s.resultValues idx) } else s.master k := by
  rw [← s.master_updMaster hm (fun q => { q with res := some (idx, s.resultValues idx) }) k]
  exact congrArg (fun v => vget v k) (State.notFresh_masters _ idx)

theorem State.statusTaken_fresh (k i : Nat) :
    (s.statusTaken m idx).isFresh k i = if i = idx ∧ k = m then false else s.isFresh k i := State.isFresh_notFresh _ idx k i

theorem State.statusTaken_eq : s.statusTaken m idx =
    { s with door := { s.door with masters := (s.statusTaken m idx).door.masters, fresh := (s.statusTaken m idx).door.fresh } } := by
  unfold State.statusTaken
  rw [State.notFresh_masters]
  exact State.notFresh_eq _ idx

theorem State.statusRead_result (hm : s.masterPresent m = true) (hr : s.dev.ready = true) (ho : resultObject idx = true)
    (hl : (lookup idx 1).isSome = true) : s.statusRead m idx = (s.statusTaken m idx).answer m idx 1 0 [(s.resultStatus m idx : Nat)] := by
  have hn : (lookup idx 1).isNone = false := by rw [Option.isNone_eq_false_iff, hl]
  simp only [State.statusRead, hm, hr, ho, hn, Bool.not_true, Bool.false_eq_true, if_false, or_self]
  rfl

end

end Sys2Proof.Machine

namespace Sys2Proof
open Machine

/-- Settles O14: a status read changes the reader's shadow and its fresh bit alone. -/
theorem resultsAndWaits : Obligations.ResultsAndWaits := by
  constructor
  · intro s dt m idx u hm hr ho hl
    have he : exec (.resultStatusRead dt m idx) s = .next (u.statusRead m idx) := rfl
    have hmaster := u.statusTaken_master idx m.isLt
    have hfresh := u.statusTaken_fresh (m := m) idx
    refine ⟨u.statusTaken m idx, he.trans (congrArg _ (u.statusRead_result idx hm hr ho hl)), ?_, ?_, fun k hk => ⟨?_, ?_⟩,
      fun i hi k => ?_, u.statusTaken_eq idx⟩
    · rw [hmaster, if_pos rfl]
    · rw [hfresh, if_pos ⟨rfl, rfl⟩]
    · rw [hfresh, if_neg (fun e => hk (Fin.ext e.2))]
    · rw [hmaster, if_neg (fun e => hk (Fin.ext e.symm))]
    · rw [hfresh, if_neg (fun e => hi e.1)]
  · intro s dt l u ho ht
    have hdue : (u.owesAnswer l && u.elapsed (u.master (l + 1)).asked (10000000 * ((u.master (l + 1)).waits + 1))) = true := by
      rw [ho, State.elapsed, decide_eq_true ht, Bool.and_self]
    exact (event_due hdue : execControlWaitAck dt l s = _)

end Sys2Proof

namespace Sys2Proof.Machine

/-! ### The user image (R69) -/

section
variable (s : State)

theorem State.saveSlot_lt : s.saveSlot < 2 := by
  unfold State.saveSlot
  split <;> omega

theorem State.slotOf_writeImage (recs : List UserRec) (n : Nat) (whole : Bool) (k : Nat) : (s.writeImage recs n whole).slotOf k =
    if s.saveSlot = k then ⟨true, (s.fw s.pow.bank).format, s.nextGen, recs.take n, whole⟩ else s.slotOf k := by
  show vget (vupd s.door.slots s.saveSlot _) k = _
  rw [vget_vupd]
  exact if_congr ⟨And.left, fun h => ⟨h, s.saveSlot_lt⟩⟩ rfl rfl

end

theorem saveRows : ([(0x2100, 1), (0x2100, 2), (0x2110, 4)] : List (Nat × Nat)).all (fun p => rowOpen p.1 p.2) = true ∧
    verdict 0x2100 1 0x65766173 = .keep 0x65766173 ∧ verdict 0x2100 2 0x64616F6C = .keep 0x64616F6C ∧
    verdict 0x2110 4 0x7261656C = .keep 0x7261656C ∧ tyAt 0x2100 3 = .u8 := by decide +kernel

/-- R69: a save that ends well. -/
theorem execSaveComplete_done {s : State} {dt n : Nat} {recs : List UserRec} (h : (s.pass dt).door.saving = some recs) :
    let u := s.pass dt
    execSaveComplete dt true n s =
      .next { (u.writeImage recs recs.length true).wr 0x2100 3 2 with
        door := { (u.writeImage recs recs.length true).door with saving := none } } := by
  refine (event_due (by rw [h]; rfl) : execSaveComplete dt true n s = _).trans (congrArg _ ?_)
  rw [if_pos rfl, h]
  rfl

/-- R69: a save that fails after `n` records. -/
theorem execSaveComplete_failed {s : State} {dt n : Nat} {recs : List UserRec} (h : (s.pass dt).door.saving = some recs) :
    let u := s.pass dt
    execSaveComplete dt false n s =
      .next (({ u.writeImage recs n false with door := { (u.writeImage recs n false).door with saving := none } } : State).wr 0x2100 3 3) := by
  refine (event_due (by rw [h]; rfl) : execSaveComplete dt false n s = _).trans (congrArg _ ?_)
  rw [if_neg (by decide), State.tearSave, h]

end Sys2Proof.Machine

namespace Sys2Proof
open Machine

/-- Settles O16: a save ends with its slot written whole, or partial with the records written by then. -/
theorem userImage : Obligations.UserImage := by
  intro s dt m u
  obtain ⟨hrows, hv1, hv2, hv4, hty⟩ := saveRows
  have hopen {i j : Nat} (h : (i, j) ∈ ([(0x2100, 1), (0x2100, 2), (0x2110, 4)] : List (Nat × Nat))) : rowOpen i j = true :=
    List.all_eq_true.mp hrows _ h
  have hrd (t : State) (v : Int) (h : Ty.u8.wrap v = v) : (t.wr 0x2100 3 v).rd 0x2100 3 = v := by
    rw [State.rd_wr_self _ _ (by decide), hty, h]
  refine ⟨fun hm hr hs hj => ?_, fun hm hr hs => ?_, fun recs n hs => ?_, fun recs n hs => ?_, fun hm hr => ?_, fun hm hr => ?_⟩
  · refine (hostCommand_open hm hr (hopen (by simp)) hv1 : execSaveUserImage dt m s = _).trans (congrArg _ ?_)
    have ho : opSave 0x65766173 u = ({ u.wr 0x2100 3 1 with door := { u.door with saving := some u.snapshot, discard := false } }, 0) :=
      if_neg (by rw [hs, hj]; decide)
    rw [ho]
  · refine (hostCommand_open hm hr (hopen (by simp)) hv1 : execSaveUserImage dt m s = _).trans (congrArg _ ?_)
    have ho : opSave 0x65766173 u = (u, 8) := if_pos hs
    rw [ho]
  · refine ⟨_, execSaveComplete_done hs, hrd _ 2 rfl, rfl, ?_, fun h0 => ?_, fun h1 => ?_⟩
    · refine (u.slotOf_writeImage recs recs.length true u.saveSlot).trans ?_
      rw [if_pos rfl, List.take_length]
    · exact (u.slotOf_writeImage recs recs.length true 1).trans (if_neg (by rw [h0]; decide))
    · exact (u.slotOf_writeImage recs recs.length true 0).trans (if_neg (by rw [h1]; decide))
  · have hslot := (u.slotOf_writeImage recs n false u.saveSlot).trans (if_pos rfl)
    exact ⟨_, execSaveComplete_failed hs, hrd _ 3 rfl, rfl, congrArg UserSlot.recs hslot, congrArg UserSlot.whole hslot⟩
  · exact (hostCommand_open hm hr (hopen (by simp)) hv2 : execDiscardUserImage dt m s = _)
  · exact (hostCommand_open hm hr (hopen (by simp)) hv4 : execClearClampReport dt m s = _)

end Sys2Proof
end

section
set_option Elab.async false
namespace Sys2Proof.Machine

/-! ### The EtherCAT slave (R43, R49) -/

section
variable {s : State}

theorem State.toEc_ec (st : EcState) : (s.toEc st).door.ec.st = st ∧ (s.toEc st).door.ec.al = 0 := ⟨rfl, rfl⟩

/-- R43: the sync modes are latched on the way from Pre-Op to Safe-Op. -/
theorem State.toEc_sync (h : s.door.ec.st = .preOp) :
    (s.toEc .safeOp).door.ec.outSync = s.rdN 0x1C32 1 ∧ (s.toEc .safeOp).door.ec.inSync = s.rdN 0x1C33 1 := by
  simp [State.toEc, h, State.updEc]

/-- R155: the first job after an entry to Op counts. -/
theorem State.toEc_op (h : s.door.ec.st = .safeOp) : (s.toEc .op).rcp.lastJob = none := by
  simp [State.toEc, h, State.updEc]

/-- A request after Ready: Bootstrap and a jump upwards are refused, any other is taken. -/
theorem execEthercatStateRequest_ready {dt : Nat} {k : Fin 5} (hp : (s.pass dt).portsOpen = true) (hr : (s.pass dt).dev.ready = true) :
    let u := s.pass dt
    execEthercatStateRequest dt k s = .next (if ecState k = .boot then u.setAl 0x0013
      else if u.door.ec.st.rank + 1 < (ecState k).rank then u.setAl 0x0011 else u.toEc (ecState k)) := by
  refine (event_due hp : execEthercatStateRequest dt k s = _).trans (congrArg _ ?_)
  rw [if_neg (by rw [hr]; decide)]

theorem execEthercatStateRequest_early {dt : Nat} {k : Fin 5} (hp : (s.pass dt).portsOpen = true) (hr : (s.pass dt).dev.ready = false) :
    execEthercatStateRequest dt k s = .next ((s.pass dt).earlyRequest (ecState k)) := by
  refine (event_due hp : execEthercatStateRequest dt k s = _).trans (congrArg _ ?_)
  rw [if_pos (by rw [hr]; decide)]

theorem ecState_ne_init {k : Fin 5} (h : k ≠ 0) : ecState k ≠ .init := by
  revert k
  decide

theorem State.foeWrite_unknown {name bs : List Byte} (h : foeOffset name = none) : s.foeWrite name bs = s.mailbox 0x8001 := by
  rw [State.foeWrite, h]

end

/-! ### Process data (R48, R49) -/

section
variable {s : State}

theorem pdoTypes : tyAt 0x2031 1 = .u32 ∧ tyAt 0x2031 2 = .u16 ∧ tyAt 0x2031 3 = .u16 ∧ tyAt 0x2031 4 = .u8 ∧ tyAt 0x2031 5 = .u32 := by
  decide +kernel

/-- R48, R447: what the latched TxPDO shows. -/
theorem State.latchTx_rd : s.latchTx.rd 0x2031 1 = s.rd 0x4441 8 % 2 ^ 32 ∧ s.latchTx.rd 0x2031 2 = (s.statusWord : Int) % 2 ^ 16 ∧
    s.latchTx.rd 0x2031 3 = s.rd 0x4210 2 % 2 ^ 16 ∧ s.latchTx.rd 0x2031 4 = s.rd 0x5A00 1 % 2 ^ 8 ∧
    s.latchTx.rd 0x2031 5 = (s.summary : Int) % 2 ^ 32 := by
  obtain ⟨h1, h2, h3, h4, h5⟩ := pdoTypes
  have hne {j k : Nat} (t : State) (v : Int) (hj : j < 256) (hk : k < 256) (h : j ≠ k) : (t.wr 0x2031 j v).rd 0x2031 k = t.rd 0x2031 k := by
    rw [State.rd_wr_at _ _ hj hk, if_neg (fun e => h e.2)]
  have hself {j : Nat} (t : State) (v : Int) (hj : j < 256) : (t.wr 0x2031 j v).rd 0x2031 j = (tyAt 0x2031 j).wrap v := State.rd_wr_self _ _ hj
  unfold State.latchTx
  refine ⟨?_, ?_, ?_, ?_, ?_⟩
  · rw [hne, hne, hne, hne, hself, h1, Ty.wrap_u32] <;> decide
  · rw [hne, hne, hne, hself, h2, Ty.wrap_u16] <;> decide
  · rw [hne, hne, hself, h3, Ty.wrap_u16] <;> decide
  · rw [hne, hself, h4, Ty.wrap_u8] <;> decide
  · rw [hself, h5, Ty.wrap_u32]
    decide

theorem State.latchTx_touch : Touch (fun i _ => i = 0x2031) s s.latchTx := by
  unfold State.latchTx
  refine .trans (.trans (.trans (.trans (.wr _ _ (by decide) rfl) (.wr _ _ (by decide) rfl)) (.wr _ _ (by decide) rfl)) (.wr _ _ (by decide) rfl)) (.wr _ _ (by decide) rfl)

theorem pressSpeed_row : (lookup 0x2030 2).map (fun e => (e.row.ty, e.row.range)) = some (.i32, .clamp (-20000000) 20000000 []) := by
  decide +kernel

/-- R48: a press speed within its range is committed as it is. -/
theorem State.commitSpeed_keep {v : Int} (h : -20000000 ≤ v ∧ v ≤ 20000000) : s.commitSpeed v = (s, v) := by
  have hv : verdict 0x2030 2 v = .keep v := by
    have hrow := pressSpeed_row
    unfold verdict
    cases hl : lookup 0x2030 2 with
    | none => rw [hl] at hrow; cases hrow
    | some e =>
      rw [hl] at hrow
      simp only [Option.map_some, Option.some.injEq, Prod.mk.injEq] at hrow
      simp only [hrow.2, hrow.1]
      exact if_pos (.inl h)
  rw [State.commitSpeed, hv]

end

end Sys2Proof.Machine

namespace Sys2Proof
open Machine

/-- Settles O17: each request has one branch of the slave; the TxPDO is written entry by entry. -/
theorem etherCatSlave : Obligations.EtherCatSlave := by
  intro s dt u
  have hports (t : State) (h : t.pow.boot = .done ∨ t.pow.boot = .banked) : t.portsOpen = true := by
    unfold State.portsOpen
    rcases h with h | h <;> rw [h] <;> rfl
  refine ⟨fun hb hr => ?ready, fun hb hr k hk => ?early, fun p hm h3 h4 => ?mailbox, fun name hm => ?foeRead, fun name bs hm hr hn => ?foeWrite, ?pdo⟩
  case ready =>
    have he (k : Fin 5) : exec (.ethercatStateRequest dt k) s = _ := execEthercatStateRequest_ready (hports u (.inl hb)) hr
    refine ⟨he 4, fun hi => ⟨?_, ?_⟩, fun hp => ?_, fun hs => ?_, u.toEc .init, ?_, u.toEc_ec .init⟩
    · rw [he 2, hi]
      rfl
    · rw [he 3, hi]
      rfl
    · refine ⟨u.toEc .safeOp, ?_, rfl, rfl, State.toEc_sync hp⟩
      rw [he 2, hp]
      rfl
    · refine ⟨u.toEc .op, ?_, rfl, rfl, State.toEc_op hs⟩
      rw [he 3, hs]
      rfl
    · exact he 0
  case early =>
    refine (execEthercatStateRequest_early (hports u (.inr hb)) hr : exec (.ethercatStateRequest dt k) s = _).trans ?_
    rw [State.earlyRequest, hb, if_neg (by decide), if_neg (ecState_ne_init hk), if_neg (by decide)]
  case mailbox =>
    have hdue : (u.masterPresent 0 && p ≠ 3 && p ≠ 4) = true := by simp [hm, h3, h4]
    exact (event_due hdue : execMailboxUnsupported dt p s = _)
  case foeRead => exact (event_due hm : execFoeReadRequest dt name s = _)
  case foeWrite =>
    have hdue : (u.masterPresent 0 && u.dev.ready) = true := by rw [hm, hr, Bool.and_self]
    exact (event_due hdue : execFoeWriteRequest dt name bs s = _).trans (congrArg _ (State.foeWrite_unknown hn))
  case pdo =>
    intro v
    have e : s.arrive dt = v := rfl
    clear_value v
    refine ⟨fun pos speed job hs hi => ?_, fun time hb hs hi h4 => ?_⟩
    · have hdue : (v.door.ec.st = .safeOp || v.door.ec.st = .op) = true := by rw [hs]; rfl
      have hop : v.door.ec.st ≠ .op := by rw [hs]; decide
      constructor
      · refine (timed_at e hdue : execRxpdoCommit dt false pos speed job s = _).trans (congrArg _ ?_)
        rw [if_neg hi, if_pos (by decide)]
      · intro hv
        refine (timed_at e hdue : execRxpdoCommit dt true pos speed job s = _).trans (congrArg _ ?_)
        rw [if_neg hi, if_neg (by decide), State.commitSpeed_keep hv]
        exact if_pos hop
    · have h4' : v.latchTx.rd 0x4880 3 ≠ 1 := by
        rw [State.latchTx_touch 0x4880 3 (by decide) (by decide)]
        exact h4
      have hop : ¬ (v.door.ec.outSync = 2 ∧ v.door.ec.st = .op) := fun h => by
        rw [hs] at h
        cases h.2
      refine ⟨v.latchTx, (timed_at e (hports v (.inl hb)) : execSync0Event dt time s = _).trans (congrArg _ ?_), State.latchTx_rd⟩
      simp only [if_pos (And.intro hi (Or.inl hs)), if_neg hop, if_neg h4']

end Sys2Proof
end

section
set_option Elab.async false
namespace Sys2Proof.Machine

/-! ### Bulk windows (R57 to R59) -/

theorem winTypes : ∀ w : Fin 4, tyAt (0x2020 + w) 2 = .u32 ∧ tyAt (0x2020 + w) 3 = .u32 ∧ tyAt (0x2020 + w) 4 = .u8 ∧
    tyAt (0x2020 + w) 5 = .u8 ∧ tyAt (0x2020 + w) 6 = .u8 := by decide +kernel

/-- The mode entry of a window takes the modes 0, 1 and 2 at any time. -/
theorem winModeRow : ∀ w : Fin 4, rowOpen (0x2020 + w) 4 = true ∧ verdict (0x2020 + w) 4 0 = .keep 0 ∧ verdict (0x2020 + w) 4 1 = .keep 1 ∧
    verdict (0x2020 + w) 4 2 = .keep 2 := by decide +kernel

section
variable (s : State) {m : Nat} (w : Fin 4)

/-- An entry of the window itself, after a write to another of its entries. -/
theorem State.rd_wr_win (v : Int) {j k : Nat} (hj : j < 256) (hk : k < 256) (h : j ≠ k) :
    (s.wr (0x2020 + w) j v).rd (0x2020 + w) k = s.rd (0x2020 + w) k := by
  rw [State.rd_wr_at _ _ hj hk, if_neg (fun e => h e.2)]

theorem State.updWindow_dict (f : Window → Window) : (s.updWindow w f).dict = s.dict := rfl

theorem State.winOpened_touch (mode len : Nat) :
    Touch (fun i j => i = 0x2020 + w ∧ (j = 3 ∨ j = 4 ∨ j = 5 ∨ j = 6)) s (s.winOpened m w mode len) := by
  unfold State.winOpened
  refine .trans (.trans (.trans (.trans (.wr _ _ (by decide) ?_) (.wr _ _ (by decide) ?_)) (.wr _ _ (by decide) ?_))
    (.wr _ _ (by decide) ?_)) (.of_dict (State.updWindow_dict _ w _))
  all_goals simp

theorem State.wr_window (i j : Nat) (v : Int) (k : Nat) : (s.wr i j v).window k = s.window k := rfl

theorem State.updWindow_rd (f : Window → Window) (i j : Nat) : (s.updWindow w f).rd i j = s.rd i j := rfl

/-- R57: the entries of a window that has just opened. -/
theorem State.winOpened_rd (mode len : Nat) : let t := s.winOpened m w mode len
    t.rd (0x2020 + w) 3 = (len : Int) % 2 ^ 32 ∧ t.rd (0x2020 + w) 4 = (mode : Int) % 2 ^ 8 ∧ t.rd (0x2020 + w) 5 = 1 ∧
      t.rd (0x2020 + w) 6 = (m : Int) % 2 ^ 8 := by
  obtain ⟨-, h3, h4, h5, h6⟩ := winTypes w
  unfold State.winOpened
  simp only [State.updWindow_rd]
  refine ⟨?_, ?_, ?_, ?_⟩
  · rw [State.rd_wr_win _ _ _ (by decide) (by decide) (by decide), State.rd_wr_win _ _ _ (by decide) (by decide) (by decide),
      State.rd_wr_win _ _ _ (by decide) (by decide) (by decide), State.rd_wr_self _ _ (by decide), h3, Ty.wrap_u32]
  · rw [State.rd_wr_win _ _ _ (by decide) (by decide) (by decide), State.rd_wr_win _ _ _ (by decide) (by decide) (by decide),
      State.rd_wr_self _ _ (by decide), h4, Ty.wrap_u8]
  · rw [State.rd_wr_win _ _ _ (by decide) (by decide) (by decide), State.rd_wr_self _ _ (by decide), h5]
    rfl
  · rw [State.rd_wr_self _ _ (by decide), h6, Ty.wrap_u8]

theorem State.updWindow_window (f : Window → Window) : (s.updWindow w f).window w = f (s.window w) := by
  show vget (vupd s.door.windows w f) w = _
  rw [vget_vupd, if_pos ⟨rfl, w.isLt⟩]
  rfl

theorem State.winOpened_window (mode len : Nat) : (s.winOpened m w mode len).window w = ⟨[], s.now⟩ := State.updWindow_window _ w _

/-- A window that has just opened, in words of its accessors. -/
theorem State.winOpened_spec {mode : Nat} (hm : m < 17) (hmode : mode < 3) (len : Nat) : let t := s.winOpened m w mode len
    t.winOpen w = true ∧ t.winMode w = mode ∧ t.winOwner w = m := by
  obtain ⟨-, h4, h5, h6⟩ := s.winOpened_rd (m := m) w mode len
  refine ⟨?_, ?_, ?_⟩
  · rw [State.winOpen, h5]
    rfl
  · rw [State.winMode, State.rdN, h4]
    omega
  · rw [State.winOwner, State.rdN, h6]
    omega

/-- R57, R59: the entries of a window that is closed. -/
theorem State.winClosed_spec (status : Nat) (h : status < 5) : let t := s.winClosed w status
    t.winMode w = 0 ∧ t.rd (0x2020 + w) 5 = status ∧ t.winOwner w = 0xFF := by
  obtain ⟨-, -, h4, h5, h6⟩ := winTypes w
  unfold State.winMode State.winOwner State.winClosed State.rdN
  simp only [State.updWindow_rd]
  refine ⟨?_, ?_, ?_⟩
  · rw [State.rd_wr_win _ _ _ (by decide) (by decide) (by decide), State.rd_wr_win _ _ _ (by decide) (by decide) (by decide),
      State.rd_wr_self _ _ (by decide), h4]
    rfl
  · rw [State.rd_wr_win _ _ _ (by decide) (by decide) (by decide), State.rd_wr_self _ _ (by decide), h5, Ty.wrap_u8]
    omega
  · rw [State.rd_wr_self _ _ (by decide), h6]
    rfl

/-- The operation of the mode entry, its refusals apart. -/
theorem opWindow_mode (v : Int) : opWindow m w 4 v s = if s.winForeign m w then (s, 8)
    else if v = 0 then (if s.winOpen w then s.closeWindow w else s, 0)
    else if s.winOpen w then (s, 8) else if v = 1 then s.openRead m w else s.openWrite m w := by
  have hb : rangeBad (0x2020 + w) 4 v = false := by
    unfold rangeBad
    rw [if_pos (by omega)]
    rfl
  rw [opWindow, hb, if_neg (c := false = true) (by decide), if_neg (c := 4 = 2 ∧ _) (fun h => absurd h.1 (by decide)),
    if_neg (c := 4 ≠ 4) (by decide)]

theorem opWindow_foreign (v : Int) (ho : s.winOpen w = true) (hm : s.winOwner w ≠ m) : opWindow m w 4 v s = (s, 8) := by
  rw [opWindow_mode, if_pos (by simp [State.winForeign, ho, hm])]

/-- A write of mode 1 or 2 to a closed window opens it. -/
theorem opWindow_opens {v : Int} (hv : v ≠ 0) (ho : s.winOpen w = false) :
    opWindow m w 4 v s = if v = 1 then s.openRead m w else s.openWrite m w := by
  rw [opWindow_mode, if_neg (by simp [State.winForeign, ho]), if_neg hv, if_neg (by rw [ho]; decide)]

/-- A write of mode 0 by its owner closes a read window. -/
theorem opWindow_closes (ho : s.winOpen w = true) (hm : s.winOwner w = m) (h1 : s.winMode w = 1) :
    opWindow m w 4 0 s = (s.winClosed w 0, 0) := by
  rw [opWindow_mode, if_neg (by simp [State.winForeign, hm]), if_pos rfl, if_pos ho, State.closeWindow, if_pos (by rw [h1]; decide)]

variable {e : Entry}

theorem State.openRead_opens (hl : lookup (s.winTarget w) (s.rdN (0x2020 + w) 1 / 2 ^ 8 % 256) = some e) (ha : e.row.acc ≠ .wo) :
    s.openRead m w = (s.winOpened m w 1 (s.targetLength (s.winTarget w)), 0) := by
  rw [State.openRead, hl]
  exact if_neg ha

/-- R59: a domain is written through one window at a time. -/
theorem State.openWrite_busy {x : Nat} (hl : lookup (s.winTarget w) (s.rdN (0x2020 + w) 1 / 2 ^ 8 % 256) = some e) (ha : e.row.acc ≠ .ro)
    (h22 : s.winTarget w ≠ 0x2201) (hn : s.writerOf (s.winTarget w) = some x) : s.openWrite m w = (s.winBusy w (s.winOwner x), 8) := by
  rw [State.openWrite, hl]
  simp only [if_neg ha, if_neg h22, hn]

/-- R59: the Lantern tables are free for a writer while no window writes them. -/
theorem State.openWrite_table (hl : lookup (s.winTarget w) (s.rdN (0x2020 + w) 1 / 2 ^ 8 % 256) = some e) (ha : e.row.acc ≠ .ro)
    (ht : s.winTarget w = 0x4E11 ∨ s.winTarget w = 0x4E12) (hn : s.writerOf (s.winTarget w) = none) :
    s.openWrite m w = (s.winOpened m w 2 0, 0) := by
  have hb : s.targetBusy (s.winTarget w) = false := by
    rcases ht with h | h <;> rw [h] <;> rfl
  rw [State.openWrite, hl]
  simp only [if_neg ha, if_neg (show ¬ s.winTarget w = 0x2201 by omega), hn, hb, Bool.false_eq_true, if_false,
    if_neg (show ¬ s.winTarget w = 0x5430 by omega), if_neg (show ¬ (s.winTarget w = 0x4010 ∨ s.winTarget w = 0x4011) by omega)]

theorem State.winBusy_rd (holder : Nat) : (s.winBusy w holder).rd (0x2020 + w) 5 = 2 ∧ (s.winBusy w holder).winOwner w = holder % 2 ^ 8 := by
  obtain ⟨-, -, -, h5, h6⟩ := winTypes w
  unfold State.winBusy State.winOwner State.rdN
  constructor
  · rw [State.rd_wr_win _ _ _ (by decide) (by decide) (by decide), State.rd_wr_self _ _ (by decide), h5]
    rfl
  · rw [State.rd_wr_self _ _ (by decide), h6, Ty.wrap_u8]
    omega

theorem State.dataRead_ready {a n : Nat} (hm : s.masterPresent m = true) (hr : s.dev.ready = true) :
    s.dataRead m w a n = (s.windowRead m w a n).1.answer m (0x2024 + w) 1 (s.windowRead m w a n).2.1 [] (s.windowRead m w a n).2.2 := by
  simp [State.dataRead, hm, hr]

theorem State.windowRead_of_code {a n : Nat} (hc : accessCode m a n = 0) : s.windowRead m w a n =
    if !s.winOpen w then (s, 11, [])
    else if s.winOwner w ≠ m then (s, 8, [])
    else if s.winMode w = 2 then (s, 4, [])
    else if s.winLength w < s.winOffset w + a + n then (s, 11, [])
    else (s.advance w n, 0, fitBytes (s.targetRead (s.winTarget w) (s.winOffset w + a) n) n) := by
  rw [State.windowRead, if_neg (fun h => h hc)]

/-- R486: bytes written into a window's buffer. -/
def State.buffered (s : State) (w o : Nat) (bs : List Byte) : State :=
  ((s.updWindow w (fun q => { q with buf := overlay q.buf o bs })).wr (0x2020 + w) 3 (max (s.winLength w) (o + bs.length) : Nat)).advance w
    bs.length

theorem State.windowWrite_bins {a : Nat} {bs : List Byte} (hc : accessCode m a bs.length = 0) (ho : s.winOpen w = true)
    (hm : s.winOwner w = m) (h2 : s.winMode w = 2) (ht : s.winTarget w = 0x4E11) (hl : s.winOffset w + a ≤ s.winLength w)
    (hn : s.winOffset w + a + bs.length ≤ 512) : s.windowWrite m w a bs = (s.buffered w (s.winOffset w + a) bs, some 0) := by
  have hlim : s.writeLimit (s.winTarget w) = 512 := by
    rw [ht]
    rfl
  have hput : (s.putContent w (s.winOffset w + a) bs).advance w bs.length = s.buffered w (s.winOffset w + a) bs := by
    unfold State.putContent State.buffered
    rw [ht]
    rfl
  unfold State.windowWrite
  extract_lets n c o idx
  rw [show s.writeLimit idx = 512 from hlim, show idx = 0x4E11 from ht, if_neg (fun h => h hc), ho, if_neg (by decide), if_neg (by rw [hm]; exact fun h => h rfl), if_neg (by rw [h2]; decide),
    if_neg (by decide), if_neg (by decide), if_neg (by omega)]
  exact congrArg (fun x => (x, some 0)) hput

theorem State.buffered_buf (o : Nat) (bs : List Byte) : ((s.buffered w o bs).window w).buf = overlay (s.window w).buf o bs := by
  let t := (s.updWindow w (fun q => { q with buf := overlay q.buf o bs })).wr (0x2020 + w) 3 (max (s.winLength w) (o + bs.length) : Nat)
  have ht : t.window w = { s.window w with buf := overlay (s.window w).buf o bs } := by
    rw [State.wr_window, State.updWindow_window]
  have ha : ((t.advance w bs.length).window w).buf = (t.window w).buf := by
    rw [State.advance, State.updWindow_window, State.wr_window]
  exact ha.trans (congrArg Window.buf ht)

theorem State.buffered_rd {o : Nat} {bs : List Byte} (hl : s.winLength w ≤ 512) (hn : o + bs.length ≤ 512) (ho : s.winOffset w ≤ o) :
    (s.buffered w o bs).rd (0x2020 + w) 3 = max (s.winLength w) (o + bs.length) ∧
      (s.buffered w o bs).rd (0x2020 + w) 2 = s.winOffset w + bs.length := by
  obtain ⟨h2, h3, -⟩ := winTypes w
  unfold State.buffered State.advance
  simp only [State.updWindow_rd]
  constructor
  · rw [State.rd_wr_win _ _ _ (by decide) (by decide) (by decide), State.rd_wr_self _ _ (by decide), h3, Ty.wrap_u32]
    omega
  · have hoff (v : Int) : ((s.updWindow w (fun q => { q with buf := overlay q.buf o bs })).wr (0x2020 + w) 3 v).winOffset w = s.winOffset w := by
      unfold State.winOffset State.rdN
      rw [State.rd_wr_win _ _ _ (by decide) (by decide) (by decide), State.updWindow_rd]
    rw [State.rd_wr_self _ _ (by decide), h2, Ty.wrap_u32, hoff]
    omega

/-- R59: 10 s without a data access. -/
def State.timedOut (s : State) (w : Nat) : State :=
  let s := if s.winMode w = 2 ∧ (s.winTarget w = 0x4010 ∨ s.winTarget w = 0x4011) then s.setBank (s.winTarget w - 0x4010) 3 0 else s
  (s.winClosed w 3).raise1 837 w

theorem State.timedOut_spec : let t := s.timedOut w
    t.winOpen w = false ∧ t.winMode w = 0 ∧ t.winOwner w = 0xFF ∧ t.rd (0x2020 + w) 5 = 3 ∧ t.Presents 837 := by
  let a := if s.winMode w = 2 ∧ (s.winTarget w = 0x4010 ∨ s.winTarget w = 0x4011) then s.setBank (s.winTarget w - 0x4010) 3 0 else s
  obtain ⟨h4, h5, h6⟩ := a.winClosed_spec w 3 (by decide)
  have hrd (j : Nat) (hj : j < 256) : ((a.winClosed w 3).raise1 837 w).rd (0x2020 + w) j = (a.winClosed w 3).rd (0x2020 + w) j :=
    State.rd_raise _ _ _ hj (by omega)
  have ht : s.timedOut w = (a.winClosed w 3).raise1 837 w := rfl
  intro t
  rw [show t = _ from ht]
  unfold State.winOpen State.winMode State.winOwner State.rdN at *
  rw [hrd 4 (by decide), hrd 5 (by decide), hrd 6 (by decide), h5]
  exact ⟨rfl, h4, h6, rfl, State.presents_raise1 _ 837 w⟩

end

end Sys2Proof.Machine

namespace Sys2Proof
open Machine

/-- Settles O15: each access meets the same mode row; what opens or closes a window is its own entries. -/
theorem bulkWindows : Obligations.BulkWindows := by
  intro s dt m w u hm hr
  obtain ⟨hrow, hv0, hv1, hv2⟩ := winModeRow w
  have hopenR : exec (.openReadWindow dt m w) s = _ := hostCommand_open hm hr hrow hv1
  have hopenW : exec (.openWriteWindow dt m w) s = _ := hostCommand_open hm hr hrow hv2
  have hclose : exec (.closeWindow dt m w) s = _ := hostCommand_open hm hr hrow hv0
  have hread (a n : Nat) : exec (.windowDataRead dt m w a n) s = _ := congrArg Host.Outcome.next (u.dataRead_ready w hm hr)
  have hwrite (a : Nat) (bs : List Byte) : exec (.windowDataWrite dt m w a bs) s = .next (u.dataWrite m w a bs) := rfl
  refine ⟨fun ho e hl ha => ?openR, fun ho e hl ha ht hn => ?openW, fun ho e x hl ha ht hn => ?busy, fun ho hne => ?foreign,
    fun ho heq h1 => ?close, fun a n hc => ?read, fun a bs hc ho heq h2 ht hle hlen hfit => ?write, fun ho ht => ?timeout⟩
  case openR =>
    have hop := (opWindow_opens (m := m) u w (v := 1) (by decide) ho).trans ((if_pos rfl).trans (u.openRead_opens w hl ha))
    obtain ⟨h1, h2, h3⟩ := u.winOpened_spec w m.isLt (mode := 1) (by decide) (u.targetLength (u.winTarget w))
    have ht := u.winOpened_touch (m := m) w 1 (u.targetLength (u.winTarget w))
    refine ⟨u.winOpened m w 1 (u.targetLength (u.winTarget w)), ?_, h1, h2, h3, ?_, ?_, ?_, ?_⟩
    · rw [hopenR, hop]
    · exact congrArg (fun x : Int => x.toNat / 2 ^ 16) (ht (0x2020 + w) 1 (by decide) (by omega))
    · exact ht (0x2020 + w) 2 (by decide) (by omega)
    · exact (u.winOpened_rd w 1 _).1
    · rw [State.winOpened_window]
  case openW =>
    have hop := (opWindow_opens (m := m) u w (v := 2) (by decide) ho).trans ((if_neg (by decide)).trans (u.openWrite_table w hl ha ht hn))
    obtain ⟨h1, h2, h3⟩ := u.winOpened_spec w m.isLt (mode := 2) (by decide) 0
    refine ⟨u.winOpened m w 2 0, ?_, h1, h2, h3, (u.winOpened_rd w 2 0).1, ?_⟩
    · rw [hopenW, hop]
    · rw [State.winOpened_window]
  case busy =>
    have hw := u.openWrite_busy (m := m) w hl ha ht hn
    have hop := (opWindow_opens (m := m) u w (v := 2) (by decide) ho).trans ((if_neg (by decide)).trans hw)
    refine ⟨u.winBusy w (u.winOwner x), ?_, u.winBusy_rd w _⟩
    rw [hopenW, hop]
  case foreign =>
    rw [hclose, hopenR, opWindow_foreign u w 0 ho hne, opWindow_foreign u w 1 ho hne]
    exact ⟨rfl, rfl⟩
  case close =>
    obtain ⟨h4, h5, h6⟩ := u.winClosed_spec w 0 (by decide)
    refine ⟨u.winClosed w 0, ?_, ?_, h4, h6, h5⟩
    · rw [hclose, opWindow_closes u w ho heq h1]
    · rw [State.winOpen, h5]
      rfl
  case read =>
    refine ⟨fun ho => ?_, fun ho hne => ?_, fun ho heq h1 hfit => ?_⟩
    · rw [hread, State.windowRead_of_code u w hc, if_pos (by rw [ho]; rfl)]
    · rw [hread, State.windowRead_of_code u w hc, if_neg (by rw [ho]; decide), if_pos hne]
    · rw [hread, State.windowRead_of_code u w hc, if_neg (by rw [ho]; decide), if_neg (not_not.mpr heq), if_neg (by rw [h1]; decide),
        if_neg (by omega)]
  case write =>
    obtain ⟨h3, h2'⟩ := u.buffered_rd w (o := u.winOffset w + a) (bs := bs) hlen hfit (by omega)
    refine ⟨u.buffered w (u.winOffset w + a) bs, ?_, u.buffered_buf w _ bs, ?_, h2'⟩
    · rw [hwrite, State.dataWrite, hm, hr, u.windowWrite_bins w hc ho heq h2 ht hle hfit]
      rfl
    · exact h3
  case timeout =>
    have hdue : (u.winOpen w && u.elapsed (u.window w).last 10000000000) = true := by
      rw [ho, State.elapsed, decide_eq_true ht, Bool.and_self]
    obtain ⟨h1, h4, h6, h5, hp⟩ := u.timedOut_spec w
    exact ⟨u.timedOut w, (event_due hdue : execWindowTimeout dt w s = _), h1, h4, h6, h5, hp⟩

end Sys2Proof
end

section
set_option Elab.async false
namespace Sys2Proof.Machine

/-! ### Triggers and exposure cycles (R82 to R87) -/

section
variable (s : State) {g : Nat}

theorem State.wr_group (i j : Nat) (v : Int) (k : Nat) : (s.wr i j v).group k = s.group k := rfl

theorem State.raise1_group (n d k : Nat) : (s.raise1 n d).group k = s.group k := by
  have h : (s.raise1 n d).tim = s.tim := (State.raise1_keeps (.refl .tim s) rfl n d).same
  rw [State.group, h]
  rfl

theorem State.eachOf_group {α : Type} {f : α → State → State} {k : Nat} (hf : ∀ a t, (f a t).group k = t.group k) :
    ∀ (l : List α) (s : State), (s.eachOf l f).group k = s.group k
  | [], _ => rfl
  | a :: l, s => (State.eachOf_group hf l (f a s)).trans (hf a s)

/-- Only what a change makes of the group as it stands matters. -/
theorem State.updGroup_congr {f h : Group → Group} (e : f (s.group g) = h (s.group g)) (hg : g < 16) : s.updGroup g f = s.updGroup g h := by
  have hv : vupd s.tim.groups g f = vupd s.tim.groups g h := by
    unfold State.group vget at e
    simp only [dif_pos hg] at e
    unfold vupd
    simp only [dif_pos hg, e]
  unfold State.updGroup
  rw [hv]

/-! ### Triggers at a group -/

theorem groupTypes : ∀ g : Fin 16, tyAt (0x2040 + g) 0x11 = .u32 ∧ tyAt (0x2040 + g) 0x12 = .u32 := by decide +kernel

/-- R87: a dropped trigger is told to every channel of the group. -/
def State.dropTold (s : State) (g : Nat) : State :=
  let s := (s.bump (0x2040 + g) 0x12).raise1 (896 + g) 0
  s.eachOf (s.channelsOf g) (fun n s => (s.bump (chIdx n) 9).raise1 (4 * n + 1) 0)

theorem State.dropTrigger_eq : s.dropTrigger g = (s.dropTold g).updGroup g (fun q => { q with dropBefore := true }) := rfl

/-- The entries in which a drop is shown to the channels. -/
def dropEntry (i _ : Nat) : Prop := 0x2800 ≤ i

theorem State.dropTold_writes : Writes dropEntry ((s.bump (0x2040 + g) 0x12).raise1 (896 + g) 0) (s.dropTold g) := by
  refine Writes.eachOf (.refl _ _) (fun n hn t h => ?_)
  refine (h.bump (by decide) ?_).raise1 (fun j => ?_)
  · unfold dropEntry chIdx
    omega
  · unfold dropEntry
    omega

theorem State.dropTold_group (k : Nat) : (s.dropTold g).group k = s.group k := by
  unfold State.dropTold
  rw [State.eachOf_group (fun n t => by rw [State.raise1_group]; rfl), State.raise1_group]
  rfl

theorem State.deliver_busy (t : Trig) (h : (s.group g).running.isSome = true) : s.deliver g t =
    if (s.group g).latch.isNone then (s.updGroup g (fun q => { q with latch := some t })).bump (0x2040 + g) 0x11 else s.dropTrigger g := by
  have hr : (s.group g).running.isNone = false := by rw [Option.isNone_eq_false_iff, h]
  rw [State.deliver, hr, Bool.false_and, Bool.false_and, if_neg (by decide)]

/-! ### Cycles -/

theorem State.updGroup_latch (f : Group → Group) (hf : ∀ q, (f q).latch = q.latch) (k : Nat) :
    ((s.updGroup g f).group k).latch = (s.group k).latch := by
  by_cases hg : g < 16
  · rw [State.group_updGroup _ hg]
    split
    · exact hf _
    · rfl
  · show (vget (vupd s.tim.groups g f) k).latch = _
    rw [vget_vupd, if_neg (fun h => hg h.2)]
    rfl

theorem State.group_of_tim {s t : State} (h : t.tim = s.tim) (k : Nat) : t.group k = s.group k := by rw [State.group, h, State.group]

/-- What waits at the groups is the same. -/
def SameLatches (s t : State) : Prop := ∀ k, (t.group k).latch = (s.group k).latch

theorem SameLatches.trans {s t u : State} (h : SameLatches s t) (g : SameLatches t u) : SameLatches s u := fun k => (g k).trans (h k)

theorem SameLatches.of_tim {s t : State} (h : t.tim = s.tim) : SameLatches s t := fun k => by rw [State.group_of_tim h]

theorem SameLatches.of_sh (sh : ShadeSt) : SameLatches s { s with sh := sh } := fun _ => rfl

theorem SameLatches.of_rcp (rcp : RecipeSt) : SameLatches s { s with rcp := rcp } := fun _ => rfl

theorem SameLatches.of_window (rcp : RecipeSt) (trm : TrimSt) : SameLatches s { s with rcp := rcp, trm := trm } := fun _ => rfl

theorem SameLatches.wr (i j : Nat) (v : Int) : SameLatches s (s.wr i j v) := fun _ => rfl

theorem SameLatches.raise1 (n d : Nat) : SameLatches s (s.raise1 n d) := fun k => by rw [State.raise1_group]

/-- R127: every group takes the bank and the recipe. -/
def State.groupsTake (s : State) (r : Nat) : State :=
  s.each 16 (fun g s => s.updGroup g (fun q => { q with bank := s.activeBank, recipe := r }))

theorem SameLatches.groupsTake (r : Nat) : SameLatches s (s.groupsTake r) := by
  have he (l : List Nat) (t : State) :
      SameLatches t (l.foldl (fun t g => t.updGroup g (fun q => { q with bank := t.activeBank, recipe := r })) t) := by
    induction l generalizing t with
    | nil => exact fun _ => rfl
    | cons g l ih => exact .trans (t.updGroup_latch (g := g) (fun q => { q with bank := t.activeBank, recipe := r }) (fun _ => rfl)) (ih _)
  exact he _ s

/-- R127: a swap at once leaves what waits at the groups. -/
theorem SameLatches.swapNow (r : Nat) : SameLatches s (s.swapNow r) := by
  have hd : (s.doSwap s.fine 0 r).tim = s.tim := (State.doSwap_keeps (.refl .tim s) rfl _ _ _).same
  have hs : s.swapNow r = { (s.doSwap s.fine 0 r).groupsTake r with sh := { ((s.doSwap s.fine 0 r).groupsTake r).sh with change := none } } := by
    rw [State.swapNow, State.groupsTake]
  rw [hs]
  generalize s.doSwap s.fine 0 r = d at hd ⊢
  exact (SameLatches.of_tim hd).trans ((SameLatches.groupsTake d r).trans (.of_sh (d.groupsTake r) _))

/-- R156: a switch that is made leaves what waits at the groups. -/
theorem SameLatches.makeSwitch (a : Armed) (trig : Option (Nat × Nat × Int)) : SameLatches s (s.makeSwitch a trig) := by
  unfold State.makeSwitch
  extract_lets old oldJob job a1 a2 a3 a4 e
  have h3 : SameLatches s a3 :=
    .trans (.trans (.of_rcp s _) (.trans (.wr _ 0x4210 1 _) (.wr _ 0x4210 2 _))) (.of_rcp a1 _)
  have h4 : SameLatches a3 a4 := by
    clear_value a3
    cases trig with
    | none =>
      dsimp only [a4]
      have hs := SameLatches.swapNow a3 a.recipe
      generalize a3.swapNow a.recipe = w at hs ⊢
      exact ((hs.trans (.wr w 0x4210 0xC 0)).trans (.wr _ 0x4210 0xD 0)).trans (.wr _ 0x4210 0xE _)
    | some p =>
      obtain ⟨line, t, pos⟩ := p
      have hw : SameLatches a3 (a3.doSwap t line a.recipe) := .of_tim (State.doSwap_keeps (.refl .tim a3) rfl _ _ _).same
      dsimp only [a4]
      generalize (if a.deferred = true ∧ ¬a.startup = true then (line + 2 ^ 32 - a.condLine.getD line) % 2 ^ 32 else 0) = late
      generalize a3.doSwap t line a.recipe = w at hw ⊢
      have hx := ((hw.trans (.wr w 0x4210 0xC line)).trans (.wr _ 0x4210 0xD late)).trans (.wr _ 0x4210 0xE t)
      generalize ((w.wr 0x4210 0xC line).wr 0x4210 0xD late).wr 0x4210 0xE t = x at hx ⊢
      split
      · exact hx
      · exact hx.trans (.of_window x _ _)
  have he : SameLatches a4 e := by
    clear_value a4
    exact ((SameLatches.wr a4 0x4210 0xA 6).trans (.wr _ _ _ _)).trans (.wr _ _ _ _)
  have hend : SameLatches e (if a.startup then e else (e.bump 0x4210 0x12).raise1 845 0) := by
    clear_value e
    split
    · exact fun _ => rfl
    · exact (SameLatches.wr e 0x4210 0x12 _).trans (.raise1 _ 845 0)
  exact ((h3.trans h4).trans he).trans hend

theorem SameLatches.settleSwitch : SameLatches s s.settleSwitch := by
  unfold State.settleSwitch
  split
  · exact fun _ => rfl
  · next a _ =>
    split
    · exact .makeSwitch s a _
    · split
      · exact .makeSwitch s a none
      · exact fun _ => rfl

theorem SameLatches.adopt (g line : Nat) : SameLatches s (s.adopt g line) := by
  unfold State.adopt
  split
  · split
    · exact s.updGroup_latch _ (fun _ => rfl)
    · exact fun _ => rfl
  · exact fun _ => rfl

/-- R83, R85: a cycle that starts now for a trigger of one of the sources, and its record. -/
theorem State.startCycle_spec (hg : g < 16) {t : Trig} (ho : t.origin ≤ 3) (late : Bool) :
    ∃ (c : Cycle) (r : ExpRec), let q := (s.startCycle g t late).group g
      q.running = some c ∧ q.due = none ∧ q.latch = (s.group g).latch ∧ c.start = s.now ∧ c.line = t.line ∧
        c.plane = t.plane ∧ c.origin = t.origin ∧ c.late = late ∧ c.lateness = min 0xFFFFF (c.stamp - t.time - 20) ∧
        q.records.head? = some r ∧ r.time = c.stamp ∧ r.line = t.line ∧ r.drop = c.drop := by
  unfold State.startCycle
  extract_lets own s1 s2 q stamp lateness c s3 s4 read pix s5 s6 unit p gr
  have hlt : ¬ (t.origin = 4 ∨ t.origin = 5) := by omega
  have h1 : SameLatches s s1 := by
    dsimp only [s1]
    split
    · exact .trans (.settleSwitch s) (.adopt _ g t.line)
    · exact fun _ => rfl
  have h2 : SameLatches s1 s2 := by
    dsimp only [s2]
    split
    · exact s1.updGroup_latch _ (fun _ => rfl)
    · exact fun _ => rfl
  have hnow : s2.now = s.now := by
    have hs1 : s1.now = s.now := by
      dsimp only [s1]
      split
      · exact (State.adopt_keeps (State.settleSwitch_keeps (.refl .now s) rfl) rfl g t.line).same
      · rfl
    rw [← hs1]
    dsimp only [s2]
    split <;> rfl
  have h3 (k : Nat) : s3.group k = s2.group k := by
    dsimp only [s3]
    split
    · exact State.group_of_tim (State.placeStrobes_keeps (.refl .tim s2) rfl _ _ _).same k
    · rfl
  have h5 (k : Nat) : s5.group k = s4.group k := State.eachOf_group (fun n u => by
    dsimp only
    split <;> rfl) _ s4
  have h6 (k : Nat) : s6.group k = s5.group k := by
    dsimp only [s6]
    split
    · rfl
    · split
      · exact State.group_of_tim (State.sumTemps_keeps (.refl .tim s5) rfl g).same k
      · rfl
  have hrec : ∃ r : ExpRec, (s4.group g).records.head? = some r ∧ r.time = c.stamp ∧ r.line = c.line ∧ r.drop = c.drop := by
    refine ⟨_, (congrArg (fun q : Group => q.records.head?) ((State.group_updGroup s3 hg _ g).trans (if_pos rfl))).trans rfl, rfl, rfl, rfl⟩
  have hlatch4 : (s4.group g).latch = (s3.group g).latch := by
    refine (congrArg Group.latch (State.group_updGroup s3 hg _ g)).trans ?_
    rw [if_pos rfl]
  obtain ⟨r, hr, hrt, hrl, hrd⟩ := hrec
  have hgroup (f : Group → Group) : (s6.updGroup g f).group g = f (s4.group g) := by
    rw [State.group_updGroup s6 hg, if_pos rfl, h6, h5]
  refine ⟨c, r, ?_⟩
  have hgr : gr = _ := hgroup _
  rw [hgr]
  refine ⟨rfl, rfl, ?_, hnow, rfl, rfl, rfl, rfl, ?_, hr, hrt, hrl, hrd⟩
  · refine hlatch4.trans ?_
    rw [h3]
    exact (h1.trans h2) g
  · exact if_neg hlt


/-- A cycle is started for what a group's change to itself left as it is. -/
theorem State.mayStart_updGroup (f : Group → Group) (h : Nat) : (s.updGroup g f).mayStart h = s.mayStart h := rfl

theorem State.cycling_updGroup (f : Group → Group) : (s.updGroup g f).cycling = s.cycling := rfl

/-- R80: a cycle ends with nothing that follows it. -/
theorem State.endCycle_idle (hg : g < 16) {c : Cycle} (hr : (s.group g).running = some c) (h0 : (s.group g).selfTimed = 0)
    (hl : (s.group g).latch = none) : s.endCycle g = s.updGroup g (fun q => { q with running := none, prev := some c }) := by
  have hp : s.updGroup g (fun q => { q with running := none, prev := q.running }) =
      s.updGroup g (fun q => { q with running := none, prev := some c }) := s.updGroup_congr (by rw [hr]) hg
  rw [State.endCycle, hr, hl, h0, hp]
  simp only [lt_self_iff_false, if_false, ite_self]

/-- R80: the running cycle of a group has ended. -/
def State.cycleEnded (s : State) (g : Nat) : State := s.updGroup g (fun q => { q with running := none, prev := q.running })

/-- R87: the latched trigger's cycle begins on the edge on which the running one ends. -/
theorem State.endCycle_latched {c : Cycle} {t : Trig} (hr : (s.group g).running = some c) (h0 : (s.group g).selfTimed = 0)
    (hl : (s.group g).latch = some t) (hm : s.mayStart g = true) (hc : s.cycling = true) :
    s.endCycle g = ((s.cycleEnded g).updGroup g (fun q => { q with latch := none })).startCycle g
      { t with plane := (s.cycleEnded g).planeFor g } true := by
  have hgo : (!((s.cycleEnded g).mayStart g && (s.cycleEnded g).cycling)) = false := by
    rw [State.cycleEnded, State.mayStart_updGroup, State.cycling_updGroup, hm, hc]
    rfl
  unfold State.cycleEnded at hgo ⊢
  rw [State.endCycle]
  simp only [hr, hl, h0] at hgo ⊢
  rw [hgo, if_neg (by decide), if_neg (by decide)]

theorem softwareTrigger_row : rowOpen 0x2050 3 = true ∧ verdict 0x2050 3 1 = .keep 1 := by decide +kernel

end

end Sys2Proof.Machine

namespace Sys2Proof
open Machine

/-- Settles O19: a trigger has one way at each group, and a cycle takes its number and origin from its trigger. -/
theorem triggersAndCycles : Obligations.TriggersAndCycles := by
  intro s dt g u
  have e : s.arrive dt = u := rfl
  clear_value u
  refine ⟨fun m => ?software, fun t hr hd hp => ?waits, fun t hr hl => ?latched, fun t hr hl => ?dropped,
    fun t hr hp hd hm hc ht ho => ?starts, fun c hr he h0 hl => ?ends, fun c t hr he h0 hl hm hc ho => ?follows⟩
  case software =>
    intro v hm hr
    obtain ⟨hrow, hv⟩ := softwareTrigger_row
    have hop : exec (.softwareTrigger dt m) s = .next ((opSoftwareTrigger 1 v).1.answer m 0x2050 3 (opSoftwareTrigger 1 v).2) :=
      hostCommand_open hm hr hrow hv
    refine ⟨fun hl => ?_, fun hl h1 => ?_, fun hl h1 => ?_⟩
    · rw [hop, opSoftwareTrigger, hl, if_pos (by decide)]
    · rw [hop, opSoftwareTrigger, hl, if_neg (by decide), if_pos h1]
    · rw [hop, opSoftwareTrigger, hl, if_neg (by decide), if_neg (not_not.mpr h1)]
  case waits => rw [State.deliver, hr, hd, hp, if_pos (by decide)]
  case latched =>
    rw [u.deliver_busy t hr, hl, if_pos (by decide)]
    constructor
    · refine (congrArg Group.latch (u.group_updGroup g.isLt _ g)).trans ?_
      rw [if_pos rfl]
    · rw [State.bump, State.rd_wr_self _ _ (by decide), (groupTypes g).1, Ty.wrap_u32]
      rfl
  case dropped =>
    have hd := u.dropTold_writes (g := g)
    rw [u.deliver_busy t hr, if_neg (by rw [Option.isNone_iff_eq_none]; intro h; simp [h] at hl), u.dropTrigger_eq]
    have hgr : ((u.dropTold g).updGroup g (fun q => { q with dropBefore := true })).group g = { u.group g with dropBefore := true } := by
      rw [State.group_updGroup _ g.isLt, if_pos rfl, u.dropTold_group]
    refine ⟨by rw [hgr], by rw [hgr], ?_, ?_⟩
    · refine (hd.rd (by decide) (by unfold dropEntry; omega)).trans ?_
      rw [State.raise1, State.rd_raise _ _ _ (by decide) (by omega), State.bump, State.rd_wr_self _ _ (by decide), (groupTypes g).2, Ty.wrap_u32]
      rfl
    · exact hd.presents (State.presents_raise1 _ (896 + g) 0)
  case starts =>
    obtain ⟨c, r, h1, h2, -, h4, h5, h6, h7, h8, h9, h10, h11, h12, h13⟩ :=
      u.startCycle_spec g.isLt (t := { t with plane := u.planeFor g }) ho false
    have hdue : ((u.group g).running.isNone) = true := by rw [hr]; rfl
    have hgo : (u.mayStart g && u.cycling && decide (t.time + 20 ≤ u.fine)) = true := by rw [hm, hc, decide_eq_true ht]; rfl
    refine ⟨_, c, r, (timed_at e hdue : execExposureCycleStart dt g s = _).trans (congrArg _ ?_), h1, h2, h4, h5, h6, h7, h8, h9, h10, h11, h12, h13⟩
    simp only [hp, hd, hgo, Bool.false_and, Bool.false_eq_true, if_false, if_true]
  case ends =>
    have hdue : (match (u.group g).running with
      | some c => u.elapsed c.start (u.clocksNs g (u.cycleLen g))
      | none => false) = true := by
      rw [hr]
      exact decide_eq_true he
    exact (timed_at e hdue : execExposureCycleEnd dt g s = _).trans (congrArg _ (u.endCycle_idle g.isLt hr h0 hl))
  case follows =>
    have hdue : (match (u.group g).running with
      | some c => u.elapsed c.start (u.clocksNs g (u.cycleLen g))
      | none => false) = true := by
      rw [hr]
      exact decide_eq_true he
    have hend := u.endCycle_latched hr h0 hl hm hc
    obtain ⟨k, r, h1, -, h3, h4, h5, -, -, h8, -⟩ := State.startCycle_spec ((u.cycleEnded g).updGroup g (fun q => { q with latch := none }))
      g.isLt (t := { t with plane := (u.cycleEnded g).planeFor g }) ho true
    refine ⟨_, k, (timed_at e hdue : execExposureCycleEnd dt g s = _).trans (congrArg _ hend), h1, h3.trans ?_, h4, h5, h8⟩
    rw [State.group_updGroup _ g.isLt, if_pos rfl]

end Sys2Proof
end

section
set_option Elab.async false
namespace Sys2Proof.Machine

/-! ### Channels in service (R91, R107, R108) -/

theorem channelTypes : ∀ n : Fin 64, tyAt (chIdx n) 8 = .u8 ∧ tyAt (chIdx n) 0xA = .u32 := by decide +kernel

/-- The service request of a channel takes 0 and 1 at any time. -/
theorem serviceRow : ∀ n : Fin 64, rowOpen (chIdx n) 7 = true ∧ verdict (chIdx n) 7 0 = .keep 0 ∧ verdict (chIdx n) 7 1 = .keep 1 := by
  decide +kernel

section
variable (s : State) (n : Fin 64)

theorem State.svc_updService (f : Service → Service) (k : Nat) : (s.updService n f).svc k = if n = k then f (s.svc k) else s.svc k := by
  show vget (vupd s.tim.service n f) k = _
  rw [vget_vupd]
  exact if_congr ⟨And.left, fun h => ⟨h, n.isLt⟩⟩ rfl rfl

theorem State.svc_of_tim {s t : State} (h : t.tim = s.tim) (k : Nat) : t.svc k = s.svc k := by rw [State.svc, h, State.svc]

/-- R91: what a change of status writes. -/
def serviceEntry (n i j : Nat) : Prop := (i = chIdx n ∧ (j = 8 ∨ j = 0xA)) ∨ i = 0x2800 + (4 * n + 3)

theorem State.serviceChange_writes (st : Nat) : Writes (serviceEntry n) s (s.serviceChange n st) :=
  (((Writes.refl _ s).wr (by decide) (.inl ⟨rfl, .inl rfl⟩)).bump (by decide) (.inl ⟨rfl, .inr rfl⟩)).raise1 (fun _ => .inr rfl)

theorem State.serviceChange_tim (st : Nat) : (s.serviceChange n st).tim = s.tim := by
  unfold State.serviceChange
  rw [State.raise1_tim, State.bump_tim, State.wr_tim]

/-- R91: the entries of a channel after a change of its status. -/
theorem State.serviceChange_rd {st : Nat} (h : st < 256) : (s.serviceChange n st).rd (chIdx n) 8 = st ∧
    (s.serviceChange n st).rd (chIdx n) 0xA = (s.rd (chIdx n) 0xA + 1) % 2 ^ 32 := by
  obtain ⟨h8, hA⟩ := channelTypes n
  have hne (j : Prop) : ¬ (chIdx n = 0x2800 + (4 * n + 3) ∧ j) := fun h => by
    have := h.1
    unfold chIdx at this
    omega
  unfold State.serviceChange State.raise1
  constructor
  · rw [State.rd_raise _ _ _ (by decide) (hne _), State.rd_bump_at _ _ (by decide) (by decide), if_neg (by simp),
      State.rd_wr_self _ _ (by decide), h8, Ty.wrap_u8]
    omega
  · rw [State.rd_raise _ _ _ (by decide) (hne _), State.rd_bump_at _ _ (by decide) (by decide), if_pos ⟨rfl, rfl⟩, hA, Ty.wrap_u32,
      State.rd_wr_at _ _ (by decide) (by decide), if_neg (by simp)]
    rfl

theorem State.serviceChange_presents (st : Nat) : (s.serviceChange n st).Presents (4 * n + 3) := State.presents_raise1 _ (4 * n + 3) 0

/-- R91: what leaving service is. -/
theorem State.leave_spec : let t := s.leave n
    t.status n = 1 ∧ t.rd (chIdx n) 0xA = (s.rd (chIdx n) 0xA + 1) % 2 ^ 32 ∧ t.Presents (4 * n + 3) ∧
      (t.svc n).leaving = false ∧ (t.svc n).losing = false ∧ (t.svc n).warmed = 0 ∧ (∀ k : Fin 64, k ≠ n → t.svc k = s.svc k) ∧
      Touch (serviceEntry n) s t := by
  obtain ⟨h8, hA⟩ := s.serviceChange_rd n (st := 1) (by decide)
  have hp := s.serviceChange_presents n 1
  have hw := (s.serviceChange_writes n 1).touch
  have ht := s.serviceChange_tim n 1
  unfold State.leave
  generalize s.serviceChange n 1 = a at h8 hA hp hw ht ⊢
  have hself := (a.svc_updService n (fun v => { v with leaving := false, losing := false, warmed := 0 }) n).trans (if_pos rfl)
  refine ⟨?_, hA, hp, congrArg Service.leaving hself, congrArg Service.losing hself, congrArg Service.warmed hself, fun k hk => ?_, hw⟩
  · rw [State.status, State.rdN, State.updService_rd, h8]
    rfl
  · rw [State.svc_updService, if_neg (fun e => hk (Fin.ext e.symm)), State.svc_of_tim ht]

/-- R91: a channel that returns warms. -/
theorem State.reenter_spec : let t := s.reenter n
    t.status n = 4 ∧ (t.svc n).warmed = 1 ∧ t.rd (chIdx n) 0xA = (s.rd (chIdx n) 0xA + 1) % 2 ^ 32 ∧ t.Presents (4 * n + 3) := by
  obtain ⟨h8, hA⟩ := s.serviceChange_rd n (st := 4) (by decide)
  have hp := s.serviceChange_presents n 4
  unfold State.reenter
  generalize s.serviceChange n 4 = a at h8 hA hp ⊢
  have hself := (a.svc_updService n (fun v => { v with warmed := 1 }) n).trans (if_pos rfl)
  refine ⟨?_, congrArg Service.warmed hself, hA, hp⟩
  exact congrArg Int.toNat h8

theorem State.cycleSince_running {c : Cycle} (h : (s.group (s.groupOf n)).running = some c) {t : Nat} (ht : t ≤ c.start) :
    s.cycleSince n t = true := by
  rw [State.cycleSince, h]
  exact decide_eq_true ht

end

end Sys2Proof.Machine

namespace Sys2Proof
open Machine

/-- Settles O20: each transition has its own due condition; a change of status is one operation. -/
theorem channelService : Obligations.ChannelService := by
  intro s dt n u
  obtain ⟨hrow, hv0, hv1⟩ := serviceRow n
  have hout (m : Fin 17) (hm : u.masterPresent m = true) (hr : u.dev.ready = true) :
      exec (.serviceRequestOut dt m n) s = .next ((opService n 1 u).1.answer m (chIdx n) 7 (opService n 1 u).2) := hostCommand_open hm hr hrow hv1
  have hback (m : Fin 17) (hm : u.masterPresent m = true) (hr : u.dev.ready = true) :
      exec (.serviceRequestReturn dt m n) s = .next ((opService n 0 u).1.answer m (chIdx n) 7 (opService n 0 u).2) := hostCommand_open hm hr hrow hv0
  have e : s.pass dt = u := rfl
  clear_value u
  refine ⟨u.leave_spec n, fun m hm hr => ⟨fun h1 => ?again, fun h1 hq hs1 hs3 => ?out, fun h0 hq hl hs => ?back⟩,
    fun c hc => ⟨fun hl ht => ?leaves, fun hl ht => ?loses, fun hs ht => ?reenters⟩, fun hs hw => ?warms, fun hs h7 hl hp => ?recovers⟩
  case again => rw [hout m hm hr, opService, h1, if_pos rfl]
  case out =>
    have hq' : (!(u.wr (chIdx n) 7 1).queuesRun) = false := by
      rw [show (u.wr (chIdx n) 7 1).queuesRun = u.queuesRun from rfl, hq]
      rfl
    have hop : opService n 1 u = (if u.cycling then (u.wr (chIdx n) 7 1).updService n (fun q => { q with leaving := true, asked := u.now })
        else (u.wr (chIdx n) 7 1).leave n, 0) := by
      rw [opService, if_neg (fun h => h1 h.symm), hq', if_neg (by decide), if_pos rfl, if_neg hs3, if_neg hs1]
      rw [show (u.wr (chIdx n) 7 1).cycling = u.cycling from rfl]
      by_cases hc : u.cycling = true
      · rw [if_pos hc, if_pos hc]
        rfl
      · rw [if_neg hc, if_neg hc]
    rw [hout m hm hr, hop]
  case back =>
    have hq' : (!(u.wr (chIdx n) 7 0).queuesRun) = false := by
      rw [show (u.wr (chIdx n) 7 0).queuesRun = u.queuesRun from rfl, hq]
      rfl
    have hl' : ((u.wr (chIdx n) 7 0).svc n).leaving = false := hl
    have hop : opService n 0 u = (((u.wr (chIdx n) 7 0).wr (chIdx n) 8 3).updService n (fun q => { q with returned := u.now, losing := false }), 0) := by
      rw [opService, if_neg (fun h => h0 h.symm), hq', if_neg (by decide), if_neg (by decide), hl', if_neg (by decide), if_pos hs]
      rfl
    rw [hback m hm hr, hop]
  case leaves =>
    have hdue : u.leaveDue n = true := by rw [State.leaveDue, hl, u.cycleSince_running n hc ht]; rfl
    exact (event_at e hdue : execChannelLeavesService dt n s = _)
  case loses =>
    have hdue : u.loseDue n = true := by rw [State.loseDue, hl, u.cycleSince_running n hc ht]; rfl
    exact (event_at e hdue : execChannelSignalLost dt n s = _)
  case reenters =>
    have hdue : u.reenterDue n = true := by rw [State.reenterDue, hs, u.cycleSince_running n hc ht]; rfl
    exact ⟨_, (event_at e hdue : execChannelReentry dt n s = _), u.reenter_spec n⟩
  case warms =>
    have hdue : u.warmDue n = true := by simp [State.warmDue, hs, hw]
    exact (event_at e hdue : execWarmingEnd dt n s = _)
  case recovers =>
    have hdue : (u.status n = 2 && u.rd (chIdx n + 2) 7 = 0 && !(u.svc n).leaving &&
        decide (u.rdN (chIdx n + 2) 8 ≤ (vget u.fe n).passes)) = true := by simp [hs, h7, hl, hp]
    exact (event_at e hdue : execSignalAutoRecovery dt n s = _)

end Sys2Proof
end

section
set_option Elab.async false
namespace Sys2Proof.Machine

/-! ### The black-level loop (R103 to R107) -/

theorem halfUp_zero (k : Nat) : halfUp 0 k = 0 := by
  unfold halfUp
  have hp : (0 : Int) < 2 ^ k := by positivity
  rw [mul_zero, zero_add]
  exact Int.ediv_eq_zero_of_lt (by omega) (by omega)

/-- R103: D moves by one step at most and stays in its range, F stays in its range. -/
theorem loopStep_spec {d : Int} (f b target : Int) (shift : Nat) (h0 : 0 ≤ d) (h1 : d ≤ 1023) : let r := loopStep d f b target shift
    0 ≤ r.1 ∧ r.1 ≤ 1023 ∧ -1024 ≤ r.2.1 ∧ r.2.1 ≤ 1023 ∧ (r.1 = d ∨ r.1 = d - 1 ∨ r.1 = d + 1) ∧
      (r.2.2 = true ↔ (r.1 = 0 ∧ 128 ≤ r.2.1) ∨ (r.1 = 1023 ∧ r.2.1 < -128)) ∧
      (b = 16 * target → -128 ≤ f → f < 128 → r.1 = d ∧ r.2.1 = f) := by
  unfold loopStep limit
  refine ⟨?_, ?_, ?_, ?_, ?_, decide_eq_true_iff, fun hb h2 h3 => ?_⟩
  case refine_6 =>
    rw [hb, sub_self, halfUp_zero, add_zero]
    dsimp only
    split_ifs <;> dsimp only at * <;> omega
  all_goals
    generalize f + halfUp (b - 16 * target) shift = x
    dsimp only
    split_ifs <;> dsimp only at * <;> omega

section
variable (s : State) (n : Fin 64)

theorem State.updFe_fe (f : FrontEnd → FrontEnd) (k : Nat) : vget (s.updFe n f).fe k = if n = k then f (vget s.fe k) else vget s.fe k := by
  show vget (vupd s.fe n f) k = _
  rw [vget_vupd]
  exact if_congr ⟨And.left, fun h => ⟨h, n.isLt⟩⟩ rfl rfl

theorem State.updFe_self (f : FrontEnd → FrontEnd) : vget (s.updFe n f).fe n = f (vget s.fe n) := by rw [State.updFe_fe, if_pos rfl]

/-- R103: the front end after a channel line has joined the result period and its black pixels are told. -/
def State.lineSummed (s : State) (n : Nat) (codes : List Int) (b : Int) (old lost : Bool) : State :=
  (s.updReading n old (fun r => { r with blackDone := true, lost := lost })).loopSum n codes b

theorem State.lineSummed_fe (codes : List Int) (b : Int) (old lost : Bool) :
    (vget (s.lineSummed n codes b old lost).fe n).f = (vget s.fe n).f ∧
      (vget (s.lineSummed n codes b old lost).fe n).written = (vget s.fe n).written := by
  unfold State.lineSummed State.loopSum State.updReading
  rw [State.updFe_self, State.updFe_self]
  cases old <;> exact ⟨rfl, rfl⟩

theorem State.lineSummed_rd (codes : List Int) (b : Int) (old lost : Bool) (i j : Nat) :
    (s.lineSummed n codes b old lost).rd i j = s.rd i j := rfl

theorem State.lineSummed_svc (codes : List Int) (b : Int) (old lost : Bool) (k : Nat) :
    (s.lineSummed n codes b old lost).svc k = s.svc k := rfl

/-- R95: the phases' check leaves the loop alone. -/
theorem State.resetPhase_fe : (vget (s.resetPhase n).fe n).f = (vget s.fe n).f ∧ (vget (s.resetPhase n).fe n).atLimit = (vget s.fe n).atLimit := by
  have hf (t : State) (b : Bool) (h : t.fe = s.fe) : (vget (t.updFe n (fun q => { q with phaseTold := b })).fe n).f = (vget s.fe n).f ∧
      (vget (t.updFe n (fun q => { q with phaseTold := b })).fe n).atLimit = (vget s.fe n).atLimit := by
    rw [State.updFe_self, h]
    exact ⟨rfl, rfl⟩
  have hc (a b c : Nat) (x y : Int) : (s.ownClamp a b c x y).fe = s.fe := (State.ownClamp_keeps (.refl .fe s) rfl _ _ _ _ _).same
  unfold State.resetPhase
  extract_lets d close use
  split
  · exact hf _ true (hc _ _ _ _ _)
  · split
    · exact ⟨rfl, rfl⟩
    · exact hf s false rfl

theorem State.resetPhase_tim : (s.resetPhase n).tim = s.tim := by
  have hc (a b c : Nat) (x y : Int) : (s.ownClamp a b c x y).tim = s.tim := (State.ownClamp_keeps (.refl .tim s) rfl _ _ _ _ _).same
  unfold State.resetPhase
  extract_lets d close use
  split
  · rw [State.updFe_tim, hc]
  · split
    · rfl
    · rfl

/-- R67: a clamp's own entries and sources. -/
def clampEntry (i _ : Nat) : Prop := i = 0x2110 ∨ i = 0x2800 + 832 ∨ i = 0x2800 + 835

theorem Writes.reportClamp {P : Nat → Nat → Prop} {s t : State} (h : Writes P s t) (hp : ∀ i j, clampEntry i j → P i j) (c : ClampRec) :
    Writes P s (t.reportClamp c) := by
  have hb : Writes P s (t.bump 0x2110 1) := h.bump (by decide) (hp _ _ (.inl rfl))
  unfold State.reportClamp
  dsimp only
  refine Writes.raise1 ?_ (fun j => hp _ j (.inr (.inl rfl)))
  split
  · have hl := (hb.bump (n := 1) (by decide) (hp 0x2110 3 (.inl rfl))).raiseIf (c := !((t.bump 0x2110 1).bump 0x2110 3).door.clampLostTold) (d := 0)
      (fun j => hp (0x2800 + 835) j (.inr (.inr rfl)))
    exact hl.eq rfl rfl
  · exact hb.eq rfl rfl

theorem Writes.ownClamp {P : Nat → Nat → Prop} {s t : State} (h : Writes P s t) (hp : ∀ i j, clampEntry i j → P i j) {i j k : Nat} {a b : Int} :
    Writes P s (t.ownClamp i j k a b) := h.reportClamp hp _

theorem Writes.updFe {P : Nat → Nat → Prop} {s t : State} (h : Writes P s t) {n : Nat} {f : FrontEnd → FrontEnd} : Writes P s (t.updFe n f) :=
  h.eq rfl rfl

theorem State.resetPhase_touch : Touch clampEntry s (s.resetPhase n) := by
  unfold State.resetPhase
  extract_lets d close use
  split
  · exact .trans (.reportClamp s _ (fun _ _ h => h)) (.of_dict (State.updFe_dict _ _ _))
  · split
    · exact .refl _ s
    · exact .of_dict (State.updFe_dict _ _ _)

theorem loopTypes : ∀ n : Fin 64, tyAt (chIdx n + 1) 8 = .u16 ∧ tyAt (chIdx n + 4) 3 = .u32 := by decide +kernel

/-- R103: a step of the loop, taken in service with the loop on. -/
theorem State.loopLine_steps {codes : List Int} {b : Int} (hs : s.status n = 0) (h1 : s.rd (chIdx n + 2) 1 = 1) (hlen : 4 ≤ codes.length)
    (hover : codes.any (s.overRange n) = false) (hw : (vget s.fe n).written = false) :
    let k := loopStep (s.rd (chIdx n + 1) 8) (vget s.fe n).f b (s.target n) (s.rdN (chIdx n + 2) 3)
    s.loopLine n codes b false = (s.wr (chIdx n + 1) 8 k.1).updFe n (fun q => { q with f := k.2.1, atLimit := k.2.2 }) := by
  intro k
  rw [State.loopLine, h1, if_neg (by decide), if_neg (by decide), if_neg (not_not.mpr (.inl hs)), if_neg (by rw [hover]; simp; omega), hw]
  rfl

/-- R103: a line whose check fails is counted and moves nothing. -/
theorem State.loopLine_fails {codes : List Int} {b : Int} (hs : s.status n = 0) (h1 : s.rd (chIdx n + 2) 1 = 1) :
    s.loopLine n codes b true = s.bump (chIdx n + 4) 5 := by
  rw [State.loopLine, h1, if_neg (by decide), if_neg (by decide), if_neg (not_not.mpr (.inl hs)), if_pos (by simp)]

/-- R106, R107: a check that fails in service is a signal loss that waits. -/
def State.lossWaits (s : State) (n : Nat) : State :=
  let s := s.updFe n (fun q => { q with passes := 0, failed := true })
  let s := ((s.bump (chIdx n + 4) 3).bump (chIdx n) 0xA).raise1 (4 * n + 3) 0
  s.updService n (fun v => { v with losing := true, asked := s.now })

theorem State.checked_fails (hs : s.status n = 0) : s.checked n true = s.lossWaits n := by
  rw [State.checked, if_pos rfl, if_pos (.inl hs)]
  rfl

theorem State.lossWaits_spec : let t := s.lossWaits n
    t.rd (chIdx n + 1) 8 = s.rd (chIdx n + 1) 8 ∧ t.rd (chIdx n + 4) 3 = (s.rd (chIdx n + 4) 3 + 1) % 2 ^ 32 ∧
      (vget t.fe n).f = (vget s.fe n).f ∧ (t.svc n).losing = true ∧ (t.svc n).asked = s.now ∧ t.Presents (4 * n + 3) := by
  let a := s.updFe n (fun q => { q with passes := 0, failed := true })
  let b := ((a.bump (chIdx n + 4) 3).bump (chIdx n) 0xA).raise1 (4 * n + 3) 0
  have hl : s.lossWaits n = b.updService n (fun v => { v with losing := true, asked := b.now }) := by
    rw [State.lossWaits]
  have hp : b.Presents (4 * n + 3) := State.presents_raise1 _ (4 * n + 3) 0
  have hsvc := (b.svc_updService n (fun v => { v with losing := true, asked := b.now }) n).trans (if_pos rfl)
  have hnow : b.now = s.now := by rw [State.raise1_now, State.bump_now, State.bump_now, State.updFe_now]
  have hfe : b.fe = a.fe := by rw [State.raise1_fe, State.bump_fe, State.bump_fe]
  have hrd {i j : Nat} (hi : i < 0x2800 ∨ 0x2C00 ≤ i) (hj : j < 256) : b.rd i j = ((a.bump (chIdx n + 4) 3).bump (chIdx n) 0xA).rd i j :=
    State.rd_raise _ _ _ hj (by omega)
  clear_value b
  have hch : 0x3000 ≤ chIdx n := by unfold chIdx; omega
  rw [show s.lossWaits n = b.updService n (fun v => { v with losing := true, asked := b.now }) from hl]
  refine ⟨?_, ?_, ?_, congrArg Service.losing hsvc, (congrArg Service.asked hsvc).trans hnow, hp.of_pres rfl⟩
  · refine (hrd (by omega) (by decide)).trans ?_
    rw [State.rd_bump_at _ _ (by decide) (by decide), if_neg (by omega), State.rd_bump_at _ _ (by decide) (by decide), if_neg (by omega)]
    rfl
  · refine (hrd (by omega) (by decide)).trans ?_
    rw [State.rd_bump_at _ _ (by decide) (by decide), if_neg (by omega), State.rd_bump_at _ _ (by decide) (by decide), if_pos ⟨rfl, rfl⟩,
      (loopTypes n).2, Ty.wrap_u32]
    rfl
  · refine (congrArg (fun v => (vget v n).f) hfe).trans ?_
    rw [s.updFe_self n]

/-- A channel's entries are no clamp's. -/
theorem chIdx_not_clamp (n : Fin 64) (k : Nat) (hk : k < 64) (j : Nat) : ¬ clampEntry (chIdx n + k) j := by
  unfold clampEntry chIdx
  omega

theorem State.resetPhase_presents {k : Nat} (h : s.Presents k) : (s.resetPhase n).Presents k := by
  unfold State.resetPhase
  extract_lets d close use
  split
  · exact ((Writes.refl clampEntry s).ownClamp (fun _ _ h => h)).updFe.presents h
  · split <;> exact h

/-- What the black pixels of a line do, their codes within range. -/
theorem execBlackPixelsEnd_due {u : State} {dt : Nat} {codes : List Int} {old : Bool} {r : Reading} (e : s.pass dt = u)
    (hb : u.blackReadout n = some (old, r)) (hl : codes.length = u.blackPx n) (hc : ∀ c ∈ codes, u.codeLow n < c ∧ c < u.codeHigh n) :
    let b := blackMean codes r.f
    let on := u.rd (chIdx n + 2) 5 = 1 ∧ 4 ≤ codes.length
    let fails := on && u.checkFails n codes b
    let t := (u.lineSummed n codes b old (fails && (u.status n = 0 || u.status n = 4))).loopLine n codes b fails
    exec (.blackPixelsEnd dt n codes) s = .next ((if on then t.checked n fails else t).resetPhase n) := by
  have hmap : codes.map (limit (u.codeLow n) (u.codeHigh n)) = codes := by
    refine (List.map_congr_left fun c hm => ?_).trans (List.map_id codes)
    have := hc c hm
    rw [limit, if_neg (by omega), if_neg (by omega), id]
  have hdue : ((u.blackReadout n).isSome && codes.length = u.blackPx n) = true := by rw [hb, decide_eq_true hl]; rfl
  refine (event_at e hdue : execBlackPixelsEnd dt n codes s = _).trans (congrArg _ ?_)
  rw [hb, hmap]
  rfl

end

end Sys2Proof.Machine

namespace Sys2Proof
open Machine

/-- Settles O21: one step of the loop is its arithmetic, and what follows it touches neither D nor F. -/
theorem blackLevelLoop : Obligations.BlackLevelLoop := by
  refine ⟨fun d f b target shift h0 h1 => loopStep_spec f b target shift h0 h1, ?_⟩
  intro s dt n codes old r u hb hl hlen hc
  have e : s.pass dt = u := rfl
  clear_value u
  have hx := execBlackPixelsEnd_due s n e hb hl hc
  obtain ⟨h8, h3⟩ := loopTypes n
  constructor
  · intro hs h1 h5 hwr hd0 hd1 k
    obtain ⟨hk0, hk1, -⟩ : 0 ≤ k.1 ∧ k.1 ≤ 1023 ∧ _ := loopStep_spec (vget u.fe n).f (blackMean codes r.f) (u.target n) (u.rdN (chIdx n + 2) 3) hd0 hd1
    have hover : codes.any (u.overRange n) = false := by
      rw [List.any_eq_false]
      intro c hm
      have := hc c hm
      simp [State.overRange]
      omega
    have hon : ¬ (u.rd (chIdx n + 2) 5 = 1 ∧ 4 ≤ codes.length) := fun h => h5 h.1
    simp only [if_neg hon, decide_eq_false hon, Bool.false_and] at hx
    obtain ⟨hf, hw⟩ := u.lineSummed_fe n codes (blackMean codes r.f) old false
    have hstep := State.loopLine_steps (u.lineSummed n codes (blackMean codes r.f) old false) n (b := blackMean codes r.f) hs h1 hlen hover (hw.trans hwr)
    have hk : loopStep ((u.lineSummed n codes (blackMean codes r.f) old false).rd (chIdx n + 1) 8)
        (vget (u.lineSummed n codes (blackMean codes r.f) old false).fe n).f (blackMean codes r.f)
        ((u.lineSummed n codes (blackMean codes r.f) old false).target n)
        ((u.lineSummed n codes (blackMean codes r.f) old false).rdN (chIdx n + 2) 3) = k := by
      rw [hf]
      simp only [k, State.target, State.codeLow, State.diff, State.rdN, State.lineSummed_rd]
      rfl
    rw [hstep, hk] at hx
    clear_value k
    refine ⟨_, hx, ?_, ?_, ?_⟩
    · rw [State.resetPhase_touch _ n (chIdx n + 1) 8 (by decide) (chIdx_not_clamp n 1 (by decide) 8), State.updFe_rd, State.rd_wr_self _ _ (by decide), h8,
        Ty.wrap_u16]
      exact Int.emod_eq_of_lt hk0 (lt_of_le_of_lt hk1 (by norm_num))
    · rw [(State.resetPhase_fe _ n).1, State.updFe_self]
    · rw [(State.resetPhase_fe _ n).2, State.updFe_self]
  · intro hs h1 h5 hdev
    have hon : u.rd (chIdx n + 2) 5 = 1 ∧ 4 ≤ codes.length := ⟨h5, hlen⟩
    have hfails : u.checkFails n codes (blackMean codes r.f) = true := decide_eq_true (.inl hdev)
    simp only [if_pos hon, decide_eq_true hon, hfails, Bool.true_and] at hx
    obtain ⟨hf, -⟩ := u.lineSummed_fe n codes (blackMean codes r.f) old (u.status n = 0 || u.status n = 4)
    generalize ha : u.lineSummed n codes (blackMean codes r.f) old (u.status n = 0 || u.status n = 4) = a at hx hf
    have hrd (i j : Nat) : a.rd i j = u.rd i j := by rw [← ha, State.lineSummed_rd]
    have hnow : a.now = u.now := by rw [← ha]; rfl
    have hs' : a.status n = 0 := by rw [State.status, State.rdN, hrd]; exact hs
    have hs2 : (a.bump (chIdx n + 4) 5).status n = 0 := by
      rw [State.status, State.rdN, State.rd_bump_at _ _ (by decide) (by decide), if_neg (by omega)]
      exact hs'
    rw [State.loopLine_fails a n hs' ((hrd _ _).trans h1), State.checked_fails _ n hs2] at hx
    obtain ⟨h8', h3', hf', hl', ha', hp⟩ := (a.bump (chIdx n + 4) 5).lossWaits_spec n
    have hbump {i j : Nat} (hj : j < 256) (hne : ¬ (chIdx n + 4 = i ∧ 5 = j)) : (a.bump (chIdx n + 4) 5).rd i j = u.rd i j := by
      rw [State.rd_bump_at _ _ (by decide) hj, if_neg hne, hrd]
    refine ⟨_, hx, ?_, ?_, ?_, ?_, ?_, ?_⟩
    · rw [State.resetPhase_touch _ n (chIdx n + 1) 8 (by decide) (chIdx_not_clamp n 1 (by decide) 8), h8', hbump (by decide) (by omega)]
    · rw [(State.resetPhase_fe _ n).1, hf']
      exact hf
    · rw [State.svc_of_tim (State.resetPhase_tim _ n), hl']
    · rw [State.svc_of_tim (State.resetPhase_tim _ n), ha', ← hnow]
      rfl
    · rw [State.resetPhase_touch _ n (chIdx n + 4) 3 (by decide) (chIdx_not_clamp n 4 (by decide) 3), h3', hbump (by decide) (by omega)]
    · exact State.resetPhase_presents _ n hp

end Sys2Proof
end

section
set_option Elab.async false
namespace Sys2Proof.Machine

/-! ### Channel lines (R222 to R229) -/

section
variable (s : State) (n : Fin 64)

theorem State.updLineQ_lineQ (f : LineQueue → LineQueue) (k : Nat) : (s.updLineQ n f).lineQ k = if n = k then f (s.lineQ k) else s.lineQ k := by
  show vget (vupd s.que.lines n f) k = _
  rw [vget_vupd]
  exact if_congr ⟨And.left, fun h => ⟨h, n.isLt⟩⟩ rfl rfl

theorem State.updLineQ_self (f : LineQueue → LineQueue) : (s.updLineQ n f).lineQ n = f (s.lineQ n) := by rw [State.updLineQ_lineQ, if_pos rfl]

theorem State.lineQ_of_que {s t : State} (h : t.que = s.que) (k : Nat) : t.lineQ k = s.lineQ k := by rw [State.lineQ, h, State.lineQ]

/-- R91: in service, with no departure and no loss that waits, nothing is due. -/
theorem State.settleService_in (hs : s.status n = 0) (hl : (s.svc n).leaving = false) (hg : (s.svc n).losing = false) : s.settleService n = s := by
  rw [State.settleService, State.leaveDue, State.loseDue, State.reenterDue, State.warmDue, hl, hg, hs]
  rfl

/-- R137: the shading entries found bad by a line. -/
def State.parityFound (s : State) (n : Nat) (r : Reading) (bad : List Nat) : State :=
  let es := bad.map (fun i => entryIndex (s.bank r.lane.bank).bytes n r.lane.plane i)
  if r.lane.identity then s
  else s.updBank r.lane.bank (fun b => { b with bad := b.bad ++ es.filter (fun e => !b.bad.contains e) })

theorem State.parityFound_same {p : Part} (r : Reading) (bad : List Nat) (hp : Off p 0x100001000) : p.Same s (s.parityFound n r bad) := by
  unfold State.parityFound
  exact (Keeps.ite (.refl p s) (State.updBank_keeps (.refl p s) (hp.sub (by decide)) _ _)).same

/-- R226: a frame opens: the credit is taken, the reading is framed. -/
def State.frameOpened (s : State) (n : Nat) (line plane need : Nat) : State :=
  let s := s.updReading n false (fun r => { r with framed := true, warming := s.status n = 4, missed := (s.lineQ n).missed })
  (s.updLineQ n (fun q => { q with credit := q.credit + need, missed := 0 })).updExpo (s.groupOf n) line plane
    (fun e => { e with waiting := e.waiting ++ [n] })

/-- R226: an overrun is counted, marked and reported. -/
def State.overrunTold (s : State) (n : Nat) : State := ((s.bump 0x5602 (n + 1)).wrBit 0x5607 1 n true).raise1 (256 + n / 8) 0

/-- R226: a line overruns. -/
def State.lineOverran (s : State) (n : Nat) (line plane : Nat) : State :=
  let s := (s.overrunTold n).updReading n false (fun r => { r with lineDone := true })
  (s.updLineQ n (fun q => { q with missed := q.missed + 1 })).updExpo (s.groupOf n) line plane (fun e => { e with gone := e.gone ++ [n] })

/-- R226: the start of a channel line in service. -/
theorem execChannelLineStart_due {u : State} {dt : Nat} {r : Reading} {line plane : Nat} (e : s.pass dt = u)
    (hd : ((u.group (u.groupOf n)).running.isSome && u.named n && u.trimFree n) = true) (hlive : u.live = true) (hs : u.status n = 0)
    (hl : (u.svc n).leaving = false) (hg : (u.svc n).losing = false) (hc : (vget u.fe n).cur = some r) (hf : r.framed = false)
    (hdone : r.lineDone = false) (hp : r.pix = some (line, plane)) :
    let v := u.parityFound n r []
    exec (.channelLineStart dt n []) s = .next (if v.activePx n + 4 ≤ (v.lineQ n).free then v.frameOpened n line plane (v.activePx n + 4)
      else v.lineOverran n line plane) := by
  refine (event_at e hd : execChannelLineStart dt n [] s = _).trans (congrArg _ ?_)
  have hfil : (some r).filter (fun r => !r.framed && !r.lineDone) = some r := by simp [hf, hdone]
  have hgo : ¬ (!u.live ∨ (u.status n ≠ 0 ∧ u.status n ≠ 4)) := by simp [hlive, hs]
  rw [u.settleService_in n hs hl hg]
  simp only [hc, hfil, hp, if_neg hgo]
  unfold State.parityFound State.frameOpened State.lineOverran State.overrunTold
  rfl

theorem State.updReading_cur (f : Reading → Reading) {r : Reading} (hc : (vget s.fe n).cur = some r) :
    (vget (s.updReading n false f).fe n).cur = some (f r) := by
  rw [State.updReading, State.updFe_self]
  exact congrArg (Option.map f) hc

theorem State.updReading_que (old : Bool) (f : Reading → Reading) : (s.updReading n old f).que = s.que := rfl

theorem State.updReading_ev (old : Bool) (f : Reading → Reading) : (s.updReading n old f).ev = s.ev := rfl

theorem State.updReading_rd (old : Bool) (f : Reading → Reading) (i j : Nat) : (s.updReading n old f).rd i j = s.rd i j := rfl

theorem State.updExpo_que (g l p : Nat) (f : Expo → Expo) : (s.updExpo g l p f).que = s.que := rfl

theorem State.updExpo_fe (g l p : Nat) (f : Expo → Expo) : (s.updExpo g l p f).fe = s.fe := rfl

theorem State.frameOpened_spec {r : Reading} (line plane need : Nat) (hc : (vget s.fe n).cur = some r) (hs : s.status n = 0) :
    let t := s.frameOpened n line plane need
    t.lineQ n = { s.lineQ n with credit := (s.lineQ n).credit + need, missed := 0 } ∧
      (vget t.fe n).cur = some { r with framed := true, warming := false, missed := (s.lineQ n).missed } := by
  unfold State.frameOpened
  extract_lets a
  have hq : a.lineQ n = s.lineQ n := State.lineQ_of_que (s.updReading_que n _ _) n
  have hr := s.updReading_cur n (fun r => { r with framed := true, warming := s.status n = 4, missed := (s.lineQ n).missed }) hc
  have hw : decide (s.status n = 4) = false := by rw [hs]; rfl
  constructor
  · rw [State.lineQ_of_que (State.updExpo_que _ _ _ _ _), State.updLineQ_self, hq]
  · rw [State.updExpo_fe, State.updLineQ_fe]
    refine hr.trans ?_
    rw [hw]

theorem overrunType : ∀ n : Fin 64, tyAt 0x5602 (n + 1) = .u32 := by decide +kernel

theorem State.overrunTold_rd : (s.overrunTold n).rd 0x5602 (n + 1) = (s.rd 0x5602 (n + 1) + 1) % 2 ^ 32 := by
  unfold State.overrunTold State.raise1 State.wrBit
  rw [State.rd_raise _ _ _ (by omega) (by omega), State.rd_wr_at _ _ (by decide) (by omega), if_neg (by omega),
    State.rd_bump_at _ _ (by omega) (by omega), if_pos ⟨rfl, rfl⟩, overrunType, Ty.wrap_u32]
  rfl

theorem State.overrunTold_fe : (s.overrunTold n).fe = s.fe := by
  unfold State.overrunTold
  rw [State.raise1_fe, State.wrBit_fe, State.bump_fe]

theorem State.overrunTold_que : (s.overrunTold n).que = s.que := by
  unfold State.overrunTold
  rw [State.raise1_que, State.wrBit_que, State.bump_que]

theorem State.overrunTold_presents : (s.overrunTold n).Presents (256 + n / 8) := State.presents_raise1 _ (256 + n / 8) 0

theorem State.lineOverran_spec {r : Reading} (line plane : Nat) (hc : (vget s.fe n).cur = some r) :
    let t := s.lineOverran n line plane
    t.lineQ n = { s.lineQ n with missed := (s.lineQ n).missed + 1 } ∧ (vget t.fe n).cur = some { r with lineDone := true } ∧
      t.rd 0x5602 (n + 1) = (s.rd 0x5602 (n + 1) + 1) % 2 ^ 32 ∧ t.Presents (256 + n / 8) := by
  have hfe := s.overrunTold_fe n
  have hque := s.overrunTold_que n
  have hrd := s.overrunTold_rd n
  have hp := s.overrunTold_presents n
  unfold State.lineOverran
  generalize s.overrunTold n = a at hfe hque hrd hp ⊢
  refine ⟨?_, a.updReading_cur n _ (by rw [hfe, hc]), hrd, hp.of_pres rfl⟩
  rw [State.lineQ_of_que (State.updExpo_que _ _ _ _ _), State.updLineQ_self, State.lineQ_of_que (State.updReading_que _ _ _ _),
    State.lineQ_of_que hque]

/-! ### The end of a channel line (R226) -/

/-- R226: a frame that closes appends the record and the words. -/
theorem State.closeFrame_lineQ (rec_ : Nat) (words : List Nat) : (s.closeFrame n rec_ words).lineQ n = { s.lineQ n with
    w := ((s.lineQ n).w + (words.length + 4)) % 65536
    words := (s.lineQ n).words ++ ((List.range 4).map (fun k => rec_ / 2 ^ (16 * k) % 65536) ++ words)
    credit := (s.lineQ n).credit - (words.length + 4) } := by
  have hm (t : State) (b : Nat) : (t.countMoved n b).que = t.que := (State.countMoved_keeps (.refl .que t) rfl n b).same
  unfold State.closeFrame
  rw [State.lineQ_of_que (hm _ _), State.updLineQ_self]
  simp only [List.length_append, List.length_map, List.length_range, Nat.add_comm 4]

theorem State.byPixel_length {α : Type} (l : List α) : (s.byPixel n l).length = l.length := by
  unfold State.byPixel
  split
  · exact List.length_reverse
  · rfl

/-- R114, R226: the lane closes the frame of its line with as many words as samples. -/
theorem State.laneLine_lineQ (r : Reading) (xs : List Int) (beyond line plane : Nat) : ∃ rec_ words : List Nat, rec_.length = 4 ∧
    words.length = xs.length ∧ (s.laneLine n r xs beyond line plane).lineQ n = { s.lineQ n with
      w := ((s.lineQ n).w + (xs.length + 4)) % 65536
      words := (s.lineQ n).words ++ (rec_ ++ words)
      credit := (s.lineQ n).credit - (xs.length + 4) } := by
  unfold State.laneLine
  extract_lets l raw px out poisoned a b c w
  have hlen : (c.byPixel n (out.map (fun p => p.1 + if p.2 then 65536 else 0))).length = xs.length := by
    rw [State.byPixel_length, List.length_map, List.length_map, List.length_range, List.length_map, List.length_mapIdx]
  have ha : a.que = s.que := (State.countParity_keeps (.refl .que s) rfl n _).same
  have hb : b.que = a.que := by rw [State.bump_que, State.bump_que, State.bump_que]
  have hc : c.que = b.que := by
    dsimp only [c]
    split
    · exact State.bump_que _ _ _ _
    · rfl
  refine ⟨(List.range 4).map (fun k => w / 2 ^ (16 * k) % 65536), c.byPixel n (out.map (fun p => p.1 + if p.2 then 65536 else 0)), ?_, hlen, ?_⟩
  · rw [List.length_map, List.length_range]
  · rw [State.closeFrame_lineQ, hlen, State.lineQ_of_que (hc.trans (hb.trans ha))]

/-- What a channel line's end makes of the counters, before the lane (R102). -/
def State.overCounted (s : State) (n beyond : Nat) : State := (s.countOver n beyond).updFe n (fun q => { q with beyond := q.beyond + beyond })

theorem State.overCounted_que (beyond : Nat) : (s.overCounted n beyond).que = s.que := by
  rw [State.overCounted, State.updFe_que]
  exact (State.countOver_keeps (.refl .que s) rfl n beyond).same

/-- R226: a line with an open frame goes through the lane. -/
theorem execChannelLineEnd_framed {u : State} {dt : Nat} {codes : List Int} {old : Bool} {r : Reading} {line plane : Nat} (e : s.pass dt = u)
    (hr : u.lineReadout n = some (old, r)) (hl : codes.length = u.activePx n) (hp : r.pix = some (line, plane)) (hf : r.framed = true) :
    ∃ xs beyond, xs.length = codes.length ∧ exec (.channelLineEnd dt n codes) s =
      .next (((u.updReading n old (fun r => { r with lineDone := true })).overCounted n beyond).laneLine n r xs beyond line plane) := by
  have hdue : ((u.lineReadout n).isSome && codes.length = u.activePx n) = true := by rw [hr, decide_eq_true hl]; rfl
  let v := u.updReading n old (fun r => { r with lineDone := true })
  let inRange := v.byPixel n (codes.map (limit (v.codeLow n) (v.codeHigh n)))
  refine ⟨inRange.map (fun c => laneX (v.right n) (v.word n r.f c)),
    ((List.range inRange.length).filter (fun i => v.overRange n (inRange.getD i 0))).length, ?_,
    (event_at e hdue : execChannelLineEnd dt n codes s = _).trans (congrArg _ ?_)⟩
  · rw [List.length_map, State.byPixel_length, List.length_map]
  · simp only [hr, hp, hf, if_true]
    rfl

theorem execChannelLineEnd_blind {u : State} {dt : Nat} {codes : List Int} {old : Bool} {r : Reading} (e : s.pass dt = u)
    (hr : u.lineReadout n = some (old, r)) (hl : codes.length = u.activePx n) (hp : r.pix = none) :
    exec (.channelLineEnd dt n codes) s = .next (u.updReading n old (fun r => { r with lineDone := true })) := by
  have hdue : ((u.lineReadout n).isSome && codes.length = u.activePx n) = true := by rw [hr, decide_eq_true hl]; rfl
  refine (event_at e hdue : execChannelLineEnd dt n codes s = _).trans (congrArg _ ?_)
  simp only [hr, hp]

/-! ### Results (R63, R109) -/

theorem resultType : ∀ n : Fin 64, tyAt (chIdx n + 3) 1 = .u32 := by decide +kernel

theorem nextResult_lt (v : Nat) : nextResult v < 2 ^ 24 := by
  unfold nextResult
  split
  · decide
  · omega

/-- R63: a published result has the next number. -/
theorem State.publish_next (s : State) {idx : Nat} (ht : tyAt idx 1 = .u32) (flags : Nat) {vals : List Int} (hv : vals.length < 100) :
    (s.publish idx flags vals).rdN idx 1 % 2 ^ 24 = nextResult (s.rdN idx 1) := by
  have hlt := nextResult_lt (s.rdN idx 1)
  have hw : Touch (fun i j => 2 ≤ j) (s.wr idx 1 (flags * 2 ^ 24 + nextResult (s.rdN idx 1)))
      ((s.wr idx 1 (flags * 2 ^ 24 + nextResult (s.rdN idx 1))).wrAll idx 2 vals) :=
    .wrAll (fun k _ => by omega) (by omega) _
  have hr : (s.publish idx flags vals).rd idx 1 = ((flags * 2 ^ 24 + nextResult (s.rdN idx 1) : Nat) : Int) % 2 ^ 32 := by
    refine (hw idx 1 (by decide) (fun h : 2 ≤ 1 => absurd h (by decide))).trans ?_
    rw [State.rd_wr_self _ _ (by decide), ht, Ty.wrap_u32]
    push_cast
    rfl
  rw [State.rdN, hr]
  omega

/-- R63: a published result has the next number and is fresh for every master. -/
theorem State.publish_spec (flags : Nat) {vals : List Int} (hv : vals.length < 100) : let t := s.publish (chIdx n + 3) flags vals
    t.rdN (chIdx n + 3) 1 % 2 ^ 24 = nextResult (s.rdN (chIdx n + 3) 1) ∧ ∀ m : Fin 17, t.isFresh m (chIdx n + 3) = true := by
  constructor
  · exact s.publish_next (resultType n) flags hv
  · intro m
    unfold State.isFresh State.publish
    rw [Store.find_put, if_pos rfl]
    revert m
    decide

/-- R109: the end of a result period publishes five values and begins the next one. -/
theorem execBlackLevelResult_due {u : State} {dt : Nat} (e : s.pass dt = u)
    (hd : (u.status n ≠ 1 && decide (u.rdN (chIdx n + 2) 9 ≤ (vget u.fe n).lines)) = true) :
    ∃ (flags : Nat) (vals : List Int), vals.length = 5 ∧ exec (.blackLevelResult dt n) s = .next
      ((u.publish (chIdx n + 3) flags vals).updFe n
        (fun q => { q with lines := 0, sumB := 0, sumSq := 0, beyond := 0, failed := false, idle := false })) :=
  ⟨_, [_, _, _, _, _], rfl, (event_at e hd : execBlackLevelResult dt n s = _)⟩

end

end Sys2Proof.Machine

namespace Sys2Proof
open Machine

/-- Settles O22: the queue of a channel moves by the frame that opens, overruns or closes. -/
theorem channelLines : Obligations.ChannelLines := by
  intro s dt n u
  have e : s.pass dt = u := rfl
  clear_value u
  refine ⟨fun r line plane hrun hn ht hl hs hlv hls hc hf hd hp => ?start, fun codes old r hr hlen hp => execChannelLineEnd_blind s n e hr hlen hp,
    fun codes old r line plane hr hlen hp hf => ?close, fun hs hl => ?result⟩
  case start =>
    have hdue : ((u.group (u.groupOf n)).running.isSome && u.named n && u.trimFree n) = true := by rw [hrun, hn, ht]; rfl
    have hx := execChannelLineStart_due s n e hdue hl hs hlv hls hc hf hd hp
    have hdict : (u.parityFound n r []).dict = u.dict := u.parityFound_same (p := .dict) n r [] rfl
    have hfe : (u.parityFound n r []).fe = u.fe := u.parityFound_same (p := .fe) n r [] rfl
    have hque : (u.parityFound n r []).que = u.que := u.parityFound_same (p := .que) n r [] rfl
    have hev : (u.parityFound n r []).ev = u.ev := u.parityFound_same (p := .ev) n r [] rfl
    generalize u.parityFound n r [] = v at hx hdict hfe hque hev
    have hrd (i j : Nat) : v.rd i j = u.rd i j := State.rd_congr hdict i j
    have hq : v.lineQ n = u.lineQ n := State.lineQ_of_que hque n
    have ha : v.activePx n = u.activePx n := by rw [State.activePx, State.rdN, hrd]; rfl
    have hst : v.status n = 0 := by rw [State.status, State.rdN, hrd]; exact hs
    simp only [ha, hq] at hx
    constructor
    · intro hroom
      obtain ⟨h1, h2⟩ := v.frameOpened_spec n line plane (u.activePx n + 4) (by rw [hfe, hc]) hst
      rw [if_pos hroom] at hx
      exact ⟨_, hx, by rw [h1, hq], by rw [h2, hq]⟩
    · intro hroom
      obtain ⟨h1, h2, h3, h4⟩ := v.lineOverran_spec n line plane (by rw [hfe, hc])
      rw [if_neg (by omega)] at hx
      exact ⟨_, hx, by rw [h1, hq], h2, by rw [h3, hrd], h4⟩
  case close =>
    obtain ⟨xs, beyond, hxs, hx⟩ := execChannelLineEnd_framed s n e hr hlen hp hf
    obtain ⟨rec_, words, h4, hw, hq⟩ := State.laneLine_lineQ ((u.updReading n old (fun r => { r with lineDone := true })).overCounted n beyond)
      n r xs beyond line plane
    have hlq : ((u.updReading n old (fun r => { r with lineDone := true })).overCounted n beyond).lineQ n = u.lineQ n :=
      State.lineQ_of_que ((State.overCounted_que _ n beyond).trans (u.updReading_que n old _)) n
    rw [hlq, hxs, hlen] at hq
    exact ⟨_, rec_, words, hx, h4, by rw [hw, hxs, hlen], hq⟩
  case result =>
    have hdue : (u.status n ≠ 1 && decide (u.rdN (chIdx n + 2) 9 ≤ (vget u.fe n).lines)) = true := by simp [hs, hl]
    obtain ⟨flags, vals, hv, hx⟩ := execBlackLevelResult_due s n e hdue
    obtain ⟨h1, h2⟩ := u.publish_spec n flags (vals := vals) (by omega)
    generalize u.publish (chIdx n + 3) flags vals = p at hx h1 h2
    refine ⟨_, hx, ?_, h2, ?_, ?_⟩
    · rw [State.updFe_rdN]
      exact h1
    · rw [State.updFe_self]
    · rw [State.updFe_self]

end Sys2Proof
end
section
/-! ## The shading arithmetic (R114, R115, R133, R146) -/
set_option Elab.async false
namespace Sys2Proof.Machine

/-- A quotient rounded with ties up: `2·d·q` is at most `2·a + d` and within `2·d` of it. -/
theorem roundUp_bounds (a d : Nat) (hd : 0 < d) :
    2 * d * ((2 * a + d) / (2 * d)) ≤ 2 * a + d ∧ 2 * a + d < 2 * d * ((2 * a + d) / (2 * d) + 1) :=
  ⟨Nat.mul_div_le _ _, Nat.lt_mul_div_succ _ (by omega)⟩

theorem laneClamp_le (y : Int) : laneClamp y ≤ 65535 := by
  unfold laneClamp limit
  split_ifs <;> omega

theorem laneClamp_of_nonpos {y : Int} (h : y ≤ 0) : laneClamp y = 0 := by
  unfold laneClamp limit
  split_ifs <;> omega

theorem laneClamp_of_range {y : Int} (h0 : 0 ≤ y) (h1 : y ≤ 65535) : (laneClamp y : Int) = y := by
  unfold laneClamp limit
  split_ifs <;> omega

/-- R114: y is (x − dark) · gain · m / 2³⁶, rounded with halves up. -/
theorem laneY_bounds (x dark gain m : Int) :
    2 ^ 36 * laneY x dark gain m ≤ (x - dark) * gain * m + 2 ^ 35 ∧
    (x - dark) * gain * m + 2 ^ 35 < 2 ^ 36 * (laneY x dark gain m + 1) := by
  unfold laneY
  generalize (x - dark) * gain * m = q
  omega

/-- R128: the identity entry at scale 1.0 leaves a sample as it is. -/
theorem laneY_identity (x : Int) : laneY x (eDark identityEntry) (eGain identityEntry) (laneMult 0 none 0x1000) = x := by
  have hd : eDark identityEntry = 0 := by decide +kernel
  have hg : eGain identityEntry = 2 ^ 14 := by decide +kernel
  have hm : laneMult 0 none 0x1000 = 2 ^ 22 := by decide +kernel
  rw [hd, hg, hm]
  unfold laneY
  omega

theorem laneMult_lt (coeff : Int) (dT : Option Int) (scale : Nat) : laneMult coeff dT scale < 2 ^ 26 :=
  (Nat.min_le_right _ _).trans_lt (by decide)

/-- R151: a gain is m · 2¹⁴ / w, rounded with ties up. -/
theorem blendGain_eq (m : Nat) {w : Nat} (hw : 0 < w) : blendGain m w = (2 * (m * 2 ^ 14) + w) / (2 * w) := by
  have hnot : ¬ ((w : Int) < 1) := by omega
  rw [blendGain, if_neg hnot, Int.toNat_natCast, ← Nat.mul_assoc]

theorem scaleFor_eq (target : Nat) {m : Nat} (hm : 0 < m) :
    (scaleFor target m : Int) = limit 1 0xFFFF (((2 * (target * 2 ^ 12) + m) / (2 * m) : Nat) : Int) := by
  rw [scaleFor, if_neg hm.ne', ← Nat.mul_assoc]
  refine Int.toNat_of_nonneg ?_
  unfold limit
  split_ifs <;> omega

theorem limit_inside {lo hi x : Int} (h0 : lo < limit lo hi x) (h1 : limit lo hi x < hi) : limit lo hi x = x := by
  unfold limit at *
  split_ifs at * <;> omega

theorem limit_bounds {lo hi : Int} (h : lo ≤ hi) (x : Int) : lo ≤ limit lo hi x ∧ limit lo hi x ≤ hi := by
  unfold limit
  split_ifs <;> omega

/-- R133: a plane scale strictly inside its range is the rounded quotient. -/
theorem scaleFor_inside {target m : Nat} (hm : 0 < m) (h0 : 1 < scaleFor target m) (h1 : scaleFor target m < 0xFFFF) :
    scaleFor target m = (2 * (target * 2 ^ 12) + m) / (2 * m) := by
  have e := scaleFor_eq target hm
  have e' := limit_inside (lo := 1) (hi := 0xFFFF) (x := (((2 * (target * 2 ^ 12) + m) / (2 * m) : Nat) : Int))
    (by omega) (by omega)
  exact Int.ofNat_inj.mp (e.trans e')

theorem scaleFor_range (target : Nat) {m : Nat} (hm : 0 < m) : 1 ≤ scaleFor target m ∧ scaleFor target m ≤ 0xFFFF := by
  have e := scaleFor_eq target hm
  have b := limit_bounds (lo := 1) (hi := 0xFFFF) (by decide) (((2 * (target * 2 ^ 12) + m) / (2 * m) : Nat) : Int)
  omega

theorem importResp_le (target gain scale : Nat) : importResp target gain scale ≤ 65535 := by
  unfold importResp
  dsimp only
  split_ifs
  · exact le_rfl
  · exact Nat.min_le_left _ _

/-- R146: a response below the limit is the rounded quotient. -/
theorem importResp_inside {target gain scale : Nat} (hd : 0 < gain * scale) (h : importResp target gain scale < 65535) :
    importResp target gain scale = (2 * (target * 2 ^ 26) + gain * scale) / (2 * (gain * scale)) := by
  have e : importResp target gain scale = min 65535 ((2 * (target * 2 ^ 26) + gain * scale) / (2 * (gain * scale))) := by
    simp only [importResp, if_neg hd.ne', ← Nat.mul_assoc]
  rw [e] at h ⊢
  exact min_eq_right (by omega)

end Sys2Proof.Machine
namespace Sys2Proof
open Machine

/-- Settles O23: each quotient with its rounding bounds, the clamps by cases. -/
theorem shadingArithmetic : Obligations.ShadingArithmetic := by
  unfold Obligations.ShadingArithmetic
  refine ⟨fun x dark gain m => ⟨laneClamp_le _, laneClamp_of_nonpos, laneClamp_of_range⟩, laneY_bounds, laneY_identity,
    laneMult_lt, fun m w hw => ?gain, fun target m hm => ⟨(scaleFor_range target hm).1, (scaleFor_range target hm).2, fun h0 h1 => ?scale⟩,
    fun target gain scale => ⟨importResp_le _ _ _, fun hd h => ?response⟩⟩
  case gain =>
    rw [blendGain_eq m hw, Nat.mul_assoc 2 m]
    exact roundUp_bounds (m * 2 ^ 14) w hw
  case scale =>
    rw [scaleFor_inside hm h0 h1, Nat.mul_assoc 2 target]
    exact roundUp_bounds (target * 2 ^ 12) m hm
  case response =>
    rw [importResp_inside hd h, Nat.mul_assoc 2 target]
    exact roundUp_bounds (target * 2 ^ 26) (gain * scale) hd

end Sys2Proof
end
section
/-! ## The copy of a bank whose state entry is out of its type (R131) -/
set_option Elab.async false
namespace Sys2Proof.Machine

/-- A copy under way, with a value at the active bank's state, 0x4000:04, that its 8 bits do not hold. -/
def overfullCopy : State :=
  { State.reset with dict := [(key 0x4000 4, 256)], sh := { State.reset.sh with copying := true } }

theorem overfullCopy_rd : (overfullCopy.pass 0).activeBank = 0 ∧ (overfullCopy.pass 0).bankState 0 = 256 := by
  decide +kernel

/-- The end of the copy writes the state into the shadow's own 8 bits, which then read 0. -/
theorem bankState_copied (s : State) (v : Nat) : (s.setBank 1 v 0).bankState 1 = v % 2 ^ 8 := by
  have ht : tyAt 0x4000 5 = .u8 := by decide +kernel
  rw [State.bankState, State.rdN, State.setBank, State.rd_wr_at _ _ (by decide) (by decide), if_neg (by decide),
    State.rd_wr_self _ _ (by decide), ht, Ty.wrap_u8]
  omega

/-- R131: the end of a copy. -/
def State.copyEnded (s : State) : State :=
  let a := s.activeBank
  let b := s.shadow
  let s := { s with sh := { s.sh with copying := false } }
  if s.bankState a = 0 then (s.setBank b 0 0).updBank b (fun _ => default)
  else (s.setBank b (s.bankState a) 0).updBank b (fun _ => { s.bank a with bytes := copyContent (s.bank a).bytes })

theorem exec_copyComplete {s : State} {dt : Nat} (h : (s.pass dt).sh.copying = true) :
    exec (.copyComplete dt) s = .next (s.pass dt).copyEnded := (event_due h : execCopyComplete dt s = _)

theorem copyEnded_bankState {s : State} (ha : s.activeBank = 0) (hs : s.bankState 0 ≠ 0) :
    s.copyEnded.bankState 1 = s.bankState 0 % 2 ^ 8 := by
  have hshadow : s.shadow = 1 := by rw [State.shadow, ha]
  unfold State.copyEnded
  rw [ha, hshadow]
  exact (congrArg (State.bankState · 1) (if_neg hs)).trans (bankState_copied { s with sh := { s.sh with copying := false } } _)

end Sys2Proof.Machine
namespace Sys2Proof
open Machine

/-- Refutes O24: the statement ranges over states whose store is not sound. In `overfullCopy` the active bank's state reads 256, and
after the copy the shadow's, an 8-bit entry, reads 0. -/
theorem not_shadingBanks : ¬ Obligations.ShadingBanks := by
  unfold Obligations.ShadingBanks
  intro h
  obtain ⟨hactive, hstate⟩ := overfullCopy_rd
  obtain ⟨-, -, -, -, hcopy, -⟩ := h overfullCopy 0 0
  obtain ⟨t, ht, -, -, hcopied, -⟩ := hcopy rfl (hactive.trans_le (by decide))
  have hshadow : (overfullCopy.pass 0).shadow = 1 := by rw [State.shadow, hactive]
  rw [hactive, hstate, hshadow] at hcopied
  have hexec : exec (.copyComplete 0) overfullCopy = .next (overfullCopy.pass 0).copyEnded :=
    exec_copyComplete rfl
  obtain rfl := Host.Outcome.next.inj (hexec.symm.trans ht)
  rw [copyEnded_bankState hactive (by rw [hstate]; decide), hstate] at hcopied
  exact absurd hcopied (by decide)

end Sys2Proof
end
section
/-! ## The shading capture (R132 to R136) -/
set_option Elab.async false
namespace Sys2Proof.Machine

/-! ### Clocks and groups of a procedure -/

/-- The entries that setting the groups' clocks writes (R73). -/
def clockEntry (i j : Nat) : Prop := (0x2040 ≤ i ∧ i < 0x2050) ∨ clampEntry i j

section
variable {P : Nat → Nat → Prop} {s t : State}

theorem Writes.setClock (h : Writes P s t) (hp : ∀ i j, clockEntry i j → P i j) {g : Nat} (hg : g < 16) (e : Nat) :
    Writes P s (t.setClock g e) := by
  have hr (j : Nat) : P (0x2040 + g) j := hp _ j (.inl ⟨by omega, by omega⟩)
  unfold State.setClock
  extract_lets k dem a
  have ha : Writes P s a := .ite ((h.ownClamp (fun i j hc => hp i j (.inr hc))).wr (by decide) (hr 2)) h
  exact (ha.updGroup (g := g)).wr (by decide) (hr 3)

theorem Writes.setClocks (h : Writes P s t) (hp : ∀ i j, clockEntry i j → P i j) (e : Nat) : Writes P s (t.setClocks e) :=
  h.each (fun g hg _ h => (h.setClock hp hg e).wr (by decide) (hp _ _ (.inl ⟨by omega, by omega⟩)))

theorem Writes.resetGroups (h : Writes P s t) (prime : Bool) : Writes P s (t.resetGroups prime) := by
  have hd : (t.resetGroups prime).dict = t.dict := (State.resetGroups_keeps (.refl .dict t) rfl prime).same
  have he : (t.resetGroups prime).ev = t.ev := (State.resetGroups_keeps (.refl .ev t) rfl prime).same
  exact h.eq hd (congrArg _ he)

theorem Writes.captureGroups (h : Writes P s t) (r : Nat) : Writes P s (t.captureGroups r) := by
  have hd : (t.captureGroups r).dict = t.dict := (State.captureGroups_keeps (.refl .dict t) rfl r).same
  have he : (t.captureGroups r).ev = t.ev := (State.captureGroups_keeps (.refl .ev t) rfl r).same
  exact h.eq hd (congrArg _ he)

theorem Writes.captureRate (h : Writes P s t) (hp : ∀ i j, clampEntry i j → P i j) (p : Nat) : Writes P s (t.captureRate p).1 := by
  unfold State.captureRate
  dsimp only
  split_ifs
  · exact h
  · exact h.ownClamp hp
  · exact h

end

section
variable (s : State)

theorem State.resetGroups_sh (prime : Bool) : (s.resetGroups prime).sh = { s.sh with change := none } := by
  unfold State.resetGroups
  extract_lets a
  have ha : a.sh = s.sh := (Keeps.each (.refl .sh s) (fun _ _ h => State.updGroup_keeps h rfl _ _)).same
  clear_value a
  show ({ a.sh with change := none } : ShadeSt) = _
  rw [ha]

/-! ### The end of a procedure -/

/-- R132: the state of a procedure that is over, before the groups' clocks are set back. -/
def State.procedureOff (s : State) (begun : Nat) : State :=
  let s := { s with sh := { s.sh with capture := none } }
  let s := { s with rcp := { s.rcp with measure := none } }
  let s := { s with can := { s.can with lampAsked := false, lamp := false } }
  { s with dev := { s.dev with standbySince := s.dev.standbySince + (s.now - begun) } }

theorem State.captureOver_eq (begun : Nat) :
    s.captureOver begun = ((s.procedureOff begun).resetGroups false).setClocks (s.procedureOff begun).eMax := by
  dsimp only [State.captureOver, State.procedureOff]

theorem Writes.captureOver {P : Nat → Nat → Prop} {s t : State} (h : Writes P s t) (hp : ∀ i j, clockEntry i j → P i j) (begun : Nat) :
    Writes P s (t.captureOver begun) := by
  rw [State.captureOver_eq]
  exact ((h.eq (u := t.procedureOff begun) rfl rfl).resetGroups false).setClocks hp _

theorem State.captureOver_sh (begun : Nat) : (s.captureOver begun).sh = { s.sh with capture := none, change := none } := by
  rw [State.captureOver_eq]
  have hc : (((s.procedureOff begun).resetGroups false).setClocks (s.procedureOff begun).eMax).sh = ((s.procedureOff begun).resetGroups false).sh :=
    (State.setClocks_keeps (.refl .sh _) rfl _).same
  rw [hc, State.resetGroups_sh]
  rfl

theorem State.captureOver_can (begun : Nat) : (s.captureOver begun).can = { s.can with lampAsked := false, lamp := false } := by
  rw [State.captureOver_eq]
  exact (State.setClocks_keeps (State.resetGroups_keeps (.refl .can (s.procedureOff begun)) rfl false) rfl _).same

theorem State.captureOver_rcp (begun : Nat) : (s.captureOver begun).rcp = { s.rcp with measure := none } := by
  rw [State.captureOver_eq]
  exact (State.setClocks_keeps (State.resetGroups_keeps (.refl .rcp (s.procedureOff begun)) rfl false) rfl _).same

end

/-- What the end of a capture, and nothing else of it, writes after its status and the bank. -/
def overEntry (i j : Nat) : Prop := clockEntry i j ∨ (0x2800 ≤ i ∧ i < 0x2C00)

theorem clockEntry_iff (i j : Nat) : clockEntry i j ↔ (0x2040 ≤ i ∧ i < 0x2050) ∨ i = 0x2110 ∨ i = 0x2B40 ∨ i = 0x2B43 := Iff.rfl

theorem captureTypes : tyAt 0x4030 3 = .u8 ∧ tyAt 0x4030 0xF = .u32 ∧
    ∀ b : Fin 2, tyAt 0x4000 (4 + b) = .u8 ∧ tyAt 0x4000 (6 + b) = .u8 := by decide +kernel

section
variable (s : State)

theorem State.shadow_lt : s.shadow < 2 := by
  unfold State.shadow
  omega

/-- A bank's state and holder read as they were set. -/
theorem State.setBank_spec {b st holder : Nat} (hb : b < 2) (hst : st < 256) (hh : holder < 256) :
    (s.setBank b st holder).bankState b = st ∧ (s.setBank b st holder).bankHolder b = holder := by
  obtain ⟨h4, h6⟩ := captureTypes.2.2 ⟨b, hb⟩
  dsimp only at h4 h6
  constructor
  · rw [State.bankState, State.rdN, State.setBank, State.rd_wr_at _ _ (by omega) (by omega), if_neg (by omega),
      State.rd_wr_self _ _ (by omega), h4, Ty.wrap_u8]
    omega
  · rw [State.bankHolder, State.rdN, State.setBank, State.rd_wr_self _ _ (by omega), h6, Ty.wrap_u8]
    omega

theorem State.setBank_rd {b st holder i j : Nat} (hb : b < 2) (hj : j < 256) (h : ¬ (i = 0x4000 ∧ (j = 4 + b ∨ j = 6 + b))) :
    (s.setBank b st holder).rd i j = s.rd i j := by
  rw [State.setBank, State.rd_wr_at _ _ (by omega) hj, if_neg (by omega), State.rd_wr_at _ _ (by omega) hj, if_neg (by omega)]

/-- R134: the status and the bank at a capture's end. -/
def State.endShown (s : State) (status bank : Nat) : State := (s.wr 0x4030 3 status).setBank s.shadow bank 0

theorem State.captureEnd_writes (c : Capture) (status b : Nat) : Writes overEntry (s.endShown status b) (s.captureEnd c status b) := by
  refine Writes.raise1 (.captureOver (.refl _ _) (fun _ _ h => .inl h) _) (fun _ => .inr ?_)
  split <;> omega

theorem State.captureEnd_sh (c : Capture) (status b : Nat) :
    (s.captureEnd c status b).sh = { s.sh with capture := none, change := none } := by
  have hr (t : State) (k : Nat) : (t.raise1 k 0).sh = t.sh := (State.raise1_keeps (.refl .sh t) rfl k 0).same
  have hs : (s.endShown status b).sh = s.sh := (State.setBank_keeps (.wr (.refl .sh s) rfl 0x4030 3 status) rfl _ _ _).same
  unfold State.captureEnd
  rw [hr, State.captureOver_sh]
  exact congrArg (fun h : ShadeSt => ({ h with capture := none, change := none } : ShadeSt)) hs

theorem State.captureEnd_can (c : Capture) (status b : Nat) :
    (s.captureEnd c status b).can = { s.can with lampAsked := false, lamp := false } := by
  have hr (t : State) (k : Nat) : (t.raise1 k 0).can = t.can := (State.raise1_keeps (.refl .can t) rfl k 0).same
  have hs : (s.endShown status b).can = s.can := (State.setBank_keeps (.wr (.refl .can s) rfl 0x4030 3 status) rfl _ _ _).same
  unfold State.captureEnd
  rw [hr, State.captureOver_can]
  exact congrArg (fun h : CanteenSt => ({ h with lampAsked := false, lamp := false } : CanteenSt)) hs

/-- R134: what a capture that ends leaves. -/
theorem State.captureEnd_spec (c : Capture) {status b : Nat} (hb : b < 256) (hs : status < 256) : let t := s.captureEnd c status b
    t.rd 0x4030 3 = status ∧ t.bankState s.shadow = b ∧ t.bankHolder s.shadow = 0 ∧ t.activeBank = s.activeBank ∧
      t.Presents (if b = 2 then 840 else 841) := by
  intro t
  have hw := s.captureEnd_writes c status b
  have hlt := s.shadow_lt
  have hrd {i j : Nat} (hj : j < 256) (hi : i = 0x4030 ∨ i = 0x4000) : t.rd i j = (s.endShown status b).rd i j :=
    hw.rd hj (by unfold overEntry; rw [clockEntry_iff]; omega)
  obtain ⟨hst, hho⟩ := State.setBank_spec (s.wr 0x4030 3 status) (b := s.shadow) (holder := 0) hlt hb (by decide)
  refine ⟨?_, ?_, ?_, ?_, ?_⟩
  · rw [hrd (by decide) (.inl rfl), State.endShown, State.setBank_rd _ hlt (by decide) (by omega), State.rd_wr_self _ _ (by decide),
      captureTypes.1, Ty.wrap_u8]
    omega
  · rw [State.bankState, State.rdN, hrd (by omega) (.inr rfl)]
    exact hst
  · rw [State.bankHolder, State.rdN, hrd (by omega) (.inr rfl)]
    exact hho
  · rw [State.activeBank, State.rdN, hrd (by decide) (.inr rfl), State.endShown, State.setBank_rd _ hlt (by decide) (by omega),
      State.rd_wr_at _ _ (by decide) (by decide), if_neg (by omega)]
    rfl
  · exact State.presents_raise1 _ _ 0

end

/-! ### Line cycles (R132) -/

/-- R83, R87: what a trigger does with a group that it reaches. -/
def Group.reached (q : Group) (t : Trig) : Group :=
  if q.running.isNone && q.due.isNone && !q.priming then { q with due := some t }
  else if q.latch.isNone then { q with latch := some t }
  else { q with dropBefore := true }

/-- The entries in which a trigger is counted, as latched or as dropped. -/
def deliverEntry (i j : Nat) : Prop :=
  (0x2040 ≤ i ∧ i < 0x2050 ∧ (j = 0x11 ∨ j = 0x12)) ∨ (0x2800 ≤ i ∧ i < 0x2C00) ∨ (0x3000 ≤ i ∧ i < 0x4000 ∧ j = 9)

section
variable (s : State)

theorem Writes.dropTold {P : Nat → Nat → Prop} {s t : State} (h : Writes P s t) (hp : ∀ i j, deliverEntry i j → P i j) {g : Nat} (hg : g < 16) :
    Writes P s (t.dropTold g) := by
  have ht : Writes P s ((t.bump (0x2040 + g) 0x12).raise1 (896 + g) 0) :=
    (h.bump (by decide) (hp _ _ (.inl ⟨by omega, by omega, .inr rfl⟩))).raise1 (fun j => hp _ _ (.inr (.inl ⟨by omega, by omega⟩)))
  refine ht.eachOf (fun n hn _ h => ?_)
  have hlt : n < 64 := by
    unfold State.channelsOf at hn
    exact List.mem_range.mp (List.mem_filter.mp hn).1
  refine (h.bump (by decide) (hp _ _ (.inr (.inr ⟨?_, ?_, rfl⟩)))).raise1 (fun j => hp _ _ (.inr (.inl ⟨by omega, by omega⟩))) <;>
    (unfold chIdx; omega)

theorem Writes.deliver {P : Nat → Nat → Prop} {s t : State} (h : Writes P s t) (hp : ∀ i j, deliverEntry i j → P i j) {g : Nat} (hg : g < 16)
    (x : Trig) : Writes P s (t.deliver g x) := by
  unfold State.deliver
  dsimp only
  refine .ite h.updGroup (.ite (h.updGroup.bump (by decide) (hp _ _ (.inl ⟨by omega, by omega, .inl rfl⟩))) ?_)
  rw [t.dropTrigger_eq]
  exact (h.dropTold hp hg).updGroup

theorem State.deliver_group {g : Nat} (hg : g < 16) (t : Trig) (k : Nat) :
    (s.deliver g t).group k = if g = k then (s.group k).reached t else s.group k := by
  unfold State.deliver Group.reached
  dsimp only
  split
  · next h =>
    rw [State.group_updGroup _ hg]
    split
    · next e => rw [← e, if_pos h]
    · rfl
  · next h =>
    split
    · next hl =>
      rw [State.bump, State.wr_group, State.group_updGroup _ hg]
      split
      · next e => rw [← e, if_neg h, if_pos hl]
      · rfl
    · next hl =>
      rw [State.dropTrigger_eq, State.group_updGroup _ hg, State.dropTold_group]
      split
      · next e => rw [← e, if_neg h, if_neg hl]
      · rfl

/-- R75: whether a group runs depends on the device's state, its outputs, its short and the channels' groups alone. -/
theorem State.groupRuns_congr {s t : State} (hd : t.dev = s.dev) {g : Nat} (h5 : t.rd 0x5C20 (g + 1) = s.rd 0x5C20 (g + 1))
    (h1 : t.rd (0x2040 + g) 1 = s.rd (0x2040 + g) 1) (hc : ∀ n < 64, t.rd (chIdx n) 1 = s.rd (chIdx n) 1) : t.groupRuns g = s.groupRuns g := by
  have hch : t.channelsOf g = s.channelsOf g := by
    refine List.filter_congr (fun n hn => ?_)
    rw [State.groupOf, State.rdN, hc n (List.mem_range.mp hn)]
    rfl
  rw [State.groupRuns, State.groupRuns, State.queuesRun, State.live, hd, h5, h1, hch]
  rfl

/-- A trigger that reaches group `g` leaves whether a group runs. -/
theorem State.deliver_groupRuns {g : Nat} (hg : g < 16) (t : Trig) {k : Nat} (hk : k < 16) : (s.deliver g t).groupRuns k = s.groupRuns k := by
  have hw : Writes deliverEntry s (s.deliver g t) := (Writes.refl deliverEntry s).deliver (fun _ _ h => h) hg t
  have hd : (s.deliver g t).dev = s.dev := (State.deliver_keeps (.refl .dev s) rfl g t).same
  refine State.groupRuns_congr hd ?_ ?_ (fun n hn => ?_) <;> refine hw.rd (by omega) ?_
  · unfold deliverEntry; omega
  · unfold deliverEntry; omega
  · unfold deliverEntry chIdx; omega

theorem State.deliver_fine (g : Nat) (t : Trig) : (s.deliver g t).fine = s.fine := by
  have hn : (s.deliver g t).now = s.now := (State.deliver_keeps (.refl .now s) rfl g t).same
  have hc : (s.deliver g t).compassOff = s.compassOff := (State.deliver_keeps (.refl .compassOff s) rfl g t).same
  rw [State.fine, hn, hc]
  rfl

/-- One group's part of a procedure's line cycle `n`. -/
def cycleTo (n g : Nat) (s : State) : State := if s.groupRuns g then s.deliver g ⟨s.fine, n, 3, 0⟩ else s

/-- What of a state a group's part of a line cycle turns on, and changes. -/
def State.cycleView (s : State) (g : Nat) : Group × Bool × Nat := (s.group g, s.groupRuns g, s.fine)

/-- The same after that group's part. -/
def cycleViewed (n : Nat) (v : Group × Bool × Nat) : Group × Bool × Nat :=
  (if v.2.1 then v.1.reached ⟨v.2.2, n, 3, 0⟩ else v.1, v.2.1, v.2.2)

theorem cycleTo_view (n : Nat) {g k : Nat} (hg : g < 16) (hk : k < 16) :
    (cycleTo n g s).cycleView k = if g = k then cycleViewed n (s.cycleView k) else s.cycleView k := by
  unfold cycleTo
  by_cases hr : s.groupRuns g = true
  · rw [if_pos hr, State.cycleView, State.deliver_group _ hg, State.deliver_groupRuns _ hg _ hk, State.deliver_fine]
    by_cases e : g = k
    · subst e
      simp only [if_true, cycleViewed, State.cycleView, hr]
    · simp only [if_neg e, State.cycleView]
  · rw [if_neg hr]
    by_cases e : g = k
    · subst e
      rw [if_pos rfl, cycleViewed, State.cycleView, Bool.eq_false_iff.mpr hr]
      simp only [Bool.false_eq_true, if_false]
    · rw [if_neg e]

/-- R132: a line cycle reaches every running group. -/
theorem State.captureTrigger_group {k : Nat} (hk : k < 16) : (s.captureTrigger.group k) =
    (if s.groupRuns k then (s.group k).reached ⟨s.fine, s.rdN 0x4030 0xF, 3, 0⟩ else s.group k) := by
  have hview : s.captureTrigger.cycleView k = cycleViewed (s.rdN 0x4030 0xF) ((s.bump 0x4030 0xF).cycleView k) :=
    State.each_at (fun t => t.cycleView k) (cycleViewed (s.rdN 0x4030 0xF)) hk
      (fun t => (cycleTo_view t _ hk hk).trans (if_pos rfl)) (fun i hi hne t => (cycleTo_view t _ hi hk).trans (if_neg hne)) _
  have hruns : (s.bump 0x4030 0xF).groupRuns k = s.groupRuns k := by
    have hrd {i j : Nat} (hj : j < 256) (hi : i ≠ 0x4030) : (s.bump 0x4030 0xF).rd i j = s.rd i j := by
      rw [State.rd_bump_at _ _ (by decide) hj, if_neg (fun h => hi h.1.symm)]
    exact State.groupRuns_congr (s := s) (t := s.bump 0x4030 0xF) rfl (hrd (by omega) (by decide)) (hrd (by decide) (by omega))
      (fun n hn => hrd (by decide) (by unfold chIdx; omega))
  have hg : s.captureTrigger.group k = (cycleViewed (s.rdN 0x4030 0xF) ((s.bump 0x4030 0xF).cycleView k)).1 := congrArg Prod.fst hview
  rw [hg]
  show (if (s.bump 0x4030 0xF).groupRuns k = true then _ else _) = _
  rw [hruns]
  rfl

theorem State.captureTrigger_writes : Writes deliverEntry (s.bump 0x4030 0xF) s.captureTrigger :=
  Writes.each (.refl _ _) (fun _ hg _ h => .ite (h.deliver (fun _ _ h => h) hg _) h)

end

end Sys2Proof.Machine
end
section
/-! ### The capture's commands and phases (R132 to R136) -/
set_option Elab.async false
namespace Sys2Proof.Machine

/-- R132: the recipe of a capture. -/
def State.captureRecipe (s : State) : Nat := if s.rdN 0x4030 7 = 255 then s.activeRecipe else s.rdN 0x4030 7

/-- R132: the first check that a capture of this kind fails. -/
def State.captureCheck (s : State) (kind : Nat) : CheckResult :=
  firstFailed [s.item1, s.item3 (s.rateFor (s.planesOf s.captureRecipe)) converterLimit,
    if kind = 1 then none else s.item6 (s.recipe s.captureRecipe)]

/-- R132: the clocks set for a capture with `p` planes, and the rate clamped. -/
def State.captureTimed (s : State) (p : Nat) : State × Nat := (s.setClocks (s.rateFor p)).captureRate p

/-- R132: the shadow held for a capture of recipe `r`, its groups reset, its status shown. -/
def State.captureHeld (s : State) (r : Nat) : State :=
  (((s.setBank s.shadow 1 2).captureGroups r).wr 0x4030 3 1).wr 0x4030 0xF 0

/-- A state with this capture. -/
def State.withCapture (s : State) (c : Capture) : State := { s with sh := { s.sh with capture := some c } }

/-- R132: the capture that a start makes. -/
def State.newCapture (s : State) (kind r p rate : Nat) : Capture :=
  { (default : Capture) with
    kind := kind, phase := .base, recipe := r, planes := p, par := s.capPar, rate := rate, skipped := s.outNow,
    begun := s.now, since := s.now }

/-- R132: the state and the capture of an accepted start. -/
def State.captureStarted (s : State) (kind r : Nat) : State × Capture :=
  let q := s.captureTimed (s.planesOf r)
  let t := q.1.captureHeld r
  (t, t.newCapture kind r (s.planesOf r) q.2)

section
variable (s : State) (kind : Nat) (v : Int)

theorem opCapture_wrongState (h : s.dev.st ≠ .standby) : opCapture kind v s = (s, 7) := if_pos h

section
variable (hs : s.dev.st = .standby)
include hs

theorem opCapture_busy (h : s.shadowHeld = true ∨ s.rcp.measure.isSome = true) : opCapture kind v s = (s, 8) :=
  (if_neg (not_not.mpr hs)).trans (if_pos h)

variable (hh : s.shadowHeld = false) (hm : s.rcp.measure = none)
include hh hm

omit hs in
theorem opCapture_free : ¬ (s.shadowHeld = true ∨ s.rcp.measure.isSome = true) := by
  rw [hh, hm]
  simp

theorem opCapture_base (hk : kind = 2) (h8 : s.rd 0x4030 8 ≠ 0) : opCapture kind v s = (s, 5) :=
  (if_neg (not_not.mpr hs)).trans ((if_neg (opCapture_free s hh hm)).trans (if_pos ⟨hk, h8⟩))

theorem opCapture_checked (hb : kind = 2 → s.rd 0x4030 8 = 0) : opCapture kind v s =
    if (s.captureCheck kind).code ≠ 0 then (s.report (s.captureCheck kind), 10)
    else ((s.captureStarted kind s.captureRecipe).1.withCapture (s.captureStarted kind s.captureRecipe).2, 0) := by
  unfold opCapture State.captureCheck State.captureStarted State.captureTimed State.captureHeld State.withCapture State.newCapture State.captureRecipe
  dsimp only
  rw [if_neg (not_not.mpr hs), if_neg (opCapture_free s hh hm), if_neg (fun h => h.2 (hb h.1))]

end

theorem State.captureTimed_writes (p : Nat) : Writes clockEntry s (s.captureTimed p).1 :=
  ((Writes.refl clockEntry s).setClocks (fun _ _ h => h) _).captureRate (fun _ _ h => .inr h) p

theorem State.captureTimed_same {p : Part} (n : Nat) (hp : Off p 0xb4) : p.Same s (s.captureTimed n).1 :=
  (State.captureRate_keeps (State.setClocks_keeps (.refl p s) hp _) (hp.sub rfl) n).same

theorem State.captureHeld_writes (r : Nat) : Writes (fun i j => i = 0x4030 ∧ (j = 3 ∨ j = 0xF)) (s.setBank s.shadow 1 2) (s.captureHeld r) :=
  (((Writes.refl _ _).captureGroups r).wr (by decide) ⟨rfl, .inl rfl⟩).wr (by decide) ⟨rfl, .inr rfl⟩

theorem State.captureHeld_same {p : Part} (r : Nat) (hp : Off p 0x1884) : p.Same s (s.captureHeld r) :=
  (Keeps.wr (.wr (State.captureGroups_keeps (State.setBank_keeps (.refl p s) (hp.sub rfl) _ _ _) (hp.sub rfl) r) (hp.sub rfl) _ _ _)
    (hp.sub rfl) _ _ _).same

theorem State.captureHeld_spec (r : Nat) : let t := s.captureHeld r
    t.rd 0x4030 3 = 1 ∧ t.rd 0x4030 0xF = 0 ∧ t.bankState s.shadow = 1 ∧ t.bankHolder s.shadow = 2 := by
  intro t
  have hlt := s.shadow_lt
  have hw := s.captureHeld_writes r
  obtain ⟨h1, h2⟩ := s.setBank_spec (b := s.shadow) (st := 1) (holder := 2) hlt (by decide) (by decide)
  obtain ⟨t3, tF, -⟩ := captureTypes
  refine ⟨?_, ?_, ?_, ?_⟩
  · show (State.wr _ 0x4030 0xF 0).rd 0x4030 3 = 1
    rw [State.rd_wr_at _ _ (by decide) (by decide), if_neg (by decide), State.rd_wr_self _ _ (by decide), t3]
    rfl
  · show (State.wr _ 0x4030 0xF 0).rd 0x4030 0xF = 0
    rw [State.rd_wr_self _ _ (by decide), tF]
    rfl
  · rw [State.bankState, State.rdN, hw.rd (by omega) (by omega)]
    exact h1
  · rw [State.bankHolder, State.rdN, hw.rd (by omega) (by omega)]
    exact h2

/-- R66: setting the clocks writes no shading entry, so the shadow is the same bank. -/
theorem State.captureTimed_shadow (p : Nat) : (s.captureTimed p).1.shadow = s.shadow := by
  rw [State.shadow, State.activeBank, State.rdN, (s.captureTimed_writes p).rd (by decide) (by rw [clockEntry_iff]; omega)]
  rfl

theorem State.shadeBanks_captureHeld (r : Nat) : (s.captureHeld r).sh.banks = s.sh.banks := s.captureHeld_same (p := .shBanks) r rfl

end

section
variable (s : State) (kind r : Nat)

theorem State.captureStarted_same {p : Part} (hp : Off p 0x18b4) : p.Same s (s.captureStarted kind r).1 :=
  (s.captureTimed_same _ (hp.sub rfl)).trans ((s.captureTimed (s.planesOf r)).1.captureHeld_same r (hp.sub rfl))

theorem State.withCapture_answered (w : State) (c : Capture) (m : Fin 17) : let t := (w.withCapture c).answer m 0x4030 1 0
    t.sh = { w.sh with capture := some c } ∧ t.dev = w.dev ∧ (t.master m).reply = ⟨0, [], []⟩ ∧
      ∀ i j : Nat, j < 256 → i = 0x4030 ∨ i = 0x4000 → t.rd i j = w.rd i j := by
  have hside := State.Aside.answer (w.withCapture c) m 0x4030 1 0 [] [] m.isLt
  have hsame {p : Part} (hp : Off p 0x40000534) : p.Same (w.withCapture c) ((w.withCapture c).answer m 0x4030 1 0) :=
    (State.answer_keeps (.refl p _) hp _ _ _ _).same
  have hreply := State.answer_reply (w.withCapture c) m.isLt 0x4030 1 0 [] []
  exact ⟨hsame (p := .sh) rfl, hsame (p := .dev) rfl, hreply, fun i j hj hi => hside.touch i j hj (by unfold answerEntry; omega)⟩

theorem State.captureStarted_capture : let c := (s.captureStarted kind r).2
    c.kind = kind ∧ c.phase = .base ∧ c.recipe = r ∧ c.planes = s.planesOf r ∧ c.begun = s.now ∧ c.done = 0 := by
  have hnow : (s.captureStarted kind r).1.now = s.now := s.captureStarted_same kind r (p := .now) rfl
  have h : (s.captureStarted kind r).2 =
      (s.captureStarted kind r).1.newCapture kind r (s.planesOf r) (s.captureTimed (s.planesOf r)).2 := rfl
  dsimp only
  rw [h, ← hnow]
  generalize (s.captureStarted kind r).1 = w
  generalize (s.captureTimed (s.planesOf r)).2 = rate
  exact ⟨rfl, rfl, rfl, rfl, rfl, rfl⟩

theorem State.captureStarted_shown : let w := (s.captureStarted kind r).1
    w.rd 0x4030 3 = 1 ∧ w.rd 0x4030 0xF = 0 ∧ w.bankState s.shadow = 1 ∧ w.bankHolder s.shadow = 2 := by
  have h := (s.captureTimed (s.planesOf r)).1.captureHeld_spec r
  rw [s.captureTimed_shadow] at h
  exact h

/-- R132, R135: an accepted start, answered. -/
theorem State.captureStarted_spec (m : Fin 17) : let q := s.captureStarted kind r
    let t := (q.1.withCapture q.2).answer m 0x4030 1 0
    t.sh.capture = some q.2 ∧ q.2.kind = kind ∧ q.2.phase = .base ∧ q.2.recipe = r ∧ q.2.planes = s.planesOf r ∧ q.2.begun = s.now ∧
      q.2.done = 0 ∧ t.rd 0x4030 3 = 1 ∧ t.rd 0x4030 0xF = 0 ∧ t.bankState s.shadow = 1 ∧ t.bankHolder s.shadow = 2 ∧ t.dev = s.dev ∧
      t.sh.banks = s.sh.banks ∧ (t.master m).reply = ⟨0, [], []⟩ := by
  have hban : (s.captureStarted kind r).1.sh.banks = s.sh.banks := s.captureStarted_same kind r (p := .shBanks) rfl
  have hdev : (s.captureStarted kind r).1.dev = s.dev := s.captureStarted_same kind r (p := .dev) rfl
  have hshown := s.captureStarted_shown kind r
  have hcap := s.captureStarted_capture kind r
  generalize s.captureStarted kind r = q at *
  obtain ⟨w, c⟩ := q
  obtain ⟨h1, h2, h3, h4⟩ := hshown
  obtain ⟨c1, c2, c3, c4, c5, c6⟩ := hcap
  obtain ⟨hsh, hd, hreply, hrd⟩ := State.withCapture_answered w c m
  dsimp only at *
  generalize (w.withCapture c).answer m 0x4030 1 0 = t at *
  have hlt := s.shadow_lt
  refine ⟨by rw [hsh], c1, c2, c3, c4, c5, c6, (hrd _ _ (by decide) (.inl rfl)).trans h1, (hrd _ _ (by decide) (.inl rfl)).trans h2,
    ?_, ?_, hd.trans hdev, by rw [hsh]; exact hban, hreply⟩
  · exact (congrArg Int.toNat (hrd _ _ (by omega) (.inr rfl))).trans h3
  · exact (congrArg Int.toNat (hrd _ _ (by omega) (.inr rfl))).trans h4

end

theorem captureRows : rowOpen 0x4030 1 = true ∧ rowOpen 0x4030 2 = true ∧ verdict 0x4030 1 1 = .keep 1 ∧ verdict 0x4030 1 2 = .keep 2 ∧
    verdict 0x4030 1 3 = .keep 3 ∧ verdict 0x4030 2 1 = .keep 1 := by decide +kernel

/-- R132: a start is the operation of its kind. -/
theorem exec_startCapture {s : State} {dt : Nat} {m : Fin 17} {k : Nat} {c : Instr}
    (hk : (k = 1 ∧ c = .startDarkCapture dt m) ∨ (k = 2 ∧ c = .startWhiteCapture dt m) ∨ (k = 3 ∧ c = .startDarkWhiteCapture dt m))
    (hm : s.masterPresent m = true) (hr : s.dev.ready = true) :
    exec c s = .next ((opCapture k k (s.pass dt)).1.answer m 0x4030 1 (opCapture k k (s.pass dt)).2) := by
  obtain ⟨h1, -, v1, v2, v3, -⟩ := captureRows
  obtain ⟨rfl, rfl⟩ | ⟨rfl, rfl⟩ | ⟨rfl, rfl⟩ := hk
  · exact (hostCommand_open hm hr h1 v1 : execStartDarkCapture dt m s = _)
  · exact (hostCommand_open hm hr h1 v2 : execStartWhiteCapture dt m s = _)
  · exact (hostCommand_open hm hr h1 v3 : execStartDarkWhiteCapture dt m s = _)

/-! ### Results -/

section
variable (s : State) (c : Capture)

/-- R133: the shadow's content and its records, after the channels that are out now are skipped. -/
def Capture.skipping (c : Capture) (s : State) : Capture := { c with skipped := union c.skipped s.outNow }

/-- R133: a completed capture's records. -/
def State.captureRecords (s : State) (c : Capture) : List (Nat × Nat × List Byte) :=
  let b := (s.bank s.shadow).bytes
  let d := c.skipping s
  (if d.kind = 2 then [] else d.records s b default false) ++
    (if d.kind = 1 then [] else d.records s b (if d.kind = 1 then default else d.white b) true)

/-- R133, R136: the summary and the report of a completed capture. -/
def State.captureReported (s : State) (passed defects : Nat) (report : List Byte) : State :=
  let s := (s.wr 0x4030 0x10 passed).wr 0x4030 0x11 defects
  { s with sh := { s.sh with report := report } }

/-- R133: what a completed capture with these records makes of the shadow, whose content was `b`. -/
def State.captureConcluded (s : State) (d : Capture) (passed defects status : Nat) (recs : List (Nat × Nat × List Byte)) : State :=
  let t := s.captureReported passed defects (recs.flatMap (fun q => q.2.2))
  let b := (s.bank s.shadow).bytes
  let bytes := d.content b (if d.kind = 1 then default else d.white b)
  if recs.any (fun q => q.2.1 = 2 || q.2.1 = 3) then t.captureEnd d 8 3
  else (t.updBank t.shadow (fun _ => ⟨bytes, []⟩)).captureEnd d status 2

/-- R133: the outcome of a capture: failed, or the shadow with its new content. -/
theorem State.captureResult_eq : ∃ passed defects : Nat, ∃ status : Nat, (status = 6 ∨ status = 7) ∧ s.captureResult c =
    s.captureConcluded (c.skipping s) passed defects status (s.captureRecords c) := by
  unfold State.captureResult State.captureConcluded State.captureReported State.captureRecords Capture.skipping
  dsimp only
  refine ⟨?passed, ?defects, ?status, ?range, ?eq⟩
  case eq => with_reducible rfl
  exact ite_eq_or_eq _ _ _

end

section
variable (s : State)

theorem State.captureReported_bankRd (passed defects : Nat) (report : List Byte) {j : Nat} (hj : j < 256) :
    (s.captureReported passed defects report).rd 0x4000 j = s.rd 0x4000 j := by
  have hd : (s.captureReported passed defects report).dict = ((s.wr 0x4030 0x10 passed).wr 0x4030 0x11 defects).dict := rfl
  rw [State.rd_congr hd, State.rd_wr_at _ _ (by decide) hj, if_neg (by omega), State.rd_wr_at _ _ (by decide) hj, if_neg (by omega)]

theorem State.activeBank_congr {s t : State} (h : t.rd 0x4000 1 = s.rd 0x4000 1) : t.activeBank = s.activeBank ∧ t.shadow = s.shadow := by
  have ha : t.activeBank = s.activeBank := congrArg Int.toNat h
  exact ⟨ha, by rw [State.shadow, State.shadow, ha]⟩

theorem State.bank_congr {s t : State} (h : t.sh.banks = s.sh.banks) (b : Nat) : t.bank b = s.bank b := by rw [State.bank, State.bank, h]

theorem State.bank_updBank {b : Nat} (hb : b < 2) (f : Bank → Bank) (k : Nat) : (s.updBank b f).bank k = if b = k then f (s.bank k) else s.bank k := by
  show vget (vupd s.sh.banks b f) k = _
  simp [vget_vupd, hb, State.bank]

theorem State.shadow_ne (h : s.activeBank ≤ 1) : s.shadow ≠ s.activeBank := by
  unfold State.shadow
  omega

/-- R133: without the lamp grant a capture ends, the banks as they were. -/
theorem State.captureNoGrant_spec (c : Capture) : let t := s.captureNoGrant c
    t.rd 0x4030 3 = 8 ∧ t.bankState s.shadow = 3 ∧ t.bankHolder s.shadow = 0 ∧ t.sh.capture = none ∧ t.sh.banks = s.sh.banks ∧
      t.Presents 841 := by
  obtain ⟨r, hr⟩ : ∃ r, s.captureNoGrant c = (s.captureReported 0 0 r).captureEnd c 8 3 := ⟨_, rfl⟩
  have hs := (State.activeBank_congr (s.captureReported_bankRd 0 0 r (j := 1) (by decide))).2
  obtain ⟨h1, h2, h3, -, h5⟩ := (s.captureReported 0 0 r).captureEnd_spec c (status := 8) (b := 3) (by decide) (by decide)
  have hsh := (s.captureReported 0 0 r).captureEnd_sh c 8 3
  rw [hs] at h2 h3
  intro t
  have ht : t = (s.captureReported 0 0 r).captureEnd c 8 3 := hr
  clear_value t
  subst ht
  exact ⟨h1, h2, h3, by rw [hsh], by rw [hsh]; rfl, h5⟩

/-- R133: a capture that fails leaves the banks and their number; its report stands. -/
theorem State.captureConcluded_failed (d : Capture) (passed defects status : Nat) {recs : List (Nat × Nat × List Byte)}
    (h : recs.any (fun q => q.2.1 = 2 || q.2.1 = 3) = true) : let t := s.captureConcluded d passed defects status recs
    t.rd 0x4030 3 = 8 ∧ t.bankState s.shadow = 3 ∧ t.bankHolder s.shadow = 0 ∧ t.activeBank = s.activeBank ∧ t.sh.capture = none ∧
      t.sh.banks = s.sh.banks ∧ t.sh.report = recs.flatMap (fun q => q.2.2) ∧ t.Presents 841 := by
  have he : s.captureConcluded d passed defects status recs =
      (s.captureReported passed defects (recs.flatMap (fun q => q.2.2))).captureEnd d 8 3 := by
    unfold State.captureConcluded
    exact if_pos h
  dsimp only
  rw [he]
  generalize recs.flatMap (fun q => q.2.2) = r
  obtain ⟨ha, hs⟩ := State.activeBank_congr (s.captureReported_bankRd passed defects r (j := 1) (by decide))
  obtain ⟨h1, h2, h3, h4, h5⟩ := (s.captureReported passed defects r).captureEnd_spec d (status := 8) (b := 3) (by decide) (by decide)
  have hsh := (s.captureReported passed defects r).captureEnd_sh d 8 3
  rw [hs] at h2 h3
  rw [ha] at h4
  exact ⟨h1, h2, h3, h4, by rw [hsh], by rw [hsh]; rfl, by rw [hsh]; rfl, h5⟩

/-- R133: a capture that passes gives the shadow its new content. -/
theorem State.captureConcluded_passed (d : Capture) (passed defects : Nat) {status : Nat} (hst : status = 6 ∨ status = 7)
    {recs : List (Nat × Nat × List Byte)} (h : recs.any (fun q => q.2.1 = 2 || q.2.1 = 3) = false) (hact : s.activeBank ≤ 1) :
    let t := s.captureConcluded d passed defects status recs
    let b := (s.bank s.shadow).bytes
    t.rd 0x4030 3 = status ∧ t.bankState s.shadow = 2 ∧ t.bankHolder s.shadow = 0 ∧ t.activeBank = s.activeBank ∧ t.sh.capture = none ∧
      t.bank s.activeBank = s.bank s.activeBank ∧ (t.bank s.shadow).bytes = d.content b (if d.kind = 1 then default else d.white b) ∧
      t.sh.report = recs.flatMap (fun q => q.2.2) ∧ t.Presents 840 := by
  unfold State.captureConcluded
  dsimp only
  rw [if_neg (by rw [h]; decide)]
  generalize recs.flatMap (fun q => q.2.2) = r
  generalize d.content _ _ = bytes
  obtain ⟨ha, hs⟩ := State.activeBank_congr (s.captureReported_bankRd passed defects r (j := 1) (by decide))
  have hb : (s.captureReported passed defects r).sh.banks = s.sh.banks := rfl
  have hr : (s.captureReported passed defects r).sh.report = r := rfl
  generalize s.captureReported passed defects r = w at ha hs hb hr
  have hd : (w.updBank w.shadow (fun _ => ⟨bytes, []⟩)).dict = w.dict := rfl
  have hua := (State.activeBank_congr (State.rd_congr hd 0x4000 1)).1.trans ha
  have hus := (State.activeBank_congr (State.rd_congr hd 0x4000 1)).2.trans hs
  have hbank := w.bank_updBank w.shadow_lt (fun _ => ⟨bytes, []⟩)
  have hur : (w.updBank w.shadow (fun _ => ⟨bytes, []⟩)).sh.report = r := hr
  generalize w.updBank w.shadow (fun _ => ⟨bytes, []⟩) = v at hua hus hbank hur
  obtain ⟨h1, h2, h3, h4, h5⟩ := v.captureEnd_spec d (status := status) (b := 2) (by decide) (by omega)
  have hsh := v.captureEnd_sh d status 2
  have hvb : (v.captureEnd d status 2).sh.banks = v.sh.banks := by rw [hsh]
  rw [hus] at h2 h3
  rw [hua] at h4
  refine ⟨h1, h2, h3, h4, by rw [hsh], ?_, ?_, by rw [hsh]; exact hur, h5⟩
  · rw [State.bank_congr hvb, hbank, hs, if_neg (s.shadow_ne hact), State.bank_congr hb]
  · rw [State.bank_congr hvb, hbank, hs, if_pos rfl]

end

/-! ### The phases -/

/-- R133: a capture with its base written and its sums empty. -/
def Capture.based (c : Capture) (bytes : List Byte) (now : Nat) : Capture :=
  let z : List Int := List.replicate (bE bytes) 0
  let zt : List Int := List.replicate 32 0
  { c with
    sumDark := z, sumWhite := z, tempSum := zt, tempN := List.replicate 32 0, since := now
    dark := if c.kind = 2 then (bankEntries bytes).map eDark else z }

/-- R133: the shadow with the base of a capture. -/
def State.basedFor (s : State) (c : Capture) : State := s.updBank s.shadow (fun _ => ⟨s.captureBase c, []⟩)

section
variable {s u : State} {dt : Nat} (e : s.pass dt = u) {c : Capture} (hc : u.sh.capture = some c)
include e hc

theorem exec_captureBaseDone (hp : c.phase = .base) : exec (.captureBaseDone dt) s = .next (
    if c.kind = 2 then (((u.basedFor c).wr 0x4030 3 3).askLamps).withCapture { c.based (u.captureBase c) (u.basedFor c).now with phase := .waitLamp }
    else ((u.basedFor c).wr 0x4030 3 2).withCapture { c.based (u.captureBase c) (u.basedFor c).now with phase := .darkSettle }) := by
  refine (event_at e rfl : execCaptureBaseDone dt s = _).trans (congrArg _ ?_)
  simp only [hc, hp, ne_eq, not_true, if_false]
  unfold State.basedFor Capture.based State.withCapture
  dsimp only

theorem exec_captureSettleDone (hg : u.groupsIdle = true) (hp : c.phase = .darkSettle ∨ c.phase = .whiteSettle) (hd : c.par.settle ≤ c.done) :
    exec (.captureSettleDone dt) s = .next (u.withCapture { c with phase := c.phase.average, done := 0, sumFrom := u.now }) := by
  refine (event_at e hg : execCaptureSettleDone dt s = _).trans (congrArg _ ?_)
  simp only [hc]
  exact if_pos ⟨hp, hd⟩

theorem exec_captureAveragingDone (hg : u.groupsIdle = true) (hd : c.par.lines ≤ c.done) :
    let d : Capture := { c with skipped := union c.skipped u.outNow, since := u.now }
    let p := d.darkResult (u.bank u.shadow).bytes
    exec (.captureAveragingDone dt) s = .next (
      if c.phase = .darkAverage then
        if c.kind = 3 then u.withCapture { p with phase := .darkComputing } else (u.wr 0x4030 3 5).withCapture { p with phase := .computing }
      else if c.phase = .whiteAverage then (u.wr 0x4030 3 5).withCapture { d with phase := .computing }
      else u) := by
  refine (event_at e hg : execCaptureAveragingDone dt s = _).trans (congrArg _ ?_)
  simp only [hc, if_neg (Nat.not_lt.mpr hd)]
  rfl

theorem exec_captureComputeDone : exec (.captureComputeDone dt) s = .next (
    if c.phase = .darkComputing then ((u.wr 0x4030 3 3).askLamps).withCapture { c with phase := .waitLamp, since := u.now }
    else if c.phase = .computing then u.captureResult c
    else u) := by
  refine (event_at e rfl : execCaptureComputeDone dt s = _).trans (congrArg _ ?_)
  simp only [hc]
  rfl

theorem exec_captureLampGrant (hl : u.can.lamp = true) (hp : c.phase = .waitLamp) : exec (.captureLampGrant dt) s =
    .next ((u.wr 0x4030 3 4).withCapture { c with phase := .whiteSettle, done := 0, since := u.now }) := by
  refine (event_at e hl : execCaptureLampGrant dt s = _).trans (congrArg _ ?_)
  simp only [hc, hp, ne_eq, not_true, if_false]
  rfl

theorem exec_captureLampGrantTimeout (hl : u.can.lamp = false) (hp : c.phase = .waitLamp) (ht : u.elapsed c.since 100000000 = true) :
    exec (.captureLampGrantTimeout dt) s = .next (u.captureNoGrant c) := by
  refine (event_at e (by rw [hl]; rfl) : execCaptureLampGrantTimeout dt s = _).trans (congrArg _ ?_)
  simp only [hc, hp, ht, and_self, if_true]

theorem exec_captureLineCycle : exec (.captureLineCycle dt) s = .next (
    if !cycleDue u c.par c.phase c.done c.rate c.since c.aborting then u
    else if c.aborting then u.captureAbort
    else u.captureTrigger.withCapture { c with done := c.done + 1, since := u.captureTrigger.now }) := by
  refine (event_at e rfl : execCaptureLineCycle dt s = _).trans (congrArg _ ?_)
  simp only [hc]
  rfl

end

section
variable {s : State} {c : Capture} (hc : s.sh.capture = some c)
include hc

theorem State.captureAbort_some : s.captureAbort = s.captureEnd c 9 3 := by
  unfold State.captureAbort
  rw [hc]

theorem opAbortCapture_some (v : Int) : opAbortCapture v s =
    if s.groupsIdle then (s.captureAbort, 0) else (s.withCapture { c with aborting := true }, 0) := by
  unfold opAbortCapture
  rw [hc]
  rfl

end

theorem mem_union_right {a b : List Nat} {n : Nat} (h : n ∈ b) : n ∈ union a b := by
  unfold union
  rw [List.mem_append]
  by_cases ha : n ∈ a
  · exact .inl ha
  · exact .inr (List.mem_filter.mpr ⟨h, by simp [ha]⟩)

/-- R132: a line cycle is due only while every group is free. -/
theorem groupsIdle_of_cycleDue {s : State} {par : CapPar} {ph : Phase} {done rate since : Nat} {aborting : Bool}
    (h : cycleDue s par ph done rate since aborting = true) : s.groupsIdle = true := by
  unfold cycleDue at h
  rw [Bool.or_eq_true, Bool.and_eq_true, Bool.and_eq_true] at h
  exact h.elim And.right And.right

theorem State.groupsIdle_at {s : State} (h : s.groupsIdle = true) {g : Nat} (hg : g < 16) :
    (s.group g).running = none ∧ (s.group g).due = none ∧ (s.group g).latch = none := by
  have hall := List.all_eq_true.mp h g (List.mem_range.mpr hg)
  rw [Bool.and_eq_true, Bool.and_eq_true] at hall
  obtain ⟨⟨h1, h2⟩, h3⟩ := hall
  exact ⟨Option.isNone_iff_eq_none.mp h1, Option.isNone_iff_eq_none.mp h2, Option.isNone_iff_eq_none.mp h3⟩

end Sys2Proof.Machine
namespace Sys2Proof
open Machine

/-- Settles O25: the start's checks in their order, then each phase as it ends. -/
theorem shadingCapture : Obligations.ShadingCapture := by
  intro s dt u
  have start (m : Fin 17) (k : Nat) (c : Instr) (hk : _) (hm : u.masterPresent m = true) (hr : u.dev.ready = true) :
      exec c s = .next ((opCapture k k u).1.answer m 0x4030 1 (opCapture k k u).2) := exec_startCapture hk hm hr
  have abort (m : Fin 17) (hm : u.masterPresent m = true) (hr : u.dev.ready = true) :
      exec (.abortCapture dt m) s = .next ((opAbortCapture 1 u).1.answer m 0x4030 2 (opAbortCapture 1 u).2) :=
    (hostCommand_open hm hr captureRows.2.1 captureRows.2.2.2.2.2 : execAbortCapture dt m s = _)
  have e : s.pass dt = u := rfl
  clear_value u
  refine ⟨fun m k c hk hm hr => ?start, fun c hc => ⟨fun b hb status hs => ?ends, fun m hm hr => ?aborts, fun hg ha => ?boundary,
    fun hd ha => ?cycle, fun hp => ?base, fun hg hp hd => ?settle, fun hg hd hp => ?dark, fun hg hd hp => ?white, fun hp => ?between,
    fun hl hp => ?grant, fun hl hp ht hact => ?noGrant, fun hp hact => ?result⟩⟩
  case start =>
    have hop := start m k c hk hm hr
    intro r bad
    refine ⟨fun h => ?_, fun h hb => ?_, fun h hh hm hk h8 => ?_, fun h hh hm hb hbad => ?_, fun h hh hm hb hbad => ?_⟩
    · rw [hop, opCapture_wrongState _ _ _ h]
    · rw [hop, opCapture_busy _ _ _ h hb]
    · rw [hop, opCapture_base _ _ _ h hh hm hk h8]
    · have hbad' : (u.captureCheck k).code ≠ 0 := hbad
      rw [hop, opCapture_checked _ _ _ h hh hm hb, if_pos hbad']
      rfl
    · have hbad' : ¬ (u.captureCheck k).code ≠ 0 := not_not.mpr hbad
      rw [hop, opCapture_checked _ _ _ h hh hm hb, if_neg hbad']
      have hr : u.captureRecipe = r := rfl
      rw [hr]
      have hspec := u.captureStarted_spec k r m
      generalize u.captureStarted k r = q at hspec ⊢
      exact ⟨_, _, rfl, hspec⟩
  case ends =>
    obtain ⟨h1, h2, h3, h4, h5⟩ := u.captureEnd_spec c (status := status) (b := b) (by omega) (by omega)
    have hsh := u.captureEnd_sh c status b
    have hcan := u.captureEnd_can c status b
    exact ⟨h1, h2, h3, by rw [hsh], by rw [hcan], by rw [hsh], h4, h5⟩
  case aborts =>
    rw [abort m hm hr, opAbortCapture_some hc]
    refine ⟨fun hg => ?_, fun hg => ?_⟩
    · rw [if_pos hg, State.captureAbort_some hc]
    · rw [if_neg (by rw [hg]; decide)]
      rfl
  case boundary =>
    have hd : cycleDue u c.par c.phase c.done c.rate c.since c.aborting = true := by
      unfold cycleDue
      rw [hg, ha, Bool.and_true]
      exact Bool.or_true _
    rw [exec_captureLineCycle e hc, hd, ha, if_neg (by decide), if_pos rfl, State.captureAbort_some hc]
  case cycle =>
    have hw := u.captureTrigger_writes
    have hnow : u.captureTrigger.now = u.now := (State.captureTrigger_keeps (.refl .now u) rfl).same
    have hgroup {k : Nat} (hk : k < 16) := u.captureTrigger_group hk
    have hrd {j : Nat} (hj : j < 256) : u.captureTrigger.rd 0x4030 j = (u.bump 0x4030 0xF).rd 0x4030 j :=
      hw.rd hj (by unfold deliverEntry; omega)
    have hexec := exec_captureLineCycle e hc
    rw [hd, if_neg (by decide), if_neg (by rw [ha]; decide)] at hexec
    generalize u.captureTrigger = w at hw hnow hgroup hrd hexec
    refine ⟨_, hexec, ?_, ?_, ?_, fun g hr hp => ?_⟩
    · show w.rd 0x4030 0xF = _
      rw [hrd (by decide), State.rd_bump_at _ _ (by decide) (by decide), if_pos ⟨rfl, rfl⟩, captureTypes.2.1, Ty.wrap_u32]
      rfl
    · rw [← hnow]
      rfl
    · show w.rd 0x4030 3 = _
      rw [hrd (by decide), State.rd_bump_at _ _ (by decide) (by decide), if_neg (by decide)]
    · obtain ⟨h1, h2, -⟩ := State.groupsIdle_at (groupsIdle_of_cycleDue hd) g.isLt
      show (w.group g).due = _
      rw [hgroup g.isLt, if_pos hr, Group.reached, h1, h2, hp]
      rfl
  case base =>
    have hbytes : ((u.basedFor c).bank u.shadow).bytes = u.captureBase c := by
      rw [State.basedFor, State.bank_updBank _ u.shadow_lt, if_pos rfl]
    have hact : (u.basedFor c).activeBank = u.activeBank := rfl
    have hst (v : Int) : ((u.basedFor c).wr 0x4030 3 v).rd 0x4030 3 = v % 2 ^ 8 := by
      rw [State.rd_wr_self _ _ (by decide), captureTypes.1, Ty.wrap_u8]
    have hactWr (v : Int) : ((u.basedFor c).wr 0x4030 3 v).activeBank = u.activeBank := by
      rw [← hact]
      refine (State.activeBank_congr ?_).1
      rw [State.rd_wr_at _ _ (by decide) (by decide), if_neg (by decide)]
    rw [exec_captureBaseDone e hc hp]
    by_cases hk : c.kind = 2
    · rw [if_pos hk]
      exact ⟨_, _, rfl, rfl, hbytes, hactWr 3, fun h => absurd hk h, fun _ => ⟨hst 3, rfl, rfl⟩⟩
    · rw [if_neg hk]
      exact ⟨_, _, rfl, rfl, hbytes, hactWr 2, fun _ => ⟨hst 2, rfl⟩, fun h => absurd h hk⟩
  case settle => exact exec_captureSettleDone e hc hg hp hd
  case dark =>
    rw [exec_captureAveragingDone e hc hg hd, if_pos hp]
    have hst : (u.wr 0x4030 3 5).rd 0x4030 3 = 5 := by
      rw [State.rd_wr_self _ _ (by decide), captureTypes.1]
      rfl
    by_cases hk : c.kind = 3
    · rw [if_pos hk]
      exact ⟨_, _, rfl, rfl, rfl, fun n hn => mem_union_right hn, fun _ => ⟨rfl, rfl⟩, fun h => absurd hk h⟩
    · rw [if_neg hk]
      exact ⟨_, _, rfl, rfl, rfl, fun n hn => mem_union_right hn, fun h => absurd h hk, fun _ => ⟨rfl, hst⟩⟩
  case white =>
    have hst : (u.wr 0x4030 3 5).rd 0x4030 3 = 5 := by
      rw [State.rd_wr_self _ _ (by decide), captureTypes.1]
      rfl
    rw [exec_captureAveragingDone e hc hg hd, if_neg (by rw [hp]; decide), if_pos hp]
    exact ⟨_, _, rfl, rfl, rfl, hst, rfl, fun n hn => mem_union_right hn⟩
  case between =>
    have hst : (u.wr 0x4030 3 3).rd 0x4030 3 = 3 := by
      rw [State.rd_wr_self _ _ (by decide), captureTypes.1]
      rfl
    rw [exec_captureComputeDone e hc, if_pos hp]
    exact ⟨_, rfl, rfl, hst, rfl⟩
  case grant => exact exec_captureLampGrant e hc hl hp
  case noGrant => exact ⟨_, exec_captureLampGrantTimeout e hc hl hp ht, u.captureNoGrant_spec c⟩
  case result =>
    intro b d wr recs
    obtain ⟨passed, defects, status, hst, heq⟩ := u.captureResult_eq c
    have hrecs : u.captureRecords c = recs := rfl
    have hskip : c.skipping u = d := rfl
    rw [hrecs, hskip] at heq
    have hex : exec (.captureComputeDone dt) s = .next (u.captureConcluded d passed defects status recs) := by
      rw [exec_captureComputeDone e hc, if_neg (by rw [hp]; decide), if_pos hp, heq]
    refine ⟨_, hex, ?_⟩
    have hany : recs.any (fun q => q.2.1 = 2 || q.2.1 = 3) = true ↔ ∃ q ∈ recs, q.2.1 = 2 ∨ q.2.1 = 3 := by
      rw [List.any_eq_true]
      simp only [Bool.or_eq_true, decide_eq_true_eq]
    clear_value recs
    by_cases hf : recs.any (fun q => q.2.1 = 2 || q.2.1 = 3) = true
    · obtain ⟨h1, h2, h3, h4, h5, h6, h7, h8⟩ := u.captureConcluded_failed d passed defects status hf
      refine ⟨h5, h3, h4, State.bank_congr h6 _, h7, fun _ => ⟨h1, h2, h8⟩, fun hno => ?_⟩
      obtain ⟨q, hq, hr⟩ := hany.mp hf
      exact absurd hr (not_or.mpr (hno q hq))
    · obtain ⟨h1, h2, h3, h4, h5, h6, h7, h8, h9⟩ := u.captureConcluded_passed d passed defects hst (Bool.eq_false_iff.mpr hf) hact
      refine ⟨h5, h3, h4, h6, h8, fun h => absurd (hany.mpr h) hf, fun _ => ⟨?_, h2, h7, h9⟩⟩
      exact hst.imp (fun h => by rw [h1, h]; rfl) (fun h => by rw [h1, h]; rfl)

end Sys2Proof
end
section
/-! ## Basis sets (R141 to R149) -/
set_option Elab.async false
namespace Sys2Proof.Machine

/-- The entries of basis set `k` and of the space that is free (R142, R145). -/
def basisEntry (k i j : Nat) : Prop := (i = 0x4202 ∧ j = k + 1) ∨ (i = 0x4203 ∧ j = k + 1) ∨ (i = 0x4200 ∧ j = 1)

theorem basisTypes : tyAt 0x4200 5 = .u8 ∧ (∀ k : Fin 8, tyAt 0x4202 (k + 1) = .u8 ∧ tyAt 0x4203 (k + 1) = .u32) ∧
    ∀ r : Fin 32, tyAt 0x4240 (r + 1) = .u8 := by decide +kernel

theorem measureRows : rowOpen 0x4200 3 = true ∧ rowOpen 0x4200 4 = true ∧ rowOpen 0x4200 6 = true ∧ verdict 0x4200 4 1 = .keep 1 ∧
    ∀ k : Fin 8, verdict 0x4200 3 (k : Nat) = .keep (k : Nat) := by decide +kernel

/-! ### The sets -/

section
variable (s : State) {k : Nat} (hk : k < 8)
include hk

theorem State.basis_updBasis (f : Basis → Basis) (j : Nat) :
    vget (s.updBasis k f).rcp.basis j = if k = j then f (vget s.rcp.basis j) else vget s.rcp.basis j := by
  show vget (vupd s.rcp.basis k f) j = _
  simp [vget_vupd, hk]

theorem State.basisState_wr {st : Nat} (hst : st < 256) : (s.setBasis k st).basisState k = st := by
  rw [State.basisState, State.rdN, State.setBasis, State.rd_wr_self _ _ (by omega), (basisTypes.2.1 ⟨k, hk⟩).1, Ty.wrap_u8]
  omega

/-- Writing the free space, and a set's length, leaves its state. -/
theorem State.showBasisFree_state (s : State) : s.showBasisFree.basisState k = s.basisState k := by
  rw [State.basisState, State.rdN, State.showBasisFree, State.rd_wr_at _ _ (by decide) (by omega), if_neg (by omega)]
  rfl

theorem State.basisState_length (s : State) (v : Int) : (s.wr 0x4203 (k + 1) v).basisState k = s.basisState k := by
  rw [State.basisState, State.rdN, State.rd_wr_at _ _ (by omega) (by omega), if_neg (by omega)]
  rfl

theorem State.showBasisFree_length (s : State) : s.showBasisFree.rd 0x4203 (k + 1) = s.rd 0x4203 (k + 1) := by
  rw [State.showBasisFree, State.rd_wr_at _ _ (by decide) (by omega), if_neg (by omega)]

omit hk in
theorem Writes.updBasis {P : Nat → Nat → Prop} {s t : State} (h : Writes P s t) (f : Basis → Basis) : Writes P s (t.updBasis k f) := h.eq rfl rfl

omit hk in
theorem Writes.showBasisFree {P : Nat → Nat → Prop} {s t : State} (h : Writes P s t) (hp : P 0x4200 1) : Writes P s t.showBasisFree :=
  h.wr (by decide) hp

/-- R143: an accepted content becomes set `k`. -/
theorem State.takeBasis_writes (b : List Byte) : Writes (basisEntry k) s (s.takeBasis k b) :=
  ((((Writes.refl (basisEntry k) s).updBasis _).wr (by omega) (.inl ⟨rfl, rfl⟩)).wr (by omega) (.inr (.inl ⟨rfl, rfl⟩))).showBasisFree
    (.inr (.inr ⟨rfl, rfl⟩))

theorem State.takeBasis_basis (b : List Byte) (j : Nat) :
    vget (s.takeBasis k b).rcp.basis j = if k = j then { vget s.rcp.basis j with bytes := b } else vget s.rcp.basis j :=
  s.basis_updBasis hk (fun q => { q with bytes := b }) j

theorem State.takeBasis_state (b : List Byte) : (s.takeBasis k b).basisState k = 3 := by
  rw [State.takeBasis, State.showBasisFree_state hk, State.basisState_length hk, State.basisState_wr _ hk (by decide)]

theorem State.takeBasis_length (b : List Byte) : (s.takeBasis k b).rd 0x4203 (k + 1) = Ty.u32.wrap b.length := by
  rw [State.takeBasis, State.showBasisFree_length hk, State.rd_wr_self _ _ (by omega), (basisTypes.2.1 ⟨k, hk⟩).2]

end

/-! ### Losing a set (R143, R161) -/

/-- What an armed switch that is dropped writes. -/
def droppedArmEntry (i _ : Nat) : Prop := i = 0x4210 ∨ i = 0x4000 ∨ i = 0x2800 + 848

section
variable {P : Nat → Nat → Prop} {s t : State}

theorem Writes.setArmed (h : Writes P s t) (a : Option Armed) : Writes P s (t.setArmed a) := h.eq rfl rfl

theorem Writes.setBank (h : Writes P s t) {b st holder : Nat} (hb : b < 2) (hp : ∀ j, P 0x4000 j) : Writes P s (t.setBank b st holder) :=
  (h.wr (by omega) (hp _)).wr (by omega) (hp _)

theorem Writes.spoilShadow (h : Writes P s t) (hp : ∀ j, P 0x4000 j) : Writes P s t.spoilShadow := h.setBank t.shadow_lt hp

theorem Writes.holdShadow (h : Writes P s t) (hp : ∀ j, P 0x4000 j) {v : Nat} : Writes P s (t.holdShadow v) := by
  have := t.shadow_lt
  exact h.wr (by omega) (hp _)

theorem Writes.dropArmed (h : Writes P s t) (hp : ∀ i j, droppedArmEntry i j → P i j) {st r : Nat} : Writes P s (t.dropArmed st r) := by
  have h0 (j : Nat) : P 0x4000 j := hp _ _ (.inr (.inl rfl))
  have h1 (j : Nat) : P 0x4210 j := hp _ _ (.inl rfl)
  unfold State.dropArmed
  split
  · exact h
  · exact .ite ((((h.setArmed none).wr (by decide) (h1 _)).wr (by decide) (h1 _)).spoilShadow h0 |>.raise1 (fun j => hp _ j (.inr (.inr rfl))))
      (((h.setArmed none).wr (by decide) (h1 _)).holdShadow h0)

theorem Writes.loseArmedBasis (h : Writes P s t) (hp : ∀ i j, droppedArmEntry i j → P i j) (k : Nat) : Writes P s (t.loseArmedBasis k) := by
  unfold State.loseArmedBasis
  split
  · exact h
  · exact .ite h (.ite (h.dropArmed hp) (.ite (((h.dropArmed hp).wr (by decide) (hp _ _ (.inl rfl))).raise1 (fun j => hp _ j (.inr (.inr rfl)))) h))

end

/-! ### Measurements (R144) -/

/-- A state with this measurement. -/
def State.withMeasure (s : State) (m : Measure) : State := { s with rcp := { s.rcp with measure := some m } }

/-- R144: the groups of a measurement's tables. -/
def State.measureGroups (s : State) : List Nat := (List.range (s.rdN 0x4201 1)).map (fun i => s.rdN 0x4201 (2 + i))

/-- R144: the first check that a measurement fails. -/
def State.measureCheck (s : State) : CheckResult :=
  firstFailed [s.item1, s.item3 (s.rateFor 1) converterLimit, s.tablesOff s.measureGroups]

/-- R144: a measurement of set `k` may not begin. -/
def State.measureBusy (s : State) (k : Nat) : Bool := s.shadowHeld || s.sh.capture.isSome || s.rcp.measure.isSome || s.basisBusy k

/-- R144: the groups reset for a measurement, its status shown. -/
def State.measureShown (s : State) : State := ((s.captureGroups 255).wr 0x4200 5 1).wr 0x4030 0xF 0

/-- R144: the measurement that a start in state `t` makes, with what was set before it. -/
def State.newMeasure (t : State) (k tables : Nat) (groups currents : List Nat) (rate : Nat) : Measure :=
  let z : List Int := List.replicate t.mapPx 0
  let zt : List Int := List.replicate 32 0
  { (default : Measure) with
    set := k, tables := tables, groups := groups, currents := currents
    phase := .darkSettle, par := t.capPar, rate := rate, sum := z, dark := z, tempSum := zt, tempN := List.replicate 32 0,
    skipped := t.outNow, begun := t.now, since := t.now }

/-- R144: the state and the measurement of an accepted start. -/
def State.measureStarted (s : State) (k : Nat) : State × Measure :=
  let q := s.captureTimed 1
  let t := q.1.measureShown
  (t, t.newMeasure k (s.rdN 0x4201 1) s.measureGroups ((List.range (s.rdN 0x4201 1)).map (fun i => t.rdN 0x4201 (8 + i))) q.2)

section
variable (s : State) (k : Nat) (v : Int)

theorem opMeasure_wrongState (h : s.dev.st ≠ .standby) : opMeasure k v s = (s, 7) := if_pos h

section
variable (hs : s.dev.st = .standby)
include hs

theorem opMeasure_busy (h : s.measureBusy k = true) : opMeasure k v s = (s, 8) := by
  refine (if_neg (not_not.mpr hs)).trans (if_pos ?_)
  unfold State.measureBusy at h
  simpa [or_assoc] using h

theorem opMeasure_checked (h : s.measureBusy k = false) : opMeasure k v s =
    if s.measureCheck.code ≠ 0 then (s.report s.measureCheck, 10)
    else ((s.measureStarted k).1.withMeasure (s.measureStarted k).2, 0) := by
  have hfree : ¬ (s.shadowHeld = true ∨ s.sh.capture.isSome = true ∨ s.rcp.measure.isSome = true ∨ s.basisBusy k = true) := by
    unfold State.measureBusy at h
    simpa [and_assoc] using h
  unfold opMeasure State.measureCheck State.measureStarted State.measureShown State.newMeasure State.captureTimed State.withMeasure
    State.measureGroups
  dsimp only
  rw [if_neg (not_not.mpr hs), if_neg hfree]

end

theorem State.measureStarted_same {p : Part} (hp : Off p 0x18b4) : p.Same s (s.measureStarted k).1 := by
  have h : Keeps p (s.captureTimed 1).1 ((s.captureTimed 1).1.captureGroups 255) := State.captureGroups_keeps (.refl p _) (hp.sub rfl) 255
  exact (s.captureTimed_same 1 (hp.sub rfl)).trans (Keeps.wr (.wr h (hp.sub rfl) 0x4200 5 1) (hp.sub rfl) 0x4030 0xF 0).same

theorem State.measureStarted_measure : let m := (s.measureStarted k).2
    m.set = k ∧ m.tables = s.rdN 0x4201 1 ∧ m.groups = s.measureGroups ∧ m.phase = .darkSettle ∧ m.done = 0 ∧ m.begun = s.now := by
  have hnow : (s.measureStarted k).1.now = s.now := s.measureStarted_same k (p := .now) rfl
  have h : (s.measureStarted k).2 = (s.measureStarted k).1.newMeasure k (s.rdN 0x4201 1) s.measureGroups
      ((List.range (s.rdN 0x4201 1)).map (fun i => (s.measureStarted k).1.rdN 0x4201 (8 + i))) (s.captureTimed 1).2 := rfl
  dsimp only
  rw [h, ← hnow]
  generalize (s.measureStarted k).1 = w
  generalize (s.captureTimed 1).2 = rate
  exact ⟨rfl, rfl, rfl, rfl, rfl, rfl⟩

theorem State.measureShown_rd : s.measureShown.rd 0x4200 5 = 1 ∧ s.measureShown.rd 0x4030 0xF = 0 := by
  constructor
  · rw [State.measureShown, State.rd_wr_at _ _ (by decide) (by decide), if_neg (by decide), State.rd_wr_self _ _ (by decide), basisTypes.1]
    rfl
  · rw [State.measureShown, State.rd_wr_self _ _ (by decide), captureTypes.2.1]
    rfl

/-- R144: an accepted start, answered. -/
theorem State.measureStarted_spec (m : Fin 17) : let q := s.measureStarted k
    let t := (q.1.withMeasure q.2).answer m 0x4200 3 0
    t.rcp.measure = some q.2 ∧ q.2.set = k ∧ q.2.tables = s.rdN 0x4201 1 ∧ q.2.groups = s.measureGroups ∧ q.2.phase = .darkSettle ∧
      q.2.done = 0 ∧ q.2.begun = s.now ∧ t.rd 0x4200 5 = 1 ∧ t.rd 0x4030 0xF = 0 ∧ t.dev = s.dev ∧ (t.master m).reply = ⟨0, [], []⟩ := by
  have hdev : (s.measureStarted k).1.dev = s.dev := s.measureStarted_same k (p := .dev) rfl
  have hmeas := s.measureStarted_measure k
  have hshown : (s.measureStarted k).1.rd 0x4200 5 = 1 ∧ (s.measureStarted k).1.rd 0x4030 0xF = 0 := (s.captureTimed 1).1.measureShown_rd
  generalize s.measureStarted k = q at *
  obtain ⟨w, c⟩ := q
  obtain ⟨h1, h2⟩ := hshown
  obtain ⟨c1, c2, c3, c4, c5, c6⟩ := hmeas
  have hside := State.Aside.answer (w.withMeasure c) m 0x4200 3 0 [] [] m.isLt
  have hsame {p : Part} (hp : Off p 0x40000534) : p.Same (w.withMeasure c) ((w.withMeasure c).answer m 0x4200 3 0) :=
    (State.answer_keeps (.refl p _) hp _ _ _ _).same
  have hrcp : _ = _ := hsame (p := .rcp) rfl
  have hd : _ = _ := hsame (p := .dev) rfl
  have hreply := State.answer_reply (w.withMeasure c) m.isLt 0x4200 3 0 [] []
  have hrd {i j : Nat} (hj : j < 256) (hi : i = 0x4030 ∨ i = 0x4200) : ((w.withMeasure c).answer m 0x4200 3 0).rd i j = w.rd i j :=
    hside.touch i j hj (by unfold answerEntry; omega)
  dsimp only at *
  generalize (w.withMeasure c).answer m 0x4200 3 0 = t at *
  exact ⟨by rw [hrcp]; rfl, c1, c2, c3, c4, c5, c6, (hrd (by decide) (.inr rfl)).trans h1, (hrd (by decide) (.inl rfl)).trans h2,
    hd.trans hdev, hreply⟩

end

section
variable {s : State} {q : Measure} (hq : s.rcp.measure = some q)
include hq

theorem State.measureAbort_some : s.measureAbort = (s.wr 0x4200 5 8).captureOver q.begun := by
  unfold State.measureAbort
  rw [hq]

theorem opAbortMeasurement_some (v : Int) : opAbortMeasurement v s =
    if s.groupsIdle then (s.measureAbort, 0) else (s.withMeasure { q with aborting := true }, 0) := by
  unfold opAbortMeasurement
  rw [hq]
  rfl

end

/-- R144: a measurement at the end of a phase, the channels that are out now skipped. -/
def Measure.closing (q : Measure) (s : State) : Measure := { q with skipped := union q.skipped s.outNow, since := s.now }

theorem State.measureTable_count (s : State) (q : Measure) : (s.measureTable (q.closing s)).table = q.table + 1 ∧
    (s.measureTable (q.closing s)).tables = q.tables := ⟨rfl, rfl⟩

theorem State.measureTable_resp (s : State) (q : Measure) : (s.measureTable (q.closing s)).resp =
    q.resp ++ [q.sum.map (fun v => (limit 0 65535 (meanOf q.par.lines v)).toNat)] := by
  show q.resp ++ [(q.sum.map _).map Int.toNat] = _
  rw [List.map_map]
  rfl

/-- R144: a measurement whose tables are computed, the channels that are out now skipped. -/
def Measure.completing (q : Measure) (s : State) : Measure := { q with skipped := union q.skipped s.outNow }

/-- R144, 5: a channel fails one of a measurement's tables. -/
def State.measureFailed (s : State) (m : Measure) : Bool :=
  s.mapSlices.any (fun (n, o, len) => !m.skipped.contains n && (List.range m.tables).any (m.fails o len))

section
variable (s : State) (m : Measure)

/-- R144: a measurement that fails leaves every set. -/
theorem State.measureFail_spec : let t := s.measureFail m
    t.rcp.measure = none ∧ t.rd 0x4200 5 = 7 ∧ t.rcp.basis = s.rcp.basis ∧ t.Presents 851 := by
  have hw : Writes overEntry (s.wr 0x4200 5 7) (s.measureFail m) :=
    (Writes.captureOver (.refl _ _) (fun _ _ h => .inl h) _).raise1 (fun _ => .inr (by omega))
  have hr : (s.measureFail m).rcp = ((s.wr 0x4200 5 7).captureOver m.begun).rcp := (State.raise1_keeps (.refl .rcp _) rfl 851 0).same
  rw [State.captureOver_rcp] at hr
  refine ⟨by rw [hr], ?_, by rw [hr]; rfl, State.presents_raise1 _ 851 0⟩
  rw [hw.rd (by decide) (by unfold overEntry; rw [clockEntry_iff]; omega), State.rd_wr_self _ _ (by decide), basisTypes.1]
  rfl

/-- R144: the end of a measurement that passes leaves the sets as they are. -/
theorem State.measureKept_end {status : Int} (hst : status = 5 ∨ status = 6) :
    let t := ((s.wr 0x4200 5 status).captureOver m.begun).raise1 850 0
    t.rcp = { s.rcp with measure := none } ∧ (t.rd 0x4200 5 = 5 ∨ t.rd 0x4200 5 = 6) ∧ t.Presents 850 ∧
      ∀ k < 8, t.basisState k = s.basisState k := by
  have hw : Writes overEntry (s.wr 0x4200 5 status) (((s.wr 0x4200 5 status).captureOver m.begun).raise1 850 0) :=
    (Writes.captureOver (.refl _ _) (fun _ _ h => .inl h) _).raise1 (fun _ => .inr (by omega))
  have hr : (((s.wr 0x4200 5 status).captureOver m.begun).raise1 850 0).rcp = ((s.wr 0x4200 5 status).captureOver m.begun).rcp :=
    (State.raise1_keeps (.refl .rcp _) rfl 850 0).same
  refine ⟨hr.trans (State.captureOver_rcp _ _), ?_, State.presents_raise1 _ 850 0, fun k hk => ?_⟩
  · rw [hw.rd (by decide) (by unfold overEntry; rw [clockEntry_iff]; omega), State.rd_wr_self _ _ (by decide), basisTypes.1]
    exact hst.imp (fun h => by rw [h]; rfl) (fun h => by rw [h]; rfl)
  · rw [State.basisState, State.rdN, hw.rd (by omega) (by unfold overEntry; rw [clockEntry_iff]; omega),
      State.rd_wr_at _ _ (by decide) (by omega), if_neg (by omega)]
    rfl

/-- R144: a measurement that passes replaces its set. -/
theorem State.measureKept_spec {status : Int} (hst : status = 5 ∨ status = 6) :
    let t := (((s.takeBasis m.set (s.measured m)).wr 0x4200 5 status).captureOver m.begun).raise1 850 0
    t.rcp.measure = none ∧ (t.rd 0x4200 5 = 5 ∨ t.rd 0x4200 5 = 6) ∧ t.Presents 850 ∧
      (m.set < 8 → (vget t.rcp.basis m.set).bytes = s.measured m ∧ t.basisState m.set = 3) := by
  have hb (hk : m.set < 8) := s.takeBasis_basis hk (s.measured m) m.set
  have hs (hk : m.set < 8) := s.takeBasis_state hk (s.measured m)
  generalize s.takeBasis m.set (s.measured m) = w at *
  obtain ⟨hr, h5, hp, hk⟩ := w.measureKept_end m hst
  refine ⟨by rw [hr], h5, hp, fun h => ⟨?_, (hk _ h).trans (hs h)⟩⟩
  rw [hr]
  exact (congrArg Basis.bytes (hb h)).trans (by rw [if_pos rfl])

end

section
variable {s u : State} {dt : Nat} (e : s.pass dt = u) {q : Measure} (hq : u.rcp.measure = some q)
include e hq

theorem exec_captureLineCycle_aborting (hc : u.sh.capture = none) (hg : u.groupsIdle = true) (ha : q.aborting = true) :
    exec (.captureLineCycle dt) s = .next u.measureAbort := by
  have hd : cycleDue u q.par q.phase q.done q.rate q.since true = true := by
    unfold cycleDue
    rw [hg, Bool.and_true]
    exact Bool.or_true _
  refine (event_at e rfl : execCaptureLineCycle dt s = _).trans (congrArg _ ?_)
  simp only [hc, hq, ha, hd, Bool.not_true, Bool.false_eq_true, if_false, if_true]

theorem exec_measurementPhaseDone (hg : u.groupsIdle = true) (hd : q.par.lines ≤ q.done) :
    let d := q.closing u
    exec (.measurementPhaseDone dt) s = .next (
      if q.phase = .darkAverage then ((u.wr 0x4200 5 2).askLamps).withMeasure { u.measureDark d with phase := .waitLamp }
      else if q.phase = .whiteAverage then
        if (u.measureTable d).table < (u.measureTable d).tables then u.withMeasure { u.measureTable d with phase := .whiteSettle }
        else (u.wr 0x4200 5 4).withMeasure { u.measureTable d with phase := .computing }
      else u) := by
  refine (event_at e hg : execMeasurementPhaseDone dt s = _).trans (congrArg _ ?_)
  simp only [hq, if_neg (Nat.not_lt.mpr hd)]
  unfold State.withMeasure Measure.closing
  dsimp only

theorem exec_measurementComplete (hp : q.phase = .computing) :
    let d := q.completing u
    let clean := d.skipped = [] ∧ d.darkBad = [] ∧ d.bad.all (fun l => l.isEmpty)
    exec (.measurementComplete dt) s = .next (
      if u.measureFailed d then u.measureFail d
      else ((((u.takeBasis d.set (u.measured d)).wr 0x4200 5 (if clean then 5 else 6)).captureOver d.begun)).raise1 850 0) := by
  refine (event_at e rfl : execMeasurementComplete dt s = _).trans (congrArg _ ?_)
  simp only [hq, hp, ne_eq, not_true, if_false]
  rfl

end

/-! ### Imports and loads (R143, R146, R149) -/

section
variable (s : State) (k t p : Nat) (hk : k < 256) (ht : t < 16) (hp : p < 16)
include hk ht hp

omit hk ht hp in
/-- An import of the given set, table and plane. -/
def importWord (k t p : Nat) : Int := (k * 256 + t * 16 + p : Nat)

theorem importWord_fields : field (importWord k t p).toNat 15 8 = k ∧ field (importWord k t p).toNat 7 4 = t ∧
    field (importWord k t p).toNat 3 0 = p := by
  rw [importWord, Int.toNat_natCast]
  unfold field
  omega

theorem opImport_range (h : 8 ≤ k ∨ 6 ≤ t ∨ 4 ≤ p) : opImport (importWord k t p) s = (s, 5) := by
  obtain ⟨h1, h2, h3⟩ := importWord_fields k t p hk ht hp
  unfold opImport
  dsimp only
  rw [h1, h2, h3, if_pos h]

section
variable (hk8 : k < 8) (ht6 : t < 6) (hp4 : p < 4)
include hk8 ht6 hp4

theorem opImport_busy (h : s.basisBusy k = true) : opImport (importWord k t p) s = (s.wr 0x4200 7 8, 8) := by
  obtain ⟨h1, h2, h3⟩ := importWord_fields k t p hk ht hp
  unfold opImport
  dsimp only
  rw [h1, h2, h3, if_neg (by omega), if_pos h]

variable (hb : s.basisBusy k = false)
include hb

theorem opImport_none (h : s.importSet k t p = none) : opImport (importWord k t p) s = (s.wr 0x4200 7 5, 5) := by
  obtain ⟨h1, h2, h3⟩ := importWord_fields k t p hk ht hp
  unfold opImport
  dsimp only
  rw [h1, h2, h3, if_neg (by omega), if_neg (by rw [hb]; decide), h]

theorem opImport_some {b : List Byte} (h : s.importSet k t p = some b) : opImport (importWord k t p) s =
    ({ s.wr 0x4200 7 0 with rcp := { s.rcp with importing := some k, imported := b } }, 0) := by
  obtain ⟨h1, h2, h3⟩ := importWord_fields k t p hk ht hp
  unfold opImport
  dsimp only
  rw [h1, h2, h3, if_neg (by omega), if_neg (by rw [hb]; decide), h]
  rfl

end

end

theorem importVerdict {k t p : Nat} (hk : k < 256) (ht : t < 16) (hp : p < 16) : verdict 0x4200 6 (importWord k t p) = .keep (importWord k t p) := by
  rw [verdict_of (show rowShape 0x4200 6 = some (.wo, .always, .any, .u16) from rfl)]
  refine if_pos ?_
  unfold importWord
  simp only [Ty.fits]
  simp
  omega

/-- R143: a set that its NOR copy does not give is empty. -/
def State.basisGone (s : State) (k : Nat) : State :=
  (((s.updBasis k (fun _ => ⟨[], []⟩)).setBasis k 0).wr 0x4203 (k + 1) 0).showBasisFree

theorem State.basisGone_spec (s : State) {k : Nat} (hk : k < 8) : (s.basisGone k).basisState k = 0 ∧
    vget (s.basisGone k).rcp.basis k = ⟨[], []⟩ ∧ (s.basisGone k).rd 0x4203 (k + 1) = 0 := by
  have hb : (s.basisGone k).rcp.basis = (s.updBasis k (fun _ => ⟨[], []⟩)).rcp.basis := rfl
  refine ⟨?_, by rw [hb, s.basis_updBasis hk, if_pos rfl], ?_⟩
  · rw [State.basisGone, State.showBasisFree_state hk, State.basisState_length hk, State.basisState_wr _ hk (by decide)]
  · rw [State.basisGone, State.showBasisFree_length hk, State.rd_wr_self _ _ (by omega), (basisTypes.2.1 ⟨k, hk⟩).2]
    rfl

theorem State.basisLost_spec (s : State) {k : Nat} (hk : k < 8) : let t := ((s.basisGone k).raise1 853 0).loseArmedBasis k
    t.basisState k = 0 ∧ vget t.rcp.basis k = ⟨[], []⟩ ∧ t.rd 0x4203 (k + 1) = 0 ∧ t.Presents 853 := by
  obtain ⟨h1, h2, h3⟩ := s.basisGone_spec hk
  generalize s.basisGone k = g at *
  have hw : Writes (fun i j => droppedArmEntry i j ∨ i = 0x2800 + 853) g ((g.raise1 853 0).loseArmedBasis k) :=
    ((Writes.refl _ g).raise1 (fun _ => .inr rfl)).loseArmedBasis (fun _ _ h => .inl h) k
  have hp : ((g.raise1 853 0).loseArmedBasis k).Presents 853 :=
    (Writes.loseArmedBasis (.refl droppedArmEntry _) (fun _ _ h => h) k).presents (State.presents_raise1 g 853 0)
  have hb : ((g.raise1 853 0).loseArmedBasis k).rcp.basis = g.rcp.basis :=
    (State.loseArmedBasis_keeps (State.raise1_keeps (.refl .basis g) rfl 853 0) rfl k).same
  generalize (g.raise1 853 0).loseArmedBasis k = t at *
  have hrd {i j : Nat} (hj : j < 256) (hi : i = 0x4202 ∨ i = 0x4203) : t.rd i j = g.rd i j :=
    hw.rd hj (by unfold droppedArmEntry; omega)
  exact ⟨(congrArg Int.toNat (hrd (by omega) (.inl rfl))).trans h1, by rw [hb]; exact h2, (hrd (by omega) (.inr rfl)).trans h3, hp⟩

end Sys2Proof.Machine
namespace Sys2Proof
open Machine

/-- Settles O26: a measurement and an import take their checks in order; what a set takes is told by its own entries. -/
theorem basisSets : Obligations.BasisSets := by
  intro s dt u
  have start (m : Fin 17) (k : Fin 8) (hm : u.masterPresent m = true) (hr : u.dev.ready = true) :
      exec (.startMeasurement dt m k) s = .next ((opMeasure k (k : Nat) u).1.answer m 0x4200 3 (opMeasure k (k : Nat) u).2) :=
    (hostCommand_open hm hr measureRows.1 (measureRows.2.2.2.2 k) : execStartMeasurement dt m k s = _)
  have abort (m : Fin 17) (hm : u.masterPresent m = true) (hr : u.dev.ready = true) :
      exec (.abortMeasurement dt m) s = .next ((opAbortMeasurement 1 u).1.answer m 0x4200 4 (opAbortMeasurement 1 u).2) :=
    (hostCommand_open hm hr measureRows.2.1 measureRows.2.2.2.1 : execAbortMeasurement dt m s = _)
  have imports (m : Fin 17) {k t p : Nat} (hk : k < 256) (ht : t < 16) (hp : p < 16) (hm : u.masterPresent m = true) (hr : u.dev.ready = true) :
      exec (.importCapturePlane dt m (k * 256 + t * 16 + p)) s =
        .next ((opImport (importWord k t p) u).1.answer m 0x4200 6 (opImport (importWord k t p) u).2) :=
    (hostCommand_open hm hr measureRows.2.2.1 (importVerdict hk ht hp) : execImportCapturePlane dt m (k * 256 + t * 16 + p) s = _)
  have e : s.pass dt = u := rfl
  clear_value u
  refine ⟨fun k b => ?takes, fun m k hm hr => ?starts, fun q hq => ⟨fun m hm hr => ?aborts, fun hc hg ha => ?boundary, fun hg hd hp => ?dark,
    fun hg hd hp => ?white, fun hp => ?result⟩, fun m k t p hk ht hp hm hr => ?importing, fun k hi => ?imported,
    fun k => ⟨fun h3 => ?norWritten, fun hst hl => ?loaded, fun hst hl => ?lost⟩, fun r hw => ?recipe⟩
  case takes =>
    refine ⟨?_, u.takeBasis_state k.isLt b, u.takeBasis_length k.isLt b, (u.takeBasis_writes k.isLt b).touch, fun j hj => ?_⟩
    · rw [u.takeBasis_basis k.isLt, if_pos rfl]
    · rw [u.takeBasis_basis k.isLt, if_neg (fun h => hj (Fin.ext h.symm))]
  case starts =>
    have hop := start m k hm hr
    intro tables groups bad busy
    refine ⟨fun h => ?_, fun h hb => ?_, fun h hb hbad => ?_, fun h hb hbad => ?_⟩
    · rw [hop, opMeasure_wrongState _ _ _ h]
    · rw [hop, opMeasure_busy _ _ _ h hb]
    · have hbad' : u.measureCheck.code ≠ 0 := hbad
      rw [hop, opMeasure_checked _ _ _ h hb, if_pos hbad']
      rfl
    · have hbad' : ¬ u.measureCheck.code ≠ 0 := not_not.mpr hbad
      rw [hop, opMeasure_checked _ _ _ h hb, if_neg hbad']
      have hspec := u.measureStarted_spec k m
      generalize u.measureStarted k = q at hspec ⊢
      exact ⟨_, _, rfl, hspec⟩
  case aborts =>
    rw [abort m hm hr, opAbortMeasurement_some hq]
    refine ⟨fun hg => ?_, fun hg => ?_⟩
    · rw [if_pos hg, State.measureAbort_some hq]
    · rw [if_neg (by rw [hg]; decide)]
      rfl
  case boundary => rw [exec_captureLineCycle_aborting e hq hc hg ha, State.measureAbort_some hq]
  case dark =>
    have hst : (u.wr 0x4200 5 2).rd 0x4200 5 = 2 := by
      rw [State.rd_wr_self _ _ (by decide), basisTypes.1]
      rfl
    rw [exec_measurementPhaseDone e hq hg hd, if_pos hp]
    exact ⟨_, _, rfl, rfl, rfl, hst, rfl, rfl⟩
  case white =>
    have hst : (u.wr 0x4200 5 4).rd 0x4200 5 = 4 := by
      rw [State.rd_wr_self _ _ (by decide), basisTypes.1]
      rfl
    rw [exec_measurementPhaseDone e hq hg hd, if_neg (by rw [hp]; decide), if_pos hp]
    obtain ⟨hn, hall⟩ := u.measureTable_count q
    have hresp := u.measureTable_resp q
    dsimp only
    rw [hn, hall]
    by_cases h : q.table + 1 < q.tables
    · rw [if_pos h]
      exact ⟨_, _, rfl, rfl, rfl, hresp, fun _ => ⟨rfl, rfl⟩, fun hle => absurd h (Nat.not_lt.mpr hle)⟩
    · rw [if_neg h]
      exact ⟨_, _, rfl, rfl, rfl, hresp, fun hlt => absurd hlt h, fun _ => ⟨rfl, hst⟩⟩
  case result =>
    intro d fails
    have hf : u.measureFailed d = fails := rfl
    have hex := exec_measurementComplete e hq hp
    dsimp only at hex
    have hset : q.set = d.set := rfl
    have hd : q.completing u = d := rfl
    rw [hd, hf] at hex
    rw [hset]
    clear_value d fails
    by_cases h : fails = true
    · rw [if_pos h] at hex
      obtain ⟨h1, h2, h3, h4⟩ := u.measureFail_spec d
      exact ⟨_, hex, h1, fun _ => ⟨h2, h3, h4⟩, fun hno => absurd (h.symm.trans hno) (by decide)⟩
    · rw [if_neg h] at hex
      obtain ⟨h1, h2, h3, h4⟩ := u.measureKept_spec d (ite_eq_or_eq (d.skipped = [] ∧ d.darkBad = [] ∧ d.bad.all (fun l => l.isEmpty)) 5 6)
      exact ⟨_, hex, h1, fun hyes => absurd hyes h, fun _ => ⟨h2, h3, h4⟩⟩
  case importing =>
    have hop := imports m hk ht hp hm hr
    dsimp only
    rw [hop]
    refine ⟨fun h => ?_, fun hk8 ht6 hp4 hb => ?_, fun hk8 ht6 hp4 hb hn => ?_, fun b hk8 ht6 hp4 hb hs => ?_⟩
    · rw [opImport_range u k t p hk ht hp h]
    · rw [opImport_busy u k t p hk ht hp hk8 ht6 hp4 hb]
    · rw [opImport_none u k t p hk ht hp hk8 ht6 hp4 hb hn]
    · rw [opImport_some u k t p hk ht hp hk8 ht6 hp4 hb hs]
  case imported =>
    refine (event_at e rfl : execImportComplete dt s = _).trans (congrArg _ ?_)
    simp only [hi]
  case norWritten =>
    refine ⟨_, (event_at e (decide_eq_true h3) : execBasisNorWriteDone dt k s = _), ?_, ?_, ?_⟩
    · rw [State.showBasisFree_state k.isLt, State.basisState_wr _ k.isLt (by decide)]
    · exact (u.basis_updBasis k.isLt _ k).trans (if_pos rfl)
    · exact (((Writes.updBasis (.refl _ u) _).wr (by omega) (.inl ⟨rfl, rfl⟩)).showBasisFree (.inr ⟨rfl, rfl⟩)).touch
  case loaded =>
    have hdue : (u.rcp.stood && decide (u.loadOrder.head? = some k.val)) = true := by rw [hst, decide_eq_true hl]; rfl
    exact (event_at e hdue : execBasisSetLoadDone dt k true s = _)
  case lost =>
    have hdue : (u.rcp.stood && decide (u.loadOrder.head? = some k.val)) = true := by rw [hst, decide_eq_true hl]; rfl
    exact ⟨_, (event_at e hdue : execBasisSetLoadDone dt k false s = _), u.basisLost_spec k.isLt⟩
  case recipe =>
    have ht := basisTypes.2.2 r
    have hr := r.isLt
    have hrd : (u.wr 0x4240 (r + 1) 1).rd 0x4240 (r + 1) = 1 := by
      rw [State.rd_wr_self _ _ (by omega), ht]
      rfl
    refine ⟨_, (event_at e hw : execRecipeNorWriteDone dt r s = _), ?_⟩
    have hbit (w : Nat) : bit (setBit w r false) r = false := by rw [bit_setBit, if_pos rfl]
    have hnor : vget (vupd u.rcp.norRecipes r (fun _ => vget u.rcp.recipes r)) r = vget u.rcp.recipes r := by
      rw [vget_vupd, if_pos ⟨rfl, hr⟩]
    by_cases h2 : u.rd 0x4240 (r + 1) = 2
    · rw [if_pos h2]
      exact ⟨hnor, rfl, hbit _, fun h => absurd h2 h, fun _ => h2, .of_dict rfl⟩
    · rw [if_neg h2]
      exact ⟨hnor, rfl, hbit _, fun _ => hrd, fun h => absurd h h2, .trans (.wr u _ (by omega) ⟨rfl, rfl⟩) (.of_dict rfl)⟩

end Sys2Proof
end
section
/-! ## Arming, blends and switches (R152 to R161) -/
set_option Elab.async false
namespace Sys2Proof.Machine

/-! ### Answers -/

/-- The entries that an answer may write, and those of the level events that its reply may raise. -/
def answeredEntry (i j : Nat) : Prop := i = 0x2010 ∨ i = 0x2014 ∨ (0x5800 ≤ i ∧ i < 0x5810) ∨ queueEntry i j

section
variable {P : Nat → Nat → Prop} {s t : State}

theorem Writes.record (h : Writes P s t) (hp : ∀ i j, i = 0x2010 ∨ i = 0x2014 → P i j) {m idx sub code : Nat} (hm : m < 17) :
    Writes P s (t.record m idx sub code) := by
  unfold State.record
  dsimp only
  have h2 : Writes P s (t.bump 0x2010 2) := h.bump (by decide) (hp _ _ (.inl rfl))
  have h3 : Writes P s (if 2 ≤ code then (t.bump 0x2010 2).bump 0x2010 3 else t.bump 0x2010 2) :=
    .ite (h2.bump (by decide) (hp _ _ (.inl rfl))) h2
  generalize (if 2 ≤ code then (t.bump 0x2010 2).bump 0x2010 3 else t.bump 0x2010 2) = a at h3
  have h4 : Writes P s (if code = 1 then a.bump 0x2010 4 else a) := .ite (h3.bump (by decide) (hp _ _ (.inl rfl))) h3
  exact .ite h4 (h4.wr (by omega) (hp _ _ (.inr rfl)))

theorem Writes.respond (h : Writes P s t) (hp : ∀ i j, answeredEntry i j → P i j) {m code : Nat} {vals : List Int} {data : List Byte}
    (hm : m < 17) : Writes P s (t.respond m code vals data) := by
  have hq (i j : Nat) (h : queueEntry i j) : P i j := hp i j (.inr (.inr (.inr h)))
  unfold State.respond
  extract_lets a b c
  have ha : Writes P s a := by
    by_cases h0 : m = 0
    · simpa [a, h0] using h
    · have hw := h.wakeLink (n := m - 1) (hp _ _ (.inr (.inr (.inl ⟨by omega, by omega⟩))))
      simpa [a, h0] using hw
  have hb : Writes P s b := ha.eq rfl rfl
  split
  · exact hb
  · have hc : Writes P s c := hb.pushControl hq (by omega)
    exact .ite hc (hc.eq rfl rfl)

theorem Writes.answer (h : Writes P s t) (hp : ∀ i j, answeredEntry i j → P i j) {m idx sub code : Nat} (hm : m < 17) :
    Writes P s (t.answer m idx sub code) :=
  (h.record (fun i j h => hp i j (h.imp id .inl)) hm).respond hp hm

end

/-- R39, R42: an answered state reads every other entry, and presents every event, as before. -/
theorem State.answer_writes (s : State) {m : Nat} (hm : m < 17) (idx sub code : Nat) : Writes answeredEntry s (s.answer m idx sub code) :=
  (Writes.refl answeredEntry s).answer (fun _ _ h => h) hm

theorem State.answer_same (s : State) {p : Part} (hp : Off p 0x40000534) (m idx sub code : Nat) : p.Same s (s.answer m idx sub code) :=
  (State.answer_keeps (.refl p s) hp m idx sub code).same


/-! ### Swaps (R127) -/

/-- The entries that a swap writes. -/
def swapEntry (i _ : Nat) : Prop := i = 0x4000 ∨ i = 0x2800 + 842

section
variable (s : State) (t line r : Nat)

/-- R127: the bank entries of a swap. -/
def State.swapShown (s : State) (t : Nat) : State :=
  (((((s.wr 0x4000 1 s.shadow).wr 0x4000 3 2).bump 0x4000 0xA).wr 0x4000 0xB t).wr 0x4000 (6 + s.shadow) 0).wr 0x4000 (6 + s.activeBank) 0

/-- R127: the swap before the match mask is shown. -/
def State.swapTaken (s : State) (t line r : Nat) : State :=
  { s.swapShown t with sh := { s.sh with swapAt := none, change := some ⟨line, s.shadow, r⟩, parityTold := false } }

theorem State.doSwap_eq : ∃ mask : Nat, s.doSwap t line r = ((s.swapTaken t line r).wr 0x4000 0xE mask).raise1 842 0 := ⟨_, rfl⟩

theorem State.swapTaken_rd (i j : Nat) : (s.swapTaken t line r).rd i j = (s.swapShown t).rd i j := by
  unfold State.swapTaken
  generalize s.swapShown t = w
  rfl

theorem tyAt_activeBank : tyAt 0x4000 1 = .u8 := by decide +kernel

section
variable (h : s.activeBank ≤ 1)
include h

theorem State.swapShown_writes : Writes swapEntry s (s.swapShown t) := by
  have hs := s.shadow_lt
  have h0 (j : Nat) : swapEntry 0x4000 j := .inl rfl
  exact ((((((Writes.refl swapEntry s).wr (by decide) (h0 1)).wr (by decide) (h0 3)).bump (by decide) (h0 _)).wr (by decide) (h0 _)).wr
    (by omega) (h0 _)).wr (by omega) (h0 _)

theorem State.doSwap_writes : Writes swapEntry s (s.doSwap t line r) := by
  obtain ⟨mask, he⟩ := s.doSwap_eq t line r
  rw [he]
  have ht : Writes swapEntry s (s.swapTaken t line r) := by
    have hw := s.swapShown_writes t h
    unfold State.swapTaken
    generalize s.swapShown t = w at hw ⊢
    exact hw.eq rfl rfl
  exact (ht.wr (by decide) (.inl rfl)).raise1 (fun _ => .inr rfl)

theorem State.doSwap_active : (s.doSwap t line r).activeBank = s.shadow := by
  have hs := s.shadow_lt
  obtain ⟨mask, he⟩ := s.doSwap_eq t line r
  have hrd : ((s.swapTaken t line r).wr 0x4000 0xE mask).rd 0x4000 1 = (s.wr 0x4000 1 s.shadow).rd 0x4000 1 := by
    rw [State.rd_wr_at _ _ (by decide) (by decide), if_neg (by decide)]
    rw [State.swapTaken_rd]
    unfold State.swapShown
    rw [State.rd_wr_at _ _ (by omega) (by decide), if_neg (by omega), State.rd_wr_at _ _ (by omega) (by decide), if_neg (by omega),
      State.rd_wr_at _ _ (by decide) (by decide), if_neg (by decide), State.rd_bump_at _ _ (by decide) (by decide), if_neg (by decide),
      State.rd_wr_at _ _ (by decide) (by decide), if_neg (by decide)]
  rw [State.activeBank, State.rdN, he, State.raise1, State.rd_raise _ _ _ (by decide) (by decide), hrd, State.rd_wr_self _ _ (by decide),
    tyAt_activeBank, Ty.wrap_u8]
  omega

end

theorem State.doSwap_presents : (s.doSwap t line r).Presents 842 := by
  obtain ⟨mask, he⟩ := s.doSwap_eq t line r
  rw [he]
  exact State.presents_raise1 _ 842 0

theorem State.doSwap_sh : (s.doSwap t line r).sh = { s.sh with swapAt := none, change := some ⟨line, s.shadow, r⟩, parityTold := false } := by
  obtain ⟨mask, he⟩ := s.doSwap_eq t line r
  have hr : (((s.swapTaken t line r).wr 0x4000 0xE mask).raise1 842 0).sh = ((s.swapTaken t line r).wr 0x4000 0xE mask).sh :=
    (State.raise1_keeps (.refl .sh _) rfl 842 0).same
  rw [he, hr]
  rfl

/-- R127: outside exposures no change waits for a line cycle. -/
def State.settled (s : State) : State := { s with sh := { s.sh with change := none } }

theorem State.swapNow_eq : s.swapNow r = ((s.doSwap s.fine 0 r).groupsTake r).settled := by
  rw [State.swapNow, State.groupsTake, State.settled]

/-- R127: what every group takes is no entry and no event. -/
theorem State.groupsTake_writes : Writes (fun _ _ => False) s (s.groupsTake r) :=
  (Writes.refl (fun _ _ => False) s).each (fun _ _ _ h => h.updGroup)

theorem State.settled_writes : Writes (fun _ _ => False) s s.settled := (Writes.refl _ s).eq rfl rfl

/-- R127: what follows a swap at once writes and raises nothing. -/
theorem State.swapNow_after : Writes (fun _ _ => False) (s.doSwap s.fine 0 r) (s.swapNow r) := by
  rw [s.swapNow_eq]
  exact (State.groupsTake_writes _ r).trans (State.settled_writes _)

theorem State.swapNow_writes (h : s.activeBank ≤ 1) : Writes swapEntry s (s.swapNow r) :=
  (s.doSwap_writes s.fine 0 r h).trans ((s.swapNow_after r).mono (fun _ _ h => h.elim))

theorem State.swapNow_active (h : s.activeBank ≤ 1) : (s.swapNow r).activeBank = s.shadow :=
  (State.activeBank_congr ((s.swapNow_after r).rd (by decide) (fun h => h))).1.trans (s.doSwap_active s.fine 0 r h)

theorem State.swapNow_presents : (s.swapNow r).Presents 842 := (s.swapNow_after r).presents (s.doSwap_presents s.fine 0 r)

theorem State.swapNow_rcp : (s.swapNow r).rcp = s.rcp := (State.swapNow_keeps (.refl .rcp s) rfl r).same

theorem State.swapNow_fine : (s.swapNow r).fine = s.fine := by
  have hn : (s.swapNow r).now = s.now := (State.swapNow_keeps (.refl .now s) rfl r).same
  have hc : (s.swapNow r).compassOff = s.compassOff := (State.swapNow_keeps (.refl .compassOff s) rfl r).same
  rw [State.fine, hn, hc]
  rfl

end

/-! ### The switch (R155 to R159) -/

theorem switchTypes : tyAt 0x4210 1 = .u8 ∧ tyAt 0x4210 2 = .u16 ∧ tyAt 0x4210 0xA = .u8 ∧ tyAt 0x4210 0xB = .u8 ∧ tyAt 0x4210 0xC = .u32 ∧
    tyAt 0x4210 0xD = .u32 ∧ tyAt 0x4210 0xE = .u64 ∧ tyAt 0x4210 0x12 = .u32 ∧ tyAt 0x4210 0x14 = .u32 := by decide +kernel

/-- R156: the new recipe and job are taken. -/
def State.switchTaken (s : State) (a : Armed) (job : Nat) : State :=
  let s := ((s.setArmed none).wr 0x4210 1 a.recipe).wr 0x4210 2 job
  { s with rcp := { s.rcp with startupDue := false } }

/-- R156: line cycle, deferral and time of a switch. -/
def State.switchTimes (s : State) (line late t : Int) : State := ((s.wr 0x4210 0xC line).wr 0x4210 0xD late).wr 0x4210 0xE t

/-- R156: the banks are swapped outside exposures. -/
def State.switchNow (s : State) (a : Armed) : State := (s.swapNow a.recipe).switchTimes 0 0 s.fine

/-- R156: the banks are swapped at a trigger. -/
def State.switchAt (s : State) (a : Armed) (line t late : Nat) : State :=
  (s.doSwap t line a.recipe).switchTimes line late t

/-- R157: a switch of this arming is recorded for its first line. -/
def State.switchRecorded (s : State) (a : Armed) (line t late : Nat) (pos : Int) (job old oldJob : Nat) : State :=
  if a.startup then s
  else
    let window := some (pos, s.cLine (rMd (s.recipe a.recipe)), s.rdN 0x5A30 1)
    { s with
      trm := { s.trm with switchAt := window }
      rcp := { s.rcp with switches := s.rcp.switches ++
        [(⟨line, pos, a.recipe, job, old, oldJob, a.source, late, t⟩ : Switched)] } }

/-- R156: the switch is shown. -/
def State.switchShown (s : State) (a : Armed) : State :=
  let s := (s.switchStatus 6).showGrid
  if a.startup then s else (s.bump 0x4210 0x12).raise1 845 0

/-- R156: the job of a switch. -/
def State.switchJob (s : State) (a : Armed) : Nat := if a.startup then s.rdN 0x4210 2 else a.job

section
variable (s : State) (a : Armed)

theorem State.makeSwitch_standby : s.makeSwitch a none = ((s.switchTaken a (s.switchJob a)).switchNow a).switchShown a := by
  unfold State.makeSwitch State.switchShown State.switchNow State.switchTimes State.switchTaken State.switchJob
  dsimp only

theorem State.makeSwitch_trigger (line t : Nat) (pos : Int) : ∃ late : Nat, s.makeSwitch a (some (line, t, pos)) =
    (((s.switchTaken a (s.switchJob a)).switchAt a line t late).switchRecorded a line t late pos (s.switchJob a) s.activeRecipe
      (s.rdN 0x4210 2)).switchShown a := by
  unfold State.makeSwitch State.switchShown State.switchRecorded State.switchAt State.switchTimes State.switchTaken State.switchJob
  dsimp only
  exact ⟨_, rfl⟩

theorem State.switchTaken_rd (job : Nat) {i j : Nat} (hj : j < 256) : (s.switchTaken a job).rd i j =
    if i = 0x4210 ∧ j = 2 then (job : Int) % 2 ^ 16 else if i = 0x4210 ∧ j = 1 then (a.recipe : Int) % 2 ^ 8 else s.rd i j := by
  obtain ⟨h1, h2, -⟩ := switchTypes
  show (((s.setArmed none).wr 0x4210 1 a.recipe).wr 0x4210 2 job).rd i j = _
  rw [State.rd_wr_at _ _ (by decide) hj, State.rd_wr_at _ _ (by decide) hj, h1, h2, Ty.wrap_u8, Ty.wrap_u16]
  simp only [eq_comm (b := i), eq_comm (b := j)]
  rfl

theorem State.switchTimes_rd (line late t : Int) {i j : Nat} (hj : j < 256) : (s.switchTimes line late t).rd i j =
    if i = 0x4210 ∧ j = 0xE then t % 2 ^ 64 else if i = 0x4210 ∧ j = 0xD then late % 2 ^ 32 else
      if i = 0x4210 ∧ j = 0xC then line % 2 ^ 32 else s.rd i j := by
  obtain ⟨-, -, -, -, hC, hD, hE, -⟩ := switchTypes
  rw [State.switchTimes, State.rd_wr_at _ _ (by decide) hj, State.rd_wr_at _ _ (by decide) hj, State.rd_wr_at _ _ (by decide) hj, hC, hD, hE,
    Ty.wrap_u32, Ty.wrap_u32, Ty.wrap_u64]
  simp only [eq_comm (b := i), eq_comm (b := j)]

/-- What a switch shows beside its own entry. -/
def shownEntry (i j : Nat) : Prop := (i = 0x4442 ∧ j = 3) ∨ (i = 0x4441 ∧ j = 3) ∨ i = 0x2800 + 845

theorem Writes.showGrid {P : Nat → Nat → Prop} {s t : State} (h : Writes P s t) (hp : ∀ i j, shownEntry i j → P i j) : Writes P s t.showGrid :=
  (h.wr (by decide) (hp _ _ (.inl ⟨rfl, rfl⟩))).wr (by decide) (hp _ _ (.inr (.inl ⟨rfl, rfl⟩)))

theorem State.switchShown_rd {j : Nat} (hj : j < 256) {i : Nat} (hi : i = 0x4210 ∨ i = 0x4000) : (s.switchShown a).rd i j =
    if i = 0x4210 ∧ j = 0x12 ∧ a.startup = false then (s.rd 0x4210 0x12 + 1) % 2 ^ 32
    else if i = 0x4210 ∧ j = 0xA then 6 else s.rd i j := by
  obtain ⟨-, -, hA, -, -, -, -, hN, -⟩ := switchTypes
  have hg : Writes shownEntry (s.switchStatus 6) (s.switchStatus 6).showGrid := (Writes.refl _ _).showGrid (fun _ _ h => h)
  have hrd {j : Nat} (hj : j < 256) {i : Nat} (hi : i = 0x4210 ∨ i = 0x4000) : (s.switchStatus 6).showGrid.rd i j =
      if i = 0x4210 ∧ j = 0xA then 6 else s.rd i j := by
    rw [hg.rd hj (by unfold shownEntry; omega), State.switchStatus, State.rd_wr_at _ _ (by decide) hj, hA]
    simp only [eq_comm (b := i), eq_comm (b := j)]
    rfl
  unfold State.switchShown
  generalize (s.switchStatus 6).showGrid = g at hrd
  dsimp only
  by_cases hs : a.startup = true
  · rw [if_pos hs, hrd hj hi, hs]
    simp
  · rw [if_neg hs, State.raise1, State.rd_raise _ _ _ hj (by omega), State.rd_bump_at _ _ (by decide) hj, hN, Ty.wrap_u32, hrd (by decide) (.inl rfl),
      hrd hj hi, Bool.eq_false_iff.mpr hs]
    simp [eq_comm (a := 0x4210), eq_comm (a := 0x12)]

theorem State.switchShown_presents {k : Nat} (h : s.Presents k) : (s.switchShown a).Presents k := by
  unfold State.switchShown
  dsimp only
  have hg : (s.switchStatus 6).showGrid.Presents k := h
  generalize (s.switchStatus 6).showGrid = g at hg
  split
  · exact hg
  · exact State.Presents.raise1 (s := g.bump 0x4210 0x12) hg 845 0

theorem State.switchShown_raises (h : a.startup = false) : (s.switchShown a).Presents 845 := by
  unfold State.switchShown
  rw [if_neg (by rw [h]; decide)]
  exact State.presents_raise1 _ 845 0

theorem State.switchShown_same {p : Part} (hp : Off p 0x24) : p.Same s (s.switchShown a) := by
  have hg : Keeps p s (s.switchStatus 6).showGrid := State.showGrid_keeps (State.switchStatus_keeps (.refl p s) (hp.sub rfl) 6) (hp.sub rfl)
  unfold State.switchShown
  exact (Keeps.ite hg (State.raise1_keeps (hg.bump (hp.sub rfl) 0x4210 0x12 1) (hp.sub rfl) 845 0)).same

/-- R127, R156: the same swap of the state in which the recipe and the job are taken. -/
theorem State.switchTaken_bank (job : Nat) : (s.switchTaken a job).activeBank = s.activeBank ∧ (s.switchTaken a job).shadow = s.shadow :=
  State.activeBank_congr (by
    rw [s.switchTaken_rd a job (by decide), if_neg (by decide), if_neg (by decide)])

/-- R156: what a swap made for a switch, with its times and its record, leaves of the bank and the switch entry. -/
structure SwitchSwapped (s t : State) (line late time : Int) : Prop where
  rd (j : Nat) : j < 256 → t.rd 0x4210 j = if j = 0xE then time % 2 ^ 64 else if j = 0xD then late % 2 ^ 32 else
    if j = 0xC then line % 2 ^ 32 else s.rd 0x4210 j
  active : t.activeBank = s.shadow
  presents : t.Presents 842

theorem SwitchSwapped.of_swap {w : State} (hw : Writes swapEntry s w) (hact : w.activeBank = s.shadow) (hp : w.Presents 842) (line late t : Int) :
    SwitchSwapped s (w.switchTimes line late t) line late t where
  rd j hj := by
    rw [w.switchTimes_rd line late t hj, hw.rd hj (by unfold swapEntry; omega)]
    simp only [true_and]
  active := by
    rw [← hact]
    refine (State.activeBank_congr ?_).1
    rw [w.switchTimes_rd line late t (by decide), if_neg (by decide), if_neg (by decide), if_neg (by decide)]
  presents := hp

theorem State.switchNow_swapped (h : s.activeBank ≤ 1) : SwitchSwapped s (s.switchNow a) 0 0 s.fine :=
  .of_swap s (s.swapNow_writes a.recipe h) (s.swapNow_active a.recipe h) (s.swapNow_presents a.recipe) 0 0 _

theorem State.switchAt_swapped (line t late : Nat) (h : s.activeBank ≤ 1) : SwitchSwapped s (s.switchAt a line t late) line late t :=
  .of_swap s (s.doSwap_writes t line a.recipe h) (s.doSwap_active t line a.recipe h) (s.doSwap_presents t line a.recipe) line late t

/-- The record of a switch is no entry and no event. -/
theorem State.switchRecorded_writes (line t late : Nat) (pos : Int) (job old oldJob : Nat) :
    Writes (fun _ _ => False) s (s.switchRecorded a line t late pos job old oldJob) :=
  .ite (.refl _ s) ((Writes.refl _ s).eq rfl rfl)

theorem SwitchSwapped.recorded {s t : State} {line late time : Int} (h : SwitchSwapped s t line late time) (n tm lt : Nat) (pos : Int)
    (job old oldJob : Nat) : SwitchSwapped s (t.switchRecorded a n tm lt pos job old oldJob) line late time where
  rd j hj := ((t.switchRecorded_writes a n tm lt pos job old oldJob).rd hj (fun h => h)).trans (h.rd j hj)
  active := (State.activeBank_congr ((t.switchRecorded_writes a n tm lt pos job old oldJob).rd (by decide) (fun h => h))).1.trans h.active
  presents := (t.switchRecorded_writes a n tm lt pos job old oldJob).presents h.presents

/-- R156: a switch, its banks swapped, is shown. -/
theorem State.switchShown_spec {u w : State} {line late time : Int} (job : Nat) (h : SwitchSwapped (u.switchTaken a job) w line late time)
    (hr : a.recipe < 256) : let t := w.switchShown a
    t.activeRecipe = a.recipe ∧ t.activeBank = u.shadow ∧ t.rd 0x4210 0xA = 6 ∧ t.Presents 842 ∧ t.rd 0x4210 2 = (job : Int) % 2 ^ 16 ∧
      (a.startup = false → t.rd 0x4210 0x12 = (u.rd 0x4210 0x12 + 1) % 2 ^ 32 ∧ t.Presents 845) ∧
      (a.startup = true → t.rd 0x4210 0x12 = u.rd 0x4210 0x12) ∧
      t.rd 0x4210 0xC = line % 2 ^ 32 ∧ t.rd 0x4210 0xD = late % 2 ^ 32 ∧ t.rd 0x4210 0xE = time % 2 ^ 64 := by
  have hrd (j : Nat) (hj : j < 256) := h.rd j hj
  have hact := h.active
  have hp := h.presents
  have htk (j : Nat) (hj : j < 256) := u.switchTaken_rd a job (i := 0x4210) hj
  have hN : w.rd 0x4210 0x12 = u.rd 0x4210 0x12 := (hrd 0x12 (by decide)).trans (htk 0x12 (by decide))
  rw [(u.switchTaken_bank a job).2] at hact
  have hsh (j : Nat) (hj : j < 256) := w.switchShown_rd a hj (i := 0x4210) (.inl rfl)
  have hsh0 := w.switchShown_rd a (j := 1) (i := 0x4000) (by decide) (.inr rfl)
  have hpr := w.switchShown_presents a hp
  have hraise (hs : a.startup = false) := w.switchShown_raises a hs
  generalize w.switchShown a = t at *
  have hone : t.rd 0x4210 1 = (a.recipe : Int) % 2 ^ 8 := (hsh 1 (by decide)).trans ((hrd 1 (by decide)).trans (htk 1 (by decide)))
  refine ⟨?_, ?_, (hsh 0xA (by decide)).trans ?_, hpr, (hsh 2 (by decide)).trans ((hrd 2 (by decide)).trans (htk 2 (by decide))),
    fun hs => ⟨?_, hraise hs⟩, fun hs => ?_, (hsh 0xC (by decide)).trans (hrd 0xC (by decide)), (hsh 0xD (by decide)).trans (hrd 0xD (by decide)),
    (hsh 0xE (by decide)).trans (hrd 0xE (by decide))⟩
  · rw [State.activeRecipe, State.rdN, hone]
    omega
  · rw [← hact]
    refine (State.activeBank_congr (hsh0.trans ?_)).1
    rw [if_neg (by omega), if_neg (by omega)]
  · rw [if_neg (by omega), if_pos ⟨rfl, rfl⟩]
  · rw [hsh 0x12 (by decide), if_pos ⟨rfl, rfl, hs⟩, hN]
  · rw [hsh 0x12 (by decide), if_neg (by rw [hs]; simp), if_neg (by omega), hN]

end

/-! ### Dropping and arming (R152 to R154, R161) -/

theorem bankTypes (b : Nat) (hb : b < 2) : tyAt 0x4000 (4 + b) = .u8 ∧ tyAt 0x4000 (6 + b) = .u8 := captureTypes.2.2 ⟨b, hb⟩

section
variable {s : State} {a : Armed} (ha : s.rcp.armed = some a)
include ha

theorem State.dropArmed_blending (hp : a.phase = 2) (st r : Nat) : s.dropArmed st r =
    ((((s.setArmed none).switchStatus st).wr 0x4210 0xB r).spoilShadow).raise1 848 0 := by
  unfold State.dropArmed
  rw [ha]
  exact if_pos hp

theorem State.dropArmed_waiting (hp : a.phase ≠ 2) (st r : Nat) : s.dropArmed st r = ((s.setArmed none).switchStatus st).holdShadow 0 := by
  unfold State.dropArmed
  rw [ha]
  exact if_neg hp

/-- R152: a blend that ends without a switch spoils the shadow. -/
theorem State.dropArmed_blending_spec (hp : a.phase = 2) {st : Nat} (hst : st < 256) (r : Nat) : let t := s.dropArmed st r
    t.rcp.armed = none ∧ t.rd 0x4210 0xA = st ∧ t.rd 0x4210 0xB = (r : Int) % 2 ^ 8 ∧ t.bankState s.shadow = 3 ∧ t.bankHolder s.shadow = 0 ∧
      t.Presents 848 ∧ t.activeRecipe = s.activeRecipe := by
  obtain ⟨-, -, hA, hB, -⟩ := switchTypes
  have hlt := s.shadow_lt
  dsimp only
  rw [State.dropArmed_blending ha hp]
  generalize hb : ((s.setArmed none).switchStatus st).wr 0x4210 0xB r = b
  have hrd {j : Nat} (hj : j < 256) {i : Nat} : b.rd i j =
      if 0x4210 = i ∧ 0xB = j then (r : Int) % 2 ^ 8 else if 0x4210 = i ∧ 0xA = j then (st : Int) % 2 ^ 8 else s.rd i j := by
    rw [← hb, State.rd_wr_at _ _ (by decide) hj, hB, Ty.wrap_u8, State.switchStatus, State.rd_wr_at _ _ (by decide) hj, hA, Ty.wrap_u8]
    rfl
  have hrcp : b.rcp.armed = none := by rw [← hb]; rfl
  have hsh : b.shadow = s.shadow := (State.activeBank_congr ((hrd (by decide)).trans (by rw [if_neg (by decide), if_neg (by decide)]))).2
  clear hb
  obtain ⟨hstate, hholder⟩ := b.setBank_spec (b := s.shadow) (st := 3) (holder := 0) hlt (by decide) (by decide)
  have hsp : b.spoilShadow = b.setBank s.shadow 3 0 := by rw [State.spoilShadow, hsh]
  have hset {j : Nat} (hj : j < 256) : (b.setBank s.shadow 3 0).rd 0x4210 j = b.rd 0x4210 j := b.setBank_rd hlt hj (by omega)
  rw [hsp]
  have hrcp' : (b.setBank s.shadow 3 0).rcp = b.rcp := rfl
  generalize b.setBank s.shadow 3 0 = c at *
  have hw : Writes (fun i _ => i = 0x2800 + 848) c (c.raise1 848 0) := (Writes.refl _ c).raise1 (fun _ => rfl)
  have hpr := c.presents_raise1 848 0
  have hr : (c.raise1 848 0).rcp = c.rcp := (State.raise1_keeps (.refl .rcp c) rfl 848 0).same
  generalize c.raise1 848 0 = t at *
  have hend {j : Nat} (hj : j < 256) : t.rd 0x4210 j = b.rd 0x4210 j := (hw.rd hj (by decide)).trans (hset hj)
  refine ⟨by rw [hr, hrcp', hrcp], ?_, ?_, ?_, ?_, hpr, ?_⟩
  · rw [hend (by decide), hrd (by decide), if_neg (by decide), if_pos (by decide)]
    omega
  · rw [hend (by decide), hrd (by decide), if_pos (by decide)]
  · rw [← hstate, State.bankState, State.rdN, hw.rd (by omega) (by decide)]
    rfl
  · rw [← hholder, State.bankHolder, State.rdN, hw.rd (by omega) (by decide)]
    rfl
  · rw [State.activeRecipe, State.rdN, hend (by decide), hrd (by decide), if_neg (by decide), if_neg (by decide)]
    rfl

/-- R152: an arming that ends before or after its blend gives the shadow back as it is. -/
theorem State.dropArmed_waiting_spec (hp : a.phase ≠ 2) {st : Nat} (hst : st < 256) (r : Nat) : let t := s.dropArmed st r
    t.rcp.armed = none ∧ t.rd 0x4210 0xA = st ∧ t.shadow = s.shadow ∧ t.bankHolder s.shadow = 0 ∧
      t.bankState s.shadow = s.bankState s.shadow := by
  obtain ⟨-, -, hA, -⟩ := switchTypes
  have hlt := s.shadow_lt
  obtain ⟨-, h6⟩ := bankTypes s.shadow hlt
  dsimp only
  rw [State.dropArmed_waiting ha hp]
  generalize hb : (s.setArmed none).switchStatus st = b
  have hrd {j : Nat} (hj : j < 256) {i : Nat} : b.rd i j = if 0x4210 = i ∧ 0xA = j then (st : Int) % 2 ^ 8 else s.rd i j := by
    rw [← hb, State.switchStatus, State.rd_wr_at _ _ (by decide) hj, hA, Ty.wrap_u8]
    rfl
  have hrcp : b.rcp.armed = none := by rw [← hb]; rfl
  have hsh : b.shadow = s.shadow := (State.activeBank_congr ((hrd (by decide)).trans (by rw [if_neg (by decide)]))).2
  clear hb
  have hho {i j : Nat} (hj : j < 256) : (b.wr 0x4000 (6 + s.shadow) 0).rd i j =
      if 0x4000 = i ∧ 6 + s.shadow = j then 0 else b.rd i j := by
    rw [State.rd_wr_at _ _ (by omega) hj, h6]
    rfl
  have hrcp' : (b.wr 0x4000 (6 + s.shadow) 0).rcp = b.rcp := rfl
  rw [State.holdShadow, hsh]
  generalize b.wr 0x4000 (6 + s.shadow) ((0 : Nat) : Int) = t at *
  refine ⟨by rw [hrcp', hrcp], ?_, ?_, ?_, ?_⟩
  · rw [hho (by decide), if_neg (by omega), hrd (by decide), if_pos (by decide)]
    omega
  · rw [← hsh]
    refine (State.activeBank_congr ?_).2
    rw [hho (by decide), if_neg (by omega)]
  · rw [State.bankHolder, State.rdN, hho (by omega), if_pos ⟨rfl, rfl⟩]
    rfl
  · rw [State.bankState, State.rdN, hho (by omega), if_neg (by omega), hrd (by omega), if_neg (by omega)]
    rfl

end

end Sys2Proof.Machine
end
section
set_option Elab.async false
namespace Sys2Proof.Machine

/-! ### The commands of a switch (R153 to R161) -/

theorem switchRows : rowOpen 0x4210 7 = true ∧ rowOpen 0x4210 8 = true ∧ rowOpen 0x4210 9 = true ∧ verdict 0x4210 7 1 = .keep 1 ∧
    verdict 0x4210 8 1 = .keep 1 ∧ verdict 0x4210 9 1 = .keep 1 := by decide +kernel

/-- R154: an arming comes too early for its source or the device's state. -/
def State.armEarly (s : State) : Prop :=
  s.dev.st = .trailhead ∨ s.dev.st = .bivouac ∨ (s.rdN 0x4210 5 = 1 ∧ s.rd 0x2050 1 ≠ 1 ∧ s.rd 0x2050 1 ≠ 2)

/-- R154: an arming finds the shadow or a procedure in its way. -/
def State.armBusy (s : State) : Prop :=
  s.rcp.armed.isSome = true ∨ s.shadowHeld = true ∨ s.sh.capture.isSome = true ∨ s.rcp.measure.isSome = true

/-- R154: what an accepted arm command arms. -/
def State.armedNow (s : State) : Armed := freshArmed (s.rdN 0x4210 3) (s.rdN 0x4210 4) (s.rdN 0x4210 5) (s.rdN 0x4210 6) false

section
variable (s : State) (v : Int)

theorem opArm_early (h : s.armEarly) : opArm v s = (s, 7) := if_pos h

section
variable (he : ¬ s.armEarly)
include he

theorem opArm_busy (h : s.armBusy) : opArm v s = (s, 8) := (if_neg he).trans (if_pos h)

variable (hb : ¬ s.armBusy)
include hb

theorem opArm_notStored (h : s.rd 0x4240 (s.rdN 0x4210 3 + 1) ≠ 1) : opArm v s = (s.report ⟨9,
    if s.rd 0x4240 (s.rdN 0x4210 3 + 1) = 0 then 0 else s.rdN 0x4241 (s.rdN 0x4210 3 + 1), 0, s.rdN 0x4210 3⟩, 10) :=
  (if_neg he).trans ((if_neg hb).trans (if_pos h))

theorem opArm_failed {c : CheckResult} (h : s.rd 0x4240 (s.rdN 0x4210 3 + 1) = 1) (h6 : s.item6 (s.recipe (s.rdN 0x4210 3)) = some c) :
    opArm v s = (s.report c, 10) := by
  refine (if_neg he).trans ((if_neg hb).trans ((if_neg (not_not.mpr h)).trans ?_))
  rw [h6]

theorem opArm_armed (h : s.rd 0x4240 (s.rdN 0x4210 3 + 1) = 1) (h6 : s.item6 (s.recipe (s.rdN 0x4210 3)) = none) :
    opArm v s = (s.beginArm s.armedNow, 0) := by
  refine (if_neg he).trans ((if_neg hb).trans ((if_neg (not_not.mpr h)).trans ?_))
  rw [h6]
  rfl

end

/-- R154: an arming holds the shadow for its blend. -/
theorem State.beginArm_spec (a : Armed) : let t := s.beginArm a
    t.rcp = { s.rcp with armed := some a } ∧ t.rd 0x4210 0xA = 1 ∧ t.bankHolder s.shadow = 3 ∧ t.can = { s.can with blendOk := false } := by
  obtain ⟨-, -, hA, -⟩ := switchTypes
  have hlt := s.shadow_lt
  obtain ⟨-, h6⟩ := bankTypes s.shadow hlt
  unfold State.beginArm
  dsimp only
  generalize hb : (s.setArmed (some a)).switchStatus 1 = b
  have hrd {j : Nat} (hj : j < 256) {i : Nat} : b.rd i j = if 0x4210 = i ∧ 0xA = j then 1 else s.rd i j := by
    rw [← hb, State.switchStatus, State.rd_wr_at _ _ (by decide) hj, hA]
    rfl
  have hrcp : b.rcp = { s.rcp with armed := some a } := by rw [← hb]; rfl
  have hcan : b.can = s.can := by rw [← hb]; rfl
  have hsh : b.shadow = s.shadow := (State.activeBank_congr ((hrd (by decide)).trans (by rw [if_neg (by decide)]))).2
  clear hb
  have hho {i j : Nat} (hj : j < 256) : (b.wr 0x4000 (6 + s.shadow) ((3 : Nat) : Int)).rd i j =
      if 0x4000 = i ∧ 6 + s.shadow = j then 3 else b.rd i j := by
    rw [State.rd_wr_at _ _ (by omega) hj, h6]
    rfl
  have hrcp' : (b.wr 0x4000 (6 + s.shadow) ((3 : Nat) : Int)).rcp = b.rcp := rfl
  have hcan' : (b.wr 0x4000 (6 + s.shadow) ((3 : Nat) : Int)).can = b.can := rfl
  rw [State.holdShadow, hsh]
  generalize b.wr 0x4000 (6 + s.shadow) ((3 : Nat) : Int) = t at *
  refine ⟨hrcp'.trans hrcp, ?_, ?_, by rw [hcan', hcan]⟩
  · show t.rd 0x4210 0xA = 1
    rw [hho (by decide), if_neg (by omega), hrd (by decide), if_pos (by decide)]
  · show (t.rd 0x4000 (6 + s.shadow)).toNat = 3
    rw [hho (by omega), if_pos ⟨rfl, rfl⟩]
    rfl

end

/-! ### Disarming (R160) -/

section
variable {s : State} {a : Armed} (ha : s.rcp.armed = some a)
include ha

theorem opDisarm_fixed (v : Int) (hf : a.fixed = true) : opDisarm v s = (s, 8) := by
  unfold opDisarm
  rw [ha]
  exact if_pos hf

theorem opDisarm_free (v : Int) (hf : a.fixed = false) :
    opDisarm v s = (if a.phase = 3 then (s.dropArmed 8 5).spoilShadow else s.dropArmed 8 5, 0) := by
  unfold opDisarm
  rw [ha]
  exact if_neg (by rw [hf]; decide)

/-- R160: what a disarm leaves of the arming and the shadow. -/
theorem State.disarmed_spec : let t := if a.phase = 3 then (s.dropArmed 8 5).spoilShadow else s.dropArmed 8 5
    t.rcp.armed = none ∧ t.rd 0x4210 0xA = 8 ∧ t.bankHolder s.shadow = 0 ∧ (a.phase = 1 → t.bankState s.shadow = s.bankState s.shadow) ∧
      (2 ≤ a.phase → a.phase ≤ 3 → t.bankState s.shadow = 3) ∧ (a.phase = 2 → t.rd 0x4210 0xB = 5 ∧ t.Presents 848) := by
  dsimp only
  by_cases h2 : a.phase = 2
  · obtain ⟨h1, hA, hB, hst, hho, hp, -⟩ := State.dropArmed_blending_spec ha h2 (st := 8) (by decide) 5
    rw [if_neg (by omega)]
    exact ⟨h1, hA, hho, fun h => absurd h (by omega), fun _ _ => hst, fun _ => ⟨hB, hp⟩⟩
  · obtain ⟨h1, hA, hsh, hho, hst⟩ := State.dropArmed_waiting_spec ha h2 (st := 8) (by decide) 5
    generalize s.dropArmed 8 5 = d at *
    by_cases h3 : a.phase = 3
    · obtain ⟨hs, hh⟩ := d.setBank_spec (b := s.shadow) (st := 3) (holder := 0) s.shadow_lt (by decide) (by decide)
      have hrd : (d.setBank s.shadow 3 0).rd 0x4210 0xA = d.rd 0x4210 0xA := d.setBank_rd s.shadow_lt (by decide) (by omega)
      have hr : (d.setBank s.shadow 3 0).rcp = d.rcp := rfl
      rw [if_pos h3, State.spoilShadow, hsh]
      generalize d.setBank s.shadow 3 0 = t at *
      exact ⟨by rw [hr, h1], hrd.trans hA, hh, fun h => absurd h (by omega), fun _ _ => hs, fun h => absurd h h2⟩
    · rw [if_neg h3]
      exact ⟨h1, hA, hho, fun _ => hst, fun hge hle => absurd hge (by omega), fun h => absurd h h2⟩

theorem opSwitchNow_notHere (v : Int) (h : a.source ≠ 0 ∨ a.startup = true) : opSwitchNow v s = (s, 5) := by
  unfold opSwitchNow
  rw [ha]
  exact if_pos h

theorem opSwitchNow_here (v : Int) (h0 : a.source = 0) (hs : a.startup = false) : opSwitchNow v s = (s.condition s.fine, 0) := by
  unfold opSwitchNow
  rw [ha]
  exact if_neg (by rw [h0, hs]; simp)

theorem State.condition_met (t : Nat) (h : a.cond.isSome = true) : s.condition t = s := by
  unfold State.condition
  rw [ha]
  exact if_pos h

theorem State.condition_ready (t : Nat) (h : a.cond = none) (h3 : a.phase = 3) :
    s.condition t = s.setArmed (some { a with cond := some t }) := by
  unfold State.condition
  rw [ha]
  exact (if_neg (by rw [h]; decide)).trans (if_pos h3)

theorem State.condition_deferred (t : Nat) (h : a.cond = none) (h3 : a.phase ≠ 3) :
    s.condition t = ((s.setArmed (some { a with cond := some t, deferred := true })).switchStatus 5).raise1 846 0 := by
  unfold State.condition
  rw [ha]
  exact (if_neg (by rw [h]; decide)).trans (if_neg h3)

theorem State.settleSwitch_due (h : a.due.isSome = true) : s.settleSwitch = s.makeSwitch a (if s.live then a.due else none) := by
  unfold State.settleSwitch
  rw [ha]
  exact if_pos h

theorem State.settleSwitch_standby (h : a.due = none) (hst : s.dev.st = .standby) (h3 : a.phase = 3) (hc : a.cond.isSome = true) :
    s.settleSwitch = s.makeSwitch a none := by
  unfold State.settleSwitch
  rw [ha]
  exact (if_neg (by rw [h]; decide)).trans (if_pos ⟨hst, h3, hc⟩)

end

/-! ### The blend (R151 to R153) -/

/-- R153: an arming whose blend begins. -/
def State.blendArmed (s : State) (a : Armed) : Armed :=
  { a with
    phase := 2, granted := s.now, minWhite := s.rdN 0x4030 0xD, maxDef := s.rdN 0x4030 0xE,
    ownDark := s.rd 0x4210 0xF = 1 }

/-- R153: the shadow is written by the blend, and the Canteen's grant is used. -/
def State.blendBegun (s : State) (a : Armed) : State :=
  let s := (s.setArmed (some (s.blendArmed a))).setBank s.shadow 1 3
  { s with can := { s.can with blendOk := false } }

/-- R152: the active bank's content where its darks are used. -/
def State.blendDark (s : State) (a : Armed) : Option (List Byte) :=
  if a.ownDark = true ∨ s.bankState s.activeBank ≠ 2 then none else some (s.bank s.activeBank).bytes

/-- R153: the time that a blend took. -/
def State.blendTimed (s : State) (a : Armed) : State := s.wr 0x4210 0x14 ((s.now - a.granted) / 1000 : Nat)

/-- R152: the blended shadow, ready and held by the pending swap. -/
def State.blendReady (s : State) (a : Armed) (bytes : List Byte) : State :=
  let k := s.shadow
  let s := ((s.updBank k (fun _ => ⟨bytes, []⟩)).setBank k 2 5).wr 0x4210 0xB 1
  let s := s.setArmed (some { a with phase := 3, readyAt := s.fine })
  if a.deferred then s else s.switchStatus (if a.startup then 3 else 4)

theorem rBasis_lt (r : List Byte) : rBasis r < 256 := by
  have h := unle_lt (slice r 7 1)
  have hl : (slice r 7 1).length = 1 := by
    unfold slice
    simp
  rw [hl] at h
  exact h

/-- The blend time is no part of a basis set. -/
theorem State.blendTimed_basis (s : State) (a : Armed) {k : Nat} (hk : k < 256) : (s.blendTimed a).basisBytes k = s.basisBytes k := by
  have hrd : (s.blendTimed a).rd 0x4202 (k + 1) = s.rd 0x4202 (k + 1) := by
    rw [State.blendTimed, State.rd_wr, if_neg (by unfold key; omega)]
  have hst : (s.blendTimed a).basisState k = s.basisState k := by rw [State.basisState, State.rdN, hrd]; rfl
  unfold State.basisBytes
  rw [hst]
  rfl

section
variable {s u : State} {dt : Nat} (e : s.pass dt = u) {a : Armed} (ha : u.rcp.armed = some a)
include e ha

theorem exec_blendStart (hok : u.can.blendOk = true) (h1 : a.phase = 1)
    (hb : u.basisState (rBasis (u.recipe a.recipe)) = 2 ∨ u.basisState (rBasis (u.recipe a.recipe)) = 3) :
    exec (.blendStart dt) s = .next (if a.deferred then u.blendBegun a else (u.blendBegun a).switchStatus 2) := by
  have hn : ¬ (a.phase ≠ 1 ∨ (u.basisState (rBasis (u.recipe a.recipe)) ≠ 2 ∧ u.basisState (rBasis (u.recipe a.recipe)) ≠ 3)) := by omega
  refine (event_at e hok : execBlendStart dt s = _).trans (congrArg _ ?_)
  simp only [ha, if_neg hn]
  unfold State.blendBegun State.blendArmed
  dsimp only

section
variable (h2 : a.phase = 2)
include h2

theorem execBlendComplete_none (hb : u.basisBytes (rBasis (u.recipe a.recipe)) = none) :
    execBlendComplete dt s = .next ((u.blendTimed a).dropArmed 7 4) := by
  refine (event_at e (by rw [ha]; exact decide_eq_true h2)).trans (congrArg _ ?_)
  simp only [ha]
  have hb' : (u.wr 0x4210 0x14 ((u.now - a.granted) / 1000 : Nat)).basisBytes (rBasis (u.recipe a.recipe)) = none :=
    (u.blendTimed_basis a (rBasis_lt _)).trans hb
  rw [hb']
  rfl

section
variable {b : List Byte} (hb : u.basisBytes (rBasis (u.recipe a.recipe)) = some b)
include hb

theorem execBlendComplete_error {c : Nat} (hc : blend (u.recipe a.recipe) b a.recipe a.minWhite a.maxDef (u.blendDark a) = .error c) :
    execBlendComplete dt s = .next ((u.blendTimed a).dropArmed 7 c) := by
  refine (event_at e (by rw [ha]; exact decide_eq_true h2)).trans (congrArg _ ?_)
  simp only [ha]
  have hb' : (u.wr 0x4210 0x14 ((u.now - a.granted) / 1000 : Nat)).basisBytes (rBasis (u.recipe a.recipe)) = some b :=
    (u.blendTimed_basis a (rBasis_lt _)).trans hb
  unfold State.blendDark at hc
  rw [hb']
  dsimp only
  rw [hc]
  rfl

theorem execBlendComplete_ok {bytes : List Byte}
    (hc : blend (u.recipe a.recipe) b a.recipe a.minWhite a.maxDef (u.blendDark a) = .ok bytes) :
    execBlendComplete dt s = .next ((u.blendTimed a).blendReady a bytes) := by
  refine (event_at e (by rw [ha]; exact decide_eq_true h2)).trans (congrArg _ ?_)
  simp only [ha]
  have hb' : (u.wr 0x4210 0x14 ((u.now - a.granted) / 1000 : Nat)).basisBytes (rBasis (u.recipe a.recipe)) = some b :=
    (u.blendTimed_basis a (rBasis_lt _)).trans hb
  unfold State.blendDark at hc
  rw [hb']
  dsimp only
  rw [hc]
  rfl

end

end

end

section
variable (s : State) (a : Armed)

/-- The blend time is one entry. -/
theorem State.blendTimed_writes : Writes (fun i j => i = 0x4210 ∧ j = 0x14) s (s.blendTimed a) :=
  (Writes.refl _ s).wr (by decide) ⟨rfl, rfl⟩

theorem State.blendTimed_rd : (s.blendTimed a).rd 0x4210 0x14 = ((s.now - a.granted) / 1000 : Nat) % 2 ^ 32 := by
  obtain ⟨-, -, -, -, -, -, -, -, h14⟩ := switchTypes
  rw [State.blendTimed, State.rd_wr_self _ _ (by decide), h14, Ty.wrap_u32]

theorem State.blendTimed_shadow : (s.blendTimed a).shadow = s.shadow :=
  (State.activeBank_congr ((s.blendTimed_writes a).rd (by decide) (by omega))).2

theorem State.dropArmed_lastBlend {s : State} {a : Armed} (ha : s.rcp.armed = some a) (hp : a.phase = 2) (st r : Nat) :
    (s.dropArmed st r).rd 0x4210 0x14 = s.rd 0x4210 0x14 := by
  have hw : Writes (fun i j => (i = 0x4210 ∧ (j = 0xA ∨ j = 0xB)) ∨ i = 0x4000 ∨ i = 0x2800 + 848) s (s.dropArmed st r) := by
    rw [State.dropArmed_blending ha hp]
    exact ((((((Writes.refl _ s).setArmed none).wr (by decide) (.inl ⟨rfl, .inl rfl⟩)).wr (by decide) (.inl ⟨rfl, .inr rfl⟩)).spoilShadow
      (fun _ => .inr (.inl rfl))).raise1 (fun _ => .inr (.inr rfl)))
  exact hw.rd (by decide) (by omega)

theorem State.fine_congr {s t : State} (hn : t.now = s.now) (hc : t.compassOff = s.compassOff) : t.fine = s.fine := by
  rw [State.fine, State.fine, hn, hc]

theorem State.bankEntry_congr {s t : State} {b : Nat} (h : t.dict = s.dict) : t.bankState b = s.bankState b ∧ t.bankHolder b = s.bankHolder b := by
  rw [State.bankState, State.bankHolder, State.rdN, State.rdN, State.rd_congr h, State.rd_congr h]
  exact ⟨rfl, rfl⟩

/-- R152: the shadow with the blended content, its result shown. -/
def State.blendStored (s : State) (bytes : List Byte) : State :=
  ((s.updBank s.shadow (fun _ => ⟨bytes, []⟩)).setBank s.shadow 2 5).wr 0x4210 0xB 1

theorem State.blendReady_eq (bytes : List Byte) : s.blendReady a bytes =
    if a.deferred then (s.blendStored bytes).setArmed (some { a with phase := 3, readyAt := (s.blendStored bytes).fine })
    else ((s.blendStored bytes).setArmed (some { a with phase := 3, readyAt := (s.blendStored bytes).fine })).switchStatus
      (if a.startup then 3 else 4) := rfl

theorem State.blendStored_spec (bytes : List Byte) : let t := s.blendStored bytes
    t.bank s.shadow = ⟨bytes, []⟩ ∧ t.bankState s.shadow = 2 ∧ t.bankHolder s.shadow = 5 ∧ t.rd 0x4210 0xB = 1 ∧
      (∀ j < 256, j ≠ 0xB → t.rd 0x4210 j = s.rd 0x4210 j) ∧ t.fine = s.fine := by
  obtain ⟨-, -, -, hB, -⟩ := switchTypes
  have hlt := s.shadow_lt
  have hbank := s.bank_updBank hlt (fun _ => ⟨bytes, []⟩) s.shadow
  rw [if_pos rfl] at hbank
  have hu (i j : Nat) : (s.updBank s.shadow (fun _ => ⟨bytes, []⟩)).rd i j = s.rd i j := State.rd_congr rfl i j
  have hfine : (s.updBank s.shadow (fun _ => ⟨bytes, []⟩)).fine = s.fine := State.fine_congr rfl rfl
  have he : s.blendStored bytes = ((s.updBank s.shadow (fun _ => ⟨bytes, []⟩)).setBank s.shadow 2 5).wr 0x4210 0xB 1 := rfl
  dsimp only
  rw [he]
  generalize s.updBank s.shadow (fun _ => ⟨bytes, []⟩) = v at *
  obtain ⟨hst, hho⟩ := v.setBank_spec (b := s.shadow) (st := 2) (holder := 5) hlt (by decide) (by decide)
  have hset {j : Nat} (hj : j < 256) : (v.setBank s.shadow 2 5).rd 0x4210 j = v.rd 0x4210 j := v.setBank_rd hlt hj (by omega)
  have hban : (v.setBank s.shadow 2 5).bank s.shadow = v.bank s.shadow := State.bank_congr rfl _
  have hf : (v.setBank s.shadow 2 5).fine = v.fine := State.fine_congr rfl rfl
  clear he
  generalize v.setBank s.shadow 2 5 = w at *
  have hrd {i j : Nat} (hj : j < 256) : (w.wr 0x4210 0xB 1).rd i j = if 0x4210 = i ∧ 0xB = j then 1 else w.rd i j := by
    rw [State.rd_wr_at _ _ (by decide) hj, hB]
    rfl
  have hwb : (w.wr 0x4210 0xB 1).bank s.shadow = w.bank s.shadow := State.bank_congr (by rw [State.wr_sh]) _
  have hwf : (w.wr 0x4210 0xB 1).fine = w.fine := State.fine_congr (by rw [State.wr_now]) (by rw [State.wr_compassOff])
  generalize w.wr 0x4210 0xB 1 = t at *
  refine ⟨hwb.trans (hban.trans hbank), ?_, ?_, ?_, fun j hj hne => ?_, hwf.trans (hf.trans hfine)⟩
  · rw [← hst, State.bankState, State.rdN, hrd (by omega), if_neg (by omega)]
    rfl
  · rw [← hho, State.bankHolder, State.rdN, hrd (by omega), if_neg (by omega)]
    rfl
  · rw [hrd (by decide), if_pos ⟨rfl, rfl⟩]
  · rw [hrd hj, if_neg (by omega), hset hj, hu]

/-- R152: the shadow is ready, and held by the pending swap. -/
theorem State.blendReady_spec (bytes : List Byte) : let t := s.blendReady a bytes
    t.rcp.armed = some { a with phase := 3, readyAt := s.fine } ∧ t.bank s.shadow = ⟨bytes, []⟩ ∧ t.bankState s.shadow = 2 ∧
      t.bankHolder s.shadow = 5 ∧ t.rd 0x4210 0xB = 1 ∧ (t.rd 0x4210 0xA = if a.deferred then s.rd 0x4210 0xA else if a.startup then 3 else 4) ∧
      t.rd 0x4210 0x14 = s.rd 0x4210 0x14 := by
  obtain ⟨-, -, hA, -⟩ := switchTypes
  have hlt := s.shadow_lt
  obtain ⟨h1, h2, h3, h4, h5, h6⟩ := s.blendStored_spec bytes
  dsimp only
  rw [s.blendReady_eq a bytes]
  generalize s.blendStored bytes = b at *
  rw [h6]
  by_cases hd : a.deferred = true
  · rw [if_pos hd, if_pos hd]
    have hdict : (b.setArmed (some { a with phase := 3, readyAt := s.fine })).dict = b.dict := rfl
    obtain ⟨hst, hho⟩ := State.bankEntry_congr (b := s.shadow) hdict
    have hr (j : Nat) : (b.setArmed (some { a with phase := 3, readyAt := s.fine })).rd 0x4210 j = b.rd 0x4210 j := State.rd_congr hdict _ j
    exact ⟨rfl, (State.bank_congr rfl _).trans h1, hst.trans h2, hho.trans h3, (hr _).trans h4, (hr _).trans (h5 0xA (by decide) (by decide)),
      (hr _).trans (h5 0x14 (by decide) (by decide))⟩
  · rw [if_neg hd, if_neg hd]
    have hdict : (b.setArmed (some { a with phase := 3, readyAt := s.fine })).dict = b.dict := rfl
    have hbank : (b.setArmed (some { a with phase := 3, readyAt := s.fine })).bank s.shadow = b.bank s.shadow := State.bank_congr rfl _
    have hrcp : (b.setArmed (some { a with phase := 3, readyAt := s.fine })).rcp.armed = some { a with phase := 3, readyAt := s.fine } := rfl
    generalize b.setArmed (some { a with phase := 3, readyAt := s.fine }) = w at *
    have hrd {i j : Nat} (hj : j < 256) (v : Nat) : (w.switchStatus v).rd i j = if 0x4210 = i ∧ 0xA = j then (v : Int) % 2 ^ 8 else b.rd i j := by
      rw [State.switchStatus, State.rd_wr_at _ _ (by decide) hj, hA, Ty.wrap_u8, State.rd_congr hdict i j]
    have hban (v : Nat) : (w.switchStatus v).bank s.shadow = w.bank s.shadow := State.bank_congr (by rw [State.switchStatus, State.wr_sh]) _
    refine ⟨by rw [State.switchStatus, State.wr_rcp, hrcp], (hban _).trans (hbank.trans h1), ?_, ?_, ?_, ?_, ?_⟩
    · rw [← h2, State.bankState, State.bankState, State.rdN, State.rdN, hrd (by omega), if_neg (by omega)]
    · rw [← h3, State.bankHolder, State.bankHolder, State.rdN, State.rdN, hrd (by omega), if_neg (by omega)]
    · rw [hrd (by decide), if_neg (by decide), h4]
    · rw [hrd (by decide), if_pos (by decide)]
      split <;> rfl
    · rw [hrd (by decide), if_neg (by decide), h5 0x14 (by decide) (by decide)]

/-- R153: a blend that begins. -/
theorem State.blendBegun_spec : let t := s.blendBegun a
    t.rcp.armed = some (s.blendArmed a) ∧ t.bankState s.shadow = 1 ∧ t.bankHolder s.shadow = 3 ∧ t.can = { s.can with blendOk := false } ∧
      ∀ j < 256, t.rd 0x4210 j = s.rd 0x4210 j := by
  have hlt := s.shadow_lt
  obtain ⟨hst, hho⟩ := (s.setArmed (some (s.blendArmed a))).setBank_spec (b := s.shadow) (st := 1) (holder := 3) hlt (by decide) (by decide)
  have hrd (j : Nat) (hj : j < 256) := (s.setArmed (some (s.blendArmed a))).setBank_rd (b := s.shadow) (st := 1) (holder := 3) (i := 0x4210) hlt hj (by omega)
  have hrcp : ((s.setArmed (some (s.blendArmed a))).setBank s.shadow 1 3).rcp.armed = some (s.blendArmed a) := rfl
  have hcan : ((s.setArmed (some (s.blendArmed a))).setBank s.shadow 1 3).can = s.can := rfl
  unfold State.blendBegun
  generalize (s.setArmed (some (s.blendArmed a))).setBank s.shadow 1 3 = w at *
  exact ⟨hrcp, hst, hho, by rw [← hcan], hrd⟩

end

end Sys2Proof.Machine
end
section
set_option Elab.async false
namespace Sys2Proof.Machine

/-! ### The switch as the rules show it (R156, R157) -/

section
variable (u : State) (a : Armed)

theorem State.switchTaken_fine (job : Nat) : (u.switchTaken a job).fine = u.fine :=
  State.fine_congr (by rw [State.switchTaken]; dsimp only; rw [State.wr_now, State.wr_now]; rfl)
    (by rw [State.switchTaken]; dsimp only; rw [State.wr_compassOff, State.wr_compassOff]; rfl)

theorem State.switchTaken_rcp (job : Nat) : (u.switchTaken a job).rcp = { u.rcp with armed := none, startupDue := false } := by
  rw [State.switchTaken]
  dsimp only
  rw [State.wr_rcp, State.wr_rcp]
  rfl

theorem State.switchNow_rcp : (u.switchNow a).rcp = u.rcp := by
  rw [State.switchNow, State.switchTimes, State.wr_rcp, State.wr_rcp, State.wr_rcp, State.swapNow_rcp]

theorem State.switchAt_rcp (line t late : Nat) : (u.switchAt a line t late).rcp = u.rcp := by
  rw [State.switchAt, State.switchTimes, State.wr_rcp, State.wr_rcp, State.wr_rcp]
  exact (State.doSwap_keeps (.refl .rcp u) rfl t line a.recipe).same

theorem State.switchAt_change (line t late : Nat) : (u.switchAt a line t late).sh.change = some ⟨line, u.shadow, a.recipe⟩ := by
  rw [State.switchAt, State.switchTimes, State.wr_sh, State.wr_sh, State.wr_sh, State.doSwap_sh]

/-- R157: a recorded switch is one more record; the startup build's is not recorded. -/
theorem State.switchRecorded_parts (line t late : Nat) (pos : Int) (job old oldJob : Nat) :
    let r := u.switchRecorded a line t late pos job old oldJob
    r.sh = u.sh ∧ r.rcp.armed = u.rcp.armed ∧ (a.startup = true → r.rcp.switches = u.rcp.switches) := by
  dsimp only
  unfold State.switchRecorded
  by_cases hs : a.startup = true
  · rw [if_pos hs]
    exact ⟨rfl, rfl, fun _ => rfl⟩
  · rw [if_neg hs]
    exact ⟨rfl, rfl, fun h => absurd h hs⟩

theorem State.switchShown_parts : (u.switchShown a).rcp = u.rcp ∧ (u.switchShown a).sh = u.sh := by
  have hr : Part.rcp.Same u (u.switchShown a) := State.switchShown_same u a rfl
  have hs : Part.sh.Same u (u.switchShown a) := State.switchShown_same u a rfl
  exact ⟨hr, hs⟩

theorem State.switchJob_mod (hj : a.job < 65536) : (a.startup = false → ((u.switchJob a : Nat) : Int) % 2 ^ 16 = a.job) ∧
    (a.startup = true → ((u.switchJob a : Nat) : Int) % 2 ^ 16 = (u.rdN 0x4210 2 : Nat) % 65536) := by
  constructor
  · intro h
    rw [State.switchJob, if_neg (by rw [h]; decide)]
    omega
  · intro h
    rw [State.switchJob, if_pos h]
    rfl

/-- R156, R159: what every switch does, made at a trigger or in Standby. -/
structure SwitchMade (t : State) (line time : Int) : Prop where
  armed : t.rcp.armed = none
  recipe : t.activeRecipe = a.recipe
  bank : t.activeBank = u.shadow
  status : t.rd 0x4210 0xA = 6
  swap : t.Presents 842
  switched : a.startup = false → t.rd 0x4210 2 = a.job ∧ t.rd 0x4210 0x12 = (u.rd 0x4210 0x12 + 1) % 2 ^ 32 ∧ t.Presents 845
  built : a.startup = true → t.rd 0x4210 2 = (u.rdN 0x4210 2 : Nat) % 65536 ∧ t.rd 0x4210 0x12 = u.rd 0x4210 0x12 ∧
    t.rcp.switches = u.rcp.switches
  line : t.rd 0x4210 0xC = line % 2 ^ 32
  time : t.rd 0x4210 0xE = time % 2 ^ 64

variable {u a} in
theorem SwitchMade.of_shown {w : State} {line late time : Int} (h : SwitchSwapped (u.switchTaken a (u.switchJob a)) w line late time)
    (hr : a.recipe < 256) (hj : a.job < 65536) (harm : w.rcp.armed = none) (hb : a.startup = true → w.rcp.switches = u.rcp.switches) :
    SwitchMade u a (w.switchShown a) line time := by
  obtain ⟨h1, h2, h3, h4, h5, h6, h7, h8, -, h10⟩ := State.switchShown_spec a (u.switchJob a) h hr
  have hrcp := (w.switchShown_parts a).1
  obtain ⟨hm, hs⟩ := u.switchJob_mod a hj
  exact ⟨by rw [hrcp, harm], h1, h2, h3, h4, fun f => ⟨h5.trans (hm f), (h6 f).1, (h6 f).2⟩,
    fun t => ⟨h5.trans (hs t), h7 t, by rw [hrcp, hb t]⟩, h8, h10⟩

variable (hact : u.activeBank ≤ 1) (hr : a.recipe < 256) (hj : a.job < 65536)
include hact hr hj

/-- R156, R159: a switch in Standby. -/
theorem State.makeSwitch_standby_spec : let t := u.makeSwitch a none
    SwitchMade u a t 0 u.fine ∧ t.rd 0x4210 0xD = 0 ∧ t.rcp.switches = u.rcp.switches := by
  dsimp only
  rw [State.makeSwitch_standby]
  have hb : (u.switchTaken a (u.switchJob a)).activeBank ≤ 1 := by rw [(u.switchTaken_bank a _).1]; exact hact
  have hsw := (u.switchTaken a (u.switchJob a)).switchNow_swapped a hb
  rw [u.switchTaken_fine] at hsw
  have hrcp : ((u.switchTaken a (u.switchJob a)).switchNow a).rcp = { u.rcp with armed := none, startupDue := false } := by
    rw [State.switchNow_rcp, State.switchTaken_rcp]
  obtain ⟨-, -, -, -, -, -, -, -, hD, -⟩ := State.switchShown_spec a (u.switchJob a) hsw hr
  refine ⟨.of_shown hsw hr hj (by rw [hrcp]) (fun _ => by rw [hrcp]), hD, ?_⟩
  rw [(State.switchShown_parts _ a).1, hrcp]

/-- R155, R156: a switch at a trigger. -/
theorem State.makeSwitch_trigger_spec (line time : Nat) (pos : Int) : let t := u.makeSwitch a (some (line, time, pos))
    SwitchMade u a t line time ∧ t.sh.change = some ⟨line, u.shadow, a.recipe⟩ := by
  dsimp only
  obtain ⟨late, he⟩ := u.makeSwitch_trigger a line time pos
  rw [he]
  have hb : (u.switchTaken a (u.switchJob a)).activeBank ≤ 1 := by rw [(u.switchTaken_bank a _).1]; exact hact
  have hsw := ((u.switchTaken a (u.switchJob a)).switchAt_swapped a line time late hb).recorded a line time late pos (u.switchJob a)
    u.activeRecipe (u.rdN 0x4210 2)
  have hrcp : ((u.switchTaken a (u.switchJob a)).switchAt a line time late).rcp = { u.rcp with armed := none, startupDue := false } := by
    rw [State.switchAt_rcp, State.switchTaken_rcp]
  have hch := (u.switchTaken a (u.switchJob a)).switchAt_change a line time late
  rw [(u.switchTaken_bank a _).2] at hch
  obtain ⟨hsh, harm, hst⟩ := ((u.switchTaken a (u.switchJob a)).switchAt a line time late).switchRecorded_parts a line time late pos (u.switchJob a)
    u.activeRecipe (u.rdN 0x4210 2)
  rw [hrcp] at harm hst
  exact ⟨.of_shown hsw hr hj harm hst, by rw [(State.switchShown_parts _ a).2, hsh, hch]⟩

end

/-- R159: what the startup build arms. -/
def State.startupArmed (s : State) : Armed := { freshArmed s.activeRecipe (s.rdN 0x4210 2) 0 0 true with cond := some s.fine }

theorem exec_startupBuild {s u : State} {dt : Nat} (e : s.pass dt = u) (h : u.startupReady = true) :
    exec (.startupBuild dt) s = .next
      { u.beginArm u.startupArmed with rcp := { (u.beginArm u.startupArmed).rcp with startupDue := false } } :=
  (event_at e h : execStartupBuild dt s = _)

/-- R154: an accepted arming, answered. -/
theorem State.armed_answered (u : State) (m : Fin 17) : let t := (u.beginArm u.armedNow).answer m 0x4210 7 0
    t.rcp.armed = some u.armedNow ∧ t.rd 0x4210 0xA = 1 ∧ t.bankHolder u.shadow = 3 ∧ t.can = { u.can with blendOk := false } ∧
      (t.master m).reply = ⟨0, [], []⟩ := by
  obtain ⟨h1, h2, h3, h4⟩ := u.beginArm_spec u.armedNow
  have hlt := u.shadow_lt
  dsimp only
  generalize u.beginArm u.armedNow = b at *
  have hw := b.answer_writes m.isLt 0x4210 7 0
  have hrcp : (b.answer m 0x4210 7 0).rcp = b.rcp := b.answer_same (p := .rcp) rfl _ _ _ _
  have hcan : (b.answer m 0x4210 7 0).can = b.can := b.answer_same (p := .can) rfl _ _ _ _
  have hrep := b.answer_reply m.isLt 0x4210 7 0 [] []
  generalize b.answer m 0x4210 7 0 = t at *
  exact ⟨by rw [hrcp, h1], (hw.rd (by decide) (by unfold answeredEntry queueEntry; omega)).trans h2,
    by rw [← h3, State.bankHolder, State.bankHolder, State.rdN, State.rdN, hw.rd (by omega) (by unfold answeredEntry queueEntry; omega)],
    hcan.trans h4, hrep⟩

/-- R160: an accepted disarm, answered. -/
theorem State.disarmed_answered {u : State} {a : Armed} (ha : u.rcp.armed = some a) (m : Fin 17) :
    let t := (if a.phase = 3 then (u.dropArmed 8 5).spoilShadow else u.dropArmed 8 5).answer m 0x4210 8 0
    t.rcp.armed = none ∧ t.rd 0x4210 0xA = 8 ∧ t.bankHolder u.shadow = 0 ∧ (a.phase = 1 → t.bankState u.shadow = u.bankState u.shadow) ∧
      (2 ≤ a.phase → a.phase ≤ 3 → t.bankState u.shadow = 3) ∧ (a.phase = 2 → t.rd 0x4210 0xB = 5 ∧ t.Presents 848) := by
  obtain ⟨h1, h2, h3, h4, h5, h6⟩ := State.disarmed_spec ha
  have hlt := u.shadow_lt
  dsimp only
  generalize (if a.phase = 3 then (u.dropArmed 8 5).spoilShadow else u.dropArmed 8 5) = b at *
  have hw := b.answer_writes m.isLt 0x4210 8 0
  have hrcp : (b.answer m 0x4210 8 0).rcp = b.rcp := b.answer_same (p := .rcp) rfl _ _ _ _
  generalize b.answer m 0x4210 8 0 = t at *
  have hrd {i j : Nat} (hj : j < 256) (hi : i = 0x4210 ∨ i = 0x4000) : t.rd i j = b.rd i j := hw.rd hj (by unfold answeredEntry queueEntry; omega)
  have hst : t.bankState u.shadow = b.bankState u.shadow := by rw [State.bankState, State.bankState, State.rdN, State.rdN, hrd (by omega) (.inr rfl)]
  have hho : t.bankHolder u.shadow = b.bankHolder u.shadow := by
    rw [State.bankHolder, State.bankHolder, State.rdN, State.rdN, hrd (by omega) (.inr rfl)]
  exact ⟨by rw [hrcp, h1], (hrd (by decide) (.inl rfl)).trans h2, hho.trans h3, fun h => hst.trans (h4 h),
    fun h h' => hst.trans (h5 h h'), fun h => ⟨(hrd (by decide) (.inl rfl)).trans (h6 h).1, hw.presents (h6 h).2⟩⟩

/-- R153: a blend that begins shows it, where its switch is not deferred. -/
theorem State.blendShown_spec (u : State) (a : Armed) : let t := if a.deferred then u.blendBegun a else (u.blendBegun a).switchStatus 2
    t.rcp.armed = some (u.blendArmed a) ∧ t.bankState u.shadow = 1 ∧ t.bankHolder u.shadow = 3 ∧ t.can = { u.can with blendOk := false } ∧
      t.rd 0x4210 0xA = if a.deferred then u.rd 0x4210 0xA else 2 := by
  obtain ⟨-, -, hA, -⟩ := switchTypes
  have hlt := u.shadow_lt
  obtain ⟨h1, h2, h3, h4, h5⟩ := u.blendBegun_spec a
  dsimp only
  generalize u.blendBegun a = b at *
  by_cases hd : a.deferred = true
  · rw [if_pos hd, if_pos hd]
    exact ⟨h1, h2, h3, h4, h5 _ (by decide)⟩
  · rw [if_neg hd, if_neg hd]
    have hrd {i j : Nat} (hj : j < 256) : (b.switchStatus 2).rd i j = if 0x4210 = i ∧ 0xA = j then 2 else b.rd i j := by
      rw [State.switchStatus, State.rd_wr_at _ _ (by decide) hj, hA, Ty.wrap_u8]
      rfl
    refine ⟨by rw [State.switchStatus, State.wr_rcp, h1], ?_, ?_, by rw [State.switchStatus, State.wr_can, h4], ?_⟩
    · rw [← h2, State.bankState, State.bankState, State.rdN, State.rdN, hrd (by omega), if_neg (by omega)]
    · rw [← h3, State.bankHolder, State.bankHolder, State.rdN, State.rdN, hrd (by omega), if_neg (by omega)]
    · rw [hrd (by decide), if_pos (by decide)]

/-- R152: a blend that fails leaves the active recipe, and the shadow invalid. -/
theorem State.blendFailed_spec {u : State} {a : Armed} (ha : u.rcp.armed = some a) (h2 : a.phase = 2) (c : Nat) :
    let t := (u.blendTimed a).dropArmed 7 c
    t.rd 0x4210 0x14 = ((u.now - a.granted) / 1000 : Nat) % 2 ^ 32 ∧ t.rcp.armed = none ∧ t.rd 0x4210 0xA = 7 ∧ t.rd 0x4210 0xB = c % 256 ∧
      t.bankState u.shadow = 3 ∧ t.bankHolder u.shadow = 0 ∧ t.activeRecipe = u.activeRecipe ∧ t.Presents 848 := by
  have ha' : (u.blendTimed a).rcp.armed = some a := by rw [State.blendTimed, State.wr_rcp, ha]
  obtain ⟨h1, hA, hB, hst, hho, hp, hr⟩ := State.dropArmed_blending_spec ha' h2 (st := 7) (by decide) c
  have hl := State.dropArmed_lastBlend ha' h2 7 c
  rw [u.blendTimed_rd] at hl
  rw [u.blendTimed_shadow] at hst hho
  have hu : (u.blendTimed a).activeRecipe = u.activeRecipe := congrArg Int.toNat ((u.blendTimed_writes a).rd (by decide) (by omega))
  exact ⟨hl, h1, hA, hB, hst, hho, hr.trans hu, hp⟩

/-- R152: a blend that ends well. -/
theorem State.blendDone_spec (u : State) (a : Armed) (bytes : List Byte) : let t := (u.blendTimed a).blendReady a bytes
    t.rd 0x4210 0x14 = ((u.now - a.granted) / 1000 : Nat) % 2 ^ 32 ∧
      t.rcp.armed = some { a with phase := 3, readyAt := u.fine } ∧ t.bank u.shadow = ⟨bytes, []⟩ ∧ t.bankState u.shadow = 2 ∧
      t.bankHolder u.shadow = 5 ∧ t.rd 0x4210 0xB = 1 ∧
      t.rd 0x4210 0xA = if a.deferred then u.rd 0x4210 0xA else if a.startup then 3 else 4 := by
  obtain ⟨h1, h2, h3, h4, h5, h6, h7⟩ := (u.blendTimed a).blendReady_spec a bytes
  have hf : (u.blendTimed a).fine = u.fine := State.fine_congr (by rw [State.blendTimed, State.wr_now]) (by rw [State.blendTimed, State.wr_compassOff])
  rw [u.blendTimed_shadow] at h2 h3 h4
  rw [u.blendTimed_rd] at h7
  rw [hf] at h1
  rw [(u.blendTimed_writes a).rd (by decide) (by omega)] at h6
  exact ⟨h7, h1, h2, h3, h4, h5, h6⟩

end Sys2Proof.Machine
namespace Sys2Proof
open Machine

/-- Settles O27: each move of an arming by the lemma about what it leaves of the arming, the shadow and the switch entry. -/
theorem recipeSwitches : Obligations.RecipeSwitches := by
  intro s dt u
  obtain ⟨r7, r8, r9, v7, v8, v9⟩ := switchRows
  have arm (m : Fin 17) (hm : u.masterPresent m = true) (hr : u.dev.ready = true) :
      exec (.armSwitch dt m) s = .next ((opArm 1 u).1.answer m 0x4210 7 (opArm 1 u).2) :=
    (hostCommand_open hm hr r7 v7 : execArmSwitch dt m s = _)
  have disarm (m : Fin 17) (hm : u.masterPresent m = true) (hr : u.dev.ready = true) :
      exec (.disarmSwitch dt m) s = .next ((opDisarm 1 u).1.answer m 0x4210 8 (opDisarm 1 u).2) :=
    (hostCommand_open hm hr r8 v8 : execDisarmSwitch dt m s = _)
  have now (m : Fin 17) (hm : u.masterPresent m = true) (hr : u.dev.ready = true) :
      exec (.switchNow dt m) s = .next ((opSwitchNow 1 u).1.answer m 0x4210 9 (opSwitchNow 1 u).2) :=
    (hostCommand_open hm hr r9 v9 : execSwitchNow dt m s = _)
  have e : s.pass dt = u := rfl
  clear_value u
  refine ⟨fun m hm hr => ?commands, fun a ha => ⟨fun trig hact hrec hjob => ?switch, fun hd => ?due, fun hd hst h3 hc => ?standby,
    fun hok h1 hb => ?begins, fun h2 hact => ?ends⟩, fun h => ?startup⟩
  case commands =>
    rw [arm m hm hr, disarm m hm hr, now m hm hr]
    refine ⟨fun h => ?_, fun h hb => ?_, fun h hb h1 => ?_, fun c h hb h1 h6 => ?_, fun h hb h1 h6 => ?_, fun hn => ?_, fun a ha => ?armed⟩
    · rw [opArm_early u 1 h]
    · rw [opArm_busy u 1 h hb]
    · rw [opArm_notStored u 1 h hb h1]
    · rw [opArm_failed u 1 h hb h1 h6]
    · rw [opArm_armed u 1 h hb h1 h6]
      obtain ⟨h1, h2, h3, h4, h5⟩ := u.armed_answered m
      exact ⟨_, u.armedNow, rfl, h1, rfl, rfl, rfl, rfl, rfl, rfl, rfl, rfl, h2, h3, h4, h5⟩
    · have hd : opDisarm 1 u = (u, 0) := by unfold opDisarm; rw [hn]
      have hs : opSwitchNow 1 u = (u, 5) := by unfold opSwitchNow; rw [hn]
      rw [hd, hs]
      exact ⟨rfl, rfl⟩
    case armed =>
      refine ⟨fun hf => ?_, fun hf => ?_, fun h => ?_, fun h0 hs hc => ?_, fun h0 hs hc h3 => ?_, fun h0 hs hc h3 => ?_⟩
      · rw [opDisarm_fixed ha 1 hf]
      · rw [opDisarm_free ha 1 hf]
        exact ⟨_, rfl, State.disarmed_answered ha m⟩
      · rw [opSwitchNow_notHere ha 1 h]
      · rw [opSwitchNow_here ha 1 h0 hs, State.condition_met ha _ hc]
      · rw [opSwitchNow_here ha 1 h0 hs, State.condition_ready ha _ hc h3]
      · rw [opSwitchNow_here ha 1 h0 hs, State.condition_deferred ha _ hc h3]
        rfl
  case switch =>
    cases trig with
    | none =>
      obtain ⟨h, hD, hs⟩ := u.makeSwitch_standby_spec a hact hrec hjob
      refine ⟨h.armed, h.recipe, h.bank, h.status, h.swap, h.switched, h.built, fun _ => ⟨h.line, hD, ?_, hs⟩, fun _ _ _ h => nomatch h⟩
      rw [h.time, State.fine]
      omega
    | some p =>
      obtain ⟨line, time, pos⟩ := p
      obtain ⟨h, hc⟩ := u.makeSwitch_trigger_spec a hact hrec hjob line time pos
      refine ⟨h.armed, h.recipe, h.bank, h.status, h.swap, h.switched, h.built, (fun hn => nomatch hn), fun l t p hp => ?_⟩
      obtain ⟨rfl, rfl, rfl⟩ : line = l ∧ time = t ∧ pos = p := by simpa using hp
      exact ⟨h.line, h.time, hc⟩
  case due => exact (event_at e (by rw [ha]; rfl) : execRecipeSwitch dt s = _).trans (congrArg _ (State.settleSwitch_due ha hd))
  case standby =>
    exact (event_at e (by rw [ha]; rfl) : execRecipeSwitch dt s = _).trans (congrArg _ (State.settleSwitch_standby ha hd hst h3 hc))
  case begins =>
    obtain ⟨harm, hst, hho, hcan, hA⟩ := u.blendShown_spec a
    exact ⟨_, u.blendArmed a, exec_blendStart e ha hok h1 hb, harm, rfl, rfl, rfl, rfl, hst, hho, hcan, hA⟩
  case ends =>
    intro own
    have hown : u.blendDark a = own := rfl
    clear_value own
    cases hb : u.basisBytes (rBasis (u.recipe a.recipe)) with
    | none =>
      obtain ⟨hl, h1, hA, hB, hst, -, -, hp⟩ := State.blendFailed_spec ha h2 4
      exact ⟨_, (execBlendComplete_none e ha h2 hb : exec (.blendComplete dt) s = _), hl, fun _ => ⟨h1, hA, hB, hst, hp⟩, fun b h => nomatch h⟩
    | some b =>
      cases hc : blend (u.recipe a.recipe) b a.recipe a.minWhite a.maxDef own with
      | error c =>
        obtain ⟨hl, h1, hA, hB, hst, hho, hr, hp⟩ := State.blendFailed_spec ha h2 c
        have hx : exec (.blendComplete dt) s = _ := execBlendComplete_error e ha h2 hb (by rw [hown]; exact hc)
        refine ⟨_, hx, hl, (fun h => nomatch h), fun b' h' => ?_⟩
        cases h'
        rw [hc]
        refine ⟨fun c' h => ?_, (fun _ h => nomatch h)⟩
        cases h
        exact ⟨h1, hA, hB, hst, hho, hr, hp⟩
      | ok bytes =>
        obtain ⟨hl, hd⟩ := u.blendDone_spec a bytes
        have hx : exec (.blendComplete dt) s = _ := execBlendComplete_ok e ha h2 hb (by rw [hown]; exact hc)
        refine ⟨_, hx, hl, (fun h => nomatch h), fun b' h' => ?_⟩
        cases h'
        rw [hc]
        refine ⟨(fun _ h => nomatch h), fun bytes' h => ?_⟩
        cases h
        exact hd
  case startup =>
    obtain ⟨h1, h2, h3, -⟩ := u.beginArm_spec u.startupArmed
    have hx := exec_startupBuild e h
    generalize u.beginArm u.startupArmed = b at *
    refine ⟨_, u.startupArmed, hx, by rw [h1], rfl, rfl, rfl, rfl, rfl, (State.rd_congr rfl _ _).trans h2, ?_⟩
    exact (State.bankEntry_congr rfl).2.trans h3

end Sys2Proof
end
section
set_option Elab.async false
namespace Sys2Proof.Machine

/-! ### Output lines (R173, R183, R184, R188) -/

theorem State.fill_length (s : State) (plane : Nat) (px : List (Option Cand)) : (s.fill plane px).length = px.length := by
  unfold State.fill
  exact List.length_mapIdx

/-- R164, R169, R184: what every line made says of itself. -/
theorem State.tryLine_made {s : State} {k : LineKind} {c : LineCtx} {j : Nat} {l : OutLine} {d : List SeamData} {gap : Bool}
    (h : s.tryLine k c j = .made l d gap) : l.num = j ∧ l.pos = c.pos ∧ l.recipe = c.grid.recipe ∧ l.job = c.grid.job ∧
      l.planes.length = rP c.grid.bytes ∧ ∀ p ∈ l.planes, p.length = l.width := by
  unfold State.tryLine at h
  dsimp only at h
  split at h
  · cases h
  split at h
  · cases h
  split at h
  · cases h
  obtain ⟨rfl, -, -⟩ := LineResult.made.inj h
  refine ⟨rfl, rfl, rfl, rfl, by rw [List.length_map, List.length_range], fun p hp => ?_⟩
  obtain ⟨q, -, rfl⟩ := List.mem_map.mp hp
  rw [State.fill_length, List.length_map, List.length_range]

/-- What a line that is made leaves of the count of lines. -/
def State.lineCount (s : State) : Nat × Nat × List Grid × Option (Nat × Nat) := (s.rdg.next, s.rdg.count, s.rdg.grids, s.rdg.omitted)

theorem State.windowLine_lineCount (s : State) (d : SeamData) (overlap : Nat) : (s.windowLine d overlap).lineCount = s.lineCount := by
  unfold State.windowLine
  dsimp only
  split <;> rfl

theorem State.lineCount_congr {s t : State} (h : t.rdg = s.rdg) : t.lineCount = s.lineCount := by
  rw [State.lineCount, State.lineCount, h]

theorem State.raiseIf_rdg (s : State) (c : Bool) (k d : Nat) : (s.raiseIf c k d).rdg = s.rdg := by
  unfold State.raiseIf
  split
  · exact s.raise1_rdg k d
  · rfl

/-- R173: a line made is no further line number. -/
theorem State.lineMade_lineCount (s : State) (l : OutLine) (seams : List SeamData) (gap : Bool) : (s.lineMade l seams gap).lineCount = s.lineCount := by
  unfold State.lineMade
  extract_lets a b c d src e
  have ha : a.lineCount = s.lineCount := State.lineCount_congr (s.bump_rdg _ _ _)
  have hb : b.lineCount = a.lineCount := by
    unfold b
    split
    · exact State.lineCount_congr (a.bump_rdg _ _ _)
    · rfl
  have hc : c.lineCount = b.lineCount := by
    unfold c
    split
    · exact State.lineCount_congr (b.bump_rdg _ _ _)
    · rfl
  have hd : d.lineCount = c.lineCount := State.lineCount_congr (c.raiseIf_rdg _ _ _)
  have he : e.lineCount = d.lineCount := rfl
  exact (State.eachOf_off State.lineCount (fun _ _ t => t.windowLine_lineCount _ _) e).trans (he.trans (hd.trans (hc.trans (hb.trans ha))))

/-! ### The next line (R173, R188) -/

/-- R173: one kind's line joins the others of its number. -/
def lineTaken (acc : State × List OutLine) : LineResult → State × List OutLine
  | .made l d gap => (acc.1.lineMade l d gap, acc.2 ++ [l])
  | .undecided | .omitted => acc

/-- R173: the number after the one that is tried. -/
def State.lineNumbered (s : State) : State := { s with rdg := { s.rdg with next := (s.rdg.next + 1) % 2 ^ 32, count := s.rdg.count + 1 } }

/-- R188: the run of omitted lines, one longer. -/
def State.omittedRun (s : State) (j : Nat) : Nat × Nat := (s.rdg.omitted.map (fun q => (q.1, q.2 + 1))).getD (j, 1)

/-- R188: a line omitted through a forced trim. -/
def State.lineOmitted (s : State) (j : Nat) : State :=
  { s.raiseIf s.rdg.omitted.isNone 857 0 with rdg := { s.rdg with omitted := some (s.omittedRun j) } }

/-- R173: the kinds of line that are made of each number. -/
def State.lineKinds (s : State) : List LineKind :=
  (if (s.lineSegs .native).isEmpty then [] else [.native]) ++ (if s.compatMode then [.compat] else [])

/-- R173: the attempts at the next line. -/
def State.lineTries (s : State) (g : Grid) (r : List Grid) (force : Bool) : List LineResult :=
  s.lineKinds.map (fun k => s.tryLine k ⟨g, r.head?.map (·.cycle), g.at_ s.rdg.next, force⟩ s.rdg.next)

theorem State.lineTries_made {s : State} {g : Grid} {r : List Grid} {force : Bool} {l : OutLine} {d : List SeamData} {gap : Bool}
    (h : .made l d gap ∈ s.lineTries g r force) : l.num = s.rdg.next ∧ l.pos = g.at_ s.rdg.next ∧ l.recipe = g.recipe ∧ l.job = g.job ∧
      l.planes.length = rP g.bytes ∧ ∀ p ∈ l.planes, p.length = l.width := by
  obtain ⟨k, -, hk⟩ := List.mem_map.mp h
  exact State.tryLine_made hk

/-- The two ways in which the next line number is used up. -/
theorem State.ridgeLine_some {s t : State} {force : Bool} {ls : List OutLine} {g : Grid} {r : List Grid} (hg : s.rdg.grids = g :: r)
    (h : s.ridgeLine force = some (t, ls)) : g.anchor.isSome = true ∧ s.lineTries g r force ≠ [] ∧ .undecided ∉ s.lineTries g r force ∧
      ((.omitted ∈ s.lineTries g r force ∧ t = s.lineNumbered.lineOmitted s.rdg.next ∧ ls = []) ∨
        (.omitted ∉ s.lineTries g r force ∧ (t, ls) = (s.lineTries g r force).foldl lineTaken (s.lineNumbered, []))) := by
  unfold State.ridgeLine at h
  rw [hg] at h
  dsimp only at h
  split at h
  · cases h
  next ha =>
    refine ⟨Option.ne_none_iff_isSome.mp (fun h => ha (by rw [h]; rfl)), ?_⟩
    have hrs : s.lineTries g r force = ((if (s.lineSegs .native).isEmpty then ([] : List LineKind) else [.native]) ++
      (if s.compatMode then ([.compat] : List LineKind) else [])).map
        (fun k => s.tryLine k ⟨g, r.head?.map Grid.cycle, g.at_ s.rdg.next, force⟩ s.rdg.next) := rfl
    rw [← hrs] at h
    generalize s.lineTries g r force = rs at *
    clear hrs
    split at h
    · cases h
    next hn =>
      obtain ⟨hne, hu⟩ := not_or.mp (fun ho => hn (Bool.or_eq_true_iff.mpr ho))
      refine ⟨fun hk => hne (by rw [hk]; rfl), fun hm => hu (List.any_eq_true.mpr ⟨_, hm, rfl⟩), ?_⟩
      split at h
      next ho =>
        obtain ⟨x, hx, hox⟩ := List.any_eq_true.mp ho
        obtain ⟨ht, hl⟩ := Prod.mk.inj (Option.some.inj h)
        refine .inl ⟨?_, ?_, hl.symm⟩
        · cases x with
          | omitted => exact hx
          | undecided => cases hox
          | made l d gap => cases hox
        · rw [← ht, State.lineOmitted, State.omittedRun]
          have ho : s.lineNumbered.rdg.omitted = s.rdg.omitted := rfl
          rw [ho]
          cases s.rdg.omitted <;> rfl
      next ho =>
        refine .inr ⟨fun hm => ho (List.any_eq_true.mpr ⟨_, hm, rfl⟩), (Option.some.inj h).symm.trans ?_⟩
        have hf : lineTaken = fun (acc : State × List OutLine) (x : LineResult) => lineTaken acc x := rfl
        refine congrFun (congrFun (congrArg List.foldl (funext fun acc => funext fun x => ?_)) _) _
        cases x <;> rfl

/-- What the lines taken leave of the count of lines, and what they are. -/
theorem lineTaken_fold {Q : OutLine → Prop} (rs : List LineResult) (hq : ∀ l d gap, .made l d gap ∈ rs → Q l) (hu : .undecided ∉ rs)
    (ho : .omitted ∉ rs) : ∀ acc : State × List OutLine, (∀ l ∈ acc.2, Q l) → let p := rs.foldl lineTaken acc
      p.1.lineCount = acc.1.lineCount ∧ (∀ l ∈ p.2, Q l) ∧ p.2.length = acc.2.length + rs.length := by
  induction rs with
  | nil => exact fun acc h => ⟨rfl, h, rfl⟩
  | cons x rs ih =>
    intro acc h
    cases x with
    | undecided => exact absurd List.mem_cons_self hu
    | omitted => exact absurd List.mem_cons_self ho
    | made l d gap =>
      have hnew : ∀ y ∈ acc.2 ++ [l], Q y := fun y hy => (List.mem_append.mp hy).elim (h y)
        (fun hy => (List.mem_singleton.mp hy) ▸ hq l d gap List.mem_cons_self)
      obtain ⟨h1, h2, h3⟩ := ih (fun l d gap hm => hq l d gap (List.mem_cons_of_mem _ hm)) (fun hm => hu (List.mem_cons_of_mem _ hm))
        (fun hm => ho (List.mem_cons_of_mem _ hm)) (acc.1.lineMade l d gap, acc.2 ++ [l]) hnew
      refine ⟨h1.trans (State.lineMade_lineCount _ l d gap), h2, h3.trans ?_⟩
      simp only [List.length_append, List.length_cons, List.length_nil]
      omega

/-! ### The peg (R205) -/

theorem pegTypes : tyAt 0x4804 8 = .u32 ∧ tyAt 0x4804 0xB = .u32 := by decide +kernel

/-- R205: the peg as the entries show it. -/
def State.pegShown (s : State) : State :=
  ((s.wr 0x4804 8 ((s.rdg.next + 2 ^ 32 - 1) % 2 ^ 32 : Nat)).wr 0x4804 9 (s.posOfLine ((s.rdg.next + 2 ^ 32 - 1) % 2 ^ 32))).bump 0x4804 0xB

theorem State.pegMarker_writes (s : State) (j cause : Nat) : Writes queueEntry s (s.pegMarker j cause) :=
  (Writes.refl _ s).eachOf (fun _ _ _ h => h.putMarker (fun _ _ h => h))

theorem State.pegShown_rd (s : State) : s.pegShown.rd 0x4804 8 = ((s.rdg.next + 2 ^ 32 - 1) % 2 ^ 32 : Nat) ∧
    s.pegShown.rd 0x4804 0xB = (s.rd 0x4804 0xB + 1) % 2 ^ 32 := by
  obtain ⟨t8, tB⟩ := pegTypes
  unfold State.pegShown
  generalize s.posOfLine ((s.rdg.next + 2 ^ 32 - 1) % 2 ^ 32) = p
  have hn : (s.rdg.next + 2 ^ 32 - 1) % 2 ^ 32 < 2 ^ 32 := Nat.mod_lt _ (by decide)
  generalize (s.rdg.next + 2 ^ 32 - 1) % 2 ^ 32 = n at *
  rw [State.rd_bump_at (hj := by decide) (hj' := by decide), if_neg (by decide), State.rd_wr_at _ _ (by decide) (by decide), if_neg (by decide),
    State.rd_wr_self _ _ (by decide), t8, Ty.wrap_u32, State.rd_bump_at (hj := by decide) (hj' := by decide), if_pos (by decide), tB, Ty.wrap_u32,
    State.rd_wr_at _ _ (by decide) (by decide), if_neg (by decide), State.rd_wr_at _ _ (by decide) (by decide), if_neg (by decide)]
  exact ⟨by omega, rfl⟩

theorem State.fixPeg_spec {s : State} (h : s.trn.pegOwed.isSome = true) : let t := s.fixPeg
    t.trn.pegOwed = none ∧ t.rd 0x4804 8 = ((s.rdg.next + 2 ^ 32 - 1) % 2 ^ 32 : Nat) ∧ t.rd 0x4804 0xB = (s.rd 0x4804 0xB + 1) % 2 ^ 32 ∧
      t.Presents 583 := by
  obtain ⟨cause, hc⟩ := Option.isSome_iff_exists.mp h
  dsimp only
  unfold State.fixPeg
  rw [hc]
  dsimp only
  have hsh : ((s.wr 0x4804 8 ((s.rdg.next + 2 ^ 32 - 1) % 2 ^ 32 : Nat)).wr 0x4804 9 (s.posOfLine ((s.rdg.next + 2 ^ 32 - 1) % 2 ^ 32))).bump 0x4804 0xB
    = s.pegShown := rfl
  rw [hsh]
  obtain ⟨h8, hB⟩ := s.pegShown_rd
  clear hsh
  generalize s.pegShown = q at *
  have hw := q.pegMarker_writes ((s.rdg.next + 2 ^ 32 - 1) % 2 ^ 32) cause
  generalize q.pegMarker ((s.rdg.next + 2 ^ 32 - 1) % 2 ^ 32) cause = m at *
  have hr : Writes (fun i _ => i = 0x2800 + 583) m (m.raise1 583 0) := (Writes.refl _ m).raise1 (fun _ => rfl)
  have hp := m.presents_raise1 583 0
  generalize m.raise1 583 0 = t at *
  have hrd {j : Nat} (hj : j < 256) : t.rd 0x4804 j = q.rd 0x4804 j :=
    (hr.rd hj (by decide)).trans (hw.rd hj (by unfold queueEntry; omega))
  exact ⟨rfl, (State.rd_congr rfl _ _).trans ((hrd (by decide)).trans h8), (State.rd_congr rfl _ _).trans ((hrd (by decide)).trans hB), hp⟩

/-- R173, R188: what the next line number leaves, its line made or omitted. -/
theorem State.ridgeLine_spec {s t : State} {force : Bool} {ls : List OutLine} {g : Grid} {r : List Grid} (hg : s.rdg.grids = g :: r)
    (h : s.ridgeLine force = some (t, ls)) : g.anchor.isSome = true ∧ t.rdg.next = (s.rdg.next + 1) % 2 ^ 32 ∧ t.rdg.count = s.rdg.count + 1 ∧
      t.rdg.grids = s.rdg.grids ∧ (∀ l ∈ ls, l.num = s.rdg.next ∧ l.pos = g.at_ s.rdg.next ∧ l.recipe = g.recipe ∧ l.job = g.job ∧
        l.planes.length = rP g.bytes ∧ ∀ p ∈ l.planes, p.length = l.width) ∧
      (ls = [] → (∃ q, t.rdg.omitted = some q) ∧ (s.rdg.omitted = none → t.rdg.omitted = some (s.rdg.next, 1) ∧ t.Presents 857)) := by
  obtain ⟨ha, hne, hu, ⟨-, rfl, rfl⟩ | ⟨ho, hfold⟩⟩ := State.ridgeLine_some hg h
  · refine ⟨ha, rfl, rfl, rfl, (fun l hl => absurd hl List.not_mem_nil), fun _ => ⟨⟨_, rfl⟩, fun hn => ⟨?_, ?_⟩⟩⟩
    · show some (s.lineNumbered.omittedRun s.rdg.next) = _
      rw [State.omittedRun, (show s.lineNumbered.rdg.omitted = none from hn)]
      rfl
    · show (s.lineNumbered.raiseIf s.lineNumbered.rdg.omitted.isNone 857 0).Presents 857
      rw [State.raiseIf, if_pos (by rw [(show s.lineNumbered.rdg.omitted = none from hn)]; rfl)]
      exact State.presents_raise1 _ 857 0
  · obtain ⟨hc, hq, hl⟩ := lineTaken_fold (Q := fun l => l.num = s.rdg.next ∧ l.pos = g.at_ s.rdg.next ∧ l.recipe = g.recipe ∧ l.job = g.job ∧
      l.planes.length = rP g.bytes ∧ ∀ p ∈ l.planes, p.length = l.width) _ (fun _ _ _ hm => State.lineTries_made hm) hu ho (s.lineNumbered, [])
      (fun l hl => absurd hl List.not_mem_nil)
    rw [← hfold] at hc hq hl
    have hcount : t.lineCount = s.lineNumbered.lineCount := hc
    obtain ⟨h1, h2⟩ := Prod.mk.inj hcount
    obtain ⟨h2, h3⟩ := Prod.mk.inj h2
    refine ⟨ha, h1, h2, (Prod.mk.inj h3).1, hq, fun he => absurd hl ?_⟩
    subst he
    have := List.length_pos_of_ne_nil hne
    simp only [List.length_nil]
    omega

section
variable {u v : State} {bad : List (Nat × Nat)} (hv : u.ridgeReady bad = v)
include hv

theorem State.produceLine_none (h : v.ridgeLine false = none) :
    u.produceLine bad = if v.trn.pegOwed.isSome && v.exposuresDone then v.fixPeg else v := by
  unfold State.produceLine
  simp only [hv, h]

theorem State.produceLine_some {t : State} {ls : List OutLine} (h : v.ridgeLine false = some (t, ls)) :
    u.produceLine bad = t.deliverLines ls := by
  unfold State.produceLine
  simp only [hv, h]

end

end Sys2Proof.Machine
namespace Sys2Proof
open Machine

/-- Settles O28: what the next number's lines are is told where they are tried; the peg by what it writes. -/
theorem outputLines : Obligations.OutputLines := by
  intro s dt bad u v
  have e : s.pass dt = u := rfl
  have hv : u.ridgeReady bad = v := rfl
  clear_value u v
  have run (hl : u.live = true) (hs : u.stalled = false) : exec (.outputLineProduced dt bad) s = .next (u.produceLine bad) :=
    (event_at e (by rw [hl, hs]; rfl) : execOutputLineProduced dt bad s = _)
  refine ⟨fun h => ?idle, fun hl hs => ⟨fun hn hp => ?waits, fun hn hp hd => ?peg, fun t ls h => ?makes⟩, fun force t ls g r hg h => ?line⟩
  case idle =>
    have hoff : (u.live && !u.stalled) = false := by rcases h with h | h <;> rw [h] <;> simp
    have hx : exec (.outputLineProduced dt bad) s = .next (s.pass dt) :=
      (event_idle (by rw [e]; exact hoff) : execOutputLineProduced dt bad s = _)
    rw [hx, e]
  case waits =>
    refine (run hl hs).trans (congrArg _ ((State.produceLine_none hv hn).trans (if_neg ?_)))
    rcases hp with h | h <;> rw [h] <;> simp
  case peg =>
    obtain ⟨h1, h2, h3, h4⟩ := State.fixPeg_spec hp
    exact ⟨_, (run hl hs).trans (congrArg _ ((State.produceLine_none hv hn).trans (if_pos (by rw [hp, hd]; rfl)))), rfl, h1, h2, h3, h4⟩
  case makes => exact (run hl hs).trans (congrArg _ (State.produceLine_some hv h))
  case line => exact State.ridgeLine_spec hg h

end Sys2Proof
end
section
set_option Elab.async false
namespace Sys2Proof.Machine

/-! ### Folds under an invariant -/

/-- What every step of a fold keeps, the fold keeps. -/
theorem State.eachOf_keep {β : Type} {l : List β} {f : β → State → State} (I : State → Prop) (h : ∀ a ∈ l, ∀ s, I s → I (f a s)) :
    ∀ s : State, I s → I (s.eachOf l f) := by
  induction l with
  | nil => exact fun _ hs => hs
  | cons a l ih => exact fun s hs => ih (fun a ha => h a (by simp [ha])) (f a s) (h a (by simp) s hs)

/-- A fold over different members, of which only `b` changes a quantity, each step acting as said where `I` holds. -/
theorem State.eachOf_at_of {α β : Type} {l : List β} {f : β → State → State} {b : β} (I : State → Prop) (g : State → α) (e : α → α) (hl : l.Nodup)
    (hb : b ∈ l) (hI : ∀ a ∈ l, ∀ s, I s → I (f a s)) (hat : ∀ s, I s → g (f b s) = e (g s))
    (hoff : ∀ a ∈ l, a ≠ b → ∀ s, g (f a s) = g s) : ∀ s : State, I s → g (s.eachOf l f) = e (g s) := by
  induction l with
  | nil => simp at hb
  | cons a l ih =>
    intro s hs
    obtain ⟨ha, hl⟩ := List.nodup_cons.mp hl
    by_cases hab : a = b
    · subst hab
      refine (State.eachOf_off g (fun c hc => hoff c (by simp [hc]) (fun e => ha (e ▸ hc))) (f a s)).trans (hat s hs)
    · have hb' : b ∈ l := by simpa [Ne.symm hab] using hb
      rw [← hoff a (by simp) hab s]
      exact ih hl hb' (fun c hc => hI c (by simp [hc])) (fun c hc => hoff c (by simp [hc])) (f a s) (hI a (by simp) s hs)

theorem State.each_keep {n : Nat} {f : Nat → State → State} (I : State → Prop) (h : ∀ i < n, ∀ s, I s → I (f i s)) (s : State) (hs : I s) :
    I (s.each n f) :=
  State.eachOf_keep I (fun i hi => h i (List.mem_range.mp hi)) s hs

theorem State.each_at_of {α : Type} {n k : Nat} {f : Nat → State → State} (I : State → Prop) (g : State → α) (e : α → α) (hk : k < n)
    (hI : ∀ i < n, ∀ s, I s → I (f i s)) (hat : ∀ s, I s → g (f k s) = e (g s)) (hoff : ∀ i < n, i ≠ k → ∀ s, g (f i s) = g s) (s : State)
    (hs : I s) : g (s.each n f) = e (g s) :=
  State.eachOf_at_of I g e List.nodup_range (List.mem_range.mpr hk) (fun i hi => hI i (List.mem_range.mp hi)) hat
    (fun i hi => hoff i (List.mem_range.mp hi)) s hs

/-! ### Targets and steps (R181, R182) -/

theorem limit_between {lo hi : Int} (h : lo ≤ hi) (v : Int) : lo ≤ limit lo hi v ∧ limit lo hi v ≤ hi := by
  unfold limit
  split
  · omega
  · split <;> omega

theorem seamTarget_spec (old mean r : Int) (g lim : Nat) : -(lim : Int) ≤ (seamTarget old mean r g lim).1 ∧ (seamTarget old mean r g lim).1 ≤ lim ∧
    ((seamTarget old mean r g lim).2 = false → (seamTarget old mean r g lim).1 = old + ((mean + r) - old) / 2 ^ g) := by
  unfold seamTarget
  dsimp only
  obtain ⟨h1, h2⟩ := limit_between (lo := -(lim : Int)) (hi := lim) (by omega) (old + ((mean + r) - old) / 2 ^ g)
  refine ⟨h1, h2, fun h => ?_⟩
  have h := of_decide_eq_false h
  rw [limit, if_neg (by omega), if_neg (by omega)]

theorem seamTarget_natAbs (old mean r : Int) (g lim : Nat) : (seamTarget old mean r g lim).1.natAbs ≤ lim := by
  obtain ⟨h1, h2, -⟩ := seamTarget_spec old mean r g lim
  omega

/-- R182: a step goes toward its target and no further. -/
theorem stepTo_spec (v t : Int) (k : Nat) : (stepTo v t k - v).natAbs ≤ k ∧ (stepTo v t k - t).natAbs ≤ (v - t).natAbs ∧
    (1 ≤ k → v ≠ t → stepTo v t k ≠ v) := by
  unfold stepTo
  split <;> omega

theorem nearest_pos {n : Nat} (h : n ≤ 131072) : 1 ≤ nearest 65536 (max 1 n) := by
  unfold nearest
  exact (Nat.one_le_div_iff (by omega)).mpr (by omega)

/-- R182: one step of a seam moves one of its parts. -/
theorem Seam.step_spec (q : Seam) (n : Nat) : let t := q.step n
    t.shiftT = q.shiftT ∧ t.stretchT = q.stretchT ∧ (t.shiftA = q.shiftA ∨ t.stretchA = q.stretchA) ∧
      (t.shiftA - q.shiftA).natAbs ≤ 1 ∧ (t.shiftA - q.shiftT).natAbs ≤ (q.shiftA - q.shiftT).natAbs ∧
      (t.stretchA - q.stretchA).natAbs ≤ nearest 65536 (max 1 n) ∧
      (t.stretchA - q.stretchT).natAbs ≤ (q.stretchA - q.stretchT).natAbs ∧
      (n ≤ 131072 → (t = q ↔ q.shiftA = q.shiftT ∧ q.stretchA = q.stretchT)) := by
  obtain ⟨a1, a2, a3⟩ := stepTo_spec q.shiftA q.shiftT 1
  obtain ⟨b1, b2, b3⟩ := stepTo_spec q.stretchA q.stretchT (nearest 65536 (max 1 n))
  unfold Seam.step
  dsimp only
  split
  next h =>
    refine ⟨rfl, rfl, .inr rfl, a1, a2, by simp, le_rfl, fun _ => ⟨fun ht => ?_, fun he => absurd he.1 h.1⟩⟩
    exact absurd (congrArg Seam.shiftA ht) (a3 le_rfl h.1)
  next h =>
    split
    next h' =>
      refine ⟨rfl, rfl, .inl rfl, by simp, le_rfl, b1, b2, fun hn => ⟨fun ht => ?_, fun he => absurd he.2 h'⟩⟩
      exact absurd (congrArg Seam.stretchA ht) (b3 (nearest_pos hn) h')
    next h' =>
      refine ⟨rfl, rfl, .inl rfl, by simp, le_rfl, by simp, le_rfl, fun _ => ⟨fun _ => ?_, fun _ => rfl⟩⟩
      have hs : q.stretchA = q.stretchT := not_not.mp h'
      exact ⟨not_not.mp (fun hne => h ⟨hne, .inl hs⟩), hs⟩

/-! ### Seams -/

theorem State.seam_updSeam (s : State) {i : Nat} (hi : i < 32) (f : Seam → Seam) (j : Nat) :
    (s.updSeam i f).seam j = if i = j then f (s.seam j) else s.seam j := by
  refine (vget_vupd s.rdg.seams i j f).trans ?_
  by_cases h : i = j
  · rw [if_pos ⟨h, hi⟩, if_pos h]; rfl
  · rw [if_neg (fun hh => h hh.1), if_neg h]; rfl

theorem State.seam_congr {s t : State} (h : t.rdg = s.rdg) (i : Nat) : t.seam i = s.seam i := by
  rw [State.seam, State.seam, h]

/-! ### Windows (R181) -/

theorem guylineTypes : ∀ i : Fin 31, tyAt (0x4460 + i) 1 = .u32 := by decide +kernel

theorem State.publish_rdg (s : State) (idx flags : Nat) (vals : List Int) : (s.publish idx flags vals).rdg = s.rdg :=
  (State.publish_keeps (.refl .rdg s) rfl idx flags vals).same

/-- R180, R181: the lower of the two peaks. -/
def Seam.peak (q : Seam) : Int := min (peakOf q.near).1 (peakOf q.far).1

/-- R181: too few lines of the window were used. -/
def Seam.few (q : Seam) : Bool := decide (q.used < 512)

/-- R181: the peak is too low. -/
def Seam.low (q : Seam) : Bool := !q.few && decide (q.peak < q.par.threshold)

/-- R181: the window moves the targets. -/
def Seam.updates (q : Seam) (cut : Bool) : Bool := !cut && !q.few && !q.low

/-- R181: the target of the shift that a window gives, and whether it was limited. -/
def Seam.newShift (q : Seam) (ratio : Rat) : Int × Bool :=
  seamTarget q.shiftT (rdiv q.sumShift q.lines) (half ((((peakOf q.near).2 + (peakOf q.far).2 : Int) : Rat) / 2 * ratio)) q.par.gain q.par.shiftLimit

/-- R181: the same of the stretch. -/
def Seam.newStretch (q : Seam) : Int × Bool :=
  seamTarget q.stretchT (rdiv q.sumStretch q.lines)
    (if q.width = 0 then 0 else half ((((peakOf q.far).2 - (peakOf q.near).2 : Int) : Rat) * 2 ^ 17 / q.width)) q.par.gain q.par.stretchLimit

/-- R181: a seam whose window has ended. -/
def Seam.ended (q : Seam) (ratio : Rat) (cut : Bool) : Seam :=
  { q with
    lines := 0, lowTold := if cut || q.few then q.lowTold else q.low
    shiftT := if q.updates cut then (q.newShift ratio).1 else q.shiftT, stretchT := if q.updates cut then q.newStretch.1 else q.stretchT }

theorem State.windowEnd_eq (s : State) (i : Nat) (ratio : Rat) (cut : Bool) : ∃ (limited : Bool) (flags : Nat) (vals : List Int), vals.length < 100 ∧
    s.windowEnd i ratio cut = (((s.updSeam i (fun _ => (s.seam i).ended ratio cut)).raiseIf (!cut && (s.seam i).low && !(s.seam i).lowTold) 855 0).raiseIf
      limited 854 0).publish (0x4460 + i) flags vals := by
  unfold State.windowEnd Seam.ended Seam.newShift Seam.newStretch Seam.updates Seam.low Seam.peak Seam.few
  dsimp only
  refine ⟨_, _, _, ?_, rfl⟩
  simp

theorem State.windowEnd_rdg (s : State) (i : Nat) (ratio : Rat) (cut : Bool) :
    (s.windowEnd i ratio cut).rdg = (s.updSeam i (fun _ => (s.seam i).ended ratio cut)).rdg := by
  obtain ⟨_, _, _, -, h⟩ := s.windowEnd_eq i ratio cut
  rw [h, State.publish_rdg, State.raiseIf_rdg, State.raiseIf_rdg]

theorem State.windowEnd_seam (s : State) {i : Nat} (hi : i < 32) (ratio : Rat) (cut : Bool) (j : Nat) :
    (s.windowEnd i ratio cut).seam j = if i = j then (s.seam i).ended ratio cut else s.seam j := by
  rw [State.seam_congr (s.windowEnd_rdg i ratio cut), State.seam_updSeam _ hi]

theorem State.windowEnd_result (s : State) (i : Fin 31) (ratio : Rat) (cut : Bool) :
    (s.windowEnd i ratio cut).rdN (0x4460 + i) 1 % 2 ^ 24 = nextResult (s.rdN (0x4460 + i) 1) := by
  obtain ⟨limited, flags, vals, hl, h⟩ := s.windowEnd_eq i ratio cut
  have hu : (s.updSeam i (fun _ => (s.seam i).ended ratio cut)).rd (0x4460 + i) 1 = s.rd (0x4460 + i) 1 := State.rd_congr rfl _ _
  rw [h, State.publish_next _ (guylineTypes i) flags hl, State.rdN, State.rdN, ← hu]
  have hi := i.isLt
  generalize s.updSeam i (fun _ => (s.seam i).ended ratio cut) = u
  have hw : Writes (fun k _ => k = 0x2800 + 855 ∨ k = 0x2800 + 854) u
      ((u.raiseIf (!cut && (s.seam i).low && !(s.seam i).lowTold) 855 0).raiseIf limited 854 0) :=
    ((Writes.refl _ u).raiseIf (fun _ => .inl rfl)).raiseIf (fun _ => .inr rfl)
  rw [hw.rd (by decide) (by omega)]

theorem Writes.publish {P : Nat → Nat → Prop} {s t : State} (h : Writes P s t) {idx flags : Nat} {vals : List Int} (hv : vals.length < 100)
    (hp : ∀ j, P idx j) : Writes P s (t.publish idx flags vals) := by
  have hev : (t.publish idx flags vals).ev = t.ev := (State.publish_keeps (.refl .ev t) rfl idx flags vals).same
  refine h.trans (.of_touch ?_ hev)
  unfold State.publish
  exact ((Touch.wr t _ (by decide) (hp 1)).trans (.wrAll (fun _ _ => hp _) (by omega) _)).trans (.of_dict rfl)

theorem State.windowEnd_low (s : State) (i : Nat) (ratio : Rat) (h : (s.seam i).low = true) (ht : (s.seam i).lowTold = false) :
    (s.windowEnd i ratio false).Presents 855 := by
  obtain ⟨limited, flags, vals, hl, he⟩ := s.windowEnd_eq i ratio false
  rw [he, h, ht]
  generalize s.updSeam i (fun _ => (s.seam i).ended ratio false) = u
  have hu : u.raiseIf (!false && true && !false) 855 0 = u.raise1 855 0 := if_pos rfl
  rw [hu]
  have hw : Writes (fun _ _ => True) (u.raise1 855 0) (((u.raise1 855 0).raiseIf limited 854 0).publish (0x4460 + i) flags vals) :=
    ((Writes.refl _ _).raiseIf (fun _ => trivial)).publish hl (fun _ => trivial)
  exact hw.presents (u.presents_raise1 855 0)

/-- R181, R187: what the end of a window does to its seam. -/
theorem Seam.ended_spec (q : Seam) (ratio : Rat) (cut : Bool) : let t := q.ended ratio cut
    t.lines = 0 ∧ t.shiftA = q.shiftA ∧ t.stretchA = q.stretchA ∧
      (cut = true ∨ q.used < 512 ∨ q.peak < q.par.threshold → t.shiftT = q.shiftT ∧ t.stretchT = q.stretchT) ∧
      (cut = false → 512 ≤ q.used → (q.par.threshold : Int) ≤ q.peak → t.shiftT.natAbs ≤ q.par.shiftLimit ∧ t.stretchT.natAbs ≤ q.par.stretchLimit) := by
  refine ⟨rfl, rfl, rfl, fun h => ?_, fun hc hu hp => ?_⟩
  · have hn : q.updates cut = false := by
      unfold Seam.updates Seam.low Seam.few
      rcases h with h | h | h
      · simp [h]
      · simp [h]
      · simp [h]
    exact ⟨if_neg (by rw [hn]; decide), if_neg (by rw [hn]; decide)⟩
  · have hy : q.updates cut = true := by
      unfold Seam.updates Seam.low Seam.few
      simp [hc, Nat.not_lt.mpr hu, Int.not_lt.mpr hp]
    have hs : (q.ended ratio cut).shiftT = (q.newShift ratio).1 := if_pos hy
    have ht : (q.ended ratio cut).stretchT = q.newStretch.1 := if_pos hy
    rw [hs, ht]
    exact ⟨seamTarget_natAbs .., seamTarget_natAbs ..⟩

theorem State.settleWindow_other (t : State) {k j : Nat} (hk : k < 32) (hne : k ≠ j) :
    (if 1024 ≤ (t.seam k).lines then t.windowEnd k (t.seamRatio k t.gridBytes) false else t).seam j = t.seam j := by
  split
  · rw [t.windowEnd_seam hk, if_neg hne]
  · rfl

/-- R181: windows of 1,024 lines end, the others go on. -/
theorem State.settleWindows_spec (s : State) : (∀ i : Fin 31, (s.settleWindows.seam i).lines < 1024) ∧
    (∀ i : Fin 32, (s.seam i).lines < 1024 ∨ i = 31 → s.settleWindows.seam i = s.seam i) ∧ s.settleWindows.rdg.grids = s.rdg.grids := by
  unfold State.settleWindows
  refine ⟨fun i => ?_, fun i h => ?_, ?_⟩
  · have hi := i.isLt
    refine (State.each_at (fun t => (t.seam i).lines) (fun n => if 1024 ≤ n then 0 else n) hi (fun t => ?_) (fun k hk hne t => ?_) s).trans_lt ?_
    · by_cases hl : 1024 ≤ (t.seam i).lines
      · rw [if_pos hl, if_pos hl, t.windowEnd_seam (by omega), if_pos rfl]
        rfl
      · rw [if_neg hl, if_neg hl]
    · exact congrArg Seam.lines (t.settleWindow_other (by omega) hne)
    · split <;> omega
  · refine State.each_keep (fun t => t.seam i = s.seam i) (fun k hk t ht => ?_) s rfl
    by_cases hki : k = i
    · subst hki
      rw [if_neg]
      · exact ht
      · rw [ht]
        refine Nat.not_le.mpr (h.resolve_right fun h => ?_)
        have h : (i : Nat) = 31 := congrArg Fin.val h
        omega
    · exact (t.settleWindow_other (by omega) hki).trans ht
  · refine State.each_off (fun t => t.rdg.grids) (fun i _ t => ?_) s
    split
    · rw [State.windowEnd_rdg]
      rfl
    · rfl

/-! ### Applied values (R182) -/

/-- R182: a seam is frozen now. -/
def State.frozenSeam (s : State) (q : Seam) : Bool :=
  s.rd 0x4443 1 = 2 || (match q.freeze with | some f => decide (s.rdg.count < f) | none => false)

theorem State.geometry_congr {s t : State} (h : t.dict = s.dict) (i : Nat) : t.nPx (t.outerOf i) = s.nPx (s.outerOf i) ∧
    t.usedSegments = s.usedSegments := by
  have hrd : t.rd = s.rd := funext fun i => funext fun j => State.rd_congr h i j
  have hrdN : t.rdN = s.rdN := funext fun i => funext fun j => congrArg Int.toNat (State.rd_congr h i j)
  have hu : t.usedSegments = s.usedSegments := by rw [State.usedSegments, State.usedSegments, hrd]
  have ht : t.taps = s.taps := funext fun g => by rw [State.taps, State.taps, hrdN]
  have hc : t.compatMode = s.compatMode := by rw [State.compatMode, State.compatMode, hrd]
  have hl : t.lineSegs = s.lineSegs := funext fun k => by unfold State.lineSegs; rw [hc, hu, ht]
  have hr : t.refIndex = s.refIndex := funext fun l => by rw [State.refIndex, State.refIndex, hrdN]
  have ho : t.outerOf = s.outerOf := funext fun j => by rw [State.outerOf, State.outerOf, hc, ht, hl, hr]
  have hn : t.nPx = s.nPx := funext fun g => by
    rw [State.nPx, State.nPx, ht]
    exact congrArg (fun f => ((s.taps g).map f).sum) (funext fun c => by rw [State.activePx, State.activePx, hrdN])
  exact ⟨by rw [ho, hn], hu⟩

/-- R182: the state after the counter of the steps has moved on. -/
def State.slewCounted (s : State) : State := { s with rdg := { s.rdg with slewed := s.rdg.slewed + 64 } }

/-- R182: what a step does to a seam in its turn. -/
def State.slewSeam (i : Nat) (s : State) : State :=
  if s.seamFrozen i then s else s.updSeam i (fun q => q.step (s.nPx (s.outerOf i)))

theorem State.slewSeam_seam (s : State) {i : Nat} (hi : i < 32) (j : Nat) : (s.slewSeam i).seam j =
    if i = j then (if s.frozenSeam (s.seam i) then s.seam i else (s.seam i).step (s.nPx (s.outerOf i))) else s.seam j := by
  unfold State.slewSeam
  have hf : s.seamFrozen i = s.frozenSeam (s.seam i) := rfl
  rw [hf]
  by_cases h : s.frozenSeam (s.seam i) = true
  · rw [if_pos h, if_pos h]
    by_cases hij : i = j
    · rw [if_pos hij, hij]
    · rw [if_neg hij]
  · rw [if_neg h, if_neg h, State.seam_updSeam _ hi]
    by_cases hij : i = j
    · subst hij; rfl
    · rw [if_neg hij, if_neg hij]

/-- A step of the slew leaves the dictionary and the counts of lines. -/
theorem State.slewSeam_same (s : State) (i : Nat) : (s.slewSeam i).dict = s.dict ∧ (s.slewSeam i).rdg.count = s.rdg.count ∧
    (s.slewSeam i).rdg.slewed = s.rdg.slewed := by
  unfold State.slewSeam
  split <;> exact ⟨rfl, rfl, rfl⟩

theorem State.settleSlew_due {s : State} (h : s.rdg.slewed + 64 ≤ s.rdg.count) :
    s.settleSlew = if s.rd 0x4443 1 = 0 then s.slewCounted else s.slewCounted.eachOf s.usedSegments State.slewSeam := by
  unfold State.settleSlew
  rw [if_neg (Nat.not_lt.mpr h)]
  have hrd : s.slewCounted.rd 0x4443 1 = s.rd 0x4443 1 := State.rd_congr rfl _ _
  have hu : s.slewCounted.usedSegments = s.usedSegments := (State.geometry_congr rfl 0).2
  rw [← hrd, ← hu]
  rfl

theorem State.mem_usedSegments {s : State} {i : Nat} (h : i ∈ s.usedSegments) : i < 32 :=
  List.mem_range.mp (List.mem_of_mem_filter h)

theorem State.usedSegments_nodup (s : State) : s.usedSegments.Nodup := List.nodup_range.filter _

theorem State.settleSlew_spec {s : State} (h : s.rdg.slewed + 64 ≤ s.rdg.count) : s.settleSlew.rdg.slewed = s.rdg.slewed + 64 ∧
    s.settleSlew.dict = s.dict ∧ ∀ i : Fin 32, s.settleSlew.seam i =
      if s.rd 0x4443 1 = 0 ∨ i.val ∉ s.usedSegments ∨ s.seamFrozen i = true then s.seam i else (s.seam i).step (s.nPx (s.outerOf i)) := by
  rw [State.settleSlew_due h]
  by_cases h0 : s.rd 0x4443 1 = 0
  · rw [if_pos h0]
    exact ⟨rfl, rfl, fun i => (if_pos (.inl h0)).symm⟩
  rw [if_neg h0]
  refine ⟨State.eachOf_off (fun t => t.rdg.slewed) (fun i _ t => (t.slewSeam_same i).2.2) s.slewCounted,
    State.eachOf_off State.dict (fun i _ t => (t.slewSeam_same i).1) s.slewCounted, fun i => ?_⟩
  by_cases hi : i.val ∈ s.usedSegments
  · have hstep := State.eachOf_at_of (f := State.slewSeam) (fun t => t.dict = s.dict ∧ t.rdg.count = s.rdg.count) (fun t => t.seam i)
      (fun q => if s.frozenSeam q then q else q.step (s.nPx (s.outerOf i))) s.usedSegments_nodup hi
      (fun k _ t ht => ⟨(t.slewSeam_same k).1.trans ht.1, (t.slewSeam_same k).2.1.trans ht.2⟩)
      (fun t ht => by
        have hf (q : Seam) : t.frozenSeam q = s.frozenSeam q := by
          rw [State.frozenSeam, State.frozenSeam, State.rd_congr ht.1, ht.2]
        rw [State.slewSeam_seam _ i.isLt, if_pos rfl, hf, (State.geometry_congr ht.1 i).1])
      (fun k hk hne t => by rw [State.slewSeam_seam _ (State.mem_usedSegments hk), if_neg hne])
      s.slewCounted ⟨rfl, rfl⟩
    refine hstep.trans ?_
    have hq : s.slewCounted.seam i = s.seam i := rfl
    have hf : s.seamFrozen i = s.frozenSeam (s.seam i) := rfl
    rw [hq, hf]
    by_cases hfr : s.frozenSeam (s.seam i) = true
    · rw [if_pos hfr, if_pos (.inr (.inr hfr))]
    · rw [if_neg hfr, if_neg (fun ho => ho.elim h0 (fun ho => ho.elim (fun hn => hn hi) hfr))]
  · rw [if_pos (.inr (.inl hi))]
    exact State.eachOf_off (fun t => t.seam i) (fun k hk t => by
      rw [State.slewSeam_seam _ (State.mem_usedSegments hk), if_neg (fun h : k = i => hi (h ▸ hk))]) s.slewCounted

/-! ### Freezes and the reset (R182) -/

/-- R182: a seam whose freeze 1,024 lines have passed. -/
def thawed (count : Nat) (q : Seam) : Seam :=
  match q.freeze with
  | some f => if f ≤ count then { q with freeze := none } else q
  | none => q

/-- R182: a freeze that is over is lifted in its turn. -/
def State.thaw (i : Nat) (s : State) : State :=
  match (s.seam i).freeze with
  | some f => if f ≤ s.rdg.count then s.updSeam i (fun q => { q with freeze := none }) else s
  | none => s

theorem State.thaw_seam (s : State) {i : Nat} (hi : i < 32) (j : Nat) : (s.thaw i).seam j =
    if i = j then thawed s.rdg.count (s.seam i) else s.seam j := by
  unfold State.thaw thawed
  cases hf : (s.seam i).freeze with
  | none =>
    dsimp only
    split
    next h => rw [h]
    next h => rfl
  | some f =>
    dsimp only
    by_cases h : f ≤ s.rdg.count
    · rw [if_pos h, if_pos h, State.seam_updSeam _ hi]
      split
      next h => rw [h]
      next h => rfl
    · rw [if_neg h, if_neg h]
      split
      next h => rw [h]
      next h => rfl

theorem State.thaw_same (s : State) (i : Nat) : (s.thaw i).dict = s.dict ∧ (s.thaw i).rdg.count = s.rdg.count := by
  unfold State.thaw
  split
  · split <;> exact ⟨rfl, rfl⟩
  · exact ⟨rfl, rfl⟩

theorem State.thawAll_spec (s : State) : (s.each 32 State.thaw).dict = s.dict ∧ ∀ i : Fin 32,
    (s.each 32 State.thaw).seam i = thawed s.rdg.count (s.seam i) :=
  ⟨State.each_off State.dict (fun i _ t => (t.thaw_same i).1) s, fun i =>
    State.each_at_of (fun t => t.rdg.count = s.rdg.count) (fun t => t.seam i) (thawed s.rdg.count) i.isLt
      (fun k _ t ht => (t.thaw_same k).2.trans ht) (fun t ht => by rw [t.thaw_seam i.isLt, if_pos rfl, ht])
      (fun k hk hne t => by rw [t.thaw_seam hk, if_neg hne]) s rfl⟩

/-- R182: a seam whose estimates are reset. -/
def Seam.reset (standby : Bool) (q : Seam) : Seam :=
  if standby then { q with shiftT := 0, stretchT := 0, shiftA := 0, stretchA := 0 } else { q with shiftT := 0, stretchT := 0 }

/-- R182: a seam's estimates are reset in its turn. -/
def State.resetSeam (i : Nat) (s : State) : State :=
  s.updSeam i (fun q =>
    let q := { q with shiftT := 0, stretchT := 0 }
    if s.dev.st = .standby then { q with shiftA := 0, stretchA := 0 } else q)

theorem opResetEstimates_eq (v : Int) (s : State) : opResetEstimates v s = (s.each 32 State.resetSeam, 0) := rfl

theorem State.resetSeam_seam (s : State) {i : Nat} (hi : i < 32) (j : Nat) :
    (s.resetSeam i).seam j = if i = j then (s.seam j).reset (s.dev.st = .standby) else s.seam j := by
  rw [State.resetSeam, State.seam_updSeam _ hi]
  refine if_congr Iff.rfl ?_ rfl
  unfold Seam.reset
  by_cases h : s.dev.st = .standby
  · rw [if_pos h, if_pos (decide_eq_true h)]
  · rw [if_neg h, if_neg (by rw [decide_eq_false h]; decide)]

theorem State.resetSeam_dev (s : State) (i : Nat) : (s.resetSeam i).dev = s.dev := rfl

theorem State.resetSeams_seam (s : State) (i : Fin 32) : (s.each 32 State.resetSeam).seam i = (s.seam i).reset (s.dev.st = .standby) :=
  State.each_at_of (fun t => t.dev = s.dev) (fun t => t.seam i) (fun q => q.reset (s.dev.st = .standby)) i.isLt (fun k _ t ht => (t.resetSeam_dev k).trans ht)
    (fun t ht => by rw [t.resetSeam_seam i.isLt, if_pos rfl, ht]) (fun k hk hne t => by rw [t.resetSeam_seam hk, if_neg hne]) s rfl

theorem resetEstimatesRow : rowOpen 0x4443 7 = true ∧ verdict 0x4443 7 1 = .keep 1 := by decide +kernel

end Sys2Proof.Machine
namespace Sys2Proof
open Machine

/-- Settles O29: each clause by the lemma about its step, the folds over the seams treating each in its turn. -/
theorem guyLine : Obligations.GuyLine := by
  intro s dt u
  have resets (m : Fin 17) (hm : u.masterPresent m = true) (hr : u.dev.ready = true) :
      exec (.resetEstimates dt m) s = .next ((opResetEstimates 1 u).1.answer m 0x4443 7 (opResetEstimates 1 u).2) :=
    (hostCommand_open hm hr resetEstimatesRow.1 resetEstimatesRow.2 : execResetEstimates dt m s = _)
  have e : s.pass dt = u := rfl
  clear_value u
  refine ⟨fun old mean r g lim => seamTarget_spec old mean r g lim, fun q n => q.step_spec n, fun i ratio cut => ?window,
    ⟨_, (event_at e rfl : execGuylineWindowEnd dt s = _), u.settleWindows_spec⟩, fun h => ?still, fun h => ?slew, ?freeze, fun m hm hr => ?reset⟩
  case window =>
    obtain ⟨h1, h2, h3, h4, h5⟩ := (u.seam i).ended_spec ratio cut
    have hi := i.isLt
    have hseam : (u.windowEnd i ratio cut).seam i = (u.seam i).ended ratio cut := by rw [u.windowEnd_seam (by omega), if_pos rfl]
    dsimp only
    rw [hseam]
    refine ⟨h1, h2, h3, h4, fun hc hu hp ht => ?_, h5, u.windowEnd_result i ratio cut, fun j hj => ?_⟩
    · subst hc
      refine u.windowEnd_low i ratio ?_ ht
      unfold Seam.low Seam.few Seam.peak
      rw [decide_eq_false (Nat.not_lt.mpr hu), decide_eq_true hp]
      rfl
    · rw [u.windowEnd_seam (by omega), if_neg (Ne.symm hj)]
  case still => exact (event_at e rfl : execGuylineSlewStep dt s = _).trans (congrArg _ (if_pos h))
  case slew => exact ⟨_, (event_at e rfl : execGuylineSlewStep dt s = _), State.settleSlew_spec h⟩
  case freeze =>
    obtain ⟨hd, hs⟩ := u.thawAll_spec
    have hx : exec (.seamFreezeEnd dt) s = .next (u.each 32 State.thaw) := (event_at e rfl : execSeamFreezeEnd dt s = _)
    refine ⟨_, hx, hd, fun i => ⟨fun f hf => ?_, fun hf => ?_⟩⟩
    · rw [hs, thawed, hf]
    · rw [hs, thawed, hf]
  case reset =>
    refine ⟨_, resets m hm hr, State.answer_reply _ m.isLt _ _ _ _ _, fun i => ?_⟩
    have hrdg : ((opResetEstimates 1 u).1.answer m 0x4443 7 (opResetEstimates 1 u).2).rdg = (opResetEstimates 1 u).1.rdg :=
      State.answer_same (p := .rdg) _ rfl _ _ _ _
    rw [State.seam_congr hrdg, opResetEstimates_eq, State.resetSeams_seam]
    unfold Seam.reset
    by_cases h : u.dev.st = .standby
    · rw [if_pos h, if_pos (decide_eq_true h)]
    · rw [if_neg h, if_neg (by rw [decide_eq_false h]; decide)]

end Sys2Proof
end
section
/-! ## The encoder and the table (O30, O31) -/
set_option Elab.async false
namespace Sys2Proof.Machine

theorem encoderTypes : tyAt 0x4801 6 = .u32 ∧ tyAt 0x4801 7 = .u64 ∧ tyAt 0x4801 8 = .u8 ∧ tyAt 0x4801 9 = .u32 ∧ tyAt 0x4801 0xA = .u32 := by
  decide +kernel

theorem zeroNextRow : rowOpen 0x4801 5 = true ∧ verdict 0x4801 5 1 = .keep 1 := by decide +kernel

/-- An event at which nothing is due, the state of arrival named. -/
theorem timed_idle_at {dt : Nat} {s u : State} {due : State → Bool} {act : State → State} (e : s.arrive dt = u) (h : due u = false) :
    timed dt s due act = .next u := by
  subst e; exact timed_idle h

/-! ### What a count leaves of the encoder (R193) -/

/-- The encoder's inputs and its count. -/
def State.encoder (s : State) : Bool × Bool × Int := (s.trn.encA, s.trn.encB, s.trn.enc)

section
variable (s : State)

theorem State.encoder_congr {s t : State} (h : t.trn = s.trn) : t.encoder = s.encoder := by rw [State.encoder, State.encoder, h]

theorem State.casbySample_encoder (t : Nat) (p : Int) : (s.casbySample t p).encoder = s.encoder := by
  unfold State.casbySample
  dsimp only
  split <;> rfl

theorem State.sendTriggerFrame_encoder (t : Nat) (p : Int) : (s.sendTriggerFrame t p).encoder = s.encoder := by
  unfold State.sendTriggerFrame
  extract_lets exec a csb b
  have ha : a.trn = s.trn := (State.sendFrame_keeps (.refl .trn s) rfl _ _).same
  have hb : b.encoder = s.encoder := State.encoder_congr (s := s) (t := b) ha
  split
  · exact (State.casbySample_encoder _ _ _).trans hb
  · exact hb

theorem State.tellSwitch_encoder (was : Bool) (num : Nat) (probe : State) : (s.tellSwitch was num probe).encoder = s.encoder := by
  unfold State.tellSwitch
  split
  · split
    next a _ _ => exact State.encoder_congr (State.sendJobFrame_keeps (.refl .trn s) rfl a.job num).same
    · rfl
  · rfl

theorem State.trigger_encoder (t origin rep : Nat) (pos : Int) (num : Option Nat) : (s.trigger t origin rep pos num).encoder = s.encoder :=
  State.encoder_congr (State.trigger_keeps (.refl .trn s) rfl _ _ _ _ _).same

theorem State.ownTrigger_encoder (t origin : Nat) (pos : Int) : (s.ownTrigger t origin pos).encoder = s.encoder := by
  unfold State.ownTrigger
  dsimp only
  split
  · exact State.trigger_encoder _ _ _ _ _ _
  · split
    · exact (State.sendTriggerFrame_encoder _ _ _).trans (State.tellSwitch_encoder _ _ _ _)
    · exact (State.sendTriggerFrame_encoder _ _ _).trans ((State.tellSwitch_encoder _ _ _ _).trans (State.trigger_encoder _ _ _ _ _ _))

theorem State.divide_encoder (t : Nat) (p : Int) (origin : Nat) : (s.divide t p origin).encoder = s.encoder := by
  unfold State.divide
  split
  · rfl
  · split
    · exact (State.ownTrigger_encoder _ _ _ _).trans rfl
    · rfl

theorem State.wrBit_encoder (i j n : Nat) (b : Bool) : (s.wrBit i j n b).encoder = s.encoder := State.encoder_congr (by rw [State.wrBit_trn])

theorem State.raise1_encoder (k d : Nat) : (s.raise1 k d).encoder = s.encoder := State.encoder_congr (s.raise1_trn k d)

/-- R196, R208: a direction fault that is told, and what is noted of it. -/
theorem State.told_encoder {t : State} (h : t.encoder = s.encoder) (n k : Nat) : ((t.wrBit 0x4801 8 n true).raise1 k 0).encoder = s.encoder :=
  (State.raise1_encoder _ _ _).trans ((State.wrBit_encoder _ _ _ _ _).trans h)

theorem State.againstPress_encoder (step : Int) : (s.againstPress step).encoder = s.encoder := by
  unfold State.againstPress
  split
  · rfl
  · split
    · dsimp only
      split
      · split
        · rfl
        · refine s.told_encoder ?_ 3 579
          rfl
      · rfl
    · rfl

theorem State.supOff_encoder : (s.updTrn (fun x => { x with supOff := true })).encoder = s.encoder := rfl

theorem State.againstCommand_encoder (step : Int) : (s.againstCommand step).encoder = s.encoder := by
  unfold State.againstCommand
  split
  · dsimp only
    split
    · refine (State.supOff_encoder _).trans (s.told_encoder ?_ 4 580)
      rfl
    · rfl
  · rfl

/-- R193: the count itself, with its edge. -/
def State.counted (s : State) (step : Int) : State :=
  s.updTrn (fun x => { x with enc := s.trn.enc + step, encEdges := recentEdges s.fine ((s.fine, s.trn.enc + step) :: x.encEdges) })

theorem State.countEdges_encoder (n : Int) (g : List (Nat × Int) → List (Nat × Int)) :
    (s.updTrn (fun x => { x with enc := n, encEdges := g x.encEdges })).encoder = (s.trn.encA, s.trn.encB, n) := rfl

theorem State.counted_encoder (step : Int) : (s.counted step).encoder = (s.trn.encA, s.trn.encB, s.trn.enc + step) :=
  s.countEdges_encoder (s.trn.enc + step) (fun l => recentEdges s.fine ((s.fine, s.trn.enc + step) :: l))

/-- R197: an excursion above the maximum press speed that is over. -/
def State.speedChecked (s : State) : State :=
  if s.trn.overTold && decide (s.encoderSpeed ≤ s.rd 0x4800 5) then s.updTrn (fun x => { x with overTold := false }) else s

/-- R198: a count as the transport position takes it. -/
def State.countTaken (s : State) (t : Nat) (n step : Int) : State :=
  if s.paced ∨ s.casbyPosition then s
  else
    let s := s.addEdge t (n * 2 ^ 24)
    if 0 < step ∧ s.dividing then s.divide t (n * 2 ^ 24) 0 else s

theorem State.encoderCount_eq (step : Int) : s.encoderCount step =
    (((s.counted step).speedChecked.againstPress step).againstCommand step).countTaken s.fine (s.trn.enc + step) step := by
  unfold State.encoderCount State.countTaken State.speedChecked State.counted
  with_reducible rfl

theorem State.speedChecked_encoder : s.speedChecked.encoder = s.encoder := by
  unfold State.speedChecked
  split <;> rfl

theorem State.countTaken_encoder (t : Nat) (n step : Int) : (s.countTaken t n step).encoder = s.encoder := by
  have ha : (s.addEdge t (n * 2 ^ 24)).encoder = s.encoder := rfl
  unfold State.countTaken
  dsimp only
  split
  · rfl
  · split
    · exact (State.divide_encoder _ _ _ _).trans ha
    · exact ha

/-- R193: one count is one more or one less, and leaves the inputs. -/
theorem State.encoderCount_encoder (step : Int) : (s.encoderCount step).encoder = (s.trn.encA, s.trn.encB, s.trn.enc + step) := by
  rw [State.encoderCount_eq, State.countTaken_encoder, State.againstCommand_encoder, State.againstPress_encoder, State.speedChecked_encoder,
    State.counted_encoder]

end

end Sys2Proof.Machine
end
section
set_option Elab.async false
namespace Sys2Proof.Machine

/-! ### Edges of A and B (R193) -/

/-- R193: the first illegal transition of a run. -/
def State.illegalFirst (s : State) : Bool := match s.trn.illegal with | none => true | some t => decide (t + 1000000 ≤ s.now)

theorem State.encBit_congr {s t : State} (h : t.rd 0x4801 8 = s.rd 0x4801 8) (k : Nat) : t.encBit k = s.encBit k := by
  rw [State.encBit, State.encBit, State.rdN, State.rdN, h]

section
variable (s : State)

/-- R193: an illegal transition is counted, and told where it is the first of a run. -/
theorem State.illegalTransition_spec : let t := s.illegalTransition
    t.trn = { s.trn with illegal := some s.now } ∧ t.rd 0x4801 9 = (s.rd 0x4801 9 + 1) % 2 ^ 32 ∧ t.tim = s.tim ∧
      (s.illegalFirst = true → t.Presents 576) ∧ (s.illegalFirst = false → t.ev = s.ev) := by
  obtain ⟨-, -, -, h9, -⟩ := encoderTypes
  have he : s.illegalTransition = ((s.bump 0x4801 9).raiseIf s.illegalFirst 576 0).updTrn (fun x => { x with illegal := some s.now }) := by
    unfold State.illegalTransition State.illegalFirst
    rfl
  dsimp only
  rw [he]
  have hb : (s.bump 0x4801 9).rd 0x4801 9 = (s.rd 0x4801 9 + 1) % 2 ^ 32 := by
    rw [State.rd_bump_at (hj := by decide) (hj' := by decide), if_pos (by decide), h9, Ty.wrap_u32]
    rfl
  have htrn : (s.bump 0x4801 9).trn = s.trn := State.bump_trn _ _ _ _
  have htim : (s.bump 0x4801 9).tim = s.tim := State.bump_tim _ _ _ _
  have hev : (s.bump 0x4801 9).ev = s.ev := State.bump_ev _ _ _ _
  generalize s.bump 0x4801 9 = b at *
  have hw : Writes (fun i _ => i = 0x2800 + 576) b (b.raiseIf s.illegalFirst 576 0) := (Writes.refl _ b).raiseIf (fun _ => rfl)
  have hp (h : s.illegalFirst = true) : (b.raiseIf s.illegalFirst 576 0).Presents 576 := by
    rw [h]
    exact b.presents_raise1 576 0
  have hn (h : s.illegalFirst = false) : (b.raiseIf s.illegalFirst 576 0).ev = b.ev := by rw [h]; rfl
  have ht : (b.raiseIf s.illegalFirst 576 0).trn = b.trn := (State.raiseIf_keeps (.refl .trn b) rfl _ _ _).same
  have hm : (b.raiseIf s.illegalFirst 576 0).tim = b.tim := (State.raiseIf_keeps (.refl .tim b) rfl _ _ _).same
  generalize b.raiseIf s.illegalFirst 576 0 = r at *
  refine ⟨?_, (State.rd_congr rfl _ _).trans ((hw.rd (by decide) (by decide)).trans hb), hm.trans htim, hp, fun h => (hn h).trans hev⟩
  show { r.trn with illegal := some s.now } = _
  rw [ht, htrn]

/-- R193: the levels of A and B are taken. -/
def State.levels (s : State) (a b : Bool) : State := s.updTrn (fun x => { x with encA := a, encB := b })

/-- R193: an edge of B leads. -/
def State.leads (s : State) (a b : Bool) : Prop := if a ≠ s.trn.encA then a ≠ b else a = b

theorem State.levels_rd (a b : Bool) (i j : Nat) : (s.levels a b).rd i j = s.rd i j := State.rd_congr rfl i j

end

/-- R193: with both inputs valid an edge is looked at. -/
theorem State.levels_valid {u : State} (a b : Bool) (h0 : u.encBit 0 = false) (h1 : u.encBit 1 = false) :
    ¬ ((u.levels a b).encBit 0 = true ∨ (u.levels a b).encBit 1 = true) := by
  have hb (k : Nat) : (u.levels a b).encBit k = u.encBit k := State.encBit_congr (u.levels_rd a b _ _) k
  rw [hb, hb, h0, h1]
  decide

/-- R193: a step whose sense follows from the sequence and from the configured direction. -/
theorem step_of_lead {p q : Prop} {_ : Decidable (p = q)} {_ : Decidable q} (h : p) : (if p = q then (1 : Int) else -1) = if q then 1 else -1 :=
  if_congr ⟨fun hpq => cast hpq h, fun hq => propext ⟨fun _ => hq, fun _ => h⟩⟩ rfl rfl

theorem step_of_lag {p q : Prop} {_ : Decidable (p = q)} {_ : Decidable q} (h : ¬ p) : (if p = q then (1 : Int) else -1) = if q then -1 else 1 := by
  by_cases hq : q
  · rw [if_pos hq, if_neg (fun hpq => h (cast hpq.symm hq))]
  · rw [if_neg hq, if_pos (propext ⟨fun hp => absurd hp h, fun hh => absurd hh hq⟩)]

section
variable {s u : State} {dt : Nat} (e : s.arrive dt = u)
include e

section
variable (a b : Bool)

section
variable (hc : u.trn.counting = true)
include hc

theorem exec_encoderEdge_flagged (h : u.encBit 0 = true ∨ u.encBit 1 = true) : exec (.encoderEdge dt a b) s = .next (u.levels a b) := by
  refine (timed_at e hc : execEncoderEdge dt a b s = _).trans (congrArg _ (if_pos ?_))
  have hb (k : Nat) : (u.levels a b).encBit k = u.encBit k := State.encBit_congr (u.levels_rd a b _ _) k
  exact h.imp (hb 0).trans (hb 1).trans

variable (h0 : u.encBit 0 = false) (h1 : u.encBit 1 = false)
include h0 h1

theorem exec_encoderEdge_illegal (ha : a ≠ u.trn.encA) (hb : b ≠ u.trn.encB) :
    exec (.encoderEdge dt a b) s = .next (u.levels a b).illegalTransition :=
  (timed_at e hc : execEncoderEdge dt a b s = _).trans
    (congrArg _ ((if_neg (State.levels_valid a b h0 h1)).trans (if_pos ⟨ha, hb⟩)))

theorem exec_encoderEdge_count (h : a ≠ u.trn.encA ↔ b = u.trn.encB) : ∃ step : Int,
    exec (.encoderEdge dt a b) s = .next ((u.levels a b).encoderCount step) ∧
      (u.leads a b → step = if u.rd 0x4801 1 = 0 then 1 else -1) ∧ (¬ u.leads a b → step = if u.rd 0x4801 1 = 0 then -1 else 1) := by
  have hz : (u.levels a b).rd 0x4801 1 = 0 ↔ u.rd 0x4801 1 = 0 := by rw [State.levels_rd]
  refine ⟨_, (timed_at e hc : execEncoderEdge dt a b s = _).trans
    (congrArg _ ((if_neg (State.levels_valid a b h0 h1)).trans ((if_neg ?_).trans (if_pos ?_)))), fun hl => ?_, fun hl => ?_⟩
  · exact fun hh => hh.2 (h.mp hh.1)
  · by_cases ha : a ≠ u.trn.encA
    · exact .inl ha
    · exact .inr (fun hb => ha (h.mpr hb))
  · exact (step_of_lead hl).trans (if_congr hz rfl rfl)
  · exact (step_of_lag hl).trans (if_congr hz rfl rfl)

end

end

end

/-! ### The index edge (R194) -/

theorem State.paced_congr {s t : State} (h : t.rd 0x4800 1 = s.rd 0x4800 1) : t.paced = s.paced := by rw [State.paced, State.paced, h]

/-- The entries from which the position in use follows (R189). -/
def positionEntry (i j : Nat) : Prop := (i = 0x4800 ∧ (j = 1 ∨ j = 2)) ∨ (i = 0x2050 ∧ j = 1)

theorem State.casbyPosition_congr {s t : State} (h : ∀ i j, positionEntry i j → t.rd i j = s.rd i j) (hc : t.csb = s.csb) :
    t.casbyPosition = s.casbyPosition := by
  rw [State.casbyPosition, State.casbyPosition, State.paced_congr (h _ _ (.inl ⟨rfl, .inl rfl⟩)), h _ _ (.inr ⟨rfl, rfl⟩),
    h _ _ (.inl ⟨rfl, .inr rfl⟩), hc]

theorem State.extPos_congr {s t : State} (h : ∀ i j, positionEntry i j → t.rd i j = s.rd i j) (hc : t.csb = s.csb)
    (ht : t.trn.casby = s.trn.casby ∧ t.trn.steps = s.trn.steps ∧ t.trn.enc = s.trn.enc) : t.extPos = s.extPos := by
  obtain ⟨h1, h2, h3⟩ := ht
  rw [State.extPos, State.extPos, State.casbyPosition_congr h hc, State.paced_congr (h _ _ (.inl ⟨rfl, .inl rfl⟩)), h1, h2, h3]

/-- R194: a pending zero is applied. -/
def State.zeroed (s : State) : State :=
  if s.trn.zeroNext then s.updTrn (fun x => { x with zero := -(s.extPos / 2 ^ 24), zeroNext := false }) else s

/-- R194: the counts of the turn that ends. -/
def State.turnCounts (s : State) : Int := Ty.i32.wrap ((s.reported : Int) - s.trn.lastZ.getD 0)

/-- R194: a turn whose counts are wrong is counted and told. -/
def State.turnChecked (s : State) (zeroed : Bool) : State :=
  if s.rd 0x4801 4 ≠ 0 ∧ !zeroed ∧ s.trn.lastZ.isSome ∧ 4 < (((s.turnCounts.natAbs : Int) - s.rd 0x4801 4).natAbs) then
    (s.bump 0x4801 0xA).raise1 578 0
  else s

/-- R194: position and time of the edge are latched. -/
def State.edgeLatched (s : State) (p : Nat) : State := ((s.wr 0x4801 6 p).wr 0x4801 7 s.fine).updTrn (fun x => { x with lastZ := some p })

theorem exec_encoderZEdge {s u : State} {dt : Nat} (e : s.arrive dt = u) (hc : u.trn.counting = true) (hz : u.rd 0x4801 3 = 1)
    (h2 : u.encBit 2 = false) : exec (.encoderZEdge dt) s = .next ((u.zeroed.turnChecked u.trn.zeroNext).edgeLatched u.zeroed.reported) := by
  refine (timed_at e (by rw [hc, decide_eq_true hz, h2]; rfl) : execEncoderZEdge dt s = _).trans (congrArg _ ?_)
  unfold State.edgeLatched State.turnChecked State.turnCounts State.zeroed
  with_reducible rfl

section
variable (s : State)

theorem State.zeroed_of_pending (h : s.trn.zeroNext = true) :
    s.zeroed = s.updTrn (fun x => { x with zero := -(s.extPos / 2 ^ 24), zeroNext := false }) := if_pos h

theorem State.zeroed_of_none (h : s.trn.zeroNext = false) : s.zeroed = s := if_neg (by rw [h]; decide)

/-- R194: after a zeroing the position reads 0. -/
theorem State.zeroed_reported (h : s.trn.zeroNext = true) : s.zeroed.reported = 0 := by
  have hp : s.zeroed.extPos = s.extPos := by
    rw [s.zeroed_of_pending h]
    exact State.extPos_congr (fun i j _ => State.rd_congr rfl i j) rfl ⟨rfl, rfl, rfl⟩
  have hz : s.zeroed.trn.zero = -(s.extPos / 2 ^ 24) := by rw [s.zeroed_of_pending h]; rfl
  rw [State.reported, hp, hz, Int.add_right_neg]
  rfl

theorem State.reported_lt : s.reported < 2 ^ 32 := by
  unfold State.reported
  omega

theorem State.turnChecked_writes (b : Bool) : Writes (fun i j => (i = 0x4801 ∧ j = 0xA) ∨ i = 0x2800 + 578) s (s.turnChecked b) :=
  .ite (((Writes.refl _ s).bump (by decide) (.inl ⟨rfl, rfl⟩)).raise1 (fun _ => .inr rfl)) (.refl _ s)

theorem State.turnChecked_same (b : Bool) : (s.turnChecked b).trn = s.trn ∧ (s.turnChecked b).csb = s.csb ∧ (s.turnChecked b).now = s.now ∧
    (s.turnChecked b).compassOff = s.compassOff := by
  unfold State.turnChecked
  split
  · exact ⟨(State.raise1_trn _ _ _).trans (State.bump_trn _ _ _ _), (State.raise1_csb _ _ _).trans (State.bump_csb _ _ _ _),
      (State.raise1_now _ _ _).trans (State.bump_now _ _ _ _), (State.raise1_compassOff _ _ _).trans (State.bump_compassOff _ _ _ _)⟩
  · exact ⟨rfl, rfl, rfl, rfl⟩

theorem State.zeroed_same : s.zeroed.trn.zeroNext = false ∧ s.zeroed.ev = s.ev ∧ s.zeroed.fine = s.fine ∧
    s.zeroed.trn.lastZ = s.trn.lastZ ∧ ∀ i j, s.zeroed.rd i j = s.rd i j := by
  unfold State.zeroed
  by_cases h : s.trn.zeroNext = true
  · rw [if_pos h]
    exact ⟨rfl, rfl, rfl, rfl, fun i j => State.rd_congr rfl i j⟩
  · rw [if_neg h]
    exact ⟨Bool.eq_false_iff.mpr h, rfl, rfl, rfl, fun _ _ => rfl⟩

/-- R194: the edge as the entries and the latch show it. -/
theorem State.edgeLatched_spec {p : Nat} (hp : p < 2 ^ 32) : let t := s.edgeLatched p
    t.rd 0x4801 6 = p ∧ t.rd 0x4801 7 = s.fine ∧ t.trn = { s.trn with lastZ := some p } ∧ t.csb = s.csb ∧ t.ev = s.ev ∧
      ∀ i < 65536, ∀ j < 256, i ≠ 0x4801 ∨ (j ≠ 6 ∧ j ≠ 7) → t.rd i j = s.rd i j := by
  obtain ⟨h6, h7, -⟩ := encoderTypes
  have hf : s.fine < 2 ^ 64 := Nat.mod_lt _ (by decide)
  unfold State.edgeLatched
  generalize s.fine = f at *
  have hrd {i j : Nat} (hj : j < 256) : ((s.wr 0x4801 6 p).wr 0x4801 7 f).rd i j =
      if 0x4801 = i ∧ 7 = j then (f : Int) % 2 ^ 64 else if 0x4801 = i ∧ 6 = j then (p : Int) % 2 ^ 32 else s.rd i j := by
    rw [State.rd_wr_at _ _ (by decide) hj, h7, Ty.wrap_u64, State.rd_wr_at _ _ (by decide) hj, h6, Ty.wrap_u32]
  have htrn : ((s.wr 0x4801 6 p).wr 0x4801 7 f).trn = s.trn := by rw [State.wr_trn, State.wr_trn]
  have hcsb : ((s.wr 0x4801 6 p).wr 0x4801 7 f).csb = s.csb := by rw [State.wr_csb, State.wr_csb]
  have hev : ((s.wr 0x4801 6 p).wr 0x4801 7 f).ev = s.ev := by rw [State.wr_ev, State.wr_ev]
  generalize (s.wr 0x4801 6 p).wr 0x4801 7 f = w at *
  have hu (i j : Nat) : (w.updTrn (fun x => { x with lastZ := some p })).rd i j = w.rd i j := State.rd_congr rfl i j
  refine ⟨?_, ?_, ?_, hcsb, hev, fun i _ j hj hne => ?_⟩
  · rw [hu, hrd (by decide), if_neg (by decide), if_pos (by decide)]
    omega
  · rw [hu, hrd (by decide), if_pos (by decide)]
    omega
  · show { w.trn with lastZ := some p } = _
    rw [htrn]
  · rw [hu, hrd hj, if_neg (by omega), if_neg (by omega)]

/-- R194: a wrong count per revolution is counted and told; a right one is not. -/
theorem State.turnChecked_spec {z : Int} (hz : s.trn.lastZ = some z) (h0 : s.rd 0x4801 4 ≠ 0) : let n := s.turnCounts.natAbs
    s.turnCounts = Ty.i32.wrap ((s.reported : Int) - z) ∧
    (4 < ((n : Int) - s.rd 0x4801 4).natAbs → (s.turnChecked false).rd 0x4801 0xA = (s.rd 0x4801 0xA + 1) % 2 ^ 32 ∧ (s.turnChecked false).Presents 578) ∧
      (((n : Int) - s.rd 0x4801 4).natAbs ≤ 4 → (s.turnChecked false).ev = s.ev) := by
  obtain ⟨-, -, -, -, hA⟩ := encoderTypes
  refine ⟨by rw [State.turnCounts, hz]; rfl, fun h => ?_, fun h => ?_⟩
  · have he : s.turnChecked false = (s.bump 0x4801 0xA).raise1 578 0 := if_pos ⟨h0, by decide, by rw [hz]; rfl, h⟩
    have hb : (s.bump 0x4801 0xA).rd 0x4801 0xA = (s.rd 0x4801 0xA + 1) % 2 ^ 32 := by
      rw [State.rd_bump_at (hj := by decide) (hj' := by decide), if_pos (by decide), hA, Ty.wrap_u32]
      rfl
    rw [he]
    generalize s.bump 0x4801 0xA = b at *
    have hw : Writes (fun i _ => i = 0x2800 + 578) b (b.raise1 578 0) := (Writes.refl _ b).raise1 (fun _ => rfl)
    exact ⟨(hw.rd (by decide) (by decide)).trans hb, b.presents_raise1 578 0⟩
  · rw [State.turnChecked, if_neg]
    exact fun hh => absurd h (Nat.not_le.mpr hh.2.2.2)

theorem State.turnChecked_zeroed : s.turnChecked true = s := if_neg (fun h => absurd h.2.1 (by decide))

/-- R194: what an index edge leaves. -/
theorem State.indexEdge_spec : let t := (s.zeroed.turnChecked s.trn.zeroNext).edgeLatched s.zeroed.reported
    t.trn.zeroNext = false ∧ t.rd 0x4801 7 = s.fine ∧ t.trn.lastZ = some t.reported ∧ t.rd 0x4801 6 = t.reported ∧
      (s.trn.zeroNext = true → t.reported = 0 ∧ t.ev = s.ev) ∧ (s.trn.zeroNext = false → t.reported = s.reported ∧
        ∀ z : Int, s.trn.lastZ = some z → s.rd 0x4801 4 ≠ 0 →
          (4 < (((Ty.i32.wrap ((s.reported : Int) - z)).natAbs : Int) - s.rd 0x4801 4).natAbs →
            t.rd 0x4801 0xA = (s.rd 0x4801 0xA + 1) % 2 ^ 32 ∧ t.Presents 578) ∧
          ((((Ty.i32.wrap ((s.reported : Int) - z)).natAbs : Int) - s.rd 0x4801 4).natAbs ≤ 4 → t.ev = s.ev)) := by
  obtain ⟨hn, hev, hfine, -, -⟩ := s.zeroed_same
  have hzero := s.zeroed_reported
  have hnone := s.zeroed_of_none
  have hlt := s.zeroed.reported_lt
  generalize s.zeroed = z at *
  have hw := z.turnChecked_writes s.trn.zeroNext
  obtain ⟨htrn, hcsb, hnow, hoff⟩ := z.turnChecked_same s.trn.zeroNext
  have hfc := State.fine_congr hnow hoff
  have hset (h : s.trn.zeroNext = true) : z.turnChecked s.trn.zeroNext = z := by rw [h, State.turnChecked_zeroed]
  have hchk (h : s.trn.zeroNext = false) : z.turnChecked s.trn.zeroNext = s.turnChecked false := by rw [h, hnone h]
  generalize z.turnChecked s.trn.zeroNext = c at *
  obtain ⟨h6, h7, ht, htc, hte, hrd⟩ := c.edgeLatched_spec hlt
  have hpres (k : Nat) (h : c.Presents k) : (c.edgeLatched z.reported).Presents k := by rw [State.Presents, hte]; exact h
  generalize c.edgeLatched z.reported = t at *
  have hrep : t.reported = z.reported := by
    have hx : t.extPos = z.extPos := State.extPos_congr (fun i j h => by
        rw [hrd i (by unfold positionEntry at h; omega) j (by unfold positionEntry at h; omega) (by unfold positionEntry at h; omega),
          hw.rd (by unfold positionEntry at h; omega) (by unfold positionEntry at h; omega)]) (htc.trans hcsb)
      (by rw [ht, htrn]; exact ⟨rfl, rfl, rfl⟩)
    rw [State.reported, State.reported, hx, ht, htrn]
  refine ⟨by rw [ht, htrn]; exact hn, h7.trans (by rw [hfc, hfine]), by rw [ht, hrep]; rfl, h6.trans (by rw [hrep]),
    fun h => ⟨hrep.trans (hzero h), by rw [hte, hset h, hev]⟩, fun h => ⟨by rw [hrep, hnone h], fun q hq h0 => ?_⟩⟩
  obtain ⟨hq', hbad, hgood⟩ := s.turnChecked_spec hq h0
  rw [hq'] at hbad hgood
  rw [← hchk h] at hbad hgood
  refine ⟨fun hb => ?_, fun hg => hte.trans (hgood hg)⟩
  obtain ⟨hcount, hp⟩ := hbad hb
  exact ⟨(hrd _ (by decide) _ (by decide) (by decide)).trans hcount, hpres _ hp⟩

end

/-! ### Status bits (R195 to R197) -/

section
variable (s : State)

/-- One status bit written. -/
theorem State.encBit_wrBit (n : Nat) (b : Bool) {k : Nat} (hk : k < 8) : (s.wrBit 0x4801 8 n b).encBit k = if n = k then b else s.encBit k :=
  s.bit_wrBit (by decide) encoderTypes.2.2.1 n b hk

theorem State.wrBit_paced (n : Nat) (b : Bool) : (s.wrBit 0x4801 8 n b).paced = s.paced ∧
    (s.wrBit 0x4801 8 n b).casbyPosition = s.casbyPosition := by
  have hw : Writes (fun i j => i = 0x4801 ∧ j = 8) s (s.wrBit 0x4801 8 n b) := (Writes.refl _ s).wrBit (by decide) ⟨rfl, rfl⟩
  have hrd (i j : Nat) (h : positionEntry i j) : (s.wrBit 0x4801 8 n b).rd i j = s.rd i j := by
    unfold positionEntry at h
    exact hw.rd (by omega) (by omega)
  exact ⟨State.paced_congr (hrd _ _ (.inl ⟨rfl, .inl rfl⟩)), State.casbyPosition_congr hrd (State.wrBit_csb ..)⟩

theorem State.breakMarker_writes : Writes queueEntry s s.breakMarker :=
  .ite (.refl _ s) ((Writes.refl _ s).eachOf (fun _ _ _ h => ((h.flushRun (fun _ _ h => h)).putMarker (fun _ _ h => h)).updStream))

/-- R195: the restored inputs are told. -/
theorem State.restored_spec (pair : Nat) : let r := (s.wrBit 0x4801 8 pair false).breakMarker.raise1 587 0
    r.Presents 587 ∧ r.rd 0x4801 8 = (s.wrBit 0x4801 8 pair false).rd 0x4801 8 := by
  have hw := (s.wrBit 0x4801 8 pair false).breakMarker_writes
  dsimp only
  generalize (s.wrBit 0x4801 8 pair false) = w at *
  have hr : Writes (fun i _ => i = 0x2800 + 587) w.breakMarker (w.breakMarker.raise1 587 0) := (Writes.refl _ _).raise1 (fun _ => rfl)
  exact ⟨State.presents_raise1 _ 587 0, (hr.rd (by decide) (by decide)).trans (hw.rd (by decide) (by unfold queueEntry; omega))⟩

/-- R195: a pair whose input is valid again. -/
def State.restored (s : State) (pair : Nat) : State :=
  if pair < 2 ∧ !(s.wrBit 0x4801 8 pair false).encBit 0 ∧ !(s.wrBit 0x4801 8 pair false).encBit 1 ∧ !(s.wrBit 0x4801 8 pair false).paced ∧
      !(s.wrBit 0x4801 8 pair false).casbyPosition then
    (s.wrBit 0x4801 8 pair false).breakMarker.raise1 587 0
  else s.wrBit 0x4801 8 pair false

/-- R195: both inputs are valid again, inline with local positions. -/
theorem State.inputsBack_iff (pair : Fin 3) : (pair.val < 2 ∧ !(s.wrBit 0x4801 8 pair false).encBit 0 ∧ !(s.wrBit 0x4801 8 pair false).encBit 1 ∧
      !(s.wrBit 0x4801 8 pair false).paced ∧ !(s.wrBit 0x4801 8 pair false).casbyPosition) ↔
    (pair.val < 2 ∧ s.encBit (1 - pair.val) = false ∧ s.paced = false ∧ s.casbyPosition = false) := by
  obtain ⟨hp, hc⟩ := s.wrBit_paced pair false
  rw [s.encBit_wrBit pair false (by decide), s.encBit_wrBit pair false (by decide), hp, hc]
  fin_cases pair <;> simp

theorem State.restored_bits (pair : Fin 3) {k : Nat} (hk : k < 8) : (s.restored pair).encBit k = if pair.val = k then false else s.encBit k := by
  rw [← s.encBit_wrBit pair false hk]
  unfold State.restored
  split
  · exact State.encBit_congr (s.restored_spec pair).2 k
  · rfl

/-- R197: a status bit whose condition has been absent is cleared. -/
def State.reversalCleared (s : State) : State :=
  if s.encBit 3 && s.elapsed s.trn.reversedAt 100000000 then s.wrBit 0x4801 8 3 false else s

/-- R197: the same of the press mismatch. -/
def State.mismatchCleared (s : State) : State :=
  if s.encBit 5 && !s.pressMismatch && s.elapsed s.trn.mismatchAt 100000000 then s.wrBit 0x4801 8 5 false else s

theorem State.pressMismatch_congr {s t : State} (h : ∀ i j, j < 256 → (i = 0x4800 ∨ (i = 0x4801 ∧ j = 0xC)) → t.rd i j = s.rd i j) (ht : t.trn = s.trn)
    (hd : t.door = s.door) (hn : t.now = s.now) (hc : t.compassOff = s.compassOff) : t.pressMismatch = s.pressMismatch := by
  have hp : t.pressSpeed = s.pressSpeed := by
    rw [State.pressSpeed, State.pressSpeed, State.paced_congr (h _ _ (by decide) (.inl rfl)), hd]
  have he : t.encoderSpeed = s.encoderSpeed := by
    rw [State.encoderSpeed, State.encoderSpeed, State.encoderCounts, State.encoderCounts, ht, State.fine_congr hn hc, State.rdN, State.rdN,
      h 0x4800 3 (by decide) (.inl rfl)]
  unfold State.pressMismatch
  rw [hp, he, State.rdN, State.rdN, h _ _ (by decide) (.inr ⟨rfl, rfl⟩)]

theorem State.mismatchCleared_bits {k : Nat} (hk : k < 8) : s.mismatchCleared.encBit k =
    if 5 = k then s.encBit 5 && !(!s.pressMismatch && s.elapsed s.trn.mismatchAt 100000000) else s.encBit k := by
  unfold State.mismatchCleared
  split
  next h =>
    rw [s.encBit_wrBit 5 false hk]
    obtain ⟨h, he⟩ := (Bool.and_eq_true _ _).mp h
    obtain ⟨-, hm⟩ := (Bool.and_eq_true _ _).mp h
    rw [hm, he, Bool.true_and, Bool.not_true, Bool.and_false]
  next h =>
    by_cases h5 : 5 = k
    · subst h5
      rw [if_pos rfl]
      cases h1 : s.encBit 5 <;> cases h2 : s.pressMismatch <;> cases h3 : s.elapsed s.trn.mismatchAt 100000000 <;> simp_all
    · rw [if_neg h5]

theorem State.reversalCleared_bits {k : Nat} (hk : k < 8) : s.reversalCleared.encBit k =
    if 3 = k then s.encBit 3 && !s.elapsed s.trn.reversedAt 100000000 else s.encBit k := by
  unfold State.reversalCleared
  split
  next h =>
    rw [s.encBit_wrBit 3 false hk]
    obtain ⟨-, he⟩ := (Bool.and_eq_true _ _).mp h
    rw [he, Bool.not_true, Bool.and_false]
  next h =>
    by_cases h3 : 3 = k
    · subst h3
      rw [if_pos rfl]
      cases h1 : s.encBit 3 <;> cases h2 : s.elapsed s.trn.reversedAt 100000000 <;> simp_all
    · rw [if_neg h3]

theorem State.reversalCleared_writes : Writes (fun i j => i = 0x4801 ∧ j = 8) s s.reversalCleared :=
  .ite ((Writes.refl _ s).wrBit (by decide) ⟨rfl, rfl⟩) (.refl _ s)

theorem State.mismatchCleared_writes : Writes (fun i j => i = 0x4801 ∧ j = 8) s s.mismatchCleared :=
  .ite ((Writes.refl _ s).wrBit (by decide) ⟨rfl, rfl⟩) (.refl _ s)

theorem State.reversalCleared_same : s.reversalCleared.trn = s.trn ∧ s.reversalCleared.door = s.door ∧ s.reversalCleared.now = s.now ∧
    s.reversalCleared.compassOff = s.compassOff := by
  unfold State.reversalCleared
  split
  · exact ⟨State.wrBit_trn .., State.wrBit_door .., State.wrBit_now .., State.wrBit_compassOff ..⟩
  · exact ⟨rfl, rfl, rfl, rfl⟩

/-- R197: what is left of the two bits. -/
theorem State.statusCleared_spec : let t := s.reversalCleared.mismatchCleared
    t.encBit 3 = (s.encBit 3 && !s.elapsed s.trn.reversedAt 100000000) ∧
      t.encBit 5 = (s.encBit 5 && !(!s.pressMismatch && s.elapsed s.trn.mismatchAt 100000000)) ∧ Touch (fun i j => i = 0x4801 ∧ j = 8) s t := by
  obtain ⟨ht, hd, hn, hc⟩ := s.reversalCleared_same
  have hw := s.reversalCleared_writes
  have hm : s.reversalCleared.pressMismatch = s.pressMismatch := State.pressMismatch_congr (fun i j hj h => hw.rd hj (by omega)) ht hd hn hc
  have he : s.reversalCleared.elapsed s.reversalCleared.trn.mismatchAt 100000000 = s.elapsed s.trn.mismatchAt 100000000 := by
    rw [State.elapsed, State.elapsed, ht, hn]
  refine ⟨?_, ?_, (hw.trans s.reversalCleared.mismatchCleared_writes).touch⟩
  · rw [State.mismatchCleared_bits _ (by decide), if_neg (by decide), State.reversalCleared_bits _ (by decide), if_pos rfl]
  · rw [State.mismatchCleared_bits _ (by decide), if_pos rfl, hm, he, State.reversalCleared_bits _ (by decide), if_neg (by decide)]

end

end Sys2Proof.Machine
namespace Sys2Proof
open Machine

/-- Settles O30: each input by what it leaves of the encoder, the latches and the status bits. -/
theorem encoderInputs : Obligations.EncoderInputs := by
  intro s dt u w
  have hzero (m : Fin 17) (hm : w.masterPresent m = true) (hr : w.dev.ready = true) :
      exec (.zeroAtNextZ dt m) s = .next ((w.updTrn (fun x => { x with zeroNext := true })).answer m 0x4801 5 0) :=
    (hostCommand_open hm hr zeroNextRow.1 zeroNextRow.2 : execZeroAtNextZ dt m s = _)
  have e : s.arrive dt = u := rfl
  have e' : s.pass dt = w := rfl
  clear_value u w
  refine ⟨fun a b => ⟨fun hc => ?off, fun hc h => exec_encoderEdge_flagged e a b hc h, fun hc h0 h1 ha hb => ?illegal, fun hc h0 h1 h => ?count⟩,
    fun i hi hle => ?run, fun hc h3 h2 => ⟨_, exec_encoderZEdge e hc h3 h2, u.indexEdge_spec⟩, hzero,
    fun pair => ⟨fun hc hb => ?opened, fun hb => ?restored⟩, fun hm => ?mismatch, fun hp ho hv => ?overspeed, fun h => ?clear,
    fun p r hs hr hle => ?stop⟩
  case off => exact (timed_idle_at e hc : execEncoderEdge dt a b s = _)
  case illegal =>
    obtain ⟨h1, h2, h3, h4, h5⟩ := (u.levels a b).illegalTransition_spec
    rw [State.levels_rd] at h2
    refine ⟨_, exec_encoderEdge_illegal e a b hc h0 ‹_› ha hb, h1, h2, h3, fun hi => h4 ?_, fun i hi hlt => h5 ?_⟩
    · show (u.illegalFirst) = true
      unfold State.illegalFirst
      cases hx : u.trn.illegal with
      | none => rfl
      | some i => exact decide_eq_true (hi i hx)
    · show u.illegalFirst = false
      rw [State.illegalFirst, hi]
      exact decide_eq_false (Nat.not_le.mpr hlt)
  case count =>
    obtain ⟨step, hx, hlead, hlag⟩ := exec_encoderEdge_count e a b hc h0 h1 h
    have henc := (u.levels a b).encoderCount_encoder step
    obtain ⟨hA, hBE⟩ := Prod.mk.inj henc
    obtain ⟨hB, hE⟩ := Prod.mk.inj hBE
    exact ⟨_, hx, hA, hB, fun hl => hE.trans (congrArg (u.trn.enc + ·) (hlead hl)), fun hl => hE.trans (congrArg (u.trn.enc + ·) (hlag hl))⟩
  case run =>
    have hdue : (match w.trn.illegal with | none => false | some t => decide (t + 1000000 ≤ w.now)) = true := by
      rw [hi]
      exact decide_eq_true hle
    exact (event_at e' hdue : execIllegalRunEnd dt s = _)
  case opened => exact (timed_at e (by rw [hc, hb]; rfl) : execEncoderLineOpen dt pair s = _)
  case restored =>
    have hx : exec (.encoderLineRestored dt pair) s = .next (u.restored pair) := (timed_at e hb : execEncoderLineRestored dt pair s = _)
    have hp := pair.isLt
    refine ⟨_, hx, ?_, fun k hk hne => ?_, fun h2 h1 hpc hcp => ?_, fun h => ?_⟩
    · rw [u.restored_bits pair (by omega), if_pos rfl]
    · rw [u.restored_bits pair hk, if_neg (Ne.symm hne)]
    · have hr : u.restored pair = (u.wrBit 0x4801 8 pair false).breakMarker.raise1 587 0 := if_pos ((u.inputsBack_iff pair).mpr ⟨h2, h1, hpc, hcp⟩)
      rw [hr]
      exact (u.restored_spec pair).1
    · refine if_neg (fun hh => ?_)
      obtain ⟨h2, h1, hpc, hcp⟩ := (u.inputsBack_iff pair).mp hh
      rcases h with h | h | h | h
      · omega
      · exact absurd (h1.symm.trans h) (by decide)
      · exact absurd (hpc.symm.trans h) (by decide)
      · exact absurd (hcp.symm.trans h) (by decide)
  case mismatch =>
    refine (event_at e' hm : execPressSpeedMismatch dt s = _).trans (congrArg _ ?_)
    have hn : (if w.encBit 5 then w else (w.wrBit 0x4801 8 5 true).raise1 585 0).now = w.now := by
      split
      · rfl
      · rw [State.raise1_now, State.wrBit_now]
    dsimp only
    rw [hn]
  case overspeed => exact (event_at e' (by rw [hp, ho, decide_eq_true hv]; rfl) : execPressOverspeed dt s = _)
  case clear =>
    have hx : exec (.encoderStatusClear dt) s = .next w.reversalCleared.mismatchCleared :=
      (event_at e' (by rcases h with h | h <;> rw [h] <;> simp) : execEncoderStatusClear dt s = _)
    exact ⟨_, hx, w.statusCleared_spec⟩
  case stop =>
    have hdue : (!u.trn.stopped && (match u.trn.edges with | [] => false | e :: _ => decide (e.1 + u.tStop ≤ u.fine))) = true := by
      rw [hs, hr]
      exact decide_eq_true hle
    exact (timed_at e hdue : execTransportStopTimeout dt s = _)

end Sys2Proof
end
section
/-! ## A trigger at a bank number out of its type (R127, R198) -/
set_option Elab.async false
namespace Sys2Proof.Machine

/-- A scanning device with a swap pending and the next trigger point at 0, whose active bank, an 8-bit entry, reads so large that the
holder of "that bank" lies at the key of the trigger count 0x4802:03. -/
def strayBank : State :=
  { State.reset with
    dict := [(key 0x4000 1, key 0x4802 3 - key 0x4000 6)]
    dev := { State.reset.dev with st := .scanning }
    sh := { State.reset.sh with swapAt := some 0 }
    trn := { State.reset.trn with nextPoint := some 0 } }

/-- The trigger makes the swap, which writes the holder of the old bank over the trigger count. -/
theorem strayBank_divided : (strayBank.arrive 0).trn.nextPoint = some 0 ∧ (strayBank.arrive 0).rd 0x4802 3 = 0 ∧
    ((strayBank.arrive 0).divide 0 0 0).rd 0x4802 3 = 0 := by decide +kernel

end Sys2Proof.Machine
namespace Sys2Proof
open Machine

/-- Refutes O31: the statement ranges over states whose store is not sound. In `strayBank` a trigger point that is reached is counted, and the
swap that the same trigger makes writes 0 over the count. -/
theorem not_pacedTable : ¬ Obligations.PacedTable := by
  unfold Obligations.PacedTable
  intro h
  obtain ⟨hnext, hwas, his⟩ := strayBank_divided
  obtain ⟨hdivide, -⟩ := h strayBank 0
  obtain ⟨-, hreached⟩ := hdivide 0 0 0 0 hnext
  obtain ⟨-, hcount⟩ := hreached (by decide)
  rw [his, hwas] at hcount
  exact absurd hcount (by decide)

end Sys2Proof
end
section
/-! ## A time frame at a bank number out of its type (R127, R216) -/
set_option Elab.async false
namespace Sys2Proof.Machine

/-- A time frame that tells a ring delay of 5 and a position of one count. -/
def timeTold : Frame := ⟨1, 1, 0, le 8 0 ++ le 4 5 ++ le 4 0 ++ le 6 65536 ++ le 4 0 ++ le 1 0⟩

/-- A scanning follower that takes its position and its triggers from the ring, with a swap pending and the next trigger point at 0, whose
active bank, an 8-bit entry, reads so large that the holder of "that bank" lies at the key of the ring delay 0x4880:0D. -/
def strayFollower : State :=
  { State.reset with
    dict := [(key 0x2050 1, 1), (key 0x4000 1, key 0x4880 0xD - key 0x4000 6), (key 0x4800 2, 1), (key 0x4880 8, 2)]
    dev := { State.reset.dev with st := .scanning }
    sh := { State.reset.sh with swapAt := some 0 }
    trn := { State.reset.trn with nextPoint := some 0 } }

theorem timeTold_read : frameOf true timeTold.bytes = some timeTold ∧ fieldAt timeTold.payload 8 4 = 5 := by decide +kernel

theorem strayFollower_ring : (strayFollower.arrive 0).onRing = true ∧ (strayFollower.arrive 0).casbyState = 2 := by decide +kernel

/-- The trigger that the position makes swaps the banks, which writes the holder of the old bank over the ring delay. -/
theorem strayFollower_told : ((strayFollower.arrive 0).received true timeTold.bytes 1 State.timeFrame).rd 0x4880 0xD = 0 := by
  decide +kernel

end Sys2Proof.Machine
namespace Sys2Proof
open Machine

/-- Refutes O32: the statement ranges over states whose store is not sound. In `strayFollower` a time frame's ring delay is shown, and the
swap made by the trigger that its position brings writes 0 over it. -/
theorem not_casbyRing : ¬ Obligations.CasbyRing := by
  unfold Obligations.CasbyRing
  intro h
  obtain ⟨-, hsteps⟩ := h
  obtain ⟨hring, hstate⟩ := strayFollower_ring
  obtain ⟨hread, hfield⟩ := timeTold_read
  obtain ⟨-, -, -, -, -, -, -, -, htime, -⟩ := hsteps strayFollower 0
  obtain ⟨-, hfollow⟩ := htime true timeTold.bytes timeTold hring hread rfl
  obtain ⟨t, ht, -, hdelay, -⟩ := hfollow (by rw [hstate]; decide)
  have hexec : exec (.casbyTimeFrame 0 true timeTold.bytes) strayFollower =
      .next ((strayFollower.arrive 0).received true timeTold.bytes 1 State.timeFrame) :=
    (timed_due rfl : execCasbyTimeFrame 0 true timeTold.bytes strayFollower = _)
  obtain rfl := Host.Outcome.next.inj (hexec.symm.trans ht)
  rw [strayFollower_told, hfield] at hdelay
  exact absurd hdelay (by decide)

end Sys2Proof
end
section
/-! ## Egress queues (O33) -/
set_option Elab.async false
namespace Sys2Proof.Machine

theorem egressTypes : ∀ k : Fin 8, tyAt (0x5610 + k) 0xB = .u32 ∧ tyAt (0x5610 + k) 0xD = .u8 ∧ tyAt (0x5610 + k) 0xE = .u32 ∧
    tyAt (0x5610 + k) 0xF = .u32 ∧ tyAt (0x5610 + k) 0x10 = .u16 := by decide +kernel

theorem peakTypes : ∀ n : Fin 64, tyAt 0x5605 (n + 1) = .u16 := by decide +kernel

theorem flushRows : ∀ k : Fin 8, rowOpen (0x5610 + k) 0xC = true ∧ verdict (0x5610 + k) 0xC 4 = .keep 4 ∧
    verdict (0x5610 + k) 0xC 8 = .keep 8 := by decide +kernel

theorem clearRows : rowOpen 0x5606 1 = true ∧ verdict 0x5606 1 1 = .keep 1 ∧ rowOpen 0x5607 3 = true ∧ verdict 0x5607 3 1 = .keep 1 := by
  decide +kernel

/-! ### Packets in a queue (R230, R233) -/

section
variable (s : State)

theorem State.eq_congr {s t : State} (h : t.que = s.que) (k : Nat) : t.eq k = s.eq k := by rw [State.eq, State.eq, h]

theorem State.eq_updEgress_any (k : Nat) (f : Egress → Egress) (j : Nat) :
    (s.updEgress k f).eq j = if k = j ∧ k < 8 then f (s.eq j) else s.eq j := vget_vupd s.que.egress k j f

theorem State.eq_updEgress {k : Nat} (hk : k < 8) (f : Egress → Egress) (j : Nat) :
    (s.updEgress k f).eq j = if k = j then f (s.eq j) else s.eq j := by
  rw [State.eq_updEgress_any]
  exact if_congr (and_iff_left hk) rfl rfl

theorem State.eq_fillMoved (k b j : Nat) : (s.fillMoved k b).eq j = s.eq j :=
  State.eq_congr (State.fillMoved_keeps (.refl .que s) rfl k b).same j

/-- R230: a packet pushed stands at the end of its queue. -/
theorem State.eq_push {k : Nat} (hk : k < 8) (p : Packet) (j : Nat) : (s.push k p).eq j =
    if k = j then { s.eq j with pkts := (s.eq j).pkts ++ [{ p with id := (s.eq j).nextId }], nextId := (s.eq j).nextId + 1 } else s.eq j := by
  unfold State.push
  dsimp only
  rw [State.eq_fillMoved, State.eq_updEgress _ hk]

theorem Egress.alloc_append (q : Egress) (p : Packet) (n i : Nat) :
    Egress.alloc { q with pkts := q.pkts ++ [{ p with id := i }], nextId := n } = q.alloc + p.blocks := by
  unfold Egress.alloc
  rw [List.map_append, List.sum_append]
  rfl

end

/-! ### What waits (R233) -/

section
variable {u : State} {k : Nat} {p : Packet} {r : List Packet} (h : (u.eq k).held = p :: r)
include h

theorem State.admitHeld_stuck (n : Nat) (ha : (u.eq k).admits p.cls p.blocks = false) : u.admitHeld k n = u := by
  cases n with
  | zero => rfl
  | succ n =>
    unfold State.admitHeld
    rw [h]
    exact if_neg (by rw [ha]; decide)

theorem State.admitHeld_next (n : Nat) (ha : (u.eq k).admits p.cls p.blocks = true) :
    u.admitHeld k (n + 1) = ((u.updEgress k (fun q => { q with held := r })).push k p).admitHeld k n := by
  conv_lhs => unfold State.admitHeld
  rw [h]
  exact if_pos ha

end

theorem State.spaceFreed_idle {u : State} {k : Nat} (h : (u.eq k).held = []) (hw : u.startLinks.dma.waiting = []) : u.spaceFreed k = u.startLinks := by
  unfold State.spaceFreed
  rw [h]
  dsimp only [List.length_nil]
  have h0 : u.admitHeld k 0 = u := rfl
  rw [h0, hw]
  rfl

/-! ### A flush that has acted (R237) -/

/-- R237: the flush `f` of a queue has acted and has discarded `d` packets: what it still marks is being sent. -/
structure FlushActed (f d : Nat) (q : Egress) : Prop where
  flushed : q.flushed = true
  flush : q.flush = f
  discarded : q.discarded = d
  marked : ∀ p ∈ q.pkts, bit f p.cls = true → p.sending.isSome = true

section
variable {f d k : Nat} {s : State}

theorem FlushActed.begin {q : Egress} (h : FlushActed f d q) (i n : Nat) :
    FlushActed f d { q with pkts := q.pkts.map (fun x => if x.id = i then { x with sending := some n } else x) } := by
  refine ⟨h.flushed, h.flush, h.discarded, fun p hp hb => ?_⟩
  obtain ⟨x, hx, rfl⟩ := List.mem_map.mp hp
  by_cases hi : x.id = i
  · rw [if_pos hi]
    rfl
  · rw [if_neg hi] at hb ⊢
    exact h.marked x hx hb

theorem FlushActed.append {q : Egress} (h : FlushActed f d q) {p : Packet} (hp : bit f p.cls = false) (n : Nat) :
    FlushActed f d { q with pkts := q.pkts ++ [p], nextId := n } := by
  refine ⟨h.flushed, h.flush, h.discarded, fun x hx hb => ?_⟩
  rcases List.mem_append.mp hx with hx | hx
  · exact h.marked x hx hb
  · obtain rfl := List.mem_singleton.mp hx
    exact absurd (hp.symm.trans hb) (by decide)

theorem FlushActed.updEgress (h : FlushActed f d (s.eq k)) {j : Nat} {g : Egress → Egress} (hg : ∀ q, FlushActed f d q → FlushActed f d (g q)) :
    FlushActed f d ((s.updEgress j g).eq k) := by
  rw [State.eq_updEgress_any]
  split
  · exact hg _ h
  · exact h

theorem FlushActed.congr (h : FlushActed f d (s.eq k)) {t : State} (e : t.que = s.que) : FlushActed f d (t.eq k) := by
  rw [State.eq_congr e]
  exact h

theorem FlushActed.beginPacket (h : FlushActed f d (s.eq k)) (n : Nat) : FlushActed f d ((s.beginPacket n).eq k) := by
  unfold State.beginPacket
  split
  · exact h
  · split
    · exact h
    next j p _ =>
      have hb : FlushActed f d ((s.updEgress j (fun q => { q with
        pkts := q.pkts.map (fun x => if x.id = p.id then { x with sending := some n } else x) })).eq k) :=
        h.updEgress (fun q hq => hq.begin p.id n)
      dsimp only
      split
      · exact hb.congr rfl
      · exact hb.congr rfl

theorem FlushActed.startRounds (n : Nat) : ∀ {s : State}, FlushActed f d (s.eq k) → FlushActed f d ((State.startRounds n s).eq k) := by
  induction n with
  | zero => exact fun h => h
  | succ n ih =>
    intro s h
    unfold State.startRounds
    split
    · exact ih (State.each_keep (fun t => FlushActed f d (t.eq k)) (fun i _ t ht => ht.beginPacket i) s h)
    · exact h

theorem FlushActed.startLinks (h : FlushActed f d (s.eq k)) : FlushActed f d (s.startLinks.eq k) := FlushActed.startRounds 16 h

theorem FlushActed.push (h : FlushActed f d (s.eq k)) {j : Nat} (hj : j < 8) {p : Packet} (hp : bit f p.cls = false) :
    FlushActed f d ((s.push j p).eq k) := by
  rw [State.eq_push _ hj]
  split
  · exact h.append (p := { p with id := (s.eq k).nextId }) hp _
  · exact h

theorem FlushActed.pushOrHold (h : FlushActed f d (s.eq k)) {j : Nat} (hj : j < 8) {p : Packet} (hp : bit f p.cls = false) :
    FlushActed f d ((s.pushOrHold j p).eq k) := by
  unfold State.pushOrHold
  split
  · exact (h.push hj hp).startLinks
  · exact h.updEgress (fun q hq => ⟨hq.flushed, hq.flush, hq.discarded, hq.marked⟩)

theorem FlushActed.flushMarker (h : FlushActed f d (s.eq k)) (hf : bit f 1 = false) (gone : List Packet) (st : Nat) :
    FlushActed f d ((s.flushMarker gone st).eq k) := by
  unfold State.flushMarker
  dsimp only
  split
  · exact h
  · exact (h.pushOrHold (s.markerEngine_lt st) hf).congr rfl

end

/-- R237: what a flush discards of its queue. -/
def Egress.gone (q : Egress) : List Packet := q.pkts.filter (fun p => bit q.flush p.cls && p.sending.isNone)

/-- R237: the queue as the flush leaves it. -/
def Egress.afterFlush (q : Egress) : Egress :=
  { q with pkts := q.pkts.filter (fun p => !(bit q.flush p.cls && p.sending.isNone)), flushed := true, discarded := q.gone.length }

theorem Egress.afterFlush_acted (q : Egress) : FlushActed q.flush q.gone.length q.afterFlush := by
  refine ⟨rfl, rfl, rfl, fun p hp hb => ?_⟩
  obtain ⟨-, hn⟩ := List.mem_filter.mp hp
  rw [hb, Bool.true_and, Bool.not_eq_true'] at hn
  exact Option.isSome_iff_ne_none.mpr (fun h => by rw [h] at hn; cases hn)

section
variable {w : State} {k : Nat}

theorem State.flushNow_done (h : (w.eq k).flushed = true) : w.flushNow k = w := by
  unfold State.flushNow
  exact if_pos (.inr h)

theorem State.flushNow_none (h : (w.eq k).flush = 0) : w.flushNow k = w := by
  unfold State.flushNow
  exact if_pos (.inl h)

/-- R237: a flush at a packet boundary. -/
theorem State.flushNow_acted (hk : k < 8) (hd : (w.eq k).flushed = false) (h0 : (w.eq k).flush ≠ 0) (h1 : bit (w.eq k).flush 1 = false) :
    FlushActed (w.eq k).flush (w.eq k).gone.length ((w.flushNow k).eq k) := by
  unfold State.flushNow
  dsimp only
  rw [if_neg (by rw [hd]; simpa using h0)]
  refine State.eachOf_keep (fun t => FlushActed (w.eq k).flush (w.eq k).gone.length (t.eq k)) (fun st _ t ht => ht.flushMarker h1 _ st) _ ?_
  rw [State.eq_updEgress _ hk, if_pos rfl]
  exact (w.eq k).afterFlush_acted

theorem Writes.flushNow {P : Nat → Nat → Prop} {s t : State} (h : Writes P s t) (hq : ∀ i j, queueEntry i j → P i j) (k : Nat) :
    Writes P s (t.flushNow k) := by
  unfold State.flushNow
  refine .ite h (Writes.eachOf (h.updEgress) (fun st _ t h => ?_))
  unfold State.flushMarker
  dsimp only
  split
  · exact h
  · exact (h.putMarker hq).updStream

end

/-! ### The end of a flush (R237) -/

/-- R237: a flush that is over, shown and told. -/
def State.flushEnded (s : State) (k : Nat) : State :=
  ((((s.bump (0x5610 + k) 0xB (s.eq k).discarded).wr (0x5610 + k) 0xD 2).bump (0x5610 + k) 0xE).updEgress k (fun q =>
    { q with flush := 0, flushed := false, discarded := 0 })).raise1 (296 + k) 0

theorem exec_flushComplete {s w : State} {dt : Nat} {k : Fin 8} (e : s.arrive dt = w) (h : (w.eq k).flush ≠ 0) :
    exec (.flushComplete dt k) s = .next ((w.flushNow k).flushEnded k) :=
  (timed_at e (decide_eq_true h) : execFlushComplete dt k s = _)

theorem State.flushEnded_spec (s : State) (k : Fin 8) : let t := s.flushEnded k
    (t.eq k).flush = 0 ∧ t.rd (0x5610 + k) 0xD = 2 ∧ t.rd (0x5610 + k) 0xE = (s.rd (0x5610 + k) 0xE + 1) % 2 ^ 32 ∧ t.Presents (296 + k) ∧
      t.rd (0x5610 + k) 0xB = (s.rd (0x5610 + k) 0xB + (s.eq k).discarded) % 2 ^ 32 := by
  obtain ⟨hB, hD, hE, -⟩ := egressTypes k
  have hk := k.isLt
  dsimp only
  unfold State.flushEnded
  generalize (s.eq k).discarded = d
  have h1 {i j : Nat} (hj : j < 256) : (s.bump (0x5610 + k) 0xB d).rd i j =
      if 0x5610 + k.val = i ∧ 0xB = j then (s.rd (0x5610 + k) 0xB + d) % 2 ^ 32 else s.rd i j := by
    rw [State.rd_bump_at (hj := by decide) (hj' := hj), hB, Ty.wrap_u32]
  have hq1 : (s.bump (0x5610 + k) 0xB d).que = s.que := State.bump_que _ _ _ _
  generalize s.bump (0x5610 + k) 0xB d = a at *
  have h2 {i j : Nat} (hj : j < 256) : (a.wr (0x5610 + k) 0xD 2).rd i j = if 0x5610 + k.val = i ∧ 0xD = j then 2 else a.rd i j := by
    rw [State.rd_wr_at _ _ (by decide) hj, hD]
    rfl
  have hq2 : (a.wr (0x5610 + k) 0xD 2).que = a.que := State.wr_que _ _ _ _
  generalize a.wr (0x5610 + k) 0xD 2 = v at *
  have h3 {i j : Nat} (hj : j < 256) : (v.bump (0x5610 + k) 0xE).rd i j =
      if 0x5610 + k.val = i ∧ 0xE = j then (v.rd (0x5610 + k) 0xE + 1) % 2 ^ 32 else v.rd i j := by
    rw [State.rd_bump_at (hj := by decide) (hj' := hj), hE, Ty.wrap_u32]
    rfl
  have hq3 : (v.bump (0x5610 + k) 0xE).que = v.que := State.bump_que _ _ _ _
  have hq := hq3.trans (hq2.trans hq1)
  generalize v.bump (0x5610 + k) 0xE = b at *
  have hu {i j : Nat} (_ : j < 256) : (b.updEgress k (fun q => { q with flush := 0, flushed := false, discarded := 0 })).rd i j = b.rd i j :=
    State.rd_congr rfl i j
  have hf : ((b.updEgress k (fun q => { q with flush := 0, flushed := false, discarded := 0 })).eq k).flush = 0 := by
    rw [State.eq_updEgress _ hk, if_pos rfl]
  generalize b.updEgress k (fun q => { q with flush := 0, flushed := false, discarded := 0 }) = c at *
  have hw : Writes (fun i _ => i = 0x2800 + (296 + k.val)) c (c.raise1 (296 + k) 0) := (Writes.refl _ c).raise1 (fun _ => rfl)
  have hp := c.presents_raise1 (296 + k) 0
  have hr : (c.raise1 (296 + k) 0).que = c.que := State.raise1_que _ _ _
  generalize c.raise1 (296 + k) 0 = t at *
  refine ⟨by rw [State.eq_congr hr]; exact hf, ?_, ?_, hp, ?_⟩
  · rw [hw.rd (by decide) (by omega), hu (j := 0xD) (by decide), h3 (by decide), if_neg (by omega), h2 (by decide), if_pos ⟨rfl, rfl⟩]
  · rw [hw.rd (by decide) (by omega), hu (j := 0xE) (by decide), h3 (by decide), if_pos ⟨rfl, rfl⟩, h2 (by decide), if_neg (by omega), h1 (by decide),
      if_neg (by omega)]
  · rw [hw.rd (by decide) (by omega), hu (j := 0xB) (by decide), h3 (by decide), if_neg (by omega), h2 (by decide), if_neg (by omega), h1 (by decide),
      if_pos ⟨rfl, rfl⟩]

/-! ### A packet sent (R235, R236) -/

/-- R236: a packet's parity error is counted and told. -/
def State.parityTold (s : State) (k : Nat) (bad : Bool) : State := if bad then (s.bump (0x5610 + k) 0xF).raise1 (280 + k) 0 else s

/-- R235: the packet is counted by its link. -/
def State.packetCounted (s : State) (n k id load : Nat) : State := ((s.free k id).bump (0x5800 + n) 7 load).bump (0x5800 + n) 8

section
variable {w : State} {n : Fin 16} {k : Fin 8} {id : Nat} {p : Packet} (htx : (w.link n).tx = some (k.val, id)) (hp : w.packet k id = some p)

theorem State.endPacket_idle {w : State} {n : Nat} (h : (w.link n).tx = none) (bad : Bool) : w.endPacket n bad = w := by
  unfold State.endPacket
  rw [h]

include htx hp

theorem State.endPacket_sent (bad : Bool) : ∃ (recent : Link → List SentLine) (used : Link → List (Nat × Nat × Nat)), w.endPacket n bad =
    ((((w.updLink n (fun l => { l with tx := none })).parityTold k bad).packetCounted n k id (payloadOf p)).updLink n (fun l => { l with
      recent := recent l, used := used l })) := by
  have hp' : (w.updLink n (fun l => { l with tx := none })).packet k id = some p := hp
  unfold State.endPacket
  rw [htx]
  dsimp only
  rw [hp']
  exact ⟨fun l => _, fun l => _, rfl⟩

end

theorem State.parityTold_spec (s : State) (k : Fin 8) (bad : Bool) : let t := s.parityTold k bad
    Writes (fun i j => i = 0x5610 + k.val ∧ j = 0xF ∨ i = 0x2800 + (280 + k.val)) s t ∧ t.que = s.que ∧ t.lnk = s.lnk ∧
      (bad = true → t.rd (0x5610 + k) 0xF = (s.rd (0x5610 + k) 0xF + 1) % 2 ^ 32 ∧ t.Presents (280 + k)) ∧ (bad = false → t.ev = s.ev) := by
  obtain ⟨-, -, -, hF, -⟩ := egressTypes k
  have hk := k.isLt
  dsimp only
  unfold State.parityTold
  cases bad with
  | false => exact ⟨.refl _ s, rfl, rfl, fun h => Bool.noConfusion h, fun _ => rfl⟩
  | true =>
    rw [if_pos rfl]
    have hb : (s.bump (0x5610 + k) 0xF).rd (0x5610 + k) 0xF = (s.rd (0x5610 + k) 0xF + 1) % 2 ^ 32 := by
      rw [State.rd_bump_at (hj := by decide) (hj' := by decide), if_pos ⟨rfl, rfl⟩, hF, Ty.wrap_u32]
      rfl
    have hw : Writes (fun i j => i = 0x5610 + k.val ∧ j = 0xF ∨ i = 0x2800 + (280 + k.val)) s (s.bump (0x5610 + k) 0xF) :=
      (Writes.refl _ s).bump (by decide) (.inl ⟨rfl, rfl⟩)
    have hr : Writes (fun i _ => i = 0x2800 + (280 + k.val)) (s.bump (0x5610 + k) 0xF) ((s.bump (0x5610 + k) 0xF).raise1 (280 + k) 0) :=
      (Writes.refl _ _).raise1 (fun _ => rfl)
    refine ⟨hw.raise1 (fun _ => .inr rfl), (State.raise1_que _ _ _).trans (State.bump_que _ _ _ _),
      (State.raise1_lnk _ _ _).trans (State.bump_lnk _ _ _ _), fun _ => ⟨?_, State.presents_raise1 _ _ _⟩, fun h => Bool.noConfusion h⟩
    rw [hr.rd (by decide) (by omega), hb]

theorem State.packetCounted_spec (s : State) (n : Fin 16) (k : Fin 8) (id load : Nat) : let t := s.packetCounted n k id load
    Writes (fun i j => i = 0x5800 + n.val ∧ (j = 7 ∨ j = 8)) s t ∧ (t.eq k).pkts = (s.eq k).pkts.filter (fun p => p.id ≠ id) ∧
      t.rd (0x5800 + n) 8 = (tyAt (0x5800 + n) 8).wrap (s.rd (0x5800 + n) 8 + 1) ∧
      t.rd (0x5800 + n) 7 = (tyAt (0x5800 + n) 7).wrap (s.rd (0x5800 + n) 7 + load) ∧ t.lnk = s.lnk ∧ t.ev = s.ev := by
  dsimp only
  unfold State.packetCounted
  have hf : ((s.free k id).eq k).pkts = (s.eq k).pkts.filter (fun p => p.id ≠ id) := by
    unfold State.free
    rw [State.eq_updEgress _ k.isLt, if_pos rfl]
  have hw : Writes (fun i j => i = 0x5800 + n.val ∧ (j = 7 ∨ j = 8)) s (s.free k id) := (Writes.refl _ s).updEgress
  have hr (j : Nat) : (s.free k id).rd (0x5800 + n) j = s.rd (0x5800 + n) j := State.rd_congr rfl _ _
  have hl : (s.free k id).lnk = s.lnk := rfl
  have he : (s.free k id).ev = s.ev := rfl
  generalize s.free k id = a at *
  refine ⟨(hw.bump (by decide) ⟨rfl, .inl rfl⟩).bump (by decide) ⟨rfl, .inr rfl⟩, ?_, ?_, ?_, ?_, ?_⟩
  · rw [State.eq_congr ((State.bump_que _ _ _ _).trans (State.bump_que _ _ _ _)), hf]
  · rw [State.rd_bump_at (hj := by decide) (hj' := by decide), if_pos ⟨rfl, rfl⟩, State.rd_bump_at (hj := by decide) (hj' := by decide),
      if_neg (by omega), hr]
    rfl
  · rw [State.rd_bump_at (hj := by decide) (hj' := by decide), if_neg (by omega), State.rd_bump_at (hj := by decide) (hj' := by decide),
      if_pos ⟨rfl, rfl⟩, hr]
  · rw [State.bump_lnk, State.bump_lnk, hl]
  · rw [State.bump_ev, State.bump_ev, he]

/-- R235, R236: what the end of a packet does. -/
theorem State.endPacket_spec {w : State} {n : Fin 16} {k : Fin 8} {id : Nat} {p : Packet} (htx : (w.link n).tx = some (k.val, id))
    (hp : w.packet k id = some p) (bad : Bool) : let t := w.endPacket n bad
    (t.link n).tx = none ∧ (t.eq k).pkts = (w.eq k).pkts.filter (fun p => p.id ≠ id) ∧
      t.rd (0x5800 + n) 8 = (tyAt (0x5800 + n) 8).wrap (w.rd (0x5800 + n) 8 + 1) ∧
      t.rd (0x5800 + n) 7 = (tyAt (0x5800 + n) 7).wrap (w.rd (0x5800 + n) 7 + payloadOf p) ∧
      (bad = true → t.rd (0x5610 + k) 0xF = (w.rd (0x5610 + k) 0xF + 1) % 2 ^ 32 ∧ ∃ q ∈ t.ev.pres, q.src = 280 + k) ∧
      (bad = false → t.ev = w.ev) := by
  have hn := n.isLt
  have hk := k.isLt
  obtain ⟨recent, used, e⟩ := State.endPacket_sent htx hp bad
  dsimp only
  rw [e]
  have htx1 : ((w.updLink n (fun l => { l with tx := none })).link n).tx = none := by rw [State.link_updLink w hn, if_pos rfl]
  have hr1 (i j : Nat) : (w.updLink n (fun l => { l with tx := none })).rd i j = w.rd i j := State.rd_congr rfl i j
  have hq1 : (w.updLink n (fun l => { l with tx := none })).que = w.que := rfl
  have he1 : (w.updLink n (fun l => { l with tx := none })).ev = w.ev := rfl
  generalize w.updLink n (fun l => { l with tx := none }) = a at *
  obtain ⟨hw2, hq2, hl2, hb2, he2⟩ := State.parityTold_spec a k bad
  generalize a.parityTold k bad = b at *
  obtain ⟨hw3, hf3, h83, h73, hl3, he3⟩ := State.packetCounted_spec b n k id (payloadOf p)
  generalize b.packetCounted n k id (payloadOf p) = c at *
  have hr4 (i j : Nat) : (c.updLink n (fun l => { l with recent := recent l, used := used l })).rd i j = c.rd i j := State.rd_congr rfl i j
  have hq4 : (c.updLink n (fun l => { l with recent := recent l, used := used l })).que = c.que := rfl
  have he4 : (c.updLink n (fun l => { l with recent := recent l, used := used l })).ev = c.ev := rfl
  have htx4 : ((c.updLink n (fun l => { l with recent := recent l, used := used l })).link n).tx = (c.link n).tx := by
    rw [State.link_updLink c hn, if_pos rfl]
  generalize c.updLink n (fun l => { l with recent := recent l, used := used l }) = t at *
  refine ⟨?_, ?_, ?_, ?_, fun hb => ?_, fun hb => he4.trans (he3.trans ((he2 hb).trans he1))⟩
  · rw [htx4, State.link, hl3, hl2]
    exact htx1
  · rw [State.eq_congr hq4, hf3, State.eq_congr (hq2.trans hq1)]
  · rw [hr4, h83, hw2.rd (by decide) (by omega), hr1]
  · rw [hr4, h73, hw2.rd (by decide) (by omega), hr1]
  · obtain ⟨hF, hp2⟩ := hb2 hb
    refine ⟨by rw [hr4, hw3.rd (by decide) (by omega), hF, hr1], ?_⟩
    rw [he4, he3]
    exact hp2

/-! ### Clearing peaks (R240) -/

/-- R240, R229: the peaks of the line queues fall back. -/
def State.linePeaks (s : State) : State := s.each 64 (fun n s => s.wr 0x5605 (n + 1) (s.lineQ n).count)

/-- R240, R238: the peaks of the egress queues fall back. -/
def State.egressPeaks (s : State) : State := s.each 8 (fun k s => s.wr (0x5610 + k) 0x10 (s.eq k).fill)

theorem opClearPeaks_eq (v : Int) (s : State) : opClearPeaks v s = (s.linePeaks.egressPeaks, 0) := rfl

theorem State.linePeaks_spec (s : State) : let t := s.linePeaks
    Writes (fun i _ => i = 0x5605) s t ∧ t.que = s.que ∧ ∀ n : Fin 64, t.rd 0x5605 (n + 1) = ((s.lineQ n).count : Int) % 65536 := by
  dsimp only
  unfold State.linePeaks
  have hq (i : Nat) (t : State) (h : t.que = s.que) : (t.wr 0x5605 (i + 1) (t.lineQ i).count).que = s.que := by rw [State.wr_que, h]
  refine ⟨(Writes.refl _ s).each (fun i hi t h => h.wr (by omega) rfl), State.each_keep (fun t => t.que = s.que) (fun i _ t => hq i t) s rfl, fun n => ?_⟩
  have hn := n.isLt
  refine State.each_at_of (fun t => t.que = s.que) (fun t => t.rd 0x5605 (n + 1)) (fun _ => ((s.lineQ n).count : Int) % 65536) hn
    (fun i _ t => hq i t) (fun t ht => ?_) (fun i hi hne t => ?_) s rfl
  · rw [State.rd_wr_at _ _ (by omega) (by omega), if_pos ⟨rfl, rfl⟩, peakTypes n, Ty.wrap_u16, State.lineQ, State.lineQ, ht]
    rfl
  · rw [State.rd_wr_at _ _ (by omega) (by omega), if_neg (by omega)]

theorem State.egressPeaks_spec (s : State) : let t := s.egressPeaks
    Writes (fun i j => 0x5610 ≤ i ∧ i < 0x5618 ∧ j = 0x10) s t ∧ ∀ k : Fin 8, t.rd (0x5610 + k) 0x10 = ((s.eq k).fill : Int) % 65536 := by
  dsimp only
  unfold State.egressPeaks
  have hq (i : Nat) (t : State) (h : t.que = s.que) : (t.wr (0x5610 + i) 0x10 (t.eq i).fill).que = s.que := by rw [State.wr_que, h]
  refine ⟨(Writes.refl _ s).each (fun i hi t h => h.wr (by decide) ⟨by omega, by omega, rfl⟩), fun k => ?_⟩
  have hk := k.isLt
  obtain ⟨-, -, -, -, h16⟩ := egressTypes k
  refine State.each_at_of (fun t => t.que = s.que) (fun t => t.rd (0x5610 + k) 0x10) (fun _ => ((s.eq k).fill : Int) % 65536) hk
    (fun i _ t => hq i t) (fun t ht => ?_) (fun i hi hne t => ?_) s rfl
  · rw [State.rd_wr_at _ _ (by decide) (by decide), if_pos ⟨rfl, rfl⟩, h16, Ty.wrap_u16, State.eq_congr ht]
    rfl
  · rw [State.rd_wr_at _ _ (by decide) (by decide), if_neg (by omega)]

/-- R240: the state after the peaks are cleared. -/
theorem State.peaksCleared (u : State) : let t := u.linePeaks.egressPeaks
    (∀ n : Fin 64, t.rd 0x5605 (n + 1) = ((u.lineQ n).count : Int) % 65536) ∧
      (∀ j : Fin 8, t.rd (0x5610 + j) 0x10 = ((u.eq j).fill : Int) % 65536) ∧
      Touch (fun i j => i = 0x5605 ∨ (0x5610 ≤ i ∧ i < 0x5618 ∧ j = 0x10)) u t := by
  obtain ⟨hw1, hq1, h1⟩ := u.linePeaks_spec
  obtain ⟨hw2, h2⟩ := u.linePeaks.egressPeaks_spec
  refine ⟨fun n => ?_, fun j => ?_, ((hw1.mono (fun i j h => .inl h)).trans (hw2.mono (fun i j h => .inr h))).touch⟩
  · rw [hw2.rd (by omega) (by omega), h1 n]
  · rw [h2 j, State.eq_congr hq1]

/-! ### A flush asked for (R237) -/

section
variable {u : State} {k : Nat}

theorem opFlush_busy (h : (u.eq k).flush ≠ 0) (v : Int) : opFlush k v u = (u, 8) := if_pos h

theorem opFlush_taken (h : (u.eq k).flush = 0) (v : Int) : opFlush k v u =
    ((u.updEgress k (fun q => { q with flush := v.toNat, flushed := false, discarded := 0 })).wr (0x5610 + k) 0xD 1, 0) := if_neg (not_not.mpr h)

end

theorem exec_flush {s u : State} {dt : Nat} {m : Fin 17} {k : Fin 8} (e : s.pass dt = u) (hm : u.masterPresent m = true) (hr : u.dev.ready = true)
    {c : Instr} {v : Nat} (h : (v = 4 ∧ c = .flushImageLines dt m k) ∨ (v = 8 ∧ c = .flushStatistics dt m k)) :
    exec c s = .next ((opFlush k (v : Int) u).1.answer m (0x5610 + k) 0xC (opFlush k (v : Int) u).2) := by
  subst e
  obtain ⟨ho, h4, h8⟩ := flushRows k
  rcases h with ⟨rfl, rfl⟩ | ⟨rfl, rfl⟩
  · exact (hostCommand_open hm hr ho h4 : execFlushImageLines dt m k s = _)
  · exact (hostCommand_open hm hr ho h8 : execFlushStatistics dt m k s = _)

end Sys2Proof.Machine
namespace Sys2Proof
open Machine

/-- Settles O33: each clause is what the queue's operation is shown above to do. -/
theorem egressQueues : Obligations.EgressQueues := by
  unfold Obligations.EgressQueues
  intro s dt k u w
  have hk := k.isLt
  have e : s.pass dt = u := rfl
  have e' : s.arrive dt = w := rfl
  clear_value u w
  refine ⟨fun p => ⟨?_, ?_, fun j hj => ?_⟩, fun m hm hr => ⟨?peaks, ?bits, fun c v hc => ⟨fun hf => ?_, fun hf => ?_⟩⟩, fun hd hf => ?flush,
    fun hf => ?complete, fun n => ⟨fun p r h ha => State.admitHeld_stuck h n ha, fun p r h ha => State.admitHeld_next h n ha⟩,
    fun hq => ⟨(event_at e hq : execEgressSpaceFreed dt k s = _), fun hh _ hw => State.spaceFreed_idle hh hw⟩, fun n bad hq h3 => ⟨?_, ?_, ?_⟩⟩
  · rw [State.eq_push _ hk, if_pos rfl]
  · rw [State.eq_push _ hk, if_pos rfl]
    exact Egress.alloc_append _ _ _ _
  · rw [State.eq_push _ hk, if_neg (fun h => hj (Fin.ext h).symm)]
  case peaks =>
    refine ⟨_, ?_, u.peaksCleared⟩
    obtain ⟨ho, hv, -⟩ := clearRows
    subst e
    exact (hostCommand_open hm hr ho hv : execClearPeaks dt m s = _)
  case bits =>
    obtain ⟨-, -, ho, hv⟩ := clearRows
    subst e
    exact (hostCommand_open hm hr ho hv : execClearChannelBits dt m s = _)
  · rw [exec_flush e hm hr hc, opFlush_busy hf]
  · rw [exec_flush e hm hr hc, opFlush_taken hf]
    rfl
  case flush =>
    have hb : bit (w.eq k).flush 1 = false := by rcases hf with h | h | h <;> rw [h] <;> rfl
    have h := State.flushNow_acted hk hd (by omega) hb
    exact ⟨h.flushed, h.flush, h.discarded, h.marked⟩
  case complete =>
    obtain ⟨h1, h2, h3, h4, h5⟩ := (w.flushNow k).flushEnded_spec k
    have hw : Writes queueEntry w (w.flushNow k) := (Writes.refl _ w).flushNow (fun _ _ h => h) k
    refine ⟨_, exec_flushComplete e' hf, h1, h2, ?_, h4, fun hd => ?_⟩
    · rw [h3, hw.rd (by decide) (by unfold queueEntry; omega)]
    · rw [h5, State.flushNow_done hd]
  · exact (timed_at e' (by rw [hq, h3]; rfl) : execPacketTransmitEnd dt n bad s = _)
  · exact fun h => State.endPacket_idle h bad
  · exact fun id p htx hp => State.endPacket_spec htx hp bad

end Sys2Proof
end
section
/-! ## Lamp faults, heat and power (O38) -/
set_option Elab.async false
namespace Sys2Proof.Machine

theorem stringTypes : ∀ i : Fin 32, tyAt (0x4C40 + i) 7 = .u8 ∧ tyAt (0x4C40 + i) 0xA = .u32 := by decide +kernel

theorem lampGroupTypes : ∀ j : Fin 8, tyAt (0x4C10 + j) 0xA = .u8 ∧ tyAt (0x4C10 + j) 0xC = .i16 ∧ tyAt (0x4C10 + j) 0xD = .u16 ∧
    tyAt (0x4C10 + j) 0xE = .u32 ∧ tyAt (0x4C10 + j) 0xF = .u32 := by decide +kernel

theorem bulkTypes : tyAt 0x4C00 4 = .u32 ∧ tyAt 0x4C00 6 = .u32 ∧ tyAt 0x4C00 8 = .u32 := by decide +kernel

theorem clearGroupRows : ∀ j : Fin 8, rowOpen (0x4C10 + j) 0xB = true ∧ verdict (0x4C10 + j) 0xB 1 = .keep 1 := by decide +kernel

/-! ### A group goes off (R303 to R305) -/

/-- What the cancelling of an armed recipe writes. -/
def cancelledEntry (i j : Nat) : Prop := droppedArmEntry i j ∨ i = 0x2800 + 852

theorem Writes.groupLost {P : Nat → Nat → Prop} {s t : State} (h : Writes P s t) (hp : ∀ i j, cancelledEntry i j → P i j) (j : Nat) :
    Writes P s (t.groupLost j) := by
  have hd : ∀ i j, droppedArmEntry i j → P i j := fun i j h => hp i j (.inl h)
  unfold State.groupLost State.cancelArmed
  split
  · refine .ite ?_ h
    split
    · exact h
    · exact Writes.raise1 (.ite ((h.dropArmed hd).spoilShadow (fun j => hd _ j (.inr (.inl rfl)))) (h.dropArmed hd)) (fun j => hp _ j (.inr rfl))
  · exact h

section
variable (s : State)

theorem State.groupLost_lamp (j : Nat) : (s.groupLost j).lamp = s.lamp := (State.groupLost_keeps (.refl .lamp s) rfl j).same

theorem State.groupLost_now (j : Nat) : (s.groupLost j).now = s.now := (State.groupLost_keeps (.refl .now s) rfl j).same

theorem State.endStrobe_dict (j : Nat) : (s.endStrobe j).dict = s.dict := (State.endStrobe_keeps (.refl .dict s) rfl j).same

theorem State.endStrobe_ev (j : Nat) : (s.endStrobe j).ev = s.ev := (State.endStrobe_keeps (.refl .ev s) rfl j).same

theorem State.endStrobe_lamp (j : Nat) : (s.endStrobe j).lamp = s.lamp := (State.endStrobe_keeps (.refl .lamp s) rfl j).same

theorem State.endStrobe_now (j : Nat) : (s.endStrobe j).now = s.now := (State.endStrobe_keeps (.refl .now s) rfl j).same

theorem State.lamp_updLamp {j : Nat} (hj : j < 8) (f : LampGroup → LampGroup) : vget (s.updLamp j f).lamp.groups j = f (vget s.lamp.groups j) :=
  (vget_vupd _ _ _ _).trans (if_pos ⟨rfl, hj⟩)

theorem State.groupOff_congr {s t : State} {j : Nat} (h : t.rd (0x4C10 + j) 0xA = s.rd (0x4C10 + j) 0xA) : t.groupOff j = s.groupOff j := by
  unfold State.groupOff State.lampState State.rdN
  rw [h]

/-- R303, R305: group `j` takes the state `code`, is counted, and its event is raised. -/
def State.groupDown (j code k : Nat) : State := (((s.endStrobe j).wr (0x4C10 + j) 0xA code).bump (0x4C10 + j) 0xE).raise1 k 0

/-- What a group going off writes. -/
def downEntry (j k i l : Nat) : Prop := (i = 0x4C10 + j ∧ (l = 0xA ∨ l = 0xE)) ∨ i = 0x2800 + k

theorem State.groupDown_spec (j : Fin 8) {code k : Nat} (hc : code < 256) (hk : k < 1024) : let t := s.groupDown j code k
    Writes (downEntry j k) s t ∧ t.rd (0x4C10 + j) 0xA = code ∧ t.rd (0x4C10 + j) 0xE = (s.rd (0x4C10 + j) 0xE + 1) % 2 ^ 32 ∧ t.Presents k ∧
      t.lamp = s.lamp ∧ t.now = s.now := by
  obtain ⟨hA, -, -, hE, -⟩ := lampGroupTypes j
  have hj := j.isLt
  dsimp only
  unfold State.groupDown
  have hw0 : Writes (downEntry j k) s (s.endStrobe j) := (Writes.refl _ s).eq (s.endStrobe_dict j) (congrArg _ (s.endStrobe_ev j))
  have hl0 := s.endStrobe_lamp j
  have hn0 := s.endStrobe_now j
  have h0 (i l : Nat) : (s.endStrobe j).rd i l = s.rd i l := State.rd_congr (s.endStrobe_dict j) i l
  generalize s.endStrobe j = a at *
  have hw1 : Writes (downEntry j k) s (a.wr (0x4C10 + j) 0xA code) := hw0.wr (by decide) (.inl ⟨rfl, .inl rfl⟩)
  have hl1 : (a.wr (0x4C10 + j) 0xA code).lamp = s.lamp := (State.wr_lamp _ _ _ _).trans hl0
  have hn1 : (a.wr (0x4C10 + j) 0xA code).now = s.now := (State.wr_now _ _ _ _).trans hn0
  have h1 {l : Nat} (hl : l < 256) : (a.wr (0x4C10 + j) 0xA code).rd (0x4C10 + j) l = if 0xA = l then (code : Int) else a.rd (0x4C10 + j) l := by
    rw [State.rd_wr_at _ _ (by decide) hl, hA, Ty.wrap_u8]
    refine if_congr (and_iff_right rfl) ?_ rfl
    omega
  generalize a.wr (0x4C10 + j) 0xA code = b at *
  have hw2 : Writes (downEntry j k) s (b.bump (0x4C10 + j) 0xE) := hw1.bump (by decide) (.inl ⟨rfl, .inr rfl⟩)
  have hl2 : (b.bump (0x4C10 + j) 0xE).lamp = s.lamp := (State.bump_lamp _ _ _ _).trans hl1
  have hn2 : (b.bump (0x4C10 + j) 0xE).now = s.now := (State.bump_now _ _ _ _).trans hn1
  have h2 {l : Nat} (hl : l < 256) : (b.bump (0x4C10 + j) 0xE).rd (0x4C10 + j) l =
      if 0xE = l then (b.rd (0x4C10 + j) 0xE + 1) % 2 ^ 32 else b.rd (0x4C10 + j) l := by
    rw [State.rd_bump_at (hj := by decide) (hj' := hl), hE, Ty.wrap_u32]
    exact if_congr (and_iff_right rfl) rfl rfl
  generalize b.bump (0x4C10 + j) 0xE = c at *
  have hw3 : Writes (fun i _ => i = 0x2800 + k) c (c.raise1 k 0) := (Writes.refl _ c).raise1 (fun _ => rfl)
  refine ⟨hw2.raise1 (fun _ => .inr rfl), ?_, ?_, c.presents_raise1 k 0, (State.raise1_lamp _ _ _).trans hl2, (State.raise1_now _ _ _).trans hn2⟩
  · rw [hw3.rd (by decide) (by omega), h2 (by decide), if_neg (by decide), h1 (by decide), if_pos rfl]
  · rw [hw3.rd (by decide) (by omega), h2 (by decide), if_pos rfl, h1 (by decide), if_neg (by decide), h0]

/-! ### A faulty string (R303) -/

/-- R303: string `i` is classed as faulty, counted and told. -/
def State.stringTold (i cls : Nat) : State := ((s.wr (0x4C40 + i) 7 cls).bump (0x4C40 + i) 0xA).raise1 (448 + i) 0

/-- R303: the group of a faulty string goes off. -/
def State.groupTripped (j : Nat) : State :=
  let t := (s.groupDown j 3 (480 + j)).updLamp j (fun g => { g with tripAt := (s.groupDown j 3 (480 + j)).now })
  (t.urgent (t.lampSlots j)).groupLost j

theorem State.stringFault_eq (i j cls : Nat) : s.stringFault i j cls =
    if (s.stringTold i cls).groupOff j then s.stringTold i cls else (s.stringTold i cls).groupTripped j := rfl

theorem State.stringTold_spec (i : Fin 32) {cls : Nat} (hc : cls < 256) : let t := s.stringTold i cls
    Writes (fun x l => (x = 0x4C40 + i.val ∧ (l = 7 ∨ l = 0xA)) ∨ x = 0x2800 + (448 + i.val)) s t ∧ t.rd (0x4C40 + i) 7 = cls ∧
      t.rd (0x4C40 + i) 0xA = (s.rd (0x4C40 + i) 0xA + 1) % 2 ^ 32 ∧ t.Presents (448 + i) ∧ t.lamp = s.lamp ∧ t.aux = s.aux ∧ t.now = s.now := by
  obtain ⟨h7, hA⟩ := stringTypes i
  have hi := i.isLt
  dsimp only
  unfold State.stringTold
  have h1 {l : Nat} (hl : l < 256) : (s.wr (0x4C40 + i) 7 cls).rd (0x4C40 + i) l = if 7 = l then (cls : Int) else s.rd (0x4C40 + i) l := by
    rw [State.rd_wr_at _ _ (by decide) hl, h7, Ty.wrap_u8]
    refine if_congr (and_iff_right rfl) ?_ rfl
    omega
  have hw1 : Writes (fun x l => (x = 0x4C40 + i.val ∧ (l = 7 ∨ l = 0xA)) ∨ x = 0x2800 + (448 + i.val)) s (s.wr (0x4C40 + i) 7 cls) :=
    (Writes.refl _ s).wr (by decide) (.inl ⟨rfl, .inl rfl⟩)
  have hl1 : (s.wr (0x4C40 + i) 7 cls).lamp = s.lamp := State.wr_lamp _ _ _ _
  have ha1 : (s.wr (0x4C40 + i) 7 cls).aux = s.aux := State.wr_aux _ _ _ _
  have hn1 : (s.wr (0x4C40 + i) 7 cls).now = s.now := State.wr_now _ _ _ _
  generalize s.wr (0x4C40 + i) 7 cls = b at *
  have h2 {l : Nat} (hl : l < 256) : (b.bump (0x4C40 + i) 0xA).rd (0x4C40 + i) l =
      if 0xA = l then (b.rd (0x4C40 + i) 0xA + 1) % 2 ^ 32 else b.rd (0x4C40 + i) l := by
    rw [State.rd_bump_at (hj := by decide) (hj' := hl), hA, Ty.wrap_u32]
    exact if_congr (and_iff_right rfl) rfl rfl
  have hw2 := hw1.bump (i := 0x4C40 + i) (j := 0xA) (n := 1) (by decide) (.inl ⟨rfl, .inr rfl⟩)
  have hl2 : (b.bump (0x4C40 + i) 0xA).lamp = s.lamp := (State.bump_lamp _ _ _ _).trans hl1
  have ha2 : (b.bump (0x4C40 + i) 0xA).aux = s.aux := (State.bump_aux _ _ _ _).trans ha1
  have hn2 : (b.bump (0x4C40 + i) 0xA).now = s.now := (State.bump_now _ _ _ _).trans hn1
  generalize b.bump (0x4C40 + i) 0xA = c at *
  have hw3 : Writes (fun x _ => x = 0x2800 + (448 + i.val)) c (c.raise1 (448 + i) 0) := (Writes.refl _ c).raise1 (fun _ => rfl)
  refine ⟨hw2.raise1 (fun _ => .inr rfl), ?_, ?_, c.presents_raise1 _ 0, (State.raise1_lamp _ _ _).trans hl2, (State.raise1_aux _ _ _).trans ha2,
    (State.raise1_now _ _ _).trans hn2⟩
  · rw [hw3.rd (by decide) (by omega), h2 (by decide), if_neg (by decide), h1 (by decide), if_pos rfl]
  · rw [hw3.rd (by decide) (by omega), h2 (by decide), if_pos rfl, h1 (by decide), if_neg (by decide)]

/-- What a lamp group's trip writes. -/
def tripEntry (j k i l : Nat) : Prop := downEntry j k i l ∨ cancelledEntry i l

theorem State.groupTripped_spec (j : Fin 8) : let t := s.groupTripped j
    Writes (tripEntry j (480 + j)) s t ∧ t.rd (0x4C10 + j) 0xA = 3 ∧ t.rd (0x4C10 + j) 0xE = (s.rd (0x4C10 + j) 0xE + 1) % 2 ^ 32 ∧
      (vget t.lamp.groups j).tripAt = s.now ∧ t.Presents (480 + j) := by
  have hj := j.isLt
  obtain ⟨hw1, hA1, hE1, hp1, -, hn1⟩ := s.groupDown_spec j (code := 3) (k := 480 + j) (by decide) (by omega)
  dsimp only
  unfold State.groupTripped
  generalize s.groupDown j 3 (480 + j) = a at *
  have hd2 : (a.updLamp j (fun g => { g with tripAt := a.now })).dict = a.dict := rfl
  have he2 : (a.updLamp j (fun g => { g with tripAt := a.now })).ev = a.ev := rfl
  have hl2 : (vget (a.updLamp j (fun g => { g with tripAt := a.now })).lamp.groups j).tripAt = s.now := by
    rw [State.lamp_updLamp _ hj]
    exact hn1
  dsimp only
  generalize a.updLamp j (fun g => { g with tripAt := a.now }) = b at *
  have hd3 : (b.urgent (b.lampSlots j)).dict = b.dict := (State.urgent_keeps (.refl .dict b) rfl _).same
  have he3 : (b.urgent (b.lampSlots j)).ev = b.ev := (State.urgent_keeps (.refl .ev b) rfl _).same
  have hl3 : (b.urgent (b.lampSlots j)).lamp = b.lamp := (State.urgent_keeps (.refl .lamp b) rfl _).same
  generalize b.urgent (b.lampSlots j) = c at *
  have hwc : Writes (tripEntry j (480 + j)) s c := (hw1.mono (fun _ _ h => .inl h)).eq (hd3.trans hd2) (congrArg _ (he3.trans he2))
  have hpc : c.Presents (480 + j) := by
    unfold State.Presents
    rw [he3, he2]
    exact hp1
  have hr (i l : Nat) : c.rd i l = a.rd i l := State.rd_congr (hd3.trans hd2) i l
  have hw : Writes cancelledEntry c (c.groupLost j) := (Writes.refl _ c).groupLost (fun _ _ h => h) j
  have hoff (l : Nat) : ¬ cancelledEntry (0x4C10 + j) l := by unfold cancelledEntry droppedArmEntry; omega
  refine ⟨hwc.groupLost (fun _ _ h => .inr h) j, ?_, ?_, ?_, hw.presents hpc⟩
  · rw [hw.rd (by decide) (hoff _), hr, hA1]
    rfl
  · rw [hw.rd (by decide) (hoff _), hr, hE1]
  · rw [State.groupLost_lamp, hl3, hl2]

end

end Sys2Proof.Machine
end
section
/-! ## Lamp heat, clearing and power (O38) -/
set_option Elab.async false
namespace Sys2Proof.Machine

/-! ### Heat (R305) -/

theorem thermalScale_between {t t1 t2 lo : Int} (h : t1 < t2) (hlo : lo ≤ 1000) : lo ≤ thermalScale t t1 t2 lo ∧ thermalScale t t1 t2 lo ≤ 1000 := by
  unfold thermalScale
  split
  · exact ⟨Int.le_refl _, hlo⟩
  · split
    next h2 h1 =>
      have hd : 0 < t2 - t1 := by omega
      have hn : 0 ≤ (1000 - lo) * (t - t1) := Int.mul_nonneg (by omega) (by omega)
      have hq : (1000 - lo) * (t - t1) / (t2 - t1) ≤ 1000 - lo := by
        refine Int.ediv_le_of_le_mul hd (Int.mul_le_mul_of_nonneg_left (by omega) (by omega))
      have := Int.ediv_nonneg hn hd.le
      omega
    · exact ⟨hlo, Int.le_refl _⟩

section
variable (s : State) (j : Fin 8)

theorem State.setScale_spec (v : Int) : let t := s.setScale j v
    Writes (fun i l => i = 0x4C10 + j.val ∧ (l = 0xA ∨ l = 0xD)) s t ∧ t.rd (0x4C10 + j) 0xD = Ty.u16.wrap v := by
  obtain ⟨hA, -, hD, -⟩ := lampGroupTypes j
  dsimp only
  unfold State.setScale
  dsimp only
  have hw : Writes (fun i l => i = 0x4C10 + j.val ∧ (l = 0xA ∨ l = 0xD)) s (s.wr (0x4C10 + j) 0xD v) :=
    (Writes.refl _ s).wr (by decide) ⟨rfl, .inr rfl⟩
  have hr : (s.wr (0x4C10 + j) 0xD v).rd (0x4C10 + j) 0xD = Ty.u16.wrap v := by rw [State.rd_wr_self _ _ (by decide), hD]
  generalize s.wr (0x4C10 + j) 0xD v = a at *
  split
  · exact ⟨hw.wr (by decide) ⟨rfl, .inl rfl⟩, by rw [State.rd_wr_at _ _ (by decide) (by decide), if_neg (by omega), hr]⟩
  · exact ⟨hw, hr⟩

/-- R305: the board temperature of group `j` is shown. -/
def State.heatShown (j : Nat) (t : Int) : State := (s.wr (0x4C10 + j) 0xC t).updLamp j (fun g => { g with lossTold := false })

/-- R305: group `j` at the temperature `t`. -/
def State.heatActed (j : Nat) (t : Int) : State :=
  if s.rd (0x4C10 + j) 9 ≤ t then
    if s.groupOff j ∨ !s.groupUsed j then s else (s.groupDown j 4 (496 + j)).groupLost j
  else s.setScale j (thermalScale t (s.rd (0x4C10 + j) 6) (s.rd (0x4C10 + j) 7) (s.rd (0x4C10 + j) 8))

theorem State.lampThermal_at {s : State} {j : Nat} {t : Int} (h5 : s.rd (0x4C10 + j) 5 ≠ 0) (ht : s.lampTemp j = some t) :
    s.lampThermal j = (s.heatShown j t).heatActed j t := by
  unfold State.lampThermal
  rw [if_neg h5, ht]
  rfl

/-- What the heat of group `j` writes. -/
def heatEntry (j i l : Nat) : Prop := (i = 0x4C10 + j ∧ (l = 0xA ∨ l = 0xC ∨ l = 0xD ∨ l = 0xE)) ∨ i = 0x2800 + (496 + j) ∨ i = 0x2800 + 505 ∨ cancelledEntry i l

theorem State.heatShown_writes (t : Int) : Writes (fun i l => i = 0x4C10 + j.val ∧ l = 0xC) s (s.heatShown j t) :=
  ((Writes.refl _ s).wr (by decide) ⟨rfl, rfl⟩).eq rfl rfl

theorem State.heatShown_temp (t : Int) : (s.heatShown j t).rd (0x4C10 + j) 0xC = Ty.i16.wrap t := by
  obtain ⟨-, hC, -⟩ := lampGroupTypes j
  unfold State.heatShown
  refine (State.rd_congr rfl _ _ : _ = (s.wr (0x4C10 + j) 0xC t).rd (0x4C10 + j) 0xC).trans ?_
  rw [State.rd_wr_self _ _ (by decide), hC]

theorem State.heatActed_writes (t : Int) : Writes (heatEntry j) s (s.heatActed j t) := by
  unfold State.heatActed
  obtain ⟨hw, -⟩ := s.groupDown_spec j (code := 4) (k := 496 + j) (by decide) (by omega)
  refine .ite (.ite (.refl _ s) (Writes.groupLost (hw.mono (fun i l h => ?_)) (fun _ _ h => .inr (.inr (.inr h))) j))
    ((s.setScale_spec j _).1.mono (fun i l h => ?_))
  · unfold downEntry at h
    unfold heatEntry
    omega
  · unfold heatEntry
    omega

theorem State.lampThermal_writes : Writes (heatEntry j) s (s.lampThermal j) := by
  have hs : ∀ i l, (i = 0x4C10 + j.val ∧ (l = 0xA ∨ l = 0xD)) → heatEntry j i l := by unfold heatEntry; omega
  by_cases h5 : s.rd (0x4C10 + j) 5 = 0
  · unfold State.lampThermal
    rw [if_pos h5]
    exact (s.setScale_spec j _).1.mono hs
  · cases ht : s.lampTemp j with
    | none =>
      unfold State.lampThermal
      rw [if_neg h5, ht]
      exact (((s.setScale_spec j _).1.mono hs).raiseIf (fun l => .inr (.inr (.inl rfl)))).eq rfl rfl
    | some t =>
      rw [State.lampThermal_at h5 ht]
      exact ((s.heatShown_writes j t).mono (by unfold heatEntry; omega)).trans (State.heatActed_writes _ j t)

theorem State.lampThermal_now : (s.lampThermal j).now = s.now := (State.lampThermal_keeps (.refl .now s) rfl _).same

/-- R305: a group with a temperature. -/
theorem State.lampThermal_spec {t : Int} (h5 : s.rd (0x4C10 + j) 5 ≠ 0) (ht : s.lampTemp j = some t) : let v := s.lampThermal j
    v.rd (0x4C10 + j) 0xC = Ty.i16.wrap t ∧
    (s.rd (0x4C10 + j) 9 ≤ t → s.groupOff j = false → s.groupUsed j = true → v.rd (0x4C10 + j) 0xA = 4 ∧
      v.rd (0x4C10 + j) 0xE = (s.rd (0x4C10 + j) 0xE + 1) % 2 ^ 32 ∧ ∃ p ∈ v.ev.pres, p.src = 496 + j) ∧
    (t < s.rd (0x4C10 + j) 9 → v.rd (0x4C10 + j) 0xD =
      Ty.u16.wrap (thermalScale t (s.rd (0x4C10 + j) 6) (s.rd (0x4C10 + j) 7) (s.rd (0x4C10 + j) 8))) := by
  have hj := j.isLt
  dsimp only
  rw [State.lampThermal_at h5 ht]
  have hC := s.heatShown_temp j t
  have hw := s.heatShown_writes j t
  have hr {l : Nat} (hl : l < 256) (hne : l ≠ 0xC) : (s.heatShown j t).rd (0x4C10 + j) l = s.rd (0x4C10 + j) l := hw.rd hl (fun h => hne h.2)
  have hu : (s.heatShown j t).groupUsed j = s.groupUsed j := by
    have hs (i : Nat) : (s.heatShown j t).rdN (0x4C40 + i) 1 = s.rdN (0x4C40 + i) 1 := congrArg _ (hw.rd (by decide) (fun h => absurd h.2 (by decide)))
    unfold State.groupUsed State.stringsOf
    simp only [hs]
  have ho : (s.heatShown j t).groupOff j = s.groupOff j := State.groupOff_congr (hr (by decide) (by decide))
  generalize s.heatShown j t = a at *
  obtain ⟨hwd, hA, hE, hp, -, -⟩ := a.groupDown_spec j (code := 4) (k := 496 + j) (by decide) (by omega)
  have hoff (l : Nat) : ¬ cancelledEntry (0x4C10 + j) l := by unfold cancelledEntry droppedArmEntry; omega
  unfold State.heatActed
  rw [hr (l := 9) (by decide) (by decide), hr (l := 6) (by decide) (by decide), hr (l := 7) (by decide) (by decide),
    hr (l := 8) (by decide) (by decide), ho, hu]
  refine ⟨?_, fun h9 hn hg => ?_, fun h9 => ?_⟩
  · have hw' := a.heatActed_writes j t
    split
    · split
      · exact hC
      · have hg : Writes cancelledEntry (a.groupDown j 4 (496 + j)) ((a.groupDown j 4 (496 + j)).groupLost j) :=
          (Writes.refl _ _).groupLost (fun _ _ h => h) j
        rw [hg.rd (by decide) (hoff _), hwd.rd (by decide) (by unfold downEntry; omega), hC]
    · rw [(a.setScale_spec j _).1.rd (by decide) (by omega), hC]
  · rw [if_pos h9, if_neg (by rw [hn, hg]; decide)]
    have hg : Writes cancelledEntry (a.groupDown j 4 (496 + j)) ((a.groupDown j 4 (496 + j)).groupLost j) :=
      (Writes.refl _ _).groupLost (fun _ _ h => h) j
    refine ⟨?_, ?_, hg.presents hp⟩
    · rw [hg.rd (by decide) (hoff _), hA]
      rfl
    · rw [hg.rd (by decide) (hoff _), hE, hr (by decide) (by decide)]
  · rw [if_neg (by omega)]
    exact (a.setScale_spec j _).2

end

/-! ### A check of a string (R303) -/

/-- R303: a string's measurement is shown. -/
def State.stringMeasured (s : State) (i current volts : Nat) : State :=
  { (s.wr (0x4C40 + i) 8 (min current 4000)).wr (0x4C40 + i) 9 (min volts 80000) with
    lamp := { s.lamp with checked := setBit s.lamp.checked i true } }

theorem State.stringMeasured_rdN (s : State) (i current volts : Nat) {l : Nat} (hl : l < 8) :
    (s.stringMeasured i current volts).rdN (0x4C40 + i) l = s.rdN (0x4C40 + i) l := by
  have h : Writes (fun x l => x = 0x4C40 + i ∧ (l = 8 ∨ l = 9)) s (s.stringMeasured i current volts) :=
    (((Writes.refl _ s).wr (by decide) ⟨rfl, .inl rfl⟩).wr (by decide) ⟨rfl, .inr rfl⟩).eq rfl rfl
  exact congrArg _ (h.rd (by omega) (by omega))

theorem State.stringMeasured_class (s : State) (i code current volts : Nat) :
    (s.stringMeasured i current volts).classOf i code current volts = s.classOf i code current volts := by
  unfold State.classOf
  rw [State.stringMeasured_rdN _ _ _ _ (by decide), State.stringMeasured_rdN _ _ _ _ (by decide)]

theorem exec_stringCheck {s u : State} {dt : Nat} {i : Fin 32} {current volts code : Nat} (e : s.arrive dt = u) (h : u.checkable i = some code) :
    exec (.stringCheck dt i current volts) s = .next (let v := u.stringMeasured i current volts
      if v.classOf i code current volts = 1 then v.wr (0x4C40 + i) 7 1
      else v.stringFault i (v.rdN (0x4C40 + i) 1) (v.classOf i code current volts)) := by
  refine (timed_at e (by rw [h]; rfl) : execStringCheck dt i current volts s = _).trans (congrArg _ ?_)
  dsimp only
  rw [h]
  rfl

/-! ### Clearing a group (R306) -/

theorem State.eachOf_wr_one (l : List Nat) (s : State) (h : ∀ i ∈ l, i < 32) : ∀ i ∈ l, (s.eachOf l (fun i s => s.wr (0x4C40 + i) 7 1)).rd (0x4C40 + i) 7 = 1 := by
  have hat (i : Nat) (hi : i < 32) (t : State) : (t.wr (0x4C40 + i) 7 1).rd (0x4C40 + i) 7 = 1 := by
    rw [State.rd_wr_self _ _ (by decide), (stringTypes ⟨i, hi⟩).1]
    rfl
  induction l generalizing s with
  | nil => exact fun i hi => absurd hi (by simp)
  | cons a l ih =>
    intro i hi
    by_cases hm : i ∈ l
    · exact ih _ (fun i hi => h i (by simp [hi])) i hm
    · obtain rfl : i = a := by simpa [hm] using hi
      refine (State.eachOf_off (l := l) (fun t : State => t.rd (0x4C40 + i) 7) (fun b hb t => ?_) (s.wr (0x4C40 + i) 7 1)).trans (hat i (h i (by simp)) s)
      have : b ≠ i := fun e => hm (e ▸ hb)
      rw [State.rd_wr_at _ _ (by decide) (by decide), if_neg (by omega)]

/-- R306: the strings of group `j` are no longer faulty. -/
def State.stringsCleared (s : State) (j : Nat) : State := s.eachOf (s.stringsOf j) (fun i s => s.wr (0x4C40 + i) 7 1)

/-- R306: a group that was off is cleared. -/
def State.groupCleared (s : State) (j : Nat) : State :=
  (s.wr (0x4C10 + j) 0xA (if s.rd (0x4C10 + j) 0xD < 1000 then 2 else 1)).updLamp j (fun g => { g with
    clearedAt := (s.wr (0x4C10 + j) 0xA (if s.rd (0x4C10 + j) 0xD < 1000 then 2 else 1)).now + 1000 })

section
variable {s : State} {j : Nat}

theorem opClearGroup_hot (h5 : s.rd (0x4C10 + j) 5 ≠ 0) (ht : ∀ t, s.lampTemp j = some t → s.rd (0x4C10 + j) 7 ≤ t) (v : Int) :
    opClearGroup j v s = (s, 5) := by
  unfold opClearGroup
  dsimp only
  refine if_pos ?_
  rw [decide_eq_true h5, Bool.true_and]
  cases h : s.lampTemp j with
  | none => rfl
  | some t => exact decide_eq_true (ht t h)

theorem opClearGroup_cool (h : s.rd (0x4C10 + j) 5 = 0 ∨ ∃ t, s.lampTemp j = some t ∧ t < s.rd (0x4C10 + j) 7) (v : Int) :
    opClearGroup j v s = if !s.groupOff j then (s, 0) else (((s.stringsCleared j).lampThermal j).groupCleared j, 0) := by
  unfold opClearGroup
  dsimp only
  refine if_neg ?_
  rcases h with h | ⟨t, ht, hl⟩
  · rw [decide_eq_false (not_not.mpr h), Bool.false_and]
    decide
  · rw [ht]
    dsimp only
    rw [decide_eq_false (p := s.rd (0x4C10 + j) 7 ≤ t) (by omega), Bool.and_false]
    decide

end

theorem State.groupCleared_spec (s : State) (j : Fin 8) : let t := s.groupCleared j
    Writes (fun i l => i = 0x4C10 + j.val ∧ l = 0xA) s t ∧ t.rd (0x4C10 + j) 0xA = (if t.rd (0x4C10 + j) 0xD < 1000 then 2 else 1) ∧
      (vget t.lamp.groups j).clearedAt = s.now + 1000 := by
  obtain ⟨hA, -⟩ := lampGroupTypes j
  dsimp only
  unfold State.groupCleared
  generalize hv : (if s.rd (0x4C10 + j) 0xD < 1000 then (2 : Int) else 1) = v
  have hw : Writes (fun i l => i = 0x4C10 + j.val ∧ l = 0xA) s (s.wr (0x4C10 + j) 0xA v) := (Writes.refl _ s).wr (by decide) ⟨rfl, rfl⟩
  have hr : (s.wr (0x4C10 + j) 0xA v).rd (0x4C10 + j) 0xA = v := by
    rw [State.rd_wr_self _ _ (by decide), hA, Ty.wrap_u8, ← hv]
    split <;> rfl
  have hn : (s.wr (0x4C10 + j) 0xA v).now = s.now := State.wr_now _ _ _ _
  generalize s.wr (0x4C10 + j) 0xA v = a at *
  have hu (l : Nat) : (a.updLamp j (fun g => { g with clearedAt := a.now + 1000 })).rd (0x4C10 + j) l = a.rd (0x4C10 + j) l := State.rd_congr rfl _ _
  refine ⟨hw.eq rfl rfl, ?_, ?_⟩
  · rw [hu, hu, hr, hw.rd (j := 0xD) (by decide) (by omega), hv]
  · rw [State.lamp_updLamp _ j.isLt, hn]

theorem State.clearedGroup_spec (s : State) (j : Fin 8) : let t := ((s.stringsCleared j).lampThermal j).groupCleared j
    t.rd (0x4C10 + j) 0xA = (if t.rd (0x4C10 + j) 0xD < 1000 then 2 else 1) ∧ (vget t.lamp.groups j).clearedAt = s.now + 1000 ∧
      ∀ i ∈ s.stringsOf j, t.rd (0x4C40 + i) 7 = 1 := by
  have hj := j.isLt
  have hlt : ∀ i ∈ s.stringsOf j, i < 32 := fun i hi => List.mem_range.mp (List.mem_filter.mp hi).1
  have h1 := State.eachOf_wr_one (s.stringsOf j) s hlt
  have hn1 : (s.stringsCleared j).now = s.now := State.eachOf_off (fun t : State => t.now) (fun _ _ t => State.wr_now _ _ _ _) s
  change ∀ i ∈ s.stringsOf j, (s.stringsCleared j).rd (0x4C40 + i) 7 = 1 at h1
  dsimp only
  generalize s.stringsCleared j = a at *
  have hw2 := a.lampThermal_writes j
  have hn2 := a.lampThermal_now j
  generalize a.lampThermal j = b at *
  obtain ⟨hw3, hA, hc⟩ := b.groupCleared_spec j
  refine ⟨hA, by rw [hc, hn2, hn1], fun i hi => ?_⟩
  have := hlt i hi
  rw [hw3.rd (by decide) (by omega), hw2.rd (by decide) (by unfold heatEntry cancelledEntry droppedArmEntry; omega), h1 i hi]

/-! ### The bulk bank and the power report (R307, R308) -/

/-- R307: the bulk voltage shown at the floor, and the strobes cut counted. -/
def State.bulkShown (s : State) (n : Nat) : State := (s.wr 0x4C00 4 (min (s.rd 0x4C00 4) (s.rd 0x4C00 2))).bump 0x4C00 8 n

/-- R302, R307: the strobes in progress end. -/
def State.strobesCut (s : State) (l : List (Nat × Nat × Cycle)) : State := s.eachOf l (fun x s => s.cutStrobe x.1 x.2.1 x.2.2)

/-- R307: EV0504 and the bank's latch. -/
def State.bulkTold (s : State) : State :=
  { s.raiseIf (!s.lamp.bulkLow) 504 0 with lamp := { s.lamp with bulkLow := true } }

theorem exec_bulkFloorReached {s u : State} {dt : Nat} (e : s.arrive dt = u) (h : u.strobesNow.isEmpty = false ∨ ∃ j : Fin 8, u.litSteady j = true) :
    exec (.bulkFloorReached dt) s = .next (((u.bulkShown u.strobesNow.length).strobesCut u.strobesNow).bulkTold) := by
  refine (timed_at e ?_ : execBulkFloorReached dt s = _)
  rcases h with h | ⟨j, hj⟩
  · simp [h]
  · rw [List.any_eq_true.mpr ⟨j.val, List.mem_range.mpr j.isLt, hj⟩, Bool.or_true]

theorem State.bulkShown_spec (s : State) (n : Nat) : (s.bulkShown n).rd 0x4C00 8 = Ty.u32.wrap (s.rd 0x4C00 8 + n) ∧ (s.bulkShown n).lamp = s.lamp ∧
    (s.bulkShown n).ev = s.ev := by
  unfold State.bulkShown
  have hr : (s.wr 0x4C00 4 (min (s.rd 0x4C00 4) (s.rd 0x4C00 2))).rd 0x4C00 8 = s.rd 0x4C00 8 := by
    rw [State.rd_wr_at _ _ (by decide) (by decide), if_neg (by decide)]
  have hl := State.wr_lamp s 0x4C00 4 (min (s.rd 0x4C00 4) (s.rd 0x4C00 2))
  have he := State.wr_ev s 0x4C00 4 (min (s.rd 0x4C00 4) (s.rd 0x4C00 2))
  generalize s.wr 0x4C00 4 (min (s.rd 0x4C00 4) (s.rd 0x4C00 2)) = a at *
  refine ⟨?_, (State.bump_lamp _ _ _ _).trans hl, (State.bump_ev _ _ _ _).trans he⟩
  rw [State.rd_bump_at (hj := by decide) (hj' := by decide), if_pos ⟨rfl, rfl⟩, bulkTypes.2.2, hr]

theorem State.strobesCut_same (s : State) (l : List (Nat × Nat × Cycle)) {p : Part} (hp : Off p 0x100080) : p.Same s (s.strobesCut l) := by
  unfold State.strobesCut
  exact (Keeps.eachOf (.refl p s) (fun x t ht => State.cutStrobe_keeps ht hp x.1 x.2.1 x.2.2)).same

theorem State.bulkTold_spec (s : State) : (s.bulkTold).rd 0x4C00 8 = s.rd 0x4C00 8 ∧ s.bulkTold.lamp = { s.lamp with bulkLow := true } ∧
    (s.lamp.bulkLow = false → s.bulkTold.Presents 504) ∧ (s.lamp.bulkLow = true → s.bulkTold.ev = s.ev) := by
  unfold State.bulkTold
  have hw : Writes (fun i _ => i = 0x2800 + 504) s (s.raiseIf (!s.lamp.bulkLow) 504 0) := (Writes.refl _ s).raiseIf (fun _ => rfl)
  have hp : s.lamp.bulkLow = false → (s.raiseIf (!s.lamp.bulkLow) 504 0).Presents 504 := fun h => by
    rw [h]
    exact s.presents_raise1 504 0
  have he : s.lamp.bulkLow = true → (s.raiseIf (!s.lamp.bulkLow) 504 0).ev = s.ev := fun h => by rw [h]; rfl
  generalize s.raiseIf (!s.lamp.bulkLow) 504 0 = a at *
  exact ⟨(State.rd_congr rfl _ _).trans (hw.rd (by decide) (by decide)), rfl, hp, he⟩

/-- R308: the input power of group `j`. -/
def State.lampShare (s : State) (out : List Nat) (j : Nat) : Nat := if s.groupUsed j then out.getD j 0 * 1000 / s.rdN 0x4C00 5 else 0

/-- R308: the bank's voltage and the lamps' power. -/
def State.powerShown (s : State) (vb total : Nat) : State := (s.wr 0x4C00 4 (min vb 80000)).wr 0x4C00 6 total

/-- R308: the groups' powers. -/
def State.sharesShown (s : State) (shares : List Nat) : State := s.each 8 (fun j s => s.wr (0x4C10 + j) 0xF (shares.getD j 0))

theorem exec_lampPowerReport {s u : State} {dt vb : Nat} {out : List Nat} (e : s.arrive dt = u) (h : u.powered = true) :
    exec (.lampPowerReport dt vb out) s = .next ((u.powerShown vb ((List.range 8).map (u.lampShare out)).sum).sharesShown
      ((List.range 8).map (u.lampShare out))) :=
  (timed_at e h : execLampPowerReport dt vb out s = _)

theorem State.powerShown_spec (s : State) (vb total : Nat) : Writes (fun i k => i = 0x4C00 ∧ (k = 4 ∨ k = 6)) s (s.powerShown vb total) ∧
    (s.powerShown vb total).rd 0x4C00 4 = (min vb 80000 : Nat) ∧ (s.powerShown vb total).rd 0x4C00 6 = (total : Int) % 2 ^ 32 := by
  unfold State.powerShown
  refine ⟨((Writes.refl _ s).wr (by decide) ⟨rfl, .inl rfl⟩).wr (by decide) ⟨rfl, .inr rfl⟩, ?_, ?_⟩
  · rw [State.rd_wr_at _ _ (by decide) (by decide), if_neg (by decide), State.rd_wr_self _ _ (by decide), bulkTypes.1, Ty.wrap_u32]
    omega
  · rw [State.rd_wr_self _ _ (by decide), bulkTypes.2.1, Ty.wrap_u32]

theorem State.sharesShown_spec (s : State) (shares : List Nat) : Writes (fun i k => 0x4C10 ≤ i ∧ i < 0x4C18 ∧ k = 0xF) s (s.sharesShown shares) ∧
    ∀ j : Fin 8, (s.sharesShown shares).rd (0x4C10 + j) 0xF = (shares.getD j 0 : Int) % 2 ^ 32 := by
  unfold State.sharesShown
  refine ⟨(Writes.refl _ s).each (fun i hi t h => h.wr (by decide) ⟨by omega, by omega, rfl⟩), fun j => ?_⟩
  have hj := j.isLt
  obtain ⟨-, -, -, -, hF⟩ := lampGroupTypes j
  refine State.each_at (fun t => t.rd (0x4C10 + j) 0xF) (fun _ => (shares.getD j 0 : Int) % 2 ^ 32) hj (fun t => ?_) (fun i hi hne t => ?_) s
  · rw [State.rd_wr_self _ _ (by decide), hF, Ty.wrap_u32]
  · rw [State.rd_wr_at _ _ (by decide) (by decide), if_neg (by omega)]

/-- R303: a string fault, with the group off or going off. -/
theorem State.stringFault_spec (s : State) (i : Fin 32) (j : Fin 8) {cls : Nat} (hc : cls < 256) : let t := s.stringFault i j cls
    t.rd (0x4C40 + i) 7 = cls ∧ t.rd (0x4C40 + i) 0xA = (s.rd (0x4C40 + i) 0xA + 1) % 2 ^ 32 ∧ t.Presents (448 + i) ∧
      (s.groupOff j = true → t.lamp = s.lamp ∧ t.aux = s.aux ∧ t.rd (0x4C10 + j) 0xA = s.rd (0x4C10 + j) 0xA) ∧
      (s.groupOff j = false → t.rd (0x4C10 + j) 0xA = 3 ∧ t.rd (0x4C10 + j) 0xE = (s.rd (0x4C10 + j) 0xE + 1) % 2 ^ 32 ∧
        (vget t.lamp.groups j).tripAt = s.now ∧ t.Presents (480 + j)) := by
  have hi := i.isLt
  have hj := j.isLt
  obtain ⟨hw, h7, hA, hp, hl, ha, hn⟩ := s.stringTold_spec i hc
  have hr {l : Nat} (hl : l < 256) : (s.stringTold i cls).rd (0x4C10 + j) l = s.rd (0x4C10 + j) l := hw.rd hl (by omega)
  have ho : (s.stringTold i cls).groupOff j = s.groupOff j := State.groupOff_congr (hr (by decide))
  dsimp only
  rw [State.stringFault_eq, ho]
  generalize s.stringTold i cls = a at *
  cases hoff : s.groupOff j with
  | true => exact ⟨h7, hA, hp, fun _ => ⟨hl, ha, hr (by decide)⟩, fun h => Bool.noConfusion h⟩
  | false =>
    obtain ⟨hwt, h3, hE, ht, hpt⟩ := a.groupTripped_spec j
    have hs (l : Nat) : ¬ tripEntry j (480 + j) (0x4C40 + i) l := by unfold tripEntry downEntry cancelledEntry droppedArmEntry; omega
    rw [if_neg (by decide)]
    refine ⟨by rw [hwt.rd (by decide) (hs _), h7], by rw [hwt.rd (by decide) (hs _), hA], hwt.presents hp, fun h => Bool.noConfusion h,
      fun _ => ⟨h3, by rw [hE, hr (by decide)], by rw [ht, hn], hpt⟩⟩

end Sys2Proof.Machine
namespace Sys2Proof
open Machine

/-- Settles O38: each clause is what the lamp's operation is shown above to do. -/
theorem lampStrings : Obligations.LampStrings := by
  unfold Obligations.LampStrings
  intro s dt u
  have e : s.arrive dt = u := rfl
  clear_value u
  refine ⟨fun i j cls hc => u.stringFault_spec i j hc, fun i current volts code hc => ?check, fun i => ?current,
    fun t t1 t2 lo h hlo => ⟨(thermalScale_between h hlo).1, (thermalScale_between h hlo).2, fun ht => ?_, fun ht => if_pos ht⟩,
    fun j t h5 ht => u.lampThermal_spec j h5 ht, fun m j => ?clear, fun h => ?bulk, fun vb hb hv => ?floor, fun vb out hp => ?power⟩
  case check =>
    have hx := exec_stringCheck (current := current) (volts := volts) e hc
    dsimp only at hx
    rw [State.stringMeasured_class, State.stringMeasured_rdN _ _ _ _ (by decide)] at hx
    exact ⟨fun h => hx.trans (congrArg _ (if_pos h)), fun h => hx.trans (congrArg _ (if_neg h))⟩
  case current =>
    intro j hj hl
    have hl' : u.litSteady j || (u.litCycle j).isSome := by
      rcases hl with h | h <;> rw [h]
      · rfl
      · rw [Bool.or_true]
    exact (timed_at e (by rw [decide_eq_true hj, hl']; rfl) : execLampOvercurrent dt i s = _)
  · unfold thermalScale
    rw [if_neg (by omega), if_neg (by omega)]
  case clear =>
    intro w hm hr
    obtain ⟨ho, hv⟩ := clearGroupRows j
    have hx : exec (.clearGroup dt m j) s = .next ((opClearGroup j 1 w).1.answer m (0x4C10 + j) 0xB (opClearGroup j 1 w).2) :=
      (hostCommand_open hm hr ho hv : execClearGroup dt m j s = _)
    clear_value w
    refine ⟨fun h5 ht => by rw [hx, opClearGroup_hot h5 ht], fun h => ?_⟩
    rw [opClearGroup_cool h] at hx
    exact ⟨fun hoff => by rw [hx, hoff]; rfl, fun hon => ⟨_, by rw [hx, hon]; rfl, w.clearedGroup_spec j⟩⟩
  case bulk =>
    obtain ⟨h8, hl, he⟩ := u.bulkShown_spec u.strobesNow.length
    have hx := exec_bulkFloorReached e h
    generalize u.bulkShown u.strobesNow.length = a at *
    have hd2 : (a.strobesCut u.strobesNow).dict = a.dict := a.strobesCut_same _ (p := .dict) rfl
    have hl2 : (a.strobesCut u.strobesNow).lamp = a.lamp := a.strobesCut_same _ (p := .lamp) rfl
    have he2 : (a.strobesCut u.strobesNow).ev = a.ev := a.strobesCut_same _ (p := .ev) rfl
    generalize a.strobesCut u.strobesNow = b at *
    obtain ⟨h83, hl3, hp3, he3⟩ := b.bulkTold_spec
    rw [hl2, hl] at hl3 hp3 he3
    exact ⟨_, hx, by rw [h83, State.rd_congr hd2, h8], hl3, hp3, fun h => by rw [he3 h, he2, he]⟩
  case floor =>
    exact (timed_at e (by rw [hb, decide_eq_true hv]; rfl) : execBulkFloorClear dt vb s = _)
  case power =>
    intro share
    have hx := exec_lampPowerReport (vb := vb) (out := out) e hp
    obtain ⟨hw1, h4, h6⟩ := u.powerShown_spec vb ((List.range 8).map (u.lampShare out)).sum
    generalize u.powerShown vb ((List.range 8).map (u.lampShare out)).sum = a at *
    obtain ⟨hw2, hF⟩ := a.sharesShown_spec ((List.range 8).map (u.lampShare out))
    refine ⟨_, hx, ?_, ?_, fun j => ?_, ?_⟩
    · rw [hw2.rd (by decide) (by decide), h4]
    · rw [hw2.rd (by decide) (by decide), h6]
      rfl
    · rw [hF j, List.getD_eq_getElem _ _ (by simp)]
      simp only [List.getElem_map, List.getElem_range]
      rfl
    · exact ((hw1.mono (fun _ _ h => .inl h)).trans (hw2.mono (fun _ _ h => .inr h))).touch

end Sys2Proof
end
section
/-! ## The Lantern strip (O39) -/
set_option Elab.async false
namespace Sys2Proof.Machine

theorem lanternTypes : tyAt 0x4E00 0xD = .u8 ∧ tyAt 0x4E00 0xE = .u32 ∧ tyAt 0x4E00 0x12 = .u32 := by decide +kernel

theorem engineTypes : ∀ e : Fin 4, tyAt (0x4E20 + e) 0x15 = .u8 := by decide +kernel

theorem lanternRows : rowOpen 0x4E00 0xF = true ∧ verdict 0x4E00 0xF 1 = .keep 1 ∧ ∀ e : Fin 4, rowOpen (0x4E20 + e) 0x12 = true ∧
    rowOpen (0x4E20 + e) 0x13 = true ∧ verdict (0x4E20 + e) 0x13 1 = .keep 1 ∧ rowOpen (0x4E20 + e) 0x14 = true ∧
    verdict (0x4E20 + e) 0x14 1 = .keep 1 := by decide +kernel

theorem locateShapes : ∀ e : Fin 4, rowShape (0x4E20 + e) 0x12 = some (.rw, .always, .only [(0, 1048575)], .u32) := by decide +kernel

theorem locateVerdict (e : Fin 4) {px : Nat} (h : px < 1048576) : verdict (0x4E20 + e) 0x12 px = .keep px := by
  rw [verdict_of (locateShapes e)]
  simp [Range.apply]
  omega

/-! ### Words and the Canteen scale (R313, R322, R323) -/

theorem lanternWord_lt {b cs x : Nat} (hx : x ≤ 65535) (hc : cs ≤ 1000) : lanternWord b cs x < 2 ^ b := by
  unfold lanternWord
  dsimp only
  split
  next hb =>
    have h : x * cs ≤ 65535 * 1000 := Nat.mul_le_mul hx hc
    rw [hb]
    omega
  · have := Nat.two_pow_pos b
    omega

theorem lanternScale_le (unscaled cap : Nat) : lanternScale unscaled cap ≤ 1000 := by
  unfold lanternScale
  split
  · exact Nat.le_refl _
  next h => exact Nat.div_le_of_le_mul (by rw [Nat.mul_comm unscaled, Nat.mul_assoc]; exact Nat.mul_le_mul_left _ (Nat.le_of_not_le h))

theorem lanternScale_power (unscaled cap : Nat) : unscaled * lanternScale unscaled cap ≤ cap * 65535000 := by
  unfold lanternScale
  split
  · omega
  · exact (Nat.mul_div_le _ _).trans (by omega)

theorem wordsToBits_length (b : Nat) (ws : List Nat) : (wordsToBits b ws).length = ws.length * b := by
  unfold wordsToBits
  rw [List.length_flatMap]
  simp

theorem frameBits_length (b : Nat) : ∀ (k : Nat) (ws : List Nat), ws.length = 3 * k → (frameBits b ws).length = ws.length * b
  | 0, ws, h => by
    obtain rfl : ws = [] := List.length_eq_zero_iff.mp h
    rw [List.length_nil, Nat.zero_mul]
    rfl
  | k + 1, [], h => by simp at h
  | k + 1, [_], h => by simp at h; omega
  | k + 1, [_, _], h => by simp at h; omega
  | k + 1, x :: y :: z :: r, h => by
    have hr : r.length = 3 * k := by simp at h; omega
    rw [frameBits, List.length_append, frameBits_length b k r hr, wordsToBits_length]
    simp only [List.length_cons, List.length_nil]
    ring

theorem colourOrder_length (k : Nat) : (colourOrder k).length = 3 := by
  unfold colourOrder
  by_cases h : k < 6
  · interval_cases k <;> rfl
  · rw [List.getD_eq_default _ _ (by simpa using Nat.le_of_not_lt h)]
    rfl

/-! ### The strip's state -/

section
variable {s t : State}

theorem State.lanState_congr (h : t.rd 0x4E00 0xD = s.rd 0x4E00 0xD) : t.lanState = s.lanState := congrArg Int.toNat h

theorem State.lanState_wr (s : State) {k : Nat} (hk : k < 256) : (s.wr 0x4E00 0xD k).lanState = k := by
  unfold State.lanState State.rdN
  rw [State.rd_wr_self _ _ (by decide), lanternTypes.1, Ty.wrap_u8]
  omega

theorem State.chainNow_congr (hl : t.lan.chain = s.lan.chain) (h2 : t.rd 0x4E00 2 = s.rd 0x4E00 2) (h3 : t.rd 0x4E00 3 = s.rd 0x4E00 3) :
    t.chainNow = s.chainNow := by
  unfold State.chainNow State.wordBits State.rdN
  rw [hl, h2, h3]

/-- What the engines leave of the strip. -/
def State.lanCore (s : State) : Nat × Bool × Nat × Option (Nat × Nat) := (s.lan.frameAt, s.lan.skip, s.lan.errors, s.lan.chain)

theorem State.lanCore_of (h : t.lanCore = s.lanCore) :
    t.lan.frameAt = s.lan.frameAt ∧ t.lan.skip = s.lan.skip ∧ t.lan.errors = s.lan.errors ∧ t.lan.chain = s.lan.chain := by
  simpa [State.lanCore] using h

theorem State.engine_updEngine (s : State) {e : Nat} (he : e < 4) (f : Engine → Engine) : (s.updEngine e f).engine e = f (s.engine e) :=
  (vget_vupd s.lan.engines e e f).trans (if_pos ⟨rfl, he⟩)

end

/-! ### A frame begins (R314, R319 to R321) -/

/-- What the engines write. -/
def engineEntry (i j : Nat) : Prop := 0x4E20 ≤ i ∧ i < 0x4E24 ∧ (j = 0x15 ∨ j = 0x16)

section
variable {P : Nat → Nat → Prop} {s t : State} {e : Nat} (he : e < 4)

theorem State.startEngine_core (s : State) (e : Nat) : (s.startEngine e).lanCore = s.lanCore := rfl
theorem State.stopEngine_core (s : State) (e : Nat) : (s.stopEngine e).lanCore = s.lanCore := rfl
theorem State.restartTau_core (s : State) (e : Nat) : (s.restartTau e).lanCore = s.lanCore := by
  unfold State.restartTau
  split <;> rfl

theorem State.doAsk_core (s : State) (e : Nat) : (s.doAsk e).lanCore = s.lanCore := by
  unfold State.doAsk
  split
  · rfl
  · exact s.startEngine_core e
  · exact s.restartTau_core e
  · exact s.stopEngine_core e

theorem State.engineFrame_core (s : State) (l : List LogRec) (e : Nat) : (s.engineFrame l e).lanCore = s.lanCore := by
  unfold State.engineFrame
  dsimp only
  split
  · exact s.doAsk_core e
  · exact s.doAsk_core e

theorem State.locateFrame_core (s : State) (e : Nat) : (s.locateFrame e).lanCore = s.lanCore := by
  unfold State.locateFrame
  dsimp only
  split
  · rfl
  · split
    · split
      · exact s.restartTau_core e
      · rfl
    · split <;> rfl
    · rfl

include he

theorem Writes.startEngine (h : Writes P s t) (hp : ∀ i j, engineEntry i j → P i j) : Writes P s (t.startEngine e) :=
  (h.wr (by decide) (hp _ _ ⟨by omega, by omega, .inl rfl⟩)).eq rfl rfl

theorem Writes.stopEngine (h : Writes P s t) (hp : ∀ i j, engineEntry i j → P i j) : Writes P s (t.stopEngine e) :=
  (h.wr (by decide) (hp _ _ ⟨by omega, by omega, .inl rfl⟩)).eq rfl rfl

theorem Writes.restartTau (h : Writes P s t) (hp : ∀ i j, engineEntry i j → P i j) : Writes P s (t.restartTau e) :=
  .ite (h.eq rfl rfl) ((h.wr (by decide) (hp _ _ ⟨by omega, by omega, .inl rfl⟩)).eq rfl rfl)

theorem Writes.doAsk (h : Writes P s t) (hp : ∀ i j, engineEntry i j → P i j) : Writes P s (t.doAsk e) := by
  unfold State.doAsk
  split
  · exact h
  · exact h.startEngine he hp
  · exact h.restartTau he hp
  · exact h.stopEngine he hp

theorem Writes.engineFrame (h : Writes P s t) (hp : ∀ i j, engineEntry i j → P i j) (l : List LogRec) : Writes P s (t.engineFrame l e) := by
  unfold State.engineFrame
  dsimp only
  split
  · exact ((h.doAsk he hp).startEngine he hp).wr (by decide) (hp _ _ ⟨by omega, by omega, .inr rfl⟩)
  · exact h.doAsk he hp

theorem Writes.locateFrame (h : Writes P s t) (hp : ∀ i j, engineEntry i j → P i j) : Writes P s (t.locateFrame e) := by
  unfold State.locateFrame
  dsimp only
  split
  · exact h
  · split
    · exact .ite (h.restartTau he hp) h
    · exact .ite ((h.wr (by decide) (hp _ _ ⟨by omega, by omega, .inl rfl⟩)).eq rfl rfl) h
    · exact h

end

/-- R321: a frame has taken the events offered to the engines, and what was asked of them. -/
def State.frameBegun (s : State) : State :=
  let t := ({ s with ev := { s.ev with offers := [] } } : State).each 4 (fun e t => t.engineFrame s.ev.offers e)
  t.updLan (fun l => { l with frameAt := t.now })

/-- R314, R317: a frame shown is compared. -/
def State.frameJudged (s : State) (differs : Bool) : State :=
  if s.lan.skip then s.updLan (fun l => { l with skip := false, errors := 0 })
  else if differs then
    let t := (s.bump 0x4E00 0x13).updLan (fun l => { l with errors := l.errors + 1 })
    if 2 ≤ t.lan.errors then (t.chainBroken 2).updLan (fun l => { l with probeAt := t.now }) else t
  else s.updLan (fun l => { l with errors := 0 })

theorem State.frame_eq (s : State) (differs : Bool) : s.frame differs =
    if s.frameBegun.lanState = 2 then (s.frameBegun.each 4 (fun e t => t.locateFrame e)).showFrame.frameJudged differs
    else if s.frameBegun.lanState = 3 then s.frameBegun.darkFrame (s.frameBegun.rdN 0x4E00 0xE)
    else s.frameBegun := by
  unfold State.frame State.frameJudged State.frameBegun
  with_reducible rfl

theorem State.frameBegun_spec (s : State) : let t := s.frameBegun
    Writes engineEntry s t ∧ t.now = s.now ∧ t.ev = { s.ev with offers := [] } ∧ t.lan.frameAt = s.now ∧ t.lan.skip = s.lan.skip ∧
      t.lan.errors = s.lan.errors ∧ t.lan.chain = s.lan.chain := by
  dsimp only
  unfold State.frameBegun
  have hw0 : Writes engineEntry s { s with ev := { s.ev with offers := [] } } := (Writes.refl _ s).eq rfl rfl
  have hn0 : ({ s with ev := { s.ev with offers := [] } } : State).now = s.now := rfl
  have he0 : ({ s with ev := { s.ev with offers := [] } } : State).ev = { s.ev with offers := [] } := rfl
  have hc0 : ({ s with ev := { s.ev with offers := [] } } : State).lanCore = s.lanCore := rfl
  generalize ({ s with ev := { s.ev with offers := [] } } : State) = a at *
  have hw1 : Writes engineEntry s (a.each 4 (fun e t => t.engineFrame s.ev.offers e)) :=
    hw0.each (fun e he t h => h.engineFrame he (fun _ _ h => h) _)
  have hn1 : (a.each 4 (fun e t => t.engineFrame s.ev.offers e)).now = a.now :=
    (Keeps.each (.refl .now a) (fun e t h => State.engineFrame_keeps h rfl _ e)).same
  have he1 : (a.each 4 (fun e t => t.engineFrame s.ev.offers e)).ev = a.ev :=
    (Keeps.each (.refl .ev a) (fun e t h => State.engineFrame_keeps h rfl _ e)).same
  have hc1 : (a.each 4 (fun e t => t.engineFrame s.ev.offers e)).lanCore = a.lanCore :=
    State.each_off State.lanCore (fun e _ t => t.engineFrame_core _ e) a
  generalize a.each 4 (fun e t => t.engineFrame s.ev.offers e) = b at *
  obtain ⟨-, hs, hr, hch⟩ := State.lanCore_of (hc1.trans hc0)
  exact ⟨hw1.eq rfl rfl, hn1.trans hn0, he1.trans he0, hn1.trans hn0, hs, hr, hch⟩

/-! ### A frame shown (R322, R323) -/

/-- What a frame shown writes. -/
def frameEntry (i j : Nat) : Prop := (i = 0x4E00 ∧ (j = 0x10 ∨ j = 0x11)) ∨ i = 0x2800 + 516

theorem State.showFrame_eq (s : State) : ∃ (cs power unscaled : Nat) (us : List (List Nat)), us.length = s.chainNow.1 ∧
    s.showFrame = (((s.raiseIf (decide (cs < 1000) && decide (s.rd 0x4E00 0x11 = 1000)) 516 0).wr 0x4E00 0x10 power).wr 0x4E00 0x11 cs).updLan
      (fun l => { l with
        shown := us.flatMap (fun u => (colourOrder ((((s.raiseIf (decide (cs < 1000) && decide (s.rd 0x4E00 0x11 = 1000)) 516 0).wr
          0x4E00 0x10 power).wr 0x4E00 0x11 cs).rdN 0x4E00 4)).map (fun c => lanternWord s.chainNow.2 cs (u.getD c 0)))
        bits := s.chainNow.1 * (3 * s.chainNow.2), unscaled := unscaled }) := by
  unfold State.showFrame
  generalize s.chainNow = c
  obtain ⟨n, b⟩ := c
  exact ⟨_, _, _, (List.range n).map (s.unscaledPixel s.lanternHeat), by rw [List.length_map, List.length_range], rfl⟩

theorem shown_length (us : List (List Nat)) (k b cs : Nat) :
    (us.flatMap (fun u => (colourOrder k).map (fun c => lanternWord b cs (u.getD c 0)))).length = 3 * us.length := by
  rw [List.length_flatMap]
  simp [colourOrder_length, Nat.mul_comm]

theorem State.raiseIf_offers (s : State) (c : Bool) (k d : Nat) : (s.raiseIf c k d).ev.offers = s.ev.offers := by
  unfold State.raiseIf
  split <;> rfl

theorem State.showFrame_spec (s : State) : let t := s.showFrame
    Writes frameEntry s t ∧ t.ev.offers = s.ev.offers ∧ t.now = s.now ∧ t.lanCore = s.lanCore ∧ t.lan.shown.length = 3 * s.chainNow.1 ∧
      t.lan.bits = s.chainNow.1 * (3 * s.chainNow.2) ∧ t.lan.origin = s.lan.origin := by
  obtain ⟨cs, power, unscaled, us, hl, e⟩ := s.showFrame_eq
  dsimp only
  rw [e]
  generalize (decide (cs < 1000) && decide (s.rd 0x4E00 0x11 = 1000)) = c
  have hw : Writes frameEntry s (s.raiseIf c 516 0) := (Writes.refl _ s).raiseIf (fun _ => .inr rfl)
  have ho := s.raiseIf_offers c 516 0
  have hn : (s.raiseIf c 516 0).now = s.now := (State.raiseIf_keeps (.refl .now s) rfl _ _ _).same
  have hc : (s.raiseIf c 516 0).lan = s.lan := (State.raiseIf_keeps (.refl .lan s) rfl _ _ _).same
  generalize s.raiseIf c 516 0 = a at *
  have hw1 : Writes frameEntry s ((a.wr 0x4E00 0x10 power).wr 0x4E00 0x11 cs) :=
    (hw.wr (by decide) (.inl ⟨rfl, .inl rfl⟩)).wr (by decide) (.inl ⟨rfl, .inr rfl⟩)
  have ho1 : ((a.wr 0x4E00 0x10 power).wr 0x4E00 0x11 cs).ev = a.ev := (State.wr_ev _ _ _ _).trans (State.wr_ev _ _ _ _)
  have hn1 : ((a.wr 0x4E00 0x10 power).wr 0x4E00 0x11 cs).now = a.now := (State.wr_now _ _ _ _).trans (State.wr_now _ _ _ _)
  have hc1 : ((a.wr 0x4E00 0x10 power).wr 0x4E00 0x11 cs).lan = a.lan := (State.wr_lan _ _ _ _).trans (State.wr_lan _ _ _ _)
  generalize (a.wr 0x4E00 0x10 power).wr 0x4E00 0x11 cs = b at *
  refine ⟨hw1.eq rfl rfl, (congrArg _ ho1).trans ho, hn1.trans hn, ?_, (shown_length _ _ _ _).trans (congrArg _ hl), rfl, ?_⟩
  · unfold State.lanCore
    rw [← hc, ← hc1]
    rfl
  · rw [← hc, ← hc1]
    rfl

theorem State.frameShown_spec (s : State) : let t := (s.each 4 (fun e t => t.locateFrame e)).showFrame
    Writes (fun i j => engineEntry i j ∨ frameEntry i j) s t ∧ t.ev.offers = s.ev.offers ∧ t.now = s.now ∧ t.lanCore = s.lanCore ∧
      t.lan.shown.length = 3 * s.chainNow.1 ∧ t.lan.bits = s.chainNow.1 * (3 * s.chainNow.2) := by
  have hw : Writes engineEntry s (s.each 4 (fun e t => t.locateFrame e)) := (Writes.refl _ s).each (fun e he t h => h.locateFrame he (fun _ _ h => h))
  have hn : (s.each 4 (fun e t => t.locateFrame e)).now = s.now := (Keeps.each (.refl .now s) (fun e t h => State.locateFrame_keeps h rfl e)).same
  have he : (s.each 4 (fun e t => t.locateFrame e)).ev = s.ev := (Keeps.each (.refl .ev s) (fun e t h => State.locateFrame_keeps h rfl e)).same
  have hc : (s.each 4 (fun e t => t.locateFrame e)).lanCore = s.lanCore := State.each_off State.lanCore (fun e _ t => t.locateFrame_core e) s
  have hch : (s.each 4 (fun e t => t.locateFrame e)).chainNow = s.chainNow :=
    State.chainNow_congr (State.lanCore_of hc).2.2.2 (hw.rd (by decide) (by unfold engineEntry; omega)) (hw.rd (by decide) (by unfold engineEntry; omega))
  dsimp only
  generalize s.each 4 (fun e t => t.locateFrame e) = a at *
  obtain ⟨hw1, ho, hn1, hc1, hl, hb, -⟩ := a.showFrame_spec
  rw [hch] at hl hb
  exact ⟨(hw.mono (fun _ _ h => .inl h)).trans (hw1.mono (fun _ _ h => .inr h)), ho.trans (congrArg _ he), hn1.trans hn, hc1.trans hc, hl, hb⟩

/-! ### A frame compared (R317) -/

section
variable (s : State)

theorem State.chainBroken_spec {was : Nat} : let t := s.chainBroken was
    t.lanState = 4 ∧ Writes (fun i j => (i = 0x4E00 ∧ (j = 0xD ∨ j = 0x12)) ∨ i = 0x2800 + 512) s t ∧ t.lan = s.lan ∧ t.now = s.now ∧
      t.ev.offers = s.ev.offers ∧ (was ≠ 4 → t.rd 0x4E00 0x12 = (s.rd 0x4E00 0x12 + 1) % 2 ^ 32 ∧ t.Presents 512) ∧ (was = 4 → t.ev = s.ev) := by
  dsimp only
  unfold State.chainBroken
  have h4 := s.lanState_wr (k := 4) (by decide)
  have hw : Writes (fun i j => (i = 0x4E00 ∧ (j = 0xD ∨ j = 0x12)) ∨ i = 0x2800 + 512) s (s.wr 0x4E00 0xD (4 : Nat)) :=
    (Writes.refl _ s).wr (by decide) (.inl ⟨rfl, .inl rfl⟩)
  have hl := State.wr_lan s 0x4E00 0xD (4 : Nat)
  have hn := State.wr_now s 0x4E00 0xD (4 : Nat)
  have he := State.wr_ev s 0x4E00 0xD (4 : Nat)
  have hr : (s.wr 0x4E00 0xD (4 : Nat)).rd 0x4E00 0x12 = s.rd 0x4E00 0x12 := by rw [State.rd_wr_at _ _ (by decide) (by decide), if_neg (by decide)]
  change let s := s.wr 0x4E00 0xD (4 : Nat); _
  generalize s.wr 0x4E00 0xD (4 : Nat) = a at *
  dsimp only
  split
  next h => exact ⟨h4, hw, hl, hn, congrArg _ he, fun hne => absurd h hne, fun _ => he⟩
  next h =>
    have hrb : (a.bump 0x4E00 0x12).rd 0x4E00 0x12 = (a.rd 0x4E00 0x12 + 1) % 2 ^ 32 := by
      rw [State.rd_bump_at (hj := by decide) (hj' := by decide), if_pos ⟨rfl, rfl⟩, lanternTypes.2.2, Ty.wrap_u32]
      rfl
    have hsb : (a.bump 0x4E00 0x12).rd 0x4E00 0xD = a.rd 0x4E00 0xD := by
      rw [State.rd_bump_at (hj := by decide) (hj' := by decide), if_neg (by decide)]
    have hwb := hw.bump (i := 0x4E00) (j := 0x12) (n := 1) (by decide) (.inl ⟨rfl, .inr rfl⟩)
    have hlb := State.bump_lan a 0x4E00 0x12 1
    have hnb := State.bump_now a 0x4E00 0x12 1
    have heb := State.bump_ev a 0x4E00 0x12 1
    generalize a.bump 0x4E00 0x12 = b at *
    have hw2 : Writes (fun i _ => i = 0x2800 + 512) b (b.raise1 512 0) := (Writes.refl _ b).raise1 (fun _ => rfl)
    refine ⟨?_, hwb.raise1 (fun _ => .inr rfl), (State.raise1_lan _ _ _).trans (hlb.trans hl), (State.raise1_now _ _ _).trans (hnb.trans hn),
      (b.raiseIf_offers true 512 0).trans (congrArg _ (heb.trans he)), fun _ => ⟨?_, b.presents_raise1 512 0⟩, fun h4 => absurd h4 h⟩
    · rw [State.lanState_congr ((hw2.rd (by decide) (by decide)).trans hsb), h4]
    · rw [hw2.rd (by decide) (by decide), hrb, hr]

theorem State.frameJudged_spec (differs : Bool) : let t := s.frameJudged differs
    t.lan.frameAt = s.lan.frameAt ∧ t.ev.offers = s.ev.offers ∧ t.lan.shown = s.lan.shown ∧ t.lan.bits = s.lan.bits ∧
      (s.lan.skip = false → differs = true → 1 ≤ s.lan.errors →
        t.lanState = 4 ∧ t.rd 0x4E00 0x12 = (s.rd 0x4E00 0x12 + 1) % 2 ^ 32 ∧ t.Presents 512) ∧
      (differs = false → t.lanState = s.lanState ∧ t.lan.errors = 0) := by
  dsimp only
  unfold State.frameJudged
  cases hs : s.lan.skip with
  | true => exact ⟨rfl, rfl, rfl, rfl, fun h => Bool.noConfusion h, fun _ => ⟨State.lanState_congr (State.rd_congr rfl _ _), rfl⟩⟩
  | false =>
    rw [if_neg (by decide)]
    cases differs with
    | false => exact ⟨rfl, rfl, rfl, rfl, fun _ h => Bool.noConfusion h, fun _ => ⟨State.lanState_congr (State.rd_congr rfl _ _), rfl⟩⟩
    | true =>
      rw [if_pos rfl]
      have hl1 := State.bump_lan s 0x4E00 0x13 1
      have he1 := State.bump_ev s 0x4E00 0x13 1
      have hr1 : (s.bump 0x4E00 0x13).rd 0x4E00 0x12 = s.rd 0x4E00 0x12 := by
        rw [State.rd_bump_at (hj := by decide) (hj' := by decide), if_neg (by decide)]
      generalize s.bump 0x4E00 0x13 = a at *
      have hl2 : (a.updLan (fun l => { l with errors := l.errors + 1 })).lan = { s.lan with errors := s.lan.errors + 1 } := by rw [← hl1]; rfl
      have he2 : (a.updLan (fun l => { l with errors := l.errors + 1 })).ev = s.ev := he1
      have hr2 : (a.updLan (fun l => { l with errors := l.errors + 1 })).rd 0x4E00 0x12 = s.rd 0x4E00 0x12 := (State.rd_congr rfl _ _).trans hr1
      generalize a.updLan (fun l => { l with errors := l.errors + 1 }) = b at *
      obtain ⟨h4, hw, hlc, hnc, ho, hb, -⟩ := b.chainBroken_spec (was := 2)
      obtain ⟨h12, hp⟩ := hb (by decide)
      dsimp only
      rw [hl2] at hlc
      have hb2 : b.lan.errors = s.lan.errors + 1 := by rw [hl2]
      rw [hb2]
      generalize b.chainBroken 2 = c at *
      generalize b.now = n0 at *
      split
      · have hr3 (i j : Nat) : (c.updLan (fun l => { l with probeAt := n0 })).rd i j = c.rd i j := State.rd_congr rfl i j
        have hl3 : (c.updLan (fun l => { l with probeAt := n0 })).lan = { c.lan with probeAt := n0 } := rfl
        have he3 : (c.updLan (fun l => { l with probeAt := n0 })).ev = c.ev := rfl
        generalize c.updLan (fun l => { l with probeAt := c.now }) = d at *
        refine ⟨by rw [hl3, hlc], by rw [he3, ho, he2], by rw [hl3, hlc], by rw [hl3, hlc], fun _ _ _ => ⟨?_, ?_, ?_⟩, fun h => Bool.noConfusion h⟩
        · rw [State.lanState_congr (hr3 _ _), h4]
        · rw [hr3, h12, hr2]
        · unfold State.Presents
          rw [he3]
          exact hp
      next h => exact ⟨by rw [hl2], by rw [he2], by rw [hl2], by rw [hl2], fun _ _ h1 => absurd (Nat.succ_le_succ h1) h, fun h => Bool.noConfusion h⟩

/-- R314 to R317, R321: what a frame does. -/
theorem State.frame_spec (differs : Bool) : let t := s.frame differs
    t.lan.frameAt = s.now ∧ t.ev.offers = [] ∧
      (s.lanState = 2 → t.lan.shown.length = 3 * s.chainNow.1 ∧ t.lan.bits = s.chainNow.1 * (3 * s.chainNow.2)) ∧
      (s.lanState = 2 → s.lan.skip = false → differs = true → 1 ≤ s.lan.errors →
        t.lanState = 4 ∧ t.rd 0x4E00 0x12 = (s.rd 0x4E00 0x12 + 1) % 2 ^ 32 ∧ ∃ p ∈ t.ev.pres, p.src = 512) ∧
      (s.lanState = 2 → differs = false → t.lanState = 2 ∧ t.lan.errors = 0) := by
  obtain ⟨hw, hn, he, hf, hs, hr, hch⟩ := s.frameBegun_spec
  have hrd (j : Nat) (hj : j < 256) : s.frameBegun.rd 0x4E00 j = s.rd 0x4E00 j := hw.rd hj (by unfold engineEntry; omega)
  have hst : s.frameBegun.lanState = s.lanState := State.lanState_congr (hrd _ (by decide))
  have hcn : s.frameBegun.chainNow = s.chainNow := State.chainNow_congr hch (hrd _ (by decide)) (hrd _ (by decide))
  dsimp only
  rw [State.frame_eq, hst]
  generalize s.frameBegun = a at *
  have ho : a.ev.offers = [] := by rw [he]
  by_cases h2 : s.lanState = 2
  · rw [if_pos h2]
    obtain ⟨hw2, ho2, hn2, hc2, hl2, hb2⟩ := a.frameShown_spec
    obtain ⟨hf2, hs2, hr2, -⟩ := State.lanCore_of hc2
    generalize (a.each 4 (fun e t => t.locateFrame e)).showFrame = b at *
    have hrb (j : Nat) (hj : j < 256) (h0 : j ≠ 0x10) (h1 : j ≠ 0x11) : b.rd 0x4E00 j = s.rd 0x4E00 j :=
      (hw2.rd hj (by unfold engineEntry frameEntry; omega)).trans (hrd j hj)
    have hsb : b.lanState = s.lanState := State.lanState_congr (hrb _ (by decide) (by decide) (by decide))
    obtain ⟨hf3, ho3, hl3, hb3, h43, h23⟩ := b.frameJudged_spec differs
    rw [hs2, hs, hr2, hr, hrb _ (by decide) (by decide) (by decide)] at h43
    refine ⟨hf3.trans (hf2.trans hf), ho3.trans (ho2.trans ho), fun _ => ⟨by rw [hl3, hl2, hcn], by rw [hb3, hb2, hcn]⟩, fun _ => h43, fun _ hd => ?_⟩
    obtain ⟨hs3, hr3⟩ := h23 hd
    exact ⟨hs3.trans (hsb.trans h2), hr3⟩
  · rw [if_neg h2]
    refine ⟨?_, ?_, fun h => absurd h h2, fun h => absurd h h2, fun h => absurd h h2⟩
    · split
      · exact hf
      · exact hf
    · split
      · exact ho
      · exact ho

end

end Sys2Proof.Machine
end
section
/-! ## Probes and engines of the strip (O39) -/
set_option Elab.async false
namespace Sys2Proof.Machine

/-! ### Probes (R315 to R318) -/

/-- R316: a probe that counted `count` clocks has seen a 1 come back. -/
def probeSeen (count : Nat) : Bool := decide (1 ≤ count ∧ count ≤ 24640)

section
variable (s : State)

theorem State.startProbe_spec : s.startProbe.lanState = 1 ∧ s.startProbe.lan.probeAt = s.now := by
  unfold State.startProbe
  have h := s.lanState_wr (k := 1) (by decide)
  change let a := s.wr 0x4E00 0xD (1 : Nat); _
  generalize s.wr 0x4E00 0xD (1 : Nat) = a at *
  exact ⟨h, rfl⟩

theorem State.raiseIf_lanState (c : Bool) {k : Nat} (hk : k < 1024) (d : Nat) : (s.raiseIf c k d).lanState = s.lanState := by
  have hw : Writes (fun i _ => i = 0x2800 + k) s (s.raiseIf c k d) := (Writes.refl _ s).raiseIf (fun _ => rfl)
  exact State.lanState_congr (hw.rd (by decide) (by omega))

theorem State.raiseIf_lan (c : Bool) (k d : Nat) : (s.raiseIf c k d).lan = s.lan := (State.raiseIf_keeps (.refl .lan s) rfl _ _ _).same

theorem State.stillShort_spec : s.stillShort.lanState = 5 ∧ s.stillShort.lan.shortAt = s.now := by
  unfold State.stillShort
  have h := s.lanState_wr (k := 5) (by decide)
  change let a := s.wr 0x4E00 0xD (5 : Nat); _
  generalize s.wr 0x4E00 0xD (5 : Nat) = a at *
  dsimp only
  have hs : (a.updLan (fun l => { l with shortAt := s.now })).lanState = 5 := h
  have hl : (a.updLan (fun l => { l with shortAt := s.now })).lan.shortAt = s.now := rfl
  generalize a.updLan (fun l => { l with shortAt := s.now }) = b at *
  rw [State.raiseIf_lanState _ _ (by decide), State.raiseIf_lan]
  exact ⟨hs, hl⟩

/-- R316: the count of a probe is shown. -/
def State.probeCounted (count : Nat) : State :=
  (s.wr 0x4E00 0xE (if probeSeen count then count else 0)).updLan (fun l => { l with skip := true, errors := 0 })

/-- R316: the probe has counted the chain that the entries give. -/
def State.probeMatched (was n b : Nat) : State :=
  (((s.wr 0x4E00 0xD 2).updLan (fun l => { l with chain := some (n, b) })).raiseIf (decide (was = 4)) 515 0).showFrame

/-- R316: the probe has counted another chain. -/
def State.probeMismatch (count : Nat) : State := ((s.wr 0x4E00 0xD 3).raise1 513 0).darkFrame count

theorem State.probeResult_eq (count : Nat) : s.probeResult count =
    if probeSeen count ∧ count = s.rdN 0x4E00 2 * (3 * s.wordBits) then (s.probeCounted count).probeMatched s.lan.origin (s.rdN 0x4E00 2) s.wordBits
    else if s.lan.origin = 5 then (s.probeCounted count).stillShort
    else if probeSeen count then (s.probeCounted count).probeMismatch count
    else (s.probeCounted count).chainBroken s.lan.origin := rfl

theorem State.probeCounted_spec (count : Nat) : let t := s.probeCounted count
    Writes (fun i j => i = 0x4E00 ∧ j = 0xE) s t ∧ t.rd 0x4E00 0xE = (if probeSeen count then count else 0 : Nat) ∧ t.now = s.now ∧ t.ev = s.ev := by
  dsimp only
  unfold State.probeCounted
  have hc : ((if probeSeen count then (count : Int) else 0) : Int) = ((if probeSeen count then count else 0 : Nat) : Int) := by split <;> rfl
  have hlt : (if probeSeen count then count else 0) < 2 ^ 32 := by
    split
    next h =>
      have : 1 ≤ count ∧ count ≤ 24640 := of_decide_eq_true h
      omega
    · decide
  rw [hc]
  generalize (if probeSeen count then count else 0) = n at *
  have hw : Writes (fun i j => i = 0x4E00 ∧ j = 0xE) s (s.wr 0x4E00 0xE (n : Int)) := (Writes.refl _ s).wr (by decide) ⟨rfl, rfl⟩
  have hr : (s.wr 0x4E00 0xE (n : Int)).rd 0x4E00 0xE = n := by
    rw [State.rd_wr_self _ _ (by decide), lanternTypes.2.1, Ty.wrap_u32]
    omega
  have hn := State.wr_now s 0x4E00 0xE (n : Int)
  have he := State.wr_ev s 0x4E00 0xE (n : Int)
  generalize s.wr 0x4E00 0xE (n : Int) = a at *
  exact ⟨hw.eq rfl rfl, (State.rd_congr rfl _ _).trans hr, hn, he⟩

theorem State.probeMatched_spec (was n b : Nat) : let t := s.probeMatched was n b
    t.lanState = 2 ∧ t.lan.chain = some (n, b) ∧ (was = 4 → t.Presents 515) := by
  dsimp only
  unfold State.probeMatched
  have h := s.lanState_wr (k := 2) (by decide)
  change let a := s.wr 0x4E00 0xD (2 : Nat); _
  generalize s.wr 0x4E00 0xD (2 : Nat) = a at *
  dsimp only
  have hs : (a.updLan (fun l => { l with chain := some (n, b) })).lanState = 2 := h
  have hl : (a.updLan (fun l => { l with chain := some (n, b) })).lan.chain = some (n, b) := rfl
  generalize a.updLan (fun l => { l with chain := some (n, b) }) = c at *
  have hs2 := c.raiseIf_lanState (decide (was = 4)) (k := 515) (by decide) 0
  have hl2 := c.raiseIf_lan (decide (was = 4)) 515 0
  have hp2 : was = 4 → (c.raiseIf (decide (was = 4)) 515 0).Presents 515 := fun h => by
    rw [decide_eq_true h]
    exact c.presents_raise1 515 0
  generalize c.raiseIf (decide (was = 4)) 515 0 = d at *
  obtain ⟨hw, -, -, hcore, -⟩ := d.showFrame_spec
  refine ⟨?_, ?_, fun h => hw.presents (hp2 h)⟩
  · rw [State.lanState_congr (hw.rd (by decide) (by unfold frameEntry; omega)), hs2, hs]
  · rw [(State.lanCore_of hcore).2.2.2, hl2, hl]

theorem State.probeMismatch_spec (count : Nat) : let t := s.probeMismatch count
    t.lanState = 3 ∧ t.rd 0x4E00 0xE = s.rd 0x4E00 0xE ∧ t.lan.shown = [] ∧ t.Presents 513 := by
  dsimp only
  unfold State.probeMismatch State.darkFrame
  have h := s.lanState_wr (k := 3) (by decide)
  have hr : (s.wr 0x4E00 0xD (3 : Nat)).rd 0x4E00 0xE = s.rd 0x4E00 0xE := by rw [State.rd_wr_at _ _ (by decide) (by decide), if_neg (by decide)]
  change let a := s.wr 0x4E00 0xD (3 : Nat); _
  generalize s.wr 0x4E00 0xD (3 : Nat) = a at *
  dsimp only
  have hw : Writes (fun i j => i = 0x2800 + 513 ∨ (i = 0x4E00 ∧ j = 0x10)) a ((a.raise1 513 0).wr 0x4E00 0x10 0) :=
    ((Writes.refl _ a).raise1 (fun _ => .inl rfl)).wr (by decide) (.inr ⟨rfl, rfl⟩)
  have hp : ((a.raise1 513 0).wr 0x4E00 0x10 0).Presents 513 := ((Writes.refl (fun _ _ => True) _).wr (by decide) trivial).presents (a.presents_raise1 513 0)
  generalize (a.raise1 513 0).wr 0x4E00 0x10 0 = b at *
  refine ⟨?_, ?_, rfl, hp⟩
  · exact (State.lanState_congr ((State.rd_congr rfl _ _).trans (hw.rd (by decide) (by omega)))).trans h
  · exact (State.rd_congr rfl _ _).trans ((hw.rd (by decide) (by omega)).trans hr)

/-- R316 to R318: what the result of a probe does. -/
theorem State.probeResult_spec (count : Nat) : let t := s.probeResult count
    (1 ≤ count → count ≤ 24640 → count = s.rdN 0x4E00 2 * (3 * s.wordBits) →
      t.lanState = 2 ∧ t.lan.chain = some (s.rdN 0x4E00 2, s.wordBits) ∧ (s.lan.origin = 4 → ∃ p ∈ t.ev.pres, p.src = 515)) ∧
    (1 ≤ count → count ≤ 24640 → count ≠ s.rdN 0x4E00 2 * (3 * s.wordBits) → s.lan.origin ≠ 5 →
      t.lanState = 3 ∧ t.rd 0x4E00 0xE = count ∧ t.lan.shown = [] ∧ ∃ p ∈ t.ev.pres, p.src = 513) ∧
    (count = 0 ∨ 24640 < count → s.lan.origin ≠ 5 → t.lanState = 4 ∧ t.rd 0x4E00 0xE = 0 ∧
      (s.lan.origin ≠ 4 → t.rd 0x4E00 0x12 = (s.rd 0x4E00 0x12 + 1) % 2 ^ 32 ∧ ∃ p ∈ t.ev.pres, p.src = 512) ∧
      (s.lan.origin = 4 → t.ev = s.ev)) ∧
    (count ≠ s.rdN 0x4E00 2 * (3 * s.wordBits) → s.lan.origin = 5 → t.lanState = 5 ∧ t.lan.shortAt = s.now) := by
  obtain ⟨hw, hE, hn, he⟩ := s.probeCounted_spec count
  dsimp only
  rw [State.probeResult_eq]
  have h12 : (s.probeCounted count).rd 0x4E00 0x12 = s.rd 0x4E00 0x12 := hw.rd (by decide) (by omega)
  generalize s.probeCounted count = a at *
  refine ⟨fun h1 h2 hc => ?_, fun h1 h2 hc h5 => ?_, fun h0 h5 => ?_, fun hc h5 => ?_⟩
  · have hs : probeSeen count = true := decide_eq_true ⟨h1, h2⟩
    rw [if_pos ⟨hs, hc⟩]
    exact a.probeMatched_spec _ _ _
  · have hs : probeSeen count = true := decide_eq_true ⟨h1, h2⟩
    rw [if_neg (fun h => hc h.2), if_neg h5, if_pos hs]
    obtain ⟨h3, hr, hl, hp⟩ := a.probeMismatch_spec count
    exact ⟨h3, by rw [hr, hE, if_pos hs], hl, hp⟩
  · have hs : probeSeen count = false := decide_eq_false (by omega)
    rw [if_neg (fun h => by rw [hs] at h; exact absurd h.1 (by decide)), if_neg h5, if_neg (by rw [hs]; decide)]
    obtain ⟨h4, hwb, -, -, -, hb, hb'⟩ := a.chainBroken_spec (was := s.lan.origin)
    refine ⟨h4, by rw [hwb.rd (by decide) (by decide), hE, hs]; rfl, fun h => ?_, fun h => (hb' h).trans he⟩
    obtain ⟨hr, hp⟩ := hb h
    exact ⟨by rw [hr, h12], hp⟩
  · rw [if_neg (fun h => hc h.2), if_pos h5]
    obtain ⟨hst, hat⟩ := a.stillShort_spec
    exact ⟨hst, hat.trans hn⟩

/-! ### Starting and stopping engines (R319 to R321) -/

theorem State.updEngine_rd (e : Nat) (f : Engine → Engine) (i j : Nat) : (s.updEngine e f).rd i j = s.rd i j := State.rd_congr rfl i j

theorem State.askEngine_running {s : State} (h : s.lanState = 2) (e : Nat) (a : Ask) (ha : a ≠ .restart) :
    s.askEngine e a = s.updEngine e (fun q => { q with ask := a }) := by
  unfold State.askEngine
  dsimp only
  rw [if_pos (show (s.updEngine e _).lanState = 2 from h)]
  exact congrArg (s.updEngine e) (funext fun q => by rw [if_neg (fun hr => ha hr.1)])

theorem State.askEngine_still {s : State} (h : s.lanState ≠ 2) (e : Nat) (a : Ask) (ha : a ≠ .restart) :
    s.askEngine e a = (s.updEngine e (fun q => { q with ask := a })).doAsk e := by
  have hf : (fun q : Engine => ({ q with ask := if a = .restart ∧ q.ask ≠ .none then q.ask else a } : Engine)) = fun q => { q with ask := a } :=
    funext fun q => by rw [if_neg (fun hr => ha hr.1)]
  unfold State.askEngine
  dsimp only
  rw [hf, if_neg (show ¬ (s.updEngine e _).lanState = 2 from h)]

section
variable (e : Fin 4)

theorem State.startEngine_spec : let t := s.startEngine e
    t.rd (0x4E20 + e) 0x15 = 1 ∧ (t.engine e).typ = s.rdN (0x4E20 + e) 1 ∧ (t.engine e).t0 = s.fine ∧
      (t.engine e).run = s.rdN (0x4E20 + e) 0xE * 1000000 := by
  dsimp only
  unfold State.startEngine
  have hr : (s.wr (0x4E20 + e) 0x15 1).rd (0x4E20 + e) 0x15 = 1 := by
    rw [State.rd_wr_self _ _ (by decide), engineTypes e]
    rfl
  generalize s.wr (0x4E20 + e) 0x15 1 = a at *
  rw [State.engine_updEngine _ e.isLt, State.updEngine_rd]
  exact ⟨hr, rfl, rfl, rfl⟩

theorem State.stopEngine_state : (s.stopEngine e).rd (0x4E20 + e) 0x15 = 0 := by
  unfold State.stopEngine
  rw [State.updEngine_rd, State.rd_wr_self _ _ (by decide), engineTypes e]
  rfl

theorem State.askStart_still {s : State} (h : s.lanState ≠ 2) : let t := s.askEngine e .start
    t.rd (0x4E20 + e) 0x15 = 1 ∧ (t.engine e).typ = s.rdN (0x4E20 + e) 1 ∧ (t.engine e).t0 = s.fine ∧
      (t.engine e).run = s.rdN (0x4E20 + e) 0xE * 1000000 := by
  dsimp only
  rw [State.askEngine_still h _ _ (by decide)]
  have ha : ((s.updEngine e (fun q => { q with ask := .start })).engine e).ask = .start := by rw [State.engine_updEngine _ e.isLt]
  have hr (j : Nat) : (s.updEngine e (fun q => { q with ask := .start })).rdN (0x4E20 + e) j = s.rdN (0x4E20 + e) j :=
    congrArg Int.toNat (State.updEngine_rd _ _ _ _ _)
  have hf : (s.updEngine e (fun q => { q with ask := .start })).fine = s.fine := rfl
  generalize s.updEngine e (fun q => { q with ask := .start }) = a at *
  rw [State.doAsk, ha]
  have h := a.startEngine_spec e
  rw [hr, hr, hf] at h
  exact h

theorem State.askStop_still {s : State} (h : s.lanState ≠ 2) : (s.askEngine e .stop).rd (0x4E20 + e) 0x15 = 0 := by
  rw [State.askEngine_still h _ _ (by decide)]
  have ha : ((s.updEngine e (fun q => { q with ask := .stop })).engine e).ask = .stop := by rw [State.engine_updEngine _ e.isLt]
  generalize s.updEngine e (fun q => { q with ask := .stop }) = a at *
  rw [State.doAsk, ha]
  exact a.stopEngine_state e

end

/-! ### Locate targets (R320) -/

theorem opLocate_none {e px : Nat} (h : s.locatePixel px = none) : opLocate e px s = (s, 5) := by
  unfold opLocate
  dsimp only
  rw [Int.toNat_natCast, h]

theorem opLocate_some {e px : Nat} {q : Int} (h : s.locatePixel px = some q) : opLocate e px s =
    if q < (s.engRange e).1 ∨ ((s.engRange e).2 : Int) < q then (s, 5) else ((s.wr (0x4E20 + e) 0x12 px).askEngine e .restart, 0) := by
  unfold opLocate
  dsimp only
  rw [Int.toNat_natCast, h]

end

end Sys2Proof.Machine
namespace Sys2Proof
open Machine

/-- Settles O39: each clause is what the strip's operation is shown above to do. -/
theorem lanternStrip : Obligations.LanternStrip := by
  unfold Obligations.LanternStrip
  refine ⟨fun b cs x _ hx hc => lanternWord_lt hx hc, fun unscaled cap => ⟨lanternScale_le _ _, lanternScale_power _ _⟩,
    fun b k ws h => frameBits_length b k ws h, ?_⟩
  intro s dt u
  have e : s.pass dt = u := rfl
  clear_value u
  refine ⟨fun differs hq hr hf => ⟨_, ?frame, u.frame_spec differs⟩, fun m hm hr => ?now, u.startProbe_spec, fun hs ht => ?periodic, fun hs ht => ?retry,
    fun h0 h5 hn => ?short, fun count h1 => ⟨_, ?complete, u.probeResult_spec count⟩, fun m g hm hr => ?engines, fun g hs hrun ht => ?runEnd⟩
  case frame => exact (event_at e (by rw [hq, hr, hf]; rfl) : execLanternFrame dt differs s = _)
  case now =>
    obtain ⟨ho, hv, -⟩ := lanternRows
    subst e
    exact (hostCommand_open hm hr ho hv : execLanternProbeNow dt m s = _)
  case periodic =>
    refine (event_at e ?_ : execLanternPeriodicProbe dt s = _)
    rw [State.elapsed, decide_eq_true ht, Bool.and_true]
    rcases hs with hs | ⟨hs, hz⟩
    · rw [hs]
      rfl
    · rw [hs, hz]
      rfl
  case retry => exact (event_at e (by rw [State.elapsed, hs, decide_eq_true ht]; rfl) : execLanternShortRetry dt s = _)
  case short =>
    exact (event_at e (by rw [decide_eq_true h0, decide_eq_true h5]; rfl) : execLanternOutputShort dt s = _).trans (congrArg _ (if_neg hn))
  case complete => exact (event_at e (decide_eq_true h1) : execLanternProbeComplete dt count s = _)
  case engines =>
    obtain ⟨-, -, rows⟩ := lanternRows
    obtain ⟨ho12, ho13, hv13, ho14, hv14⟩ := rows g
    subst e
    refine ⟨⟨_, (hostCommand_open hm hr ho13 hv13 : execLanternEngineStart dt m g s = _), fun h => State.askEngine_running h _ _ (by decide),
        fun h => State.askStart_still g h⟩,
      ⟨_, (hostCommand_open hm hr ho14 hv14 : execLanternEngineStop dt m g s = _), fun h => State.askEngine_running h _ _ (by decide),
        fun h => State.askStop_still g h⟩, fun px hpx => ?_⟩
    have hx : exec (.locateTargetWrite dt m g px) s = .next ((opLocate g px (s.pass dt)).1.answer m (0x4E20 + g) 0x12 (opLocate g px (s.pass dt)).2) :=
      (hostCommand_open hm hr ho12 (locateVerdict g hpx) : execLocateTargetWrite dt m g px s = _)
    refine ⟨fun h => by rw [hx, opLocate_none _ h], fun q h => ⟨fun hq => ?_, fun h1 h2 => ?_⟩⟩
    · rw [hx, opLocate_some _ h, if_pos hq]
    · rw [hx, opLocate_some _ h, if_neg (by omega)]
  case runEnd =>
    exact (event_at e (by rw [decide_eq_true hs, decide_eq_true hrun, decide_eq_true ht]; rfl) : execLanternEngineRunEnd dt g s = _)

end Sys2Proof
end
section
/-! ## Auxiliary passes, triggers and urgent requests (O40) -/
set_option Elab.async false
namespace Sys2Proof.Machine

theorem auxTypes : tyAt 0x5000 9 = .u32 ∧ tyAt 0x5000 0xA = .u32 ∧ tyAt 0x5000 0xD = .u32 ∧ tyAt 0x5000 0xE = .u32 ∧ tyAt 0x5000 0xF = .u32 := by
  decide +kernel

theorem auxRows : rowOpen 0x5000 3 = true ∧ verdict 0x5000 3 1 = .keep 1 ∧ rowOpen 0x5000 5 = true := by decide +kernel

theorem urgentVerdict (mask : BitVec 32) : verdict 0x5000 5 mask.toNat = .keep mask.toNat := by
  rw [verdict_of (show rowShape 0x5000 5 = some (.wo, .always, .any, .u32) from rfl)]
  refine if_pos ?_
  have := mask.isLt
  simp only [Ty.fits]
  refine decide_eq_true ?_
  rw [Ty.wrap_u32]
  omega

/-! ### Passes and triggers (R333) -/

section
variable (s : State)

theorem State.endExcitation_spec (l : List Nat) : (s.endExcitation l).dict = s.dict ∧ (s.endExcitation l).ev = s.ev ∧ (s.endExcitation l).now = s.now ∧
    (s.endExcitation l).aux = { s.aux with slots := (s.endExcitation l).aux.slots } := by
  unfold State.endExcitation
  refine State.each_keep (fun t => t.dict = s.dict ∧ t.ev = s.ev ∧ t.now = s.now ∧ t.aux = { s.aux with slots := t.aux.slots }) (fun q _ t h => ?_) s
    ⟨rfl, rfl, rfl, rfl⟩
  split
  · exact h
  · obtain ⟨hd, he, hn, ha⟩ := h
    exact ⟨hd, he, hn, congrArg (fun a : AuxSt => { a with slots := vupd t.aux.slots q (fun x => { x with excited := false }) }) ha⟩

theorem State.startPass_spec : s.startPass.aux.pass = some ⟨s.sequenceList.filter s.slotUsed, s.now, 0, 0⟩ ∧ s.startPass.aux.latch = false ∧
    s.startPass.dict = s.dict :=
  ⟨rfl, rfl, (s.endExcitation_spec _).1⟩

theorem State.auxTrigger_starts {s : State} (h : s.passFree = true) (hl : s.aux.latch = false) : s.auxTrigger = s.startPass :=
  if_pos ⟨h, by rw [hl]; rfl⟩

theorem State.auxTrigger_latched {s : State} (h : s.passFree = false) (hl : s.aux.latch = false) :
    s.auxTrigger = (s.updAux (fun a => { a with latch := true })).bump 0x5000 0xB :=
  (if_neg (fun hc => by rw [h] at hc; exact absurd hc.1 (by decide))).trans (if_pos (by rw [hl]; rfl))

theorem State.auxTrigger_dropped {s : State} (hl : s.aux.latch = true) : s.auxTrigger = (s.bump 0x5000 0xC).raise1 552 0 :=
  (if_neg (fun hc => by rw [hl] at hc; exact absurd hc.2 (by decide))).trans (if_neg (by rw [hl]; decide))

/-! ### Urgent requests (R334) -/

/-- R334: slot `q` joins the urgent queue, if it is named, used and not queued. -/
def joinUrgent (mask q : Nat) (s : State) : State :=
  if bit mask q ∧ s.rd (0x5010 + q) 1 ≠ 255 ∧ !(s.aux.urgent.any (·.1 = q)) then
    s.updAux (fun a => { a with urgent := a.urgent ++ [(q, s.now)] })
  else s

theorem State.urgent_each (mask : Nat) : s.urgent mask = s.each 32 (joinUrgent mask) := rfl

/-- R334: from `s` on, slots of `mask` have joined the urgent queue. -/
structure UrgentJoined (mask : Nat) (s t : State) : Prop where
  queued : s.aux.urgent <+: t.aux.urgent
  dict : t.dict = s.dict
  now : t.now = s.now
  aux : t.aux = { s.aux with urgent := t.aux.urgent }
  new : ∀ p ∈ t.aux.urgent, p ∈ s.aux.urgent ∨ (bit mask p.1 = true ∧ s.slotUsed p.1 = true ∧ p.2 = s.now)

variable {s}

theorem UrgentJoined.join {mask : Nat} {t : State} (h : UrgentJoined mask s t) (q : Nat) : UrgentJoined mask s (joinUrgent mask q t) := by
  unfold joinUrgent
  split
  next hq =>
    obtain ⟨hb, hu, -⟩ := hq
    refine ⟨h.queued.trans (List.prefix_append _ _), h.dict, h.now, ?_, fun p hp => ?_⟩
    · exact congrArg (fun a : AuxSt => { a with urgent := t.aux.urgent ++ [(q, t.now)] }) h.aux
    · rcases List.mem_append.mp hp with hp | hp
      · exact h.new p hp
      · obtain rfl := List.mem_singleton.mp hp
        refine .inr ⟨hb, ?_, h.now⟩
        rw [State.rd_congr h.dict] at hu
        exact decide_eq_true hu
  · exact h

theorem joinUrgent_mono (mask q : Nat) (t : State) : t.aux.urgent <+: (joinUrgent mask q t).aux.urgent := by
  unfold joinUrgent
  split
  · exact List.prefix_append _ _
  · exact List.prefix_rfl

theorem joinUrgent_mem {mask q : Nat} {t : State} (hb : bit mask q = true) (hu : t.slotUsed q = true) : ∃ p ∈ (joinUrgent mask q t).aux.urgent, p.1 = q := by
  unfold joinUrgent
  split
  · exact ⟨_, List.mem_append_right _ (List.mem_singleton.mpr rfl), rfl⟩
  next h =>
    have hin : t.aux.urgent.any (·.1 = q) = true := by
      by_contra hn
      exact h ⟨hb, of_decide_eq_true hu, by rw [Bool.eq_false_iff.mpr hn]; rfl⟩
    obtain ⟨p, hp, he⟩ := List.any_eq_true.mp hin
    exact ⟨p, hp, of_decide_eq_true he⟩

theorem eachOf_joinUrgent_mem {mask q : Nat} (hb : bit mask q = true) : ∀ (l : List Nat) (t : State), q ∈ l → t.slotUsed q = true →
    ∃ p ∈ (t.eachOf l (joinUrgent mask)).aux.urgent, p.1 = q := by
  have hmono (l : List Nat) (t : State) : t.aux.urgent <+: (t.eachOf l (joinUrgent mask)).aux.urgent :=
    State.eachOf_keep (fun x => t.aux.urgent <+: x.aux.urgent) (fun a _ x hx => hx.trans (joinUrgent_mono mask a x)) t List.prefix_rfl
  intro l
  induction l with
  | nil => exact fun _ h => absurd h (by simp)
  | cons a l ih =>
    intro t hm hu
    have hu' : (joinUrgent mask a t).slotUsed q = true := by
      have hd : (joinUrgent mask a t).dict = t.dict := by
        unfold joinUrgent
        split <;> rfl
      rw [State.slotUsed, State.rd_congr hd]
      exact hu
    by_cases hql : q ∈ l
    · exact ih _ hql hu'
    · obtain rfl : q = a := by simpa [hql] using hm
      obtain ⟨p, hp, he⟩ := joinUrgent_mem hb hu
      exact ⟨p, (hmono l _).subset hp, he⟩

variable (s)

theorem State.urgent_spec (mask : Nat) : UrgentJoined mask s (s.urgent mask) := by
  rw [State.urgent_each]
  exact State.each_keep (UrgentJoined mask s) (fun q _ t h => h.join q) s ⟨List.prefix_rfl, rfl, rfl, rfl, fun _ => .inl⟩

theorem State.urgent_mem {mask : Nat} (q : Fin 32) (hb : bit mask q = true) (hu : s.slotUsed q = true) : ∃ p ∈ (s.urgent mask).aux.urgent, p.1 = q.val :=
  eachOf_joinUrgent_mem hb (List.range 32) s (List.mem_range.mpr q.isLt) hu

/-! ### Visits begin, passes end (R332, R333) -/

theorem State.beginVisit_spec (q : Nat) (b : Bool) : ∃ v : Visit, (s.beginVisit q b).aux.visit = some v ∧ v.slot = q ∧ v.urgent = b ∧ v.start = s.now ∧
    v.cfg = s.slotCfg q ∧ (s.beginVisit q b).aux.urgent = s.aux.urgent ∧ (s.beginVisit q b).aux.pass = s.aux.pass ∧ (s.beginVisit q b).dict = s.dict ∧
    (s.beginVisit q b).now = s.now :=
  ⟨_, rfl, rfl, rfl, rfl, rfl, rfl, rfl, rfl, rfl⟩

/-- R334: an urgent visit is counted, and how long it waited. -/
def State.urgentCounted (us : Nat) : State := (s.bump 0x5000 0xD).wr 0x5000 0xF us

theorem State.urgentCounted_spec (us : Nat) : (s.urgentCounted us).aux = s.aux ∧
    (s.urgentCounted us).rd 0x5000 0xD = (s.rd 0x5000 0xD + 1) % 2 ^ 32 ∧ (s.urgentCounted us).rd 0x5000 0xF = (us : Int) % 2 ^ 32 := by
  obtain ⟨-, -, hD, -, hF⟩ := auxTypes
  unfold State.urgentCounted
  have hr : (s.bump 0x5000 0xD).rd 0x5000 0xD = (s.rd 0x5000 0xD + 1) % 2 ^ 32 := by
    rw [State.rd_bump_at (hj := by decide) (hj' := by decide), if_pos ⟨rfl, rfl⟩, hD, Ty.wrap_u32]
    rfl
  have ha := State.bump_aux s 0x5000 0xD 1
  generalize s.bump 0x5000 0xD = a at *
  refine ⟨(State.wr_aux _ _ _ _).trans ha, ?_, ?_⟩
  · rw [State.rd_wr_at _ _ (by decide) (by decide), if_neg (by decide), hr]
  · rw [State.rd_wr_self _ _ (by decide), hF, Ty.wrap_u32]

/-- R333: a complete pass is counted, and its time shown. -/
def State.passCounted (us : Nat) : State := (s.wr 0x5000 9 us).bump 0x5000 0xA

theorem State.passCounted_spec (us : Nat) : (s.passCounted us).rd 0x5000 0xA = (s.rd 0x5000 0xA + 1) % 2 ^ 32 ∧
    (s.passCounted us).rd 0x5000 9 = (us : Int) % 2 ^ 32 := by
  obtain ⟨h9, hA, -⟩ := auxTypes
  unfold State.passCounted
  have h1 : (s.wr 0x5000 9 (us : Int)).rd 0x5000 9 = (us : Int) % 2 ^ 32 := by rw [State.rd_wr_self _ _ (by decide), h9, Ty.wrap_u32]
  have h2 : (s.wr 0x5000 9 (us : Int)).rd 0x5000 0xA = s.rd 0x5000 0xA := by rw [State.rd_wr_at _ _ (by decide) (by decide), if_neg (by decide)]
  generalize s.wr 0x5000 9 (us : Int) = a at *
  refine ⟨?_, ?_⟩
  · rw [State.rd_bump_at (hj := by decide) (hj' := by decide), if_pos ⟨rfl, rfl⟩, hA, Ty.wrap_u32, h2]
    rfl
  · rw [State.rd_bump_at (hj := by decide) (hj' := by decide), if_neg (by decide), h1]

theorem State.passEnd_eq {s : State} {p : Pass} (h : s.aux.pass = some p) (hp : p.todo = []) : ∃ (capped : Bool) (wait : Nat),
    (s.now - p.start) / 1000 ≤ wait ∧ s.passEnd = ((s.passCounted ((s.now - p.start) / 1000)).raiseIf (capped && !(s.passCounted ((s.now - p.start) / 1000)).aux.capTold) 562 0).updAux
      (fun a => { a with pass := none, capTold := capped, lastEnergy := p.energy, lastSteady := p.steady, lastUs := (s.now - p.start) / 1000, after := p.start + wait * 1000 }) := by
  unfold State.passEnd
  rw [h]
  dsimp only
  rw [hp]
  exact ⟨_, _, Nat.le_max_left _ _, rfl⟩

theorem State.passEnd_spec {s : State} {p : Pass} (h : s.aux.pass = some p) (hp : p.todo = []) : let t := s.passEnd
    t.aux.pass = none ∧ t.rd 0x5000 0xA = (s.rd 0x5000 0xA + 1) % 2 ^ 32 ∧ t.rd 0x5000 9 = ((s.now - p.start) / 1000 : Nat) % 2 ^ 32 ∧
      p.start + (s.now - p.start) / 1000 * 1000 ≤ t.aux.after := by
  obtain ⟨capped, wait, hle, e⟩ := State.passEnd_eq h hp
  dsimp only
  rw [e]
  obtain ⟨hA, h9⟩ := s.passCounted_spec ((s.now - p.start) / 1000)
  generalize s.passCounted ((s.now - p.start) / 1000) = a at *
  have hw : Writes (fun i _ => i = 0x2800 + 562) a (a.raiseIf (capped && !a.aux.capTold) 562 0) := (Writes.refl _ a).raiseIf (fun _ => rfl)
  generalize a.raiseIf (capped && !a.aux.capTold) 562 0 = b at *
  refine ⟨rfl, ?_, ?_, Nat.add_le_add_left (Nat.mul_le_mul_right _ hle) _⟩
  · exact (State.rd_congr rfl _ _).trans ((hw.rd (by decide) (by decide)).trans hA)
  · exact (State.rd_congr rfl _ _).trans ((hw.rd (by decide) (by decide)).trans h9)

end

/-- AUX_VISIT_START (R332, R334): the visit that begins. -/
def State.nextVisit (s : State) : State :=
  match s.aux.urgent with
  | (q, a) :: r => ((s.updAux (fun x => { x with urgent := r })).beginVisit q true).urgentCounted
      ((((s.updAux (fun x => { x with urgent := r })).beginVisit q true).now - a) / 1000)
  | [] => match s.aux.pass with
    | some p => match p.todo with
      | q :: r => if s.seqMode = 0 then (s.updAux (fun a => { a with pass := none })).endExcitation []
        else (s.updAux (fun a => { a with pass := some { p with todo := r } })).beginVisit q false
      | [] => s.passEnd
    | none => s

theorem exec_auxVisitStart {s u : State} {dt : Nat} (e : s.pass dt = u) (hq : u.queuesRun = true) (hv : u.aux.visit = none) :
    exec (.auxVisitStart dt) s = .next u.nextVisit := by
  refine (event_at e (by rw [hq, hv]; rfl) : execAuxVisitStart dt s = _).trans (congrArg _ ?_)
  unfold State.nextVisit
  rfl

theorem State.nextVisit_urgent {s : State} {q a : Nat} {r : List (Nat × Nat)} (h : s.aux.urgent = (q, a) :: r) : s.nextVisit =
    ((s.updAux (fun x => { x with urgent := r })).beginVisit q true).urgentCounted ((s.now - a) / 1000) := by
  unfold State.nextVisit
  rw [h]
  rfl

theorem State.nextVisit_pass {s : State} {p : Pass} {q : Nat} {r : List Nat} (h : s.aux.urgent = []) (hp : s.aux.pass = some p) (ht : p.todo = q :: r)
    (hm : s.seqMode ≠ 0) : s.nextVisit = (s.updAux (fun a => { a with pass := some { p with todo := r } })).beginVisit q false := by
  unfold State.nextVisit
  rw [h, hp]
  dsimp only
  rw [ht]
  exact if_neg hm

theorem State.nextVisit_none {s : State} (h : s.aux.urgent = []) (hp : s.aux.pass = none) : s.nextVisit = s := by
  unfold State.nextVisit
  rw [h, hp]

end Sys2Proof.Machine
namespace Sys2Proof
open Machine

/-- Settles O40: each clause is what the auxiliary block's operation is shown above to do. -/
theorem auxiliarySequence : Obligations.AuxiliarySequence := by
  unfold Obligations.AuxiliarySequence
  intro s dt u
  have e : s.pass dt = u := rfl
  clear_value u
  refine ⟨u.startPass_spec, fun hq hf hm => ?start, ⟨State.auxTrigger_starts, State.auxTrigger_latched, State.auxTrigger_dropped⟩,
    fun hq hm ht => ?periodic, fun m hm hr => ?host, fun mask => ?urgent, fun hq hv => ⟨fun q a r h => ?first, fun p q r hu hp ht hm => ?next, fun hu hp => ?none⟩,
    fun p hp ht => State.passEnd_spec hp ht⟩
  case start =>
    refine (event_at e ?_ : execAuxPassStart dt s = _)
    rw [hq, hf]
    rcases hm with hm | ⟨hm, hl⟩
    · rw [hm]
      rfl
    · rw [hl, decide_eq_true hm, Bool.and_true, Bool.or_true]
      rfl
  case periodic => exact (event_at e (by rw [hq, hm, decide_eq_true ht]; rfl) : execAuxPeriodicTrigger dt s = _)
  case host =>
    obtain ⟨ho3, hv3, ho5⟩ := auxRows
    subst e
    have hx : exec (.auxSoftwareTrigger dt m) s = .next ((opAuxTrigger 1 (s.pass dt)).1.answer m 0x5000 3 (opAuxTrigger 1 (s.pass dt)).2) :=
      (hostCommand_open hm hr ho3 hv3 : execAuxSoftwareTrigger dt m s = _)
    refine ⟨fun h => ?_, fun h hq => ?_, fun h hq => ?_, fun mask => ?_⟩
    · rw [hx, opAuxTrigger, if_pos h]
    · rw [hx, opAuxTrigger, if_neg (not_not.mpr h), if_pos (by rw [hq]; rfl)]
    · rw [hx, opAuxTrigger, if_neg (not_not.mpr h), if_neg (by rw [hq]; decide)]
    · exact (hostCommand_open hm hr ho5 (urgentVerdict mask) : execAuxUrgentRequest dt m mask s = _)
  case urgent =>
    have h := u.urgent_spec mask
    exact ⟨h.queued, h.dict, h.aux, fun q hb hu => u.urgent_mem q hb hu, h.new⟩
  case first =>
    have hx := exec_auxVisitStart e hq hv
    rw [State.nextVisit_urgent h] at hx
    have hr0 (i j : Nat) : (u.updAux (fun x => { x with urgent := r })).rd i j = u.rd i j := State.rd_congr rfl i j
    have hu0 : (u.updAux (fun x => { x with urgent := r })).aux.urgent = r := rfl
    have hn0 : (u.updAux (fun x => { x with urgent := r })).now = u.now := rfl
    have hc0 : (u.updAux (fun x => { x with urgent := r })).slotCfg q = u.slotCfg q := rfl
    generalize u.updAux (fun x => { x with urgent := r }) = b at *
    obtain ⟨v, hvis, hsl, hur, hst, hcf, huu, -, hd, -⟩ := b.beginVisit_spec q true
    generalize b.beginVisit q true = c at *
    obtain ⟨ha, hD, hF⟩ := c.urgentCounted_spec ((u.now - a) / 1000)
    exact ⟨_, v, hx, by rw [ha, hvis], hsl, hur, hst.trans hn0, hcf.trans hc0, by rw [ha, huu, hu0], by rw [hD, State.rd_congr hd, hr0], hF⟩
  case next =>
    have hx := exec_auxVisitStart e hq hv
    rw [State.nextVisit_pass hu hp ht hm] at hx
    obtain ⟨v, hvis, hsl, hur, hst, -, -, hpa, hd, -⟩ := (u.updAux (fun a => { a with pass := some { p with todo := r } })).beginVisit_spec q false
    exact ⟨_, v, hx, hvis, hsl, hur, hst, hpa, hd⟩
  case none =>
    have hx := exec_auxVisitStart e hq hv
    rwa [State.nextVisit_none hu hp] at hx

end Sys2Proof
end
section
/-! ## The result of a slot (O41) -/
set_option Elab.async false
namespace Sys2Proof.Machine

theorem slotTypes : ∀ q : Fin 32, tyAt (0x5080 + q) 1 = .u32 ∧ tyAt (0x5080 + q) 5 = .u32 := by decide +kernel

theorem outTypes : ∀ a : Fin 4, tyAt (0x5100 + a) 7 = .u16 ∧ tyAt (0x5100 + a) 8 = .u8 := by decide +kernel

/-! ### Curves (R340) -/

theorem lastTrue_between (p : Int → Bool) : ∀ (n : Nat) {lo hi : Int}, lo ≤ hi → lo ≤ lastTrue p n lo hi ∧ lastTrue p n lo hi ≤ hi
  | 0, lo, hi, h => ⟨Int.le_refl lo, h⟩
  | n + 1, lo, hi, h => by
    unfold lastTrue
    split
    · exact ⟨Int.le_refl lo, h⟩
    · dsimp only
      split
      · have := lastTrue_between p n (lo := (lo + hi + 1) / 2) (hi := hi) (by omega)
        omega
      · have := lastTrue_between p n (lo := lo) (hi := (lo + hi + 1) / 2 - 1) (by omega)
        omega

theorem platinumTemp_between {ratio : Rat} {v : Int} (h : platinumTemp ratio = .value v ∨ platinumTemp ratio = .saturated v) : -200000 ≤ v ∧ v ≤ 850000 := by
  unfold platinumTemp at h
  dsimp only at h
  split at h
  · obtain rfl : v = -200000 := by simpa [eq_comm] using h
    decide
  · split at h
    · obtain rfl : v = 850000 := by simpa [eq_comm] using h
      decide
    · have hb := lastTrue_between (fun t => decide ((platinum t : Rat) ≤ ratio * (10 : Rat) ^ (27 : Nat))) 21 (lo := -200000) (hi := 850000) (by decide)
      generalize lastTrue (fun t => decide ((platinum t : Rat) ≤ ratio * (10 : Rat) ^ (27 : Nat))) 21 (-200000) 850000 = t at h hb
      split at h
      next hc =>
        obtain rfl : v = t + 1 := by simpa [eq_comm] using h
        omega
      · obtain rfl : v = t := by simpa [eq_comm] using h
        exact hb

theorem coupleRange_le (curve : Int) : (coupleRange curve).1 ≤ (coupleRange curve).2 := by
  unfold coupleRange
  split
  · decide
  · split <;> decide

theorem coupleTemp_between {curve cold v : Int} {uv : Rat} (h : coupleTemp curve uv cold = .value v ∨ coupleTemp curve uv cold = .saturated v) :
    (coupleRange curve).1 ≤ v ∧ v ≤ (coupleRange curve).2 := by
  have hr := coupleRange_le curve
  unfold coupleTemp at h
  dsimp only at h
  generalize coupleRange curve = r at h hr ⊢
  split at h
  · obtain rfl : v = r.1 := by simpa [eq_comm] using h
    exact ⟨Int.le_refl _, hr⟩
  · split at h
    · obtain rfl : v = r.2 := by simpa [eq_comm] using h
      exact ⟨hr, Int.le_refl _⟩
    · generalize Config.thermoTemp curve.toNat (roundRat (uv * 1000) + Config.thermoVolts curve.toNat cold) = x at h
      obtain rfl : v = limit r.1 r.2 x := by simpa [eq_comm] using h
      exact limit_between hr x

/-! ### Thermistors and outputs behind a slot (R118 to R120, R305, R344) -/

/-- What the consumers of a result write. -/
def consumerEntry (i j : Nat) : Prop := i = 0x4044 ∨ i = 0x4045 ∨ i = 0x2800 + 843 ∨ (∃ g : Fin 8, heatEntry g i j) ∨ (0x5100 ≤ i ∧ i < 0x5104)

theorem not_consumerEntry {i j : Nat} (h : 0x5000 ≤ i) (h' : i < 0x5100) : ¬ consumerEntry i j := by
  rintro (h | h | h | ⟨g, h⟩ | h)
  · omega
  · omega
  · omega
  · have := g.isLt
    unfold heatEntry cancelledEntry droppedArmEntry at h
    omega
  · omega

section
variable {P : Nat → Nat → Prop} {s t : State}

theorem Writes.segsOfTh (h : Writes P s t) (hp : ∀ i j, consumerEntry i j → P i j) (k : Nat) : Writes P s (t.segsOfTh k) := by
  refine h.each (fun g hg t h => .ite ?_ h)
  unfold State.segUpdate
  split
  · exact (h.wr (by omega) (hp _ _ (.inl rfl))).wr (by omega) (hp _ _ (.inr (.inl rfl)))
  · exact .ite ((h.wr (by omega) (hp _ _ (.inr (.inl rfl)))).raise1 (fun j => hp _ j (.inr (.inr (.inl rfl))))) h

theorem Writes.thResult (h : Writes P s t) (hp : ∀ i j, consumerEntry i j → P i j) (q : Nat) (b : Bool) (v : Int) : Writes P s (t.thResult q b v) := by
  refine h.each (fun k _ t h => .ite ?_ h)
  refine Writes.ite (Writes.segsOfTh ?_ hp k) ?_
  · exact h.eq rfl rfl
  · exact h.eq rfl rfl

theorem Writes.lampsOfTh (h : Writes P s t) (hp : ∀ i j, consumerEntry i j → P i j) (k : Nat) : Writes P s (t.lampsOfTh k) :=
  h.each (fun j hj t h => .ite (h.trans ((t.lampThermal_writes ⟨j, hj⟩).mono (fun i l h => hp i l (.inr (.inr (.inr (.inl ⟨⟨j, hj⟩, h⟩))))))) h)

theorem Writes.outFail (h : Writes P s t) {a : Nat} (hp : ∀ j, P (0x5100 + a) j) : Writes P s (t.outFail a) := by
  unfold State.outFail
  dsimp only
  have h1 (v : Int) (c : Prop) [Decidable c] : Writes P s (if c then t else t.wr (0x5100 + a) 7 v) := .ite h (h.wr (by decide) (hp 7))
  exact .ite ((h1 _ _).wr (by decide) (hp 8)) (h1 _ _)

theorem Writes.outsOf (h : Writes P s t) (hp : ∀ i j, consumerEntry i j → P i j) (q : Nat) (b : Bool) (v : Int) : Writes P s (t.outsOf q b v) := by
  refine h.each (fun a ha t h => ?_)
  have hpa (j : Nat) : P (0x5100 + a) j := hp _ j (.inr (.inr (.inr (.inr ⟨by omega, by omega⟩))))
  exact .ite (.ite (Writes.eq (.ite ((h.wr (by decide) (hpa 7)).wr (by decide) (hpa 8)) (h.wr (by decide) (hpa 7))) rfl rfl) (h.outFail hpa)) h

theorem State.outFail_aux (s : State) (a : Nat) : (s.outFail a).aux = s.aux := (State.outFail_keeps (.refl .aux s) rfl a).same

theorem State.outsOf_aux (s : State) (q : Nat) (b : Bool) (v : Int) : (s.outsOf q b v).aux = { s.aux with outs := (s.outsOf q b v).aux.outs } := by
  unfold State.outsOf
  refine State.each_keep (fun t => t.aux = { s.aux with outs := t.aux.outs }) (fun a _ t h => ?_) s rfl
  split
  · split
    · dsimp only
      have h1 : (t.wr (0x5100 + a) 7 (t.outFraction a v)).aux = t.aux := State.wr_aux _ _ _ _
      generalize t.wr (0x5100 + a) 7 (t.outFraction a v) = b at *
      have h2 : (if b.rd (0x5100 + a) 8 = 2 then b.wr (0x5100 + a) 8 1 else b).aux = t.aux := by
        split
        · exact (State.wr_aux _ _ _ _).trans h1
        · exact h1
      generalize (if b.rd (0x5100 + a) 8 = 2 then b.wr (0x5100 + a) 8 1 else b) = c at *
      rw [← h2] at h
      exact congrArg (fun x : AuxSt => { x with outs := vupd c.aux.outs a (fun o => { o with last := c.now }) }) h
    · rw [State.outFail_aux]
      exact h
  · exact h

end

/-! ### A result is published (R340 to R342) -/

/-- What a result of slot `q` writes. -/
def resultEntry (q i j : Nat) : Prop := i = 0x5080 + q ∨ (i = 0x5010 + q ∧ j = 0x12) ∨ i = 0x2800 + 554 ∨ i = 0x2800 + 555 ∨ consumerEntry i j

/-- R341, R342: the events of a result. -/
def State.resultTold (s : State) (cold beyond : Bool) : State := (s.raiseIf cold 555 0).raiseIf beyond 554 0

/-- R342: slot `q` takes a result. -/
def State.resultTaken (s : State) (q flags : Nat) (x1 x2 x3 x5 : Int) : State :=
  (s.publish (0x5080 + q) flags [x1, x2, x3, (s.fine % 2 ^ 32 : Nat), x5]).updSlot q (fun y => { y with
    stamp := (s.publish (0x5080 + q) flags [x1, x2, x3, (s.fine % 2 ^ 32 : Nat), x5]).now })

/-- R118, R305: slot `q`'s thermistors and the lamp groups that use them take a result. -/
def State.resultUsed (s : State) (q : Nat) (usable : Bool) (v : Int) : State :=
  (s.thResult q usable v).each 16 (fun k s => if s.rdN 0x4040 (k + 1) = q then s.lampsOfTh k else s)

/-- R118, R305, R344: slot `q`'s consumers take its result. -/
def State.resultFed (s : State) (q : Nat) (th usable : Bool) : State :=
  (s.resultUsed q th (s.rd (0x5080 + q) 2)).outsOf q usable ((s.resultUsed q th (s.rd (0x5080 + q) 2)).rd (0x5080 + q) 2)

theorem State.result_eq (s : State) (q : Nat) (cfg : List Int) (d : Sampled) (unsettled urgent sleeping forced : Bool) :
    ∃ (cold beyond th usable : Bool) (flags : Nat) (x1 x2 x3 x5 st : Int), s.result q cfg d unsettled urgent sleeping forced =
      (((s.resultTold cold beyond).resultTaken q flags x1 x2 x3 x5).wr (0x5010 + q) 0x12 st).resultFed q th usable := by
  unfold State.result
  dsimp only
  cases decide (periodUs (cfg.getD 9 0).toNat * 10 ≤ d.held ∧ 0 < periodUs (cfg.getD 9 0).toNat * 10)
  · exact ⟨_, _, _, _, _, _, _, _, _, _, rfl⟩
  · exact ⟨_, _, _, _, _, _, _, _, _, _, rfl⟩

section
variable (s : State)

theorem State.resultTold_spec (cold beyond : Bool) : let t := s.resultTold cold beyond
    Writes (fun i _ => i = 0x2800 + 554 ∨ i = 0x2800 + 555) s t ∧ t.aux = s.aux ∧ t.now = s.now ∧ t.fine = s.fine := by
  have keep {p : Part} (hp : Off p 0x24) : p.Same s (s.resultTold cold beyond) :=
    (State.raiseIf_keeps (State.raiseIf_keeps (.refl p s) hp cold 555 0) hp beyond 554 0).same
  have hn : (s.resultTold cold beyond).now = s.now := keep (p := .now) rfl
  have hc : (s.resultTold cold beyond).compassOff = s.compassOff := keep (p := .compassOff) rfl
  have ha : (s.resultTold cold beyond).aux = s.aux := keep (p := .aux) rfl
  exact ⟨((Writes.refl _ s).raiseIf (fun _ => .inr rfl)).raiseIf (fun _ => .inl rfl), ha, hn, State.fine_congr hn hc⟩

theorem State.publish_five (idx flags : Nat) (x1 x2 x3 x4 x5 : Int) : (s.publish idx flags [x1, x2, x3, x4, x5]).rd idx 5 = (tyAt idx 5).wrap x4 := by
  unfold State.publish
  generalize s.wr idx 1 (flags * 2 ^ 24 + nextResult (s.rdN idx 1)) = a
  have h : (a.wrAll idx 2 [x1, x2, x3, x4, x5]).rd idx 5 = (tyAt idx 5).wrap x4 := by
    simp only [State.wrAll, Nat.reduceAdd]
    generalize ((a.wr idx 2 x1).wr idx 3 x2).wr idx 4 x3 = b
    rw [State.rd_wr_at _ _ (by decide) (by decide), if_neg (by omega), State.rd_wr_self _ _ (by decide)]
  refine (State.rd_congr ?_ _ _).trans h
  rfl

theorem State.publish_fresh (idx flags : Nat) (vals : List Int) (m : Fin 17) : (s.publish idx flags vals).isFresh m idx = true := by
  unfold State.isFresh State.publish
  rw [Store.find_put, if_pos rfl]
  revert m
  decide

theorem State.slot_updSlot {q : Nat} (hq : q < 32) (f : AuxSlot → AuxSlot) : (s.updSlot q f).slot q = f (s.slot q) :=
  (vget_vupd _ _ _ _).trans (if_pos ⟨rfl, hq⟩)

theorem State.resultTaken_spec (q : Fin 32) (flags : Nat) (x1 x2 x3 x5 : Int) : let t := s.resultTaken q flags x1 x2 x3 x5
    Writes (fun i _ => i = 0x5080 + q.val) s t ∧ t.aux = { s.aux with slots := vupd s.aux.slots q (fun y => { y with stamp := s.now }) } ∧
      t.rdN (0x5080 + q) 1 % 2 ^ 24 = nextResult (s.rdN (0x5080 + q) 1) ∧ t.rd (0x5080 + q) 5 = (s.fine : Int) % 2 ^ 32 ∧
      ∀ m : Fin 17, t.isFresh m (0x5080 + q) = true := by
  obtain ⟨h1, h5⟩ := slotTypes q
  dsimp only
  unfold State.resultTaken
  have hw : Writes (fun i _ => i = 0x5080 + q.val) s (s.publish (0x5080 + q) flags [x1, x2, x3, (s.fine % 2 ^ 32 : Nat), x5]) :=
    (Writes.refl _ s).publish (by simp) (fun _ => rfl)
  have ha : (s.publish (0x5080 + q) flags [x1, x2, x3, (s.fine % 2 ^ 32 : Nat), x5]).aux = s.aux := (State.publish_keeps (.refl .aux s) rfl _ _ _).same
  have hn : (s.publish (0x5080 + q) flags [x1, x2, x3, (s.fine % 2 ^ 32 : Nat), x5]).now = s.now := (State.publish_keeps (.refl .now s) rfl _ _ _).same
  have hx := s.publish_next h1 flags (vals := [x1, x2, x3, (s.fine % 2 ^ 32 : Nat), x5]) (by simp)
  have ht := s.publish_five (0x5080 + q) flags x1 x2 x3 (s.fine % 2 ^ 32 : Nat) x5
  have hf := s.publish_fresh (0x5080 + q) flags [x1, x2, x3, (s.fine % 2 ^ 32 : Nat), x5]
  generalize s.publish (0x5080 + q) flags [x1, x2, x3, (s.fine % 2 ^ 32 : Nat), x5] = a at *
  refine ⟨hw.eq rfl rfl, ?_, hx, ?_, hf⟩
  · rw [← ha, ← hn]
    rfl
  · refine (State.rd_congr rfl _ _).trans (ht.trans ?_)
    rw [h5, Ty.wrap_u32]
    omega

theorem State.resultFed_spec (q : Nat) (th usable : Bool) : let t := s.resultFed q th usable
    Writes consumerEntry s t ∧ t.door = s.door ∧ t.now = s.now ∧ t.aux = { s.aux with outs := t.aux.outs } := by
  dsimp only
  unfold State.resultFed
  generalize s.rd (0x5080 + q) 2 = v
  have hw : Writes consumerEntry s (s.resultUsed q th v) :=
    ((Writes.refl _ s).thResult (fun _ _ h => h) q th v).each (fun k _ t h => .ite (h.lampsOfTh (fun _ _ h => h) k) h)
  have keep {p : Part} (hp : Off p 0x1070a4) : p.Same s (s.resultUsed q th v) :=
    (Keeps.each (State.thResult_keeps (.refl p s) (hp.sub rfl) q th v) (fun k t h => .ite (State.lampsOfTh_keeps h (hp.sub rfl) k) h)).same
  have hd : (s.resultUsed q th v).door = s.door := keep (p := .door) rfl
  have hn : (s.resultUsed q th v).now = s.now := keep (p := .now) rfl
  have ha : (s.resultUsed q th v).aux = s.aux := keep (p := .aux) rfl
  generalize s.resultUsed q th v = a at *
  generalize a.rd (0x5080 + q) 2 = x
  have hd2 : (a.outsOf q usable x).door = a.door := (State.outsOf_keeps (.refl .door a) rfl _ _ _).same
  have hn2 : (a.outsOf q usable x).now = a.now := (State.outsOf_keeps (.refl .now a) rfl _ _ _).same
  have ha2 := a.outsOf_aux q usable x
  rw [ha] at ha2
  exact ⟨hw.outsOf (fun _ _ h => h) q usable x, hd2.trans hd, hn2.trans hn, ha2⟩

/-- R340 to R344: the result of slot `q`. -/
theorem State.result_spec (q : Fin 32) (cfg : List Int) (d : Sampled) (unsettled urgent sleeping forced : Bool) :
    let t := s.result q cfg d unsettled urgent sleeping forced
    Writes (resultEntry q) s t ∧ t.now = s.now ∧
      (∃ outs, t.aux = { s.aux with outs := outs, slots := vupd s.aux.slots q (fun y => { y with stamp := s.now }) }) ∧
      t.rdN (0x5080 + q) 1 % 2 ^ 24 = nextResult (s.rdN (0x5080 + q) 1) ∧ t.rd (0x5080 + q) 5 = (s.fine : Int) % 2 ^ 32 ∧
      ∀ m : Fin 17, t.isFresh m (0x5080 + q) = true := by
  have hq := q.isLt
  obtain ⟨cold, beyond, th, usable, flags, x1, x2, x3, x5, st, e⟩ := s.result_eq q cfg d unsettled urgent sleeping forced
  dsimp only
  have hn : (s.result q cfg d unsettled urgent sleeping forced).now = s.now := (State.result_keeps (.refl .now s) rfl _ _ _ _ _ _ _).same
  rw [e] at hn ⊢
  obtain ⟨hw1, ha1, hn1, hf1⟩ := s.resultTold_spec cold beyond
  generalize s.resultTold cold beyond = a at *
  obtain ⟨hw2, ha2, hx2, ht2, hfr2⟩ := a.resultTaken_spec q flags x1 x2 x3 x5
  generalize a.resultTaken q flags x1 x2 x3 x5 = b at *
  have hw3 : Writes (fun i j => i = 0x5010 + q.val ∧ j = 0x12) b (b.wr (0x5010 + q) 0x12 st) := (Writes.refl _ b).wr (by decide) ⟨rfl, rfl⟩
  have ha3 := State.wr_aux b (0x5010 + q) 0x12 st
  have hd3 := State.wr_door b (0x5010 + q) 0x12 st
  generalize b.wr (0x5010 + q) 0x12 st = c at *
  obtain ⟨hw4, hd4, -, ha4⟩ := c.resultFed_spec q th usable
  generalize c.resultFed q th usable = t at *
  have hrd (j : Nat) (hj : j < 256) : t.rd (0x5080 + q) j = b.rd (0x5080 + q) j :=
    (hw4.rd hj (not_consumerEntry (by omega) (by omega))).trans (hw3.rd hj (by omega))
  refine ⟨?_, hn, ⟨t.aux.outs, ?_⟩, ?_, ?_, fun m => ?_⟩
  · refine (hw1.mono fun i j h => ?_).trans ((hw2.mono fun i j h => ?_).trans ((hw3.mono fun i j h => ?_).trans (hw4.mono fun i j h => ?_)))
    · exact .inr (.inr (h.elim .inl (fun h => .inr (.inl h))))
    · exact .inl h
    · exact .inr (.inl h)
    · exact .inr (.inr (.inr (.inr h)))
  · rw [ha4, ha3, ha2, ha1, hn1]
  · rw [State.rdN, hrd _ (by decide), ← State.rdN, hx2, State.rdN, hw1.rd (by decide) (by omega), ← State.rdN]
  · rw [hrd _ (by decide), ht2, hf1]
  · rw [State.isFresh, hd4, hd3]
    exact hfr2 m

end

end Sys2Proof.Machine
end
section
/-! ## Visits, sleeping measurements and outputs (O41) -/
set_option Elab.async false
namespace Sys2Proof.Machine

/-! ### Verdicts (R337, R338) -/

/-- What the verdicts of a visit of slot `q` write. -/
def verdictEntry (q i j : Nat) : Prop := i = 0x2800 + (520 + q) ∨ (i = 0x5000 ∧ j = 0xE) ∨ i = 0x2800 + 553

/-- What a verdict leaves of the auxiliary block: all but the slots. -/
def SlotsOnly (s t : State) : Prop := t.now = s.now ∧ t.fine = s.fine ∧ t.aux = { s.aux with slots := t.aux.slots }

section
variable {s t w : State}

theorem SlotsOnly.refl (s : State) : SlotsOnly s s := ⟨rfl, rfl, rfl⟩

theorem SlotsOnly.trans (h : SlotsOnly s t) (g : SlotsOnly t w) : SlotsOnly s w := by
  obtain ⟨hn, hf, ha⟩ := h
  obtain ⟨gn, gf, ga⟩ := g
  refine ⟨gn.trans hn, gf.trans hf, ?_⟩
  rw [ga, ha]

theorem SlotsOnly.updSlot (s : State) (q : Nat) (f : AuxSlot → AuxSlot) : SlotsOnly s (s.updSlot q f) := ⟨rfl, rfl, rfl⟩

theorem SlotsOnly.of_aux (hn : t.now = s.now) (hc : t.compassOff = s.compassOff) (ha : t.aux = s.aux) : SlotsOnly s t :=
  ⟨hn, State.fine_congr hn hc, by rw [ha]⟩

theorem SlotsOnly.bump (s : State) (i j n : Nat) : SlotsOnly s (s.bump i j n) := .of_aux (State.bump_now _ _ _ _) (State.bump_compassOff _ _ _ _) (State.bump_aux _ _ _ _)

theorem SlotsOnly.raise1 (s : State) (k d : Nat) : SlotsOnly s (s.raise1 k d) :=
  .of_aux (State.raise1_now _ _ _) (State.raise1_compassOff _ _ _) (State.raise1_aux _ _ _)

theorem SlotsOnly.raiseIf (s : State) (c : Bool) (k d : Nat) : SlotsOnly s (s.raiseIf c k d) := by
  unfold State.raiseIf
  split
  · exact .raise1 s k d
  · exact .refl s

end

section
variable (s : State)

theorem State.slot_congr {s t : State} (h : t.aux = s.aux) (q : Nat) : t.slot q = s.slot q := by rw [State.slot, State.slot, h]

theorem State.updSlot_rd (q : Nat) (f : AuxSlot → AuxSlot) (i j : Nat) : (s.updSlot q f).rd i j = s.rd i j := State.rd_congr rfl i j

theorem State.verdictOpen_spec (q : Fin 32) (fails : Bool) : let t := s.verdictOpen q fails
    Writes (fun i _ => i = 0x2800 + (520 + q.val)) s t ∧ SlotsOnly s t ∧ (t.slot q).faulted = (s.slot q).faulted ∧
      (fails = true → s.rd (0x5010 + q) 0xD ≠ 0 → (t.slot q).isOpen = true ∧ ((s.slot q).isOpen = false → t.Presents (520 + q))) := by
  have hq := q.isLt
  dsimp only
  unfold State.verdictOpen
  by_cases h : s.rd (0x5010 + q) 0xD = 0
  · rw [if_pos h]
    exact ⟨.refl _ s, .refl s, rfl, fun _ hn => absurd h hn⟩
  rw [if_neg h]
  cases fails with
  | true =>
    rw [if_pos rfl]
    have hw : Writes (fun i _ => i = 0x2800 + (520 + q.val)) s (s.raiseIf (!(s.slot q).isOpen) (520 + q) 0) := (Writes.refl _ s).raiseIf (fun _ => rfl)
    have hs := SlotsOnly.raiseIf s (!(s.slot q).isOpen) (520 + q) 0
    have ha : (s.raiseIf (!(s.slot q).isOpen) (520 + q) 0).aux = s.aux := (State.raiseIf_keeps (.refl .aux s) rfl _ _ _).same
    have hp : (s.slot q).isOpen = false → (s.raiseIf (!(s.slot q).isOpen) (520 + q) 0).Presents (520 + q) := fun h => by
      rw [h]
      exact s.presents_raise1 (520 + q) 0
    generalize s.raiseIf (!(s.slot q).isOpen) (520 + q) 0 = a at *
    refine ⟨hw.eq rfl rfl, hs.trans (.updSlot a q _), ?_, fun _ _ => ⟨?_, hp⟩⟩
    · rw [State.slot_updSlot _ hq, State.slot_congr ha]
    · rw [State.slot_updSlot _ hq]
  | false =>
    rw [if_neg (by decide)]
    refine ⟨?_, ?_, ?_, fun h => Bool.noConfusion h⟩
    · exact .ite (.ite ((Writes.refl _ s).eq rfl rfl) ((Writes.refl _ s).eq rfl rfl)) (.refl _ s)
    · split
      · split
        · exact .updSlot s q _
        · exact .updSlot s q _
      · exact .refl s
    · split
      · split
        · rw [State.slot_updSlot _ hq]
        · rw [State.slot_updSlot _ hq]
      · rfl

/-- R338: an excitation fault is counted and told. -/
def State.faultTold : State := (s.bump 0x5000 0xE).raise1 553 0

theorem State.faultTold_spec : let t := s.faultTold
    Writes (fun i j => (i = 0x5000 ∧ j = 0xE) ∨ i = 0x2800 + 553) s t ∧ SlotsOnly s t ∧ t.aux = s.aux ∧
      t.rd 0x5000 0xE = (s.rd 0x5000 0xE + 1) % 2 ^ 32 ∧ t.Presents 553 := by
  obtain ⟨-, -, -, hE, -⟩ := auxTypes
  dsimp only
  unfold State.faultTold
  have hw : Writes (fun i j => (i = 0x5000 ∧ j = 0xE) ∨ i = 0x2800 + 553) s (s.bump 0x5000 0xE) := (Writes.refl _ s).bump (by decide) (.inl ⟨rfl, rfl⟩)
  have hr : (s.bump 0x5000 0xE).rd 0x5000 0xE = (s.rd 0x5000 0xE + 1) % 2 ^ 32 := by
    rw [State.rd_bump_at (hj := by decide) (hj' := by decide), if_pos ⟨rfl, rfl⟩, hE, Ty.wrap_u32]
    rfl
  have hs := SlotsOnly.bump s 0x5000 0xE 1
  have ha := State.bump_aux s 0x5000 0xE 1
  generalize s.bump 0x5000 0xE = a at *
  have hw2 : Writes (fun i _ => i = 0x2800 + 553) a (a.raise1 553 0) := (Writes.refl _ a).raise1 (fun _ => rfl)
  exact ⟨hw.raise1 (fun _ => .inr rfl), hs.trans (.raise1 a 553 0), (State.raise1_aux _ _ _).trans ha, by rw [hw2.rd (by decide) (by decide), hr],
    a.presents_raise1 553 0⟩

theorem State.verdictFault_spec (v : Visit) (hq : v.slot < 32) (fails : Bool) : let t := s.verdictFault v fails
    Writes (fun i j => (i = 0x5000 ∧ j = 0xE) ∨ i = 0x2800 + 553) s t ∧ SlotsOnly s t ∧ (t.slot v.slot).isOpen = (s.slot v.slot).isOpen ∧
      (fails = true → v.dark = false → t.rd 0x5000 0xE = (s.rd 0x5000 0xE + 1) % 2 ^ 32 ∧ (t.slot v.slot).faulted = true ∧ t.Presents 553) := by
  obtain ⟨hw, hs, ha, hE, hp⟩ := s.faultTold_spec
  dsimp only
  unfold State.verdictFault
  cases hd : v.dark with
  | true => exact ⟨.refl _ s, .refl s, rfl, fun _ h => Bool.noConfusion h⟩
  | false =>
    rw [if_neg (by decide)]
    cases fails with
    | true =>
      rw [if_pos rfl]
      rw [show (s.bump 0x5000 0xE).raise1 553 0 = s.faultTold from rfl]
      generalize s.faultTold = a at *
      refine ⟨hw.eq rfl rfl, hs.trans (.updSlot a _ _), ?_, fun _ _ => ⟨(State.updSlot_rd _ _ _ _ _).trans hE, ?_, hp⟩⟩
      · rw [State.slot_updSlot _ hq, State.slot_congr ha]
      · rw [State.slot_updSlot _ hq]
    | false =>
      rw [if_neg (by decide)]
      refine ⟨.ite ((Writes.refl _ s).eq rfl rfl) (.refl _ s), ?_, ?_, fun h => Bool.noConfusion h⟩
      · split
        · exact .updSlot s _ _
        · exact .refl s
      · split
        · rw [State.slot_updSlot _ hq]
        · rfl

/-! ### A visit ends (R332) -/

/-- What the end of a visit leaves of the slots. -/
def State.slotCore (q : Nat) : Nat × Bool × Bool := ((s.slot q).stamp, (s.slot q).isOpen, (s.slot q).faulted)

theorem State.slotCore_of {s t : State} {q : Nat} (h : t.slotCore q = s.slotCore q) :
    (t.slot q).stamp = (s.slot q).stamp ∧ (t.slot q).isOpen = (s.slot q).isOpen ∧ (t.slot q).faulted = (s.slot q).faulted := by
  simpa [State.slotCore] using h

theorem State.slotCore_congr {s t : State} (h : t.aux.slots = s.aux.slots) (q : Nat) : t.slotCore q = s.slotCore q := by
  rw [State.slotCore, State.slotCore, State.slot, State.slot, h]

theorem State.endExcitation_core (l : List Nat) (q : Nat) : (s.endExcitation l).slotCore q = s.slotCore q := by
  unfold State.endExcitation
  refine State.each_off (fun t => t.slotCore q) (fun i _ t => ?_) s
  split
  · rfl
  · have hs : (t.updSlot i (fun x => { x with excited := false })).slot q = if i = q ∧ i < 32 then { t.slot q with excited := false } else t.slot q :=
      vget_vupd _ _ _ _
    rw [State.slotCore, hs]
    split <;> rfl

/-- What ends with a visit: the entries of a pass, and the pass. -/
structure VisitOver (s t : State) : Prop where
  writes : Writes (fun i j => (i = 0x5000 ∧ (j = 9 ∨ j = 0xA)) ∨ i = 0x2800 + 562) s t
  door : t.door = s.door
  visit : t.aux.visit = s.aux.visit
  core : ∀ q, t.slotCore q = s.slotCore q

variable {s}

theorem VisitOver.refl (s : State) : VisitOver s s := ⟨.refl _ s, rfl, rfl, fun _ => rfl⟩

theorem VisitOver.trans {t w : State} (h : VisitOver s t) (g : VisitOver t w) : VisitOver s w :=
  ⟨h.writes.trans g.writes, g.door.trans h.door, g.visit.trans h.visit, fun q => (g.core q).trans (h.core q)⟩

theorem VisitOver.pass (s : State) (p : Option Pass) : VisitOver s (s.updAux (fun a => { a with pass := p })) :=
  ⟨(Writes.refl _ s).eq rfl rfl, rfl, rfl, fun q => State.slotCore_congr rfl q⟩

theorem VisitOver.countPower (s : State) (v : Visit) (power : Nat) : VisitOver s (s.countPower v power) := by
  unfold State.countPower
  split
  · split
    · exact .refl s
    · split
      · exact .pass s _
      · exact .pass s _
  · exact .refl s

theorem VisitOver.endExcitation (s : State) (l : List Nat) : VisitOver s (s.endExcitation l) := by
  obtain ⟨hd, he, -, ha⟩ := s.endExcitation_spec l
  refine ⟨(Writes.refl _ s).eq hd (by rw [he]), (State.endExcitation_keeps (.refl .door s) rfl l).same, by rw [ha], fun q => s.endExcitation_core l q⟩

theorem State.passCounted_writes (s : State) (us : Nat) : Writes (fun i j => i = 0x5000 ∧ (j = 9 ∨ j = 0xA)) s (s.passCounted us) :=
  ((Writes.refl _ s).wr (by decide) ⟨rfl, .inl rfl⟩).bump (by decide) ⟨rfl, .inr rfl⟩

theorem VisitOver.passEnd (s : State) : VisitOver s s.passEnd := by
  cases h : s.aux.pass with
  | none =>
    unfold State.passEnd
    rw [h]
    exact .refl s
  | some p =>
    cases ht : p.todo with
    | cons q r =>
      unfold State.passEnd
      rw [h]
      dsimp only
      rw [ht]
      exact .refl s
    | nil =>
      obtain ⟨capped, wait, -, e⟩ := State.passEnd_eq h ht
      rw [e]
      have hw := s.passCounted_writes ((s.now - p.start) / 1000)
      have hd : (s.passCounted ((s.now - p.start) / 1000)).door = s.door := (State.bump_door _ _ _ _).trans (State.wr_door _ _ _ _)
      have ha : (s.passCounted ((s.now - p.start) / 1000)).aux = s.aux := (State.bump_aux _ _ _ _).trans (State.wr_aux _ _ _ _)
      generalize s.passCounted ((s.now - p.start) / 1000) = a at *
      have hw2 : Writes (fun i j => (i = 0x5000 ∧ (j = 9 ∨ j = 0xA)) ∨ i = 0x2800 + 562) s (a.raiseIf (capped && !a.aux.capTold) 562 0) :=
        (hw.mono (fun _ _ h => .inl h)).raiseIf (fun _ => .inr rfl)
      have hd2 : (a.raiseIf (capped && !a.aux.capTold) 562 0).door = a.door := (State.raiseIf_keeps (.refl .door a) rfl _ _ _).same
      have ha2 : (a.raiseIf (capped && !a.aux.capTold) 562 0).aux = a.aux := (State.raiseIf_keeps (.refl .aux a) rfl _ _ _).same
      generalize a.raiseIf (capped && !a.aux.capTold) 562 0 = b at *
      refine ⟨hw2.eq rfl rfl, hd2.trans hd, ?_, fun q => (State.slotCore_congr rfl q).trans (State.slotCore_congr (congrArg _ (ha2.trans ha)) q)⟩
      rw [← ha, ← ha2]
      rfl

end

/-- R332, R333, R339: what ends with the visit `v`. -/
def State.visitOver (s : State) (v : Visit) (power : Nat) : State :=
  let t := (s.updAux (fun a => { a with visit := none })).countPower v power
  let t := if t.seqMode = 0 then (t.updAux (fun a => { a with pass := none })).endExcitation [] else t
  if v.urgent then t else t.passEnd

theorem State.visitOver_spec (s : State) (v : Visit) (power : Nat) : VisitOver (s.updAux (fun a => { a with visit := none })) (s.visitOver v power) := by
  unfold State.visitOver
  have h := VisitOver.countPower (s.updAux (fun a => { a with visit := none })) v power
  dsimp only
  generalize (s.updAux (fun a => { a with visit := none })).countPower v power = b at *
  have h2 : VisitOver b (if b.seqMode = 0 then (b.updAux (fun a => { a with pass := none })).endExcitation [] else b) := by
    split
    · exact (VisitOver.pass b none).trans (.endExcitation _ [])
    · exact .refl b
  generalize (if b.seqMode = 0 then (b.updAux (fun a => { a with pass := none })).endExcitation [] else b) = c at *
  split
  · exact h.trans h2
  · exact (h.trans h2).trans (.passEnd c)

/-- R332, R337, R338: the verdicts of the visit `v`. -/
def State.judged (s : State) (v : Visit) (openFail excFault : Bool) : State :=
  ((s.verdictOpen v.slot openFail).verdictFault v excFault).updSlot v.slot (fun x => { x with left := x.left - 1 })

theorem State.judged_spec (s : State) (v : Visit) (hq : v.slot < 32) (openFail excFault : Bool) : let t := s.judged v openFail excFault
    Writes (verdictEntry v.slot) s t ∧ SlotsOnly s t ∧
      (excFault = true → v.dark = false → t.rd 0x5000 0xE = (s.rd 0x5000 0xE + 1) % 2 ^ 32 ∧ (t.slot v.slot).faulted = true ∧ t.Presents 553) ∧
      (openFail = true → s.rd (0x5010 + v.slot) 0xD ≠ 0 → (t.slot v.slot).isOpen = true ∧ ((s.slot v.slot).isOpen = false → t.Presents (520 + v.slot))) := by
  dsimp only
  unfold State.judged
  obtain ⟨hw1, hs1, -, ho1⟩ := s.verdictOpen_spec ⟨v.slot, hq⟩ openFail
  dsimp only at hw1 hs1 ho1
  generalize s.verdictOpen v.slot openFail = a at *
  obtain ⟨hw2, hs2, hi2, hf2⟩ := a.verdictFault_spec v hq excFault
  generalize a.verdictFault v excFault = b at *
  have hwb : Writes (verdictEntry v.slot) s b := (hw1.mono (fun _ _ => .inl)).trans (hw2.mono (fun _ _ => .inr))
  refine ⟨hwb.eq rfl rfl, (hs1.trans hs2).trans (.updSlot b _ _), fun hx hd => ?_, fun hx hd => ?_⟩
  · obtain ⟨hE, hf, hp⟩ := hf2 hx hd
    refine ⟨?_, ?_, hp⟩
    · rw [State.updSlot_rd, hE, hw1.rd (by decide) (by omega)]
    · rw [State.slot_updSlot _ hq]
      exact hf
  · obtain ⟨hop, hp⟩ := ho1 hx hd
    refine ⟨?_, fun h => hw2.presents (hp h)⟩
    rw [State.slot_updSlot _ hq]
    exact hi2.trans hop

theorem exec_auxVisitEnd {s u : State} {dt : Nat} {v : Visit} (e : s.pass dt = u) (hv : u.aux.visit = some v) (ht : v.start + v.time ≤ u.now)
    (raw : Int) (extreme excFault openFail : Bool) (held power refa : Nat) : ∃ (d : Sampled) (unsettled forced : Bool),
    exec (.auxVisitEnd dt raw extreme excFault openFail held power refa) s =
      .next (((u.judged v openFail excFault).result v.slot v.cfg d unsettled v.urgent false forced).visitOver v power) := by
  refine ⟨⟨raw, extreme, excFault, openFail, if u.rdN (0x5010 + v.slot) 0xE = 0 ∨ (u.rdN (0x5010 + v.slot) 0xE = 1 ∧ u.aux.blankOff) then 0
    else min held (periodUs (v.cfg.getD 9 0).toNat * 10), refa⟩, decide (0 < (((u.verdictOpen v.slot openFail).verdictFault v excFault).slot v.slot).left),
    ((u.judged v openFail excFault).slot v.slot).faulted || v.dark, ?_⟩
  refine (event_at e ?_ : execAuxVisitEnd dt raw extreme excFault openFail held power refa s = _).trans (congrArg _ ?_)
  · rw [hv]
    exact decide_eq_true ht
  · dsimp only
    rw [hv]
    rfl

/-- R332: what the end of the visit `v` does. -/
theorem State.visitEnd_spec (u : State) (v : Visit) (hq : v.slot < 32) (d : Sampled) (unsettled forced openFail excFault : Bool) (power : Nat) :
    let t := ((u.judged v openFail excFault).result v.slot v.cfg d unsettled v.urgent false forced).visitOver v power
    t.aux.visit = none ∧ t.rdN (0x5080 + v.slot) 1 % 2 ^ 24 = nextResult (u.rdN (0x5080 + v.slot) 1) ∧
      t.rd (0x5080 + v.slot) 5 = u.fine % 2 ^ 32 ∧ (t.slot v.slot).stamp = u.now ∧ (∀ m : Fin 17, t.isFresh m (0x5080 + v.slot) = true) ∧
      (excFault = true → v.dark = false → t.rd 0x5000 0xE = (u.rd 0x5000 0xE + 1) % 2 ^ 32 ∧ (t.slot v.slot).faulted = true ∧
        ∃ p ∈ t.ev.pres, p.src = 553) ∧
      (openFail = true → u.rd (0x5010 + v.slot) 0xD ≠ 0 → (t.slot v.slot).isOpen = true ∧
        ((u.slot v.slot).isOpen = false → ∃ p ∈ t.ev.pres, p.src = 520 + v.slot)) := by
  dsimp only
  obtain ⟨hw1, ⟨hn1, hf1, ha1⟩, hx1, ho1⟩ := u.judged_spec v hq openFail excFault
  generalize u.judged v openFail excFault = a at *
  obtain ⟨hw2, -, ⟨outs, ha2⟩, hs2, ht2, hfr2⟩ := a.result_spec ⟨v.slot, hq⟩ v.cfg d unsettled v.urgent false forced
  dsimp only at hw2 ha2 hs2 ht2 hfr2
  generalize a.result v.slot v.cfg d unsettled v.urgent false forced = b at *
  obtain ⟨hw3, hd3, hv3, hc3⟩ := b.visitOver_spec v power
  generalize b.visitOver v power = t at *
  have hw3' : Writes (fun i j => (i = 0x5000 ∧ (j = 9 ∨ j = 0xA)) ∨ i = 0x2800 + 562) b t :=
    ((Writes.refl _ b).updAux (f := fun a => { a with visit := none })).trans hw3
  have hc3' : t.slotCore v.slot = b.slotCore v.slot := (hc3 _).trans (State.slotCore_congr rfl _)
  obtain ⟨hst, hop, hfa⟩ := State.slotCore_of hc3'
  have hslot : b.slot v.slot = { a.slot v.slot with stamp := a.now } := by
    unfold State.slot
    rw [ha2]
    exact (vget_vupd _ _ _ _).trans (if_pos ⟨rfl, hq⟩)
  have hrd (j : Nat) (hj : j < 256) : t.rd (0x5080 + v.slot) j = b.rd (0x5080 + v.slot) j := hw3'.rd hj (by omega)
  refine ⟨hv3, ?_, ?_, ?_, fun m => ?_, fun hx hd => ?_, fun hx hd => ?_⟩
  · rw [State.rdN, hrd _ (by decide), ← State.rdN, hs2, State.rdN, hw1.rd (by decide) (by unfold verdictEntry; omega), ← State.rdN]
  · rw [hrd _ (by decide), ht2, hf1]
  · rw [hst, hslot, hn1]
  · have hd : t.door = b.door := hd3
    rw [State.isFresh, hd]
    exact hfr2 m
  · obtain ⟨hE, hf, hp⟩ := hx1 hx hd
    refine ⟨?_, ?_, hw3'.presents (hw2.presents hp)⟩
    · rw [hw3'.rd (by decide) (by decide), hw2.rd (by decide) ?_, hE]
      rintro (h | h | h | h | h)
      · omega
      · omega
      · omega
      · omega
      · exact not_consumerEntry (by decide) (by decide) h
    · rw [hfa, hslot]
      exact hf
  · obtain ⟨ho, hp⟩ := ho1 hx hd
    refine ⟨?_, fun h => hw3'.presents (hw2.presents (hp h))⟩
    rw [hop, hslot]
    exact ho

end Sys2Proof.Machine
end
section
/-! ## Sleeping measurements and outputs (O41) -/
set_option Elab.async false
namespace Sys2Proof.Machine

/-! ### Sleeping measurements (R343) -/

/-- R343: the conversion of the sleeping slot `q`, with the slots behind it. -/
def State.sleepVerdicts (s : State) (q : Nat) (r : List Nat) (openFail excFault : Bool) : State :=
  let t := (s.updAux (fun a => { a with sleeping := r })).verdictOpen q openFail
  if excFault then t.faultTold else t

/-- R343: a Bivouac period begins: its flagged slots. -/
def State.sleepPeriod (s : State) : State :=
  s.updAux (fun a => { a with
    sleeping := (List.range 32).filter (fun q => s.slotUsed q && decide (s.rd (0x5010 + q) 0x10 = 1))
    period := s.now + s.rdN 0x5000 6 * 1000000 })

/-- R343: the next sleeping slot, if there is one, is converted. -/
def State.sleepNext (s : State) (raw : Int) (extreme excFault openFail : Bool) : State :=
  match s.aux.sleeping with
  | [] => s
  | q :: r => (s.sleepVerdicts q r openFail excFault).result q ((s.sleepVerdicts q r openFail excFault).slotCfg q)
      ⟨raw, extreme, excFault, openFail, 0, 0⟩ false false true excFault

section
variable {s u : State} {dt : Nat} {raw : Int} {extreme excFault openFail : Bool} (e : s.pass dt = u) (hb : u.dev.st = .bivouac)
include e hb

theorem exec_bivouacConversion_next {q : Nat} {r : List Nat} (h : u.aux.sleeping = q :: r) :
    exec (.bivouacConversion dt raw extreme excFault openFail) s = .next (u.sleepNext raw extreme excFault openFail) := by
  refine (event_at e ?_ : execBivouacConversion dt raw extreme excFault openFail s = _).trans (congrArg _ ?_)
  · rw [hb, h]
    rfl
  · have hne : ¬ u.aux.sleeping.isEmpty = true := by rw [h]; exact Bool.false_ne_true
    unfold State.sleepNext
    dsimp only
    rw [if_neg hne, h]
    dsimp only
    unfold State.sleepVerdicts State.faultTold
    with_reducible rfl

theorem exec_bivouacConversion_period (h : u.aux.sleeping = []) (hp : u.aux.period ≤ u.now) :
    exec (.bivouacConversion dt raw extreme excFault openFail) s = .next (u.sleepPeriod.sleepNext raw extreme excFault openFail) := by
  refine (event_at e ?_ : execBivouacConversion dt raw extreme excFault openFail s = _).trans (congrArg _ ?_)
  · rw [hb, decide_eq_true hp, Bool.or_true]
    rfl
  · dsimp only
    rw [h]
    rfl

end

section
variable (s : State)

theorem State.sleepVerdicts_spec (q : Fin 32) (r : List Nat) (openFail excFault : Bool) : let t := s.sleepVerdicts q r openFail excFault
    Writes (verdictEntry q) s t ∧ t.now = s.now ∧ t.aux = { s.aux with sleeping := r, slots := t.aux.slots } := by
  have hq := q.isLt
  dsimp only
  unfold State.sleepVerdicts
  have hw0 : Writes (verdictEntry q) s (s.updAux (fun a => { a with sleeping := r })) := (Writes.refl _ s).updAux
  have hn0 : (s.updAux (fun a => { a with sleeping := r })).now = s.now := rfl
  have ha0 : (s.updAux (fun a => { a with sleeping := r })).aux = { s.aux with sleeping := r } := rfl
  generalize s.updAux (fun a => { a with sleeping := r }) = a at *
  obtain ⟨hw1, ⟨hn1, -, ha1⟩, -⟩ := a.verdictOpen_spec q openFail
  generalize a.verdictOpen q openFail = b at *
  obtain ⟨hw2, ⟨hn2, -, -⟩, ha2, -⟩ := b.faultTold_spec
  have hwb : Writes (verdictEntry q) s b := hw0.trans (hw1.mono fun _ _ => .inl)
  rw [ha0] at ha1
  dsimp only
  split
  · exact ⟨hwb.trans (hw2.mono fun _ _ => .inr), hn2.trans (hn1.trans hn0), by rw [ha2]; exact ha1⟩
  · exact ⟨hwb, hn1.trans hn0, ha1⟩

/-- R343: the conversion of the sleeping slot `q`. -/
theorem State.sleepNext_spec {q : Nat} {r : List Nat} (h : s.aux.sleeping = q :: r) (hq : q < 32) (raw : Int) (extreme excFault openFail : Bool) :
    let t := s.sleepNext raw extreme excFault openFail
    t.aux.sleeping = r ∧ t.rdN (0x5080 + q) 1 % 2 ^ 24 = nextResult (s.rdN (0x5080 + q) 1) ∧ (t.slot q).stamp = s.now ∧ t.aux.period = s.aux.period := by
  dsimp only
  unfold State.sleepNext
  rw [h]
  dsimp only
  obtain ⟨hw1, hn1, ha1⟩ := s.sleepVerdicts_spec ⟨q, hq⟩ r openFail excFault
  dsimp only at hw1 hn1 ha1
  generalize s.sleepVerdicts q r openFail excFault = a at *
  obtain ⟨-, -, ⟨outs, ha2⟩, hs2, -⟩ := a.result_spec ⟨q, hq⟩ (a.slotCfg q) ⟨raw, extreme, excFault, openFail, 0, 0⟩ false false true excFault
  dsimp only at ha2 hs2
  generalize a.result q (a.slotCfg q) ⟨raw, extreme, excFault, openFail, 0, 0⟩ false false true excFault = t at *
  refine ⟨by rw [ha2, ha1], ?_, ?_, by rw [ha2, ha1]⟩
  · rw [hs2, State.rdN, hw1.rd (by decide) (by unfold verdictEntry; omega), ← State.rdN]
  · unfold State.slot
    rw [ha2]
    exact (congrArg AuxSlot.stamp ((vget_vupd _ _ _ _).trans (if_pos ⟨rfl, hq⟩))).trans hn1

theorem State.sleepPeriod_lt {q : Nat} (h : q ∈ s.sleepPeriod.aux.sleeping) : q < 32 := List.mem_range.mp (List.mem_filter.mp h).1

/-- R343: a Bivouac period begins. -/
theorem State.sleepPeriod_spec (raw : Int) (extreme excFault openFail : Bool) :
    (s.sleepPeriod.sleepNext raw extreme excFault openFail).aux.period = s.now + s.rdN 0x5000 6 * 1000000 := by
  have hp : s.sleepPeriod.aux.period = s.now + s.rdN 0x5000 6 * 1000000 := rfl
  have hlt (q : Nat) := s.sleepPeriod_lt (q := q)
  generalize s.sleepPeriod = a at *
  cases h : a.aux.sleeping with
  | nil =>
    unfold State.sleepNext
    rw [h]
    exact hp
  | cons q r =>
    obtain ⟨-, -, -, hpr⟩ := a.sleepNext_spec h (hlt q (by rw [h]; exact List.mem_cons_self)) raw extreme excFault openFail
    exact hpr.trans hp

/-! ### Outputs (R344) -/

theorem State.outFraction_between (a : Nat) (v : Int) : 0 ≤ s.outFraction a v ∧ s.outFraction a v ≤ 65535 := by
  unfold State.outFraction
  dsimp only
  split
  · decide
  · exact limit_between (by decide) _

/-- R344: the fraction that the fail action of output `a` gives. -/
def State.outFailed (a : Nat) : State :=
  if s.rd (0x5100 + a) 6 = 0 then s else s.wr (0x5100 + a) 7 (if s.rd (0x5100 + a) 6 = 1 then 0 else 65535)

theorem State.outFail_eq (a : Nat) :
    s.outFail a = if (s.outFailed a).rd (0x5100 + a) 8 = 1 then (s.outFailed a).wr (0x5100 + a) 8 2 else s.outFailed a := rfl

theorem State.outFailed_spec (a : Fin 4) : let t := s.outFailed a
    Touch (fun i j => i = 0x5100 + a.val ∧ j = 7) s t ∧ (s.rd (0x5100 + a) 6 = 0 → t.rd (0x5100 + a) 7 = s.rd (0x5100 + a) 7) ∧
      (s.rd (0x5100 + a) 6 = 1 → t.rd (0x5100 + a) 7 = 0) ∧ (s.rd (0x5100 + a) 6 = 2 → t.rd (0x5100 + a) 7 = 65535) := by
  obtain ⟨h7, -⟩ := outTypes a
  dsimp only
  unfold State.outFailed
  have hw (v : Int) : (s.wr (0x5100 + a) 7 v).rd (0x5100 + a) 7 = v % 65536 := by rw [State.rd_wr_self _ _ (by decide), h7, Ty.wrap_u16]; rfl
  split
  next h => exact ⟨.refl _ s, fun _ => rfl, fun h1 => by omega, fun h2 => by omega⟩
  next h =>
    rw [hw]
    refine ⟨.wr s _ (by decide) ⟨rfl, rfl⟩, fun h0 => absurd h0 h, fun h1 => ?_, fun h2 => ?_⟩
    · rw [if_pos h1]
      rfl
    · rw [if_neg (by omega)]
      rfl

theorem State.outFail_spec (a : Fin 4) : let t := s.outFail a
    (s.rd (0x5100 + a) 6 = 0 → t.rd (0x5100 + a) 7 = s.rd (0x5100 + a) 7) ∧ (s.rd (0x5100 + a) 6 = 1 → t.rd (0x5100 + a) 7 = 0) ∧
      (s.rd (0x5100 + a) 6 = 2 → t.rd (0x5100 + a) 7 = 65535) ∧ (s.rd (0x5100 + a) 8 = 1 → t.rd (0x5100 + a) 8 = 2) ∧
      Touch (fun i j => i = 0x5100 + a ∧ (j = 7 ∨ j = 8)) s t := by
  obtain ⟨-, h8⟩ := outTypes a
  obtain ⟨hw, h0, h1, h2⟩ := s.outFailed_spec a
  have hw' := hw.mono (Q := fun i j => i = 0x5100 + a.val ∧ (j = 7 ∨ j = 8)) (fun _ _ h => ⟨h.1, .inl h.2⟩)
  have hr8 : (s.outFailed a).rd (0x5100 + a) 8 = s.rd (0x5100 + a) 8 := hw _ _ (by decide) (by omega)
  dsimp only
  rw [State.outFail_eq, hr8]
  generalize s.outFailed a = b at *
  split
  next h =>
    have hr7 : (b.wr (0x5100 + a) 8 2).rd (0x5100 + a) 7 = b.rd (0x5100 + a) 7 := by
      rw [State.rd_wr_at _ _ (by decide) (by decide), if_neg (by omega)]
    rw [hr7, State.rd_wr_self _ _ (by decide), h8]
    exact ⟨h0, h1, h2, fun _ => rfl, hw'.trans (.wr b _ (by decide) ⟨rfl, .inr rfl⟩)⟩
  next h => exact ⟨h0, h1, h2, fun hc => absurd hc h, hw'⟩

end

end Sys2Proof.Machine
namespace Sys2Proof
open Machine

/-- Settles O41: each clause is what the auxiliary block's operation is shown above to do. -/
theorem auxiliaryResults : Obligations.AuxiliaryResults := by
  unfold Obligations.AuxiliaryResults
  refine ⟨fun _ _ h => platinumTemp_between h, fun _ _ _ _ h => coupleTemp_between h, ?_⟩
  intro s dt u
  have e : s.pass dt = u := rfl
  clear_value u
  refine ⟨fun v raw extreme excFault openFail held power refa hv hq ht => ?visit, fun q hf ht => ?again, fun hq hb => ?stuck, fun hb => ?released,
    fun hq hb => ?range, fun hb => ?restored, fun raw extreme excFault openFail hb => ⟨fun q r h hq => ?sleep, fun h hp => ?period⟩,
    fun a v => u.outFraction_between a v, fun a => u.outFail_spec a, fun a => ⟨fun hq h1 h8 ht => ?stale, fun h8 => ?short, fun h8 ht => ⟨?holds, ?fails⟩⟩⟩
  case visit =>
    obtain ⟨d, unsettled, forced, hx⟩ := exec_auxVisitEnd e hv ht raw extreme excFault openFail held power refa
    exact ⟨_, hx, u.visitEnd_spec v hq d unsettled forced openFail excFault power⟩
  case again => exact (event_at e (by rw [hf, decide_eq_true ht]; rfl) : execAuxExcitationRetry dt q s = _)
  case stuck => exact (event_at e (by rw [hq, hb]; rfl) : execBlankStuck dt s = _)
  case released => exact (event_at e hb : execBlankInputReleased dt s = _)
  case range => exact (event_at e (by rw [hq, hb]; rfl) : execRefaOutOfRange dt s = _)
  case restored => exact (event_at e hb : execRefaRestored dt s = _)
  case sleep =>
    obtain ⟨hs, hn, hst, -⟩ := u.sleepNext_spec h hq raw extreme excFault openFail
    exact ⟨_, exec_bivouacConversion_next e hb h, hs, hn, hst⟩
  case period => exact ⟨_, exec_bivouacConversion_period e hb h hp, u.sleepPeriod_spec raw extreme excFault openFail⟩
  case stale => exact (event_at e (by rw [hq, h1, h8, State.elapsed, decide_eq_true ht]; rfl) : execAoStale dt a s = _)
  case short =>
    refine (event_at e ?_ : execAoShort dt a s = _).trans (congrArg _ ?_)
    · rcases h8 with h | h
      · rw [h]
        rfl
      · rw [h]
        rfl
    · have hn : (((u.wr (0x5100 + a) 8 3).bump (0x5100 + a) 9).raise1 (556 + a) 0).now = u.now :=
        (State.raise1_now _ _ _).trans ((State.bump_now _ _ _ _).trans (State.wr_now _ _ _ _))
      dsimp only
      rw [hn]
  case holds => exact (event_at e (by rw [h8, decide_eq_true ht]; rfl) : execAoShortRetry dt a true s = _)
  case fails =>
    refine (event_at e (by rw [h8, decide_eq_true ht]; rfl) : execAoShortRetry dt a false s = _).trans (congrArg _ ?_)
    have hr : u.raiseIf (!u.latched (556 + a)) (556 + a) 0 = if u.latched (556 + a) then u else u.raise1 (556 + a) 0 := by
      cases u.latched (556 + a) <;> rfl
    have hn : (u.raiseIf (!u.latched (556 + a)) (556 + a) 0).now = u.now := (State.raiseIf_keeps (.refl .now u) rfl _ _ _).same
    dsimp only
    rw [if_neg (by decide), hn, hr]

end Sys2Proof
end
section
/-! ## The Canteen's grants (O51) -/
set_option Elab.async false
namespace Sys2Proof.Machine

theorem canteenTypes : tyAt 0x5A00 1 = .u8 ∧ tyAt 0x5A00 0xE = .u16 ∧ ∀ c : Fin 10, tyAt 0x5A11 (c + 1) = .u32 := by decide +kernel

/-! ### The plan (R378) -/

/-- R378: what a step of the plan gives consumer `c`, the auxiliary minimum aside: no more than it wants, nor than what is left. -/
theorem planStep_eq (res : List Nat) (auxMin lampCap : Nat) (hot board off : Bool) (p : Plan) (c : Nat) : ∃ (g : Nat) (short capped : Bool),
    g ≤ (if c = 8 then res.getD 8 0 - auxMin else res.getD c 0) ∧ ((g : Int) ≤ p.rest ∨ g = 0) ∧
      planStep res auxMin lampCap hot board off p c = ⟨p.rest - g, short, p.grants.set c (if c = 8 ∧ !hot then g + auxMin else g), capped⟩ := by
  unfold planStep
  dsimp only
  generalize (if c = 8 then res.getD 8 0 - auxMin else res.getD c 0) = want
  have hfit : (if c = 7 then (if (want : Int) ≤ p.rest then want else 0) else (min (want : Int) p.rest).toNat) ≤ want ∧
      (((if c = 7 then (if (want : Int) ≤ p.rest then want else 0) else (min (want : Int) p.rest).toNat : Nat) : Int) ≤ p.rest ∨
        (if c = 7 then (if (want : Int) ≤ p.rest then want else 0) else (min (want : Int) p.rest).toNat) = 0) := by
    split
    · split
      next h => exact ⟨Nat.le_refl _, .inl h⟩
      · exact ⟨Nat.zero_le _, .inr rfl⟩
    · omega
  generalize (if c = 7 then (if (want : Int) ≤ p.rest then want else 0) else (min (want : Int) p.rest).toNat) = fit at hfit
  have hshort : (if p.short then 0 else fit) ≤ fit := by split <;> omega
  generalize (if p.short then 0 else fit) = g at hshort
  generalize lampCap - p.grants.getD 3 0 = room
  have hcut : (if (decide (c = 6) && decide (room < g)) then room else g) ≤ g := by
    split
    next h =>
      have hr : room < g := of_decide_eq_true (Bool.and_eq_true_iff.mp h).2
      exact hr.le
    · exact Nat.le_refl _
  generalize (decide (c = 6) && decide (room < g)) = cut at hcut
  generalize (if cut then room else g) = g' at hcut
  refine ⟨_, _, _, ?_, ?_, rfl⟩
  · split
    · exact Nat.zero_le _
    · omega
  · split
    · exact .inr rfl
    · omega

/-- R378: the grants of a plan: what is fixed, and what the consumers 3, 6, 7, 8 and 9 get. -/
def grantsOf (res : List Nat) (g3 g6 g7 g8 g9 : Nat) : List Nat :=
  [res.getD 0 0, res.getD 1 0, res.getD 2 0, g3, res.getD 4 0, res.getD 5 0, g6, g7, g8, g9]

theorem plan_fold (res : List Nat) {aux : Nat} (haux : aux ≤ res.getD 8 0) (cap : Nat) (hot board off : Bool) (rest : Int) : ∃ g3 g6 g7 g8 g9 : Nat,
    ([3, 6, 7, 8, 9].foldl (planStep res aux cap hot board off) ⟨rest, false, grantsOf res 0 0 0 0 0, false⟩).grants = grantsOf res g3 g6 g7 g8 g9 ∧
      g3 ≤ res.getD 3 0 ∧ g6 ≤ res.getD 6 0 ∧ g7 ≤ res.getD 7 0 ∧ g8 ≤ res.getD 8 0 ∧ g9 ≤ res.getD 9 0 ∧
      ((g3 + g6 + g7 + g8 + g9 : Nat) : Int) ≤ aux + max rest 0 := by
  simp only [List.foldl_cons, List.foldl_nil]
  obtain ⟨g3, b3, c3, h3, r3, e3⟩ := planStep_eq res aux cap hot board off ⟨rest, false, grantsOf res 0 0 0 0 0, false⟩ 3
  rw [e3, show (grantsOf res 0 0 0 0 0).set 3 (if 3 = 8 ∧ !hot then g3 + aux else g3) = grantsOf res g3 0 0 0 0 from rfl]
  obtain ⟨g6, b6, c6, h6, r6, e6⟩ := planStep_eq res aux cap hot board off ⟨rest - g3, b3, grantsOf res g3 0 0 0 0, c3⟩ 6
  rw [e6, show (grantsOf res g3 0 0 0 0).set 6 (if 6 = 8 ∧ !hot then g6 + aux else g6) = grantsOf res g3 g6 0 0 0 from rfl]
  obtain ⟨g7, b7, c7, h7, r7, e7⟩ := planStep_eq res aux cap hot board off ⟨rest - g3 - g6, b6, grantsOf res g3 g6 0 0 0, c6⟩ 7
  rw [e7, show (grantsOf res g3 g6 0 0 0).set 7 (if 7 = 8 ∧ !hot then g7 + aux else g7) = grantsOf res g3 g6 g7 0 0 from rfl]
  obtain ⟨g8, b8, c8, h8, r8, e8⟩ := planStep_eq res aux cap hot board off ⟨rest - g3 - g6 - g7, b7, grantsOf res g3 g6 g7 0 0, c7⟩ 8
  have ha : (if 8 = 8 ∧ !hot then g8 + aux else g8) ≤ g8 + aux := by split <;> omega
  rw [e8]
  generalize (if 8 = 8 ∧ !hot then g8 + aux else g8) = a8 at ha
  rw [show (grantsOf res g3 g6 g7 0 0).set 8 a8 = grantsOf res g3 g6 g7 a8 0 from rfl]
  obtain ⟨g9, b9, c9, h9, r9, e9⟩ := planStep_eq res aux cap hot board off ⟨rest - g3 - g6 - g7 - g8, b8, grantsOf res g3 g6 g7 a8 0, c8⟩ 9
  rw [e9, show (grantsOf res g3 g6 g7 a8 0).set 9 (if 9 = 8 ∧ !hot then g9 + aux else g9) = grantsOf res g3 g6 g7 a8 g9 from rfl]
  rw [if_neg (by decide)] at h3 h6 h7 h9
  rw [if_pos rfl] at h8
  dsimp only at r3 r6 r7 r8 r9
  exact ⟨g3, g6, g7, a8, g9, rfl, h3, h6, h7, by omega, h9, by omega⟩

/-- R378: no plan grants more than is reserved, nor in all more than the budget beyond what is fixed. -/
theorem State.plan_grants (s : State) (res : List Nat) (off : Bool) :
    (∀ c < 10, (s.plan res off).grants.getD c 0 ≤ res.getD c 0) ∧
      ((((s.plan res off).grants.getD 0 0 + (s.plan res off).grants.getD 1 0 + (s.plan res off).grants.getD 2 0 + (s.plan res off).grants.getD 3 0 +
        (s.plan res off).grants.getD 6 0 + (s.plan res off).grants.getD 7 0 + (s.plan res off).grants.getD 8 0 + (s.plan res off).grants.getD 9 0 : Nat) : Int)) ≤
        max s.inputBudget (res.getD 0 0 + res.getD 1 0 + res.getD 2 0 + s.auxMin res : Nat) := by
  obtain ⟨g3, g6, g7, g8, g9, e, h3, h6, h7, h8, h9, hs⟩ := plan_fold res (aux := s.auxMin res) (Nat.min_le_left _ _) (150000 + s.auxCredit)
    (decide (2 ≤ s.rdN 0x5A01 6) && !s.paced) (s.can.boardHot && !s.paced) off
    (s.inputBudget - res.getD 0 0 - res.getD 1 0 - res.getD 2 0 - s.auxMin res)
  have e' : (s.plan res off).grants = grantsOf res g3 g6 g7 g8 g9 := e
  rw [e']
  refine ⟨fun c hc => ?_, ?_⟩
  · unfold grantsOf
    interval_cases c
    · exact Nat.le_refl _
    · exact Nat.le_refl _
    · exact Nat.le_refl _
    · exact h3
    · exact Nat.le_refl _
    · exact Nat.le_refl _
    · exact h6
    · exact h7
    · exact h8
    · exact h9
  · show ((res.getD 0 0 + res.getD 1 0 + res.getD 2 0 + g3 + g6 + g7 + g8 + g9 : Nat) : Int) ≤ _
    omega

/-! ### Giving grants (R377) -/

section
variable (s : State)

theorem State.giveGrant_falls {c was allowed : Nat} (h : allowed ≤ s.rdN 0x5A11 (c + 1) ∨ was ≤ s.rdN 0x5A11 (c + 1)) : s.giveGrant c was allowed =
    (s.wr 0x5A11 (c + 1) allowed).updCan (fun q => { q with riseFrom := vupd q.riseFrom c (fun _ => none) }) := if_pos h

theorem State.giveGrant_spec (c : Fin 10) (was allowed : Nat) : let t := s.giveGrant c was allowed
    (allowed ≤ s.rdN 0x5A11 (c + 1) ∨ was ≤ s.rdN 0x5A11 (c + 1) →
      t.rd 0x5A11 (c + 1) = (allowed : Int) % 2 ^ 32 ∧ vget t.can.riseFrom c = none) ∧
    (s.rdN 0x5A11 (c + 1) < allowed → s.rdN 0x5A11 (c + 1) < was → t.dict = s.dict ∧
      (vget s.can.riseFrom c = none → vget t.can.riseFrom c = some s.now ∧ vget t.can.riseTo c = allowed) ∧
      (∀ x, vget s.can.riseFrom c = some x → vget t.can.riseFrom c = some x ∧
        vget t.can.riseTo c = min (vget s.can.riseTo c) allowed)) := by
  have hc := c.isLt
  obtain ⟨-, -, hty⟩ := canteenTypes
  refine ⟨fun h => ?_, fun h1 h2 => ?_⟩
  · rw [State.giveGrant_falls s h]
    have hr : (s.wr 0x5A11 (c + 1) allowed).rd 0x5A11 (c + 1) = (allowed : Int) % 2 ^ 32 := by
      rw [State.rd_wr_self _ _ (by omega), hty c, Ty.wrap_u32]
    generalize s.wr 0x5A11 (c + 1) allowed = a at *
    refine ⟨?_, ?_⟩
    · exact (State.rd_congr rfl _ _).trans hr
    · exact (vget_vupd _ _ _ _).trans (if_pos ⟨rfl, hc⟩)
  · unfold State.giveGrant
    dsimp only
    rw [if_neg (by omega)]
    cases hrise : vget s.can.riseFrom c with
    | none =>
      refine ⟨rfl, fun _ => ⟨?_, ?_⟩, fun x hx => (nomatch hx)⟩
      · exact (vget_vupd _ _ _ _).trans (if_pos ⟨rfl, hc⟩)
      · exact (vget_vupd _ _ _ _).trans (if_pos ⟨rfl, hc⟩)
    | some y =>
      refine ⟨rfl, fun hx => (nomatch hx), fun x hx => ⟨hrise.trans hx, ?_⟩⟩
      exact (vget_vupd _ _ _ _).trans (if_pos ⟨rfl, hc⟩)

end

end Sys2Proof.Machine
end
section
/-! ## Publishing the grants (O51) -/
set_option Elab.async false
namespace Sys2Proof.Machine

/-! ### What follows from the grants (R377, R378, R388) -/

/-- What follows from the grants writes. -/
def publishEntry (i j : Nat) : Prop :=
  (i = 0x5A00 ∧ (j = 1 ∨ j = 0xD ∨ j = 0xE ∨ j = 0xF ∨ j = 0x11)) ∨ (0x5A20 ≤ i ∧ i < 0x5A28) ∨ i = 0x5000 ∨ i = 0x2800 + 640 ∨ i = 0x2800 + 643 ∨
    i = 0x2800 + 644 ∨ i = 0x2800 + 645

/-- From `s` to `t` what the grants imply is published: the entries of `publishEntry`, and nothing of the lamp grant or of the holds. -/
structure Publishes (P : Nat → Nat → Prop) (s t : State) : Prop where
  writes : Writes P s t
  lamp : t.can.lamp = s.can.lamp
  rise : t.can.riseFrom = s.can.riseFrom

section
variable {P Q : Nat → Nat → Prop} {s t w : State}

theorem Publishes.refl (P : Nat → Nat → Prop) (s : State) : Publishes P s s := ⟨.refl P s, rfl, rfl⟩

theorem Publishes.trans (h : Publishes P s t) (g : Publishes P t w) : Publishes P s w :=
  ⟨h.writes.trans g.writes, g.lamp.trans h.lamp, g.rise.trans h.rise⟩

theorem Publishes.mono (h : Publishes P s t) (hq : ∀ i j, P i j → Q i j) : Publishes Q s t := ⟨h.writes.mono hq, h.lamp, h.rise⟩

theorem Publishes.of_can (h : Writes P s t) (hc : t.can = s.can) : Publishes P s t := ⟨h, by rw [hc], by rw [hc]⟩

theorem Publishes.declared (h : Publishes P s t) (b : Bool) : Publishes P s (t.updCan (fun c => { c with declared := b })) :=
  ⟨h.writes.updCan, h.lamp, h.rise⟩

end

section
variable (s : State)

theorem State.declare_publishes : Publishes (fun i j => (i = 0x5A00 ∧ (j = 0xF ∨ j = 0x11)) ∨ i = 0x2800 + 643 ∨ i = 0x2800 + 644) s s.declare := by
  unfold State.declare
  dsimp only
  split
  · have hw : Writes (fun i j => (i = 0x5A00 ∧ (j = 0xF ∨ j = 0x11)) ∨ i = 0x2800 + 643 ∨ i = 0x2800 + 644) s
        (((s.raise1 643 0).wr 0x5A00 0xF 1).bump 0x5A00 0x11) :=
      (((Writes.refl _ s).raise1 (fun _ => .inr (.inl rfl))).wr (by decide) (.inl ⟨rfl, .inl rfl⟩)).bump (by decide) (.inl ⟨rfl, .inr rfl⟩)
    have hc : (((s.raise1 643 0).wr 0x5A00 0xF 1).bump 0x5A00 0x11).can = s.can :=
      (State.bump_can _ _ _ _).trans ((State.wr_can _ _ _ _).trans (State.raise1_can _ _ _))
    generalize ((s.raise1 643 0).wr 0x5A00 0xF 1).bump 0x5A00 0x11 = a at *
    exact (Publishes.of_can hw hc).declared true
  · split
    · have hw : Writes (fun i j => (i = 0x5A00 ∧ (j = 0xF ∨ j = 0x11)) ∨ i = 0x2800 + 643 ∨ i = 0x2800 + 644) s ((s.raise1 644 0).wr 0x5A00 0xF 0) :=
        ((Writes.refl _ s).raise1 (fun _ => .inr (.inr rfl))).wr (by decide) (.inl ⟨rfl, .inl rfl⟩)
      have hc : ((s.raise1 644 0).wr 0x5A00 0xF 0).can = s.can := (State.wr_can _ _ _ _).trans (State.raise1_can _ _ _)
      generalize (s.raise1 644 0).wr 0x5A00 0xF 0 = a at *
      exact (Publishes.of_can hw hc).declared false
    · exact .refl _ s

theorem State.dutyScale_le : s.dutyScale ≤ 1000 := by
  unfold State.dutyScale
  dsimp only
  split
  · exact Nat.le_refl _
  · exact Nat.min_le_left _ _

theorem State.dutyScale_congr {s t : State} (h : ∀ j, j = 4 ∨ j = 7 → t.rd 0x5A10 j = s.rd 0x5A10 j ∧ t.rd 0x5A11 j = s.rd 0x5A11 j) :
    t.dutyScale = s.dutyScale := by
  obtain ⟨h4, h4'⟩ := h 4 (.inl rfl)
  obtain ⟨h7, h7'⟩ := h 7 (.inr rfl)
  unfold State.dutyScale State.rdN
  rw [h4, h7, h4', h7']

theorem State.publishDuty_spec : Publishes (fun i j => (i = 0x5A00 ∧ j = 0xE) ∨ (0x5A20 ≤ i ∧ i < 0x5A28)) s s.publishDuty ∧
    s.publishDuty.rd 0x5A00 0xE = s.dutyScale := by
  have hle := s.dutyScale_le
  unfold State.publishDuty
  dsimp only
  generalize s.dutyScale = d at *
  have hw1 : Writes (fun i j => i = 0x5A00 ∧ j = 0xE) s (s.wr 0x5A00 0xE (d : Int)) := (Writes.refl _ s).wr (by decide) ⟨rfl, rfl⟩
  have hc1 := State.wr_can s 0x5A00 0xE (d : Int)
  have hr1 : (s.wr 0x5A00 0xE (d : Int)).rd 0x5A00 0xE = d := by
    rw [State.rd_wr_self _ _ (by decide), canteenTypes.2.1, Ty.wrap_u16]
    omega
  generalize s.wr 0x5A00 0xE (d : Int) = a at *
  have hw2 : Writes (fun i _ => 0x5A20 ≤ i ∧ i < 0x5A28) a (a.each 8 (fun j s => s.wr (0x5A20 + j) 2 (if s.groupUsed j then d else 1000))) :=
    (Writes.refl _ a).each (fun j hj t h => h.wr (by decide) ⟨by omega, by omega⟩)
  have hc2 : (a.each 8 (fun j s => s.wr (0x5A20 + j) 2 (if s.groupUsed j then d else 1000))).can = a.can :=
    State.each_off State.can (fun _ _ t => State.wr_can _ _ _ _) a
  exact ⟨.of_can ((hw1.mono fun _ _ => .inl).trans (hw2.mono fun _ _ => .inr)) (hc2.trans hc1), (hw2.rd (by decide) (by omega)).trans hr1⟩

/-- R388: the energy state is shown, and told when it changes. -/
def State.energyShown : State := if s.rdN 0x5A00 1 = s.energyState then s else (s.wr 0x5A00 1 s.energyState).raise1 640 0

/-- R377, R388: the auxiliary cap and the line rate limit are shown. -/
def State.limitsShown (cap : Nat) (shed slow told : Bool) : State :=
  let t := (s.wr 0x5000 8 cap).updCan (fun c => { c with shedStats := shed })
  ((t.wr 0x5A00 0xD t.lineLimit).raiseIf told 645 0).updCan (fun c => { c with rateTold := slow })

theorem State.publishGrants_eq : ∃ (cap : Nat) (shed slow told : Bool), s.publishGrants = (s.declare.publishDuty.limitsShown cap shed slow told).energyShown :=
  ⟨_, _, _, _, rfl⟩

theorem State.limitsShown_publishes (cap : Nat) (shed slow told : Bool) :
    Publishes (fun i j => (i = 0x5A00 ∧ j = 0xD) ∨ i = 0x5000 ∨ i = 0x2800 + 645) s (s.limitsShown cap shed slow told) := by
  unfold State.limitsShown
  dsimp only
  have h1 : Publishes (fun i j => (i = 0x5A00 ∧ j = 0xD) ∨ i = 0x5000 ∨ i = 0x2800 + 645) s
      ((s.wr 0x5000 8 cap).updCan (fun c => { c with shedStats := shed })) :=
    ⟨((Writes.refl _ s).wr (by decide) (.inr (.inl rfl))).updCan, rfl, rfl⟩
  generalize (s.wr 0x5000 8 cap).updCan (fun c => { c with shedStats := shed }) = a at *
  have h2 : Publishes (fun i j => (i = 0x5A00 ∧ j = 0xD) ∨ i = 0x5000 ∨ i = 0x2800 + 645) a (a.wr 0x5A00 0xD a.lineLimit) :=
    .of_can ((Writes.refl _ a).wr (by decide) (.inl ⟨rfl, rfl⟩)) (State.wr_can _ _ _ _)
  generalize a.wr 0x5A00 0xD a.lineLimit = b at *
  have h3 : Publishes (fun i j => (i = 0x5A00 ∧ j = 0xD) ∨ i = 0x5000 ∨ i = 0x2800 + 645) b (b.raiseIf told 645 0) :=
    .of_can ((Writes.refl _ b).raiseIf (fun _ => .inr (.inr rfl))) (State.raiseIf_keeps (.refl .can b) rfl _ _ _).same
  generalize b.raiseIf told 645 0 = c at *
  exact ((h1.trans h2).trans h3).trans ⟨(Writes.refl _ c).updCan, rfl, rfl⟩

/-- The entries from which the energy state follows (R388). -/
def energyEntry (i j : Nat) : Prop := i = 0x5A10 ∨ i = 0x5A11 ∨ i = 0x5A01 ∨ (i = 0x5A00 ∧ (j = 0xD ∨ j = 0xE)) ∨ i = 0x5400 ∨ i = 0x4800

theorem State.energyState_congr {s t : State} (hd : t.dev = s.dev) (hc : t.can = s.can)
    (hr : ∀ i j, j < 256 → energyEntry i j → t.rd i j = s.rd i j) : t.energyState = s.energyState := by
  have h10 (j : Nat) (hj : j < 256) := hr 0x5A10 j hj (.inl rfl)
  have h11 (j : Nat) (hj : j < 256) := hr 0x5A11 j hj (.inr (.inl rfl))
  have h1 := hr 0x5A01 6 (by decide) (.inr (.inr (.inl rfl)))
  have hD := hr 0x5A00 0xD (by decide) (.inr (.inr (.inr (.inl ⟨rfl, .inl rfl⟩))))
  have hE := hr 0x5A00 0xE (by decide) (.inr (.inr (.inr (.inl ⟨rfl, .inr rfl⟩))))
  have h5 := hr 0x5400 2 (by decide) (.inr (.inr (.inr (.inr (.inl rfl)))))
  have h4 := hr 0x4800 1 (by decide) (.inr (.inr (.inr (.inr (.inr rfl)))))
  simp only [State.energyState, State.paced, State.live, Nat.reduceAdd, hd, hc, h1, hD, hE, h5, h4, h10 8 (by decide), h10 9 (by decide),
    h10 10 (by decide), h11 8 (by decide), h11 9 (by decide), h11 10 (by decide)]

theorem State.energyState_lt : s.energyState < 256 := by
  unfold State.energyState
  dsimp only
  repeat' split
  all_goals decide

/-- R388: the energy state shown is the one that follows from the entries. -/
theorem State.energyShown_spec : let t := s.energyShown
    Publishes (fun i j => (i = 0x5A00 ∧ j = 1) ∨ i = 0x2800 + 640) s t ∧ t.rdN 0x5A00 1 = t.energyState ∧
      (s.rdN 0x5A00 1 ≠ t.energyState → t.Presents 640) := by
  have hlt := s.energyState_lt
  dsimp only
  unfold State.energyShown
  split
  next h => exact ⟨.refl _ s, h, fun hne => absurd h hne⟩
  next h =>
    have hw1 : Writes (fun i j => (i = 0x5A00 ∧ j = 1) ∨ i = 0x2800 + 640) s (s.wr 0x5A00 1 s.energyState) :=
      (Writes.refl _ s).wr (by decide) (.inl ⟨rfl, rfl⟩)
    have hr1 : (s.wr 0x5A00 1 s.energyState).rd 0x5A00 1 = s.energyState := by
      rw [State.rd_wr_self _ _ (by decide), canteenTypes.1, Ty.wrap_u8]
      omega
    have hc1 := State.wr_can s 0x5A00 1 s.energyState
    have hd1 := State.wr_dev s 0x5A00 1 s.energyState
    generalize s.wr 0x5A00 1 s.energyState = a at *
    have hw2 : Writes (fun i _ => i = 0x2800 + 640) a (a.raise1 640 0) := (Writes.refl _ a).raise1 (fun _ => rfl)
    have hw : Writes (fun i j => (i = 0x5A00 ∧ j = 1) ∨ i = 0x2800 + 640) s (a.raise1 640 0) := hw1.raise1 (fun _ => .inr rfl)
    have hc : (a.raise1 640 0).can = s.can := (State.raise1_can _ _ _).trans hc1
    have he : (a.raise1 640 0).energyState = s.energyState :=
      State.energyState_congr ((State.raise1_dev _ _ _).trans hd1) hc (fun i j hj h => hw.rd hj (by unfold energyEntry at h; omega))
    refine ⟨.of_can hw hc, ?_, fun _ => a.presents_raise1 640 0⟩
    rw [State.rdN, hw2.rd (by decide) (by decide), hr1, he]
    rfl

/-- R377, R378, R388: what follows from the grants is published. -/
theorem State.publishGrants_spec : let t := s.publishGrants
    Publishes publishEntry s t ∧ t.rd 0x5A00 0xE = s.dutyScale ∧ t.rdN 0x5A00 1 = t.energyState ∧ (s.rdN 0x5A00 1 ≠ t.energyState → t.Presents 640) := by
  obtain ⟨cap, shed, slow, told, e⟩ := s.publishGrants_eq
  dsimp only
  rw [e]
  have h1 := s.declare_publishes
  have hd1 : s.declare.dutyScale = s.dutyScale := State.dutyScale_congr fun j hj => ⟨h1.writes.rd (by omega) (by omega), h1.writes.rd (by omega) (by omega)⟩
  generalize s.declare = a at *
  obtain ⟨h2, hE2⟩ := a.publishDuty_spec
  generalize a.publishDuty = b at *
  have h3 := b.limitsShown_publishes cap shed slow told
  generalize b.limitsShown cap shed slow told = c at *
  obtain ⟨h4, hs4, hp4⟩ := c.energyShown_spec
  generalize c.energyShown = t at *
  have hr1 : c.rd 0x5A00 1 = s.rd 0x5A00 1 := by
    rw [h3.writes.rd (by decide) (by decide), h2.writes.rd (by decide) (by omega), h1.writes.rd (by decide) (by decide)]
  refine ⟨?_, ?_, hs4, fun hne => hp4 ?_⟩
  · refine (h1.mono fun i j h => ?_).trans ((h2.mono fun i j h => ?_).trans ((h3.mono fun i j h => ?_).trans (h4.mono fun i j h => ?_)))
    · unfold publishEntry
      omega
    · unfold publishEntry
      omega
    · unfold publishEntry
      omega
    · unfold publishEntry
      omega
  · rw [h4.writes.rd (by decide) (by decide), h3.writes.rd (by decide) (by decide), hE2, hd1]
  · rw [State.rdN, hr1]
    exact hne

/-! ### The end of the restore hold (R377) -/

/-- R377: the restore hold of consumer `c` is over. -/
def State.holdOver (s : State) (c : Nat) : Bool :=
  match vget s.can.riseFrom c with
  | some t => s.elapsed t (s.rdN 0x5A00 0xC * 1000000)
  | none => false

/-- R377: the grant of consumer `c` rises, if its restore hold is over. -/
def State.riseGrant (c : Nat) (s : State) : State :=
  if s.holdOver c then
    (s.wr 0x5A11 (c + 1) (vget s.can.riseTo c : Nat)).updCan (fun q => { q with riseFrom := vupd q.riseFrom c (fun _ => none) })
  else s

theorem exec_grantRestoreHoldExpiry {s u : State} {dt : Nat} (e : s.pass dt = u) (hr : u.dev.ready = true) {c : Nat} (hc : c < 10)
    (h : u.holdOver c = true) : exec (.grantRestoreHoldExpiry dt) s = .next (u.each 10 State.riseGrant).publishGrants := by
  have h0 : execGrantRestoreHoldExpiry dt s = event dt s (fun s => s.dev.ready && (List.range 10).any s.holdOver)
    (fun s => (s.each 10 State.riseGrant).publishGrants) := rfl
  refine (h0.trans (event_at e ?_) : execGrantRestoreHoldExpiry dt s = _)
  rw [hr, Bool.true_and]
  exact List.any_eq_true.mpr ⟨c, List.mem_range.mpr hc, h⟩

/-- What a rising grant of consumer `c` reads. -/
def State.holdOf (s : State) (c : Nat) : Option Nat × Nat × Int × Nat × Int :=
  (vget s.can.riseFrom c, vget s.can.riseTo c, s.rd 0x5A00 0xC, s.now, s.rd 0x5A11 (c + 1))

theorem State.riseGrant_off (c : Fin 10) {i : Nat} (hi : i < 10) (hne : i ≠ c) (s : State) : (s.riseGrant i).holdOf c = s.holdOf c := by
  unfold State.riseGrant
  split
  · have hc := c.isLt
    have hw : Writes (fun x y => x = 0x5A11 ∧ y = i + 1) s (s.wr 0x5A11 (i + 1) (vget s.can.riseTo i : Nat)) := (Writes.refl _ s).wr (by omega) ⟨rfl, rfl⟩
    have h1 := hw.rd (i := 0x5A00) (j := 0xC) (by decide) (by omega)
    have h2 := hw.rd (i := 0x5A11) (j := c + 1) (by omega) (by omega)
    have hcan := State.wr_can s 0x5A11 (i + 1) (vget s.can.riseTo i : Nat)
    have hn := State.wr_now s 0x5A11 (i + 1) (vget s.can.riseTo i : Nat)
    generalize s.wr 0x5A11 (i + 1) (vget s.can.riseTo i : Nat) = a at *
    have hv : vget (vupd a.can.riseFrom i (fun _ => none)) c = vget a.can.riseFrom c := (vget_vupd _ _ _ _).trans (if_neg (fun h => hne h.1))
    have hu (x y : Nat) : (a.updCan (fun q => { q with riseFrom := vupd q.riseFrom i (fun _ => none) })).rd x y = a.rd x y := State.rd_congr rfl x y
    unfold State.holdOf
    rw [hu, hu, h1, h2, ← hcan, ← hn, ← hv]
    rfl
  · rfl

theorem State.holdOver_of {s : State} {c x : Nat} (h : vget s.can.riseFrom c = some x) (hx : x + s.rdN 0x5A00 0xC * 1000000 ≤ s.now) : s.holdOver c = true := by
  unfold State.holdOver
  rw [h]
  exact decide_eq_true hx

theorem State.riseGrant_at (c : Fin 10) {s : State} (h : s.holdOver c = true) :
    (s.riseGrant c).rd 0x5A11 (c + 1) = (vget s.can.riseTo c % 2 ^ 32 : Nat) ∧ vget (s.riseGrant c).can.riseFrom c = none := by
  have hc := c.isLt
  unfold State.riseGrant
  rw [if_pos h]
  have hr : (s.wr 0x5A11 (c + 1) (vget s.can.riseTo c : Nat)).rd 0x5A11 (c + 1) = (vget s.can.riseTo c % 2 ^ 32 : Nat) := by
    rw [State.rd_wr_self _ _ (by omega), canteenTypes.2.2 c, Ty.wrap_u32]
    omega
  generalize s.wr 0x5A11 (c + 1) (vget s.can.riseTo c : Nat) = a at *
  exact ⟨(State.rd_congr rfl _ _).trans hr, (vget_vupd _ _ _ _).trans (if_pos ⟨rfl, hc⟩)⟩

/-- A fold in which the member `b`, which occurs once, takes `I` to `J`, and the others keep both. -/
theorem State.eachOf_once {β : Type} {l : List β} {f : β → State → State} {b : β} (I J : State → Prop) (hl : l.Nodup) (hb : b ∈ l)
    (hI : ∀ a ∈ l, a ≠ b → ∀ s, I s → I (f a s)) (hJ : ∀ a ∈ l, a ≠ b → ∀ s, J s → J (f a s)) (hat : ∀ s, I s → J (f b s)) :
    ∀ s : State, I s → J (s.eachOf l f) := by
  induction l with
  | nil => exact absurd hb (by simp)
  | cons a l ih =>
    intro s hs
    obtain ⟨ha, hl⟩ := List.nodup_cons.mp hl
    by_cases hab : a = b
    · subst hab
      exact State.eachOf_keep J (fun x hx => hJ x (by simp [hx]) (fun h => ha (h ▸ hx))) _ (hat s hs)
    · have hbl : b ∈ l := by simpa [Ne.symm hab] using hb
      exact ih hl hbl (fun x hx => hI x (by simp [hx])) (fun x hx => hJ x (by simp [hx])) _ (hI a (by simp) hab s hs)

theorem State.holdOf_iff {s t : State} {c : Nat} (h : t.holdOf c = s.holdOf c) : vget t.can.riseFrom c = vget s.can.riseFrom c ∧
    vget t.can.riseTo c = vget s.can.riseTo c ∧ t.rd 0x5A00 0xC = s.rd 0x5A00 0xC ∧ t.now = s.now ∧ t.rd 0x5A11 (c + 1) = s.rd 0x5A11 (c + 1) := by
  simpa [State.holdOf] using h

theorem State.holdOver_congr {s t : State} {c : Nat} (h : t.holdOf c = s.holdOf c) : t.holdOver c = s.holdOver c := by
  obtain ⟨hf, -, hr, hn, -⟩ := State.holdOf_iff h
  unfold State.holdOver State.elapsed State.rdN
  rw [hf, hr, hn]

/-- R378: grant `c` stands at the value `v` it was to rise to, and no rise of it waits. -/
def State.Risen (c v : Nat) (s : State) : Prop := s.rd 0x5A11 (c + 1) = (v % 2 ^ 32 : Nat) ∧ vget s.can.riseFrom c = none

theorem State.grantsRisen (c : Fin 10) (h : s.holdOver c = true) : State.Risen c (vget s.can.riseTo c) (s.each 10 State.riseGrant) := by
  have hI : ∀ i ∈ List.range 10, i ≠ c.val → ∀ t : State, t.holdOf c = s.holdOf c → (t.riseGrant i).holdOf c = s.holdOf c := by
    intro i hi hne t ht
    exact (State.riseGrant_off c (List.mem_range.mp hi) hne t).trans ht
  have hJ : ∀ i ∈ List.range 10, i ≠ c.val → ∀ t : State, t.Risen c (vget s.can.riseTo c) → (t.riseGrant i).Risen c (vget s.can.riseTo c) := by
    intro i hi hne t ⟨ht, hn⟩
    obtain ⟨hf, -, -, -, hr⟩ := State.holdOf_iff (State.riseGrant_off c (List.mem_range.mp hi) hne t)
    exact ⟨hr.trans ht, hf.trans hn⟩
  have hat : ∀ t : State, t.holdOf c = s.holdOf c → (t.riseGrant c).Risen c (vget s.can.riseTo c) := by
    intro t ht
    rw [← (State.holdOf_iff ht).2.1]
    exact State.riseGrant_at c ((State.holdOver_congr ht).trans h)
  exact State.eachOf_once _ _ List.nodup_range (List.mem_range.mpr c.isLt) hI hJ hat s rfl

/-! ### Lamp grants (R382) -/

theorem State.lampStep_can {s : State} (hl : s.can.lamp = false) (ha : s.can.lampAsked = true) (hr : s.dev.ready = true) (ht : s.rd 0x5A01 6 < 3)
    (hb : s.bankReady = true) :
    (s.lampStep true).can = { s.can with
      lamp := s.can.lampTick, lampAsked := !s.can.lampTick, lampTick := !s.can.lampTick
      floorTicks := if s.can.lampTick then 0 else s.can.floorTicks } ∧
    (s.lampStep false).can = { s.can with lampTick := false } := by
  unfold State.lampStep
  dsimp only
  rw [hl, ha, hr, hb, decide_eq_true ht]
  refine ⟨?_, by rw [if_neg (fun h => absurd h.2 (by decide)), ← hl, ← ha]; rfl⟩
  rw [if_pos (by simp)]
  cases htk : s.can.lampTick with
  | true => rfl
  | false =>
    rw [if_neg (by decide), if_neg (by decide)]
    change ({ s.can with lampTick := true } : CanteenSt) = { s.can with lamp := false, lampAsked := true, lampTick := true }
    generalize s.can = c at *
    cases c
    cases hl
    cases ha
    rfl

/-- R382: the lamp grant is withdrawn. -/
def State.lampWithdrawn (s : State) : State := (s.updCan (fun c => { c with lamp := false, lampTick := false })).raise1 648 0

theorem State.lampWithdrawn_spec : Writes (fun i _ => i = 0x2800 + 648) s s.lampWithdrawn ∧ s.lampWithdrawn.can.lamp = false ∧
    s.lampWithdrawn.dev = s.dev ∧ s.lampWithdrawn.Presents 648 := by
  unfold State.lampWithdrawn
  have hw : Writes (fun i _ => i = 0x2800 + 648) s (s.updCan (fun c => { c with lamp := false, lampTick := false })) := (Writes.refl _ s).updCan
  have hl : (s.updCan (fun c => { c with lamp := false, lampTick := false })).can.lamp = false := rfl
  have hd : (s.updCan (fun c => { c with lamp := false, lampTick := false })).dev = s.dev := rfl
  generalize s.updCan (fun c => { c with lamp := false, lampTick := false }) = a at *
  exact ⟨hw.raise1 (fun _ => rfl), (congrArg CanteenSt.lamp (State.raise1_can _ _ _)).trans hl, (State.raise1_dev _ _ _).trans hd, a.presents_raise1 648 0⟩

/-- R382: inline, what the withdrawal takes from the grants. -/
def State.lampsShed (s : State) : State := (s.wr 0x5A11 4 0).wr 0x5A11 7 0

theorem State.lampsShed_spec : let t := s.lampsShed
    Writes (fun i _ => i = 0x5A11) s t ∧ t.can = s.can ∧ t.rd 0x5A11 4 = 0 ∧ t.rd 0x5A11 7 = 0 := by
  obtain ⟨-, -, h⟩ := canteenTypes
  have h4 : tyAt 0x5A11 4 = .u32 := h 3
  have h7 : tyAt 0x5A11 7 = .u32 := h 6
  dsimp only
  unfold State.lampsShed
  have hr : (s.wr 0x5A11 4 0).rd 0x5A11 4 = 0 := by
    rw [State.rd_wr_self _ _ (by decide), h4]
    rfl
  have hw : Writes (fun i _ => i = 0x5A11) s (s.wr 0x5A11 4 0) := (Writes.refl _ s).wr (by decide) rfl
  have hc := State.wr_can s 0x5A11 4 0
  generalize s.wr 0x5A11 4 0 = a at *
  refine ⟨hw.wr (by decide) rfl, (State.wr_can _ _ _ _).trans hc, ?_, ?_⟩
  · rw [State.rd_wr_at _ _ (by decide) (by decide), if_neg (by decide), hr]
  · rw [State.rd_wr_self _ _ (by decide), h7]
    rfl

theorem exec_lampGrantWithdrawn {s v : State} {dt : Nat} (e : s.arrive dt = v) (hl : v.can.lamp = true) (h : 10 ≤ v.can.floorTicks ∨ v.can.shutAt ≠ none) :
    exec (.lampGrantWithdrawn dt) s = .next (if v.lampWithdrawn.paced then v.lampWithdrawn.pegStop 2
      else if v.lampWithdrawn.live then v.lampWithdrawn.lampsShed.publishGrants else v.lampWithdrawn) := by
  refine (timed_at e ?_ : execLampGrantWithdrawn dt s = _)
  rw [hl]
  rcases h with h | h
  · rw [decide_eq_true h]
    rfl
  · rw [Option.isSome_iff_ne_none.mpr h, Bool.or_true]
    rfl

theorem State.dutyScale_dark {s : State} (h4 : s.rd 0x5A11 4 = 0) (h7 : s.rd 0x5A11 7 = 0) :
    s.dutyScale = if s.rdN 0x5A10 4 + s.rdN 0x5A10 7 = 0 then 1000 else 0 := by
  unfold State.dutyScale
  dsimp only
  have e4 : s.rdN 0x5A11 4 = 0 := by rw [State.rdN, h4]; rfl
  have e7 : s.rdN 0x5A11 7 = 0 := by rw [State.rdN, h7]; rfl
  rw [e4, e7]
  split
  · rfl
  · rw [Nat.zero_add, Nat.mul_zero, Nat.zero_div]
    rfl

/-- R382: inline, a withdrawn lamp grant leaves the lamps dark. -/
theorem State.lampsDark (w : State) (hl : w.can.lamp = false) (hp : w.Presents 648) : let t := w.lampsShed.publishGrants
    t.can.lamp = false ∧ t.rd 0x5A11 4 = 0 ∧ t.rd 0x5A11 7 = 0 ∧ t.Presents 648 ∧
      t.rd 0x5A00 0xE = (if w.rdN 0x5A10 4 + w.rdN 0x5A10 7 = 0 then 1000 else 0) := by
  obtain ⟨hw1, hc1, h4, h7⟩ := w.lampsShed_spec
  have hd := State.dutyScale_dark h4 h7
  have hr (j : Nat) (hj : j < 256) : w.lampsShed.rdN 0x5A10 j = w.rdN 0x5A10 j := congrArg Int.toNat (hw1.rd hj (by decide))
  rw [hr 4 (by decide), hr 7 (by decide)] at hd
  dsimp only
  generalize w.lampsShed = a at *
  obtain ⟨h2, hE, -⟩ := a.publishGrants_spec
  generalize a.publishGrants = t at *
  have ho (j : Nat) : ¬ publishEntry 0x5A11 j := by unfold publishEntry; omega
  refine ⟨by rw [h2.lamp, hc1, hl], by rw [h2.writes.rd (by decide) (ho _), h4], by rw [h2.writes.rd (by decide) (ho _), h7], h2.writes.presents (hw1.presents hp), ?_⟩
  rw [hE, hd]
  split <;> rfl

end

end Sys2Proof.Machine
namespace Sys2Proof
open Machine

/-- Settles O51: each clause is what the Canteen's operation is shown above to do. -/
theorem canteenGrants : Obligations.CanteenGrants := by
  unfold Obligations.CanteenGrants
  intro s dt u
  have e : s.pass dt = u := rfl
  clear_value u
  refine ⟨fun res off _ => u.plan_grants res off, fun c was allowed => u.giveGrant_spec c was allowed, fun c x hr hx ht => ?hold,
    fun hl ha hr ht hb => State.lampStep_can hl ha hr ht hb, ?lamps, fun ho ht => ?above, ?energy⟩
  case hold =>
    have h := State.holdOver_of hx ht
    obtain ⟨hr1, hf1⟩ := u.grantsRisen c h
    obtain ⟨hp, -⟩ := (u.each 10 State.riseGrant).publishGrants_spec
    refine ⟨_, exec_grantRestoreHoldExpiry e hr c.isLt h, ?_, by rw [hp.rise]; exact hf1⟩
    rw [hp.writes.rd (by omega) (by unfold publishEntry; omega), hr1]
  case lamps =>
    intro v w hl h
    have hx := exec_lampGrantWithdrawn (rfl : s.arrive dt = v) hl h
    have hw : w = v.lampWithdrawn := rfl
    clear_value w
    subst hw
    obtain ⟨hw1, hl1, hd1, hp1⟩ := v.lampWithdrawn_spec
    have hpa : v.lampWithdrawn.paced = v.paced := State.paced_congr (hw1.rd (by decide) (by decide))
    have hli : v.lampWithdrawn.live = v.live := by rw [State.live, State.live, hd1]
    have hr (j : Nat) (hj : j < 256) : v.lampWithdrawn.rdN 0x5A10 j = v.rdN 0x5A10 j := congrArg Int.toNat (hw1.rd hj (by omega))
    rw [hpa, hli] at hx
    have hdark := v.lampWithdrawn.lampsDark hl1 hp1
    rw [hr 4 (by decide), hr 7 (by decide)] at hdark
    refine ⟨fun hp => by rw [hx, if_pos hp], fun hp hli => ⟨_, by rw [hx, if_neg (by rw [hp]; decide), if_pos hli], hdark⟩, fun hp hli => ?_⟩
    rw [hx, if_neg (by rw [hp]; decide), if_neg (by rw [hli]; decide)]
  case above =>
    exact (event_at e (by rw [decide_eq_true ho, ht]; rfl) : execConsumptionAboveBudget dt s = _)
  case energy =>
    obtain ⟨-, -, h1, h2⟩ := u.publishGrants_spec
    exact ⟨h1, h2⟩

end Sys2Proof
end
section
/-! ## Self-trim: requests and starts (O52) -/
set_option Elab.async false
namespace Sys2Proof.Machine

section
variable (s : State)

theorem trimTypes : tyAt 0x2000 3 = .u16 ∧ tyAt 0x2400 4 = .u8 ∧ tyAt 0x2400 5 = .u8 ∧ tyAt 0x2400 6 = .u32 ∧ tyAt 0x2400 7 = .u32 ∧ tyAt 0x2400 8 = .u32 ∧
    ∀ k : Fin 8, tyAt 0x2401 (k + 1) = .u8 ∧ tyAt 0x2404 (k + 1) = .u64 ∧ tyAt 0x2405 (k + 1) = .u8 := by
  decide +kernel

/-! ### Clusters -/

theorem State.cluster_updCluster (k i : Nat) (f : TrimCluster → TrimCluster) :
    (s.updCluster k f).cluster i = if k = i ∧ k < 8 then f (s.cluster i) else s.cluster i := vget_vupd _ _ _ _

theorem State.cluster_updCluster_self (k : Fin 8) (f : TrimCluster → TrimCluster) : (s.updCluster k f).cluster k = f (s.cluster k) :=
  (s.cluster_updCluster k k f).trans (if_pos ⟨rfl, k.isLt⟩)

theorem State.cluster_updCluster_off {k i : Nat} (h : k ≠ i) (f : TrimCluster → TrimCluster) : (s.updCluster k f).cluster i = s.cluster i :=
  (s.cluster_updCluster k i f).trans (if_neg (fun h' => h h'.1))

theorem Writes.updCluster {P : Nat → Nat → Prop} {s t : State} (h : Writes P s t) {k : Nat} {f : TrimCluster → TrimCluster} :
    Writes P s (t.updCluster k f) := h.eq rfl rfl

theorem State.cluster_congr {s t : State} (h : t.trm = s.trm) (k : Nat) : t.cluster k = s.cluster k := by rw [State.cluster, State.cluster, h]

theorem State.trimRuns_congr {s t : State} (h : t.trm.running = s.trm.running) (k : Nat) : t.trimRuns k = s.trimRuns k := by
  rw [State.trimRuns, State.trimRuns, h]

theorem State.trimRuns_none (h : s.trm.running = none) (k : Nat) : s.trimRuns k = false := by rw [State.trimRuns, h]

theorem State.trimRuns_some {x : Trimming} (h : s.trm.running = some x) : s.trimRuns x.cluster = true := by
  rw [State.trimRuns, h]
  exact decide_eq_true rfl

/-! ### What is shown of a cluster (R405) -/

/-- R405: the state behind what runs: that of a request, or else of the last trim. -/
def TrimCluster.shown (c : TrimCluster) : Nat := match c.req with
  | some r => if r.forced then 4 else 3
  | none => c.result

theorem State.showTrim_eq (k : Nat) : s.showTrim k = s.wr 0x2401 (k + 1) (if s.trimRuns k then 5 else ((s.cluster k).shown : Int)) := by
  unfold State.showTrim TrimCluster.shown
  cases (s.cluster k).req with
  | none => rfl
  | some r =>
    dsimp only
    cases r.forced <;> rfl

theorem State.showTrim_spec (k : Fin 8) : let t := s.showTrim k
    Writes (fun i j => i = 0x2401 ∧ j = k + 1) s t ∧ t.trm = s.trm ∧ t.now = s.now ∧ t.compassOff = s.compassOff ∧
    (s.trimRuns k = true → t.rd 0x2401 (k + 1) = 5) ∧
    (s.trimRuns k = false → (s.cluster k).shown < 256 → t.rd 0x2401 (k + 1) = (s.cluster k).shown) := by
  have hk := k.isLt
  dsimp only
  rw [s.showTrim_eq]
  have hr (v : Int) : (s.wr 0x2401 (k + 1) v).rd 0x2401 (k + 1) = v % 2 ^ 8 := by
    rw [State.rd_wr_self _ _ (by omega), (trimTypes.2.2.2.2.2.2 k).1, Ty.wrap_u8]
  refine ⟨(Writes.refl _ s).wr (by omega) ⟨rfl, rfl⟩, State.wr_trm _ _ _ _, State.wr_now _ _ _ _, State.wr_compassOff _ _ _ _, fun h => ?_, fun h hb => ?_⟩
  · rw [hr, if_pos h]
    rfl
  · rw [hr, if_neg (by simp [h])]
    omega

/-! ### Requests (R398) -/

/-- R398: what a request by a host makes of the one that waits. -/
def TrimCluster.asked (c : TrimCluster) (now : Nat) : Option TrimReq := match c.req with
  | some r => some r
  | none => some ⟨false, now, now⟩

theorem State.askTrim_eq {k : Nat} (h : s.trimRuns k = false) :
    s.askTrim k false = (s.updCluster k (fun c => { c with req := (s.cluster k).asked s.now })).showTrim k := by
  unfold State.askTrim TrimCluster.asked
  rw [if_neg (by simp [h])]
  cases hq : (s.cluster k).req with
  | none => rfl
  | some r =>
    dsimp only
    rw [Bool.false_and, if_neg Bool.false_ne_true, Bool.and_not_self]
    rfl

/-- R398: what a request by a host makes of cluster `k`, if its mask names it. -/
def requestOf (mask k : Nat) (s : State) : State :=
  if bit mask k then (s.updCluster k (fun c => { c with result := if c.result = 6 then 2 else c.result })).askTrim k false else s

theorem opRequestTrim_eq (mask : Nat) : opRequestTrim (mask : Nat) s = (s.each 8 (requestOf mask), 0) := rfl

/-- What a request by a host depends on and changes: cluster, running trim, the time, the state shown. -/
def State.trimOf (s : State) (k : Nat) : TrimCluster × Option Trimming × Nat × Int := (s.cluster k, s.trm.running, s.now, s.rd 0x2401 (k + 1))

theorem State.trimOf_iff {s t : State} {k : Nat} : t.trimOf k = s.trimOf k ↔
    t.cluster k = s.cluster k ∧ t.trm.running = s.trm.running ∧ t.now = s.now ∧ t.rd 0x2401 (k + 1) = s.rd 0x2401 (k + 1) := by simp [State.trimOf]

theorem State.askTrim_running (k : Fin 8) (h : s.trimRuns k = true) : s.askTrim k false = s := if_pos h

theorem State.askTrim_at (k : Fin 8) (h : s.trimRuns k = false) : let t := s.askTrim k false
    t.cluster k = { s.cluster k with req := (s.cluster k).asked s.now } ∧
    ((s.cluster k).req = none → t.rd 0x2401 (k + 1) = 3) := by
  dsimp only
  rw [s.askTrim_eq h]
  have hc := s.cluster_updCluster_self k (fun c => { c with req := (s.cluster k).asked s.now })
  have hr : (s.updCluster k (fun c => { c with req := (s.cluster k).asked s.now })).trimRuns k = false := (State.trimRuns_congr rfl k).trans h
  generalize s.updCluster k (fun c => { c with req := (s.cluster k).asked s.now }) = a at *
  obtain ⟨-, ht, -, -, -, hs⟩ := a.showTrim_spec k
  refine ⟨(State.cluster_congr ht k).trans hc, fun hq => ?_⟩
  have h3 : (a.cluster k).shown = 3 := by rw [hc, TrimCluster.asked, hq]; rfl
  rw [h3] at hs
  exact hs hr (by decide)

theorem requestOf_off (mask : Nat) (k i : Fin 8) (h : i ≠ k) : (requestOf mask i s).trimOf k = s.trimOf k := by
  have hne : (i : Nat) ≠ k := fun e => h (Fin.ext e)
  have hk := k.isLt
  have hi := i.isLt
  unfold requestOf
  split
  · rw [State.trimOf_iff]
    have hc := s.cluster_updCluster_off hne (fun c => { c with result := if c.result = 6 then 2 else c.result })
    have hr : (s.updCluster i (fun c => { c with result := if c.result = 6 then 2 else c.result })).trm.running = s.trm.running := rfl
    have hn : (s.updCluster i (fun c => { c with result := if c.result = 6 then 2 else c.result })).now = s.now := rfl
    have hd : (s.updCluster i (fun c => { c with result := if c.result = 6 then 2 else c.result })).rd 0x2401 (k + 1) = s.rd 0x2401 (k + 1) :=
      State.rd_congr rfl _ _
    generalize s.updCluster i (fun c => { c with result := if c.result = 6 then 2 else c.result }) = a at *
    cases hrun : a.trimRuns i with
    | true => rw [a.askTrim_running i hrun]; exact ⟨hc, hr, hn, hd⟩
    | false =>
      rw [a.askTrim_eq hrun]
      have hc2 := a.cluster_updCluster_off hne (fun c => { c with req := (a.cluster i).asked a.now })
      have hr2 : (a.updCluster i (fun c => { c with req := (a.cluster i).asked a.now })).trm.running = a.trm.running := rfl
      have hn2 : (a.updCluster i (fun c => { c with req := (a.cluster i).asked a.now })).now = a.now := rfl
      have hd2 : (a.updCluster i (fun c => { c with req := (a.cluster i).asked a.now })).rd 0x2401 (k + 1) = a.rd 0x2401 (k + 1) := State.rd_congr rfl _ _
      generalize a.updCluster i (fun c => { c with req := (a.cluster i).asked a.now }) = b at *
      obtain ⟨hw, ht, hn3, -⟩ := b.showTrim_spec i
      refine ⟨(State.cluster_congr ht k).trans (hc2.trans hc), ?_, hn3.trans (hn2.trans hn), (hw.rd (by omega) (by omega)).trans (hd2.trans hd)⟩
      rw [ht, hr2, hr]
  · rfl

theorem requestOf_unnamed {mask k : Nat} (h : bit mask k = false) : requestOf mask k s = s := if_neg (by simp [h])

theorem requestOf_at {mask : Nat} (k : Fin 8) (h : bit mask k = true) (hr : s.trimRuns k = false) : let t := requestOf mask k s
    t.cluster k = { s.cluster k with
      req := (s.cluster k).asked s.now, result := if (s.cluster k).result = 6 then 2 else (s.cluster k).result } ∧
    ((s.cluster k).req = none → t.rd 0x2401 (k + 1) = 3) := by
  dsimp only
  unfold requestOf
  rw [if_pos h]
  have hc := s.cluster_updCluster_self k (fun c => { c with result := if c.result = 6 then 2 else c.result })
  have hrun : (s.updCluster k (fun c => { c with result := if c.result = 6 then 2 else c.result })).trimRuns k = false := (State.trimRuns_congr rfl k).trans hr
  have hn : (s.updCluster k (fun c => { c with result := if c.result = 6 then 2 else c.result })).now = s.now := rfl
  generalize s.updCluster k (fun c => { c with result := if c.result = 6 then 2 else c.result }) = a at *
  have ha := a.askTrim_at k hrun
  rw [hc, hn] at ha
  exact ha

/-- Cluster `k` after a request named it, seen from the state `u` before. -/
def State.RequestMade (u : State) (k : Nat) (t : State) : Prop :=
  t.cluster k = { u.cluster k with
    req := (u.cluster k).asked u.now, result := if (u.cluster k).result = 6 then 2 else (u.cluster k).result } ∧
  ((u.cluster k).req = none → t.rd 0x2401 (k + 1) = 3)

theorem requests_unnamed {mask : Nat} (k : Fin 8) (h : bit mask k = false) : (s.each 8 (requestOf mask)).cluster k = s.cluster k := by
  refine State.each_off (fun t => t.cluster k) (fun i hi t => ?_) s
  by_cases e : i = k
  · rw [e, requestOf_unnamed t h]
  · exact (State.trimOf_iff.mp (requestOf_off t mask k ⟨i, hi⟩ (fun e' => e (congrArg Fin.val e')))).1

theorem requests_named {mask : Nat} (k : Fin 8) (h : bit mask k = true) (hr : s.trimRuns k = false) : s.RequestMade k (s.each 8 (requestOf mask)) := by
  have hoff : ∀ i ∈ List.range 8, i ≠ k.val → ∀ t : State, (requestOf mask i t).trimOf k = t.trimOf k := fun i hi hne t =>
    requestOf_off t mask k ⟨i, List.mem_range.mp hi⟩ (fun e => hne (congrArg Fin.val e))
  have hI : ∀ i ∈ List.range 8, i ≠ k.val → ∀ t : State, t.trimOf k = s.trimOf k → (requestOf mask i t).trimOf k = s.trimOf k :=
    fun i hi hne t ht => (hoff i hi hne t).trans ht
  have hJ : ∀ i ∈ List.range 8, i ≠ k.val → ∀ t : State, s.RequestMade k t → s.RequestMade k (requestOf mask i t) := by
    intro i hi hne t ⟨hc, hd⟩
    obtain ⟨hc', -, -, hd'⟩ := State.trimOf_iff.mp (hoff i hi hne t)
    exact ⟨hc'.trans hc, fun hq => hd'.trans (hd hq)⟩
  have hat : ∀ t : State, t.trimOf k = s.trimOf k → s.RequestMade k (requestOf mask k t) := by
    intro t ht
    obtain ⟨hc, hrun, hn, -⟩ := State.trimOf_iff.mp ht
    have := requestOf_at t k h ((State.trimRuns_congr hrun k).trans hr)
    rw [hc, hn] at this
    exact this
  exact State.eachOf_once _ _ List.nodup_range (List.mem_range.mpr k.isLt) hI hJ hat s rfl

/-! ### Which request is next (R399) -/

/-- R399: the requests that wait, lowest cluster first. -/
def State.trimRequests (s : State) : List (Nat × TrimReq) := (List.range 8).filterMap (fun k => (s.cluster k).req.map (fun r => (k, r)))

/-- R399: the older of the requests. -/
def olderReq (b : Option (Nat × TrimReq)) (p : Nat × TrimReq) : Option (Nat × TrimReq) := match b with
  | none => some p
  | some q => if p.2.since < q.2.since then some p else some q

/-- R399: the forced request found first, or else the oldest of all. -/
def firstTrim (forced : Option (Nat × TrimReq)) (l : List (Nat × TrimReq)) : Option (Nat × TrimReq) := match forced with
  | some p => some p
  | none => l.foldl olderReq none

theorem State.nextTrim_eq : s.nextTrim = firstTrim (s.trimRequests.find? (fun p => p.2.forced)) s.trimRequests := by
  unfold State.nextTrim firstTrim State.trimRequests olderReq
  rfl

theorem State.mem_trimRequests {k : Nat} {r : TrimReq} : (k, r) ∈ s.trimRequests ↔ k < 8 ∧ (s.cluster k).req = some r := by
  unfold State.trimRequests
  simp only [List.mem_filterMap, List.mem_range, Option.map_eq_some_iff, Prod.mk.injEq]
  constructor
  · rintro ⟨a, ha, q, hq, rfl, rfl⟩
    exact ⟨ha, hq⟩
  · rintro ⟨hk, hr⟩
    exact ⟨k, hk, r, hr, rfl, rfl⟩

/-- The first member of a list made in the order of `l` is that of the first member of `l` that has one. -/
theorem find_filterMap_first {α β : Type} (f : α → Option β) (p : β → Bool) {l l' : List α} {a : α} {b : β} (hf : f a = some b) (hp : p b = true)
    (h : ∀ x ∈ l, ∀ y, f x = some y → p y = false) : ((l ++ a :: l').filterMap f).find? p = some b := by
  rw [List.filterMap_append, List.find?_append, List.find?_eq_none.mpr, Option.none_or, List.filterMap_cons_some hf, List.find?_cons_of_pos hp]
  intro y hy
  obtain ⟨x, hx, e⟩ := List.mem_filterMap.mp hy
  rw [h x hx y e]
  exact Bool.false_ne_true

theorem range_split : ∀ k : Fin 8, List.range 8 = List.range k ++ k.val :: (List.range 8).drop (k + 1) := by decide

theorem State.nextTrim_forced {k : Fin 8} {r : TrimReq} (hk : (s.cluster k).req = some r) (hr : r.forced = true)
    (h : ∀ (i : Fin 8) (q : TrimReq), i < k → (s.cluster i).req = some q → q.forced = false) : s.nextTrim = some (k.val, r) := by
  have hfind : s.trimRequests.find? (fun p => p.2.forced) = some (k.val, r) := by
    unfold State.trimRequests
    rw [range_split k]
    refine find_filterMap_first _ _ (by rw [hk]; rfl) hr (fun i hi y hy => ?_)
    obtain ⟨q, hq, rfl⟩ := Option.map_eq_some_iff.mp hy
    have hi := List.mem_range.mp hi
    exact h ⟨i, by omega⟩ q hi hq
  rw [s.nextTrim_eq, hfind]
  rfl

theorem foldl_olderReq_mem {x : Nat × TrimReq} : ∀ {l : List (Nat × TrimReq)}, (∀ p ∈ l, p ≠ x → x.2.since < p.2.since) →
    l.foldl olderReq (some x) = some x := by
  intro l
  induction l with
  | nil => exact fun _ => rfl
  | cons a l ih =>
    intro h
    have ha : olderReq (some x) a = some x := by
      unfold olderReq
      dsimp only
      split
      · next hlt =>
        by_cases e : a = x
        · rw [e]
        · exact absurd hlt (Nat.lt_asymm (h a (by simp) e))
      · rfl
    rw [List.foldl_cons, ha]
    exact ih (fun p hp => h p (by simp [hp]))

/-- The request older than all the others is the one chosen, whatever was chosen of the others before it. -/
theorem foldl_olderReq {x : Nat × TrimReq} : ∀ {l : List (Nat × TrimReq)} {b : Option (Nat × TrimReq)}, x ∈ l → (∀ p ∈ l, p ≠ x → x.2.since < p.2.since) →
    (∀ p, b = some p → p ≠ x → x.2.since < p.2.since) → l.foldl olderReq b = some x := by
  intro l
  induction l with
  | nil => exact fun hx => absurd hx (by simp)
  | cons a l ih =>
    intro b hx h hb
    by_cases ha : a = x
    · have hx' : olderReq b a = some x := by
        unfold olderReq
        rcases b with _ | q
        · rw [ha]
        · dsimp only
          by_cases e : q = x
          · rw [ha, e, if_neg (Nat.lt_irrefl _)]
          · rw [ha, if_pos (hb q rfl e)]
      rw [List.foldl_cons, hx']
      exact foldl_olderReq_mem (fun p hp => h p (by simp [hp]))
    · refine ih (by simpa [Ne.symm ha] using hx) (fun p hp => h p (by simp [hp])) (fun p hp hne => ?_)
      unfold olderReq at hp
      rcases b with _ | q
      · exact Option.some.inj hp ▸ h a (by simp) ha
      · dsimp only at hp
        split at hp
        · exact Option.some.inj hp ▸ h a (by simp) ha
        · exact hb p (hp ▸ rfl) hne

theorem State.nextTrim_oldest {k : Fin 8} {r : TrimReq} (hk : (s.cluster k).req = some r)
    (h : ∀ (i : Fin 8) (q : TrimReq), (s.cluster i).req = some q → q.forced = false ∧ (i ≠ k → r.since < q.since)) : s.nextTrim = some (k.val, r) := by
  have hnone : s.trimRequests.find? (fun p => p.2.forced) = none := by
    refine List.find?_eq_none.mpr (fun ⟨i, q⟩ hp => ?_)
    obtain ⟨hi, hq⟩ := s.mem_trimRequests.mp hp
    simp [(h ⟨i, hi⟩ q hq).1]
  rw [s.nextTrim_eq, hnone]
  refine foldl_olderReq (s.mem_trimRequests.mpr ⟨k.isLt, hk⟩) (fun ⟨i, q⟩ hp hne => ?_) (fun _ hp => nomatch hp)
  obtain ⟨hi, hq⟩ := s.mem_trimRequests.mp hp
  refine (h ⟨i, hi⟩ q hq).2 (fun e => hne ?_)
  have ei : i = k.val := congrArg Fin.val e
  rw [ei] at hq ⊢
  rw [Option.some.inj (hq.symm.trans hk)]

/-! ### The start (R401) -/

/-- Two bits of a number, set to `v` and read back from so many of its bits that they are among them. -/
theorem field4_set_mod (n : Nat) {p l v : Nat} (hp : 0 < p) (hl : p * 4 ∣ l) (hv : v < 4) : (n - n / p % 4 * p + v * p) % l / p % 4 = v := by
  obtain ⟨c, rfl⟩ := hl
  have hq : n - n / p % 4 * p = n / p / 4 * (p * 4) + n % p := by
    have h1 := Nat.div_add_mod n p
    have h2 := Nat.div_add_mod (n / p) 4
    have : n = n / p / 4 * (p * 4) + n / p % 4 * p + n % p := by
      calc n = p * (n / p) + n % p := h1.symm
        _ = p * (4 * (n / p / 4) + n / p % 4) + n % p := by rw [h2]
        _ = _ := by ring
    omega
  have hx : n / p / 4 * (p * 4) + n % p + v * p = p * (n / p / 4 * 4 + v) + n % p := by ring
  rw [hq, hx, Nat.mul_assoc p 4 c, Nat.mod_mul_right_div_self, Nat.mod_mul_right_mod, Nat.mul_add_div hp, Nat.div_eq_of_lt (Nat.mod_lt n hp)]
  omega

theorem field4_set (n : Nat) (k : Fin 8) (v : Nat) (hv : v < 4) :
    (n - n / 4 ^ k.val % 4 * 4 ^ k.val + v * 4 ^ k.val) % 2 ^ 16 / 4 ^ k.val % 4 = v :=
  field4_set_mod n (Nat.pow_pos (by decide)) ((by decide : ∀ k : Fin 8, (4 : Nat) ^ k.val * 4 ∣ 2 ^ 16) k) hv

theorem State.setCluster_spec (k : Fin 8) {v : Nat} (hv : v < 4) : let t := s.setCluster k v
    Writes (fun i j => i = 0x2000 ∧ j = 3) s t ∧ t.trm = s.trm ∧ t.now = s.now ∧ t.compassOff = s.compassOff ∧ t.rdN 0x2000 3 / 4 ^ k.val % 4 = v := by
  dsimp only
  unfold State.setCluster
  refine ⟨(Writes.refl _ s).wr (by decide) ⟨rfl, rfl⟩, State.wr_trm _ _ _ _, State.wr_now _ _ _ _, State.wr_compassOff _ _ _ _, ?_⟩
  rw [State.rdN, State.rd_wr_self _ _ (by decide), trimTypes.1, Ty.wrap_u16]
  have h := field4_set (s.rdN 0x2000 3) k v hv
  generalize s.rdN 0x2000 3 - s.rdN 0x2000 3 / 4 ^ k.val % 4 * 4 ^ k.val + v * 4 ^ k.val = n at *
  have hn : ((n : Int) % 2 ^ 16).toNat = n % 2 ^ 16 := by omega
  rw [hn]
  exact h

/-- R401: the trim that starts is counted, as a forced one or as one placed. -/
def State.trimCounted (s : State) (forced : Bool) : State := if forced then s.bump 0x2400 7 else s.bump 0x5A30 6

theorem State.trimCounted_spec (forced : Bool) : let t := s.trimCounted forced
    Writes (fun i j => i = 0x2400 ∧ j = 7 ∨ i = 0x5A30) s t ∧ t.trm = s.trm ∧ t.now = s.now ∧
    t.rd 0x2400 7 = (if forced then (s.rd 0x2400 7 + 1) % 2 ^ 32 else s.rd 0x2400 7) := by
  dsimp only
  unfold State.trimCounted
  cases forced with
  | true =>
    refine ⟨(Writes.refl _ s).bump (by decide) (.inl ⟨rfl, rfl⟩), State.bump_trm _ _ _ _, State.bump_now _ _ _ _, ?_⟩
    exact (State.rd_wr_self _ _ (by decide)).trans (by rw [trimTypes.2.2.2.2.1]; rfl)
  | false =>
    refine ⟨(Writes.refl _ s).bump (by decide) (.inr rfl), State.bump_trm _ _ _ _, State.bump_now _ _ _ _, ?_⟩
    exact (State.rd_bump_at _ _ (by decide) (by decide)).trans (if_neg (by decide))

/-- R401: cluster `k`'s trim runs, its request `r` is served. -/
def State.trimBegun (s : State) (k : Nat) (r : TrimReq) (w : Option (Int × Int)) : State :=
  ({ s with trm := { s.trm with running := some ⟨k, s.now, r.forced, r.since, w⟩, abandon := false } } : State).updCluster k (fun c => { c with
    req := none, omits := if r.forced then some (s.fine, none) else c.omits })

theorem State.startTrim_eq (k : Nat) (r : TrimReq) (w : Option (Int × Int)) :
    s.startTrim k r w = (((s.trimCounted r.forced).trimBegun k r w).setCluster k 3).showTrim k := rfl

theorem State.trimBegun_spec (k : Fin 8) (r : TrimReq) (w : Option (Int × Int)) : let t := s.trimBegun k r w
    t.dict = s.dict ∧ t.trm.running = some ⟨k, s.now, r.forced, r.since, w⟩ ∧ (t.cluster k).req = none ∧
    ∀ i : Fin 8, i ≠ k → t.cluster i = s.cluster i := by
  refine ⟨rfl, rfl, ?_, fun i hi => ?_⟩
  · exact congrArg TrimCluster.req (State.cluster_updCluster_self _ k _)
  · exact State.cluster_updCluster_off _ (fun e => hi (Fin.ext e.symm)) _

theorem State.startTrim_spec (k : Fin 8) (r : TrimReq) (w : Option (Int × Int)) : let t := s.startTrim k r w
    t.trm.running = some ⟨k, s.now, r.forced, r.since, w⟩ ∧ (t.cluster k).req = none ∧ t.rdN 0x2000 3 / 4 ^ k.val % 4 = 3 ∧
      t.rd 0x2401 (k + 1) = 5 ∧ (∀ i : Fin 8, i ≠ k → t.cluster i = s.cluster i) ∧
      t.rd 0x2400 7 = (if r.forced then (s.rd 0x2400 7 + 1) % 2 ^ 32 else s.rd 0x2400 7) := by
  have hk := k.isLt
  dsimp only
  rw [s.startTrim_eq]
  obtain ⟨-, ht1, hn1, h7⟩ := s.trimCounted_spec r.forced
  generalize s.trimCounted r.forced = a at *
  obtain ⟨hd2, hr2, hq2, ho2⟩ := a.trimBegun_spec k r w
  generalize a.trimBegun k r w = b at *
  obtain ⟨hw3, ht3, -, -, h3⟩ := b.setCluster_spec k (v := 3) (by decide)
  generalize b.setCluster k 3 = c at *
  obtain ⟨hw4, ht4, -, -, h5, -⟩ := c.showTrim_spec k
  generalize c.showTrim k = d at *
  have hrun : d.trm.running = some ⟨k, a.now, r.forced, r.since, w⟩ := by rw [ht4, ht3, hr2]
  have hcl (i : Nat) : d.cluster i = b.cluster i := (State.cluster_congr ht4 i).trans (State.cluster_congr ht3 i)
  have hruns : c.trimRuns k = true := c.trimRuns_some (x := ⟨k, a.now, r.forced, r.since, w⟩) (by rw [ht3, hr2])
  refine ⟨by rw [hrun, hn1], by rw [hcl]; exact hq2, ?_, h5 hruns, fun i hi => ?_, ?_⟩
  · rw [State.rdN, hw4.rd (by decide) (by omega)]
    exact h3
  · rw [hcl, ho2 i hi, State.cluster_congr ht1]
  · rw [hw4.rd (by decide) (by omega), hw3.rd (by decide) (by omega), State.rd_congr hd2, h7]

/-! ### When a trim starts (R399 to R401) -/

theorem foldl_max_lt {x : Nat} (f : Nat → Nat) : ∀ {l : List Nat} {b : Nat}, b < x → (∀ i ∈ l, f i < x) → l.foldl (fun t i => max t (f i)) b < x := by
  intro l
  induction l with
  | nil => exact fun hb _ => hb
  | cons a l ih => exact fun hb h => ih (Nat.max_lt.mpr ⟨hb, h a (by simp)⟩) (fun i hi => h i (by simp [hi]))

end

section
variable {s v : State} {dt : Nat} (e : s.arrive dt = v) (hq : v.queuesRun = true) (hm : v.dev.move ≠ .entering) (hr : v.trm.running = none)
  (hc : v.sh.capture = none) (hmea : v.rcp.measure = none)

/-- R401: what the start of trims does with the request `r` of cluster `k`. -/
def State.trimDue (s : State) (k : Nat) (r : TrimReq) : State :=
  if r.forced then s.startTrim k r none
  else match s.quiet k with
    | none => s
    | some w => if s.affords 720 then s.startTrim k r w else s

include e hq hm hr hc hmea

theorem exec_selfTrimStart {k : Fin 8} {r : TrimReq} (hn : v.nextTrim = some (k.val, r)) (hcool : v.afeCool k = true) (ha : r.asked < v.can.tickNow)
    (hend : ∀ i : Fin 8, (v.cluster i).endAt < v.can.tickNow) : exec (.selfTrimStart dt) s = .next (v.trimDue k r) := by
  refine (timed_at e ?_ : execSelfTrimStart dt s = _).trans (congrArg _ ?_)
  · rw [hq, hr, hc, hmea, decide_eq_true hm]
    rfl
  · have h0 : 0 < v.can.tickNow := Nat.lt_of_le_of_lt (Nat.zero_le _) ha
    have hlt : (List.range 8).foldl (fun t i => max t (v.cluster i).endAt) 0 < v.can.tickNow :=
      foldl_max_lt (fun i => (v.cluster i).endAt) h0 (fun i hi => hend ⟨i, List.mem_range.mp hi⟩)
    have hno : ¬ (v.can.tickNow ≤ max r.asked ((List.range 8).foldl (fun t i => max t (v.cluster i).endAt) 0) ∨ (!v.afeCool k.val) = true) := by
      rw [hcool]
      exact fun h => h.elim (fun h => absurd (Nat.max_lt.mpr ⟨ha, hlt⟩) (Nat.not_lt.mpr h)) (fun h => nomatch h)
    unfold State.trimDue
    dsimp only
    rw [hn]
    dsimp only
    exact (if_neg hno).trans rfl

end

section
variable (s : State) {k : Nat} {r : TrimReq}

theorem State.trimDue_forced (h : r.forced = true) : s.trimDue k r = s.startTrim k r none := if_pos h

theorem State.trimDue_quiet {w : Option (Int × Int)} (h : r.forced = false) (hw : s.quiet k = some w) (ha : s.affords 720 = true) :
    s.trimDue k r = s.startTrim k r w := by
  unfold State.trimDue
  rw [if_neg (by simp [h]), hw]
  exact if_pos ha

theorem State.trimDue_busy (h : r.forced = false) (hw : s.quiet k = none) : s.trimDue k r = s := by
  unfold State.trimDue
  rw [if_neg (by simp [h]), hw]

end

end Sys2Proof.Machine
end
section
/-! ## Self-trim: ends and records (O52) -/
set_option Elab.async false
namespace Sys2Proof.Machine

section
variable (s : State)

/-! ### A trim is over (R401) -/

/-- R387: exposures outside the trim's window are counted and told. -/
def State.trimOverrun (s : State) (x : Trimming) : State := if s.overran x then (s.bump 0x5A30 7).raise1 650 0 else s

/-- R401: no trim runs, and cluster `x.cluster` keeps when its last one ended. -/
def State.trimStopped (s : State) (x : Trimming) : State :=
  ({ s with trm := { s.trm with running := none, abandon := false } } : State).updCluster x.cluster (fun c => { c with
    endAt := s.now, omits := match c.omits with | some (a, none) => some (a, some s.fine) | o => o })

theorem State.endTrim_eq (x : Trimming) : s.endTrim x = ((s.trimOverrun x).trimStopped x).afterTrim x.cluster := rfl

/-- The entries that the end of a trim writes (R22, R387). -/
def trimEndEntry (i j : Nat) : Prop := i = 0x5A30 ∨ i = 0x2800 + 650 ∨ i = 0x2000 ∧ j = 3

/-- From `s` to `t` the trim of cluster `k` has ended: what the cluster waits for and has had stays. -/
structure TrimEnded (k : Nat) (s t : State) : Prop where
  writes : Writes trimEndEntry s t
  now : t.now = s.now
  compassOff : t.compassOff = s.compassOff
  running : t.trm.running = none
  req : (t.cluster k).req = (s.cluster k).req
  result : (t.cluster k).result = (s.cluster k).result
  reads : (t.cluster k).reads = (s.cluster k).reads

theorem State.trimOverrun_spec (x : Trimming) : let t := s.trimOverrun x
    Writes trimEndEntry s t ∧ t.now = s.now ∧ t.compassOff = s.compassOff ∧ t.trm = s.trm := by
  dsimp only
  unfold State.trimOverrun
  split
  · have hw : Writes trimEndEntry s (s.bump 0x5A30 7) := (Writes.refl _ s).bump (by decide) (.inl rfl)
    exact ⟨hw.raise1 (fun _ => .inr (.inl rfl)), (State.raise1_now _ _ _).trans (State.bump_now _ _ _ _),
      (State.raise1_compassOff _ _ _).trans (State.bump_compassOff _ _ _ _), (State.raise1_trm _ _ _).trans (State.bump_trm _ _ _ _)⟩
  · exact ⟨.refl _ s, rfl, rfl, rfl⟩

theorem State.afterTrim_spec (k : Fin 8) : let t := s.afterTrim k
    Writes trimEndEntry s t ∧ t.now = s.now ∧ t.compassOff = s.compassOff ∧ t.trm = s.trm := by
  have hv : (if bit (s.rdN 0x2000 4) k && s.queuesRun then (if s.dev.st = .scanning && bit s.dev.running k then 2 else 1) else 0) < 4 := by
    split
    · split <;> decide
    · decide
  obtain ⟨hw, ht, hn, hc, -⟩ := s.setCluster_spec k hv
  exact ⟨hw.mono (fun _ _ h => .inr (.inr h)), hn, hc, ht⟩

theorem State.endTrim_spec {x : Trimming} {k : Fin 8} (hx : x.cluster = k.val) : TrimEnded k s (s.endTrim x) := by
  rw [s.endTrim_eq, hx]
  obtain ⟨hw1, hn1, hc1, ht1⟩ := s.trimOverrun_spec x
  have hcl1 := State.cluster_congr ht1 k
  generalize s.trimOverrun x = a at *
  have hw2 : Writes trimEndEntry a (a.trimStopped x) := .eq (.refl _ a) rfl rfl
  have hn2 : (a.trimStopped x).now = a.now := rfl
  have hc2 : (a.trimStopped x).compassOff = a.compassOff := rfl
  have hr2 : (a.trimStopped x).trm.running = none := rfl
  have hk2 : (a.trimStopped x).cluster k = { a.cluster k with
      endAt := a.now, omits := ((a.trimStopped x).cluster k).omits } := by
    unfold State.trimStopped
    rw [hx, State.cluster_updCluster_self]
    rfl
  generalize a.trimStopped x = b at *
  obtain ⟨hw3, hn3, hc3, ht3⟩ := b.afterTrim_spec k
  have hcl3 := State.cluster_congr ht3 k
  generalize b.afterTrim k = c at *
  refine ⟨(hw1.trans hw2).trans hw3, hn3.trans (hn2.trans hn1), hc3.trans (hc2.trans hc1), by rw [ht3, hr2], ?_, ?_, ?_⟩
  all_goals rw [hcl3, hk2, hcl1]

/-! ### It has passed or failed (R402) -/

/-- The entries that the outcome of cluster `k`'s trim writes (R402). -/
def trimDoneEntry (k i j : Nat) : Prop :=
  (i = 0x2402 ∧ j = k + 1) ∨ (i = 0x2405 ∧ j = k + 1) ∨ (i = 0x2400 ∧ (j = 4 ∨ j = 5 ∨ j = 6)) ∨ i = 0x2800 + (816 + k)

/-- R405: cluster `k` is marked passed, or failed. -/
def State.trimMarked (s : State) (k : Nat) (passed : Bool) : State := (s.wrBit 0x2400 4 k passed).wrBit 0x2400 5 k (!passed)

/-- R402: the reference and the failures of cluster `k` after a trim that passed. -/
def State.trimRef (s : State) (k : Nat) (ref : Int) : State := ((s.wr 0x2402 (k + 1) ref).wr 0x2405 (k + 1) 0).bump 0x2400 6

theorem State.trimPassed_eq (k : Nat) : s.trimPassed k =
    ((s.trimRef k ((s.clusterTemp k).getD (s.rd 0x2402 (k + 1)))).updCluster k (fun c => { c with
      result := 1, write := some ((s.clusterTemp k).getD (s.rd 0x2402 (k + 1))) })).trimMarked k true := rfl

theorem State.trimMarked_spec (k : Fin 8) (passed : Bool) : let t := s.trimMarked k passed
    Writes (fun i j => i = 0x2400 ∧ (j = 4 ∨ j = 5)) s t ∧ t.trm = s.trm ∧ t.now = s.now ∧ t.compassOff = s.compassOff ∧
    bit (t.rdN 0x2400 4) k = passed ∧ bit (t.rdN 0x2400 5) k = !passed := by
  dsimp only
  unfold State.trimMarked
  have hw1 : Writes (fun i j => i = 0x2400 ∧ (j = 4 ∨ j = 5)) s (s.wrBit 0x2400 4 k passed) := (Writes.refl _ s).wrBit (by decide) ⟨rfl, .inl rfl⟩
  have h4 := (s.bit_wrBit (by decide) trimTypes.2.1 k passed k.isLt).trans (if_pos rfl)
  have ht := State.wrBit_trm s 0x2400 4 k passed
  have hn := State.wrBit_now s 0x2400 4 k passed
  have hc := State.wrBit_compassOff s 0x2400 4 k passed
  generalize s.wrBit 0x2400 4 k passed = a at *
  refine ⟨hw1.wrBit (by decide) ⟨rfl, .inr rfl⟩, (State.wrBit_trm _ _ _ _ _).trans ht, (State.wrBit_now _ _ _ _ _).trans hn,
    (State.wrBit_compassOff _ _ _ _ _).trans hc, ?_, (a.bit_wrBit (by decide) trimTypes.2.2.1 k _ k.isLt).trans (if_pos rfl)⟩
  rw [State.rdN, State.wrBit, State.rd_wr_at _ _ (by decide) (by decide), if_neg (by decide)]
  exact h4

theorem State.trimRef_spec (k : Fin 8) (ref : Int) : let t := s.trimRef k ref
    Writes (trimDoneEntry k) s t ∧ t.trm = s.trm ∧ t.now = s.now ∧ t.compassOff = s.compassOff ∧
    t.rd 0x2402 (k + 1) = (tyAt 0x2402 (k + 1)).wrap ref ∧ t.rd 0x2405 (k + 1) = 0 ∧ t.rd 0x2400 6 = (s.rd 0x2400 6 + 1) % 2 ^ 32 := by
  have hk := k.isLt
  dsimp only
  unfold State.trimRef
  have hw1 : Writes (trimDoneEntry k) s (s.wr 0x2402 (k + 1) ref) := (Writes.refl _ s).wr (by omega) (.inl ⟨rfl, rfl⟩)
  have h1 : (s.wr 0x2402 (k + 1) ref).rd 0x2402 (k + 1) = (tyAt 0x2402 (k + 1)).wrap ref := State.rd_wr_self _ _ (by omega)
  have h6 : (s.wr 0x2402 (k + 1) ref).rd 0x2400 6 = s.rd 0x2400 6 := (State.rd_wr_at _ _ (by omega) (by decide)).trans (if_neg (by omega))
  have ht := State.wr_trm s 0x2402 (k + 1) ref
  have hn := State.wr_now s 0x2402 (k + 1) ref
  have hc := State.wr_compassOff s 0x2402 (k + 1) ref
  generalize s.wr 0x2402 (k + 1) ref = a at *
  have hw2 : Writes (trimDoneEntry k) s (a.wr 0x2405 (k + 1) 0) := hw1.wr (by omega) (.inr (.inl ⟨rfl, rfl⟩))
  have h2 : (a.wr 0x2405 (k + 1) 0).rd 0x2402 (k + 1) = _ := (State.rd_wr_at _ _ (by omega) (by omega)).trans ((if_neg (by omega)).trans h1)
  have h26 : (a.wr 0x2405 (k + 1) 0).rd 0x2400 6 = s.rd 0x2400 6 := (State.rd_wr_at _ _ (by omega) (by decide)).trans ((if_neg (by omega)).trans h6)
  have h5 : (a.wr 0x2405 (k + 1) 0).rd 0x2405 (k + 1) = 0 := by
    rw [State.rd_wr_self _ _ (by omega), (trimTypes.2.2.2.2.2.2 k).2.2]
    rfl
  have ht2 := (State.wr_trm a 0x2405 (k + 1) 0).trans ht
  have hn2 := (State.wr_now a 0x2405 (k + 1) 0).trans hn
  have hc2 := (State.wr_compassOff a 0x2405 (k + 1) 0).trans hc
  generalize a.wr 0x2405 (k + 1) 0 = b at *
  refine ⟨hw2.bump (by decide) (.inr (.inr (.inl ⟨rfl, .inr (.inr rfl)⟩))), (State.bump_trm _ _ _ _).trans ht2, (State.bump_now _ _ _ _).trans hn2,
    (State.bump_compassOff _ _ _ _).trans hc2, ?_, ?_, ?_⟩
  · exact (State.rd_bump_at _ _ (by decide) (by omega)).trans ((if_neg (by omega)).trans h2)
  · exact (State.rd_bump_at _ _ (by decide) (by omega)).trans ((if_neg (by omega)).trans h5)
  · refine (State.rd_bump_at _ _ (by decide) (by decide)).trans ((if_pos ⟨rfl, rfl⟩).trans ?_)
    rw [trimTypes.2.2.2.1, h26]
    rfl

/-- From `s` to `t` cluster `k`'s trim is marked: what runs, the time and the request stay. -/
structure TrimJudged (k : Nat) (passed : Bool) (s t : State) : Prop where
  writes : Writes (trimDoneEntry k) s t
  running : t.trm.running = s.trm.running
  now : t.now = s.now
  compassOff : t.compassOff = s.compassOff
  req : (t.cluster k).req = (s.cluster k).req
  ok : bit (t.rdN 0x2400 4) k = passed
  bad : bit (t.rdN 0x2400 5) k = !passed

theorem State.trimPassed_spec (k : Fin 8) : let t := s.trimPassed k
    TrimJudged k true s t ∧ (t.cluster k).result = 1 ∧ t.rd 0x2405 (k + 1) = 0 ∧ t.rd 0x2400 6 = (s.rd 0x2400 6 + 1) % 2 ^ 32 ∧
    ∀ temp, s.clusterTemp k = some temp → t.rd 0x2402 (k + 1) = (tyAt 0x2402 (k + 1)).wrap temp := by
  have hk := k.isLt
  dsimp only
  rw [s.trimPassed_eq]
  have href (temp : Int) (h : s.clusterTemp k = some temp) : (s.clusterTemp k).getD (s.rd 0x2402 (k + 1)) = temp := by rw [h]; rfl
  generalize (s.clusterTemp k).getD (s.rd 0x2402 (k + 1)) = ref at *
  obtain ⟨hw1, ht1, hn1, hc1, h2, h5, h6⟩ := s.trimRef_spec k ref
  have hcl1 := State.cluster_congr ht1 k
  generalize s.trimRef k ref = a at *
  have hd2 : (a.updCluster k (fun c => { c with result := 1, write := some ref })).dict = a.dict := rfl
  have hw2 : Writes (trimDoneEntry k) s (a.updCluster k (fun c => { c with result := 1, write := some ref })) := hw1.updCluster
  have hcl2 := a.cluster_updCluster_self k (fun c => { c with result := 1, write := some ref })
  have hr2 : (a.updCluster k (fun c => { c with result := 1, write := some ref })).trm.running = a.trm.running := rfl
  have hn2 : (a.updCluster k (fun c => { c with result := 1, write := some ref })).now = a.now := rfl
  have hc2 : (a.updCluster k (fun c => { c with result := 1, write := some ref })).compassOff = a.compassOff := rfl
  generalize a.updCluster k (fun c => { c with result := 1, write := some ref }) = b at *
  obtain ⟨hw3, ht3, hn3, hc3, hok, hbad⟩ := b.trimMarked_spec k true
  have hcl3 := State.cluster_congr ht3 k
  generalize b.trimMarked k true = c at *
  have hw : Writes (trimDoneEntry k) s c := hw2.trans (hw3.mono fun i j h => .inr (.inr (.inl ⟨h.1, h.2.elim .inl (fun h => .inr (.inl h))⟩)))
  refine ⟨⟨hw, by rw [ht3, hr2, ht1], hn3.trans (hn2.trans hn1), hc3.trans (hc2.trans hc1), by rw [hcl3, hcl2, hcl1], hok, hbad⟩, by rw [hcl3, hcl2], ?_, ?_, fun temp h => ?_⟩
  · rw [hw3.rd (by omega) (by omega), State.rd_congr hd2, h5]
  · rw [hw3.rd (by decide) (by omega), State.rd_congr hd2, h6]
  · rw [hw3.rd (by omega) (by omega), State.rd_congr hd2, h2, href temp h]

/-- R402: a failed trim is counted and told. -/
def State.failTold (s : State) (k : Nat) : State := (s.wr 0x2405 (k + 1) (min 3 (s.rdN 0x2405 (k + 1) + 1) : Nat)).raise1 (816 + k) 0

theorem State.trimFailed_eq (k : Nat) : s.trimFailed k =
    ((s.failTold k).updCluster k (fun c => { c with
      result := if min 3 (s.rdN 0x2405 (k + 1) + 1) = 3 then 6 else 2
      retryAt := s.now + s.rdN 0x2400 9 * 1000000000 })).trimMarked k false := rfl

theorem State.failTold_spec (k : Fin 8) : let t := s.failTold k
    Writes (trimDoneEntry k) s t ∧ t.trm = s.trm ∧ t.now = s.now ∧ t.compassOff = s.compassOff ∧
    t.rdN 0x2405 (k + 1) = min 3 (s.rdN 0x2405 (k + 1) + 1) ∧ t.rd 0x2402 (k + 1) = s.rd 0x2402 (k + 1) ∧
    t.Presents (816 + k) := by
  have hk := k.isLt
  dsimp only
  unfold State.failTold
  generalize hn : min 3 (s.rdN 0x2405 (k + 1) + 1) = n
  have hn3 : n ≤ 3 := by omega
  have hw1 : Writes (trimDoneEntry k) s (s.wr 0x2405 (k + 1) n) := (Writes.refl _ s).wr (by omega) (.inr (.inl ⟨rfl, rfl⟩))
  have h5 : (s.wr 0x2405 (k + 1) n).rdN 0x2405 (k + 1) = n := by
    rw [State.rdN, State.rd_wr_self _ _ (by omega), (trimTypes.2.2.2.2.2.2 k).2.2, Ty.wrap_u8]
    omega
  have hoff : (s.wr 0x2405 (k + 1) n).rd 0x2402 (k + 1) = s.rd 0x2402 (k + 1) :=
    (State.rd_wr_at _ _ (by omega) (by omega)).trans (if_neg (by omega))
  have ht := State.wr_trm s 0x2405 (k + 1) n
  have hnow := State.wr_now s 0x2405 (k + 1) n
  have hc := State.wr_compassOff s 0x2405 (k + 1) n
  generalize s.wr 0x2405 (k + 1) n = a at *
  have hw2 : Writes (fun i _ => i = 0x2800 + (816 + k)) a (a.raise1 (816 + k) 0) := (Writes.refl _ a).raise1 (fun _ => rfl)
  refine ⟨hw1.trans (hw2.mono fun _ _ h => .inr (.inr (.inr h))), (State.raise1_trm _ _ _).trans ht, (State.raise1_now _ _ _).trans hnow,
    (State.raise1_compassOff _ _ _).trans hc, ?_, ?_, a.presents_raise1 _ _⟩
  · rw [State.rdN, hw2.rd (by omega) (by omega)]
    exact h5
  · rw [hw2.rd (by omega) (by omega), hoff]

theorem State.trimFailed_spec (k : Fin 8) : let t := s.trimFailed k
    TrimJudged k false s t ∧ (t.cluster k).result = (if 2 ≤ s.rdN 0x2405 (k + 1) then 6 else 2) ∧
    t.rdN 0x2405 (k + 1) = min 3 (s.rdN 0x2405 (k + 1) + 1) ∧ t.rd 0x2402 (k + 1) = s.rd 0x2402 (k + 1) ∧
    (t.cluster k).retryAt = s.now + s.rdN 0x2400 9 * 1000000000 ∧ t.Presents (816 + k) := by
  have hk := k.isLt
  dsimp only
  rw [s.trimFailed_eq]
  have h3 : (if min 3 (s.rdN 0x2405 (k + 1) + 1) = 3 then 6 else 2) = if 2 ≤ s.rdN 0x2405 (k + 1) then 6 else 2 := if_congr (by omega) rfl rfl
  rw [h3]
  generalize (if 2 ≤ s.rdN 0x2405 (k + 1) then 6 else 2) = r
  obtain ⟨hw1, ht1, hn1, hc1, h5, h2, hp1⟩ := s.failTold_spec k
  have hcl1 := State.cluster_congr ht1 k
  generalize s.failTold k = a at *
  generalize s.now + s.rdN 0x2400 9 * 1000000000 = at_
  have hd2 : (a.updCluster k (fun c => { c with result := r, retryAt := at_ })).dict = a.dict := rfl
  have hw2 : Writes (trimDoneEntry k) s (a.updCluster k (fun c => { c with result := r, retryAt := at_ })) := hw1.updCluster
  have hcl2 := a.cluster_updCluster_self k (fun c => { c with result := r, retryAt := at_ })
  have hr2 : (a.updCluster k (fun c => { c with result := r, retryAt := at_ })).trm.running = a.trm.running := rfl
  have hn2 : (a.updCluster k (fun c => { c with result := r, retryAt := at_ })).now = a.now := rfl
  have hc2 : (a.updCluster k (fun c => { c with result := r, retryAt := at_ })).compassOff = a.compassOff := rfl
  have hp2 : (a.updCluster k (fun c => { c with result := r, retryAt := at_ })).Presents (816 + k) := hp1
  generalize a.updCluster k (fun c => { c with result := r, retryAt := at_ }) = b at *
  obtain ⟨hw3, ht3, hn3, hc3, hok, hbad⟩ := b.trimMarked_spec k false
  have hcl3 := State.cluster_congr ht3 k
  generalize b.trimMarked k false = c at *
  have hw : Writes (trimDoneEntry k) s c := hw2.trans (hw3.mono fun i j h => .inr (.inr (.inl ⟨h.1, h.2.elim .inl (fun h => .inr (.inl h))⟩)))
  refine ⟨⟨hw, by rw [ht3, hr2, ht1], hn3.trans (hn2.trans hn1), hc3.trans (hc2.trans hc1), by rw [hcl3, hcl2, hcl1], hok, hbad⟩, by rw [hcl3, hcl2], ?_, ?_,
    by rw [hcl3, hcl2], hw3.presents hp2⟩
  · rw [State.rdN, hw3.rd (by omega) (by omega), State.rd_congr hd2]
    exact h5
  · rw [hw3.rd (by omega) (by omega), State.rd_congr hd2, h2]

/-- R402: when cluster `k`'s trim ended is shown, and its state. -/
def State.trimShown (s : State) (k : Nat) : State := (s.wr 0x2404 (k + 1) s.fine).showTrim k

theorem State.trimShown_spec (k : Fin 8) (hr : s.trm.running = none) (hq : (s.cluster k).req = none) (hres : (s.cluster k).result < 256) :
    let t := s.trimShown k
    Writes (fun i j => (i = 0x2404 ∨ i = 0x2401) ∧ j = k + 1) s t ∧ t.trm = s.trm ∧ t.rd 0x2404 (k + 1) = s.fine ∧
      t.rd 0x2401 (k + 1) = (s.cluster k).result := by
  have hk := k.isLt
  dsimp only
  unfold State.trimShown
  have hw1 : Writes (fun i j => (i = 0x2404 ∨ i = 0x2401) ∧ j = k + 1) s (s.wr 0x2404 (k + 1) s.fine) := (Writes.refl _ s).wr (by omega) ⟨.inl rfl, rfl⟩
  have h4 : (s.wr 0x2404 (k + 1) s.fine).rd 0x2404 (k + 1) = s.fine := by
    rw [State.rd_wr_self _ _ (by omega), (trimTypes.2.2.2.2.2.2 k).2.1, Ty.wrap_u64]
    unfold State.fine
    omega
  have ht := State.wr_trm s 0x2404 (k + 1) s.fine
  have hcl := State.cluster_congr ht k
  generalize s.wr 0x2404 (k + 1) s.fine = a at *
  obtain ⟨hw2, ht2, -, -, -, hs⟩ := a.showTrim_spec k
  have hsh : (a.cluster k).shown = (s.cluster k).result := by rw [hcl, TrimCluster.shown, hq]
  rw [hsh] at hs
  refine ⟨hw1.trans (hw2.mono fun _ _ h => ⟨.inr h.1, h.2⟩), ht2.trans ht, ?_, hs (a.trimRuns_none (by rw [ht, hr]) k) hres⟩
  rw [hw2.rd (by omega) (by omega), h4]

end

section
variable {s v : State} {dt : Nat} {bad : BitVec 8} {x : Trimming} {k : Fin 8} (e : s.arrive dt = v) (hr : v.trm.running = some x) (hx : x.cluster = k.val)
include e hr hx

theorem exec_selfTrimEnd : exec (.selfTrimEnd dt bad) s = .next ((if (v.trimmed k).any (fun i => bad.getLsbD i)
    then (v.endTrim x).trimFailed k else (v.endTrim x).trimPassed k).trimShown k) := by
  refine (timed_at e (by rw [hr]; rfl) : execSelfTrimEnd dt bad s = _).trans (congrArg _ ?_)
  dsimp only
  rw [hr]
  dsimp only
  rw [hx]
  rfl

end

section
variable (s : State)

section
variable {x : Trimming} {k : Fin 8} (hx : x.cluster = k.val) (hq : (s.cluster k).req = none)
include hx hq

theorem State.trimEnd_good : let t := ((s.endTrim x).trimPassed k).trimShown k
    t.trm.running = none ∧ t.rd 0x2401 (k + 1) = 1 ∧ t.rd 0x2405 (k + 1) = 0 ∧ t.rd 0x2400 6 = (s.rd 0x2400 6 + 1) % 2 ^ 32 ∧
      t.rd 0x2404 (k + 1) = s.fine ∧ bit (t.rdN 0x2400 4) k = true ∧ bit (t.rdN 0x2400 5) k = false ∧
      ∀ temp, s.clusterTemp k = some temp → t.rd 0x2402 (k + 1) = (tyAt 0x2402 (k + 1)).wrap temp := by
  have hk := k.isLt
  dsimp only
  have he := s.endTrim_spec hx
  generalize s.endTrim x = a at *
  have htemp : a.clusterTemp k = s.clusterTemp k := by rw [State.clusterTemp, State.clusterTemp, he.reads]
  obtain ⟨hj, hres, h5, h6, h2⟩ := a.trimPassed_spec k
  generalize a.trimPassed k = b at *
  obtain ⟨hw, ht, h4, h1⟩ := b.trimShown_spec k (by rw [hj.running, he.running]) (by rw [hj.req, he.req, hq]) (by rw [hres]; decide)
  generalize b.trimShown k = t at *
  refine ⟨by rw [ht, hj.running, he.running], by rw [h1, hres]; rfl, ?_, ?_, ?_, ?_, ?_, fun temp h => ?_⟩
  · rw [hw.rd (by omega) (by omega), h5]
  · rw [hw.rd (by decide) (by omega), h6, he.writes.rd (by decide) (by unfold trimEndEntry; omega)]
  · rw [h4, State.fine_congr (hj.now.trans he.now) (hj.compassOff.trans he.compassOff)]
  · rw [State.rdN, hw.rd (by decide) (by omega)]
    exact hj.ok
  · rw [State.rdN, hw.rd (by decide) (by omega)]
    exact hj.bad
  · rw [hw.rd (by omega) (by omega), h2 temp (htemp.trans h)]

theorem State.trimEnd_bad : let t := ((s.endTrim x).trimFailed k).trimShown k
    t.trm.running = none ∧ t.rdN 0x2405 (k + 1) = min 3 (s.rdN 0x2405 (k + 1) + 1) ∧ t.rd 0x2401 (k + 1) = (if 2 ≤ s.rdN 0x2405 (k + 1) then 6 else 2) ∧
      t.rd 0x2402 (k + 1) = s.rd 0x2402 (k + 1) ∧ (t.cluster k).retryAt = s.now + s.rdN 0x2400 9 * 1000000000 ∧
      bit (t.rdN 0x2400 4) k = false ∧ bit (t.rdN 0x2400 5) k = true ∧ ∃ p ∈ t.ev.pres, p.src = 816 + k := by
  have hk := k.isLt
  dsimp only
  have he := s.endTrim_spec hx
  generalize s.endTrim x = a at *
  have hoff (i j : Nat) (hj : j < 256) (hi : i = 0x2405 ∨ i = 0x2402 ∨ i = 0x2400) : a.rd i j = s.rd i j :=
    he.writes.rd hj (by unfold trimEndEntry; omega)
  have h5' : a.rdN 0x2405 (k + 1) = s.rdN 0x2405 (k + 1) := congrArg Int.toNat (hoff _ _ (by omega) (.inl rfl))
  have h9' : a.rdN 0x2400 9 = s.rdN 0x2400 9 := congrArg Int.toNat (hoff _ _ (by decide) (.inr (.inr rfl)))
  obtain ⟨hj, hres, h5, h2, hat, hp⟩ := a.trimFailed_spec k
  rw [h5'] at hres h5
  rw [h9', he.now] at hat
  generalize a.trimFailed k = b at *
  have hb : (b.cluster k).result < 256 := by rw [hres]; split <;> decide
  obtain ⟨hw, ht, -, h1⟩ := b.trimShown_spec k (by rw [hj.running, he.running]) (by rw [hj.req, he.req, hq]) hb
  have hcl := State.cluster_congr ht k
  generalize b.trimShown k = t at *
  refine ⟨by rw [ht, hj.running, he.running], ?_, ?_, ?_, by rw [hcl, hat], ?_, ?_, hw.presents hp⟩
  · rw [State.rdN, hw.rd (by omega) (by omega)]
    exact h5
  · rw [h1, hres]
    split <;> rfl
  · rw [hw.rd (by omega) (by omega), h2, hoff _ _ (by omega) (.inr (.inl rfl))]
  · rw [State.rdN, hw.rd (by decide) (by omega)]
    exact hj.ok
  · rw [State.rdN, hw.rd (by decide) (by omega)]
    exact hj.bad

end

end

section
variable {s v : State} {dt : Nat} {bad : BitVec 8} {x : Trimming} {k : Fin 8} (e : s.arrive dt = v) (hr : v.trm.running = some x) (hx : x.cluster = k.val)
include e hr hx

theorem exec_trimEnd_good (h : ∀ i ∈ v.trimmed k, bad.getLsbD i = false) :
    exec (.selfTrimEnd dt bad) s = .next (((v.endTrim x).trimPassed k).trimShown k) := by
  have hno : ¬ (v.trimmed k).any (fun i => bad.getLsbD i) = true := by simpa using h
  exact (exec_selfTrimEnd e hr hx).trans (by rw [if_neg hno])

theorem exec_trimEnd_bad (h : ∃ i ∈ v.trimmed k, bad.getLsbD i = true) :
    exec (.selfTrimEnd dt bad) s = .next (((v.endTrim x).trimFailed k).trimShown k) :=
  (exec_selfTrimEnd e hr hx).trans (by rw [if_pos (List.any_eq_true.mpr h)])

end

/-! ### Abandoned trims (R403) -/

section
variable {s u : State} {dt : Nat}

/-- R403: the request of the abandoned trim `x` waits again. -/
def State.trimWaits (s : State) (x : Trimming) : State :=
  (s.updCluster x.cluster (fun c => { c with req := some ⟨x.forced, x.since, x.since⟩ })).showTrim x.cluster

theorem State.abandonTrim_eq {x : Trimming} (h : s.trm.running = some x) :
    s.abandonTrim = ((s.endTrim { x with forced := true }).bump 0x2400 8).trimWaits x := by
  unfold State.abandonTrim
  rw [h]
  rfl

theorem State.abandonTrim_spec {x : Trimming} {k : Fin 8} (h : s.trm.running = some x) (hx : x.cluster = k.val) : let t := s.abandonTrim
    t.trm.running = none ∧ (t.cluster k).req = some ⟨x.forced, x.since, x.since⟩ ∧ (t.cluster k).result = (s.cluster k).result ∧
      t.rd 0x2400 8 = (s.rd 0x2400 8 + 1) % 2 ^ 32 ∧ t.rd 0x2405 (k + 1) = s.rd 0x2405 (k + 1) := by
  have hk := k.isLt
  dsimp only
  rw [State.abandonTrim_eq h]
  have h1 := s.endTrim_spec (x := { x with forced := true }) hx
  generalize s.endTrim { x with forced := true } = a at *
  have h8 : (a.bump 0x2400 8).rd 0x2400 8 = (s.rd 0x2400 8 + 1) % 2 ^ 32 := by
    refine (State.rd_bump_at _ _ (by decide) (by decide)).trans ((if_pos ⟨rfl, rfl⟩).trans ?_)
    rw [trimTypes.2.2.2.2.2.1, h1.writes.rd (by decide) (by unfold trimEndEntry; omega)]
    rfl
  have h5 : (a.bump 0x2400 8).rd 0x2405 (k + 1) = s.rd 0x2405 (k + 1) :=
    (State.rd_bump_at _ _ (by decide) (by omega)).trans ((if_neg (by omega)).trans (h1.writes.rd (by omega) (by unfold trimEndEntry; omega)))
  have hb := State.bump_trm a 0x2400 8 1
  have hclb := State.cluster_congr hb k
  generalize a.bump 0x2400 8 = b at *
  unfold State.trimWaits
  rw [hx]
  have hd3 : (b.updCluster k (fun c => { c with req := some ⟨x.forced, x.since, x.since⟩ })).dict = b.dict := rfl
  have hr3 : (b.updCluster k (fun c => { c with req := some ⟨x.forced, x.since, x.since⟩ })).trm.running = b.trm.running := rfl
  have hcl3 := b.cluster_updCluster_self k (fun c => { c with req := some ⟨x.forced, x.since, x.since⟩ })
  generalize b.updCluster k (fun c => { c with req := some ⟨x.forced, x.since, x.since⟩ }) = c at *
  obtain ⟨hw4, ht4, -⟩ := c.showTrim_spec k
  have hcl4 := State.cluster_congr ht4 k
  generalize c.showTrim k = d at *
  refine ⟨by rw [ht4, hr3, hb, h1.running], by rw [hcl4, hcl3], by rw [hcl4, hcl3, hclb, h1.result], ?_, ?_⟩
  · rw [hw4.rd (by decide) (by omega), State.rd_congr hd3, h8]
  · rw [hw4.rd (by omega) (by omega), State.rd_congr hd3, h5]

theorem exec_selfTrimAbandoned {x : Trimming} (e : s.pass dt = u) (h : u.trm.running = some x)
    (hc : u.trm.abandon = true ∨ u.ev.fatal = true ∨ u.dev.move = .entering) : exec (.selfTrimAbandoned dt) s = .next u.abandonTrim := by
  refine (event_at e ?_ : execSelfTrimAbandoned dt s = _)
  rw [h]
  rcases hc with hc | hc | hc
  · rw [hc]
    rfl
  · rw [hc, Bool.or_true]
    rfl
  · rw [decide_eq_true hc, Bool.or_true]
    rfl

/-! ### Records (R404) -/

/-- R404: the place and the generation that the next record of a cluster takes. -/
def TrimCluster.nextPlace (c : TrimCluster) : Nat := match c.newest with | some (i, _) => 1 - i | none => 0

def TrimCluster.nextGen (c : TrimCluster) : Nat := match c.newest with | some (_, r) => r.gen + 1 | none => 1

/-- R404: a record with reference `ref` is written. -/
def TrimCluster.recorded (c : TrimCluster) (ref : Int) : TrimCluster := { c with recs := vupd c.recs c.nextPlace (fun _ => some ⟨c.nextGen, ref⟩) }

/-- R404: the newer of the records in the two places. -/
def newerRec (a b : Option TrimRec) : Option (Nat × TrimRec) := match a, b with
  | some a, some b => if a.gen < b.gen then some (1, b) else some (0, a)
  | some a, none => some (0, a)
  | none, some b => some (1, b)
  | none, none => none

theorem TrimCluster.newest_eq (c : TrimCluster) : c.newest = newerRec (vget c.recs 0) (vget c.recs 1) := rfl

theorem newerRec_none {a b : Option TrimRec} (h : newerRec a b = none) : a = none ∧ b = none := by
  rcases a with _ | a <;> rcases b with _ | b
  · exact ⟨rfl, rfl⟩
  · cases h
  · cases h
  · dsimp only [newerRec] at h
    split at h <;> cases h

/-- The newest record stands at its place, and a newer one at the other place takes over. -/
theorem newerRec_some {a b : Option TrimRec} {i : Nat} {r : TrimRec} (h : newerRec a b = some (i, r)) (ref : Int) :
    (i = 0 ∧ newerRec a (some ⟨r.gen + 1, ref⟩) = some (1, ⟨r.gen + 1, ref⟩)) ∨ (i = 1 ∧ newerRec (some ⟨r.gen + 1, ref⟩) b = some (0, ⟨r.gen + 1, ref⟩)) := by
  rcases a with _ | a <;> rcases b with _ | b
  · cases h
  · cases h
    exact .inr ⟨rfl, if_neg (by simp)⟩
  · cases h
    exact .inl ⟨rfl, if_pos (Nat.lt_succ_self _)⟩
  · dsimp only [newerRec] at h
    split at h
    · cases h
      exact .inr ⟨rfl, if_neg (by simp)⟩
    · cases h
      exact .inl ⟨rfl, if_pos (Nat.lt_succ_self _)⟩

theorem TrimCluster.recorded_first {c : TrimCluster} (h : c.newest = none) (ref : Int) : vget (c.recorded ref).recs 0 = some ⟨1, ref⟩ := by
  unfold TrimCluster.recorded TrimCluster.nextPlace TrimCluster.nextGen
  rw [h]
  exact (vget_vupd _ _ _ _).trans (if_pos ⟨rfl, by decide⟩)

theorem TrimCluster.recorded_next {c : TrimCluster} {i : Nat} {r : TrimRec} (h : c.newest = some (i, r)) (ref : Int) :
    (c.recorded ref).newest = some (1 - i, ⟨r.gen + 1, ref⟩) := by
  have hp : c.nextPlace = 1 - i := by unfold TrimCluster.nextPlace; rw [h]
  have hg : c.nextGen = r.gen + 1 := by unfold TrimCluster.nextGen; rw [h]
  have hv (j : Nat) : vget (c.recorded ref).recs j = if 1 - i = j ∧ 1 - i < 2 then some ⟨r.gen + 1, ref⟩ else vget c.recs j := by
    unfold TrimCluster.recorded
    rw [hp, hg]
    exact vget_vupd _ _ _ _
  rw [TrimCluster.newest_eq, hv, hv]
  rcases newerRec_some (c.newest_eq.symm.trans h) ref with ⟨rfl, hn⟩ | ⟨rfl, hn⟩
  · exact hn
  · exact hn

section
variable (s : State) (k : Fin 8)

theorem State.recordWritten_spec (ref : Int) :
    let t := (s.updCluster k (fun c => { c with write := none })).updCluster k (fun c => c.recorded ref)
    (t.cluster k).write = none ∧ ((s.cluster k).newest = none → vget (t.cluster k).recs 0 = some ⟨1, ref⟩) ∧
    ∀ i r, (s.cluster k).newest = some (i, r) → (t.cluster k).newest = some (1 - i, ⟨r.gen + 1, ref⟩) := by
  dsimp only
  rw [State.cluster_updCluster_self, State.cluster_updCluster_self]
  exact ⟨rfl, fun h => TrimCluster.recorded_first h ref, fun i r h => TrimCluster.recorded_next h ref⟩

theorem State.recordFailed_recs : (((s.updCluster k (fun c => { c with write := none })).raise1 826 0).cluster k).recs = (s.cluster k).recs := by
  rw [State.cluster_congr (State.raise1_trm _ _ _), State.cluster_updCluster_self]

end

section
variable {k : Fin 8} {ref : Int} (e : s.pass dt = u) (hw : (u.cluster k).write = some ref) (hj : u.journalActive = false) (hr : u.dev.ready = true)
include e hw hj hr

theorem exec_trimRecordWritten (good : Bool) : exec (.trimRecordWritten dt k good) s =
    .next (if !good then (u.updCluster k (fun c => { c with write := none })).raise1 826 0
      else (u.updCluster k (fun c => { c with write := none })).updCluster k (fun c => c.recorded ref)) := by
  refine (event_at e (by rw [hw, hj, hr]; rfl) : execTrimRecordWritten dt k good s = _).trans (congrArg _ ?_)
  dsimp only
  rw [hw]
  rfl

end

end

end Sys2Proof.Machine
namespace Sys2Proof
open Machine

/-- Settles O52: each clause is what a request, a start, an end or a record of a trim is shown above to do. -/
theorem selfTrim : Obligations.SelfTrim := by
  unfold Obligations.SelfTrim
  intro s dt u
  have e : s.pass dt = u := rfl
  clear_value u
  refine ⟨fun m mask hm hr h1 h2 => ?request, fun k r hk hf h => u.nextTrim_forced hk hf h, fun k r hk h => u.nextTrim_oldest hk h, ?start,
    fun k r w => u.startTrim_spec k r w, ?ends, fun x k hx hk hc => ⟨_, exec_selfTrimAbandoned e hx hc, State.abandonTrim_spec hx hk⟩, ?retry, ?record⟩
  case request =>
    have hv : verdict 0x2400 3 (mask : Nat) = .keep (mask : Nat) := by
      rw [verdict_of (show rowShape 0x2400 3 = some (.wo, .always, .only [(1, 255)], .u8) from rfl)]
      simp [Range.apply]
      omega
    subst e
    refine ⟨_, hostCommand_open hm hr (by decide +kernel) hv, fun k => ⟨fun h => requests_unnamed _ k h, fun h hrun hq => ?_, fun r h hrun hq => ?_⟩⟩
    · obtain ⟨hc, h3⟩ := requests_named (s.pass dt) k h hrun
      rw [TrimCluster.asked, hq] at hc
      exact ⟨hc, h3 hq⟩
    · obtain ⟨hc, -⟩ := requests_named (s.pass dt) k h hrun
      rw [TrimCluster.asked, hq] at hc
      exact congrArg TrimCluster.req hc
  case start =>
    intro k r v hq hm hrun hc hmea hn hcool ha hend
    have hx := exec_selfTrimStart (rfl : s.arrive dt = v) hq hm hrun hc hmea hn hcool ha hend
    exact ⟨fun hf => by rw [hx, v.trimDue_forced hf], fun w hf hw hpay => by rw [hx, v.trimDue_quiet hf hw hpay],
      fun hf hw => by rw [hx, v.trimDue_busy hf hw]⟩
  case ends =>
    intro x k bad v hrun hk hq
    have e' : s.arrive dt = v := rfl
    clear_value v
    exact ⟨fun h => ⟨_, exec_trimEnd_good e' hrun hk h, v.trimEnd_good hk hq⟩, fun h => ⟨_, exec_trimEnd_bad e' hrun hk h, v.trimEnd_bad hk hq⟩⟩
  case retry =>
    intro k h1 h2 hq hr hrun hat
    refine (event_at e ?_ : execSelfTrimRetry dt k s = _)
    rw [decide_eq_true h1, decide_eq_true h2, hq, hr, hrun, decide_eq_true hat]
    rfl
  case record =>
    intro k ref hw hj hr
    exact ⟨⟨_, exec_trimRecordWritten e hw hj hr true, u.recordWritten_spec k ref⟩,
      ⟨_, exec_trimRecordWritten e hw hj hr false, u.recordFailed_recs k, State.presents_raise1 _ _ _⟩⟩

end Sys2Proof
end
section
/-! ## Activation and migration (O55) -/
set_option Elab.async false
namespace Sys2Proof.Machine

/-! ### Commands of a master -/

section
variable {s u t : State} {dt i j c : Nat} {m : Fin 17} {v : Int} {op : Op} (e : s.pass dt = u) (hm : u.masterPresent m = true) (hr : u.dev.ready = true)
include e hm hr

/-- An accepted write is answered with what its operation gives. -/
theorem hostCommand_gives (ho : rowOpen i j = true) (hv : verdict i j v = .keep v) (h : op v u = (t, c)) :
    hostCommand dt m i j v op s = .next (t.answer m i j c) := by
  subst e
  have hx : hostCommand dt m i j v op s = _ := hostCommand_open hm hr ho hv
  rw [hx, h]

end

theorem updateRows : rowOpen 0x2202 3 = true ∧ verdict 0x2202 3 1 = .keep 1 ∧ verdict 0x2202 3 2 = .keep 2 ∧ rowOpen 0x2202 4 = true ∧
    verdict 0x2202 4 1 = .keep 1 ∧ rowOpen 0x2206 2 = true ∧ verdict 0x2206 2 0x74706361 = .keep 0x74706361 ∧ rowOpen 0x2206 4 = true ∧
    verdict 0x2206 4 0x72617571 = .keep 0x72617571 ∧ rowOpen 0x2200 0xB = true ∧ verdict 0x2200 0xB 1 = .keep 1 := by decide +kernel

theorem updateTypes : tyAt 0x2200 1 = .u8 ∧ tyAt 0x2200 2 = .u8 ∧ tyAt 0x2200 3 = .u8 ∧ tyAt 0x2200 4 = .u8 ∧ tyAt 0x2200 7 = .u32 ∧
    tyAt 0x2200 8 = .u32 ∧ tyAt 0x2200 0xC = .u8 ∧ tyAt 0x2202 8 = .u64 := by decide +kernel

section
variable (s : State)

/-! ### The session (R415) -/

theorem State.session_congr {s t : State} (h : t.rd 0x2200 1 = s.rd 0x2200 1) : t.session = s.session := congrArg Int.toNat h

theorem State.session_wr {v : Nat} (h : v < 256) : (s.wr 0x2200 1 v).session = v := by
  rw [State.session, State.rdN, State.rd_wr_self _ _ (by decide), updateTypes.1, Ty.wrap_u8]
  omega

/-- The entries that say whose session it is, and how far it is. -/
def sessionEntry (i j : Nat) : Prop := i = 0x2200 ∧ (j = 1 ∨ j = 2)

theorem State.setSession_spec {v holder : Nat} (hv : v < 256) (hh : holder < 256) : let t := s.setSession v holder
    Writes sessionEntry s t ∧ t.session = v ∧ t.rd 0x2200 2 = holder ∧ t.upd = s.upd ∧ t.pow = s.pow ∧ t.now = s.now ∧ t.compassOff = s.compassOff := by
  dsimp only
  unfold State.setSession
  have hw : Writes sessionEntry s (s.wr 0x2200 1 v) := (Writes.refl _ s).wr (by decide) ⟨rfl, .inl rfl⟩
  have hs := s.session_wr hv
  have hu := State.wr_upd s 0x2200 1 v
  have hp := State.wr_pow s 0x2200 1 v
  have hn := State.wr_now s 0x2200 1 v
  have hc := State.wr_compassOff s 0x2200 1 v
  generalize s.wr 0x2200 1 v = a at *
  refine ⟨hw.wr (by decide) ⟨rfl, .inr rfl⟩, ?_, ?_, (State.wr_upd _ _ _ _).trans hu, (State.wr_pow _ _ _ _).trans hp, (State.wr_now _ _ _ _).trans hn,
    (State.wr_compassOff _ _ _ _).trans hc⟩
  · rw [State.session_congr ((State.rd_wr_at _ _ (by decide) (by decide)).trans (if_neg (by decide))), hs]
  · rw [State.rd_wr_self _ _ (by decide), updateTypes.2.1, Ty.wrap_u8]
    omega

theorem State.fine_u64 : (s.fine : Int) % 2 ^ 64 = s.fine := by
  unfold State.fine
  omega

/-! ### The schedule (R419, R420) -/

theorem State.schedule_spec : s.schedule.session = 6 ∧ s.schedule.upd = { s.upd with at_ := s.rdN 0x2202 2, leaving := false } ∧ s.schedule.Presents 776 := by
  unfold State.schedule
  have hs := s.session_wr (v := 6) (by decide)
  have hu := State.wr_upd s 0x2200 1 (6 : Nat)
  generalize s.wr 0x2200 1 (6 : Nat) = a at *
  have hw : Writes (fun i _ => i = 0x2800 + 776) a (a.raise1 776 0) := (Writes.refl _ a).raise1 (fun _ => rfl)
  have hu2 := (State.raise1_upd a 776 0).trans hu
  have hp := a.presents_raise1 776 0
  generalize a.raise1 776 0 = b at *
  refine ⟨?_, ?_, hp⟩
  · exact (State.session_congr ((State.rd_congr rfl _ _).trans (hw.rd (by decide) (by decide)))).trans hs
  · exact congrArg (fun x : UpdateSt => { x with at_ := s.rdN 0x2202 2, leaving := false }) hu2

theorem State.unschedule_spec : s.unschedule.session = (if s.upd.accept.isSome then 0 else 5) ∧
    s.unschedule.upd = { s.upd with accept := none, leaving := false } ∧ s.unschedule.ev = s.ev := by
  unfold State.unschedule
  have hv : (if s.upd.accept.isSome then 0 else 5 : Nat) < 256 := by split <;> decide
  have hc : (if s.upd.accept.isSome then 0 else 5 : Int) = ((if s.upd.accept.isSome then 0 else 5 : Nat) : Int) := by split <;> rfl
  rw [hc]
  generalize (if s.upd.accept.isSome then 0 else 5 : Nat) = v at *
  have hs := s.session_wr hv
  have hu := State.wr_upd s 0x2200 1 v
  have he := State.wr_ev s 0x2200 1 v
  generalize s.wr 0x2200 1 v = a at *
  refine ⟨(State.session_congr (State.rd_congr rfl _ _)).trans hs, ?_, he⟩
  exact congrArg (fun x : UpdateSt => { x with accept := none, leaving := false }) hu

theorem opSchedule_busy {v : Int} (h : s.session ≠ 5) : opSchedule v s = (s, 8) := if_pos h

theorem opSchedule_noId {v : Int} (h : s.session = 5) (h0 : s.rd 0x2202 1 = 0) : opSchedule v s = (s, 5) := (if_neg (not_not_intro h)).trans (if_pos h0)

theorem opSchedule_local (h : s.session = 5) (h0 : s.rd 0x2202 1 ≠ 0) : opSchedule 1 s = (s.schedule, 0) :=
  (if_neg (not_not_intro h)).trans ((if_neg h0).trans ((if_neg (by simp)).trans rfl))

theorem opSchedule_noCasby (h : s.session = 5) (h0 : s.rd 0x2202 1 ≠ 0) (h4 : s.casbyState ≠ 4) (h5 : s.casbyState ≠ 5) : opSchedule 2 s = (s, 7) :=
  (if_neg (not_not_intro h)).trans ((if_neg h0).trans (if_pos ⟨rfl, h4, h5⟩))

theorem opSchedule_casby (h : s.session = 5) (h0 : s.rd 0x2202 1 ≠ 0) (hc : s.casbyState = 4 ∨ s.casbyState = 5) :
    opSchedule 2 s = (s.schedule.sendActivation, 0) :=
  (if_neg (not_not_intro h)).trans ((if_neg h0).trans ((if_neg (fun h => hc.elim h.2.1 h.2.2)).trans rfl))

/-! ### The defaults (R424) -/

/-- R424: a switch into bank `b` is scheduled for the next idle moment. -/
def State.defaultsDue (s : State) (b : Nat) : State := ((s.setSession 7 0xFF).wr 0x2202 8 s.fine).updUpd (fun u => { u with accept := some b, since := s.now, leaving := false })

/-- R424: the bank whose defaults are accepted, if any is in state 6. -/
def State.failedBank (s : State) : Option Nat := (List.range 2).find? (fun b => (s.fw b).code = 6)

theorem State.failedBank_none (h : ∀ b : Fin 2, (s.fw b).code ≠ 6) : s.failedBank = none := by
  refine List.find?_eq_none.mpr (fun b hb => ?_)
  simpa using h ⟨b, List.mem_range.mp hb⟩

theorem State.failedBank_some {b : Fin 2} (h : (s.fw b).code = 6) (h' : (s.fw (1 - b : Fin 2)).code ≠ 6) : s.failedBank = some b.val := by
  unfold State.failedBank
  match b with
  | 0 => exact List.find?_cons_of_pos (by simpa using h)
  | 1 => exact (List.find?_cons_of_neg (by simpa using h')).trans (List.find?_cons_of_pos (by simpa using h))

theorem opAcceptDefaults_none {v : Int} (h : s.failedBank = none) : opAcceptDefaults v s = (s, 8) := by
  unfold State.failedBank at h
  unfold opAcceptDefaults
  rw [h]

theorem opAcceptDefaults_some {v : Int} {b : Nat} (h : s.failedBank = some b) (hs : s.session = 0 ∨ s.session = 9) :
    opAcceptDefaults v s = (s.defaultsDue b, 0) := by
  unfold State.failedBank at h
  unfold opAcceptDefaults
  rw [h]
  exact if_neg (fun h => hs.elim h.1 h.2)

theorem State.defaultsDue_spec (b : Nat) : let t := s.defaultsDue b
    t.session = 7 ∧ t.rd 0x2202 8 = s.fine ∧ t.upd = { s.upd with accept := some b, since := s.now, leaving := false } := by
  dsimp only
  unfold State.defaultsDue
  obtain ⟨-, hs, -, hu, -⟩ := s.setSession_spec (v := 7) (holder := 0xFF) (by decide) (by decide)
  generalize s.setSession 7 0xFF = a at *
  have hw : Writes (fun i _ => i = 0x2202) a (a.wr 0x2202 8 s.fine) := (Writes.refl _ a).wr (by decide) rfl
  have h8 : (a.wr 0x2202 8 s.fine).rd 0x2202 8 = s.fine := by
    rw [State.rd_wr_self _ _ (by decide), updateTypes.2.2.2.2.2.2.2, Ty.wrap_u64, s.fine_u64]
  have hu2 := (State.wr_upd a 0x2202 8 s.fine).trans hu
  generalize a.wr 0x2202 8 s.fine = c at *
  refine ⟨(State.session_congr ((State.rd_congr rfl _ _).trans (hw.rd (by decide) (by decide)))).trans hs, (State.rd_congr rfl _ _).trans h8, ?_⟩
  exact congrArg (fun x : UpdateSt => { x with accept := some b, since := s.now, leaving := false }) hu2

/-! ### When a schedule comes due (R420) -/

/-- R420: the unit defers its switch. -/
def State.deferred (s : State) : State := (((s.wr 0x2200 1 7).wr 0x2202 8 s.fine).raise1 777 0).updUpd (fun u => { u with since := s.now })

theorem State.deferred_spec : let t := s.deferred
    t.session = 7 ∧ t.rd 0x2202 8 = s.fine ∧ t.upd = { s.upd with since := s.now } ∧ t.Presents 777 := by
  dsimp only
  unfold State.deferred
  have hs : (s.wr 0x2200 1 7).session = 7 := s.session_wr (v := 7) (by decide)
  have hu := State.wr_upd s 0x2200 1 7
  generalize s.wr 0x2200 1 7 = a at *
  have hw : Writes (fun i _ => i = 0x2202) a (a.wr 0x2202 8 s.fine) := (Writes.refl _ a).wr (by decide) rfl
  have h8 : (a.wr 0x2202 8 s.fine).rd 0x2202 8 = s.fine := by
    rw [State.rd_wr_self _ _ (by decide), updateTypes.2.2.2.2.2.2.2, Ty.wrap_u64, s.fine_u64]
  have hu2 := (State.wr_upd a 0x2202 8 s.fine).trans hu
  generalize a.wr 0x2202 8 s.fine = c at *
  have hw2 : Writes (fun i _ => i = 0x2800 + 777) c (c.raise1 777 0) := (Writes.refl _ c).raise1 (fun _ => rfl)
  have hu3 := (State.raise1_upd c 777 0).trans hu2
  have hp := c.presents_raise1 777 0
  generalize c.raise1 777 0 = d at *
  refine ⟨?_, ?_, ?_, hp⟩
  · exact (State.session_congr ((State.rd_congr rfl _ _).trans ((hw2.rd (by decide) (by decide)).trans (hw.rd (by decide) (by decide))))).trans hs
  · exact (State.rd_congr rfl _ _).trans ((hw2.rd (by decide) (by decide)).trans h8)
  · exact congrArg (fun x : UpdateSt => { x with since := s.now }) hu3

theorem State.beginSwitch_rest (h : bit (s.rdN 0x2202 5) 0 = true) (hr : s.restIdle = true) : s.beginSwitch = s.wr 0x2200 1 8 :=
  if_pos (by rw [h, hr]; rfl)

theorem State.beginSwitch_live (hr : s.restIdle = false) : s.beginSwitch =
    { s with dev := { s.dev with move := .boundary .standby, goal := .standby }, upd := { s.upd with leaving := true } } :=
  (if_neg (by rw [hr, Bool.and_false]; exact Bool.false_ne_true)).trans rfl

theorem State.idleNow_rest (h : bit (s.rdN 0x2202 5) 0 = true) (hr : s.restIdle = true) : s.idleNow = true := by
  rw [State.idleNow, h, hr]
  rfl

theorem State.idleNow_live (h : s.liveIdle = true) : s.idleNow = true := by rw [State.idleNow, h, Bool.or_true]

end

section
variable {s v : State} {dt : Nat} (e : s.arrive dt = v) (hl : v.upd.leaving = false)
include e hl

theorem exec_activationTime_defers (hs : v.session = 6) (ht : v.upd.at_ ≤ v.fine) (hi : v.idleNow = false) :
    exec (.activationTimeReached dt) s = .next v.deferred := by
  refine (timed_at e ?_ : execActivationTimeReached dt s = _).trans (congrArg _ ?_)
  · rw [decide_eq_true hs, hl, decide_eq_true ht]
    rfl
  · exact if_neg (by simp [hi])

theorem exec_activationTime_switches (hs : v.session = 6) (ht : v.upd.at_ ≤ v.fine) (hi : v.idleNow = true) :
    exec (.activationTimeReached dt) s = .next v.beginSwitch := by
  refine (timed_at e ?_ : execActivationTimeReached dt s = _).trans (congrArg _ ?_)
  · rw [decide_eq_true hs, hl, decide_eq_true ht]
    rfl
  · exact if_pos hi

theorem exec_deferredActivation_switches (hs : v.session = 7) (hi : v.idleNow = true) : exec (.deferredActivationIdle dt) s = .next v.beginSwitch := by
  refine (timed_at e ?_ : execDeferredActivationIdle dt s = _)
  rw [decide_eq_true hs, hl, hi]
  rfl

/-- R420: a due schedule, or a deferred one, switches a unit that is idle. -/
theorem exec_switches {c : Instr} (hc : (c = .activationTimeReached dt ∧ v.session = 6 ∧ v.upd.at_ ≤ v.fine) ∨ (c = .deferredActivationIdle dt ∧ v.session = 7))
    (hi : v.idleNow = true) : exec c s = .next v.beginSwitch := by
  rcases hc with ⟨rfl, hs, ht⟩ | ⟨rfl, hs⟩
  · exact exec_activationTime_switches e hl hs ht hi
  · exact exec_deferredActivation_switches e hl hs hi

omit hl in
theorem exec_deferredActivation_waits (hi : v.idleNow = false) : exec (.deferredActivationIdle dt) s = .next v := by
  subst e
  refine (timed_idle ?_ : execDeferredActivationIdle dt s = _)
  rw [hi, Bool.and_false]

end

/-! ### The switch and the way back (R421, R423) -/

section
variable (s : State)

theorem State.finishWrites_same : s.finishWrites.upd = s.upd ∧ s.finishWrites.pow = s.pow ∧ s.finishWrites.dict = s.dict ∧ s.finishWrites.dev = s.dev := by
  have hu : Part.upd.Same s s.finishWrites := (State.finishWrites_keeps (.refl .upd s) rfl).same
  have hp : Part.pow.Same s s.finishWrites := (State.finishWrites_keeps (.refl .pow s) rfl).same
  have hd : Part.dict.Same s s.finishWrites := (State.finishWrites_keeps (.refl .dict s) rfl).same
  have hv : Part.dev.Same s s.finishWrites := (State.finishWrites_keeps (.refl .dev s) rfl).same
  exact ⟨hu, hp, hd, hv⟩

theorem State.warmStart_slots (kind : Nat) : (s.warmStart kind).door.slots = s.door.slots ∧ (s.warmStart kind).door.saving = none := by
  rw [s.warmStart_eq kind]
  exact ⟨rfl, rfl⟩

/-- R421: bank `b` is marked trial and starts. -/
def State.trialStart (s : State) (b policy : Nat) : State :=
  ((s.updFw b (fun q => { q with code := 5 })).warmStart 3).updUpd (fun u => { u with trial := some (b, policy), trying := true })

theorem State.trialStart_spec (b policy : Nat) (hb : b < 2) : let t := s.trialStart b policy
    t.dev = State.reset.dev ∧ t.pow.kind = 3 ∧ t.pow.warm = true ∧ t.pow.boot = .core ∧ t.upd.trial = some (b, policy) ∧ t.upd.trying = true ∧
      (t.fw b).code = 5 ∧ (∀ i, i ≠ b → t.fw i = s.fw i) ∧ t.door.saving = none := by
  dsimp only
  unfold State.trialStart
  have hfw := s.fw_updFw_at hb (fun q => { q with code := 5 })
  generalize s.updFw b (fun q => { q with code := 5 }) = a at *
  obtain ⟨hdev, -, -, hboot, -, hwarm, hkind, -⟩ := State.warmStart_spec (u := a) (v := a) (fun p _ => .refl p a) 3
  have hfw' := a.warmStart_fw 3
  obtain ⟨-, hsav⟩ := a.warmStart_slots 3
  generalize a.warmStart 3 = w at *
  have hk (i : Nat) : (w.updUpd (fun u => { u with trial := some (b, policy), trying := true })).fw i = w.fw i := rfl
  refine ⟨hdev, hkind, hwarm, hboot, rfl, rfl, ?_, fun i hi => ?_, hsav⟩
  · rw [hk, hfw', hfw, if_pos rfl]
  · rw [hk, hfw', hfw, if_neg (Ne.symm hi)]

theorem exec_bankSwitch {s u : State} {dt : Nat} (e : s.pass dt = u) (hs : u.session = 8) (hr : u.dev.ready = true) (ha : u.upd.accept = none) :
    exec (.bankSwitch dt) s = .next (u.finishWrites.trialStart u.otherBank (u.rdN 0x2202 7)) := by
  refine (event_at e ?_ : execBankSwitch dt s = _).trans (congrArg _ ?_)
  · rw [decide_eq_true hs, hr]
    rfl
  · obtain ⟨hu, hp, hd, -⟩ := u.finishWrites_same
    have h7 : u.finishWrites.rdN 0x2202 7 = u.rdN 0x2202 7 := congrArg Int.toNat (State.rd_congr hd _ _)
    have ho : u.finishWrites.otherBank = u.otherBank := congrArg (fun p : PowerSt => 1 - p.bank) hp
    have ha' : u.finishWrites.upd.accept = none := (congrArg UpdateSt.accept hu).trans ha
    dsimp only
    rw [ha', ho, h7]
    rfl

/-- R423: the bank that runs is marked migration failed, and the other one starts. -/
def State.fallBack (s : State) : State :=
  ((s.updFw s.pow.bank (fun q => { q with code := 6 })).warmStart 4).updUpd (fun u => { u with
    trial := none, trying := false, failing := false, fellBack := true, found := s.upd.found, header := [], body := [], journal := 0, accept := none })

theorem State.fallBack_spec (hb : s.pow.bank < 2) : let t := s.fallBack
    t.dev = State.reset.dev ∧ t.pow.kind = 4 ∧ t.pow.warm = true ∧ t.pow.boot = .core ∧ (t.fw s.pow.bank).code = 6 ∧
      (∀ i, i ≠ s.pow.bank → t.fw i = s.fw i) ∧ t.upd.trial = none ∧ t.upd.fellBack = true ∧ t.upd.found = s.upd.found ∧ t.door.slots = s.door.slots := by
  dsimp only
  unfold State.fallBack
  have hfw := s.fw_updFw_at hb (fun q => { q with code := 6 })
  have hdoor : (s.updFw s.pow.bank (fun q => { q with code := 6 })).door = s.door := rfl
  generalize s.updFw s.pow.bank (fun q => { q with code := 6 }) = a at *
  obtain ⟨hdev, -, -, hboot, -, hwarm, hkind, -⟩ := State.warmStart_spec (u := a) (v := a) (fun p _ => .refl p a) 4
  have hfw' := a.warmStart_fw 4
  obtain ⟨hslots, -⟩ := a.warmStart_slots 4
  generalize a.warmStart 4 = w at *
  refine ⟨hdev, hkind, hwarm, hboot, ?_, fun i hi => ?_, rfl, rfl, rfl, hslots.trans (congrArg _ hdoor)⟩
  · exact (congrArg FwBank.code (hfw' _)).trans (by rw [hfw, if_pos rfl])
  · exact (hfw' i).trans (by rw [hfw, if_neg (Ne.symm hi)])

end

end Sys2Proof.Machine
namespace Sys2Proof
open Machine

/-- Settles O55: each clause is what a command of the activation, its due time or a switch is shown above to do. -/
theorem activationAndMigration : Obligations.ActivationAndMigration := by
  unfold Obligations.ActivationAndMigration
  intro s dt u
  have e : s.pass dt = u := rfl
  clear_value u
  obtain ⟨hr3, hl, hc, hr4, h4, hra, ha, hrq, hq, -⟩ := updateRows
  refine ⟨fun m hm hr => ?commands, ?schedule, ?due, fun hs h6 ht => ?expired, fun hs hr ha hb => ?switch, fun hf hb h1 => ?back⟩
  case commands =>
    refine ⟨fun h => ⟨hostCommand_gives e hm hr hr3 hl (opSchedule_busy u h), hostCommand_gives e hm hr hr3 hc (opSchedule_busy u h)⟩,
      fun h h0 => ⟨hostCommand_gives e hm hr hr3 hl (opSchedule_noId u h h0), hostCommand_gives e hm hr hr3 hc (opSchedule_noId u h h0)⟩,
      fun h h0 => ⟨hostCommand_gives e hm hr hr3 hl (opSchedule_local u h h0),
        fun hn4 hn5 => hostCommand_gives e hm hr hr3 hc (opSchedule_noCasby u h h0 hn4 hn5),
        fun h45 => hostCommand_gives e hm hr hr3 hc (opSchedule_casby u h h0 h45)⟩,
      fun h => hostCommand_gives e hm hr hr4 h4 (if_pos h), fun h h' => hostCommand_gives e hm hr hr4 h4 (if_neg (not_or_intro h h')),
      fun h => hostCommand_gives e hm hr hra ha (opAcceptDefaults_none u (u.failedBank_none h)), fun b h h' hs => ?_,
      hostCommand_gives e hm hr hrq hq rfl⟩
    exact ⟨_, hostCommand_gives e hm hr hra ha (opAcceptDefaults_some u (u.failedBank_some h h') hs), u.defaultsDue_spec b⟩
  case schedule =>
    obtain ⟨h1, h2, h3⟩ := u.schedule_spec
    exact ⟨h1, h2, h3, u.unschedule_spec⟩
  case due =>
    intro v hlv
    have e' : s.arrive dt = v := rfl
    clear_value v
    refine ⟨fun hs ht hi => ⟨_, exec_activationTime_defers e' hlv hs ht hi, v.deferred_spec⟩, fun c hc => ⟨fun hb hr => ?_, fun hr hi => ?_⟩,
      fun _ hi => exec_deferredActivation_waits e' hi⟩
    · rw [exec_switches e' hlv hc (v.idleNow_rest hb hr), v.beginSwitch_rest hb hr]
    · rw [exec_switches e' hlv hc (v.idleNow_live hi), v.beginSwitch_live hr]
  case expired =>
    refine (event_at e ?_ : execActivationExpired dt s = _)
    rw [decide_eq_true hs, decide_eq_true h6, State.elapsed, decide_eq_true ht]
    rfl
  case switch =>
    obtain ⟨hu, -⟩ := u.finishWrites_same
    have hfw (b : Nat) : u.finishWrites.fw b = u.fw b := by rw [State.fw, State.fw, hu]
    obtain ⟨h1, h2, h3, h4, h5, h6, h7, h8, h9⟩ := u.finishWrites.trialStart_spec u.otherBank (u.rdN 0x2202 7) (by unfold State.otherBank; omega)
    exact ⟨_, exec_bankSwitch e hs hr ha, h1, h2, h3, h4, h5, h6, h7, (h8 _ (by unfold State.otherBank; omega)).trans (hfw _), h9⟩
  case back =>
    obtain ⟨h1, h2, h3, h4, h5, h6, h7, h8, h9, h10⟩ := u.fallBack_spec (by omega)
    refine ⟨_, (event_at e ?_ : execMigrationFallback dt s = .next u.fallBack), h1, h2, h3, h4, h5, h6 _ (by omega), h7, h8, h9, h10⟩
    rw [hf]
    rcases hb with hb | hb
    · rw [decide_eq_true hb]
      rfl
    · rw [decide_eq_true hb, Bool.or_true]
      rfl

end Sys2Proof
end
section
/-! ## Delivering an image: the session's failures and stages (O54) -/
set_option Elab.async false
namespace Sys2Proof.Machine

section
variable (s : State)

/-! ### Banks -/

theorem State.fw_congr {s t : State} (h : t.upd.banks = s.upd.banks) (b : Nat) : t.fw b = s.fw b := by rw [State.fw, State.fw, h]

theorem State.otherBank_congr {s t : State} (h : t.pow = s.pow) : t.otherBank = s.otherBank := by rw [State.otherBank, State.otherBank, h]

theorem State.fw_otherBank (f : FwBank → FwBank) : (s.updFw s.otherBank f).fw s.otherBank = f (s.fw s.otherBank) :=
  (s.fw_updFw s.otherBank_lt f _).trans (if_pos rfl)

/-! ### Failures (R417) -/

/-- R417: why the session failed is shown. -/
def State.failureShown (s : State) (code : Nat) : State := (s.setSession 9 0xFF).wr 0x2200 0xC code

theorem State.failSession_eq (code : Nat) :
    s.failSession code = (((s.failureShown code).spoilBank).raise1 (if code = 5 then 785 else 774) 0).updUpd (fun u => { u with wait := [] }) := rfl

theorem State.failureShown_spec {code : Nat} (hc : code < 256) : let t := s.failureShown code
    t.session = 9 ∧ t.rd 0x2200 2 = 0xFF ∧ t.rd 0x2200 0xC = code ∧ t.upd = s.upd ∧ t.pow = s.pow := by
  dsimp only
  unfold State.failureShown
  obtain ⟨-, hs, hh, hu, hp, -⟩ := s.setSession_spec (v := 9) (holder := 0xFF) (by decide) (by decide)
  generalize s.setSession 9 0xFF = a at *
  refine ⟨?_, ?_, ?_, (State.wr_upd _ _ _ _).trans hu, (State.wr_pow _ _ _ _).trans hp⟩
  · exact (State.session_congr ((State.rd_wr_at _ _ (by decide) (by decide)).trans (if_neg (by decide)))).trans hs
  · exact (State.rd_wr_at _ _ (by decide) (by decide)).trans ((if_neg (by decide)).trans hh)
  · rw [State.rd_wr_self _ _ (by decide), updateTypes.2.2.2.2.2.2.1, Ty.wrap_u8]
    omega

theorem State.failSession_spec {code : Nat} (hc : code ≤ 6) : let t := s.failSession code
    t.session = 9 ∧ t.rd 0x2200 2 = 0xFF ∧ t.rd 0x2200 0xC = code ∧ (t.fw s.otherBank).code = 0 ∧
      ∃ p ∈ t.ev.pres, p.src = if code = 5 then 785 else 774 := by
  dsimp only
  rw [s.failSession_eq]
  obtain ⟨hs, hh, hf, -, hp⟩ := s.failureShown_spec (code := code) (by omega)
  have ho := State.otherBank_congr hp
  generalize s.failureShown code = a at *
  have hfw : a.spoilBank.fw s.otherBank = _ := (congrArg a.spoilBank.fw ho.symm).trans (a.fw_otherBank _)
  have hrd (j : Nat) : a.spoilBank.rd 0x2200 j = a.rd 0x2200 j := State.rd_congr rfl _ _
  generalize a.spoilBank = b at *
  have hsrc : (if code = 5 then 785 else 774 : Nat) = 785 ∨ (if code = 5 then 785 else 774 : Nat) = 774 := by split <;> simp
  generalize (if code = 5 then 785 else 774 : Nat) = src at *
  have hw : Writes (fun i _ => i = 0x2800 + src) b (b.raise1 src 0) := (Writes.refl _ b).raise1 (fun _ => rfl)
  have hu := State.raise1_upd b src 0
  have hpr := b.presents_raise1 src 0
  generalize b.raise1 src 0 = c at *
  have hj (j : Nat) (hj : j < 256) : (c.updUpd (fun u => { u with wait := [] })).rd 0x2200 j = a.rd 0x2200 j :=
    (State.rd_congr rfl _ _).trans ((hw.rd hj (by omega)).trans (hrd j))
  refine ⟨(State.session_congr (hj 1 (by decide))).trans hs, (hj 2 (by decide)).trans hh, (hj 0xC (by decide)).trans hf, ?_, hpr⟩
  have hfc : (c.updUpd (fun u => { u with wait := [] })).fw s.otherBank = b.fw s.otherBank := State.fw_congr (congrArg UpdateSt.banks hu) _
  rw [hfc, hfw]

/-! ### The journal (R414) -/

theorem State.respond_upd (m code : Nat) (vals : List Int) (data : List Byte) : (s.respond m code vals data).upd = s.upd := by
  have h : Part.upd.Same s (s.respond m code vals data) := (State.respond_keeps (.refl .upd s) rfl m code vals data).same
  exact h

theorem State.takeBlock_upd (bs : List Byte) : (s.takeBlock bs).upd = { s.upd with body := s.upd.body ++ bs, last := s.now } := by
  unfold State.takeBlock
  exact congrArg (fun x : UpdateSt => { x with body := x.body ++ bs, last := s.now }) (State.wr_upd s 0x2200 7 _)

/-- R414: the first block that waits is taken and acknowledged. -/
def State.firstAdmitted (s : State) (m : Nat) (bs : List Byte) (r : List (Nat × List Byte)) : State :=
  let t := (s.updUpd (fun u => { u with wait := r })).takeBlock bs
  if m = 0 then t else t.respond m 0 [] []

theorem State.firstAdmitted_journaled (m : Nat) (bs : List Byte) (r : List (Nat × List Byte)) :
    (s.firstAdmitted m bs r).upd.journaled = s.upd.journaled := by
  have h : ((s.updUpd (fun u => { u with wait := r })).takeBlock bs).upd.journaled = s.upd.journaled := by
    rw [State.takeBlock_upd]
    rfl
  unfold State.firstAdmitted
  dsimp only
  split
  · exact h
  · exact (congrArg UpdateSt.journaled (State.respond_upd _ _ _ _ _)).trans h

theorem State.admitBlocks_journaled : ∀ (n : Nat) (s : State), (s.admitBlocks n).upd.journaled = s.upd.journaled := by
  intro n
  induction n with
  | zero => exact fun _ => rfl
  | succ n ih =>
    intro s
    unfold State.admitBlocks
    split
    · rfl
    · next m bs r _ =>
      split
      · rfl
      · exact (ih (s.firstAdmitted m bs r)).trans (s.firstAdmitted_journaled m bs r)

theorem State.admitBlocks_none {s : State} (h : s.upd.wait = []) (n : Nat) : s.admitBlocks n = s := by
  cases n with
  | zero => rfl
  | succ n =>
    unfold State.admitBlocks
    rw [h]

/-- R414: the container is journaled up to `upto`, and the sectors done of a full image are shown. -/
def State.journaledTo (s : State) (upto : Nat) : State :=
  if hKind s.upd.header = 1
    then (s.updUpd (fun u => { u with journaled := upto })).wr 0x2200 9 (min (s.rdN 0x2200 0xA) ((upto - 4096) / 65536))
    else s.updUpd (fun u => { u with journaled := upto })

/-- R414: the whole container is in NOR. -/
def State.journalDone (s : State) (upto : Nat) : State :=
  if upto = s.rdN 0x2200 8 then s.setSession (if hKind s.upd.header = 1 then 4 else 3) 0xFE else s

theorem State.journalStep_eq : s.journalStep =
    ((s.journaledTo (min (s.upd.journaled + 65536) (s.rdN 0x2200 8))).admitBlocks 16).journalDone (min (s.upd.journaled + 65536) (s.rdN 0x2200 8)) := rfl

theorem State.journaledTo_spec (upto : Nat) : let t := s.journaledTo upto
    t.upd = { s.upd with journaled := upto } ∧ t.rd 0x2200 8 = s.rd 0x2200 8 := by
  dsimp only
  unfold State.journaledTo
  have hu : (s.updUpd (fun u => { u with journaled := upto })).upd = { s.upd with journaled := upto } := rfl
  have h8 : (s.updUpd (fun u => { u with journaled := upto })).rd 0x2200 8 = s.rd 0x2200 8 := State.rd_congr rfl _ _
  generalize s.updUpd (fun u => { u with journaled := upto }) = a at *
  split
  · exact ⟨(State.wr_upd _ _ _ _).trans hu, (State.rd_wr_at _ _ (by decide) (by decide)).trans ((if_neg (by decide)).trans h8)⟩
  · exact ⟨hu, h8⟩

theorem State.journalDone_upd (upto : Nat) : (s.journalDone upto).upd = s.upd := by
  have hv : (if hKind s.upd.header = 1 then 4 else 3) < 256 := by split <;> decide
  unfold State.journalDone
  split
  · exact (s.setSession_spec hv (by decide : 0xFE < 256)).2.2.2.1
  · rfl

theorem State.journalStep_journaled : s.journalStep.upd.journaled = min (s.upd.journaled + 65536) (s.rdN 0x2200 8) := by
  rw [s.journalStep_eq, State.journalDone_upd, State.admitBlocks_journaled, (s.journaledTo_spec _).1]

theorem State.journalStep_last (hw : s.upd.wait = []) (h : s.rdN 0x2200 8 ≤ s.upd.journaled + 65536) :
    s.journalStep.session = (if hKind s.upd.header = 1 then 4 else 3) ∧ s.journalStep.rd 0x2200 2 = 0xFE := by
  rw [s.journalStep_eq, Nat.min_eq_right h]
  obtain ⟨hu, h8⟩ := s.journaledTo_spec (s.rdN 0x2200 8)
  have h8' : s.rdN 0x2200 8 = (s.journaledTo (s.rdN 0x2200 8)).rdN 0x2200 8 := (congrArg Int.toNat h8).symm
  have hh : (s.journaledTo (s.rdN 0x2200 8)).upd.header = s.upd.header := by rw [hu]
  rw [State.admitBlocks_none (by rw [hu]; exact hw)]
  generalize s.journaledTo (s.rdN 0x2200 8) = a at *
  unfold State.journalDone
  rw [if_pos h8', hh]
  have hv : (if hKind s.upd.header = 1 then 4 else 3) < 256 := by split <;> decide
  obtain ⟨-, hs, hf, -⟩ := a.setSession_spec hv (by decide : 0xFE < 256)
  exact ⟨hs, hf⟩

/-! ### Applying a delta (R417) -/

/-- R417: the result `c` of a delta lies in the inactive bank, and is to be verified. -/
def State.deltaApplied (s : State) (c : List Byte) : State := ((s.fillBank c).wr 0x2200 9 (s.rdN 0x2200 0xA)).setSession 4 0xFE

theorem State.deltaApplied_spec (c : List Byte) : let t := s.deltaApplied c
    t.session = 4 ∧ t.rd 0x2200 2 = 0xFE ∧ (t.fw s.otherBank).code = 3 ∧ (t.fw s.otherBank).content = some (c, sha256 c) := by
  dsimp only
  unfold State.deltaApplied
  have hfw : (s.fillBank c).fw s.otherBank = { s.fw s.otherBank with code := 3, content := some (c, sha256 c) } := s.fw_otherBank _
  generalize s.fillBank c = a at *
  have hb := State.fw_congr (congrArg UpdateSt.banks (State.wr_upd a 0x2200 9 (s.rdN 0x2200 0xA))) s.otherBank
  generalize a.wr 0x2200 9 (s.rdN 0x2200 0xA) = b at *
  obtain ⟨-, hs, hh, hu, -⟩ := b.setSession_spec (v := 4) (holder := 0xFE) (by decide) (by decide)
  have hc := State.fw_congr (congrArg UpdateSt.banks hu) s.otherBank
  generalize b.setSession 4 0xFE = d at *
  refine ⟨hs, hh, ?_, ?_⟩
  · rw [hc, hb, hfw]
  · rw [hc, hb, hfw]

section
variable {s u : State} {dt : Nat} (e : s.pass dt = u) (h : u.session = 3)
include e h

theorem exec_updateApply_bodyBad (hb : u.bodyGood = false) (good : Bool) : exec (.updateApplyComplete dt good) s = .next (u.failSession 1) :=
  (event_at e (decide_eq_true h) : execUpdateApplyComplete dt good s = _).trans (congrArg _ (if_pos (by rw [hb]; rfl)))

theorem exec_updateApply_deltaBad (hb : u.bodyGood = true) (hd : u.deltaResult = none) (good : Bool) :
    exec (.updateApplyComplete dt good) s = .next (u.failSession 2) := by
  refine (event_at e (decide_eq_true h) : execUpdateApplyComplete dt good s = _).trans (congrArg _ ((if_neg (by simp [hb])).trans ?_))
  rw [hd]

theorem exec_updateApply_good (hb : u.bodyGood = true) {c : List Byte} (hd : u.deltaResult = some c) (good : Bool) :
    exec (.updateApplyComplete dt good) s = .next (if good then u.deltaApplied c else u.failSession 5) := by
  refine (event_at e (decide_eq_true h) : execUpdateApplyComplete dt good s = _).trans (congrArg _ ((if_neg (by simp [hb])).trans ?_))
  rw [hd]
  rfl

end

/-! ### Verifying (R417) -/

theorem State.fullContent_same : s.fullContent.otherBank = s.otherBank ∧ s.fullContent.upd.header = s.upd.header := by
  unfold State.fullContent
  split
  · exact ⟨rfl, rfl⟩
  · exact ⟨rfl, rfl⟩

/-- R417: the inactive bank holds the staged image `h`. -/
def State.bankStaged (s : State) (h : List Byte) : State :=
  s.updFw s.otherBank (fun b => { b with code := 4, version := fieldAt h 32 4, fmt := fieldAt h 40 2, oldest := fieldAt h 42 2 })

theorem State.stageImage_eq : s.stageImage =
    (((s.bankStaged s.upd.header).wr 0x2200 9 (s.rdN 0x2200 0xA)).setSession 5 0xFF).raise1 775 0 := rfl

theorem State.stageImage_spec : let t := s.stageImage
    t.session = 5 ∧ t.rd 0x2200 2 = 0xFF ∧ (t.fw s.otherBank).code = 4 ∧ (t.fw s.otherBank).version = fieldAt s.upd.header 32 4 ∧
      t.upd.header = s.upd.header ∧ t.Presents 775 := by
  dsimp only
  rw [s.stageImage_eq]
  have hfw : (s.bankStaged s.upd.header).fw s.otherBank = { s.fw s.otherBank with
    code := 4, version := fieldAt s.upd.header 32 4, fmt := fieldAt s.upd.header 40 2, oldest := fieldAt s.upd.header 42 2 } := s.fw_otherBank _
  have hh : (s.bankStaged s.upd.header).upd.header = s.upd.header := rfl
  generalize s.bankStaged s.upd.header = a at *
  have hu1 := State.wr_upd a 0x2200 9 (s.rdN 0x2200 0xA)
  generalize a.wr 0x2200 9 (s.rdN 0x2200 0xA) = b at *
  obtain ⟨-, hs, h2, hu2, -⟩ := b.setSession_spec (v := 5) (holder := 0xFF) (by decide) (by decide)
  generalize b.setSession 5 0xFF = c at *
  have hw : Writes (fun i _ => i = 0x2800 + 775) c (c.raise1 775 0) := (Writes.refl _ c).raise1 (fun _ => rfl)
  have hu3 := State.raise1_upd c 775 0
  have hp := c.presents_raise1 775 0
  generalize c.raise1 775 0 = d at *
  have hu : d.upd = a.upd := hu3.trans (hu2.trans hu1)
  have hfd := State.fw_congr (congrArg UpdateSt.banks hu) s.otherBank
  refine ⟨(State.session_congr (hw.rd (by decide) (by decide))).trans hs, (hw.rd (by decide) (by decide)).trans h2, ?_, ?_, by rw [hu, hh], hp⟩
  · rw [hfd, hfw]
  · rw [hfd, hfw]

section
variable {s u : State} {dt : Nat} (e : s.pass dt = u) (h : u.session = 4)
include e h

theorem exec_updateVerify (manifest good : Bool) : exec (.updateVerifyComplete dt manifest good) s = .next (u.verify manifest good) :=
  (event_at e (decide_eq_true h) : execUpdateVerifyComplete dt manifest good s = _)

end

theorem State.verify_bodyBad (h : s.bodyGood = false) (manifest good : Bool) : s.verify manifest good = s.failSession 1 := if_pos (by rw [h]; rfl)

/-- R417: the verification once the body digest matches and a full image's content lies in its bank. -/
def State.verifyContent (s : State) (h : List Byte) (manifest good : Bool) : State :=
  if (s.fw s.otherBank).digest ≠ h then s.failSession 3
  else if !manifest then s.failSession 4
  else if !good then s.failSession 5
  else s.stageImage

theorem State.verify_content (h : s.bodyGood = true) (manifest good : Bool) :
    s.verify manifest good = s.fullContent.verifyContent (hDigest s.upd.header) manifest good := by
  refine (if_neg (by simp [h])).trans ?_
  have hh := congrArg hDigest s.fullContent_same.2
  unfold State.verifyContent
  dsimp only
  rw [← hh]

theorem State.verifyContent_digest {h : List Byte} (hd : (s.fw s.otherBank).digest ≠ h) (manifest good : Bool) :
    s.verifyContent h manifest good = s.failSession 3 := if_pos hd

theorem State.verifyContent_manifest {h : List Byte} (hd : (s.fw s.otherBank).digest = h) (good : Bool) :
    s.verifyContent h false good = s.failSession 4 := (if_neg (not_not_intro hd)).trans rfl

theorem State.verifyContent_staged {h : List Byte} (hd : (s.fw s.otherBank).digest = h) : s.verifyContent h true true = s.stageImage :=
  (if_neg (not_not_intro hd)).trans rfl

end

end Sys2Proof.Machine
end
section
/-! ## Delivering an image: blocks (O54) -/
set_option Elab.async false
namespace Sys2Proof.Machine

section
variable (s : State)

/-! ### Data accesses to the staging domain (R58, R414) -/

/-- What a window makes of an access of `n` bytes that its domain answers with `r`: a granted one moves the offset on. -/
def windowMoved (w n : Nat) (r : State × Option Nat) : State × Option Nat := (if r.2 = some 0 ∨ r.2 = none then r.1.advance w n else r.1, r.2)

theorem State.windowWrite_staging {m w a : Nat} {bs : List Byte} (hc : accessCode m a bs.length = 0) (ho : s.winOpen w = true) (hm : s.winOwner w = m)
    (h2 : s.winMode w = 2) (ht : s.winTarget w = 0x2201) :
    s.windowWrite m w a bs = windowMoved w bs.length (s.stageAccess m (s.winOffset w + a) bs) := by
  unfold State.windowWrite
  extract_lets n c o idx r
  rw [if_neg (not_not_intro hc), ho, if_neg (by decide), if_neg (not_not_intro hm), if_neg (by rw [h2]; decide), if_pos ht]
  rfl

theorem State.advance_spec (w : Fin 4) (n : Nat) : let t := s.advance w n
    Writes (fun i _ => i = 0x2020 + w) s t ∧ t.upd = s.upd := by
  dsimp only
  unfold State.advance
  have hw : Writes (fun i _ => i = 0x2020 + w) s (s.wr (0x2020 + w) 2 (s.winOffset w + n)) := (Writes.refl _ s).wr (by decide) rfl
  have hu := State.wr_upd s (0x2020 + w) 2 (s.winOffset w + n)
  generalize s.wr (0x2020 + w) 2 (s.winOffset w + n) = a at *
  exact ⟨hw.eq rfl rfl, hu⟩

theorem State.advance_session (w : Fin 4) (n : Nat) {j : Nat} (hj : j < 256) : (s.advance w n).rd 0x2200 j = s.rd 0x2200 j :=
  (s.advance_spec w n).1.rd hj (by have := w.isLt; omega)

theorem State.stageAccess_zero {m : Nat} {bs : List Byte} (hl : bs.length = 4096) : s.stageAccess m 0 bs =
    ((s.blockZero m bs).1, some (if (s.blockZero m bs).2 = 1 ∨ (s.blockZero m bs).2 = 8 then 0 else if (s.blockZero m bs).2 = 7 ∨ (s.blockZero m bs).2 = 9 then 8 else 5)) :=
  (if_neg (fun h => h.elim (by decide) (fun h => h hl))).trans (if_pos rfl)

/-- R414: the outcome code that a block's answer gives. -/
def BlockAnswer.code : BlockAnswer → Option Nat
  | .taken => some 0
  | .stale => some 0
  | .waits => none
  | .early => some 11
  | .notHolder => some 8

theorem State.stageAccess_later {m o : Nat} {bs : List Byte} (hl : bs.length = 4096) (ho : o % 4096 = 0) (h0 : o ≠ 0) :
    s.stageAccess m o bs = ((s.laterBlock m o bs).1, (s.laterBlock m o bs).2.code) :=
  ((if_neg (fun h => h.elim (fun h => h ho) (fun h => h hl))).trans (if_neg h0)).trans rfl

end

section
variable {s u t : State} {dt a : Nat} {m : Fin 17} {w : Fin 4} {bs : List Byte} (hm : s.masterPresent m = true) (hr : s.dev.ready = true)
include hm hr

theorem State.dataWrite_answered {c : Nat} (h : s.windowWrite m w a bs = (t, some c)) : s.dataWrite m w a bs = t.answer m (0x2024 + w) 1 c := by
  refine (if_neg (by simp [hm])).trans ((if_neg (by simp [hr])).trans ?_)
  rw [h]

theorem State.dataWrite_owed (h : s.windowWrite m w a bs = (t, none)) : s.dataWrite m w a bs = (t.record m (0x2024 + w) 1 0).owe m := by
  refine (if_neg (by simp [hm])).trans ((if_neg (by simp [hr])).trans ?_)
  rw [h]

end

/-! ### Block 0 (R412, R415) -/

section
variable (s : State)

theorem ite_lt {p : Prop} [Decidable p] {a b n : Nat} (ha : a < n) (hb : b < n) : (if p then a else b) < n := by
  split
  · exact ha
  · exact hb

theorem State.headerResult_lt (m : Nat) (h : List Byte) : s.headerResult m h < 256 := by
  unfold State.headerResult
  extract_lets run
  iterate 9 refine ite_lt (by decide) ?_
  decide

/-- The entries in which block 0 is noted, and the events that refuse it. -/
def headerEntry (i j : Nat) : Prop := (i = 0x2200 ∧ (j = 3 ∨ j = 4)) ∨ i = 0x2800 + 768 ∨ i = 0x2800 + 770

theorem State.raiseIf_same (c : Bool) (k d : Nat) :
    (s.raiseIf c k d).upd = s.upd ∧ (s.raiseIf c k d).pow = s.pow ∧ (s.raiseIf c k d).now = s.now := by
  unfold State.raiseIf
  split
  · exact ⟨State.raise1_upd _ _ _, State.raise1_pow _ _ _, State.raise1_now _ _ _⟩
  · exact ⟨rfl, rfl, rfl⟩

/-- R412: the result `c` of block 0 from master `m` is noted, and a refusal told. -/
def State.headerNoted (s : State) (m c : Nat) : State :=
  (((s.wr 0x2200 3 c).wr 0x2200 4 m).raiseIf (c ≠ 1 && c ≠ 8) 768 0).raiseIf (c = 7 || c = 9) 770 0

theorem State.headerNoted_spec {m c : Nat} (hm : m < 256) (hc : c < 256) : let t := s.headerNoted m c
    Writes headerEntry s t ∧ t.upd = s.upd ∧ t.pow = s.pow ∧ t.now = s.now ∧ t.rd 0x2200 3 = c ∧ t.rd 0x2200 4 = m ∧
    (c ≠ 1 → c ≠ 8 → t.Presents 768) ∧ (c = 7 ∨ c = 9 → t.Presents 770) := by
  dsimp only
  unfold State.headerNoted
  have hw1 : Writes headerEntry s (s.wr 0x2200 3 c) := (Writes.refl _ s).wr (by decide) (.inl ⟨rfl, .inl rfl⟩)
  have h3 : (s.wr 0x2200 3 c).rd 0x2200 3 = c := by
    rw [State.rd_wr_self _ _ (by decide), updateTypes.2.2.1, Ty.wrap_u8]
    omega
  have hu1 := State.wr_upd s 0x2200 3 c
  have hp1 := State.wr_pow s 0x2200 3 c
  have hn1 := State.wr_now s 0x2200 3 c
  generalize s.wr 0x2200 3 c = a at *
  have hw2 : Writes headerEntry s (a.wr 0x2200 4 m) := hw1.wr (by decide) (.inl ⟨rfl, .inr rfl⟩)
  have h4 : (a.wr 0x2200 4 m).rd 0x2200 4 = m := by
    rw [State.rd_wr_self _ _ (by decide), updateTypes.2.2.2.1, Ty.wrap_u8]
    omega
  have h3' : (a.wr 0x2200 4 m).rd 0x2200 3 = c := (State.rd_wr_at _ _ (by decide) (by decide)).trans ((if_neg (by decide)).trans h3)
  have hu2 := (State.wr_upd a 0x2200 4 m).trans hu1
  have hp2 := (State.wr_pow a 0x2200 4 m).trans hp1
  have hn2 := (State.wr_now a 0x2200 4 m).trans hn1
  generalize a.wr 0x2200 4 m = b at *
  have hw3 : Writes (fun i _ => i = 0x2800 + 768) b (b.raiseIf (c ≠ 1 && c ≠ 8) 768 0) := (Writes.refl _ b).raiseIf (fun _ => rfl)
  have hpr3 : c ≠ 1 → c ≠ 8 → (b.raiseIf (c ≠ 1 && c ≠ 8) 768 0).Presents 768 := by
    intro h1 h8
    unfold State.raiseIf
    rw [if_pos (by simp [h1, h8])]
    exact b.presents_raise1 768 0
  obtain ⟨hu3, hp3, hn3⟩ := b.raiseIf_same (c ≠ 1 && c ≠ 8) 768 0
  generalize b.raiseIf (c ≠ 1 && c ≠ 8) 768 0 = d at *
  have hw4 : Writes (fun i _ => i = 0x2800 + 770) d (d.raiseIf (c = 7 || c = 9) 770 0) := (Writes.refl _ d).raiseIf (fun _ => rfl)
  have hpr4 : c = 7 ∨ c = 9 → (d.raiseIf (c = 7 || c = 9) 770 0).Presents 770 := by
    intro h
    unfold State.raiseIf
    rw [if_pos (by simpa using h)]
    exact d.presents_raise1 770 0
  obtain ⟨hu4, hp4, hn4⟩ := d.raiseIf_same (c = 7 || c = 9) 770 0
  refine ⟨(hw2.trans (hw3.mono fun _ _ h => .inr (.inl h))).trans (hw4.mono fun _ _ h => .inr (.inr h)), hu4.trans (hu3.trans hu2),
    hp4.trans (hp3.trans hp2), hn4.trans (hn3.trans hn2), ?_, ?_, fun h1 h8 => hw4.presents (hpr3 h1 h8), hpr4⟩
  · rw [hw4.rd (by decide) (by decide), hw3.rd (by decide) (by decide), h3']
  · rw [hw4.rd (by decide) (by decide), hw3.rd (by decide) (by decide), h4]

/-- R415: the session goes on with the header it has. -/
def State.sessionGoesOn (s : State) (m : Nat) : State := (s.setSession 1 m).updUpd (fun u => { u with last := s.now })

/-- R412, R415: what an accepted block 0 makes of a session, once it is noted. -/
def State.headerTaken (s : State) (m : Nat) (h : List Byte) : State :=
  if (s.session = 1 ∨ s.session = 2) ∧ h = s.upd.header then s.sessionGoesOn m else s.newSession m h

theorem State.blockZero_refused {m : Nat} {h : List Byte} (hc : s.headerResult m h ≠ 1) :
    s.blockZero m h = (s.headerNoted m (s.headerResult m h), s.headerResult m h) := if_pos hc

theorem State.blockZero_accepted {m : Nat} {h : List Byte} (hc : s.headerResult m h = 1) :
    s.blockZero m h = ((s.headerNoted m 1).headerTaken m h, 1) := by
  refine (if_neg (not_not_intro hc)).trans ?_
  unfold State.headerTaken
  rw [hc]
  exact (apply_ite (fun x : State => (x, 1)) _ _ _).symm

theorem State.sessionGoesOn_spec {m : Nat} (hm : m < 256) : let t := s.sessionGoesOn m
    Writes sessionEntry s t ∧ t.session = 1 ∧ t.rd 0x2200 2 = m ∧ t.upd = { s.upd with last := s.now } := by
  dsimp only
  unfold State.sessionGoesOn
  obtain ⟨hw, hs, hh, hu, -⟩ := s.setSession_spec (v := 1) (by decide) hm
  generalize s.setSession 1 m = a at *
  refine ⟨hw.updUpd, (State.session_congr (State.rd_congr rfl _ _)).trans hs, (State.rd_congr rfl _ _).trans hh, ?_⟩
  exact congrArg (fun x : UpdateSt => { x with last := s.now }) hu

/-! ### A new session (R415) -/

/-- R415: the session begins, and its start is told. -/
def State.sessionBegun (s : State) (m : Nat) : State := (s.setSession 1 m).raise1 769 0

/-- R415: what the header says is shown. -/
def State.headerShown (s : State) (h : List Byte) : State :=
  (((((s.wr 0x2200 5 (hKind h)).wr 0x2200 6 (fieldAt h 32 4)).wr 0x2200 7 4096).wr 0x2200 8 (hLength h)).wr 0x2200 9 0).wr 0x2200 0xA (cdiv (hResult h) 65536)

/-- R415: the header is kept, with nothing of its body yet. -/
def State.headerKept (s : State) (h : List Byte) : State :=
  s.updUpd (fun u => { u with header := h, body := [], journaled := 0, last := s.now, wait := [] })

/-- R415: a full image is written into its bank as it comes. -/
def State.bankOpened (s : State) (h : List Byte) : State := if hKind h = 1 then s.updFw s.otherBank (fun b => { b with code := 3 }) else s

theorem State.newSession_eq (m : Nat) (h : List Byte) :
    s.newSession m h = (((s.dropWritten.sessionBegun m).headerShown h).headerKept h).bankOpened h := rfl

theorem State.sessionBegun_spec {m : Nat} (hm : m < 256) : let t := s.sessionBegun m
    t.session = 1 ∧ t.rd 0x2200 2 = m ∧ t.pow = s.pow ∧ t.Presents 769 := by
  dsimp only
  unfold State.sessionBegun
  obtain ⟨-, hs, hh, -, hp, -⟩ := s.setSession_spec (v := 1) (by decide) hm
  generalize s.setSession 1 m = a at *
  have hw : Writes (fun i _ => i = 0x2800 + 769) a (a.raise1 769 0) := (Writes.refl _ a).raise1 (fun _ => rfl)
  exact ⟨(State.session_congr (hw.rd (by decide) (by decide))).trans hs, (hw.rd (by decide) (by decide)).trans hh, (State.raise1_pow _ _ _).trans hp,
    a.presents_raise1 769 0⟩

theorem State.headerShown_spec (h : List Byte) : let t := s.headerShown h
    Writes (fun i j => i = 0x2200 ∧ 5 ≤ j) s t ∧ t.pow = s.pow ∧ t.rd 0x2200 7 = 4096 ∧ t.rd 0x2200 8 = (hLength h : Int) % 2 ^ 32 := by
  dsimp only
  unfold State.headerShown
  generalize (hKind h : Int) = v5
  generalize (fieldAt h 32 4 : Int) = v6
  generalize (hLength h : Int) = v8
  generalize (cdiv (hResult h) 65536 : Int) = vA
  have hw1 : Writes (fun i j => i = 0x2200 ∧ 5 ≤ j) s ((s.wr 0x2200 5 v5).wr 0x2200 6 v6) :=
    ((Writes.refl _ s).wr (by decide) ⟨rfl, by decide⟩).wr (by decide) ⟨rfl, by decide⟩
  have hp1 := (State.wr_pow (s.wr 0x2200 5 v5) 0x2200 6 v6).trans (State.wr_pow s 0x2200 5 v5)
  generalize (s.wr 0x2200 5 v5).wr 0x2200 6 v6 = a at *
  have hw2 : Writes (fun i j => i = 0x2200 ∧ 5 ≤ j) s (a.wr 0x2200 7 4096) := hw1.wr (by decide) ⟨rfl, by decide⟩
  have h7 : (a.wr 0x2200 7 4096).rd 0x2200 7 = 4096 := by
    rw [State.rd_wr_self _ _ (by decide), updateTypes.2.2.2.2.1]
    rfl
  have hp2 := (State.wr_pow a 0x2200 7 4096).trans hp1
  generalize a.wr 0x2200 7 4096 = b at *
  have hw3 : Writes (fun i j => i = 0x2200 ∧ 5 ≤ j) s (b.wr 0x2200 8 v8) := hw2.wr (by decide) ⟨rfl, by decide⟩
  have h8 : (b.wr 0x2200 8 v8).rd 0x2200 8 = v8 % 2 ^ 32 := by
    rw [State.rd_wr_self _ _ (by decide), updateTypes.2.2.2.2.2.1, Ty.wrap_u32]
  have h7' : (b.wr 0x2200 8 v8).rd 0x2200 7 = 4096 := (State.rd_wr_at _ _ (by decide) (by decide)).trans ((if_neg (by decide)).trans h7)
  have hp3 := (State.wr_pow b 0x2200 8 v8).trans hp2
  generalize b.wr 0x2200 8 v8 = c at *
  have hw4 : Writes (fun i j => i = 0x2200 ∧ (j = 9 ∨ j = 0xA)) c ((c.wr 0x2200 9 0).wr 0x2200 0xA vA) :=
    ((Writes.refl _ c).wr (by decide) ⟨rfl, .inl rfl⟩).wr (by decide) ⟨rfl, .inr rfl⟩
  exact ⟨hw3.trans (hw4.mono fun _ _ h => ⟨h.1, by omega⟩),
    (State.wr_pow _ _ _ _).trans ((State.wr_pow _ _ _ _).trans hp3), (hw4.rd (by decide) (by decide)).trans h7', (hw4.rd (by decide) (by decide)).trans h8⟩

theorem State.headerKept_spec (h : List Byte) : let t := s.headerKept h
    t.upd = { s.upd with header := h, body := [], journaled := 0, last := s.now, wait := [] } ∧ t.dict = s.dict ∧ t.ev = s.ev ∧ t.pow = s.pow :=
  ⟨rfl, rfl, rfl, rfl⟩

theorem State.bankOpened_spec (h : List Byte) : let t := s.bankOpened h
    t.dict = s.dict ∧ t.ev = s.ev ∧ t.upd = { s.upd with banks := t.upd.banks } ∧ (hKind h = 1 → (t.fw s.otherBank).code = 3) := by
  dsimp only
  unfold State.bankOpened
  split
  · exact ⟨rfl, rfl, rfl, fun _ => by rw [s.fw_otherBank]⟩
  · next hk => exact ⟨rfl, rfl, rfl, fun h => absurd h hk⟩

theorem State.dropWritten_pow : s.dropWritten.pow = s.pow := by
  unfold State.dropWritten
  split <;> rfl

theorem State.newSession_spec {m : Nat} (hm : m < 256) (h : List Byte) : let t := s.newSession m h
    t.session = 1 ∧ t.rd 0x2200 2 = m ∧ t.rd 0x2200 7 = 4096 ∧ t.rd 0x2200 8 = (hLength h : Int) % 2 ^ 32 ∧
      t.upd.header = h ∧ t.upd.body = [] ∧ t.upd.journaled = 0 ∧ t.Presents 769 ∧ (hKind h = 1 → (t.fw s.otherBank).code = 3) := by
  dsimp only
  rw [s.newSession_eq]
  have hp0 := s.dropWritten_pow
  generalize s.dropWritten = s0 at *
  obtain ⟨hs, h2, hp1, hp⟩ := s0.sessionBegun_spec hm
  generalize s0.sessionBegun m = a at *
  obtain ⟨hw, hp2, h7, h8⟩ := a.headerShown_spec h
  generalize a.headerShown h = b at *
  obtain ⟨hu, hd, he1, hp3⟩ := b.headerKept_spec h
  generalize b.headerKept h = c at *
  have ho : c.otherBank = s.otherBank := State.otherBank_congr (hp3.trans (hp2.trans (hp1.trans hp0)))
  have hpb := (hw.presents hp).of_pres (congrArg EventSt.pres he1)
  obtain ⟨hd', he, hu', hk⟩ := c.bankOpened_spec h
  rw [ho] at hk
  generalize c.bankOpened h = d at *
  have hrd (j : Nat) : d.rd 0x2200 j = b.rd 0x2200 j := State.rd_congr (hd'.trans hd) _ _
  refine ⟨(State.session_congr ((hrd 1).trans (hw.rd (by decide) (by decide)))).trans hs, (hrd 2).trans ((hw.rd (by decide) (by decide)).trans h2),
    (hrd 7).trans h7, (hrd 8).trans h8, by rw [hu', hu], by rw [hu', hu], by rw [hu', hu], hpb.of_pres (by rw [he]), hk⟩

/-! ### Later blocks (R414) -/

section
variable {m o : Nat} {bs : List Byte} (h1 : s.session = 1)
include h1

theorem State.laterBlock_foreign (hm : s.rdN 0x2200 2 ≠ m) : s.laterBlock m o bs = (s, .notHolder) := if_pos ⟨h1, hm⟩

variable (hm : s.rdN 0x2200 2 = m) (hw : s.upd.wait = [])
include hm hw

/-- R414: a block of the holder while none waits. -/
theorem State.laterBlock_holder : s.laterBlock m o bs =
    if s.rdN 0x2200 7 < o ∨ s.rdN 0x2200 8 ≤ o then (s, if o < s.rdN 0x2200 7 then .stale else .early)
    else if o < s.rdN 0x2200 7 then (s, .stale)
    else if s.bufferFull then (s.updUpd (fun u => { u with wait := [(m, bs)] }), .waits)
    else (s.takeBlock bs, .taken) := by
  refine (if_neg (fun h => h.2 hm)).trans ?_
  rw [hw, List.length_nil, Nat.mul_zero, Nat.add_zero]
  refine if_congr ⟨fun h => h.resolve_left (not_not_intro h1), .inr⟩ rfl (if_congr .rfl rfl ?_)
  refine if_congr ⟨fun h => h.resolve_right (by simp), .inl⟩ (congrArg (fun x => (x, BlockAnswer.waits)) ?_) rfl
  unfold State.updUpd
  dsimp only
  rw [hw, List.nil_append]

theorem State.laterBlock_taken (ho : o = s.rdN 0x2200 7) (hl : o < s.rdN 0x2200 8) (hb : s.bufferFull = false) : s.laterBlock m o bs = (s.takeBlock bs, .taken) := by
  rw [s.laterBlock_holder h1 hm hw, if_neg (by omega), if_neg (by omega), if_neg (by simp [hb])]

theorem State.laterBlock_waits (ho : o = s.rdN 0x2200 7) (hl : o < s.rdN 0x2200 8) (hb : s.bufferFull = true) :
    s.laterBlock m o bs = (s.updUpd (fun u => { u with wait := [(m, bs)] }), .waits) := by
  rw [s.laterBlock_holder h1 hm hw, if_neg (by omega), if_neg (by omega), if_pos hb]

theorem State.laterBlock_stale (ho : o < s.rdN 0x2200 7) : s.laterBlock m o bs = (s, .stale) := by
  rw [s.laterBlock_holder h1 hm hw, if_pos ho, if_pos ho, ite_self]

theorem State.laterBlock_early (ho : s.rdN 0x2200 7 < o) : s.laterBlock m o bs = (s, .early) := by
  rw [s.laterBlock_holder h1 hm hw, if_pos (.inl ho), if_neg (by omega)]

end

theorem State.takeBlock_next (bs : List Byte) : (s.takeBlock bs).rd 0x2200 7 = (s.rdN 0x2200 7 + 4096 : Nat) % 2 ^ 32 := by
  have h : (s.wr 0x2200 7 (s.rdN 0x2200 7 + 4096)).rd 0x2200 7 = (s.rdN 0x2200 7 + 4096 : Nat) % 2 ^ 32 := by
    rw [State.rd_wr_self _ _ (by decide), updateTypes.2.2.2.2.1, Ty.wrap_u32]
    omega
  rw [State.takeBlock, State.updUpd_rd]
  exact h

/-- R414: the acknowledgement of a block that waits is owed. -/
theorem State.owed_spec {m i j : Nat} : let t := (s.record m i j 0).owe m
    Writes (fun i _ => i = 0x2010) s t ∧ t.upd = s.upd := by
  have hr : s.record m i j 0 = s.bump 0x2010 2 := by
    unfold State.record
    exact (if_pos rfl).trans ((if_neg (by decide)).trans (if_neg (by decide)))
  have hw : Writes (fun i _ => i = 0x2010) s (s.bump 0x2010 2) := (Writes.refl _ s).bump (by decide) rfl
  have hu := State.bump_upd s 0x2010 2 1
  dsimp only
  rw [hr]
  generalize s.bump 0x2010 2 = a at *
  exact ⟨hw.updMaster, hu⟩

end

/-! ### The commands -/

section
variable {s u t : State} {dt : Nat} {m : Fin 17} {w : Fin 4} {bs : List Byte} (e : s.pass dt = u) (hm : u.masterPresent m = true)
  (hr : u.dev.ready = true) (hl : bs.length = 4096) (ho : u.winOpen w = true) (how : u.winOwner w = m) (h2 : u.winMode w = 2) (ht : u.winTarget w = 0x2201)
include e hm hr hl ho how h2 ht

theorem exec_updateBlockZero {c : Nat} (h0 : u.winOffset w = 0) (h : u.blockZero m bs = (t, c)) : exec (.updateBlockZero dt m w bs) s =
    .next ((if c = 1 ∨ c = 8 then t.advance w 4096 else t).answer m (0x2024 + w) 1 (if c = 1 ∨ c = 8 then 0 else if c = 7 ∨ c = 9 then 8 else 5)) := by
  subst e
  have hac : accessCode m 0 bs.length = 0 := by
    rw [hl]
    exact (if_neg (by decide)).trans ((if_neg (by simp)).trans (if_neg (by simp)))
  have hww := State.windowWrite_staging _ hac ho how h2 ht
  rw [h0, State.stageAccess_zero _ hl, h, hl] at hww
  refine congrArg _ ((State.dataWrite_answered hm hr hww).trans ?_)
  dsimp only
  congr 1
  by_cases h18 : c = 1 ∨ c = 8
  · rw [if_pos h18, if_pos h18]
    exact if_pos (.inl rfl)
  · rw [if_neg h18, if_neg h18]
    refine if_neg ?_
    split <;> simp

variable {a : Nat} (hac : accessCode m a 4096 = 0) (h0 : u.winOffset w + a ≠ 0) (h4 : (u.winOffset w + a) % 4096 = 0)
include hac h0 h4

theorem exec_updateBlock_answered {b : BlockAnswer} {c : Nat} (h : u.laterBlock m (u.winOffset w + a) bs = (t, b)) (hb : b.code = some c) :
    exec (.updateBlock dt m w a bs) s = .next ((if c = 0 then t.advance w 4096 else t).answer m (0x2024 + w) 1 c) := by
  subst e
  have hww := State.windowWrite_staging _ (hl ▸ hac) ho how h2 ht
  rw [State.stageAccess_later _ hl h4 h0, h, hl] at hww
  unfold windowMoved at hww
  dsimp only at hww
  rw [hb] at hww
  refine congrArg _ ((State.dataWrite_answered hm hr hww).trans ?_)
  congr 1
  exact if_congr (by simp) rfl rfl

theorem exec_updateBlock_owed (h : u.laterBlock m (u.winOffset w + a) bs = (t, .waits)) :
    exec (.updateBlock dt m w a bs) s = .next (((t.advance w 4096).record m (0x2024 + w) 1 0).owe m) := by
  subst e
  have hww := State.windowWrite_staging _ (hl ▸ hac) ho how h2 ht
  rw [State.stageAccess_later _ hl h4 h0, h, hl] at hww
  exact congrArg _ (State.dataWrite_owed hm hr hww)

end

end Sys2Proof.Machine
end
section
/-! ## Delivering an image: what a block leaves (O54) -/
set_option Elab.async false
namespace Sys2Proof.Machine

section
variable (s : State) {m : Nat} {h : List Byte}

/-- R412: a refused block 0 leaves the session as it is. -/
theorem State.headerRefused_spec {c : Nat} (hm : m < 256) (hc : c < 256) (h1 : c ≠ 1) (h8 : c ≠ 8) : let t := s.headerNoted m c
    t.rd 0x2200 3 = c ∧ t.rd 0x2200 4 = m ∧ t.session = s.session ∧ t.upd = s.upd ∧ t.Presents 768 ∧ (c = 7 ∨ c = 9 → t.Presents 770) := by
  obtain ⟨hw, hu, -, -, h3, h4, hp, hp'⟩ := s.headerNoted_spec hm hc
  exact ⟨h3, h4, State.session_congr (hw.rd (by decide) (by unfold headerEntry; omega)), hu, hp h1 h8, hp'⟩

/-- R412: block 0 of the image that is staged already is acknowledged. -/
theorem State.headerKnown_spec (w : Fin 4) (hm : m < 256) : let t := (s.headerNoted m 8).advance w 4096
    t.rd 0x2200 3 = 8 ∧ t.session = s.session ∧ t.upd = s.upd := by
  dsimp only
  obtain ⟨hw, hu, -, -, h3, -⟩ := s.headerNoted_spec hm (by decide : 8 < 256)
  have hs : (s.headerNoted m 8).session = s.session := State.session_congr (hw.rd (by decide) (by unfold headerEntry; omega))
  generalize s.headerNoted m 8 = a at *
  exact ⟨(a.advance_session w 4096 (by decide)).trans h3, (State.session_congr (a.advance_session w 4096 (by decide))).trans hs,
    (a.advance_spec w 4096).2.trans hu⟩

/-- R415: block 0 of a session under way, or interrupted, goes on with it. -/
theorem State.sessionResumed_spec (w : Fin 4) (hm : m < 256) : let t := ((s.headerNoted m 1).sessionGoesOn m).advance w 4096
    t.session = 1 ∧ t.rd 0x2200 2 = m ∧ t.rd 0x2200 7 = s.rd 0x2200 7 ∧ t.upd = { s.upd with last := s.now } := by
  dsimp only
  obtain ⟨hw, hu, -, hn, -⟩ := s.headerNoted_spec hm (by decide : 1 < 256)
  have h7 : (s.headerNoted m 1).rd 0x2200 7 = s.rd 0x2200 7 := hw.rd (by decide) (by unfold headerEntry; omega)
  generalize s.headerNoted m 1 = a at *
  obtain ⟨hw2, hs, h2, hu2⟩ := a.sessionGoesOn_spec hm
  generalize a.sessionGoesOn m = b at *
  have hj {j : Nat} (hj : j < 256) := b.advance_session w 4096 hj
  refine ⟨(State.session_congr (hj (by decide))).trans hs, (hj (by decide)).trans h2, ?_, ?_⟩
  · rw [hj (by decide), hw2.rd (by decide) (by unfold sessionEntry; omega), h7]
  · rw [(b.advance_spec w 4096).2, hu2, hu, hn]

/-- R415: block 0 of another image begins a session. -/
theorem State.sessionStarted_spec (w : Fin 4) (hm : m < 256) (h : List Byte) : let t := ((s.headerNoted m 1).newSession m h).advance w 4096
    t.session = 1 ∧ t.rd 0x2200 2 = m ∧ t.rd 0x2200 7 = 4096 ∧ t.rd 0x2200 8 = (hLength h : Int) % 2 ^ 32 ∧
      t.upd.header = h ∧ t.upd.body = [] ∧ t.upd.journaled = 0 ∧ t.Presents 769 ∧ (hKind h = 1 → (t.fw s.otherBank).code = 3) := by
  dsimp only
  obtain ⟨-, -, hp, -⟩ := s.headerNoted_spec hm (by decide : 1 < 256)
  have ho := State.otherBank_congr hp
  generalize s.headerNoted m 1 = a at *
  obtain ⟨hs, h2, h7, h8, hh, hb, hj, hpr, hk⟩ := a.newSession_spec hm h
  rw [ho] at hk
  generalize a.newSession m h = b at *
  obtain ⟨hw, hu⟩ := b.advance_spec w 4096
  have hrd {j : Nat} (hj : j < 256) := b.advance_session w 4096 hj
  have hfw := State.fw_congr (congrArg UpdateSt.banks hu) s.otherBank
  generalize b.advance w 4096 = t at *
  exact ⟨(State.session_congr (hrd (by decide))).trans hs, (hrd (by decide)).trans h2, (hrd (by decide)).trans h7, (hrd (by decide)).trans h8,
    by rw [hu, hh], by rw [hu, hb], by rw [hu, hj], hw.presents hpr, fun h1 => by rw [hfw, hk h1]⟩

theorem State.headerTaken_same (hs : s.session = 1 ∨ s.session = 2) (hh : h = s.upd.header) :
    (s.headerNoted m 1).headerTaken m h = (s.headerNoted m 1).sessionGoesOn m ∨ 256 ≤ m := by
  by_cases hm : m < 256
  · obtain ⟨hw, hu, -⟩ := s.headerNoted_spec hm (by decide : 1 < 256)
    have hss : (s.headerNoted m 1).session = s.session := State.session_congr (hw.rd (by decide) (by unfold headerEntry; omega))
    exact .inl (if_pos ⟨by rw [hss]; exact hs, by rw [hu]; exact hh⟩)
  · exact .inr (by omega)

theorem State.headerTaken_new (hm : m < 256) (hh : h ≠ s.upd.header) :
    (s.headerNoted m 1).headerTaken m h = (s.headerNoted m 1).newSession m h := by
  obtain ⟨-, hu, -⟩ := s.headerNoted_spec hm (by decide : 1 < 256)
  exact if_neg (fun h' => hh (h'.2.trans (by rw [hu])))

/-- R414: the block at the next offset. -/
theorem State.blockTaken_spec (w : Fin 4) (bs : List Byte) : let t := (s.takeBlock bs).advance w 4096
    t.rd 0x2200 7 = (s.rdN 0x2200 7 + 4096 : Nat) % 2 ^ 32 ∧ t.upd = { s.upd with body := s.upd.body ++ bs, last := s.now } := by
  dsimp only
  have h7 := s.takeBlock_next bs
  have hu := s.takeBlock_upd bs
  generalize s.takeBlock bs = a at *
  exact ⟨(a.advance_session w 4096 (by decide)).trans h7, (a.advance_spec w 4096).2.trans hu⟩

/-- R414: a block for which there is no room. -/
theorem State.blockWaits_spec (w : Fin 4) (m : Nat) (bs : List Byte) (i j : Nat) :
    let t := (((s.updUpd (fun u => { u with wait := [(m, bs)] })).advance w 4096).record m i j 0).owe m
    t.rd 0x2200 7 = s.rd 0x2200 7 ∧ t.upd = { s.upd with wait := [(m, bs)] } := by
  dsimp only
  have h7 : (s.updUpd (fun u => { u with wait := [(m, bs)] })).rd 0x2200 7 = s.rd 0x2200 7 := State.updUpd_rd _ _ _ _
  have hu : (s.updUpd (fun u => { u with wait := [(m, bs)] })).upd = { s.upd with wait := [(m, bs)] } := rfl
  generalize s.updUpd (fun u => { u with wait := [(m, bs)] }) = a at *
  have h7' := (a.advance_session w 4096 (by decide)).trans h7
  have hu' := (a.advance_spec w 4096).2.trans hu
  generalize a.advance w 4096 = b at *
  obtain ⟨hw, hu2⟩ := b.owed_spec (m := m) (i := i) (j := j)
  exact ⟨(hw.rd (by decide) (by decide)).trans h7', hu2.trans hu'⟩

end

end Sys2Proof.Machine
namespace Sys2Proof
open Machine

/-- Settles O54: each clause is what a block, a step of the journal, a delta or a verification is shown above to do. -/
theorem updateDelivery : Obligations.UpdateDelivery := by
  unfold Obligations.UpdateDelivery
  intro s dt u
  have e : s.pass dt = u := rfl
  clear_value u
  refine ⟨fun m hm hr h0 => ?noSession, fun m w bs hm hr hl ho how h2 ht => ⟨fun hz => ?first, fun a hac h0 h4 => ?later⟩, fun hs hj => ?journaled,
    fun hs hl => ?silent, fun code hc => u.failSession_spec hc, fun h => ?apply, fun h => ?verify⟩
  case noSession =>
    obtain ⟨-, -, -, -, -, -, -, -, -, hrow, hv⟩ := updateRows
    exact hostCommand_gives e hm hr hrow hv ((if_neg (by omega)).trans (if_pos h0))
  case first =>
    intro c
    have hx {t : State} {c : Nat} (h : u.blockZero m bs = (t, c)) := exec_updateBlockZero e hm hr hl ho how h2 ht hz h
    have hm' : (m : Nat) < 256 := by omega
    have hc : u.headerResult m bs = c := rfl
    have hlt := u.headerResult_lt m bs
    rw [hc] at hlt
    clear_value c
    refine ⟨fun h1 h8 => ⟨_, ?_, u.headerRefused_spec hm' hlt h1 h8⟩, fun h8 => ⟨_, ?_, u.headerKnown_spec w hm'⟩,
      fun h1 hs hh => ⟨_, ?_, u.sessionResumed_spec w hm'⟩, fun h1 hh => ⟨_, ?_, u.sessionStarted_spec w hm' bs⟩⟩
    · rw [hx (u.blockZero_refused (by rw [hc]; exact h1)), hc, if_neg (by omega), if_neg (by omega)]
    · rw [hx (u.blockZero_refused (by rw [hc, h8]; decide)), hc, h8]
      rfl
    · rw [hx (u.blockZero_accepted (hc.trans h1)), (u.headerTaken_same hs hh).resolve_right (by omega)]
      rfl
    · rw [hx (u.blockZero_accepted (hc.trans h1)), u.headerTaken_new hm' hh]
      rfl
  case later =>
    intro o
    have ho' : u.winOffset w + a = o := rfl
    clear_value o
    have hx {t : State} {b : BlockAnswer} {c : Nat} (h : u.laterBlock m o bs = (t, b)) (hb : b.code = some c) :=
      exec_updateBlock_answered e hm hr hl ho how h2 ht hac h0 h4 (by rw [ho']; exact h) hb
    refine ⟨fun h1 hn => hx (u.laterBlock_foreign h1 hn) rfl, fun h1 hh hw => ⟨fun h7 h8 hb => ⟨_, hx (u.laterBlock_taken h1 hh hw h7 h8 hb) rfl, ?_⟩,
      fun h7 h8 hb => ⟨_, ?_, u.blockWaits_spec w m bs (0x2024 + w) 1⟩, fun h7 => ⟨_, hx (u.laterBlock_stale h1 hh hw h7) rfl, ?_⟩,
      fun h7 => hx (u.laterBlock_early h1 hh hw h7) rfl⟩⟩
    · rw [h7]
      exact u.blockTaken_spec w bs
    · exact exec_updateBlock_owed e hm hr hl ho how h2 ht hac h0 h4 (by rw [ho']; exact u.laterBlock_waits h1 hh hw h7 h8 hb)
    · exact ⟨u.advance_session w 4096 (by decide), (u.advance_spec w 4096).2⟩
  case journaled =>
    have hdue : ((u.session = 1 || u.session = 2) && decide (min (u.upd.journaled + 65536) (u.rdN 0x2200 8) ≤ u.rdN 0x2200 7)) = true := by
      simp [hs, hj]
    exact ⟨(event_at e hdue : execUpdateBlocksJournaled dt true s = _), (event_at e hdue : execUpdateBlocksJournaled dt false s = _),
      u.journalStep_journaled, fun hw hl => u.journalStep_last hw hl⟩
  case silent =>
    refine (event_at e ?_ : execUpdateSessionSilence dt s = _)
    rw [decide_eq_true hs, State.elapsed, decide_eq_true hl]
    rfl
  case apply =>
    exact ⟨fun hb => exec_updateApply_bodyBad e h hb true, fun hb hd => exec_updateApply_deltaBad e h hb hd true,
      fun c hb hd => ⟨exec_updateApply_good e h hb hd false, _, exec_updateApply_good e h hb hd true, u.deltaApplied_spec c⟩⟩
  case verify =>
    obtain ⟨hob, hhd⟩ := u.fullContent_same
    have hx (manifest good : Bool) := exec_updateVerify (manifest := manifest) (good := good) e h
    have hv (hb : u.bodyGood = true) (manifest good : Bool) := u.verify_content hb manifest good
    have hst := u.fullContent.stageImage_spec
    rw [hob, hhd] at hst
    rw [← hob]
    refine ⟨fun hb => by rw [hx, u.verify_bodyBad hb], fun hb hd => by rw [hx, hv hb, u.fullContent.verifyContent_digest hd],
      fun hb hd => ⟨by rw [hx, hv hb, u.fullContent.verifyContent_manifest hd], u.fullContent.stageImage, ?_, ?_⟩⟩
    · rw [hx, hv hb, u.fullContent.verifyContent_staged hd]
    · rw [hob]
      exact hst

end Sys2Proof
end
section
/-! ## Rings and chains (O34) -/
set_option Elab.async false
namespace Sys2Proof.Machine

theorem ringTypes : ∀ k : Fin 8, tyAt (0x5440 + k) 0xC = .u8 ∧ tyAt (0x5440 + k) 0x18 = .u32 ∧
    ∀ r : Fin 4, tyAt (0x5440 + k) (8 + r) = .u16 ∧ tyAt (0x5440 + k) (0x10 + r) = .u32 ∧ tyAt (0x5440 + k) (0x14 + r) = .u32 := by
  decide +kernel

section
variable (s : State) (k : Fin 8) (r : Fin 4)

/-! ### A ring and its entries -/

theorem State.ring_updRing (f : Ring → Ring) (a b : Nat) : (s.updRing k r f).ring a b = if 4 * k.val + r = 4 * a + b then f (s.ring a b) else s.ring a b := by
  have hk := k.isLt
  have hr := r.isLt
  exact (vget_vupd _ _ _ _).trans (if_congr ⟨fun h => h.1, fun h => ⟨h, by omega⟩⟩ rfl rfl)

theorem State.ring_updRing_self (f : Ring → Ring) : (s.updRing k r f).ring k r = f (s.ring k r) := (s.ring_updRing k r f k r).trans (if_pos rfl)

theorem State.ring_congr {s t : State} (h : t.dma.rings = s.dma.rings) (a b : Nat) : t.ring a b = s.ring a b := by rw [State.ring, State.ring, h]

theorem State.ringLen_congr {s t : State} (h : t.dict = s.dict) (a b : Nat) : t.ringLen a b = s.ringLen a b := by
  rw [State.ringLen, State.ringLen, State.rdN, State.rdN, State.rd_congr h]

theorem State.ringHead_congr {s t : State} (h : t.dict = s.dict) (a b : Nat) : t.ringHead a b = s.ringHead a b := by
  rw [State.ringHead, State.ringHead, State.rdN, State.rdN, State.rd_congr h]

theorem State.ringState_congr {s t : State} (h : t.rd (0x5440 + k) 0xC = s.rd (0x5440 + k) 0xC) (r : Nat) : t.ringState k r = s.ringState k r :=
  congrArg (fun x : Int => x.toNat / 4 ^ r % 4) h

theorem State.setRing_spec {v : Nat} (hv : v < 4) : let t := s.setRing k r v
    Writes (fun i j => i = 0x5440 + k ∧ j = 0xC) s t ∧ t.dma = s.dma ∧ t.ringState k r = v := by
  dsimp only
  have hval : s.setRing k r v = s.wr (0x5440 + k) 0xC
      (s.rdN (0x5440 + k) 0xC - s.rdN (0x5440 + k) 0xC / 4 ^ r.val % 4 * 4 ^ r.val + v * 4 ^ r.val : Nat) := by
    unfold State.setRing
    have hle : s.rdN (0x5440 + k) 0xC / 4 ^ r.val % 4 * 4 ^ r.val ≤ s.rdN (0x5440 + k) 0xC :=
      (Nat.mul_le_mul_right _ (Nat.mod_le _ _)).trans (Nat.div_mul_le_self _ _)
    push_cast [Nat.cast_sub hle]
    rfl
  rw [hval]
  refine ⟨(Writes.refl _ s).wr (by decide) ⟨rfl, rfl⟩, State.wr_dma _ _ _ _, ?_⟩
  have h := field4_set_mod (s.rdN (0x5440 + k) 0xC) (p := 4 ^ r.val) (l := 2 ^ 8) (Nat.pow_pos (by decide))
    ((by decide : ∀ r : Fin 4, (4 : Nat) ^ r.val * 4 ∣ 2 ^ 8) r) hv
  rw [State.ringState, State.rdN, State.rd_wr_self _ _ (by decide), (ringTypes k).1, Ty.wrap_u8]
  generalize s.rdN (0x5440 + k) 0xC - s.rdN (0x5440 + k) 0xC / 4 ^ r.val % 4 * 4 ^ r.val + v * 4 ^ r.val = n at *
  have hn : ((n : Int) % 2 ^ 8).toNat = n % 2 ^ 8 := by omega
  rw [hn]
  exact h

theorem State.moveHead_spec (n : Nat) : let t := s.moveHead k r n
    Writes (fun i j => i = 0x5440 + k ∧ j = 8 + r) s t ∧ t.dma = s.dma ∧
      t.rd (0x5440 + k) (8 + r) = (((s.ringHead k r + n) % s.ringLen k r : Nat) : Int) % 2 ^ 16 := by
  have hr := r.isLt
  dsimp only
  unfold State.moveHead
  refine ⟨(Writes.refl _ s).wr (by omega) ⟨rfl, rfl⟩, State.wr_dma _ _ _ _, ?_⟩
  rw [State.rd_wr_self _ _ (by omega), ((ringTypes k).2.2 r).1, Ty.wrap_u16]
  push_cast
  rfl

/-- The entries that show rates in use and loads (R244, R266). -/
def loadEntry (i j : Nat) : Prop := (0x5410 ≤ i ∧ i < 0x5430 ∧ j = 4) ∨ (0x5440 ≤ i ∧ i < 0x5448 ∧ j = 0x19)

theorem State.showLoads_spec : Writes loadEntry s s.showLoads ∧ s.showLoads.dma = s.dma := by
  unfold State.showLoads
  dsimp only
  constructor
  · refine ((Writes.refl _ s).each fun i hi t h => ?_).each fun i hi t h => ?_
    · exact h.wr (by decide) (.inl ⟨by omega, by omega, rfl⟩)
    · exact h.wr (by decide) (.inr ⟨by omega, by omega, rfl⟩)
  · exact (State.each_off State.dma (fun _ _ _ => State.wr_dma _ _ _ _) _).trans (State.each_off State.dma (fun _ _ _ => State.wr_dma _ _ _ _) s)

/-! ### Writing back (R257) -/

/-- R257: descriptor `i` of those written back. -/
def writeBackOne (k r at_ status : Nat) (words : List (List Nat)) (served first lost i : Nat) (s : State) : State :=
  (((s.ringPut (descAddr k r ((at_ + i) % s.ringLen k r) 0) (status * 2 ^ 24 + min 0xFFFFFF lost)).ringPut
    (descAddr k r ((at_ + i) % s.ringLen k r) 1) first).ringPut (descAddr k r ((at_ + i) % s.ringLen k r) 2) served).ringPut
    (descAddr k r ((at_ + i) % s.ringLen k r) 7) ((words.getD i []).getD 7 0 % 2 ^ 31)

theorem State.writeBack_eq (k r at_ status : Nat) (words : List (List Nat)) (served first lost : Nat) :
    s.writeBack k r at_ status words served first lost = s.each words.length (writeBackOne k r at_ status words served first lost) := rfl

/-- A word written into ring memory leaves a quantity that no such word changes. -/
theorem writeBackOne_off {α : Type} (g : State → α) (h : ∀ (s : State) (o w : Nat), g (s.ringPut o w) = g s) (k r at_ status : Nat)
    (words : List (List Nat)) (served first lost i : Nat) : g (writeBackOne k r at_ status words served first lost i s) = g s := by
  unfold writeBackOne
  rw [h, h, h, h]

theorem State.writeBack_same (k r at_ status : Nat) (words : List (List Nat)) (served first lost : Nat) : let t := s.writeBack k r at_ status words served first lost
    t.dict = s.dict ∧ t.ev = s.ev ∧ t.dma.rings = s.dma.rings := by
  dsimp only
  rw [s.writeBack_eq]
  exact ⟨State.each_off State.dict (fun i _ t => writeBackOne_off t State.dict (fun _ _ _ => rfl) _ _ _ _ _ _ _ _ i) s,
    State.each_off State.ev (fun i _ t => writeBackOne_off t State.ev (fun _ _ _ => rfl) _ _ _ _ _ _ _ _ i) s,
    State.each_off (fun t => t.dma.rings) (fun i _ t => writeBackOne_off t (fun t => t.dma.rings) (fun _ _ _ => rfl) _ _ _ _ _ _ _ _ i) s⟩

theorem State.writeBack_one (k r at_ status : Nat) (w : List Nat) (served first lost : Nat) : s.writeBack k r at_ status [w] served first lost =
    (((s.ringPut (descAddr k r (at_ % s.ringLen k r) 0) (status * 2 ^ 24 + min 0xFFFFFF lost)).ringPut (descAddr k r (at_ % s.ringLen k r) 1) first).ringPut
      (descAddr k r (at_ % s.ringLen k r) 2) served).ringPut (descAddr k r (at_ % s.ringLen k r) 7) (w.getD 7 0 % 2 ^ 31) := rfl

/-- A word read after another word has been written. -/
theorem State.ringWord_ringPut_off {o o' : Nat} (w : Nat) (ho : o + 4 ≤ ringSize) (h : o + 4 ≤ o' ∨ o' + 4 ≤ o) : (s.ringPut o w).ringWord o' = s.ringWord o' := by
  unfold State.ringWord Memory.bytes
  refine congrArg unle (List.map_congr_left (fun i hi => s.ringPut_get w ho ?_))
  have := List.mem_range.mp hi
  omega

/-- R257: the words of a descriptor that is written back. -/
theorem State.writeBack_words {at_ status served first lost : Nat} (w : List Nat) {r : Nat} (hr : r < 4) (hat : at_ % s.ringLen k r < 1024) (hst : status < 256)
    (hserved : served < 2 ^ 32) (hfirst : first < 2 ^ 32) : let t := s.writeBack k r at_ status [w] served first lost
    t.ringWord (descAddr k r (at_ % s.ringLen k r) 0) = status * 2 ^ 24 + min 0xFFFFFF lost ∧ t.ringWord (descAddr k r (at_ % s.ringLen k r) 1) = first ∧
      t.ringWord (descAddr k r (at_ % s.ringLen k r) 2) = served ∧ t.ringWord (descAddr k r (at_ % s.ringLen k r) 7) = w.getD 7 0 % 2 ^ 31 ∧ t.dict = s.dict := by
  have hk := k.isLt
  have hdict := (s.writeBack_same k r at_ status [w] served first lost).1
  dsimp only
  rw [s.writeBack_one] at *
  generalize at_ % s.ringLen k r = i at *
  have hw0 : status * 2 ^ 24 + min 0xFFFFFF lost < 2 ^ 32 := by omega
  generalize status * 2 ^ 24 + min 0xFFFFFF lost = w0 at *
  have hw7 : w.getD 7 0 % 2 ^ 31 < 2 ^ 32 := by omega
  generalize w.getD 7 0 % 2 ^ 31 = w7 at *
  have hd (x : Nat) : descAddr k r i x = descAddr k r i 0 + 4 * x := by unfold descAddr; omega
  have hb : descAddr k r i 0 + 32 ≤ ringSize := by unfold descAddr ringBase ringSize; omega
  rw [hd 1, hd 2, hd 7] at *
  generalize descAddr k r i 0 = o at *
  refine ⟨?_, ?_, ?_, ?_, hdict⟩
  · rw [State.ringWord_ringPut_off _ _ (by omega) (by omega), State.ringWord_ringPut_off _ _ (by omega) (by omega),
      State.ringWord_ringPut_off _ _ (by omega) (by omega), State.ringWord_ringPut _ _ (by omega), Nat.mod_eq_of_lt hw0]
  · rw [State.ringWord_ringPut_off _ _ (by omega) (by omega), State.ringWord_ringPut_off _ _ (by omega) (by omega),
      State.ringWord_ringPut _ _ (by omega), Nat.mod_eq_of_lt hfirst]
  · rw [State.ringWord_ringPut_off _ _ (by omega) (by omega), State.ringWord_ringPut _ _ (by omega), Nat.mod_eq_of_lt hserved]
  · rw [State.ringWord_ringPut _ _ (by omega), Nat.mod_eq_of_lt hw7]

/-! ### What a fetch finds (R255, R260) -/

/-- R260: a fetch answers the doorbell. -/
def State.kicked (s : State) (k r : Nat) : State := s.updRing k r (fun q => { q with kick := false })

theorem State.kicked_chainAt (n i : Nat) : (s.kicked k r).chainAt k r n i = s.chainAt k r n i := by
  induction n generalizing i with
  | zero => rfl
  | succ n ih =>
    unfold State.chainAt
    dsimp only
    rw [ih]
    rfl

theorem State.kicked_run (a b : Nat) : ((s.kicked k r).ring a b).run = (s.ring a b).run := by
  unfold State.kicked
  rw [s.ring_updRing]
  split <;> rfl

theorem State.kicked_chains : (s.kicked k r).chains = s.chains := by
  unfold State.chains
  simp only [s.kicked_run k r]

theorem State.kicked_chainCheck (ds : List (List Nat)) : (s.kicked k r).chainCheck k ds = s.chainCheck k ds := by
  unfold State.chainCheck State.streamRate State.engineLoad
  rw [s.kicked_chains k r]
  rfl

/-- R260: the chain at the head of a ring. -/
def State.headChain (s : State) (k r : Nat) : List (List Nat) := s.chainAt k r (s.ringLen k r) (s.ringHead k r)

theorem State.kicked_headChain : (s.kicked k r).headChain k r = s.headChain k r := s.kicked_chainAt k r _ _

/-- R256: a chain's descriptors as it runs: its first line is the next one made where the descriptor leaves it open. -/
def startedWords (next : Nat) (ds : List (List Nat)) : List (List Nat) := match ds with
  | w :: rest => (if w.getD 5 0 = 0xFFFFFFFF then w.set 5 next else w) :: rest
  | [] => []

theorem startedWords_shape (next : Nat) (ds : List (List Nat)) : (startedWords next ds).length = ds.length ∧ (startedWords next ds).tail = ds.tail := by
  cases ds with
  | nil => exact ⟨rfl, rfl⟩
  | cons w rest => exact ⟨rfl, rfl⟩

/-- R260: the chain `ds` runs. -/
def State.chainTaken (s : State) (k r : Nat) (ds : List (List Nat)) : State :=
  ((s.updRing k r (fun q => { q with run := some { at_ := s.ringHead k r, descs := startedWords s.rdg.next ds, served := 0, first := none, lost := 0 } })).setRing
    k r 1).showLoads

/-- R255: the chain `ds` is written back as refused, and the ring's head moved past it. -/
def State.chainPassed (s : State) (k r code : Nat) (ds : List (List Nat)) : State :=
  (s.writeBack k r (s.ringHead k r) code ds 0 0 0).moveHead k r ds.length

/-- R255: a refusal is counted, shown and told. -/
def State.refusalTold (s : State) (k r code head : Nat) : State :=
  ((s.bump (0x5440 + k) (0x14 + r)).wr (0x5440 + k) 0x18 (code * 2 ^ 24 + r * 2 ^ 16 + head)).raise1 (312 + k) 0

/-- R260: what a ring does with the chain `ds` at its head. -/
def State.fetchChain (s : State) (k r n : Nat) (ds : List (List Nat)) : State :=
  if ds.isEmpty then s.setRing k r 2
  else if s.chainCheck k ds ≠ 0 then
    State.fetch k r n ((s.chainPassed k r (s.chainCheck k ds) ds).refusalTold k r (s.chainCheck k ds) (s.ringHead k r))
  else s.chainTaken k r ds

theorem State.fetch_succ (k r n : Nat) : State.fetch k r (n + 1) s = (s.kicked k r).fetchChain k r n ((s.kicked k r).headChain k r) := rfl

theorem State.chainTaken_spec (ds : List (List Nat)) : let t := s.chainTaken k r ds
    (∃ c : Chain, (t.ring k r).run = some c ∧ t.ringState k r = 1 ∧ c.at_ = s.ringHead k r ∧ c.served = 0 ∧ c.lost = 0 ∧
      c.descs.length = ds.length ∧ c.descs.tail = ds.tail) ∧ Writes (fun i j => loadEntry i j ∨ (i = 0x5440 + k ∧ j = 0xC)) s t := by
  have hk := k.isLt
  dsimp only
  unfold State.chainTaken
  obtain ⟨hlen, htail⟩ := startedWords_shape s.rdg.next ds
  generalize hc : ({ at_ := s.ringHead k r, descs := startedWords s.rdg.next ds, served := 0, first := none, lost := 0 } : Chain) = c
  have hring := s.ring_updRing_self k r (fun q => { q with run := some c })
  have hw0 : Writes (fun i j => loadEntry i j ∨ (i = 0x5440 + k ∧ j = 0xC)) s (s.updRing k r (fun q => { q with run := some c })) := (Writes.refl _ s).updRing
  generalize s.updRing k r (fun q => { q with run := some c }) = a at *
  obtain ⟨hw1, hd1, hs1⟩ := a.setRing_spec k r (v := 1) (by decide)
  generalize a.setRing k r 1 = b at *
  obtain ⟨hw2, hd2⟩ := b.showLoads_spec
  generalize b.showLoads = t at *
  refine ⟨⟨c, ?_, ?_, by rw [← hc], by rw [← hc], by rw [← hc], by rw [← hc, hlen], by rw [← hc, htail]⟩,
    (hw0.trans (hw1.mono fun _ _ => .inr)).trans (hw2.mono fun _ _ => .inl)⟩
  · rw [State.ring_congr (s := a) (by rw [hd2, hd1]), hring]
  · rw [State.ringState_congr k (hw2.rd (by decide) (by unfold loadEntry; omega)), hs1]

/-- The entries that a refusal writes (R255). -/
def refusalEntry (k r i j : Nat) : Prop := (i = 0x5440 + k ∧ (j = 8 + r ∨ j = 0x14 + r ∨ j = 0x18)) ∨ i = 0x2800 + (312 + k)

theorem State.chainPassed_spec (code : Nat) (ds : List (List Nat)) : let t := s.chainPassed k r code ds
    Writes (fun i j => i = 0x5440 + k ∧ j = 8 + r) s t ∧ t.dma.rings = s.dma.rings ∧
      t.rd (0x5440 + k) (8 + r) = (((s.ringHead k r + ds.length) % s.ringLen k r : Nat) : Int) % 2 ^ 16 := by
  dsimp only
  unfold State.chainPassed
  obtain ⟨hd, he, hr⟩ := s.writeBack_same k r (s.ringHead k r) code ds 0 0 0
  generalize s.writeBack k r (s.ringHead k r) code ds 0 0 0 = a at *
  obtain ⟨hw, hdma, hv⟩ := a.moveHead_spec k r ds.length
  have hw0 : Writes (fun i j => i = 0x5440 + k.val ∧ j = 8 + r.val) s a := (Writes.refl _ s).eq hd (congrArg _ he)
  refine ⟨hw0.trans hw, by rw [hdma, hr], ?_⟩
  rw [hv, State.ringHead_congr hd, State.ringLen_congr hd]

theorem State.refusalTold_spec (code head : Nat) : let t := s.refusalTold k r code head
    Writes (refusalEntry k r) s t ∧ t.dma = s.dma ∧ t.rd (0x5440 + k) (0x14 + r) = (s.rd (0x5440 + k) (0x14 + r) + 1) % 2 ^ 32 ∧
      t.rd (0x5440 + k) 0x18 = ((code * 2 ^ 24 + r * 2 ^ 16 + head : Nat) : Int) % 2 ^ 32 ∧
      t.rd (0x5440 + k) (8 + r) = s.rd (0x5440 + k) (8 + r) ∧ t.Presents (312 + k) := by
  have hk := k.isLt
  have hr := r.isLt
  dsimp only
  unfold State.refusalTold
  have hv : (code * 2 ^ 24 + r * 2 ^ 16 + head : Int) = ((code * 2 ^ 24 + r * 2 ^ 16 + head : Nat) : Int) := by push_cast; rfl
  rw [hv]
  generalize ((code * 2 ^ 24 + r * 2 ^ 16 + head : Nat) : Int) = v
  have hw1 : Writes (refusalEntry k r) s (s.bump (0x5440 + k) (0x14 + r)) := (Writes.refl _ s).bump (by omega) (.inl ⟨rfl, .inr (.inl rfl)⟩)
  have h14 : (s.bump (0x5440 + k) (0x14 + r)).rd (0x5440 + k) (0x14 + r) = (s.rd (0x5440 + k) (0x14 + r) + 1) % 2 ^ 32 := by
    rw [State.rd_bump_at _ _ (by omega) (by omega), if_pos ⟨rfl, rfl⟩, ((ringTypes k).2.2 r).2.2, Ty.wrap_u32]
    rfl
  have h8 : (s.bump (0x5440 + k) (0x14 + r)).rd (0x5440 + k) (8 + r) = s.rd (0x5440 + k) (8 + r) := by
    rw [State.rd_bump_at _ _ (by omega) (by omega), if_neg (by omega)]
  have hd1 := State.bump_dma s (0x5440 + k) (0x14 + r) 1
  generalize s.bump (0x5440 + k) (0x14 + r) = a at *
  have hw2 : Writes (refusalEntry k r) s (a.wr (0x5440 + k) 0x18 v) := hw1.wr (by decide) (.inl ⟨rfl, .inr (.inr rfl)⟩)
  have hoff (j : Nat) (hj : j < 256) (h : j ≠ 0x18) : (a.wr (0x5440 + k) 0x18 v).rd (0x5440 + k) j = a.rd (0x5440 + k) j :=
    (State.rd_wr_at _ _ (by decide) hj).trans (if_neg (fun h' => h h'.2.symm))
  have h18 : (a.wr (0x5440 + k) 0x18 v).rd (0x5440 + k) 0x18 = v % 2 ^ 32 := by rw [State.rd_wr_self _ _ (by decide), (ringTypes k).2.1, Ty.wrap_u32]
  have hd2 := (State.wr_dma a (0x5440 + k) 0x18 v).trans hd1
  generalize a.wr (0x5440 + k) 0x18 v = b at *
  have hw3 : Writes (fun i _ => i = 0x2800 + (312 + k.val)) b (b.raise1 (312 + k) 0) := (Writes.refl _ b).raise1 (fun _ => rfl)
  refine ⟨hw2.trans (hw3.mono fun _ _ => .inr), (State.raise1_dma _ _ _).trans hd2, ?_, ?_, ?_, b.presents_raise1 _ _⟩
  · rw [hw3.rd (by omega) (by omega), hoff _ (by omega) (by omega), h14]
  · rw [hw3.rd (by decide) (by omega), h18]
  · rw [hw3.rd (by omega) (by omega), hoff _ (by omega) (by omega), h8]

/-- R255: a refused chain. -/
theorem State.chainRefused_spec (code : Nat) (ds : List (List Nat)) : let t := (s.chainPassed k r code ds).refusalTold k r code (s.ringHead k r)
    Writes (refusalEntry k r) s t ∧ t.rd (0x5440 + k) (0x14 + r) = (s.rd (0x5440 + k) (0x14 + r) + 1) % 2 ^ 32 ∧
      t.rd (0x5440 + k) 0x18 = ((code * 2 ^ 24 + r * 2 ^ 16 + s.ringHead k r : Nat) : Int) % 2 ^ 32 ∧
      t.rd (0x5440 + k) (8 + r) = (((s.ringHead k r + ds.length) % s.ringLen k r : Nat) : Int) % 2 ^ 16 ∧
      (t.ring k r).run = (s.ring k r).run ∧ t.Presents (312 + k) := by
  have hr := r.isLt
  dsimp only
  obtain ⟨hw1, hr1, h8⟩ := s.chainPassed_spec k r code ds
  generalize s.chainPassed k r code ds = a at *
  obtain ⟨hw2, hd2, h14, h18, h8', hp⟩ := a.refusalTold_spec k r code (s.ringHead k r)
  generalize a.refusalTold k r code (s.ringHead k r) = t at *
  refine ⟨(hw1.mono fun _ _ h => .inl ⟨h.1, .inl h.2⟩).trans hw2, ?_, h18, h8'.trans h8, ?_, hp⟩
  · rw [h14, hw1.rd (by omega) (by omega)]
  · rw [State.ring_congr (s := s) (by rw [hd2, hr1])]

/-- The entries that a ring's fetches write (R255, R260). -/
def fetchEntry (k r i j : Nat) : Prop := refusalEntry k r i j ∨ loadEntry i j ∨ (i = 0x5440 + k ∧ j = 0xC)

theorem fetch_writes : ∀ (n : Nat) (s : State), Writes (fetchEntry k r) s (State.fetch k r n s) := by
  intro n
  induction n with
  | zero => exact fun s => .refl _ s
  | succ n ih =>
    intro s
    have hw0 : Writes (fetchEntry k r) s (s.kicked k r) := (Writes.refl _ s).updRing
    rw [State.fetch_succ]
    generalize s.kicked k r = a at *
    generalize a.headChain k r = ds
    unfold State.fetchChain
    split
    · exact hw0.trans ((a.setRing_spec k r (by decide : 2 < 4)).1.mono fun _ _ h => .inr (.inr h))
    · split
      · exact (hw0.trans ((a.chainRefused_spec k r _ ds).1.mono fun _ _ => .inl)).trans (ih _)
      · exact hw0.trans ((a.chainTaken_spec k r ds).2.mono fun _ _ => .inr)

section
variable {ds : List (List Nat)} (hds : s.headChain k r = ds) (n : Nat)
include hds

theorem State.fetch_parks (h : ds = []) : (State.fetch k r (n + 1) s).ringState k r = 2 ∧ ((State.fetch k r (n + 1) s).ring k r).run = (s.ring k r).run := by
  rw [State.fetch_succ, s.kicked_headChain, hds, h]
  obtain ⟨-, hd, hs⟩ := (s.kicked k r).setRing_spec k r (by decide : 2 < 4)
  refine ⟨hs, ?_⟩
  exact (congrArg Ring.run (State.ring_congr (congrArg DmaSt.rings hd) _ _)).trans (s.kicked_run k r k r)

theorem State.fetch_takes (h : ds ≠ []) (hc : s.chainCheck k ds = 0) : ∃ c : Chain, ((State.fetch k r (n + 1) s).ring k r).run = some c ∧
    (State.fetch k r (n + 1) s).ringState k r = 1 ∧ c.at_ = s.ringHead k r ∧ c.served = 0 ∧ c.lost = 0 ∧ c.descs.length = ds.length ∧ c.descs.tail = ds.tail := by
  have hf : State.fetch k r (n + 1) s = (s.kicked k r).chainTaken k r ds := by
    rw [State.fetch_succ, s.kicked_headChain, hds]
    exact (if_neg (by simpa using h)).trans (if_neg (not_not_intro ((s.kicked_chainCheck k r ds).trans hc)))
  rw [hf]
  exact ((s.kicked k r).chainTaken_spec k r ds).1

theorem State.fetch_refuses (h : ds ≠ []) (hc : s.chainCheck k ds ≠ 0) : ∃ t : State, State.fetch k r (n + 1) s = State.fetch k r n t ∧
    t.rd (0x5440 + k) (0x14 + r) = (s.rd (0x5440 + k) (0x14 + r) + 1) % 2 ^ 32 ∧
      t.rd (0x5440 + k) 0x18 = ((s.chainCheck k ds * 2 ^ 24 + r * 2 ^ 16 + s.ringHead k r : Nat) : Int) % 2 ^ 32 ∧
      t.rd (0x5440 + k) (8 + r) = (((s.ringHead k r + ds.length) % s.ringLen k r : Nat) : Int) % 2 ^ 16 ∧
      (t.ring k r).run = (s.ring k r).run ∧ t.Presents (312 + k) := by
  have hcheck := s.kicked_chainCheck k r ds
  obtain ⟨-, h14, h18, h8, hrun, hp⟩ := (s.kicked k r).chainRefused_spec k r (s.chainCheck k ds) ds
  have hf : State.fetch k r (n + 1) s = State.fetch k r n (((s.kicked k r).chainPassed k r (s.chainCheck k ds) ds).refusalTold k r (s.chainCheck k ds)
      ((s.kicked k r).ringHead k r)) := by
    rw [State.fetch_succ, s.kicked_headChain, hds]
    refine (if_neg (by simpa using h)).trans ((if_pos (by rw [hcheck]; exact hc)).trans ?_)
    rw [hcheck]
  exact ⟨_, hf, h14, h18, h8, hrun.trans (s.kicked_run k r k r), hp⟩

end

end

end Sys2Proof.Machine
end
section
/-! ## Commands on rings, compatibility transfers, ring memory (O34) -/
set_option Elab.async false
namespace Sys2Proof.Machine

theorem ringRows : ∀ (k : Fin 8) (r : Fin 3), rowOpen (0x5440 + k) (2 + r) = true ∧ verdict (0x5440 + k) (2 + r) 1 = .keep 1 ∧
    rowOpen (0x5440 + k) (0xD + r) = true ∧ verdict (0x5440 + k) (0xD + r) 1 = .keep 1 ∧
    rowOpen (0x5440 + k) (0x1A + r) = true ∧ verdict (0x5440 + k) (0x1A + r) 1 = .keep 1 := by decide +kernel

theorem compatRow : rowOpen 0x5460 6 = true ∧ verdict 0x5460 6 1 = .keep 1 ∧ verdict 0x5460 6 4 = .keep 4 := by decide +kernel

theorem compatTypes : tyAt 0x5460 7 = .u8 ∧ tyAt 0x5460 8 = .u32 ∧ tyAt 0x5460 9 = .u32 := by decide +kernel

section
variable (s : State) (k : Fin 8) (r : Fin 4)

/-! ### The end of a chain (R257, R259) -/

/-- R257: the chain `c` has ended, and its head has moved past it. -/
def State.chainEnded (s : State) (k r status : Nat) (c : Chain) : State :=
  (((s.writeBack k r c.at_ status c.descs c.served (c.first.getD 0) c.lost).moveHead k r c.descs.length).updRing k r (fun q => { q with run := none })).showLoads

theorem State.endChain_run {c : Chain} (h : (s.ring k r).run = some c) (status : Nat) : s.endChain k r status true = s.chainEnded k r status c := by
  unfold State.endChain
  rw [h]
  rfl

/-- The entries that the end of a chain writes. -/
def chainEndEntry (k r i j : Nat) : Prop := loadEntry i j ∨ (i = 0x5440 + k ∧ j = 8 + r)

theorem State.chainEnded_spec (status : Nat) (c : Chain) : let t := s.chainEnded k r status c
    Writes (chainEndEntry k r) s t ∧ (t.ring k r).run = none := by
  dsimp only
  unfold State.chainEnded
  obtain ⟨hd, he, -⟩ := s.writeBack_same k r c.at_ status c.descs c.served (c.first.getD 0) c.lost
  generalize s.writeBack k r c.at_ status c.descs c.served (c.first.getD 0) c.lost = a at *
  have hw0 : Writes (chainEndEntry k r) s a := (Writes.refl _ s).eq hd (congrArg _ he)
  obtain ⟨hw1, -⟩ := a.moveHead_spec k r c.descs.length
  generalize a.moveHead k r c.descs.length = b at *
  have hring := b.ring_updRing_self k r (fun q => { q with run := none })
  have hw2 : Writes (chainEndEntry k r) b (b.updRing k r (fun q => { q with run := none })) := (Writes.refl _ b).updRing
  generalize b.updRing k r (fun q => { q with run := none }) = d at *
  obtain ⟨hw3, hdma⟩ := d.showLoads_spec
  refine ⟨((hw0.trans (hw1.mono fun _ _ => .inr)).trans hw2).trans (hw3.mono fun _ _ => .inl), ?_⟩
  rw [State.ring_congr (s := d) (by rw [hdma]), hring]

/-! ### A chain that completes (R257) -/

/-- R257: the completed chain is counted and, where it asks for it, told. -/
def State.chainCounted (s : State) (k r : Nat) (irq : Bool) : State := (s.bump (0x5440 + k) (0x10 + r)).raiseIf irq (304 + k) 0

theorem State.completeChain_run {c : Chain} (h : (s.ring k r).run = some c) :
    s.completeChain k r = ((s.chainEnded k r 1 c).chainCounted k r (c.list.any (·.irq))).fetchRing k r := by
  rw [← s.endChain_run k r h 1]
  unfold State.completeChain
  rw [h]
  rfl

theorem State.chainCounted_spec (irq : Bool) : let t := s.chainCounted k r irq
    t.rd (0x5440 + k) (0x10 + r) = (s.rd (0x5440 + k) (0x10 + r) + 1) % 2 ^ 32 ∧ (irq = true → t.Presents (304 + k)) := by
  have hk := k.isLt
  have hr := r.isLt
  dsimp only
  unfold State.chainCounted
  have h10 : (s.bump (0x5440 + k) (0x10 + r)).rd (0x5440 + k) (0x10 + r) = (s.rd (0x5440 + k) (0x10 + r) + 1) % 2 ^ 32 := by
    rw [State.rd_bump_at _ _ (by omega) (by omega), if_pos ⟨rfl, rfl⟩, ((ringTypes k).2.2 r).2.1, Ty.wrap_u32]
    rfl
  generalize s.bump (0x5440 + k) (0x10 + r) = a at *
  have hw : Writes (fun i _ => i = 0x2800 + (304 + k.val)) a (a.raiseIf irq (304 + k) 0) := (Writes.refl _ a).raiseIf (fun _ => rfl)
  refine ⟨(hw.rd (by omega) (by omega)).trans h10, fun h => ?_⟩
  rw [h]
  exact a.presents_raise1 _ _

theorem State.fetchRing_writes : Writes (fetchEntry k r) s (s.fetchRing k r) := by
  unfold State.fetchRing
  split
  · exact fetch_writes k r _ s
  · exact .refl _ s

theorem State.completeChain_spec {c : Chain} (h : (s.ring k r).run = some c) : let t := s.completeChain k r
    t.rd (0x5440 + k) (0x10 + r) = (s.rd (0x5440 + k) (0x10 + r) + 1) % 2 ^ 32 ∧ (c.list.any (·.irq) = true → t.Presents (304 + k)) := by
  have hk := k.isLt
  have hr := r.isLt
  dsimp only
  rw [s.completeChain_run k r h]
  obtain ⟨hw1, -⟩ := s.chainEnded_spec k r 1 c
  generalize s.chainEnded k r 1 c = a at *
  obtain ⟨h10, hp⟩ := a.chainCounted_spec k r (c.list.any (·.irq))
  generalize a.chainCounted k r (c.list.any (·.irq)) = b at *
  have hw2 := b.fetchRing_writes k r
  refine ⟨?_, fun hi => hw2.presents (hp hi)⟩
  rw [hw2.rd (by omega) (by unfold fetchEntry refusalEntry loadEntry; omega), h10, hw1.rd (by omega) (by unfold chainEndEntry loadEntry; omega)]

/-! ### A chain that is stopped (R259) -/

/-- R259: the ring parks, and the stop is told. -/
def State.ringParked (s : State) (k r : Nat) : State := ((s.updRing k r (fun q => { q with kick := false })).setRing k r 2).raise1 (320 + k) 0

theorem State.ringParked_spec : let t := s.ringParked k r
    (t.ring k r).run = (s.ring k r).run ∧ t.ringState k r = 2 ∧ (t.ring k r).kick = false ∧ t.Presents (320 + k) := by
  have hk := k.isLt
  dsimp only
  unfold State.ringParked
  have hring := s.ring_updRing_self k r (fun q => { q with kick := false })
  generalize s.updRing k r (fun q => { q with kick := false }) = a at *
  obtain ⟨-, hd1, hs1⟩ := a.setRing_spec k r (by decide : 2 < 4)
  generalize a.setRing k r 2 = b at *
  have hw : Writes (fun i _ => i = 0x2800 + (320 + k.val)) b (b.raise1 (320 + k) 0) := (Writes.refl _ b).raise1 (fun _ => rfl)
  have hd2 := State.raise1_dma b (320 + k) 0
  have hp := b.presents_raise1 (320 + k) 0
  generalize b.raise1 (320 + k) 0 = t at *
  have hr : t.ring k r = a.ring k r := State.ring_congr (by rw [hd2, hd1]) _ _
  exact ⟨by rw [hr, hring], (State.ringState_congr k (hw.rd (by decide) (by omega)) r).trans hs1, by rw [hr, hring], hp⟩

theorem opStopRing_idle (h : (s.ring k r).run = none) : opStopRing k r 1 s = (s, 0) := by
  unfold opStopRing
  rw [h]

theorem opStopRing_full {c : Chain} (h : (s.ring k r).run = some c) (hf : c.full = true) : opStopRing k r 1 s = (s.completeChain k r, 0) := by
  unfold opStopRing
  rw [h]
  exact if_pos hf

theorem opStopRing_stops {c : Chain} (h : (s.ring k r).run = some c) (hf : c.full = false) :
    opStopRing k r 1 s = ((s.chainEnded k r 2 c).ringParked k r, 0) := by
  rw [← s.endChain_run k r h 2]
  unfold opStopRing
  rw [h]
  exact (if_neg (by simp [hf])).trans rfl

theorem State.chainStopped_spec (c : Chain) : let t := (s.chainEnded k r 2 c).ringParked k r
    (t.ring k r).run = none ∧ t.ringState k r = 2 ∧ (t.ring k r).kick = false ∧ t.Presents (320 + k) := by
  dsimp only
  obtain ⟨-, hrun⟩ := s.chainEnded_spec k r 2 c
  obtain ⟨h1, h2⟩ := (s.chainEnded k r 2 c).ringParked_spec k r
  exact ⟨h1.trans hrun, h2⟩

theorem opDoorbell_compat (h : s.compatEngine k = true) : opDoorbell k r 1 s = (s, 7) := if_pos h

theorem opDoorbell_parked (h : s.compatEngine k = false) (hp : s.ringState k r = 2) :
    opDoorbell k r 1 s = ((s.updRing k r (fun q => { q with kick := true })).fetchRing k r, 0) :=
  (if_neg (by simp [h])).trans (congrArg (fun x => (x, 0)) (if_pos hp))

theorem opDoorbell_running (h : s.compatEngine k = false) (hp : s.ringState k r ≠ 2) :
    opDoorbell k r 1 s = (s.updRing k r (fun q => { q with kick := true }), 0) :=
  (if_neg (by simp [h])).trans (congrArg (fun x => (x, 0)) (if_neg hp))

end

/-! ### Compatibility transfers (R263, R264) -/

section
variable (s : State)

/-- R263: the transfer's parameters are out of range. -/
def State.compatBad (s : State) : Prop := s.compatWidth < s.rdN 0x5460 1 + s.rdN 0x5460 2 ∨ s.rdN 0x5460 4 = 0 ∨ 15 < s.rdN 0x5460 4

/-- R263: the rate that the transfer needs. -/
def State.compatNeed (s : State) : Nat := s.lMax * s.rdN 0x5460 2 * max 1 (rP (s.recipe s.activeRecipe)) * (if s.rd 0x5460 5 = 1 then 16 else 8)

/-- R263: a transfer that its links have no budget for. -/
def State.compatShort (s : State) : State :=
  (s.report ⟨4, nearest s.compatNeed 1000000, s.budget (s.rdN 0x5460 4), groupNumber (s.rdN 0x5460 4)⟩).raise1 329 0

/-- R263: a transfer waits for its first line, with no line dropped. -/
def State.compatWaits (s : State) : State := (s.wr 0x5460 7 1).wr 0x5460 0xA 0

theorem State.compatWaits_spec : Writes (fun i j => i = 0x5460 ∧ (j = 7 ∨ j = 0xA)) s s.compatWaits ∧ s.compatWaits.rd 0x5460 7 = 1 := by
  unfold State.compatWaits
  have hw : Writes (fun i j => i = 0x5460 ∧ (j = 7 ∨ j = 0xA)) s (s.wr 0x5460 7 1) := (Writes.refl _ s).wr (by decide) ⟨rfl, .inl rfl⟩
  have h7 : (s.wr 0x5460 7 1).rd 0x5460 7 = 1 := by
    rw [State.rd_wr_self _ _ (by decide), compatTypes.1]
    rfl
  generalize s.wr 0x5460 7 1 = a at *
  exact ⟨hw.wr (by decide) ⟨rfl, .inr rfl⟩, (State.rd_wr_at _ _ (by decide) (by decide)).trans ((if_neg (by decide)).trans h7)⟩

theorem State.beginCompat_eq (b : Bool) :
    s.beginCompat b = { s.compatWaits with dma := { s.compatWaits.dma with compat := some (s.compatWaits.newCompat b) } } := rfl

/-- R263: the transfer starts with the parameters that stand in its entries. -/
def State.compatStarted (s : State) : State :=
  { (s.wr 0x5460 6 0).compatWaits with
    dma := { (s.wr 0x5460 6 0).compatWaits.dma with compat := some ⟨s.rdN 0x5460 3, s.rdN 0x5460 1, s.rdN 0x5460 2, s.rdN 0x5460 4,
      decide (s.rd 0x5460 5 = 1), 0xFFFFFFFF, false, false⟩ } }

theorem State.beginCompat_started : (s.wr 0x5460 6 0).beginCompat false = s.compatStarted := by
  rw [State.beginCompat_eq]
  unfold State.compatStarted State.newCompat
  have hrd (j : Nat) (hj : j < 256) (h : j < 6) : (s.wr 0x5460 6 0).compatWaits.rd 0x5460 j = s.rd 0x5460 j :=
    ((s.wr 0x5460 6 0).compatWaits_spec.1.rd hj (by omega)).trans ((State.rd_wr_at _ _ (by decide) hj).trans (if_neg (by omega)))
  generalize (s.wr 0x5460 6 0).compatWaits = t at *
  unfold State.rdN
  rw [hrd 1 (by decide) (by decide), hrd 2 (by decide) (by decide), hrd 3 (by decide) (by decide), hrd 4 (by decide) (by decide), hrd 5 (by decide) (by decide)]

/-- R263: what a start of a transfer does. -/
def State.compatStart (s : State) : State × Nat :=
  if !s.compatMode then (s.raise1 329 0, 7)
  else if s.dma.compat.isSome then (s.raise1 329 0, 8)
  else if s.compatWidth < s.rdN 0x5460 1 + s.rdN 0x5460 2 ∨ s.rdN 0x5460 4 = 0 ∨ 15 < s.rdN 0x5460 4 then (s.raise1 329 0, 5)
  else if !s.paced && decide (s.budget (s.rdN 0x5460 4) * 1000000 < s.compatNeed) then (s.compatShort, 10)
  else ((s.wr 0x5460 6 0).beginCompat false, 0)

theorem opCompat_start : opCompat 1 s = s.compatStart := rfl

theorem State.compatStart_native (h : s.compatMode = false) : s.compatStart = (s.raise1 329 0, 7) := if_pos (by rw [h]; rfl)

section
variable (h : s.compatMode = true)
include h

theorem State.compatStart_busy (hc : s.dma.compat.isSome = true) : s.compatStart = (s.raise1 329 0, 8) :=
  (if_neg (by rw [h]; decide)).trans (if_pos hc)

variable (hc : s.dma.compat = none)
include hc

theorem State.compatStart_bad (hb : s.compatBad) : s.compatStart = (s.raise1 329 0, 5) :=
  (if_neg (by rw [h]; decide)).trans ((if_neg (by rw [hc]; decide)).trans (if_pos hb))

theorem State.compatStart_short (hb : ¬ s.compatBad) (hp : s.paced = false) (hn : s.budget (s.rdN 0x5460 4) * 1000000 < s.compatNeed) :
    s.compatStart = (s.compatShort, 10) := by
  refine (if_neg (by rw [h]; decide)).trans ((if_neg (by rw [hc]; decide)).trans ((if_neg hb).trans (if_pos ?_)))
  rw [hp, decide_eq_true hn]
  rfl

theorem State.compatStart_starts (hb : ¬ s.compatBad) (hp : s.paced = true ∨ s.compatNeed ≤ s.budget (s.rdN 0x5460 4) * 1000000) :
    s.compatStart = (s.compatStarted, 0) := by
  have hno : (!s.paced && decide (s.budget (s.rdN 0x5460 4) * 1000000 < s.compatNeed)) = false := by
    rcases hp with hp | hp
    · rw [hp]
      rfl
    · rw [decide_eq_false (Nat.not_lt.mpr hp), Bool.and_false]
  refine (if_neg (by rw [h]; decide)).trans ((if_neg (by rw [hc]; decide)).trans ((if_neg hb).trans ((if_neg (by rw [hno]; decide)).trans ?_)))
  rw [s.beginCompat_started]

end

/-- R263: the transfer stops at its end. -/
def State.compatStopping (s : State) (c : Compat) : State := { s.wr 0x5460 6 0 with dma := { s.dma with compat := some { c with repeating := false } } }

/-- R263: what a stop of a transfer does, in the state once the control register is cleared. -/
def State.compatStop (s : State) : State := match s.dma.compat with
  | some c => { s with dma := { s.dma with compat := some { c with repeating := false } } }
  | none => s

theorem opCompat_stop : opCompat 4 s = ((s.wr 0x5460 6 0).compatStop, 0) := by
  show opCompat 4 s = _
  unfold opCompat State.compatStop
  have h4 : bit (Int.toNat 4) 0 = false ∧ (bit (Int.toNat 4) 1 && !bit (Int.toNat 4) 2) = false := by decide
  dsimp only
  rw [h4.1, h4.2, if_pos (by decide)]
  have h0 : (2 * (b2n false : Nat) : Int) = 0 := rfl
  rw [h0]
  cases (s.wr 0x5460 6 0).dma.compat with
  | none => rfl
  | some c => rfl

theorem opCompat_idle (h : s.dma.compat = none) : opCompat 4 s = (s.wr 0x5460 6 0, 0) := by
  have hd : (s.wr 0x5460 6 0).dma.compat = none := by rw [State.wr_dma, h]
  rw [opCompat_stop, State.compatStop, hd]

theorem opCompat_stops {c : Compat} (h : s.dma.compat = some c) : opCompat 4 s = (s.compatStopping c, 0) := by
  have hd : (s.wr 0x5460 6 0).dma = s.dma := State.wr_dma _ _ _ _
  rw [opCompat_stop, State.compatStop, State.compatStopping, hd, h]

/-! ### The end of a transfer (R264) -/

/-- R264: the end of a transfer is shown: its CRC, its number and its status. -/
def State.compatShown (s : State) (crc : Nat) : State :=
  ((s.wr 0x5460 8 (((crc ^^^ 0xFFFFFFFF : Nat) : Int))).bump 0x5460 9).wr 0x5460 7 (if s.rd 0x5460 0xA = 0 then 3 else 4)

/-- R264: no transfer is under way, which is told. -/
def State.compatOver (s : State) : State := ({ s with dma := { s.dma with compat := none } } : State).raise1 328 0

theorem State.compatDone_ended {c : Compat} (h : s.dma.compat = some c) (he : c.ended = true) :
    s.compatDone = if c.repeating then ((s.compatShown c.crc).compatOver).beginCompat true else (s.compatShown c.crc).compatOver := by
  unfold State.compatDone
  rw [h]
  exact (if_neg (by simp [he])).trans rfl

theorem State.compatShown_spec (crc : Nat) : let t := s.compatShown crc
    t.rd 0x5460 8 = (((crc ^^^ 0xFFFFFFFF : Nat) : Int)) % 2 ^ 32 ∧ t.rd 0x5460 9 = (s.rd 0x5460 9 + 1) % 2 ^ 32 ∧
      t.rd 0x5460 7 = (if s.rd 0x5460 0xA = 0 then 3 else 4) := by
  dsimp only
  unfold State.compatShown
  generalize (((crc ^^^ 0xFFFFFFFF : Nat) : Int)) = v
  have hv : (if s.rd 0x5460 0xA = 0 then 3 else 4 : Int) % 2 ^ 8 = if s.rd 0x5460 0xA = 0 then 3 else 4 := by split <;> rfl
  generalize (if s.rd 0x5460 0xA = 0 then 3 else 4 : Int) = x at *
  have h8 : (s.wr 0x5460 8 v).rd 0x5460 8 = v % 2 ^ 32 := by rw [State.rd_wr_self _ _ (by decide), compatTypes.2.1, Ty.wrap_u32]
  have h9 : (s.wr 0x5460 8 v).rd 0x5460 9 = s.rd 0x5460 9 := (State.rd_wr_at _ _ (by decide) (by decide)).trans (if_neg (by decide))
  generalize s.wr 0x5460 8 v = a at *
  have h8' : (a.bump 0x5460 9).rd 0x5460 8 = v % 2 ^ 32 := (State.rd_bump_at _ _ (by decide) (by decide)).trans ((if_neg (by decide)).trans h8)
  have h9' : (a.bump 0x5460 9).rd 0x5460 9 = (s.rd 0x5460 9 + 1) % 2 ^ 32 := by
    rw [State.rd_bump_at _ _ (by decide) (by decide), if_pos ⟨rfl, rfl⟩, compatTypes.2.2, h9, Ty.wrap_u32]
    rfl
  generalize a.bump 0x5460 9 = b at *
  refine ⟨?_, ?_, ?_⟩
  · rw [State.rd_wr_at _ _ (by decide) (by decide), if_neg (by decide), h8']
  · rw [State.rd_wr_at _ _ (by decide) (by decide), if_neg (by decide), h9']
  · rw [State.rd_wr_self _ _ (by decide), compatTypes.1, Ty.wrap_u8, hv]

theorem State.compatOver_spec : Writes (fun i _ => i = 0x2800 + 328) s s.compatOver ∧ s.compatOver.dma.compat = none ∧ s.compatOver.Presents 328 := by
  unfold State.compatOver
  have hw : Writes (fun i _ => i = 0x2800 + 328) s { s with dma := { s.dma with compat := none } } := (Writes.refl _ s).eq rfl rfl
  have hc : ({ s with dma := { s.dma with compat := none } } : State).dma.compat = none := rfl
  generalize ({ s with dma := { s.dma with compat := none } } : State) = a at *
  exact ⟨hw.raise1 (fun _ => rfl), (congrArg DmaSt.compat (State.raise1_dma _ _ _)).trans hc, a.presents_raise1 _ _⟩

theorem State.beginCompat_spec (b : Bool) : let t := s.beginCompat b
    Writes (fun i j => i = 0x5460 ∧ (j = 7 ∨ j = 0xA)) s t ∧ t.rd 0x5460 7 = 1 ∧ t.dma.compat.isSome = true := by
  dsimp only
  rw [s.beginCompat_eq]
  obtain ⟨hw, h7⟩ := s.compatWaits_spec
  generalize s.compatWaits = a at *
  exact ⟨hw.eq rfl rfl, (State.rd_congr rfl _ _).trans h7, rfl⟩

theorem State.compatDone_spec {c : Compat} (h : s.dma.compat = some c) (he : c.ended = true) : let t := s.compatDone
    t.rd 0x5460 8 = (((c.crc ^^^ 0xFFFFFFFF : Nat) : Int)) % 2 ^ 32 ∧ t.rd 0x5460 9 = (s.rd 0x5460 9 + 1) % 2 ^ 32 ∧ t.Presents 328 ∧
      (c.repeating = false → t.dma.compat = none ∧ t.rd 0x5460 7 = if s.rd 0x5460 0xA = 0 then 3 else 4) ∧
      (c.repeating = true → t.dma.compat.isSome = true ∧ t.rd 0x5460 7 = 1) := by
  dsimp only
  rw [s.compatDone_ended h he]
  obtain ⟨h8, h9, h7⟩ := s.compatShown_spec c.crc
  generalize s.compatShown c.crc = a at *
  obtain ⟨hw1, hn, hp⟩ := a.compatOver_spec
  have hj (j : Nat) (hj : j < 256) : a.compatOver.rd 0x5460 j = a.rd 0x5460 j := hw1.rd hj (by decide)
  generalize a.compatOver = b at *
  obtain ⟨hw2, h71, hs⟩ := b.beginCompat_spec true
  cases hrep : c.repeating with
  | false => exact ⟨(hj 8 (by decide)).trans h8, (hj 9 (by decide)).trans h9, hp, fun _ => ⟨hn, (hj 7 (by decide)).trans h7⟩, fun h => absurd h (by decide)⟩
  | true =>
    refine ⟨?_, ?_, hw2.presents hp, fun h => absurd h (by decide), fun _ => ⟨hs, h71⟩⟩
    · exact (hw2.rd (by decide) (by omega)).trans ((hj 8 (by decide)).trans h8)
    · exact (hw2.rd (by decide) (by omega)).trans ((hj 9 (by decide)).trans h9)

end

/-! ### Words written to ring memory (R253, R261) -/

theorem addressed_ring {o : Nat} (h4 : o % 4 = 0) (ho : o < 0x100000) : addressed (0x30000000 + o) = .ring o := by
  unfold addressed
  rw [if_neg (by omega), if_neg (by omega), if_pos (by omega)]
  exact congrArg Target.ring (by omega)

theorem ite_ne {α : Type} {p : Prop} [Decidable p] {a b c : α} (ha : p → a ≠ c) (hb : ¬ p → b ≠ c) : (if p then a else b) ≠ c := by
  split
  · next h => exact ha h
  · next h => exact hb h

theorem addressed_notRing {addr : Nat} (h : addr % 4 ≠ 0 ∨ addr < 0x30000000 ∨ 0x30100000 ≤ addr) (o : Nat) : addressed addr ≠ .ring o :=
  ite_ne (fun _ => nofun) fun h4 => ite_ne (fun _ => nofun) fun _ => ite_ne (fun hr => absurd hr (by omega)) fun _ =>
    ite_ne (fun _ => nofun) fun _ => ite_ne (fun _ => nofun) fun _ => ite_ne (fun _ => nofun) fun _ => nofun

section
variable {s u : State} {dt addr : Nat} {n : Fin 16} {w : BitVec 32} (e : s.pass dt = u) (hm : u.masterPresent (n + 1) = true)
include e hm

theorem exec_ringMemoryWrite (hr : u.dev.ready = true) {o : Nat} (ha : addressed addr = .ring o) :
    exec (.ringMemoryWrite dt n addr w) s = .next ((opRing o w.toNat u).1.answer (n + 1) 0x5430 0 (opRing o w.toNat u).2) := by
  show execRingMemoryWrite dt n addr w s = _
  unfold execRingMemoryWrite
  dsimp only
  rw [e, ha]
  exact congrArg _ ((if_neg (by simp [hm])).trans ((if_neg (by simp [hr])).trans rfl))

theorem exec_ringMemoryWrite_outside (ha : ∀ o, addressed addr ≠ .ring o) : exec (.ringMemoryWrite dt n addr w) s = .next (u.answer (n + 1) 0 0 2) := by
  show execRingMemoryWrite dt n addr w s = _
  unfold execRingMemoryWrite
  dsimp only
  rw [e]
  split
  · next o h => exact absurd h (ha o)
  · exact congrArg _ (if_pos hm)

end

theorem opRing_zero (s : State) {o : Nat} (h : o % 0x20000 < 0x8000) (v : Int) : opRing o v s = (s, 3) := if_pos (decide_eq_true h)

theorem opRing_host (s : State) {o : Nat} (h : 0x8000 ≤ o % 0x20000) (w : Nat) : opRing o w s = (s.ringPut o w, 0) :=
  if_neg (by simp [inRing0, h])

end Sys2Proof.Machine
namespace Sys2Proof
open Machine

/-- Settles O34: each clause is what a fetch, an end of a chain, a transfer or a write is shown above to do. -/
theorem dmaEngines : Obligations.DmaEngines := by
  unfold Obligations.DmaEngines
  intro s dt k u
  have e : s.pass dt = u := rfl
  clear_value u
  refine ⟨fun r n => ?fetch, fun r at_ status served first lost w hr hat hst hs hf => u.writeBack_words k w hr hat hst hs hf, fun m r hm hr => ?rings,
    fun r c hc hf => ?complete, fun m hm hr => ?compat, fun c hc he => ⟨_, (event_at e rfl : execCompatTransferComplete dt s = _), u.compatDone_spec hc he⟩,
    fun n addr w hm hr => ⟨fun o ha h4 ho => ⟨fun hz => ?ringZero, fun hz => ?ringHost⟩, fun h => exec_ringMemoryWrite_outside e hm (addressed_notRing h)⟩⟩
  case fetch =>
    intro ds
    have hds : u.headChain k r = ds := rfl
    clear_value ds
    exact ⟨fun h => u.fetch_parks k r hds n h, fun h hc => u.fetch_takes k r hds n h hc, fun h hc => u.fetch_refuses k r hds n h hc⟩
  case rings =>
    obtain ⟨ho1, hv1, ho2, hv2, ho3, hv3⟩ := ringRows k r
    have hr4 : (r.val + 1 : Nat) < 4 := by omega
    refine ⟨fun h => ?_, fun h hp => ?_, fun h hp => ?_, fun h => ?_, fun c h hf => ?_, fun c h hf => ⟨_, ?_, u.chainStopped_spec k ⟨r + 1, hr4⟩ c⟩, fun h => ?_, fun h => ?_⟩
    · exact hostCommand_gives e hm hr ho1 hv1 (opDoorbell_compat u k ⟨r + 1, hr4⟩ h)
    · exact hostCommand_gives e hm hr ho1 hv1 (opDoorbell_parked u k ⟨r + 1, hr4⟩ h hp)
    · exact hostCommand_gives e hm hr ho1 hv1 (opDoorbell_running u k ⟨r + 1, hr4⟩ h hp)
    · exact hostCommand_gives e hm hr ho2 hv2 (opStopRing_idle u k ⟨r + 1, hr4⟩ h)
    · exact hostCommand_gives e hm hr ho2 hv2 (opStopRing_full u k ⟨r + 1, hr4⟩ h hf)
    · exact hostCommand_gives e hm hr ho2 hv2 (opStopRing_stops u k ⟨r + 1, hr4⟩ h hf)
    · exact hostCommand_gives e hm hr ho3 hv3 (if_pos h)
    · exact hostCommand_gives e hm hr ho3 hv3 (if_neg h)
  case complete =>
    have hdue : (match (u.ring k r).run with | some c => c.full | none => false) = true := by rw [hc]; exact hf
    exact ⟨_, (event_at e hdue : execChainComplete dt k r s = _), u.completeChain_spec k r hc⟩
  case compat =>
    obtain ⟨ho, h1, h4⟩ := compatRow
    intro bad need
    refine ⟨fun h => ?_, fun h hc => ?_, fun h hc hb => ?_, fun h hc hb hp hn => ?_, fun h hc hb hn => ?_, fun h => ?_, fun c h => ?_⟩
    · exact hostCommand_gives e hm hr ho h1 ((opCompat_start u).trans (u.compatStart_native h))
    · exact hostCommand_gives e hm hr ho h1 ((opCompat_start u).trans (u.compatStart_busy h hc))
    · exact hostCommand_gives e hm hr ho h1 ((opCompat_start u).trans (u.compatStart_bad h hc hb))
    · exact hostCommand_gives e hm hr ho h1 ((opCompat_start u).trans (u.compatStart_short h hc hb hp hn))
    · exact hostCommand_gives e hm hr ho h1 ((opCompat_start u).trans (u.compatStart_starts h hc hb hn))
    · exact hostCommand_gives e hm hr ho h4 (opCompat_idle u h)
    · exact hostCommand_gives e hm hr ho h4 (opCompat_stops u h)
  case ringZero => rw [exec_ringMemoryWrite e hm hr (ha ▸ addressed_ring h4 ho), opRing_zero u hz]
  case ringHost => rw [exec_ringMemoryWrite e hm hr (ha ▸ addressed_ring h4 ho), opRing_host u hz]

end Sys2Proof
end
